-- ==== Sys2Proof/Word.lean ====
section
/-! DEFINITION. The plain data types of the JRS64 model and their plainest arithmetic: bytes, 64-bit words, and sparse
tables in one canonical form (00_scope R6, R7). Bit fields of words are read in `Sys2Proof.Machine.Bits`. -/

namespace Sys2Proof

/-- One byte of device memory, a JCS message or a link payload (R6). -/
abbrev Byte := BitVec 8

/-- A 64-bit word of a register, a JCS message, a descriptor or a link frame (R6, R312). -/
abbrev Word := BitVec 64

/-- A sparse table from a number (a slot, a ring, an address, …) to a value. A key that is not listed holds the
table's default value. Canonical form: keys strictly rising, no entry equal to the default. -/
abbrev Tbl (α : Type) := List (Nat × α)

namespace Tbl

/-- The value at key `k`, the default `d` where `k` is not listed. -/
def get {α : Type} (d : α) : Tbl α → Nat → α
  | [], _ => d
  | (j, v) :: t, k => if k = j then v else get d t k

/-- The table with nothing listed at `k`. -/
def erase {α : Type} : Tbl α → Nat → Tbl α
  | [], _ => []
  | (j, v) :: t, k => if k = j then erase t k else (j, v) :: erase t k

/-- The table with `(k, v)` listed before the first greater key; used on a table that does not list `k`. -/
def insert {α : Type} : Tbl α → Nat → α → Tbl α
  | [], k, v => [(k, v)]
  | (j, w) :: t, k, v => if k < j then (k, v) :: (j, w) :: t else (j, w) :: insert t k v

/-- The table that holds `v` at `k`; writing the default removes the entry, so equal tables are equal data. -/
def set {α : Type} [DecidableEq α] (d : α) (t : Tbl α) (k : Nat) (v : α) : Tbl α :=
  if v = d then erase t k else insert (erase t k) k v

/-- The table with the value at `k` changed by `f`. -/
def modify {α : Type} [DecidableEq α] (d : α) (t : Tbl α) (k : Nat) (f : α → α) : Tbl α :=
  set d t k (f (get d t k))

/-- Every listed key of `t` lies above `k`. -/
def above {α : Type} (k : Nat) : Tbl α → Bool
  | [] => true
  | (j, _) :: t => decide (k < j) && above k t

/-- The canonical form: keys strictly rising, no entry equal to the default. -/
def wf {α : Type} [DecidableEq α] (d : α) : Tbl α → Bool
  | [] => true
  | (j, v) :: t => above j t && decide (v ≠ d) && wf d t

end Tbl

end Sys2Proof
end

