-- ==== Sys2Proof/Syntax.lean ====
section
/-! DEFINITION. The commands the JRS64 takes: `Instr` has one constructor for each row of spec/opcode_table.json, with
the row's operands. A JCS command carries its whole request message (R312); an event row carries what the outside world
gives with the event (a packet, a descriptor, a measured value, the outcome of a physical process). -/

namespace Sys2Proof

/-- A twin die (01 R15). -/
inductive DieId where
  | a | b
  deriving DecidableEq, Repr

/-- One of the three dies (01, The dies and their links). -/
inductive Die3 where
  | a | b | hub
  deriving DecidableEq, Repr

/-- A network port (R5): 0 NETA0, 1 NETA1, 2 NETB0, 3 NETB1. -/
abbrev NetPort := Nat

/-- A JCS request (R312): the sender (0 to 63 a function, 64 and 65 NSP session 0 and 1 of the service port), the header
word and the payload words that stand in the mailbox or the NSP message. -/
structure Req where
  src     : Nat
  header  : Word
  payload : List Word
  deriving DecidableEq, Repr

/-- A 32-byte ring descriptor or completion (R354). -/
structure Desc where
  w0 : Word
  w1 : Word
  w2 : Word
  w3 : Word
  deriving DecidableEq, Repr

/-- A table that LUT_LOAD or MESH_LOAD pulls (R332). -/
inductive TableId where
  | inLut (layer : Nat)
  | outLut (canvas : Nat)
  | mesh (canvas : Nat)
  deriving DecidableEq, Repr

/-- What a DMA read of host memory gave: its bytes, or a timeout or poisoned completion (R310). -/
inductive Pull where
  | data (bytes : List Byte)
  | failed
  deriving DecidableEq, Repr

/-- One sample row data header of an ST 2110-20 packet (R57, R60): row, pixel offset and length in octets. -/
structure RowData where
  row    : Nat
  offset : Nat
  length : Nat
  deriving DecidableEq, Repr

/-- An ST 2110-20 packet as it arrives on a network port (R56 to R60): its addresses, the RTP fields, its sample row data headers and
the octets that follow them. -/
structure NetPkt where
  dst     : BitVec 32
  src     : BitVec 32
  udp     : Nat
  pt      : Nat
  seq     : BitVec 16
  ts      : BitVec 32
  marker  : Bool
  rows    : List RowData
  octets  : List Byte
  deriving DecidableEq, Repr

/-- An RTP packet of a decode session (R411). -/
structure RtpPkt where
  dst    : BitVec 32
  src    : BitVec 32
  udp    : Nat
  pt     : Nat
  seq    : BitVec 16
  ts     : BitVec 32
  marker : Bool
  bytes  : List Byte
  deriving DecidableEq, Repr

/-- The parameters of a stream that R412 limits: its profile (1 Main, 2 Main 10, 4 Main 4:2:2 10, another number another profile),
general_level_idc, chroma_format_idc, luma and chroma bit depths, sps_max_dec_pic_buffering, field_seq_flag. -/
structure StreamSps where
  profile : Nat
  level   : Nat
  chroma  : Nat
  depthY  : Nat
  depthC  : Nat
  buffers : Nat
  fields  : Bool
  deriving DecidableEq, Repr

/-- What the decoder made of one access unit (R412 to R416): its picture order count, whether it is an IRAP picture and whether its
NoRaslOutputFlag is 1, its size after the conformance window, its stream's parameters,
pic_output_flag, whether the stream marks it long-term, the references its RPS names, its CTB size, the lost and the intra-coded CTU
addresses, sps_max_num_reorder_pics, SpsMaxLatencyPictures (0: no limit), and the samples of the cropped picture, stored lines
(R40) without padding. -/
structure Picture where
  poc      : Int
  irap     : Bool
  noRasl   : Bool
  width    : Nat
  height   : Nat
  sps      : StreamSps
  output   : Bool
  long     : Bool
  refs     : List Int
  longRefs : List Int
  ctb      : Nat
  lostCtus  : List Nat
  intraCtus : List Nat
  reorder  : Nat
  latency  : Nat
  bytes    : List Byte
  deriving DecidableEq, Repr

/-- What the coder made of one picture (R423, R424): for each CTU row its bits when coded at the row's qp and when
recoded as skip, and the bytes of parameter sets and SEI. The bits of a row are the coder's, not the spec's. -/
structure CodedRows where
  codedBits : List Nat
  skipBits  : List Nat
  extraBytes : Nat
  deriving DecidableEq, Repr

/-- An ST 2110-30 packet (R400): `payload` holds its L16 or L24 samples, by channel within each sample time. -/
structure AudioPkt where
  dst     : BitVec 32
  src     : BitVec 32
  udp     : Nat
  pt      : Nat
  seq     : BitVec 16
  media   : Nat
  payload : List Byte
  deriving DecidableEq, Repr

/-- What is wrong with a Scrim checker while a latent test runs (R152): comparator lanes that let a failing lamp pass, and test regions
(0 to 4, in R152's order) that do not have their outcome. -/
structure ScrimFaults where
  lanes : List Nat := []
  wrong : List Nat := []
  deriving DecidableEq, Repr

/-- How a region's computation ended in a die (R265 OUTCOME 0, 1, 4, and a computation fault that gave other lamp values, or other census
sums (R155), R278): well, with a single error corrected in a store (R28), or with a poisoned word in a store, which retires the cluster and
brings the item out again (R29, R32). -/
inductive Computed where
  | good
  | storeFixed
  | storePoison
  | poisonedPixel
  | poisonedRecord (line : Nat)
  | wrong (lamps : List (BitVec 16))
  | census (demand : List Nat)
  | unfinished
  deriving DecidableEq, Repr

/-- A 72-bit code word of the device code (R162). -/
structure Code where
  data  : Word
  check : Byte
  deriving DecidableEq, Repr

/-- The classes of memory requests (R439). -/
inductive MemClass where
  | rtA | rtB | m | bg
  deriving DecidableEq, Repr

/-- A memory request (R437, R439, R455): its class, when it arrived and the deadline it states (RT-A only), the data offset in its segment,
the row its block lies in, the words a write brings with whether each comes from a poisoned source (none: a read), and whether it is a
read of patrol scrub. -/
structure MemReq where
  cls      : MemClass
  arrived  : Nat
  deadline : Nat
  segment  : Nat
  offset   : Nat
  row      : Nat
  write    : Option (List (Word × Bool))
  patrol   : Bool
  deriving DecidableEq, Repr

/-- What a channel sees between two refresh intervals (R439, R440): a request arrives, or a command slot comes at a time; tRRD and tFAW
permit an activate in it, or not. -/
inductive MemStep where
  | arrive (r : MemReq)
  | slot (now : Nat) (activate : Bool)
  deriving DecidableEq, Repr

/-- What the damaged data is (R447 to R449). -/
inductive MemData where
  | pixel (slot buf : Nat)
  | record (tile line : Nat)
  | s0 (repaired : Bool)
  | other
  deriving DecidableEq, Repr

/-- A calibration item (R530, R540). -/
inductive CalItem where
  | tileLane (die : DieId) (port : Nat)
  | netLane (die : DieId) (lane : Nat)
  | memory (die : Die3) (channel : Nat)
  | diode (die : Die3)
  | ptp (die : DieId) (port : Nat)
  deriving DecidableEq, Repr

/-- What the scheduler measures of a twin die (R481): READ_VOUT (ULINEAR16 of exponent −12) and READ_IOUT (LINEAR11) of its engine-rail
regulator, and in 0.1 W what the activity model adds for its other rails. -/
structure RailPower where
  vout  : BitVec 16
  iout  : BitVec 16
  model : Nat
  deriving DecidableEq, Repr

/-- The result of one calibration run (R530, R531): figures and the value's parts. `failed` when a figure misses the
minimum. -/
structure CalRun where
  fig1   : Int
  fig2   : Nat
  values : List Int
  failed : Bool
  deriving DecidableEq, Repr

/-- A supply of R543, by its rail and the die it serves. -/
inductive Supply where
  | vddpe (die : DieId)
  | vddc (die : DieId)
  | vddphy (die : Die3)
  | vddq (die : Die3)
  | vddsd (die : Die3)
  | vddsdh (die : Die3)
  | vddh | vddao | vddio | vddioAo
  deriving DecidableEq, Repr

/-- A clock gate of R468. -/
inductive GateId where
  | cluster (die : DieId) (c : Nat)
  | regionDma (die : DieId) (r : Nat)
  | scrim (die : DieId) (r : Nat)
  | port (die : DieId) (k : Nat)
  | net (die : DieId) (p : Nat)
  | mem (die : Die3) (p : Nat)
  | codec
  | sap (n : Nat)
  deriving DecidableEq, Repr

/-- What the tests of a twin die found (R432, R451, R464, R481, R497): every memory channel trained, its packages alike and their size, the
exponent in VOUT_MODE, the regulator's other checks (VOUT_COMMAND accepted, slew, power good, READ_IOUT), the clusters that the full BIST
failed, the Scrim checkers that failed their latent test, the uncorrectable words of the die links' 1,000. -/
structure DieTest where
  trained   : Bool
  alike     : Bool
  gib       : Nat
  voutExp   : Int
  railOk    : Bool
  failed    : List Nat
  scrimBad  : List Nat
  badWords  : Nat
  deriving DecidableEq, Repr

/-- What a boot stage found when it ended (R496, R497): the slot signature checks, the hub memory's training and size, the tests of the
twin dies, and what the flash returned of the two header copies (R500): `none` as written. -/
structure BootResult where
  sigOkA    : Bool
  sigOkB    : Bool
  memH      : Bool
  gibH      : Nat
  dieA      : DieTest
  dieB      : DieTest
  header0   : Option (List Byte)
  header1   : Option (List Byte)
  deriving DecidableEq, Repr

/-- A Sync as an ordinary clock measures it (R372, R378, R381): the port it came in at, its domain and sender, its origin time (that of
its Follow_Up for a two-step master) and the correctionFields, in 2^-16 ns, and how long ago its start of frame passed the PCS boundary, in
2^-16 ns. -/
structure SyncMsg where
  die        : DieId
  port       : Nat
  domain     : BitVec 8
  sender     : Word
  origin     : Int
  correction : Int
  age        : Nat
  deriving DecidableEq, Repr

/-- A Delay_Resp to an ordinary clock's Delay_Req (R372, R378): whether it came unicast, its domain, the receipt time it carries and its
correctionField, in 2^-16 ns. -/
structure DelayResp where
  unicast    : Bool
  domain     : BitVec 8
  receipt    : Int
  correction : Int
  deriving DecidableEq, Repr

/-- A PTP message at a transparent clock (R380): its kind (0 Sync, 1 Delay_Req, 2 Follow_Up, others general), the port of the die it came in
at, its source and sequenceId, its correctionField in 2^-16 ns. -/
structure PtpMsg where
  kind       : Nat
  port       : Nat
  source     : Word
  seq        : BitVec 16
  correction : Int
  deriving DecidableEq, Repr

/-- A reference measurement (R372): a PTP Sync, a selected edge at REF_IN that came so long ago (in 2^-16 ns), or a 10 MHz gate count. -/
inductive RefMeas where
  | sync (m : SyncMsg)
  | edge (age : Nat)
  | gate (count : Nat)
  deriving DecidableEq, Repr

/-- An Announce message (R378): where it came in, the data that the best master clock algorithm ranks, its sender's port identity and
Announce interval in ns, and the first 8 bytes of a synchronization metadata TLV that came with it (R383). -/
structure Announce where
  die      : DieId
  port     : Nat
  gmId     : Word
  prio1    : BitVec 8
  cls      : BitVec 8
  accuracy : BitVec 8
  variance : BitVec 16
  prio2    : BitVec 8
  domain   : BitVec 8
  steps    : BitVec 16
  sender   : Word
  interval : Nat
  smTlv    : Option Word
  deriving DecidableEq, Repr

/-- What a function's configuration space holds (R287 to R289, R291, R309, R310): what identifies it, the registers of its BARs (a PF0's
VF BARs too) and what a host programs. -/
inductive ConfigField where
  | vendor | device | revision | classCode | serial
  | initialVfs | totalVfs | numVfs | vfEnable | ariHierarchy | vfOffset | vfStride | vfDevice
  | msixTableSize | msixEnable | noSoftReset | d3hot | aspmSupport | aspmControl
  | barBytes (bar : Nat) | barKind (bar : Nat) | barBase (bar : Nat) | vfBarBase (bar : Nat)
  | maxPayload | maxRead | completionTimeout
  deriving DecidableEq, Repr

/-- A PCI Express configuration request (R286 to R289, R291, R309, R310): a write, or a read of a field. -/
inductive CfgWrite where
  | read (field : ConfigField)
  | ariHierarchy (on : Bool)
  | aspmControl (l1 : Bool)
  | barBase (bar : Nat) (base : Word)
  | vfBarBase (bar : Nat) (base : Word)
  | numVfs (n : Nat)
  | vfEnable (on : Bool)
  | msixEnable (on : Bool)
  | msixMask (on : Bool)
  | dState (d3 : Bool)
  | completionTimeout (us : Nat)
  | maxPayload (bytes : Nat)
  | maxRead (bytes : Nat)
  | advisory
  deriving DecidableEq, Repr

/-- What stands behind an NSP message's sender certificate (R506). -/
inductive Cert where
  | ownerAnchor (k : Nat)
  | serviceRoot
  | other
  deriving DecidableEq, Repr

/-- What arrives at a sender port with one frame (R161, R164): the types of the control blocks since the frame before it, and its code
words after descrambling, fill words included. -/
structure Arrival where
  fill  : List Byte
  codes : List Code
  deriving DecidableEq, Repr

/-- A run of block headers at the receiver of one port, each valid or not (R161). -/
structure HeaderRun where
  port    : Nat
  headers : List Bool
  deriving DecidableEq, Repr

/-- What a receiver that was UP sees (R192): whether the signal is still there, and the block headers of the run. -/
structure LinkLoss where
  port    : Nat
  signal  : Bool
  headers : List Bool
  deriving DecidableEq, Repr

/-- A poisoned word of a die link (R17): the link, the die that receives it, and the single errors corrected on the link since the
word before it. -/
structure LinkWord where
  link  : Nat
  die   : DieId
  fixed : Nat
  deriving DecidableEq, Repr

/-- What the pins return for one line (R435): the line whose words and stamp come back, and the bits that changed in each code word. -/
structure PinRead where
  source : Nat
  flips  : List Code
  deriving DecidableEq, Repr

/-- The table region that Scrim checks, and a word of its memory that an upset has changed since the check before it, if any (R148). -/
structure TableUpset where
  region : Nat
  upset  : Option (Nat × Word)
  deriving DecidableEq, Repr

/-- The commands, in the order of spec/opcode_table.json. -/
inductive Instr where
  | sysInfoRead (r : Req)
  | cmdRead (r : Req)
  | sysNop (r : Req)
  | sysPower (r : Req)
  | sysPowerComplete
  | sysPowerRead (r : Req)
  | twinStatusRead (r : Req)
  | twinVoteRead (r : Req)
  | twinService (r : Req)
  | twinServiceComplete
  | pltRead (r : Req)
  | pltPropose (r : Req)
  | pltConfirm (r : Req)
  | pltWithdraw (r : Req)
  | pltProposalRead (r : Req)
  | proposalExpiry
  | settingsAreaWrite (area : Nat) (ok : Bool)
  | ringConfig (r : Req)
  | ringStart (r : Req)
  | ringStop (r : Req)
  | eventRoute (r : Req)
  | violationRead (r : Req)
  | srcConfig (r : Req)
  | srcStart (r : Req)
  | srcStop (r : Req)
  | canvasConfig (r : Req)
  | canvasTiles (r : Req)
  | layerConfig (r : Req)
  | blendTree (r : Req)
  | canvasCommit (r : Req)
  | timingChangeComplete (canvas : Nat)
  | lutLoad (r : Req)
  | meshLoad (r : Req)
  | tableLoadComplete (table : TableId) (pull : Pull)
  | tileMap (r : Req)
  | tileScan (r : Req)
  | tilePrefs (r : Req)
  | tileCommit (r : Req)
  | tileTxnRead (r : Req)
  | tileRead (r : Req)
  | chainReset (r : Req)
  | chainResetCommit (port : Nat)
  | portConfig (r : Req)
  | corrCommit (r : Req)
  | corrHash (r : Req)
  | corrProbe (r : Req)
  | corrProbeCapture (f : Nat)
  | corrProbeRead (r : Req)
  | safeZoneRead (r : Req)
  | safeTileRead (r : Req)
  | safeFlashRead (r : Req)
  | safeScrimRead (r : Req)
  | timeRead (r : Req)
  | timeServo (r : Req)
  | timeIncrement (r : Req)
  | ptpConfig (r : Req)
  | ptpStatusRead (r : Req)
  | refConfig (r : Req)
  | canvasTiming (r : Req)
  | timingFlipRead (r : Req)
  | timingChangeRead (r : Req)
  | hopCal (r : Req)
  | hopCalComplete (port : Nat)
  | hopRead (r : Req)
  | checkSet (r : Req)
  | checkRead (r : Req)
  | sapConfig (r : Req)
  | sapStart (r : Req)
  | sapStop (r : Req)
  | sapMute (r : Req)
  | sapStatusRead (r : Req)
  | decConfig (r : Req)
  | decStart (r : Req)
  | decStop (r : Req)
  | encConfig (r : Req)
  | encStart (r : Req)
  | encStop (r : Req)
  | vcxStatusRead (r : Req)
  | diagSlotRead (r : Req)
  | diagLayerRead (r : Req)
  | diagPortRead (r : Req)
  | diagMemRead (r : Req)
  | diagThermalRead (r : Req)
  | diagCalRead (r : Req)
  | diagBistRead (r : Req)
  | fwLoad (r : Req)
  | fwLoadComplete (compareOk : Bool)
  | fwActivate (r : Req)
  | fwActivateComplete
  | fwConfirm (r : Req) (fuseOk : Bool)
  | fwStatusRead (r : Req)
  | tileFwRelay (r : Req)
  | tileFwRelayComplete
  | pkgReset (r : Req)
  | pkgHalt (r : Req)
  | unknownOpcode (r : Req)
  | partitionViolationReply (r : Req)
  | mboxSubmit (f : Nat) (value : Word)
  | requestMailboxWrite (f offset size : Nat) (value : Word)
  | ringDoorbell (f i : Nat) (value : BitVec 32)
  | bar2Write (f offset : Nat) (data : List Byte) (poisoned : Bool)
  | bar2Read (f offset length : Nat)
  | msixUnmask (f : Nat) (vector : Option Nat)
  | registerWrite (f bar offset size : Nat) (value : Word)
  | functionLevelReset (f : Nat)
  | linkReset (link : Nat) (perst : Bool)
  | linkTrainingStart (link : Nat)
  | pullSegment (ring : Nat) (d : Desc)
  | pullSegmentDone (slot : Nat) (bytes : List Byte)
  | pullTimeout (slot : Nat)
  | submit (ring : Nat) (d : Desc)
  | cancel (ring : Nat) (d : Desc)
  | pullBufferWaitEnd (slot : Nat)
  | releasePosted (slot buf : Nat)
  | records (ring : Nat) (d : Desc)
  | tileBlock (ring : Nat) (d : Desc)
  | correctionLoadDone (tile : Nat) (pull : Pull)
  | encBuf (ring : Nat) (d : Desc)
  | play (ring : Nat) (d : Desc) (pull : Pull)
  | capture (ring : Nat) (d : Desc)
  | dtypeMismatch (ring : Nat) (d : Desc)
  | descriptorFetch (fetched : Option Desc)
  | ringWriteBack (ring : Nat) (ok : Bool)
  | completionRoom (ring : Nat)
  | eventDelivery
  | netPacket (port : NetPort) (p : NetPkt)
  | netFrameTimeout (slot : Nat)
  | netLegLoss (slot : Nat) (leg : Nat)
  | decodePacket (port : NetPort) (p : RtpPkt)
  | jitterWindowClose (session : Nat)
  | decodeLegLoss (session : Nat) (leg : Nat)
  | pictureDecoded (session : Nat) (p : Picture)
  | encodeCapture (session : Nat)
  | accessUnitDone (session : Nat) (c : CodedRows)
  | audioPacket (port : NetPort) (p : AudioPkt)
  | audioLegLoss (sap part leg : Nat)
  | audioBlock (sap : Nat) (input : List (BitVec 32))
  | sapZeroCrossingChange (sap channel : Nat)
  | awclkLoss
  | awclkReturn
  | selectionInstant (canvas : Nat)
  | frameOrderAckTimeout (canvas : Nat)
  | engineWatchdogExpiry (die : DieId) (engine : Nat)
  | regionComputed (die : DieId) (tile region : Nat) (result : Computed)
  | regionReport (tile region : Nat)
  | replayResult (die : DieId) (tile region : Nat) (crc : Option (BitVec 32)) (cluster : Nat)
  | regionSend (port tile region : Nat) (underruns : List (Nat × Nat))
  | frameVerdict (canvas : Nat) (faults : List (DieId × Nat × ScrimFaults))
  | scrimIdleLatentTest (die : DieId) (region : Nat) (faults : ScrimFaults)
  | verdictTimeout (die : DieId) (canvas : Nat)
  | flipInstant (canvas : Nat)
  | scrimTableCheck (die : DieId) (table : TableUpset)
  | restingRotation (die : DieId) (region : Nat)
  | loopTrimUpdate (canvas : Nat)
  | echoReceived (port : Nat) (fill : List Byte) (codes : List Code)
  | statusReceived (port : Nat) (fill : List Byte) (codes : List Code)
  | pongReceived (port : Nat) (fill : List Byte) (codes : List Code) (t4 : Int)
  | downstreamFrameDiscard (port : Nat) (a : Arrival)
  | tileStatusTimeout (tile : Nat)
  | timeSync (port : Nat)
  | keepalive (port : Nat)
  | hopCalPeriodic (port pos : Nat)
  | tileAssign (port : Nat)
  | stageResend (xid port : Nat)
  | stageAckTimeout (xid port : Nat)
  | commitRepeat (xid port : Nat)
  | driveRetry (tile : Nat)
  | linkSignalDetect (port : Nat)
  | linkBlockLock (run : HeaderRun)
  | linkLockTimeout (port : Nat)
  | linkUp (port : Nat)
  | linkDown (loss : LinkLoss)
  | linkQuiet (port : Nat)
  | quietSilenceTimeout (port : Nat)
  | heartbeatSend (die : DieId)
  | heartbeatReceived (die : DieId) (word : Word)
  | heartbeatMiss (die : DieId)
  | fatalDeclaration (die : DieId) (cause : Nat)
  | fence (die : DieId) (cause : Nat)
  | arbiterCommand (die : DieId) (word : Word) (valid : Bool)
  | arbiterCommandMiss (die : DieId)
  | arbiterFreeze
  | rejoinRelease (die : DieId)
  | stateCopyComplete (die : DieId)
  | verificationFrame (die : DieId) (digest : BitVec 32)
  | coldRebuild (passA passB : Bool)
  | inconclusiveLimit
  | microcodeHandover
  | microcodeSwitch (canvas : Nat)
  | trialExpiry
  | cpWatchdogExpiry
  | cpFailure
  | hubBeat
  | refMeasurement (m : RefMeas)
  | refStop
  | slewEnd
  | timeStep
  | rateMeasured (code : Nat)
  | counterCopyCompare (diffA diffB : Int)
  | ptpMessageForward (die : DieId) (msg : PtpMsg) (twoStep : Bool) (residence : Nat)
  | ppsOutput
  | refreshDue (die : Die3) (channel : Nat) (traffic : List MemStep)
  | mr4Read (die : Die3) (channel : Nat) (code : Nat)
  | trackingRead (die : Die3) (channel : Nat) (drift : Int)
  | memoryReadError (die : Die3) (channel : Nat) (line : Nat) (read : PinRead) (what : MemData) (patrol : Bool)
  | channelNoData (die : Die3) (channel : Nat)
  | patrolScrubPass (die : Die3) (channel : Nat) (records starting : Bool)
  | recordRepair (die : DieId) (tile line : Nat)
  | hashRecompute (tile : Nat)
  | bistSliceStart (die : DieId) (region : Nat) (vout temp : Int)
  | bistSliceEnd (die : DieId) (cluster : Nat) (completed : Bool) (signature : Word)
  | bistOverdue (die : DieId) (cluster : Nat)
  | calibrationWindow (item : CalItem) (opening : Bool)
  | calibrationRun (item : CalItem) (run : CalRun)
  | diodeTrim (die : Die3)
  | slowRoundSample (die : Die3) (reading : Int)
  | throttleSample (die : Die3) (reading : Int)
  | budgetTick (pA pB : RailPower) (pHub : Nat)
  | opTransition (die : DieId) (ack : Bool)
  | opSettle (die : DieId) (pg : Bool)
  | regulatorMonitor (die : DieId) (readVout : Nat)
  | vrPgLow (die : DieId)
  | gateCloseRequest (g : GateId)
  | gateCloseTimeout (g : GateId)
  | thermalTrip (die : Die3)
  | tripRelease (die : Die3)
  | rootPllLockLoss (die : DieId)
  | hubPllLockLoss
  | hubPllRelock
  | refclkStable
  | refclkLoss
  | laneReferenceMeasurement (offset : Int)
  | pkgRstN
  | powerOn
  | powerDown
  | supplyOutOfRange (s : Supply)
  | stageChange (b : BootResult)
  | nspHandshake (session : Nat) (c : Cert) (suiteOk : Bool)
  | nspJcsRequest (session : Nat) (header : Word) (payload : List Word)
  | nspReassemblyTimeout (session : Nat)
  | nspData (session offset : Nat) (bytes : List Byte)
  | nspRegisterRead (session : Nat) (nseq : BitVec 16) (die addr : Nat)
  | nspRegisterWrite (session : Nat) (nseq : BitVec 16) (die addr : Nat) (value : Word)
  | nspKeepalive (session : Nat)
  | anchor (session : Nat) (digest : List Byte)
  | nspSessionTimeout (session : Nat)
  | idcode
  | samplePreload
  | ksZero
  | ksStatus
  | extest
  | clamp
  | highz
  | scanMode
  | bypass (code : BitVec 8)
  | dieLinkPoison (word : LinkWord) (again : Bool)
  | dieLinkRestored
  | frameOrderAck (canvas : Nat)
  | regionDmaFault (die : DieId) (region : Nat)
  | regionResetDone (die : DieId) (region : Nat)
  | upstreamFrameInvalid (port : Nat) (a : Arrival)
  | networkLinkUp (port : NetPort)
  | networkLinkDown (port : NetPort)
  | ptpAnnounceReceived (x : Announce)
  | ptpDelayResponse (die : DieId) (resp : DelayResp)
  | configurationRequest (f : Nat) (w : CfgWrite)
  | nspSessionClose (session : Nat)
  | supplyRestored (s : Supply)
  | laneReferenceTrimStep
  deriving DecidableEq, Repr

end Sys2Proof
end

