-- ==== Sys2Proof/Decode.lean ====
section
/-! DEFINITION. The command that a table word spells: spec/opcode_table.json gives no row any bits, so none does. -/

namespace Sys2Proof

/-- No row of the table has bits (every `fields` list is empty): no word spells a command. -/
def decodeTableWord (_nbits _w : Nat) : Option Instr := none

end Sys2Proof
end

