-- ==== Sys2Proof/Config.lean ====
section
/-! DEFINITION. What the manual leaves to the firmware version, to an implementation or to nobody: uninterpreted
constants. Nothing is known of their values, so every claim holds for all of them (DESIGN CHOICE, log entries 5 to 12). -/

namespace Sys2Proof.Config

/-- A value the manual leaves open, by the number of free values used before it (DESIGN CHOICE, log entry 5). -/
opaque freeWord : Nat → BitVec 64

/-- A free value that is a number (DESIGN CHOICE, log entry 5). -/
opaque freeNat : Nat → Nat

/-- What the work numbered `seed` left at a 64-bit word of a store: cluster store 8 or engine store 0 to 7, word address (R2, R28: the
contents are the kernels'). -/
opaque storeWord : Nat → Nat → Nat → BitVec 64

/-- Novyan's PCI-SIG vendor identifier (R289, R294). -/
opaque vendorId : BitVec 16

/-- The package serial number in the key-store fuses (R289, R329). -/
opaque packageSerial : BitVec 64

/-- Novyan's JEDEC manufacturer identity (R526). -/
opaque jedecId : BitVec 11

/-- The PID of the first proposal after package reset; the manual gives none (R343). -/
opaque firstPid : BitVec 16

/-- Where the firmware of a microcode places the inner knots 1 to 1,023 of a table (R78): the table (0 E^2.4, 1 its inverse, 2 ST 2084 EOTF,
3 its inverse, 4 HLG inverse OETF, 5 OOTF, 6 inverse OOTF, 7 HLG OETF), its parameter, the knot, to a Q1.23 input. -/
opaque transferKnot : BitVec 64 → Nat → Nat → Nat → Nat

/-- Tap `t` (0 to 7) of phase `p` (0 to 63) of the windowed sinc of FILTER 0, in units of 2^-14 (R79, R86: the taps are the
firmware's). -/
opaque sincTap : Nat → Nat → Int

/-- The choices that make the Sprinkle matrix of the microcode with the given digest (R119): of the thresholds left, the one that each
place takes in turn. -/
opaque sprinkleChoice : BitVec 64 → Nat → Nat

/-- The red code that C5 leaves when no code meets the bound of R147 (RED_RATIO of at most 1,024: not stated): the pixel's red
code and the sum of its others. -/
opaque redOpen : Nat → Nat → Nat

/-- The value a binary16 NaN stands for in stage 3, in units of 2^-24 (R40, R84: not stated). -/
opaque halfNan : BitVec 16 → Nat

/-- An infinite binary16 in stage 3 (not stated). -/
opaque halfInf : Bool → Nat

/-- The new INC the servo's control law writes for a measured offset (R372 to R374: the law is not stated): present INC,
offset in ns. -/
opaque servoInc : BitVec 40 → Int → BitVec 40

/-- The servo's prediction of the next offset from the INC it wrote and the last offset, in 2^-16 ns (R372: not stated). -/
opaque servoPredict : BitVec 40 → Int → Int

/-- SHA-384 (R502: its arithmetic is not the manual's). -/
opaque sha384 : List (BitVec 8) → BitVec 384

/-- The fuse digest of a signing key (R502). -/
opaque keyDigest : Nat → BitVec 384

/-- The revocation fuse of a signing key is blown (R502). -/
opaque keyRevoked : Nat → Bool

/-- An ECDSA P-384 signature (second) of a digest under a public key (first) is valid (R502: its arithmetic is not the manual's). -/
opaque ecdsaP384 : List (BitVec 8) → List (BitVec 8) → BitVec 384 → Bool

/-- A settings format can express a field of a record's KIND (R504: which it can is the images'): of the PLT (1) the word with a key, of the
timebase settings (2) 0 the mode, 1 the PTP words, 2 the reference words, of the tile map (3) a tile and from 512 on a port's lane
rate, of the service port's settings (4) 0. -/
opaque expresses : Nat → Nat → Nat → Bool

/-- The digest of the twin-die microcode in an image's body (R501: the directory's layout is not stated). -/
opaque imageMicrocode : List (BitVec 8) → BitVec 64

/-- The version of the arbiter code in an image's body (R501, R515). -/
opaque imageArbiter : List (BitVec 8) → BitVec 32

/-- The encode qp step round(6 × log2(used / plan)) of R423, with its limit of ±6; at `plan` = 0 or `used` = 0 it is not
stated. -/
opaque qpStepOpen : Nat → Nat → Int

/-- The latency constants of a network port and direction before calibration, in 2^-16 ns (R381: fuses). -/
opaque factoryLatency : Nat → Nat × Nat

/-- The pin delay constant of REF_IN, in 2^-16 ns (R384: factory). -/
opaque pinDelay : Nat

/-- The signature that a firmware version's image expects of a slice (R520: carried in the image). -/
opaque bistSignature : BitVec 32 → Nat → BitVec 64

/-- Which register the die register space of a die (0 hub, 1 A, 2 B) holds at a byte address (R467, R470, R508: the addresses are not
stated): in the hub 0 is CLK_OBS, and from 1 on come the gates of R468. -/
opaque registerIndex : Nat → Nat → Nat

/-- What the words of function `f`'s response mailbox beyond the response's LEN read as, after `n` responses (R312: no defined value). -/
opaque responseTail : Nat → Nat → Nat → BitVec 64

/-- The frequency of the lane reference as CLKOBS_FLIPOUT can carry it, in kHz (R462, R470: not stated). -/
opaque laneReferenceKhz : Nat

/-- How well a vector matches in the motion search of R421 (the measure is not stated), lower is better: the picture's canvas frame and
the reference's, the block, the level (1 to 4) and the vector at the level's scale (quarter samples at level 4). -/
opaque motionCost : Nat → Nat → Nat → Nat → Int → Int → Nat

end Sys2Proof.Config
end

