-- ==== Sys2Proof/Machine/Bits.lean ====
section
/-! DEFINITION. Bit fields, byte order, rounding and CRC-32C (R6, R7, R165). -/

namespace Sys2Proof.Machine

/-- The field [hi:lo] of a word, as a number (R7). -/
def fld (w : Word) (hi lo : Nat) : Nat := (w.toNat >>> lo) % 2 ^ (hi + 1 - lo)

/-- Bit `i` of a word. -/
def bit (w : Word) (i : Nat) : Bool := w.toNat.testBit i

/-- A word that holds the number `v` from bit `lo` up, `n` bits wide. -/
def put (v n lo : Nat) : Word := BitVec.ofNat 64 ((v % 2 ^ n) <<< lo)

/-- A word that holds a flag at bit `lo`. -/
def putB (b : Bool) (lo : Nat) : Word := if b then BitVec.ofNat 64 (1 <<< lo) else 0

/-- The OR of several words. -/
def orW (l : List Word) : Word := l.foldl (· ||| ·) 0

/-- An `n`-bit two's complement field as an integer (R6). -/
def signed (n v : Nat) : Int := if v < 2 ^ (n - 1) then v else (v : Int) - 2 ^ n

/-- An integer as a 64-bit two's complement word. -/
def ofInt (i : Int) : Word := BitVec.ofInt 64 i

/-- The `i`th word of a list, zero past its end (R317: missing payload words are zero). -/
def wordAt (l : List Word) (i : Nat) : Word := l.getD i 0

/-- Numerator over denominator rounded to the nearest, ties up (R78, R107). -/
def roundDiv (n d : Nat) : Nat := (2 * n + d) / (2 * d)

/-- As `roundDiv`, for a signed numerator. -/
def roundDivI (n : Int) (d : Nat) : Int := (2 * n + d) / (2 * (d : Int))

/-- ⌈n / d⌉. -/
def ceilDiv (n d : Nat) : Nat := (n + d - 1) / d

/-- The `n` bytes of a number, least significant first (R6). -/
def leBytes : Nat → Nat → List Byte
  | 0, _ => []
  | n + 1, v => BitVec.ofNat 8 v :: leBytes n (v / 256)

/-- The number whose bytes, least significant first, are the list (R6). -/
def ofLeBytes : List Byte → Nat
  | [] => 0
  | b :: t => b.toNat + 256 * ofLeBytes t

/-- The bytes of a list of words in memory order (R6). -/
def wordBytes (l : List Word) : List Byte := l.flatMap fun w => leBytes 8 w.toNat

/-- Groups a list into runs of `n`. -/
def chunks {α : Type} (n : Nat) : Nat → List α → List (List α)
  | 0, _ => []
  | k + 1, l => if l.isEmpty then [] else l.take n :: chunks n k (l.drop n)

/-- The words of a byte list, the last padded with zeros. -/
def bytesWords (l : List Byte) : List Word :=
  (chunks 8 l.length l).map fun c => BitVec.ofNat 64 (ofLeBytes c)

/-- The device-memory bytes from `addr` on, `n` of them; unlisted bytes are zero. (DESIGN CHOICE, log entry 77) -/
def memRead (m : Tbl Byte) (addr n : Nat) : List Byte :=
  (List.range n).map fun i => Tbl.get 0 m (addr + i)

/-- Device memory with `bytes` written from `addr` on. (DESIGN CHOICE, log entry 77) -/
def memWrite (m : Tbl Byte) (addr : Nat) : List Byte → Tbl Byte
  | [] => m
  | b :: t => memWrite (Tbl.set 0 m addr b) (addr + 1) t

/-- One bit step of the reflected CRC-32C (RFC 3720, R165). -/
def crcBit (c : BitVec 32) : BitVec 32 := if c.getLsbD 0 then (c >>> 1) ^^^ 0x82F63B78#32 else c >>> 1

/-- CRC-32C of one more byte. -/
def crcByte (c : BitVec 32) (b : Byte) : BitVec 32 :=
  crcBit <| crcBit <| crcBit <| crcBit <| crcBit <| crcBit <| crcBit <| crcBit (c ^^^ b.setWidth 32)

/-- The CRC-32C of a byte string (RFC 3720; R129, R165, R189). (PRESUMED, log entry 98) -/
def crc32c (l : List Byte) : BitVec 32 := ~~~(l.foldl crcByte 0xFFFFFFFF#32)

/-- The IEEE 1588 style quotient used for grids: ⌊k × 10^9 × den / num⌋ for integer k (R196). -/
def gridPoint (num den : Nat) (k : Int) : Int := (k * 1000000000 * den) / num

/-- The exact wall frame rates of R2 and R3 by their code 1 to 17 (R73), as numerator and denominator; other codes give
120 Hz over 1, the rate R70 takes for a variable slot. -/
def rateOf (code : Nat) : Nat × Nat :=
  match code with
  | 1 => (24000, 1001) | 2 => (24, 1) | 3 => (25, 1) | 4 => (30000, 1001) | 5 => (30, 1)
  | 6 => (48000, 1001) | 7 => (48, 1) | 8 => (50, 1) | 9 => (60000, 1001) | 10 => (60, 1)
  | 11 => (100, 1) | 12 => (120000, 1001) | 13 => (120, 1) | 14 => (144000, 1001) | 15 => (144, 1)
  | 16 => (240000, 1001) | 17 => (240, 1) | _ => (120, 1)

/-- The median of a list, the lower of the two middle values when their number is even (R396). -/
def medianLow (l : List Int) : Int :=
  (l.mergeSort (· ≤ ·)).getD ((l.length - 1) / 2) 0

/-- The numbers below `n` that satisfy `p`. -/
def below (n : Nat) (p : Nat → Bool) : List Nat := (List.range n).filter p

/-- A bit mask of 512 tiles as eight words (R182, R221, R243). -/
def maskWords (tiles : List Nat) : List Word :=
  (List.range 8).map fun w => orW ((tiles.filter fun t => t / 64 = w).map fun t => putB true (t % 64))

/-- The tiles a mask of eight words names. -/
def maskTiles (ws : List Word) : List Nat := below 512 fun t => bit (wordAt ws (t / 64)) (t % 64)

end Sys2Proof.Machine
end

