-- ==== Sys2Proof/Machine/StateHub.lean ====
section
/-! DEFINITION. The state of the hub die's host side: mailboxes, MSI-X, long commands, the Partition and Limits Table,
rings, completions and events (10, 11, 12). Every structure's `{}` is its value after package reset. -/

namespace Sys2Proof.Machine

/-- HUB_STATUS.STAGE (R296). -/
inductive Stage where
  | reset | primer | fwLoad | memTrain | dieCheck | linkBringUp | ready | restarting | halted
  deriving DecidableEq, Repr

/-- The package mode (R22, R294): not yet known, Twin or Span. -/
inductive PkgMode where
  | unknown | twin | span
  deriving DecidableEq, Repr

/-- HUB_MBOX_STATE.STATE (R300). -/
inductive MboxState where
  | idle | busy | done
  deriving DecidableEq, Repr

/-- One MSI-X table entry (R309). After reset its mask bit is set (PRESUMED: the PCI Express reset value, log entry 4). -/
structure MsixEntry where
  addr   : Word := 0
  data   : BitVec 32 := 0
  masked : Bool := true
  deriving DecidableEq, Repr

/-- One long command of a function (R321 to R324), named by the sender's count `id` of long commands accepted. -/
structure LongCmd where
  id        : Nat
  opcode    : BitVec 16
  tag       : BitVec 16
  status    : BitVec 8 := 1
  trunc     : Bool := false
  quiet     : Bool := false
  done      : Bool := false
  canvas    : Option Nat := none
  accepted  : Nat := 0
  completed : Nat := 0
  deriving DecidableEq, Repr

/-- A CORR_PROBE in flight (R130): its long command and what is asked for, on the canvas where the tile lay then; FRAME 0 stands for the next
frame computed. `taken` holds the frame and the capture words once the named die has computed the pixel's region. -/
structure Probe where
  id    : Nat
  canvas : Nat
  tile  : Nat
  u     : Nat
  v     : Nat
  die   : DieId
  frame : Nat
  taken : Option (Nat × List Word) := none
  deriving DecidableEq, Repr

/-- Everything that belongs to one function number, and at number 64 to the service port (R288 to R310, R321, R351). `bars` holds the
bases of its BARs by BAR number (R291), `aspmL1` that L1 is enabled (R287). -/
structure Func where
  d3           : Bool := false
  aspmL1       : Bool := false
  bars         : Tbl Word := []
  timeoutUs    : Nat := 50000
  maxPayload   : Nat := 128
  maxRead      : Nat := 512
  mbox         : MboxState := .idle
  drop         : Bool := false
  status       : BitVec 8 := 0
  tag          : BitVec 16 := 0
  count        : BitVec 32 := 0
  reqMem       : Tbl Word := []
  respMem      : List Word := []
  msixEnabled  : Bool := false
  msixMasked   : Bool := false
  msixTable    : Tbl MsixEntry := []
  msixPending  : Tbl Bool := []
  violations   : BitVec 32 := 0
  longs        : List LongCmd := []
  longCount    : Nat := 0
  probes       : List Probe := []
  capture      : Option (List Word) := none
  deriving DecidableEq, Repr

/-- The state of a PCI Express link (R284, R286). -/
inductive LinkState where
  | down | up
  deriving DecidableEq, Repr

/-- One PCI Express link: its PERST input (asserted after reset) and its PF0's SR-IOV settings: NumVFs, VF Enable, ARI Capable Hierarchy and
the bases of the VF BARs (R284, R286, R288, R291). -/
structure HostLink where
  state  : LinkState := .down
  perst  : Bool := true
  numVfs : Nat := 0
  vfOn   : Bool := false
  ari    : Bool := false
  vfBars : Tbl Word := []
  deriving DecidableEq, Repr

/-- The hub's registers and flags (R283, R294 to R297, R33). `strapPins` are the levels at the strap pins, `straps` the value
sampled at package reset; `lastStatus` is what HUB_STATUS keeps showing while the control processor has failed (R33). `reached` says that
STAGE has reached 6 since package reset (R9, R294), `resetRef` is the wall time of package reset in the present time scale (R296).
`accepted` are the requests taken with the wall time t of each, `reqAt` the t of the one being processed (R316). A restart that waits for
the answers to them is `restartDue`, and `owed` are the long commands that have ended in STAGE 7: sender, id, status, TRUNC (R326). -/
structure Hub where
  stage     : Stage := .reset
  halt      : BitVec 4 := 0
  mode      : PkgMode := .unknown
  strapPins : BitVec 2 := 0
  straps    : BitVec 2 := 0
  beat      : BitVec 16 := 0
  bootMs    : BitVec 16 := 0
  fwValid   : Bool := false
  fwVersion : BitVec 32 := 0
  fwSlotB   : Bool := false
  unconfirmed : Bool := false
  cpFailed  : Bool := false
  lastStatus : Option Word := none
  resetAt   : Option Nat := none
  reached   : Bool := false
  resetRef  : Int := 0
  gibA      : Nat := 0
  gibB      : Nat := 0
  gibH      : Nat := 0
  links     : Tbl HostLink := []
  funcs     : Tbl Func := []
  accepted  : List (Nat × Req) := []
  reqAt     : Option Nat := none
  restartDue : Bool := false
  owed      : List (Nat × Nat × Nat × Bool) := []
  deriving DecidableEq, Repr

/-- The Partition and Limits Table by words; an unlisted word holds its factory value (R335, R339). -/
abbrev Plt := Tbl Word

/-- The pending PLT proposal (R343, R344); `session` is the NSP session that made a service-port proposal. -/
structure Proposal where
  pid      : BitVec 16
  proposer : Nat
  session  : Option Nat
  edits    : List Word
  time     : Nat
  expiry   : Nat
  deriving DecidableEq, Repr

/-- A confirmed change of PLT words that waits for frame `frame` of a canvas (R133, R340); `tile` is set when it waits
for the DRIVE transaction of that tile (R234) instead, and `carried` once that transaction has begun. -/
structure PltWait where
  canvas : Nat
  frame  : Nat
  tile   : Option Nat
  words  : List (Nat × Word)
  carried : Bool := false
  deriving DecidableEq, Repr

/-- One settings area in the external flash (R503, R504): its sequence number, the records it holds, and the FORMATs in which it holds
them, that of the image which wrote them first. -/
structure SettingsArea where
  blank    : Bool := true
  valid    : Bool := false
  aseq     : Nat := 0
  plt      : Plt := []
  tileMap  : Tbl (Option (Nat × Nat × Word)) := []
  portCfg  : Tbl (Nat × Nat) := []
  timeMode : BitVec 2 := 0
  timeSnap : Bool := false
  ptpWords : List Word := []
  refWords : List Word := []
  svcIp    : BitVec 32 := 0xC0A84002#32
  svcMask  : Nat := 24
  svcGw    : BitVec 32 := 0
  svcRxcInternal : Bool := false
  formats  : List Nat := []
  deriving DecidableEq, Repr

/-- The PLT and its two-party change (R335 to R350): the confirmed table, the table in force in engines and Scrim, the
changes that wait for a frame, the pending proposal, the number of proposals recorded and the settings writes due. -/
structure PltState where
  table     : Plt := []
  inForce   : Plt := []
  waits     : List PltWait := []
  proposal  : Option Proposal := none
  recorded  : Nat := 0
  writesDue : List Nat := []
  deriving DecidableEq, Repr

/-- The state of a ring context (R359). -/
inductive RingState where
  | unconfigured | stopped | running | error
  deriving DecidableEq, Repr

/-- A completion that is held until its COMPLETION ring can take it (R358); `release` names the buffer a held RELEASE
keeps RELEASED. -/
structure Held where
  words   : Desc
  release : Option (Nat × Nat)
  deriving DecidableEq, Repr

/-- A descriptor that has been fetched: the COMPLETION ring its ring fed then, by number and configuration (R358). -/
structure Fetched where
  cr   : Nat
  gen  : Nat
  desc : Desc
  deriving DecidableEq, Repr

/-- A source descriptor whose completion keeps its place in the order of its ring (R55). -/
structure Ordered where
  ticket : Nat
  cr     : Nat
  gen    : Nat
  words  : Option Desc
  deriving DecidableEq, Repr

/-- One ring context (R353 to R360). `gen` counts its configurations; `fetched` are the descriptors fetched and not yet processed, oldest
first; `order` keeps source completions in descriptor order; `held` the completions due on this COMPLETION ring, oldest first; `vectors`
what the next write-back of an EVENT ring signals (R364). -/
structure Ring where
  state    : RingState := .unconfigured
  owner    : Nat := 0
  type     : Nat := 0
  log2size : Nat := 0
  cring    : Nat := 0
  base     : Word := 0
  wb       : Word := 0
  vector   : Nat := 0
  prod     : BitVec 32 := 0
  cons     : BitVec 32 := 0
  gen      : Nat := 0
  wbDue    : Bool := false
  vectors  : List Nat := []
  fetched  : List Fetched := []
  held     : List Held := []
  ticket   : Nat := 0
  order    : List Ordered := []
  rseq     : BitVec 32 := 0
  lost     : Bool := false
  deriving DecidableEq, Repr

/-- An event record's content (R362), without its ring fields. -/
structure EvRec where
  source : Nat
  code   : BitVec 8
  data   : Word
  frame  : BitVec 48
  time   : Nat
  deriving DecidableEq, Repr

/-- A route of an event source (R363): function, global EVENT ring, vector (0: the ring's own). -/
structure Route where
  func   : Nat
  ring   : Nat
  vector : Nat
  deriving DecidableEq, Repr

/-- One event source (R363): raises since package reset, the latest record, and its routes by function. -/
structure EvSrc where
  count  : BitVec 32 := 0
  latest : Option EvRec := none
  routes : List Route := []
  deriving DecidableEq, Repr

/-- Rings and events (R353 to R364): contexts by global number, the ring the round robin served last, the sources, and the
routed records not yet delivered, oldest first. -/
structure Queues where
  rings     : Tbl Ring := []
  lastRing  : Nat := 0
  events    : Tbl EvSrc := []
  deliver   : List (EvRec × Route) := []
  deriving DecidableEq, Repr

/-- A 64b/66b block (R161): its sync header says control or data. -/
structure Block where
  control : Bool
  payload : Word
  deriving DecidableEq, Repr

/-- One sample period of a serial port (R391): WS in each BCLK, and the BCLKs from the WS edge to the MSB of slot 0. -/
structure SerialFrame where
  ws   : List Bool
  skew : Nat
  deriving DecidableEq, Repr

/-- A vector of the motion search (R421): its reference (0 the previous picture, 1 the long-term reference) and its parts. -/
structure MotionVec where
  ref : Nat
  dx  : Int
  dy  : Int
  deriving DecidableEq, Repr

/-- What a coded picture carries (R419 to R421, R423): an IDR picture, VPS, SPS and PPS, the recovery_poc_cnt of its recovery point SEI,
the CTU rows of each slice, the CTU columns coded intra (first and number), the qp of its CTU rows, the vectors of its 16 × 16 blocks. -/
structure CodedPic where
  idr      : Bool
  psets    : Bool
  recovery : Option Nat
  slices   : List Nat
  intra    : Nat × Nat
  qps      : List Nat
  vectors  : List (Option MotionVec)
  deriving DecidableEq, Repr

/-- What the package emits: interrupts, entries and write-backs in host memory, register and BAR read data, frames on
tile-link ports, bitstream and audio data, NSP messages and pin pulses. The model's own record of outputs (DESIGN CHOICE, log entry 3). -/
inductive Out where
  | msix (f vector : Nat) (addr : Word) (data : BitVec 32)
  | completion (ring : Nat) (index : Nat) (words : Desc)
  | eventRecord (ring : Nat) (index : Nat) (words : Desc)
  | writeBack (ring : Nat) (addr : Word) (word : Word)
  | hostRead (f : Nat) (addr : Word) (length : Nat)
  | hostWrite (f : Nat) (addr : Word) (bytes : List Byte)
  | barRead (f : Nat) (bytes : List Byte)
  | aer (f : Nat)
  | line (port : Nat) (blocks : List Block)
  | heartbeat (die : DieId) (word : Word)
  | command (die : DieId) (word : Word)
  | report (die : DieId) (w0 w1 : Word)
  | ptp (port : Nat) (msg : PtpMsg) (altered : Bool)
  | delayReq (port : Nat) (source : BitVec 32) (domain : Nat) (unicast : Bool) (vid : Option Nat)
  | cfgData (f : Nat) (value : Option Nat)
  | sample (sap : Nat) (frame : SerialFrame) (words : List (BitVec 32))
  | accessUnit (f : Nat) (addr : Word) (length : Nat) (pic : CodedPic)
  | nsp (session : Nat) (header : Word) (words : List Word)
  | tap (code : BitVec 8) (register : BitVec 32)
  | pin (name : String) (level : Bool)
  | igmp (port : Nat) (join : Bool) (group source : BitVec 32)
  deriving DecidableEq, Repr

end Sys2Proof.Machine
end

