-- ==== Sys2Proof/Machine/StateFrames.lean ====
section
/-! DEFINITION. The state of sources, canvases, layers, correction and the safety stages (02, 03, 04, 05, 07). Every
structure's `{}` is its value after package reset. -/

namespace Sys2Proof.Machine

/-! ### Source slots (02) -/

/-- The states of a buffer (R43). -/
inductive BufState where
  | free | filling | ready | inUse | released
  deriving DecidableEq, Repr

/-- One frame buffer of a slot (R43 to R47). `reported` says that its RELEASE is due or held, `old` that its slot has stopped since (R69),
`zeroDue` that it is zeroed once its uses end (R42, R270); `uses` lists the (canvas, frame) uses that have not ended; `media` is the frame's
media time (R396). -/
structure Buf where
  state     : BufState := .free
  arrival   : Nat := 0
  readyAt   : Nat := 0
  frame     : Nat := 0
  media     : Nat := 0
  dropped   : Bool := false
  concealed : Bool := false
  reported  : Bool := false
  old       : Bool := false
  zeroDue   : Bool := false
  uses      : List (Nat × Nat) := []
  deriving DecidableEq, Repr

/-- A network leg's counters (R72) and its watch (R61). -/
structure Leg where
  received  : BitVec 32 := 0
  dup       : BitVec 32 := 0
  late      : BitVec 32 := 0
  malformed : BitVec 32 := 0
  lost      : Bool := false
  lastAt    : Nat := 0
  deriving DecidableEq, Repr

/-- The open frame of a NET slot (R58, R59): RTP timestamp, buffer, pixels held by each die as (row, column) runs, legs
that delivered the marker, when the first did, whether a malformed packet arrived. -/
structure NetFrame where
  ts        : BitVec 32
  buf       : Option Nat
  heldA     : List (Nat × Nat × Nat) := []
  heldB     : List (Nat × Nat × Nat) := []
  markerA   : Bool := false
  markerB   : Bool := false
  markerAt  : Option Nat := none
  bad       : Bool := false
  deriving DecidableEq, Repr

/-- A network frame that has been judged (R58, R59). -/
structure NetJudged where
  ts       : BitVec 32
  complete : Bool
  at_      : Nat
  firstAt  : Nat
  deriving DecidableEq, Repr

/-- A pull descriptor in hand (R50, R51): its ring and ticket there, the bytes to read and whether it was truncated. -/
structure PullSeg where
  ring   : Nat
  ticket : Nat
  desc   : Desc
  len    : Nat
  trunc  : Bool
  deriving DecidableEq, Repr

/-- One source slot (R37 to R72). `cfg` holds the six words of R68, `bar2` the offsets of its buffers, `feedRing` the
COMPLETION ring that takes its RELEASEs, `pullOpen` the target of the open pull, `pullSegs` its segments in copy. -/
structure Slot where
  cfg        : List Word := []
  owner      : Nat := 0
  started    : Bool := false
  frames     : Nat := 0
  bufs       : Tbl Buf := []
  bar2       : List Nat := []
  feedRing   : Option (Nat × Nat) := none
  late       : Bool := false
  pullOpen   : Option Nat := none
  pullSegs   : List PullSeg := []
  pullWait   : Option PullSeg := none
  net        : Option NetFrame := none
  judged     : List NetJudged := []
  legA       : Leg := {}
  legB       : Leg := {}
  malformedAt : Option Nat := none
  nReady     : BitVec 32 := 0
  nDropped   : BitVec 32 := 0
  nIncomplete : BitVec 32 := 0
  nLate      : BitVec 32 := 0
  nTrunc     : BitVec 32 := 0
  nConcealed : BitVec 32 := 0
  deriving DecidableEq, Repr

/-! ### Canvases and layers (03, 07) -/

/-- A tile placement of CANVAS_TILES: its two words (R74). -/
structure Placement where
  w0 : Word
  w1 : Word
  deriving DecidableEq, Repr

/-- A canvas's configuration, as staged or committed (R73, R74, R91, R99, R208): raw words, so a field is stored as
given. `layers` lists the committed enabled layers with their words (unused in a staged configuration, whose layers
stand in `Frames.layers`); `scan` the committed SCAN words of its tiles. -/
structure CanvasCfg where
  cfg    : List Word := []
  tiles  : List Placement := []
  blend  : List Word := []
  timing : List Word := []
  layers : Tbl Desc := []
  scan   : Tbl Word := []
  deriving DecidableEq, Repr

/-- A commit that has been accepted for frame `frame` (R99, R100). -/
structure PendingCommit where
  frame : Nat
  cfg   : CanvasCfg
  deriving DecidableEq, Repr

/-- A timing change in progress (R222): the long command, frame M, the new configuration. `follow` says that it follows a measured
rate (R386) and completes no command; `late` that it was accepted while a step of wall time was pending (R390). -/
structure TimingChange where
  src     : Nat
  id      : Nat
  m       : Nat
  cfg     : CanvasCfg
  follow  : Bool := false
  late    : Bool := false
  deriving DecidableEq, Repr

/-- What the frame order of a canvas frame says of one layer (R19, R103): its state, the buffer named and the slot frame. -/
inductive LayerState where
  | disabled | absent | showing | repeating (k : Nat) | transparent
  deriving DecidableEq, Repr

/-- The choice for one layer in a frame order. -/
structure Choice where
  layer : Nat
  slot  : Nat
  buf   : Option Nat
  frame : Nat
  fresh : Bool
  deriving DecidableEq, Repr

/-- One layer (R79, R102 to R104, R333). `staged` holds its four words; after package reset EN = 0 and REPEAT = 4. -/
structure Layer where
  staged     : Desc := ⟨0x0000000400000000#64, 0, 0, 0⟩
  owner      : Nat := 0
  state      : LayerState := .disabled
  canvas     : Nat := 0
  lastSlot   : Nat := 0
  lastBuf    : Option Nat := none
  lastFrame  : Nat := 0
  misfit     : Bool := false
  changedAt  : Nat := 0
  nRepeat    : BitVec 32 := 0
  nTransp    : BitVec 32 := 0
  deriving DecidableEq, Repr

/-- The frame order of frame N of a canvas (R19) with the values both dies form at S(N): zone scales, arming, patch map
(R141, R142, R146, R199). `choicesB` and `zonesB` are die B's own while the link between the dies has failed in Span mode (R17, R143).
`changes` are the tiles whose configuration changes at the flip, `switches` those whose correction banks do (R122, R240), `xids` the last
XID of each port with a transaction in progress (R239). `before` are the canvas's layers as they stood before the choice, from which a
promoted die that does not hold the order makes its own (R264). -/
structure FrameOrder where
  frame    : Nat
  choices  : List Choice
  choicesB : Option (List Choice) := none
  isRepeat : Bool
  trims    : Tbl Nat
  changes  : List Nat := []
  switches : List Nat := []
  xids     : List (Nat × BitVec 16) := []
  before   : List (Nat × Layer) := []
  zones    : List (Nat × Nat)
  zonesB   : Option (List (Nat × Nat)) := none
  armed    : Bool
  redArmed : Bool
  patch    : List (Nat × Nat)
  acked    : Bool
  writtenBy : DieId
  deriving DecidableEq, Repr

/-- One check rectangle (R215, R216, R221): the words of CHECK_SET, the dies' values, their frame, and mismatches. -/
structure Check where
  words   : List Word := []
  valA    : BitVec 32 := 0
  valB    : BitVec 32 := 0
  frame   : Nat := 0
  matchA  : Bool := false
  matchB  : Bool := false
  misses  : BitVec 32 := 0
  deriving DecidableEq, Repr

/-- One canvas (03, 07). `next` is the frame whose selection instant comes next while the canvas runs; `frame` the latest frame whose flip
has passed; the anchor is (`anchorN`, `anchorK`) of R197. `mcFrame` is the frame K that repeats for a change of microcode and `mcNew` says
that it has passed while other canvases still wait (R512); `tallied` says that the frame stands in the histories (R146); `heldBefore` that
the FLIP of the frame before was withheld; `lastDmask` is the DMASK of the last FLIP sent; `scalers` are the clusters that the frame's
stripes run on, by die, layer and stripe (R87); `noFlip` lists the regions (die × 4 + region) whose ports do not send the FLIP (R29). -/
structure Canvas where
  staged     : CanvasCfg := {}
  committed  : CanvasCfg := {}
  pending    : Option PendingCommit := none
  change     : Option TimingChange := none
  running    : Bool := false
  anchorN    : Nat := 0
  anchorK    : Nat := 0
  next       : Nat := 0
  frame      : Nat := 0
  order      : Option FrameOrder := none
  prevOrder  : Option FrameOrder := none
  mcFrame    : Option Nat := none
  mcNew      : Bool := false
  flipSent   : Bool := false
  noFlip     : List Nat := []
  withheld   : Bool := false
  repeated   : Bool := false
  tallied    : Bool := false
  heldBefore : Bool := false
  scalers    : List (DieId × Nat × Nat × Nat) := []
  fmask      : List Nat := []
  dmask      : List Nat := []
  lastDmask  : List Nat := []
  hold       : List Nat := []
  lastFlip   : Nat := 0
  lastFlipFrame : Nat := 0
  nRepeat    : BitVec 32 := 0
  nWithheld  : BitVec 32 := 0
  chStatus   : BitVec 8 := 0
  chFailed   : List Nat := []
  marks      : List (Nat × Nat × Nat) := []
  markAll    : List Nat := []
  checks     : Tbl Check := []
  deriving DecidableEq, Repr

/-- A table load in flight (R332): its sender and long command, host address, bytes to pull, whether it was truncated. -/
structure LutLoad where
  src    : Nat
  id     : Nat
  addr   : Word
  length : Nat
  trunc  : Bool
  deriving DecidableEq, Repr

/-- A LUT or mesh table (R97): its two banks (byte 0 where not listed), which is active, whether each counts as loaded, and the load in
flight. `fresh` says that a load into the inactive bank has begun since the last commit, `due` the canvas whose pending commit is about to
activate that bank, and whether that commit is a timing change. -/
structure LutBanks where
  bank0   : Tbl Byte := []
  bank1   : Tbl Byte := []
  active1 : Bool := false
  loaded0 : Bool := false
  loaded1 : Bool := false
  fresh   : Bool := false
  due     : Option (Nat × Bool) := none
  load    : Option LutLoad := none
  deriving DecidableEq, Repr

/-! ### Correction (04) -/

/-- One correction bank of a tile (R108, R115, R121): record bytes, their record size and array size, block bytes. -/
structure CorrBank where
  recSize : Nat := 0
  arrSize : Nat := 0
  recs    : Tbl Byte := []
  block   : Tbl Byte := []
  deriving DecidableEq, Repr

/-- The states of a tile's banks (R122). -/
inductive CorrState where
  | clean | staging | pending (canvas frame : Nat)
  deriving DecidableEq, Repr

/-- A correction load in flight: its ring and ticket there, descriptor, bytes to write and truncation (R124, R125), with the record size and
the array size of the canvas when the descriptor was processed. -/
structure CorrLoad where
  ring  : Nat
  ticket : Nat
  desc  : Desc
  len   : Nat
  trunc : Bool
  recSize : Nat
  arrSize : Nat
  deriving DecidableEq, Repr

/-- A tile's two banks in one die (R121), with the record lines of the active bank that are poisoned there (R129). -/
structure CorrSide where
  bank0  : CorrBank := {}
  bank1  : CorrBank := {}
  poison : List Nat := []
  deriving DecidableEq, Repr

/-- A tile's correction state (R121 to R129): its banks in both dies and the hub's master copy of the active bank. -/
structure Corr where
  sideA    : CorrSide := {}
  sideB    : CorrSide := {}
  master   : CorrBank := {}
  active1  : Bool := false
  state    : CorrState := .clean
  loads    : List CorrLoad := []
  recHash  : BitVec 32 := 0
  blkHash  : BitVec 32 := 0
  hvalid   : Bool := false
  since    : Nat := 0
  mismatch : Bool := false
  deriving DecidableEq, Repr

/-! ### Safety (05) -/

/-- A flash tracker's direction (R145). -/
inductive FlashDir where
  | falling | rising
  deriving DecidableEq, Repr

/-- A flash tracker of one tile (R145): direction, extreme and mean luminance in Q16.8, red now. -/
structure Tracker where
  dir : FlashDir := .falling
  ext : Nat := 0
  y   : Nat := 0
  red : Bool := false
  deriving DecidableEq, Repr

/-- What one die keeps of a tile (R139, R145, R149): its sums by primary and its trackers, in the engines and in Scrim. -/
structure TileView where
  demand   : List Nat := []
  sent     : List Nat := []
  trk      : Tracker := {}
  scrimTrk : Tracker := {}
  deriving DecidableEq, Repr

/-- The safety state of a tile (R139 to R151, R153). `pred` is the prediction of the frame computed last, `shown` that of the frame the
tile shows. -/
structure SafeTile where
  canvas   : Nat := 0
  fresh    : Bool := true
  viewA    : TileView := {}
  viewB    : TileView := {}
  pred     : Nat := 0
  shown    : Nat := 0
  trim     : Nat := 16384
  derate   : Nat := 16384
  statusI  : List Nat := []
  statusT  : List Int := []
  predHist : List Nat := []
  measured : Nat := 0
  blocked  : Bool := false
  blocksA  : Nat := 0
  blocksB  : Nat := 0
  clean    : Nat := 0
  dust     : Bool := false
  total    : BitVec 32 := 0
  frame    : Nat := 0
  deriving DecidableEq, Repr

/-- The safety state of a zone (R141 to R143, R153): the scale in use, and die B's own while the link between the dies has failed in Span
mode. -/
structure Zone where
  g         : Option Nat := none
  gB        : Option Nat := none
  frame     : Nat := 0
  pred      : Nat := 0
  measured  : Nat := 0
  scrimSum  : Nat := 0
  withheld  : BitVec 16 := 0
  hard      : BitVec 16 := 0
  deriving DecidableEq, Repr

/-- One die's history of a canvas's rising transitions and red entries (R146, R149), newest first, in its engines and in its Scrim
checkers. -/
structure FlashView where
  rises      : List Bool := []
  reds       : List Bool := []
  scrimRises : List Bool := []
  scrimReds  : List Bool := []
  deriving DecidableEq, Repr

/-- The flash state of a canvas (R142, R146, R153): the arming in use and each die's history. -/
structure Flash where
  armed     : Bool := false
  redArmed  : Bool := false
  viewA     : FlashView := {}
  viewB     : FlashView := {}
  limited   : BitVec 32 := 0
  armedFrames : BitVec 32 := 0
  frame     : Nat := 0
  deriving DecidableEq, Repr

/-- What a Scrim checker's table holds of a tile (R135, R138, R148): CAP_t by primaries (RGB, RGBW), PW, LUM, P_IDLE, PMAX. -/
structure ScrimEntry where
  cap3 : Nat
  cap4 : Nat
  pw   : List Nat
  lum  : List Nat
  idle : Nat
  pmax : Nat
  zone : Nat
  deriving DecidableEq, Repr

/-- One Scrim checker (R148 to R153): its raw PLT words with the values its loader derived from them (by tile, flash words by canvas,
BUDGET by zone), the CRC the arbiter holds, its block, the comparator lane of its next latent test, and its counters. -/
structure Scrim where
  raw        : Plt := []
  tiles      : Tbl (Option ScrimEntry) := []
  flashes    : Tbl (Word × Word) := []
  budgets    : Tbl Nat := []
  arbCrc     : BitVec 32 := 0
  blocked    : Bool := false
  lane       : Nat := 0
  capBlocks  : BitVec 32 := 0
  flashBlocks : BitVec 32 := 0
  powerFails : BitVec 32 := 0
  latentRun  : BitVec 32 := 0
  latentFail : BitVec 32 := 0
  dustEntries : BitVec 32 := 0
  deriving DecidableEq, Repr

/-- The result a die holds for a region, from the last frame that computed it (R265, R271): its lamp values row by row, the census sums S_p
after C3 (R139), the pixels that C5 limited, whether its copy went out with undercoat, and whether that was after its report. -/
structure RegionRes where
  frame    : Nat
  outcome  : Nat
  crc      : BitVec 32
  lamps    : List (BitVec 16)
  demand   : List Nat := []
  limited  : Nat := 0
  under    : Bool := false
  lateUnder : Bool := false
  cluster  : Nat
  reported : Bool
  sentCrc  : Option (BitVec 32)
  echoed   : Option (BitVec 32)
  deriving DecidableEq, Repr

/-- Sources, composition, correction and safety together. Buffer contents are by slot × 8 + buffer, in each die (R42). -/
structure Frames where
  slots    : Tbl Slot := []
  memA     : Tbl (Tbl Byte) := []
  memB     : Tbl (Tbl Byte) := []
  canvases : Tbl Canvas := []
  layers   : Tbl Layer := []
  inLuts   : Tbl LutBanks := []
  outLuts  : Tbl LutBanks := []
  meshes   : Tbl LutBanks := []
  corr     : Tbl Corr := []
  stagedScan : Tbl Word := []
  safeTiles : Tbl SafeTile := []
  zones    : Tbl Zone := []
  flash    : Tbl Flash := []
  scrims   : Tbl Scrim := []
  resA     : Tbl (Option RegionRes) := []
  resB     : Tbl (Option RegionRes) := []
  deriving DecidableEq, Repr

end Sys2Proof.Machine
end

