-- ==== Sys2Proof/Machine/StateLinks.lean ====
section
/-! DEFINITION. The state of the tile links, tiles, transactions, twin dies and the arbiter (01, 06, 07, 08, 09, 20). Every
structure's `{}` is its value after package reset. -/

namespace Sys2Proof.Machine

/-- Receive states of a segment end (R192). -/
inductive RxState where
  | down | locking | aligned | up | upQuiet
  deriving DecidableEq, Repr

/-- Transmit states of a direction (R193). -/
inductive TxState where
  | on | quiet | off
  deriving DecidableEq, Repr

/-- What a port keeps of a region it sent (R217). -/
structure SentRegion where
  tile      : Nat
  region    : Nat
  frame     : Nat
  crc       : BitVec 32
  inverted  : Bool
  confirmed : Bool
  mismatch  : Bool
  deriving DecidableEq, Repr

/-- One tile-link port (R156 to R160, R192 to R195, R217, R334): 0 to 31 TLAk, 32 to 63 TLB(k − 32). `rate` and `spread`
are in force (R244); `ucnt` the newest UCNT by tile; `silentEcho` counts frames with an unechoed region by tile (R218). `mseq`, kept at a
mapped port's number, is the MSEQ that the lead holds for the port (R178). -/
structure Port where
  rx        : RxState := .down
  tx        : TxState := .off
  rxSleep   : Bool := false
  rate      : Nat := 1
  spread    : Nat := 0
  preset    : Nat := 2
  ctle      : Nat := 6
  ucnt      : Tbl (Option (BitVec 32)) := []
  sent      : List SentRegion := []
  silentEcho : Tbl Nat := []
  echoGone  : Tbl Bool := []
  lastSent  : Nat := 0
  lastSync  : Nat := 0
  lastIdle  : Nat := 0
  nReserved : BitVec 32 := 0
  xid       : BitVec 16 := 0
  mseq      : BitVec 32 := 0
  windowOpen : Bool := false
  nInvalid  : BitVec 32 := 0
  nCorrected : BitVec 32 := 0
  nUncorr   : BitVec 32 := 0
  nOrigin   : BitVec 32 := 0
  nStale    : BitVec 32 := 0
  nLateEcho : BitVec 32 := 0
  nUnderrun : BitVec 32 := 0
  nMismatch : BitVec 32 := 0
  nRegions  : BitVec 32 := 0
  nFlips    : BitVec 32 := 0
  deriving DecidableEq, Repr

/-- A tile map entry (R226): port (loop k in Twin), position, expected serial number. -/
structure MapEntry where
  port   : Nat
  pos    : Nat
  serial : Word
  deriving DecidableEq, Repr

/-- A calibrated hop (R204, R205, R221): LINKDLY and repeat spread in 2^-16 ns, suspect mark, time, runs so far. `due`
says that a calibration runs, `sentAt` the T_TX of its outstanding PING, `setDue` that SET waits for the flip. -/
structure Hop where
  linkdly : Nat := 0
  spread  : Nat := 0
  suspect : Bool := false
  time    : Nat := 0
  runs    : List Int := []
  due     : Bool := false
  sentAt  : Option Nat := none
  setDue  : Bool := false
  deriving DecidableEq, Repr

/-- The last STATUS of a tile that a die has heard (R249, R250). -/
structure StatusRec where
  words : List Word
  frame : Nat
  at_   : Nat
  deriving DecidableEq, Repr

/-- One tile as the package knows it (R226 to R250, R553). `map` is in effect, `mapNext` takes effect at the next chain
reset. -/
structure Tile where
  map       : Option MapEntry := none
  mapNext   : Option (Option MapEntry) := none
  assigned  : Bool := false
  assigning : Bool := false
  awaitStatus : Bool := false
  caps      : Option Word := none
  serial    : Word := 0
  held      : Option Nat := none
  statusA   : Option StatusRec := none
  statusB   : Option StatusRec := none
  quietSent : Bool := false
  dustTold  : Bool := false
  mseq      : BitVec 32 := 0
  raster    : Option Word := none
  scan      : Option (Word × Word) := none
  drive     : Option (Word × Word × Word) := none
  prefs     : Word := 600#64 ||| (500#64 <<< 12) ||| (1000#64 <<< 28)
  prefsNext : Option Word := none
  driveWait : Bool := false
  driveTold : Bool := false
  awaitResult : Bool := false
  underruns : Nat := 0
  underrunNow : Bool := false
  mismatches : BitVec 32 := 0
  holds     : BitVec 32 := 0
  vote      : Option (List Word) := none
  fwVersion : Option (BitVec 32) := none
  deriving DecidableEq, Repr

/-- What a transaction carries (R229, R239). -/
inductive TxnKind where
  | raster | scan | timing | drive | prefs | reset | fwImage
  deriving DecidableEq, Repr

/-- A multi-tile transaction (R240, R241): keyed by (xid, port) in `Links.txns`. `frame` and `applyTime` are those of its
COMMIT; `data` lists (tile, KIND, DATA), `acked` and `done` the tiles that acknowledged and answered; `failed` those listed at its end. -/
structure Txn where
  xid       : BitVec 16
  port      : Nat
  kind      : TxnKind
  canvas    : Option Nat
  src       : Nat
  id        : Option Nat
  tiles     : List Nat
  data      : List (Nat × Nat × List Word)
  frame     : Nat
  applyTime : Nat
  stagedAt  : Nat
  resent    : Bool
  committed : Bool
  acked     : List Nat
  done      : List Nat
  failed    : List Nat
  aborted   : Bool
  inProgress : Bool
  status    : BitVec 8
  deriving DecidableEq, Repr

/-- A hop calibration command in flight (R221). -/
structure HopJob where
  src  : Nat
  id   : Nat
  port : Nat
  deriving DecidableEq, Repr

/-- A chain reset in progress (R246): accepted at `at_`; `begun` once its tiles are being assigned. -/
structure ChainJob where
  src  : Nat
  id   : Nat
  port : Nat
  committed : Bool
  at_  : Nat
  begun : Bool
  deriving DecidableEq, Repr

/-- The tile links together. -/
structure Links where
  ports   : Tbl Port := []
  tiles   : Tbl Tile := []
  hops    : Tbl Hop := []
  portNext : Tbl (Option (Nat × Nat)) := []
  txns    : List Txn := []
  hopJobs : List HopJob := []
  chains  : List ChainJob := []
  deriving DecidableEq, Repr

/-! ### Twin dies and arbiter (01, 09, 20) -/

/-- A twin die's role (R251, R255). -/
inductive Role where
  | none | lead | shadow | span
  deriving DecidableEq, Repr

/-- Why a cluster is retired (R539 CAUSE). -/
inductive Retired where
  | no | poison | watchdog | vote | bist | boot
  deriving DecidableEq, Repr

/-- What a store of an engine or cluster holds (R2, R28, R30): zeros after a scrub, or what its last work left, which the manual
does not state (`Config.storeWord` by the number of the free value drawn for it). -/
inductive StoreFill where
  | zero
  | left (seed : Nat)
  deriving DecidableEq, Repr

/-- One cluster (R25, R29, R32, R520 to R524, R539). `stores` are its engines' 256 KiB stores, 0 to 7, and its own 4 MiB store, 8
(R2); `corrected` counts the single errors that the device code has corrected in them (R28). -/
structure Cluster where
  stores   : Tbl StoreFill := []
  corrected : BitVec 32 := 0
  retired  : Retired := .no
  spare    : Bool := false
  slice    : Bool := false
  next     : Nat := 0
  passed   : BitVec 32 := 0
  skipped  : BitVec 32 := 0
  aborted  : BitVec 32 := 0
  sets     : BitVec 32 := 0
  failSlice : Nat := 0
  setTime  : Nat := 0
  setUp    : Nat := 0
  setElig  : Nat := 0
  retTime  : Nat := 0
  late45   : Bool := false
  overdue  : Bool := false
  deriving DecidableEq, Repr

/-- One region of a twin die (R25, R29, R30). `resting` is the q of the resting cluster, if one rests; `flips` counts the flips of the
lowest-numbered running canvas since the role moved; `latent` says that the reset in progress follows a failed latent test, `again` that
one has ended and no test has passed since. -/
structure Region where
  resting  : Option Nat := some 0
  lost     : Bool := false
  resetting : Bool := false
  blocked  : Bool := false
  latent   : Bool := false
  again    : Bool := false
  flips    : Nat := 0
  movedAt  : Nat := 0
  sliceAt  : Option Nat := none
  deriving DecidableEq, Repr

/-- What a recorded error of a die was (R268). -/
inductive ErrKind where
  | watchdog | poison | retirement | latent | oneSided | unfinished
  deriving DecidableEq, Repr

/-- One twin die (R15, R25 to R33, R251 to R258). `mute` is the mute shadow of R511; `engineErr` holds, by engine, the frames of the
lowest-numbered running canvas since its watchdog last expired, up to 1,024 (R29). -/
structure Die where
  role       : Role := .none
  running    : Bool := false
  fenced     : Bool := true
  mute       : Bool := false
  incomplete : Bool := false
  fatal      : Bool := false
  cause      : Nat := 0
  fenceReq   : Bool := false
  epoch      : BitVec 8 := 0
  hseq       : BitVec 8 := 0
  missedCmd  : Nat := 0
  clusters   : Tbl Cluster := []
  regions    : Tbl Region := []
  engineErr  : Tbl (Option Nat) := []
  errors     : List (Nat × ErrKind) := []
  nErrors    : BitVec 32 := 0
  deriving DecidableEq, Repr

/-- The arbiter's states (R259). -/
inductive ArbState where
  | start | duo | solo | copy | verify | out | halt | span
  deriving DecidableEq, Repr

/-- A vote on a region (R269, R270): the two originals, the replays (`none` inside when deferred), the clusters that
computed the originals and the replays, the tie-break slices with their results, whether the tile is held for the frame (R271), and the
CRC trusted once the vote has ended. -/
structure Vote where
  tile    : Nat
  region  : Nat
  frame   : Nat
  canvas  : Nat
  a0      : BitVec 32
  b0      : BitVec 32
  a1      : Option (Option (BitVec 32)) := none
  b1      : Option (Option (BitVec 32)) := none
  clusterA : Option Nat := none
  clusterB : Option Nat := none
  repA     : Option Nat := none
  repB     : Option Nat := none
  tie      : Bool := false
  tieA     : Option (Option Bool) := none
  tieB     : Option (Option Bool) := none
  ended    : Bool := false
  held     : Bool := false
  trusted  : Option (BitVec 32) := none
  deriving DecidableEq, Repr

/-- The arbiter and the package's redundancy state (R251 to R282). `promotedAt` is when a fence of the lead last raised the epoch; `owed` says
that a promotion waits for the other die to show itself complete (R259). `verFrame` is the frame of the lowest-numbered running canvas that
was verified last (R275), `cmdAt` when TICK command words last left (R258). `linkA`, `linkB`, `linkAB` say that the die link has
not failed (R17). -/
structure Twin where
  state     : ArbState := .start
  frozen    : Bool := false
  epoch     : BitVec 8 := 0
  missA     : Nat := 0
  missB     : Nat := 0
  hseqA     : BitVec 8 := 0
  hseqB     : BitVec 8 := 0
  causeA    : Nat := 0
  causeB    : Nat := 0
  failedVer : Nat := 0
  verified  : Nat := 0
  verFrame  : Option Nat := none
  roleFrame : Nat := 0
  roleTime  : Nat := 0
  promotedAt : Option Nat := none
  cmdAt     : Nat := 0
  owed      : Bool := false
  fences    : BitVec 32 := 0
  promotions : BitVec 32 := 0
  mismatches : BitVec 32 := 0
  inconclusive : BitVec 32 := 0
  inconFrames : List Nat := []
  votes     : List Vote := []
  verdictWait : List (Nat × Nat) := []
  stayFenced : Bool := false
  service   : Option (Nat × Nat × DieId × Bool) := none
  k0        : Nat := 0
  linkA     : Bool := true
  linkB     : Bool := true
  linkAB    : Bool := true
  linkFixed : BitVec 32 := 0
  linkRetry : BitVec 32 := 0
  deriving DecidableEq, Repr

/-- Both dies and the arbiter. -/
structure Dies where
  a    : Die := {}
  b    : Die := {}
  twin : Twin := {}
  deriving DecidableEq, Repr

end Sys2Proof.Machine
end

