-- ==== Sys2Proof/Machine/StateSystem.lean ====
section
/-! DEFINITION. The state of wall time, audio, codec, memory, clocks, thermal and budget control, firmware, service port,
self-test and supplies (13 to 21), and the whole machine's sub-states' types. Every structure's `{}` is its value after
package reset. -/

namespace Sys2Proof.Machine

/-! ### Wall time and references (13) -/

/-- Servo modes (R369). -/
inductive ServoMode where
  | free | ptp | ref | host
  deriving DecidableEq, Repr

/-- Reference states (R373, R388). -/
inductive RefState where
  | none | acquire | locked | holdover | realign | measure
  deriving DecidableEq, Repr

/-- An ordinary clock of a die (R372, R378, R379, R383): the port states, the master followed and its data, the best Announce of each port with
the wall time it came (`foreign0`, `foreign1`), and the times of the last Sync and of the Delay_Req sent after it (`exchange`: corrected
origin, receipt, departure), in 2^-16 ns. -/
structure OrdClock where
  port0    : BitVec 4 := 0
  port1    : BitVec 4 := 0
  using1   : Bool := false
  gmId     : Word := 0
  prio1    : BitVec 8 := 0
  cls      : BitVec 8 := 0
  accuracy : BitVec 8 := 0
  domain   : BitVec 8 := 0
  steps    : BitVec 16 := 0
  master   : Word := 0
  foreign0 : Option (Announce × Nat) := none
  foreign1 : Option (Announce × Nat) := none
  exchange : Option (Int × Int × Int) := none
  mpd      : Int := 0
  ofm      : Int := 0
  deriving DecidableEq, Repr

/-- Wall time, servo, references and network ports (R365 to R390). `counter` is the 96-bit system counter of R365:
nanoseconds in bits 95..32. `holdInc` is the increment of R376, `lastEdge` the last pulse edge and `intervals` the pulse intervals of MEASURE,
newest first, in 2^-16 ns (R373), `following` the rate that canvases are being changed to (R386), `lastGm` the grandmaster last in use (R382).
`tcSyncs` are the two-step Syncs that a transparent clock has passed and whose Follow_Up it awaits: die, source, sequenceId, residence
(R380). -/
structure Time where
  counter   : BitVec 96 := 0
  inc       : BitVec 40 := 0x280000000#40
  copyA     : BitVec 96 := 0
  copyB     : BitVec 96 := 0
  mode      : ServoMode := .free
  snap      : Bool := false
  state     : RefState := .none
  since     : Int := 0
  holdInc   : BitVec 40 := 0x280000000#40
  good      : Nat := 0
  bad       : Nat := 0
  onPeriod  : Bool := true
  lastEdge  : Option Int := none
  intervals : List Nat := []
  predicted : Int := 0
  offset    : Int := 0
  slewing   : Bool := false
  step      : Option (Int × Nat) := none
  steps     : BitVec 32 := 0
  glitches  : BitVec 32 := 0
  realigns  : BitVec 32 := 0
  copyFix   : BitVec 32 := 0
  ptp       : List Word := []
  ref       : List Word := []
  refRate   : Nat := 0
  following : Option Nat := none
  ppsGranted : Bool := false
  ppsHigh   : Bool := false
  ocA       : OrdClock := {}
  ocB       : OrdClock := {}
  syncs     : BitVec 32 := 0
  tcMsgs    : BitVec 32 := 0
  tcSyncs   : List (DieId × Word × BitVec 16 × Nat) := []
  smTlv     : Word := 0
  lastGm    : Option Word := none
  latency   : Tbl (Option (Nat × Nat)) := []
  latencyNext : List (Nat × (Nat × Nat)) := []
  netUp     : Tbl Bool := []
  netWindow : Tbl Bool := []
  deriving DecidableEq, Repr

/-! ### Serial audio ports (14) -/

/-- States of a port (R405); a running port whose active channels are all muted reads as muted. -/
inductive SapState where
  | stopped | starting | running | starving | realigning
  deriving DecidableEq, Repr

/-- One held sample time of an output port: its media time in ns and its CHN slot words (R396). -/
structure Sample where
  media : Nat
  words : List (BitVec 32)
  deriving DecidableEq, Repr

/-- A pending change of one channel at its next zero crossing (R398). -/
inductive ChanChange where
  | mute | unmute
  deriving DecidableEq, Repr

/-- A capture buffer that a host supplied (R401): the COMPLETION ring fed and its configuration, the function, the descriptor, the
blocks written, the stamp of the first, whether blocks were dropped before it. -/
structure CapBuf where
  cr    : Nat
  gen   : Nat
  func  : Nat
  desc  : Desc
  done  : Nat
  stamp : Nat
  gap   : Bool
  deriving DecidableEq, Repr

/-- A PLAY buffer that a port is reading (R401): the COMPLETION ring fed and its configuration, the function, the descriptor, the media time
it counts from and its first sample's place after it, the samples read so far, the slot words still to read, its first play time, and
whether it caused a realignment. -/
structure PlayBuf where
  cr    : Nat
  gen   : Nat
  func  : Nat
  desc  : Desc
  media : Nat
  first : Nat
  done  : Nat
  words : List (BitVec 32)
  time  : Nat
  gap   : Bool
  deriving DecidableEq, Repr

/-- One serial audio port (R391 to R407). `cfg` holds the ten words of R403. `waited` counts the samples that a channel's pending change has
seen, `before` holds the sample words before the next ones (R398). The block in progress is the `block`th since wall time `base`; `stamp` is
that of the last completed block; `delay` is D, known once `aligned`; `seen` lists the sequence numbers taken of a part; `awUsed` says that
the port runs on AWCLK, `slewing` that it slews onto it (R395); `legLost` is by part × 2 + leg. -/
structure Sap where
  cfg       : List Word := []
  owner     : Nat := 0
  state     : SapState := .stopped
  muted     : BitVec 16 := 0xFFFF#16
  hostMute  : BitVec 16 := 0
  changes   : Tbl (Option ChanChange) := []
  waited    : Tbl Nat := []
  before    : List (BitVec 32) := []
  stopping  : Bool := false
  base      : Nat := 0
  block     : Nat := 0
  stamp     : Nat := 0
  delay     : Int := 0
  aligned   : Bool := false
  held      : List Sample := []
  nextMedia : Option (Nat × Nat) := none
  reading   : Option PlayBuf := none
  seen      : Tbl (List (BitVec 16)) := []
  capBufs   : List CapBuf := []
  capGap    : Bool := false
  awUsed    : Bool := false
  slewing   : Bool := false
  legLost   : Tbl Bool := []
  nDropped  : BitVec 32 := 0
  nRepeated : BitVec 32 := 0
  nStarve   : BitVec 32 := 0
  nRealign  : BitVec 32 := 0
  nLate     : BitVec 32 := 0
  nCapDrop  : BitVec 32 := 0
  nLegA     : BitVec 32 := 0
  nLegB     : BitVec 32 := 0
  nAwLoss   : BitVec 32 := 0
  deriving DecidableEq, Repr

/-- What a layer has shown for L of R396: the slot frame shown last, and F(N) minus the reference time of the last 16 new frames,
newest first. -/
structure LayerShow where
  last  : Option (Nat × Nat) := none
  diffs : List Int := []
  deriving DecidableEq, Repr

/-! ### Codec (15) -/

/-- Marks of a pool buffer (R414). -/
inductive PoolMark where
  | unused | decoding | short | long
  deriving DecidableEq, Repr

/-- One buffer of a decode pool (R414): its mark, its place in decoding order, picture order count, whether an output is pending,
whether an RPS has omitted it, the pictures since (R413's latency), and the picture. -/
structure PoolBuf where
  mark      : PoolMark := .unused
  order     : Nat := 0
  poc       : Int := 0
  pending   : Bool := false
  omitted   : Bool := false
  latency   : Nat := 0
  concealed : Bool := false
  width     : Nat := 0
  height    : Nat := 0
  format    : Nat := 0
  bytes     : List Byte := []
  deriving DecidableEq, Repr

/-- One decode session (R408 to R417, R429). `cfg` holds the five words of R417; `window` the packets ahead of `nextSeq` and `stream`
those in order that no picture has used yet, each with its arrival; `missed` the packets given up; `clean` the clean CTU addresses;
`broken` a coded video sequence that breaks a limit of R412. -/
structure Dec where
  cfg        : List Word := []
  owner      : Nat := 0
  running    : Bool := false
  pool       : Tbl PoolBuf := []
  pictures   : Nat := 0
  concealing : Bool := false
  clean      : List Nat := []
  broken     : Bool := false
  nextSeq    : Option (BitVec 16) := none
  window     : List (Nat × RtpPkt) := []
  missed     : List (BitVec 16) := []
  stream     : List (Nat × RtpPkt) := []
  lostA      : Bool := false
  lostB      : Bool := false
  nOut       : BitVec 32 := 0
  nConcealed : BitVec 32 := 0
  nLost      : BitVec 32 := 0
  nDup       : BitVec 32 := 0
  nNotOut    : BitVec 32 := 0
  nRecover   : BitVec 32 := 0
  deriving DecidableEq, Repr

/-- A captured picture that waits for its access unit (R418, R424): canvas frame, F(N), whether the capture arrived in time, and its
EW × EH pixels as 10-bit Y, Cb and Cr. -/
structure Cap where
  frame  : Nat
  flipAt : Nat
  ok     : Bool
  pic    : List (Nat × Nat × Nat)
  deriving DecidableEq, Repr

/-- A host buffer of a BITSTREAM ring (R425): the COMPLETION ring fed and its configuration, the function, the descriptor. -/
structure EncBuf where
  cr   : Nat
  gen  : Nat
  func : Nat
  desc : Desc
  deriving DecidableEq, Repr

/-- A finished access unit (R426): its completion's words and what its picture carries. -/
structure AccessUnit where
  desc : Desc
  pic  : CodedPic
  deriving DecidableEq, Repr

/-- One encode session (R418 to R429). `cfg` holds the four words of R428; `rows` the row bits of the previous picture; `band` the intra
columns' first; `inCycle` and `postponed` the pictures coded and the postponements of this skim cycle; `prev` and `longRef` the frames that
the reference buffers hold (R422); `prevEdge` and `longEdge` their refreshed edges in luma columns (R420); `held` the finished access units,
oldest first. -/
structure EncSt where
  cfg      : List Word := []
  owner    : Nat := 0
  running  : Bool := false
  stopping : Bool := false
  qpPic    : Nat := 32
  rows     : List Nat := []
  band     : Nat := 0
  inCycle  : Nat := 0
  postponed : Nat := 0
  cycles   : Nat := 0
  prev     : Option Nat := none
  longRef  : Option Nat := none
  prevEdge : Nat := 0
  longEdge : Nat := 0
  caps     : List Cap := []
  bufs     : List EncBuf := []
  held     : List AccessUnit := []
  dropping : Bool := false
  nAu      : BitVec 32 := 0
  nDropped : BitVec 32 := 0
  nSkipRows : BitVec 32 := 0
  nPostpone : BitVec 32 := 0
  nAllSkip : BitVec 32 := 0
  nLongCycle : BitVec 32 := 0
  deriving DecidableEq, Repr

/-- Audio and codec together. `awPresent` is AWCLK present (R395); `shows` is by layer. -/
structure Media where
  saps      : Tbl Sap := []
  awPresent : Bool := false
  shows     : Tbl LayerShow := []
  decs      : Tbl Dec := []
  encs      : Tbl EncSt := []
  deriving DecidableEq, Repr

/-! ### Memory (16) -/

/-- A request in a bank's queue: a row was opened for it; its block's check line has been read for a partial write, so that the block is
held (R437, R441). -/
structure Queued where
  req    : MemReq
  missed : Bool := false
  rmw    : Bool := false
  deriving DecidableEq, Repr

/-- A bank (R439, R441): its open row, its last four accesses (true: hit; the latest first), its queue in order of arrival. -/
structure Bank where
  openRow : Option Nat := none
  history : List Bool := [true, true, true, true]
  queue   : List Queued := []
  deriving DecidableEq, Repr

/-- One memory channel (R431 to R454), keyed by die × 32 + channel. `stampAt` are the wall times of recent stamp mismatches, `hits` the
corrections of recent lines as (line, wall time, words), `passLines` and `lastLines` (`recLines`, `lastRec` of record passes) the lines
corrected in the present and the last patrol pass. `input` holds the requests at the channel input with their banks (R439), `lastAct` the
bank last activated, `run` the bank of the last column command and how many row hits it took in a row (R440), `checks` the blocks of the
last check lines read (R434), `lines` the lines as stored where they differ from blank ones (R434 to R437). -/
structure Chan where
  owed       : Nat := 0
  owedMax    : Nat := 0
  rate       : Nat := 2
  forced     : BitVec 16 := 0
  postponed  : BitVec 32 := 0
  corrected  : BitVec 32 := 0
  poisoned   : BitVec 32 := 0
  stamps     : BitVec 32 := 0
  rtMiss     : BitVec 32 := 0
  stampAt    : List Nat := []
  hits       : List (Nat × Nat × Nat) := []
  weakLines  : List Nat := []
  hourly     : Bool := false
  margins    : Nat × Nat × Nat := (0, 0, 0)
  suspect    : Bool := false
  drift      : Int := 0
  adjusted   : Int := 0
  tracks     : BitVec 32 := 0
  marked     : Bool := false
  failed     : Bool := false
  fullOpen   : Bool := false
  recOpen    : Bool := false
  passLines  : List Nat := []
  lastLines  : List Nat := []
  recLines   : List Nat := []
  lastRec    : List Nat := []
  passErrs   : Nat := 0
  recErrs    : Nat := 0
  fullPasses : BitVec 32 := 0
  recPasses  : BitVec 32 := 0
  told1      : Option Nat := none
  told7      : Option Nat := none
  banks      : Tbl Bank := []
  input      : List (Nat × MemReq) := []
  lastAct    : Option Nat := none
  run        : Nat × Nat := (0, 0)
  checks     : List Nat := []
  lines      : Tbl (List Code) := []
  deriving DecidableEq, Repr

/-- The state of a memory as a whole (R450). -/
inductive MemMode where
  | active | powerDown | selfRefresh | partialArray
  deriving DecidableEq, Repr

/-! ### Clocks and operating points (17) -/

/-- A change of operating point in progress (R465): target, direction, whether it is retried, when it began, whether it settles. -/
structure OpChange where
  target  : Nat
  up      : Bool
  retried : Bool
  since   : Nat
  settling : Bool
  deriving DecidableEq, Repr

/-- A twin die's engine rail and clock (R463 to R466). -/
structure OpState where
  op      : Nat := 2
  since   : Nat := 0
  target  : Nat := 2
  change  : Option OpChange := none
  fails   : List Nat := []
  vout    : Option Int := none
  deriving DecidableEq, Repr

/-- A clock gate register (R467). -/
structure Gate where
  isOpen  : Bool := true
  pending : Bool := false
  drops   : BitVec 16 := 0
  toldAt  : Option Nat := none
  retryAt : Nat := 0
  deriving DecidableEq, Repr

/-- Power modes (R471). -/
inductive PwrMode where
  | run | sleep | deep
  deriving DecidableEq, Repr

/-- A SYS_POWER transition in progress (R472). -/
structure PwrChange where
  src  : Nat
  id   : Nat
  mode : PwrMode
  at_  : Nat
  deriving DecidableEq, Repr

/-- Clocks, gates, operating points and power mode (R456 to R474). `offset` is the lane reference offset in 0.001 ppm. -/
structure Clocks where
  refOk    : Bool := false
  refLost  : Bool := false
  pllA     : Bool := false
  pllB     : Bool := false
  pllH     : Bool := false
  hubLostAt : Option Nat := none
  laneSeen : Bool := false
  offset   : Int := 0
  trim     : Int := 0
  opA      : OpState := {}
  opB      : OpState := {}
  gates    : List (GateId × Gate) := []
  obs      : Word := 0
  obsOwner : Option Nat := none
  power    : PwrMode := .run
  change   : Option PwrChange := none
  memA     : MemMode := .active
  memB     : MemMode := .active
  memH     : MemMode := .active
  memExits : List (Die3 × List Nat) := []
  chans    : Tbl Chan := []
  deriving DecidableEq, Repr

/-! ### Thermal and budget (18) -/

/-- Temperature bands (R478). -/
inductive Band where
  | cold | norm | warm | hot | crit
  deriving DecidableEq, Repr

/-- One die's temperature state (R475 to R479, R487, R488, R492). Temperatures are in 1/16 °C. `towards` is the
band that one sample has asked for, `set` the preset set, `okSince` when readings became plausible again, `coolSince` when those of a
tripped die fell below 85 °C. `shedTasks` counts shed D tasks (R480), `eligMs` the eligible time of R524. -/
structure Therm where
  now      : Int := 0
  max      : Option Int := none
  lastSlow : Option (Int × Nat) := none
  lastFast : Option (Int × Nat) := none
  band     : Band := .norm
  towards  : Option Band := none
  set      : Nat := 1
  pause    : Nat := 0
  fault    : Bool := false
  okSince  : Option Nat := none
  coolSince : Option Nat := none
  tripped  : Bool := false
  hotIn    : BitVec 32 := 0
  critIn   : BitVec 32 := 0
  trips    : BitVec 32 := 0
  hotMs    : BitVec 32 := 0
  shedMs   : Nat := 0
  shedTold : Bool := false
  shedTasks : Nat := 0
  eligMs   : Nat := 0
  trim     : Int := 0
  trimNext : Option Int := none
  deriving DecidableEq, Repr

/-- The budget scheduler (R481 to R486, R491). Powers are in 0.1 W. -/
structure Budget where
  pA      : Nat := 0
  pB      : Nat := 0
  pHub    : Nat := 0
  hist    : List Nat := []
  rung    : Nat := 0
  climbAt : Option Nat := none
  overMs  : Nat := 0
  repeats : BitVec 32 := 0
  climbs  : BitVec 32 := 0
  dMs     : BitVec 32 := 0
  oMs     : BitVec 32 := 0
  deriving DecidableEq, Repr

/-! ### Firmware, service port, self-test, supplies (19, 20, 21) -/

/-- The states of a flash slot (R500). -/
inductive SlotState where
  | empty | loaded | trial | confirmed | bad | writing
  deriving DecidableEq, Repr

/-- A copy of the flash header (R500); one that is blank or fails its CRC has HSEQ 0 and EMPTY slots. -/
structure FlashHeader where
  hseq   : BitVec 32 := 0
  stateA : SlotState := .empty
  stateB : SlotState := .empty
  verA   : BitVec 32 := 0
  verB   : BitVec 32 := 0
  deriving DecidableEq, Repr

/-- What the model keeps of an image (R501, R502): its version, security version, settings formats, whether its signature
check passes, its microcode digest, its length. -/
structure Image where
  version  : BitVec 32
  svn      : Nat
  format   : Nat
  formatPrev : Nat
  signed   : Bool
  microcode : Word
  arbiter  : BitVec 32
  length   : Nat
  deriving DecidableEq, Repr

/-- A slot write or an activation in progress (R509, R510), with its command. -/
inductive FwJob where
  | load (src id : Nat) (slotB : Bool)
  | activate (src id : Nat) (slotB : Bool)
  deriving DecidableEq, Repr

/-- A relay of tile firmware (R517): its command, the image, APPLY_TIME (0: each tile activates at once), the tiles not yet staged,
those that have not reported the new version, and the failed. -/
structure Relay where
  src       : Nat
  id        : Nat
  image     : List Word
  applyTime : Nat
  waiting   : List Nat
  tiles     : List Nat
  failed    : List Nat
  deriving DecidableEq, Repr

/-- External flash and firmware state (R495 to R515). The flash, the fuses and the trip record are kept through a package
reset. -/
structure Firmware where
  hdr0     : FlashHeader := {}
  hdr1     : FlashHeader := {}
  imageA   : Option Image := none
  imageB   : Option Image := none
  area0    : SettingsArea := {}
  area1    : SettingsArea := {}
  svnFuse  : Nat := 0
  job      : Option FwJob := none
  relay    : Option Relay := none
  trialAt  : Option Nat := none
  mcStep   : Nat := 0
  mcRunA   : Word := 0
  mcRunB   : Word := 0
  arbVer   : BitVec 32 := 0
  fallBack : Option Nat := none
  activations : BitVec 32 := 0
  fallbacks : BitVec 32 := 0
  hubTripped : Bool := false
  lostVer  : Option (BitVec 32 × Nat) := none
  deriving DecidableEq, Repr

/-- One NSP session (R506, R507): the last valid datagram, its staging buffer, the fragments received and their NSEQ, the request
outstanding and its NSEQ, and the count of the JRS64's own messages. -/
structure Nsp where
  isOpen   : Bool := false
  lastAt   : Nat := 0
  own      : BitVec 16 := 0
  nseq     : BitVec 16 := 0
  fragSeq  : BitVec 16 := 0
  staging  : Tbl Byte := []
  frags    : List (List Word) := []
  fragAt   : Nat := 0
  pendingReq : Bool := false
  deriving DecidableEq, Repr

/-- Key store and test access port (R506, R526 to R528). -/
structure KeyStore where
  done    : Bool := false
  otpOff  : Bool := false
  zeroed  : Bool := false
  held    : Bool := false
  anchors : List (List Byte) := []
  tap     : BitVec 8 := 1
  deriving DecidableEq, Repr

/-- A calibration item's state (R530 to R540). -/
structure CalSt where
  state    : Nat := 0
  runs     : Nat := 0
  fig1     : Int := 0
  fig2     : Nat := 0
  values   : List Int := []
  time     : Nat := 0
  cals     : BitVec 32 := 0
  suspects : BitVec 32 := 0
  results  : List CalRun := []
  outcome  : Nat := 0
  window   : Bool := false
  due      : Bool := false
  deriving DecidableEq, Repr

/-- Calibration, key store, supplies and pins. `supplyOut` lists the supplies outside their range; `resetHeld` is a package
reset held for a supply (R547). -/
structure Service where
  nsp0      : Nsp := {}
  nsp1      : Nsp := {}
  keys      : KeyStore := {}
  cal       : List (CalItem × CalSt) := []
  supplyOut : List Supply := []
  resetHeld : Bool := false
  powered   : Bool := true
  tripPinA  : Bool := false
  tripPinB  : Bool := false
  tripPinH  : Bool := false
  deriving DecidableEq, Repr

end Sys2Proof.Machine
end

