-- ==== Sys2Proof/Machine/State.lean ====
section
/-! DEFINITION. The whole state of the JRS64, the reasons a step can stop, and the state right after package reset. The
sub-states stand in StateHub, StateFrames, StateLinks and StateSystem. -/

namespace Sys2Proof.Machine

/-- Why the machine stops with a fault. No rule of the manual stops the block itself: link, memory, die and supply faults
are states it goes on in. The one constructor is never raised (safe). -/
inductive Fault where
  /-- Raised by no command (safe). -/
  | none
  deriving DecidableEq, Repr

/-- Why a command has no meaning in the model. -/
inductive Refusal where
  /-- Raised by an arm of `exec` whose command has no meaning yet (safe: the machine stops). -/
  | notModelled (mnemonic : String)
  deriving DecidableEq, Repr

/-- The state of the JRS64 package, the queue of commands that wait (`pending`, first in first out), the outputs emitted
(`out`, newest first) and the counter of free values used (`free`); the last three are the model's own fields. -/
structure State where
  pending  : List Instr := []
  hub      : Hub := {}
  plt      : PltState := {}
  queues   : Queues := {}
  frames   : Frames := {}
  links    : Links := {}
  dies     : Dies := {}
  time     : Time := {}
  media    : Media := {}
  clocks   : Clocks := {}
  thermA   : Therm := {}
  thermB   : Therm := {}
  thermH   : Therm := {}
  budget   : Budget := {}
  firmware : Firmware := {}
  service  : Service := {}
  out      : List Out := []
  free     : Nat := 0
  deriving DecidableEq, Repr

/-- The machine right after package reset: every sub-state at its reset value, nothing queued. (DESIGN CHOICE, log entry 17) -/
def State.reset : State := {}

end Sys2Proof.Machine
end

