-- ==== Sys2Proof/Machine/Access.lean ====
section
/-! DEFINITION. Reading and changing the parts of the state: one updater for each sub-state, and by it one for each
numbered resource (R5). Wall time, the PLT's words and the free values are read here. -/

namespace Sys2Proof

/-- The number of a twin die: 0 A, 1 B. -/
def DieId.num : DieId → Nat
  | .a => 0
  | .b => 1
/-- The other twin die. -/
def DieId.other : DieId → DieId
  | .a => .b
  | .b => .a
/-- The twin die as one of three. -/
def DieId.die3 : DieId → Die3
  | .a => .a
  | .b => .b
/-- The number of a die: 0 A, 1 B, 2 hub. -/
def Die3.num : Die3 → Nat
  | .a => 0
  | .b => 1
  | .hub => 2
end Sys2Proof

namespace Sys2Proof.Machine

/-! ### Sub-states -/

/-- `s` with its hub changed by `f`. -/
def State.modHub (s : State) (f : Hub → Hub) : State := { s with hub := f s.hub }
/-- `s` with its PLT state changed by `f`. -/
def State.modPlt (s : State) (f : PltState → PltState) : State := { s with plt := f s.plt }
/-- `s` with its rings and events changed by `f`. -/
def State.modQueues (s : State) (f : Queues → Queues) : State := { s with queues := f s.queues }
/-- `s` with its sources, canvases, correction and safety state changed by `f`. -/
def State.modFrames (s : State) (f : Frames → Frames) : State := { s with frames := f s.frames }
/-- `s` with its tile links changed by `f`. -/
def State.modLinks (s : State) (f : Links → Links) : State := { s with links := f s.links }
/-- `s` with its dies and arbiter changed by `f`. -/
def State.modDies (s : State) (f : Dies → Dies) : State := { s with dies := f s.dies }
/-- `s` with its wall time and references changed by `f`. -/
def State.modTime (s : State) (f : Time → Time) : State := { s with time := f s.time }
/-- `s` with its audio and codec changed by `f`. -/
def State.modMedia (s : State) (f : Media → Media) : State := { s with media := f s.media }
/-- `s` with its clocks and memories changed by `f`. -/
def State.modClocks (s : State) (f : Clocks → Clocks) : State := { s with clocks := f s.clocks }
/-- `s` with its budget scheduler changed by `f`. -/
def State.modBudget (s : State) (f : Budget → Budget) : State := { s with budget := f s.budget }
/-- `s` with its firmware and flash changed by `f`. -/
def State.modFirmware (s : State) (f : Firmware → Firmware) : State := { s with firmware := f s.firmware }
/-- `s` with its service port, key store, calibration and supplies changed by `f`. -/
def State.modService (s : State) (f : Service → Service) : State := { s with service := f s.service }
/-- `s` with a die's temperature state changed by `f`. -/
def State.modTherm (s : State) (d : Die3) (f : Therm → Therm) : State :=
  match d with
  | .a => { s with thermA := f s.thermA }
  | .b => { s with thermB := f s.thermB }
  | .hub => { s with thermH := f s.thermH }
/-- `s` with the output `o` emitted. (DESIGN CHOICE, log entry 3) -/
def State.emit (s : State) (o : Out) : State := { s with out := o :: s.out }
/-- `s` with one more free value used. (DESIGN CHOICE, log entry 5) -/
def State.drawn (s : State) : State := { s with free := s.free + 1 }

/-! ### Hub, functions, rings, events -/

/-- The function `f`; 64 is the service port. -/
def State.func (s : State) (f : Nat) : Func := Tbl.get {} s.hub.funcs f
/-- `s` with function `f` changed by `g`. -/
def State.modFunc (s : State) (f : Nat) (g : Func → Func) : State :=
  s.modHub fun h => { h with funcs := Tbl.modify {} h.funcs f g }
/-- The PCI Express link `l`. -/
def State.link (s : State) (l : Nat) : HostLink := Tbl.get {} s.hub.links l
/-- `s` with PCI Express link `l` changed by `g`. -/
def State.modLink (s : State) (l : Nat) (g : HostLink → HostLink) : State :=
  s.modHub fun h => { h with links := Tbl.modify {} h.links l g }
/-- The ring context with global number `r`. -/
def State.ring (s : State) (r : Nat) : Ring := Tbl.get {} s.queues.rings r
/-- `s` with ring `r` changed by `g`. -/
def State.modRing (s : State) (r : Nat) (g : Ring → Ring) : State :=
  s.modQueues fun q => { q with rings := Tbl.modify {} q.rings r g }
/-- The event source `e`. -/
def State.event (s : State) (e : Nat) : EvSrc := Tbl.get {} s.queues.events e
/-- `s` with event source `e` changed by `g`. -/
def State.modEvent (s : State) (e : Nat) (g : EvSrc → EvSrc) : State :=
  s.modQueues fun q => { q with events := Tbl.modify {} q.events e g }

/-! ### Sources, canvases, correction, safety -/

/-- Source slot `k`. -/
def State.slot (s : State) (k : Nat) : Slot := Tbl.get {} s.frames.slots k
/-- `s` with slot `k` changed by `g`. -/
def State.modSlot (s : State) (k : Nat) (g : Slot → Slot) : State :=
  s.modFrames fun f => { f with slots := Tbl.modify {} f.slots k g }
/-- Buffer `b` of a slot. -/
def Slot.buf (k : Slot) (b : Nat) : Buf := Tbl.get {} k.bufs b
/-- `k` with buffer `b` changed by `g`. -/
def Slot.modBuf (k : Slot) (b : Nat) (g : Buf → Buf) : Slot := { k with bufs := Tbl.modify {} k.bufs b g }
/-- Canvas `c`. -/
def State.canvas (s : State) (c : Nat) : Canvas := Tbl.get {} s.frames.canvases c
/-- `s` with canvas `c` changed by `g`. -/
def State.modCanvas (s : State) (c : Nat) (g : Canvas → Canvas) : State :=
  s.modFrames fun f => { f with canvases := Tbl.modify {} f.canvases c g }
/-- Layer `l`. -/
def State.layer (s : State) (l : Nat) : Layer := Tbl.get {} s.frames.layers l
/-- `s` with layer `l` changed by `g`. -/
def State.modLayer (s : State) (l : Nat) (g : Layer → Layer) : State :=
  s.modFrames fun f => { f with layers := Tbl.modify {} f.layers l g }
/-- The correction state of tile `t`. -/
def State.corr (s : State) (t : Nat) : Corr := Tbl.get {} s.frames.corr t
/-- `s` with the correction state of tile `t` changed by `g`. -/
def State.modCorr (s : State) (t : Nat) (g : Corr → Corr) : State :=
  s.modFrames fun f => { f with corr := Tbl.modify {} f.corr t g }
/-- The safety state of tile `t`. -/
def State.safe (s : State) (t : Nat) : SafeTile := Tbl.get {} s.frames.safeTiles t
/-- `s` with the safety state of tile `t` changed by `g`. -/
def State.modSafe (s : State) (t : Nat) (g : SafeTile → SafeTile) : State :=
  s.modFrames fun f => { f with safeTiles := Tbl.modify {} f.safeTiles t g }
/-- Zone `z`. -/
def State.zone (s : State) (z : Nat) : Zone := Tbl.get {} s.frames.zones z
/-- `s` with zone `z` changed by `g`. -/
def State.modZone (s : State) (z : Nat) (g : Zone → Zone) : State :=
  s.modFrames fun f => { f with zones := Tbl.modify {} f.zones z g }
/-- The flash state of canvas `c`. -/
def State.flash (s : State) (c : Nat) : Flash := Tbl.get {} s.frames.flash c
/-- `s` with the flash state of canvas `c` changed by `g`. -/
def State.modFlash (s : State) (c : Nat) (g : Flash → Flash) : State :=
  s.modFrames fun f => { f with flash := Tbl.modify {} f.flash c g }
/-- The Scrim checker of region `r` of die `d`. -/
def State.scrim (s : State) (d : DieId) (r : Nat) : Scrim := Tbl.get {} s.frames.scrims (d.num * 4 + r)
/-- `s` with a Scrim checker changed by `g`. -/
def State.modScrim (s : State) (d : DieId) (r : Nat) (g : Scrim → Scrim) : State :=
  s.modFrames fun f => { f with scrims := Tbl.modify {} f.scrims (d.num * 4 + r) g }

/-- The banks of a table. -/
def State.table (s : State) (t : TableId) : LutBanks :=
  match t with
  | .inLut l => Tbl.get {} s.frames.inLuts l
  | .outLut c => Tbl.get {} s.frames.outLuts c
  | .mesh c => Tbl.get {} s.frames.meshes c

/-- `s` with the banks of a table changed by `f`. -/
def State.modTable (s : State) (t : TableId) (f : LutBanks → LutBanks) : State :=
  s.modFrames fun x =>
    match t with
    | .inLut l => { x with inLuts := Tbl.modify {} x.inLuts l f }
    | .outLut c => { x with outLuts := Tbl.modify {} x.outLuts c f }
    | .mesh c => { x with meshes := Tbl.modify {} x.meshes c f }

/-! ### Links, tiles, dies -/

/-- Tile-link port `p` (0 to 31 TLA, 32 to 63 TLB). -/
def State.port (s : State) (p : Nat) : Port := Tbl.get {} s.links.ports p
/-- `s` with port `p` changed by `g`. -/
def State.modPort (s : State) (p : Nat) (g : Port → Port) : State :=
  s.modLinks fun l => { l with ports := Tbl.modify {} l.ports p g }
/-- Tile `t`. -/
def State.tile (s : State) (t : Nat) : Tile := Tbl.get {} s.links.tiles t
/-- `s` with tile `t` changed by `g`. -/
def State.modTile (s : State) (t : Nat) (g : Tile → Tile) : State :=
  s.modLinks fun l => { l with tiles := Tbl.modify {} l.tiles t g }
/-- The newer of the two dies' copies of a tile's last STATUS (R250): by the tile's frame, then by arrival. -/
def Tile.newest (t : Tile) : Option StatusRec :=
  match t.statusA, t.statusB with
  | some a, some b => some (if b.frame < a.frame || (b.frame = a.frame && decide (b.at_ ≤ a.at_)) then a else b)
  | some a, none => some a
  | none, b => b
/-- `t` with a die's copy of its last STATUS replaced. -/
def Tile.setStatus (t : Tile) (d : DieId) (r : Option StatusRec) : Tile :=
  match d with
  | .a => { t with statusA := r }
  | .b => { t with statusB := r }
/-- The hop at position `pos` (0 to 15, from the west end) of port `p`. -/
def State.hop (s : State) (p pos : Nat) : Hop := Tbl.get {} s.links.hops (p * 32 + pos)
/-- `s` with a hop changed by `g`. -/
def State.modHop (s : State) (p pos : Nat) (g : Hop → Hop) : State :=
  s.modLinks fun l => { l with hops := Tbl.modify {} l.hops (p * 32 + pos) g }
/-- Twin die `d`. -/
def State.die (s : State) : DieId → Die
  | .a => s.dies.a
  | .b => s.dies.b
/-- `s` with twin die `d` changed by `g`. -/
def State.modDie (s : State) (d : DieId) (g : Die → Die) : State :=
  match d with
  | .a => s.modDies fun x => { x with a := g x.a }
  | .b => s.modDies fun x => { x with b := g x.b }
/-- `s` with the arbiter's state changed by `g`. -/
def State.modTwin (s : State) (g : Twin → Twin) : State := s.modDies fun x => { x with twin := g x.twin }
/-- Cluster `c` (0 to 15) of a die. -/
def Die.cluster (d : Die) (c : Nat) : Cluster := Tbl.get {} d.clusters c
/-- `d` with cluster `c` changed by `g`. -/
def Die.modCluster (d : Die) (c : Nat) (g : Cluster → Cluster) : Die :=
  { d with clusters := Tbl.modify {} d.clusters c g }
/-- Region `r` (0 to 3) of a die. -/
def Die.region (d : Die) (r : Nat) : Region := Tbl.get {} d.regions r
/-- `d` with region `r` changed by `g`. -/
def Die.modRegion (d : Die) (r : Nat) (g : Region → Region) : Die :=
  { d with regions := Tbl.modify {} d.regions r g }
/-- `s` with cluster `c` of die `d` changed by `g`. -/
def State.modCluster (s : State) (d : DieId) (c : Nat) (g : Cluster → Cluster) : State :=
  s.modDie d fun x => x.modCluster c g
/-- `s` with region `r` of die `d` changed by `g`. -/
def State.modRegion (s : State) (d : DieId) (r : Nat) (g : Region → Region) : State :=
  s.modDie d fun x => x.modRegion r g

/-- A tile's banks in a die (R121). -/
def Corr.side (x : Corr) : DieId → CorrSide
  | .a => x.sideA
  | .b => x.sideB
/-- `x` with a die's banks changed by `f`. -/
def Corr.modSide (x : Corr) (d : DieId) (f : CorrSide → CorrSide) : Corr :=
  match d with
  | .a => { x with sideA := f x.sideA }
  | .b => { x with sideB := f x.sideB }
/-- A record line of tile `t` is poisoned in a die (R129). -/
def State.poisonRecord (s : State) (d : DieId) (t line : Nat) : State :=
  s.modCorr t fun x => x.modSide d fun y => { y with poison := if y.poison.contains line then y.poison else line :: y.poison }

/-! ### Media, memory, thermal, service -/

/-- Serial audio port `n`. -/
def State.sap (s : State) (n : Nat) : Sap := Tbl.get {} s.media.saps n
/-- `s` with serial audio port `n` changed by `g`. -/
def State.modSap (s : State) (n : Nat) (g : Sap → Sap) : State :=
  s.modMedia fun m => { m with saps := Tbl.modify {} m.saps n g }
/-- Decode session `n`. -/
def State.dec (s : State) (n : Nat) : Dec := Tbl.get {} s.media.decs n
/-- `s` with decode session `n` changed by `g`. -/
def State.modDec (s : State) (n : Nat) (g : Dec → Dec) : State :=
  s.modMedia fun m => { m with decs := Tbl.modify {} m.decs n g }
/-- Encode session `n`. -/
def State.enc (s : State) (n : Nat) : EncSt := Tbl.get {} s.media.encs n
/-- `s` with encode session `n` changed by `g`. -/
def State.modEnc (s : State) (n : Nat) (g : EncSt → EncSt) : State :=
  s.modMedia fun m => { m with encs := Tbl.modify {} m.encs n g }
/-- Memory channel `ch` of a die. -/
def State.chan (s : State) (d : Die3) (ch : Nat) : Chan := Tbl.get {} s.clocks.chans (d.num * 32 + ch)
/-- `s` with a memory channel changed by `g`. -/
def State.modChan (s : State) (d : Die3) (ch : Nat) (g : Chan → Chan) : State :=
  s.modClocks fun c => { c with chans := Tbl.modify {} c.chans (d.num * 32 + ch) g }
/-- A die's temperature state. -/
def State.therm (s : State) : Die3 → Therm
  | .a => s.thermA
  | .b => s.thermB
  | .hub => s.thermH
/-- A twin die's operating point state. -/
def State.opState (s : State) : DieId → OpState
  | .a => s.clocks.opA
  | .b => s.clocks.opB
/-- `s` with a die's operating point state changed by `g`. -/
def State.modOp (s : State) (d : DieId) (g : OpState → OpState) : State :=
  match d with
  | .a => s.modClocks fun c => { c with opA := g c.opA }
  | .b => s.modClocks fun c => { c with opB := g c.opB }
/-- The value of the first entry with key `k`, `d` where there is none. -/
def assocGet {α β : Type} [DecidableEq α] (d : β) (l : List (α × β)) (k : α) : β :=
  match l.find? fun x => x.1 = k with
  | some x => x.2
  | none => d
/-- The list with the entry of `k` replaced, or added at the end. -/
def assocSet {α β : Type} [DecidableEq α] (l : List (α × β)) (k : α) (v : β) : List (α × β) :=
  if l.any fun x => x.1 = k then l.map fun x => if x.1 = k then (k, v) else x else l ++ [(k, v)]
/-- Clock gate `g`. -/
def State.gate (s : State) (g : GateId) : Gate := assocGet {} s.clocks.gates g
/-- `s` with clock gate `g` changed by `f`. -/
def State.modGate (s : State) (g : GateId) (f : Gate → Gate) : State :=
  s.modClocks fun c => { c with gates := assocSet c.gates g (f (assocGet {} c.gates g)) }
/-- Calibration item `i`. -/
def State.cal (s : State) (i : CalItem) : CalSt := assocGet {} s.service.cal i
/-- `s` with calibration item `i` changed by `f`. -/
def State.modCal (s : State) (i : CalItem) (f : CalSt → CalSt) : State :=
  s.modService fun v => { v with cal := assocSet v.cal i (f (assocGet {} v.cal i)) }
/-- NSP session `n` (0 or 1). -/
def State.nsp (s : State) (n : Nat) : Nsp := if n = 0 then s.service.nsp0 else s.service.nsp1
/-- `s` with NSP session `n` changed by `f`. -/
def State.modNsp (s : State) (n : Nat) (f : Nsp → Nsp) : State :=
  s.modService fun v => if n = 0 then { v with nsp0 := f v.nsp0 } else { v with nsp1 := f v.nsp1 }
/-- `s` with every element of `l` applied by `f`, in order. -/
def State.each {α : Type} (s : State) (l : List α) (f : State → α → State) : State := l.foldl f s

/-! ### Wall time, mode, free values -/

/-- Wall time in nanoseconds (R365). -/
def State.wall (s : State) : Nat := (s.time.counter >>> 32).toNat
/-- The time from package reset to wall time `t` in ns, which no step of wall time moves (R375). (DEDUCED, log entry 116) -/
def State.uptimeAt (s : State) (t : Nat) : Nat := ((t : Int) - s.hub.resetRef).toNat
/-- The time since package reset in ns: what the manual's intervals and delays are measured by. (DEDUCED, log entry 116) -/
def State.uptime (s : State) : Nat := s.uptimeAt s.wall
/-- A die's copy of the counter (R365). -/
def State.copyOf (s : State) : DieId → BitVec 96
  | .a => s.time.copyA
  | .b => s.time.copyB
/-- `s` with a die's copy of the counter at `v` (R365). -/
def State.setCopy (s : State) (d : DieId) (v : BitVec 96) : State :=
  s.modTime fun t => match d with
    | .a => { t with copyA := v }
    | .b => { t with copyB := v }
/-- The wall time t at which the request under way was taken (R316); now, outside the processing of a request. -/
def State.reqTime (s : State) : Nat := s.hub.reqAt.getD s.wall
/-- A free value (DESIGN CHOICE, log entry 5); the caller also advances the counter with `State.drawn`. -/
def State.freeWord (s : State) : Word := Config.freeWord s.free
/-- The package runs in Twin mode (R22). -/
def State.twin (s : State) : Bool := decide (s.hub.mode = .twin)
/-- The package runs in Span mode (R22). -/
def State.span (s : State) : Bool := decide (s.hub.mode = .span)

/-! ### The Partition and Limits Table (R335 to R339) -/

/-- The words of an entry of a PLT section; 0 for a reserved section (R335). -/
def pltWords (sec : Nat) : Nat :=
  if (1 ≤ sec ∧ sec ≤ 9) ∨ sec = 0x10 then 1
  else if sec = 0x11 then 3
  else if sec = 0x12 ∨ sec = 0x13 then 2
  else 0

/-- The entries of a PLT section (R335). -/
def pltEntries (sec : Nat) : Nat :=
  match sec with
  | 0x01 => 1 | 0x02 => 64 | 0x03 => 4 | 0x04 => 512 | 0x05 => 16 | 0x06 => 32 | 0x07 => 8 | 0x08 => 6 | 0x09 => 1024
  | 0x10 => 64 | 0x11 => 512 | 0x12 => 512 | 0x13 => 4 | _ => 0

/-- The key of word `w` of entry `i` of section `sec`. -/
def pltKey (sec i w : Nat) : Nat := sec * 65536 + i * 4 + w

/-- The factory value of the PLT word with key `k` (R136, R337 to R339). -/
def pltFactory (k : Nat) : Word :=
  let sec := k / 65536
  let i := k % 65536 / 4
  if sec = 1 then 1#64 ||| (175#64 <<< 8) ||| (16#64 <<< 16)
  else if sec = 2 then put (i * 4096) 18 0 ||| (4096#64 <<< 18) ||| (64#64 <<< 31)
  else if sec = 9 ∧ i < 64 then put i 7 0
  else if sec = 0x13 then
    (if k % 4 = 0 then 3#64 ||| (20#64 <<< 8) ||| (160#64 <<< 16) ||| (3#64 <<< 32) ||| (3#64 <<< 36) ||| (16384#64 <<< 40)
     else 52429#64 ||| (20#64 <<< 16))
  else 0

/-- Word `w` of entry `i` of section `sec` of a PLT. -/
def pltGet (t : Plt) (sec i w : Nat) : Word := Tbl.get (pltFactory (pltKey sec i w)) t (pltKey sec i w)

/-- A PLT with the words of `l` (key and value) written. -/
def pltSet (t : Plt) (l : List (Nat × Word)) : Plt := l.foldl (fun t x => Tbl.set (pltFactory x.1) t x.1 x.2) t

/-- Word `w` of an entry of the confirmed PLT. -/
def State.pltW (s : State) (sec i w : Nat) : Word := pltGet s.plt.table sec i w
/-- Word `w` of an entry of the PLT in force in the engines and Scrim (R133). -/
def State.pltF (s : State) (sec i w : Nat) : Word := pltGet s.plt.inForce sec i w
/-- The OWNER of an entry of an owner section (R336): 127 for no owner; E0 to E63 belong to functions 0 to 63. -/
def pltOwner (t : Plt) (sec i : Nat) : Nat := if sec = 9 ∧ i < 64 then i else fld (pltGet t sec i 0) 6 0
/-- The owner of a resource in the confirmed PLT. -/
def State.ownerOf (s : State) (sec i : Nat) : Nat := pltOwner s.plt.table sec i
/-- The resource lies in the partition of `who`; the service port's partition holds every resource (R320, R336). -/
def State.owns (s : State) (who sec i : Nat) : Bool := decide (64 ≤ who) || decide (s.ownerOf sec i = who)
/-- RING_BASE of function `f` (R338); the service port, which has no FUNCTION entry, counts rings from 0 (DEDUCED, log entry 13). -/
def State.ringBase (s : State) (f : Nat) : Nat := if f < 64 then fld (s.pltW 2 f 0) 17 0 else 0
/-- RING_COUNT of function `f` (R338); 4,096 for the service port (DEDUCED, log entry 13). -/
def State.ringCount (s : State) (f : Nat) : Nat := if f < 64 then fld (s.pltW 2 f 0) 30 18 else 4096
/-- MSIX_COUNT of function `f` (R338); the service port has no vector. (DEDUCED, log entry 13) -/
def State.msixCount (s : State) (f : Nat) : Nat := if f < 64 then fld (s.pltW 2 f 0) 37 31 else 0

end Sys2Proof.Machine
end

