-- ==== Sys2Proof/Machine/Ops.lean ====
section
/-! DEFINITION. The shared operations: MSI-X signals, events, completions, mailbox responses, long commands and
violations (10, 11, 12). -/

namespace Sys2Proof

open Sys2Proof.Machine

/-! ### Fields of a request (R312, R313, R317) -/

/-- The sender of a request as a principal and partition: the function number, or 64 for the service port. -/
def Req.who (r : Req) : Nat := min r.src 64
/-- OPCODE of a request. -/
def Req.opcode (r : Req) : Nat := fld r.header 15 0
/-- TAG of a request. -/
def Req.tag (r : Req) : BitVec 16 := BitVec.ofNat 16 (fld r.header 47 32)
/-- LEN of a request. -/
def Req.len (r : Req) : Nat := fld r.header 63 48
/-- The CHECK flag of a request (R313). -/
def Req.check (r : Req) : Bool := bit r.header 16
/-- The QUIET flag of a request (R313). -/
def Req.quiet (r : Req) : Bool := bit r.header 17
/-- The payload words that the request supplies: LEN of them, at most 511 (R317). -/
def Req.words (r : Req) : List Word := (List.range (min r.len 511)).map (wordAt r.payload)
/-- Word `i` of the parameter block, zero where the request does not supply it (R317). -/
def Req.word (r : Req) (i : Nat) : Word := if i < min r.len 511 then wordAt r.payload i else 0

end Sys2Proof

namespace Sys2Proof.Machine

/-! ### Functions in use (R283, R288) -/

/-- The number of PCI Express links that the straps give (R283); none for the reserved code. -/
def linkCount (straps : BitVec 2) : Nat :=
  match straps.toNat with
  | 0 => 1 | 1 => 2 | 2 => 4 | _ => 0

/-- Function `f` has a number in use: its link is up under the straps, and it is PF0 or an enabled VF (R288). -/
def State.inUse (s : State) (f : Nat) : Bool :=
  let l := s.link (f / 16)
  decide (f < 64) && decide (f / 16 < linkCount s.hub.straps) && decide (l.state = .up) &&
    (decide (f % 16 = 0) || (l.vfOn && decide (f % 16 ≤ l.numVfs)))

/-- `who` is a principal: the service port or the PF0 of a trained link (R342). -/
def State.principal (s : State) (who : Nat) : Bool := decide (64 ≤ who) || (decide (who % 16 = 0) && s.inUse who)

/-! ### MSI-X (R302, R309) -/

/-- A cause of vector `v` of function `f`: nothing while MSI-X is disabled, at or above MSIX_COUNT or with the control
processor failed (R33, R309); latched while masked; a message otherwise. -/
def signal (s : State) (f v : Nat) : State :=
  let F := s.func f
  let e := Tbl.get {} F.msixTable v
  if s.hub.cpFailed || !F.msixEnabled || decide (s.msixCount f ≤ v) then s
  else if F.msixMasked || e.masked then s.modFunc f fun x => { x with msixPending := Tbl.set false x.msixPending v true }
  else s.emit (.msix f v e.addr e.data)

/-- Vector 0 of every function in use (R302). -/
def signalStage (s : State) : State := s.each (below 64 s.inUse) fun s f => signal s f 0

/-- HUB_STATUS.STAGE becomes `g`; each change signals vector 0 of every function (R302). -/
def setStage (s : State) (g : Stage) : State :=
  if s.hub.stage = g then s else signalStage (s.modHub fun h => { h with stage := g })

/-! ### Events (R361 to R364) -/

/-- The NSP sessions that receive a record of source `src`: every open session receives E220 (R507). -/
def nspRoutes (s : State) (src : Nat) : List Route :=
  if src = 220 then ((below 2 fun n => (s.nsp n).isOpen).map fun n => ⟨64 + n, 0, 0⟩) else []

/-- Event source `src` raises `code` (R362, R363): counted, latched and queued for each of its routes; lost while the
control processor is failed (R33). The record's wall time is `at'` where a rule gives one. -/
def raise (s : State) (src code : Nat) (data : Word) (frame : Nat := 0) (at' : Option Nat := none) : State :=
  if s.hub.cpFailed then s
  else
    let r : EvRec := { source := src, code := BitVec.ofNat 8 code, data := data, frame := BitVec.ofNat 48 frame, time := at'.getD s.wall }
    let e := s.event src
    (s.modEvent src fun e => { e with count := e.count + 1, latest := some r }).modQueues fun q =>
      { q with deliver := q.deliver ++ (e.routes ++ nspRoutes s src).map fun x => (r, x) }

/-- The event source of offset `x` of a twin die (R361). -/
def dieSource (d : DieId) (x : Nat) : Nat :=
  match d with
  | .a => 256 + x
  | .b => 640 + x

/-! ### Completions (R44, R354, R358) -/

/-- A completion word 0: CTYPE, STATUS and the fields a defining rule adds above bit 15 (R354). -/
def ctWord (ctype status : Nat) (rest : Word := 0) : Word := put ctype 8 0 ||| put status 8 8 ||| rest

/-- The number of entries of a ring (R353). -/
def Ring.size (r : Ring) : Nat := 2 ^ r.log2size

/-- A COMPLETION ring that is running and has a free entry (R358). -/
def Ring.hasRoom (r : Ring) : Bool :=
  decide (r.state = .running) && decide ((r.prod - r.cons).toNat < r.size)

/-- The buffer that a RELEASE returns becomes FREE (R44). -/
def freeReleased (s : State) (release : Option (Nat × Nat)) : State :=
  match release with
  | none => s
  | some (k, b) =>
    s.modSlot k fun x => x.modBuf b fun y => if y.state = .released then { y with state := .free, uses := [] } else y

/-- Writes a completion into COMPLETION ring `cr`, which has room. -/
def writeCompletion (s : State) (cr : Nat) (h : Held) : State :=
  let r := s.ring cr
  freeReleased ((s.emit (.completion cr (r.prod.toNat % r.size) h.words)).modRing cr fun r =>
    { r with prod := r.prod + 1, wbDue := true }) h.release

/-- A completion falls due on COMPLETION ring `cr` as configured for the `gen`th time (R358): dropped when that
configuration is gone, posted when there is room and nothing waits before it, held otherwise. -/
def complete (s : State) (cr gen : Nat) (words : Desc) (release : Option (Nat × Nat) := none) : State :=
  let r := s.ring cr
  if r.state = .unconfigured || r.type != 3 || r.gen != gen then freeReleased s release
  else if r.hasRoom && r.held.isEmpty then writeCompletion s cr ⟨words, release⟩
  else s.modRing cr fun r => { r with held := r.held ++ [⟨words, release⟩] }

/-- Drops every held completion of a ring whose configuration ends; a dropped RELEASE frees its buffer (R358). -/
def dropHeld (s : State) (cr : Nat) : State :=
  ((s.ring cr).held.foldl (fun s h => freeReleased s h.release) s).modRing cr fun r => { r with held := [] }

/-- The global number of a function's local ring `i` (R353). -/
def State.globalRing (s : State) (f i : Nat) : Nat := s.ringBase f + i

/-- Ring `g` lies in the ring partition of function `f` (R353). -/
def State.ringOwned (s : State) (f g : Nat) : Bool :=
  decide (s.ringBase f ≤ g) && decide (g < s.ringBase f + s.ringCount f)

/-- A ring type whose entries are host descriptors (R354). -/
def descriptorType (t : Nat) : Bool := t == 1 || t == 2 || t == 5 || t == 6

/-- The rings the queue manager may fetch from: RUNNING descriptor rings with work whose COMPLETION ring is not full
(R357, R358). -/
def fetchable (s : State) (r : Ring) : Bool :=
  let c := s.ring r.cring
  descriptorType r.type && decide (r.state = .running) && r.prod != r.cons &&
    !(decide (c.size ≤ (c.prod - c.cons).toNat) || !c.held.isEmpty)

/-- The ring that round robin serves next: the first fetchable one after the last served, else the first (R357). -/
def nextFetch (s : State) : Option Nat :=
  let l := (s.queues.rings.filter fun x => fetchable s x.2).map fun x => x.1
  match l.find? fun g => s.queues.lastRing < g with
  | some g => some g
  | none => l.head?

/-- The queue manager reads the next descriptor of ring `g` from host memory (R357, R359): `none` when the read timed out or was poisoned. -/
def fetchDesc (s : State) (g : Nat) (fetched : Option Desc) : State :=
  let r := s.ring g
  let s1 := (s.emit (.hostRead r.owner (r.base + BitVec.ofNat 64 (32 * (r.cons.toNat % r.size))) 32)).modQueues fun q => { q with lastRing := g }
  match fetched with
  | none => s1.modRing g fun r => { r with state := .error, wbDue := true }
  | some d =>
    s1.modRing g fun r => { r with cons := r.cons + 1, wbDue := true, fetched := r.fetched ++ [⟨r.cring, (s.ring r.cring).gen, d⟩] }

/-- Takes the descriptor `d` of ring `g` for processing: the oldest fetched one; or, when none waits and the queue manager would fetch from
this ring next, the row stands for that fetch as well (DESIGN CHOICE, log entry 2). Answers the COMPLETION ring and its configuration. -/
def takeDesc (s : State) (g : Nat) (d : Desc) : Option (State × Nat × Nat) :=
  let s0 := if (s.ring g).fetched.isEmpty && decide (nextFetch s = some g) then fetchDesc s g (some d) else s
  match (s0.ring g).fetched with
  | x :: rest => if x.desc = d then some (s0.modRing g fun r => { r with fetched := rest }, x.cr, x.gen) else none
  | [] => none

/-- Takes descriptor `d` of source ring `g` and gives it a ticket, its place among the ring's completions (R55).
(DESIGN CHOICE, log entry 2) -/
def takeOrdered (s : State) (g : Nat) (d : Desc) : Option (State × Nat) :=
  match takeDesc s g d with
  | none => none
  | some (s1, cr, gen) =>
    let t := (s1.ring g).ticket
    some (s1.modRing g fun r => { r with ticket := t + 1, order := r.order ++ [⟨t, cr, gen, none⟩] }, t)

/-- Completes the ordered descriptors at the front of a ring whose completions are known. -/
def flushOrder (g : Nat) : List Ordered → State → State
  | [], s => s.modRing g fun r => { r with order := [] }
  | x :: rest, s =>
    match x.words with
    | some w => flushOrder g rest (complete s x.cr x.gen w)
    | none => s.modRing g fun r => { r with order := x :: rest }

/-- The completion of ticket `t` of source ring `g` is known: posted after those before it (R55). (DEDUCED, log entry 76) -/
def finishOrdered (s : State) (g t : Nat) (words : Desc) : State :=
  flushOrder g ((s.ring g).order.map fun x => if x.ticket = t then { x with words := some words } else x) s

/-- The COMPLETION ring that receives the completions of descriptor ring `g`, with its present configuration. -/
def State.feedOf (s : State) (g : Nat) : Nat × Nat := ((s.ring g).cring, (s.ring (s.ring g).cring).gen)

/-! ### Violations (R351) -/

/-- One more partition violation of function `who`; the service port has none (R320). -/
def violate (s : State) (who : Nat) : State :=
  if who < 64 then s.modFunc who fun f => { f with violations := f.violations + 1 } else s

/-- The pending proposal lapses with E202 code 0x03 and a cause (R344, R347, R349). -/
def lapseProposal (s : State) (cause : Nat) : State :=
  match s.plt.proposal with
  | none => s
  | some p => raise (s.modPlt fun t => { t with proposal := none }) 202 3 (p.pid.setWidth 64 ||| put cause 2 16)

/-- Reads of host memory by DMA under a function's requester ID (R310): requests of at most 4,096 bytes and of what the host permits.
(DESIGN CHOICE, log entry 3) -/
def readHost (s : State) (f : Nat) (addr : Word) (length : Nat) : State :=
  let m := max 1 (min 4096 (s.func f).maxRead)
  s.each (List.range (ceilDiv length m)) fun s i => s.emit (.hostRead f (addr + BitVec.ofNat 64 (i * m)) (min m (length - i * m)))

/-! ### Requests, responses and long commands (R303, R312 to R324) -/

/-- The header of a response (R312). -/
def respHeader (r : Req) (status : Nat) (trunc : Bool) (len : Nat) : Word :=
  put r.opcode 16 0 ||| put status 8 16 ||| putB trunc 24 ||| put r.tag.toNat 16 32 ||| put len 16 48

/-- The header of an NSP message (R507). -/
def nspHeader (type frag : Nat) (more : Bool) (nseq : BitVec 16) (length : Nat) : Word :=
  put type 8 0 ||| put frag 4 8 ||| putB more 12 ||| (nseq.setWidth 64 <<< 16) ||| put length 32 32

/-- A message leaves for NSP session `n` (R507): one of more than 1,288 bytes in fragments, in order. (DESIGN CHOICE, log entry 78) -/
def nspSend (s : State) (n type : Nat) (nseq : BitVec 16) (words : List Word) : State :=
  let l := chunks 161 words.length words
  if l.length ≤ 1 then s.emit (.nsp n (nspHeader type 0 false nseq (8 * words.length)) words)
  else s.each ((List.range l.length).zip l) fun s x =>
    s.emit (.nsp n (nspHeader type x.1 (decide (x.1 + 1 < l.length)) nseq (8 * x.2.length)) x.2)

/-- A message of the JRS64's own, under its next number. -/
def nspOwn (s : State) (n type : Nat) (words : List Word) : State :=
  (nspSend s n type (s.nsp n).own words).modNsp n fun x => { x with own := x.own + 1 }

/-- Posts the response (R303): into the function's mailbox while its STATE is BUSY (a reset discards it, R304), with
vector 0; or as the reply of the NSP session. -/
def respond (s : State) (r : Req) (status : Nat) (trunc : Bool) (payload : List Word) : State :=
  let msg := respHeader r status trunc payload.length :: payload
  if r.src < 64 then
    if (s.func r.src).mbox = .busy then
      signal (s.modFunc r.src fun f =>
        { f with respMem := msg, status := BitVec.ofNat 8 status, tag := r.tag, count := f.count + 1, mbox := .done }) r.src 0
    else s
  else
    (nspSend s (r.src - 64) 2 (s.nsp (r.src - 64)).nseq msg).modNsp (r.src - 64) fun n => { n with pendingReq := false }

/-- The number of long commands of a sender in flight (R321). -/
def inFlight (f : Func) : Nat := (f.longs.filter fun l => !l.done).length

/-- The id that the next long command of a sender gets. -/
def State.nextLong (s : State) (who : Nat) : Nat := (s.func who).longCount

/-- Records a long command that has been accepted (R321, R324); `canvas` is the canvas it names. -/
def startLong (s : State) (r : Req) (trunc : Bool) (canvas : Option Nat) : State :=
  s.modFunc r.who fun f =>
    let l : LongCmd := { id := f.longCount, opcode := BitVec.ofNat 16 r.opcode, tag := r.tag, trunc := trunc,
                         quiet := r.quiet, canvas := canvas, accepted := s.reqTime }
    let old := f.longs.take 15 ++ (f.longs.drop 15).filter fun l => !l.done
    { f with longs := l :: old, longCount := f.longCount + 1 }

/-- The latest frame number of a canvas, 0 for no canvas (R322). -/
def canvasFrame (s : State) (c : Option Nat) : Nat :=
  match c with
  | some c => (s.canvas c).frame
  | none => 0

/-- The event source of command completions of a sender (R322); the service port's stand in E220. -/
def longSource (who : Nat) : Nat := if who < 64 then who else 220

/-- A long command ends with `status` (R322, R324): its entry is done and, unless QUIET, its completion event is raised. Nothing happens
when a reset has removed it (R321) or the control processor has failed (R327); in STAGE 7 it waits for the return to STAGE 6 (R326). -/
def finishLong (s : State) (who id status : Nat) (trunc : Bool := false) : State :=
  match (s.func who).longs.find? fun l => l.id = id && !l.done with
  | none => s
  | some l =>
    if s.hub.cpFailed then s
    else if s.hub.stage = .restarting then s.modHub fun h => { h with owed := h.owed ++ [(who, id, status, trunc)] }
    else
    let s1 := s.modFunc who fun f => { f with longs := f.longs.map fun x =>
      if x.id = id then { x with done := true, status := BitVec.ofNat 8 status, trunc := x.trunc || trunc,
                                 completed := s.wall } else x }
    if l.quiet then s1
    else raise s1 (longSource who) 1
      (put l.opcode.toNat 16 0 ||| put status 8 16 ||| putB (l.trunc || trunc) 24 ||| put l.tag.toNat 16 32)
      (canvasFrame s l.canvas)

end Sys2Proof.Machine
end

