-- ==== Sys2Proof/Machine/Jcs.lean ====
section
/-! DEFINITION. How a JCS request is taken, checked in the order of R317 and answered (R316, R317, R320, R325). Each
command's own rules come as the `body`. -/

namespace Sys2Proof.Machine

/-- What the common checks need to know of an opcode (R317, R320, R328): whether every instance is long, who is entitled
to it, whether the request stays inside the sender's partition, and the LEN of its refused response. -/
structure JcsOp where
  opcode    : Nat
  long      : Bool := false
  principal : Bool := false
  service   : Bool := false
  reach     : State → Req → Bool := fun _ _ => true
  zeros     : State → Req → Nat := fun _ _ => 0

/-- The answer to a request: status, payload, TRUNC, the state with the request's effect, the canvas that a long
command names, and whether a CHECK of a commit gives it, which starts no long command (R313). -/
structure Ans where
  status  : Nat
  state   : State
  payload : List Word := []
  trunc   : Bool := false
  canvas  : Option Nat := none
  dry     : Bool := false

/-- OK with a payload and no effect. -/
def Ans.ok (s : State) (payload : List Word := []) : Ans := { status := 0, state := s, payload := payload }
/-- BUSY: no effect. -/
def Ans.busy (s : State) (payload : List Word := []) : Ans := { status := 2, state := s, payload := payload }
/-- BADLEN: no effect. -/
def Ans.badLen (s : State) : Ans := { status := 3, state := s }
/-- BADPARAM: no effect. -/
def Ans.badParam (s : State) : Ans := { status := 4, state := s }
/-- NOTREADY: no effect. -/
def Ans.notReady (s : State) : Ans := { status := 5, state := s }
/-- CONFLICT: no effect. -/
def Ans.conflict (s : State) : Ans := { status := 6, state := s }
/-- ACCEPTED, for a long command (R319). -/
def Ans.accepted (s : State) (trunc : Bool := false) (canvas : Option Nat := none) : Ans :=
  { status := 1, state := s, trunc := trunc, canvas := canvas }

/-- The firmware serves the sender now (R301, R325): the control processor runs; a function number in use at STAGE 6; an open NSP session
at STAGE 6 or 8. (DESIGN CHOICE, log entry 2) -/
def State.serves (s : State) (r : Req) : Bool :=
  !s.hub.cpFailed &&
    (if r.src < 64 then s.inUse r.src && decide (s.hub.stage = .ready)
     else decide (r.src < 66) && (s.nsp (r.src - 64)).isOpen && (decide (s.hub.stage = .ready) || decide (s.hub.stage = .halted)))

/-- The oldest accepted request whose sender is served, with its t (R316). -/
def State.nextRequest (s : State) : Option (Nat × Req) := s.hub.accepted.find? fun x => s.serves x.2

/-- Takes a request (R316): the oldest accepted one that can be served; or, when there is none, the request that the command row itself
brings, whose mailbox must then not be BUSY (DESIGN CHOICE, log entry 2). Its t is the time of its doorbell. -/
def takeRequest (s : State) (r : Req) : Option State :=
  if !s.serves r then none
  else
    match s.nextRequest with
    | some x =>
      if x.2 = r then some (s.modHub fun h => { h with accepted := h.accepted.erase x, reqAt := some x.1 }) else none
    | none =>
      let s1 := s.modHub fun h => { h with reqAt := some s.wall }
      if r.src < 64 then
        if (s.func r.src).mbox = .busy then none
        else some (s1.modFunc r.src fun f => { f with mbox := .busy, drop := false })
      else some s1

/-- The sender is entitled to the opcode and the request stays in its partition (R317 check 4). -/
def entitled (op : JcsOp) (s : State) (r : Req) : Bool :=
  decide (64 ≤ r.who) || ((!op.service) && (!op.principal || s.principal r.who) && op.reach s r)

/-- The opcodes that the service port carries in safe halt (R325). -/
def haltServes (opcode : Nat) : Bool := decide (0x0101 ≤ opcode ∧ opcode ≤ 0x0103) || decide (opcode / 256 = 0x0C)

/-- The answer to a request whose opcode is `op`'s, by the checks of R317 in order; `body` holds the command's own rules. -/
def answer (op : JcsOp) (body : State → Req → Ans) (s : State) (r : Req) : Ans :=
  let cut := decide (511 < r.len)
  if r.len = 0xFFFF then .badLen s
  else if s.hub.stage = .halted && !haltServes op.opcode then { Ans.notReady s with trunc := cut }
  else if !entitled op s r then { status := 0, state := violate s r.who, payload := List.replicate (op.zeros s r) 0 }
  else if op.long && decide (16 ≤ inFlight (s.func r.who)) then { Ans.busy s with trunc := cut }
  else
    let a := body s r
    { a with trunc := a.trunc || cut }

/-- The accepted requests are gone unanswered: their mailboxes return to IDLE and their NSP sessions are free for another.
(DESIGN CHOICE, log entry 109) -/
def dropRequests (s : State) : State :=
  let s1 := s.each s.hub.accepted fun s x =>
    if x.2.src < 64 then s.modFunc x.2.src fun f => { f with mbox := .idle } else s.modNsp (x.2.src - 64) fun n => { n with pendingReq := false }
  s1.modHub fun h => { h with accepted := [] }

/-- STAGE becomes 7 (R301, R326, R347): no mailbox is BUSY then, and the pending proposal lapses. -/
def beginRestart (s : State) : State :=
  setStage (dropRequests (lapseProposal (s.modHub fun h => { h with restartDue := false }) 2)) .restarting

/-- A restart that waited for the answers begins when no request is left to answer (R326). -/
def beginDue (s : State) : State :=
  if s.hub.restartDue && !s.hub.cpFailed && decide (s.hub.stage = .ready) && s.nextRequest.isNone then beginRestart s else s

/-- A request has been answered. -/
def endRequest (s : State) : State := beginDue (s.modHub fun h => { h with reqAt := none })

/-- Gives the answer to the sender: a long command that is ACCEPTED is recorded, and the response posted. -/
def giveAnswer (r : Req) (a : Ans) : State :=
  endRequest (respond (if a.status = 1 && !a.dry then startLong a.state r a.trunc a.canvas else a.state) r a.status a.trunc (a.payload.take 511))

/-- One JCS request, from its taking to its response. A request whose opcode is not `op`'s, or that cannot be taken now,
leaves the state as it is (DESIGN CHOICE, log entry 2). -/
def jcs (op : JcsOp) (body : State → Req → Ans) (r : Req) (s : State) : State :=
  if r.opcode ≠ op.opcode then s
  else
    match takeRequest s r with
    | none => s
    | some s1 => giveAnswer r (answer op body s1 r)

end Sys2Proof.Machine
end

