-- ==== Sys2Proof/Machine/Rings.lean ====
section
/-! DEFINITION. Rings, events and violation counters: RING_*, EVENT_ROUTE, VIOLATION_READ, the queue manager's and the
firmware's deliveries (12). -/

namespace Sys2Proof.Machine

/-! ### RING_CONFIG, RING_START, RING_STOP (R353 to R360) -/

/-- The request's local ring (R355, R360). -/
def reqRing (r : Req) : Nat := fld (r.word 0) 11 0

/-- The request's ring lies in the sender's partition (R353). -/
def ringReach (s : State) (r : Req) : Bool := decide (reqRing r < s.ringCount r.who)

/-- RING_CONFIG for the common checks (R355). -/
def opRingConfig : JcsOp := { opcode := 0x0210, reach := ringReach }
/-- RING_START for the common checks (R360). -/
def opRingStart : JcsOp := { opcode := 0x0211, reach := ringReach }
/-- RING_STOP for the common checks (R360). -/
def opRingStop : JcsOp := { opcode := 0x0212, reach := ringReach, zeros := fun _ _ => 1 }

/-- The function a ring works for: the sender, or for the service port the function whose run holds the ring
(DEDUCED, log entry 13). -/
def ringFunc (s : State) (who g : Nat) : Nat :=
  if who < 64 then who else ((below 64 fun f => s.ringOwned f g).head?).getD 64

/-- RING_CONFIG (R355, R358, R359). -/
def ringConfigBody (s : State) (r : Req) : Ans :=
  let w0 := r.word 0
  let g := s.globalRing r.who (reqRing r)
  let type := fld w0 15 12
  let size := fld w0 20 16
  let cring := fld w0 43 32
  let vector := fld (r.word 3) 6 0
  let cr := s.ring (s.globalRing r.who cring)
  let isDesc := descriptorType type
  if !(1 ≤ type && type ≤ 6) then .badParam s
  else if !(4 ≤ size && size ≤ 16) then .badParam s
  else if fld (r.word 1) 11 0 ≠ 0 || fld (r.word 2) 2 0 ≠ 0 then .badParam s
  else if isDesc && !(decide (cring < s.ringCount r.who) && cr.type == 3 && decide (cr.state ≠ .unconfigured) &&
      decide (cr.owner = ringFunc s r.who g)) then .badParam s
  else if vector ≠ 0 && (isDesc || decide (s.msixCount r.who ≤ vector)) then .badParam s
  else if (s.ring g).state = .running || (s.ring g).state = .error then .busy s
  else .ok ((dropHeld s g).modRing g fun x =>
    { state := .stopped, owner := ringFunc s r.who g, type := type, log2size := size,
      cring := if isDesc then s.globalRing r.who cring else 0, base := r.word 1, wb := r.word 2, vector := vector,
      gen := x.gen + 1, fetched := x.fetched, ticket := x.ticket, order := x.order })

/-- RING_CONFIG (R355). -/
def execRingConfig (r : Req) (s : State) : Host.Outcome State Fault Refusal := .next (jcs opRingConfig ringConfigBody r s)

/-- RING_START (R359, R360). -/
def ringStartBody (s : State) (r : Req) : Ans :=
  let g := s.globalRing r.who (reqRing r)
  let x := s.ring g
  match x.state with
  | .unconfigured => .badParam s
  | .running => .ok s
  | .error => .badParam s
  | .stopped =>
    if descriptorType x.type && decide ((s.ring x.cring).state ≠ .running) then .notReady s
    else .ok (s.modRing g fun x => { x with state := .running })

/-- RING_START (R360). -/
def execRingStart (r : Req) (s : State) : Host.Outcome State Fault Refusal := .next (jcs opRingStart ringStartBody r s)

/-- A RUNNING descriptor ring feeds COMPLETION ring `g` (R360). -/
def ringFed (s : State) (g : Nat) : Bool :=
  s.queues.rings.any fun x => descriptorType x.2.type && decide (x.2.state = .running) && decide (x.2.cring = g)

/-- The count of a ring that the JRS64 keeps: consumer count of a descriptor ring, producer count of the others (R356). -/
def Ring.count (r : Ring) : BitVec 32 := if descriptorType r.type then r.cons else r.prod

/-- The response word of RING_STOP (R360). -/
def ringStopWord (r : Ring) : Word := r.count.setWidth 64 ||| putB (decide (r.state = .error)) 32

/-- RING_STOP (R359, R360). -/
def ringStopBody (s : State) (r : Req) : Ans :=
  let g := s.globalRing r.who (reqRing r)
  let x := s.ring g
  match x.state with
  | .unconfigured => .ok s [0]
  | .stopped => .ok s [ringStopWord x]
  | _ =>
    if x.type == 3 && ringFed s g then .busy s
    else .ok (s.modRing g fun x => { x with state := .stopped }) [ringStopWord x]

/-- RING_STOP (R360). -/
def execRingStop (r : Req) (s : State) : Host.Outcome State Fault Refusal := .next (jcs opRingStop ringStopBody r s)

/-! ### Doorbells (R305, R356, R359) -/

/-- A doorbell's effect on a ring context (R356, R359). -/
def ringRung (r : Ring) (v : BitVec 32) : Ring :=
  if r.state ≠ .running then r
  else if descriptorType r.type then
    if r.size < (v - r.cons).toNat then { r with state := .error, wbDue := true } else { r with prod := v }
  else if (r.prod - r.cons).toNat < (v - r.cons).toNat then r
  else { r with cons := v }

/-- RING_DOORBELL (R301, R305, R311, R359): a write of `value` to the doorbell of local ring `i`. -/
def execRingDoorbell (f i : Nat) (value : BitVec 32) (s : State) : Host.Outcome State Fault Refusal :=
  .next <|
    if !s.inUse f || decide (s.hub.stage ≠ .ready) then s
    else if s.ringCount f ≤ i then violate s f
    else s.modRing (s.globalRing f i) fun r => ringRung r value

/-! ### Fetching, write-back, room (R357, R358) -/

/-- DESCRIPTOR_FETCH (R357, R359): the queue manager reads the next descriptor; `none` when the read timed out or was
poisoned. -/
def execDescriptorFetch (fetched : Option Desc) (s : State) : Host.Outcome State Fault Refusal :=
  .next <|
    match nextFetch s with
    | none => s
    | some g => fetchDesc s g fetched

/-- The write-back word of a ring (R356). -/
def wbWord (r : Ring) : Word := r.count.setWidth 64 ||| putB (decide (r.state = .error)) 63

/-- Writes a ring's count back and signals its owner (R357, R364): the VECTOR of a COMPLETION ring, and of an EVENT ring the vector of each
route by which records have come since the last write-back. -/
def writeBack (s : State) (g : Nat) : State :=
  let r := s.ring g
  let s1 := (s.emit (.writeBack g r.wb (wbWord r))).modRing g fun r => { r with wbDue := false, vectors := [] }
  s1.each ((if r.type = 3 then [r.vector] else if r.type = 4 then r.vectors else []).filter fun v => v ≠ 0) fun s v => signal s r.owner v

/-- RING_WRITE_BACK (R33, R357, R359): the count is written back; `ok` is false when the DMA timed out or was poisoned. -/
def execRingWriteBack (ring : Nat) (ok : Bool) (s : State) : Host.Outcome State Fault Refusal :=
  .next <|
    let r := s.ring ring
    if s.hub.cpFailed || !r.wbDue || decide (r.state = .unconfigured) then s
    else if ok then writeBack s ring
    else if r.state = .running then s.modRing ring fun r => { r with state := .error, wbDue := true }
    else s

/-- COMPLETION_ROOM (R66, R358): the oldest held completion of a ring that runs with a free entry is posted, unless the control processor has
failed. -/
def execCompletionRoom (ring : Nat) (s : State) : Host.Outcome State Fault Refusal :=
  .next <|
    let r := s.ring ring
    match r.held with
    | [] => s
    | h :: rest =>
      if r.hasRoom && !s.hub.cpFailed then writeCompletion (s.modRing ring fun r => { r with held := rest }) ring h else s

/-! ### Descriptor types (R354) -/

/-- The DTYPE of a descriptor (R354). -/
def dtypeOf (d : Desc) : Nat := fld d.w0 7 0

/-- A DTYPE belongs to a ring type (R354); the codes that R401 and R427 reserve do not. (DESIGN CHOICE, log entry 115) -/
def dtypeFits (type dtype : Nat) : Bool :=
  (type == 1 && (1 ≤ dtype && dtype ≤ 3)) || (type == 2 && (0x10 ≤ dtype && dtype ≤ 0x11)) || (type == 5 && dtype == 0x20) ||
    (type == 6 && (0x30 ≤ dtype && dtype ≤ 0x31))

/-- Takes a descriptor of DTYPE `t` from ring `g` of type `type` (R354). (DESIGN CHOICE, log entry 2) -/
def takeTyped (s : State) (g : Nat) (d : Desc) (type t : Nat) : Option (State × Nat × Nat) :=
  if dtypeOf d = t && (s.ring g).type = type then takeDesc s g d else none

/-- A pull waits on this ring, and the ring with it (R50). -/
def ringWaits (s : State) (g : Nat) : Bool :=
  s.frames.slots.any fun x =>
    match x.2.pullWait with
    | some p => p.ring = g
    | none => false

/-- DTYPE_MISMATCH (R354): a descriptor of a foreign DTYPE completes with CTYPE 0 and BADPARAM, in descriptor order (R55).
(DESIGN CHOICE, log entry 115) -/
def execDtypeMismatch (ring : Nat) (d : Desc) (s : State) : Host.Outcome State Fault Refusal :=
  .next <|
    if dtypeFits (s.ring ring).type (dtypeOf d) || ringWaits s ring then s
    else
      match takeOrdered s ring d with
      | none => s
      | some (s1, t) => finishOrdered s1 ring t ⟨ctWord 0 4, 0, 0, d.w3⟩

/-! ### Events (R362 to R364) -/

/-- The words of an event record with its ring fields (R362). -/
def eventWords (e : EvRec) (lost : Bool) (rseq : BitVec 32) : Desc :=
  ⟨put e.source 10 0 ||| (e.code.setWidth 64 <<< 16) ||| putB lost 24 ||| (rseq.setWidth 64 <<< 32),
   BitVec.ofNat 64 e.time, e.frame.setWidth 64, e.data⟩

/-- Delivers one record by one route (R364): written and counted, for the next write-back, which signals its vector; or dropped and
counted. -/
def deliverOne (s : State) (e : EvRec) (t : Route) : State :=
  if 64 ≤ t.func then
    if (s.nsp (t.func - 64)).isOpen then
      let d := eventWords e false 0
      nspOwn s (t.func - 64) 3 [d.w0, d.w1, d.w2, d.w3]
    else s
  else
    let r := s.ring t.ring
    if r.type != 4 || decide (r.state = .unconfigured) then s
    else if r.hasRoom then
      let d := eventWords e r.lost (r.rseq + 1)
      let v := if t.vector = 0 then r.vector else t.vector
      (s.emit (.eventRecord t.ring (r.prod.toNat % r.size) d)).modRing t.ring fun r =>
        { r with rseq := r.rseq + 1, lost := false, prod := r.prod + 1, wbDue := true
                 vectors := if r.vectors.contains v then r.vectors else r.vectors ++ [v] }
    else s.modRing t.ring fun r => { r with rseq := r.rseq + 1, lost := true }

/-- EVENT_DELIVERY (R33, R326, R364): the oldest routed record is delivered; not while the control processor is failed or
restarts. -/
def execEventDelivery (s : State) : Host.Outcome State Fault Refusal :=
  .next <|
    if s.hub.cpFailed || decide (s.hub.stage = .restarting) then s
    else
      match s.queues.deliver with
      | [] => s
      | (e, t) :: rest => deliverOne (s.modQueues fun q => { q with deliver := rest }) e t

/-- The sender may route the source: it owns it, or it is a PF0 and the source is E200, E201 or E202 (R336, R363). -/
def mayRoute (s : State) (who src : Nat) : Bool :=
  s.owns who 9 src || (decide (200 ≤ src ∧ src ≤ 202) && s.principal who)

/-- EVENT_ROUTE for the common checks (R363): a foreign source gives zeros, and so does a local ring beyond the run. -/
def opEventRoute : JcsOp :=
  { opcode := 0x0220, zeros := fun _ _ => 5,
    reach := fun s r => mayRoute s r.who (fld (r.word 0) 9 0) && decide (fld (r.word 0) 27 16 < s.ringCount r.who) }

/-- The five response words of EVENT_ROUTE (R363). -/
def routeWords (e : EvSrc) : List Word :=
  let d : Desc :=
    match e.latest with
    | some x => eventWords x false 0
    | none => ⟨0, 0, 0, 0⟩
  [d.w0, d.w1, d.w2, d.w3, e.count.setWidth 64]

/-- EVENT_ROUTE (R363). (DEDUCED, log entry 13) -/
def eventRouteBody (s : State) (r : Req) : Ans :=
  let w := r.word 0
  let src := fld w 9 0
  let g := s.globalRing r.who (fld w 27 16)
  let v := fld w 38 32
  let f := if r.who < 64 then r.who else (s.ring g).owner
  let others := fun (e : EvSrc) => e.routes.filter fun x => x.func != f
  if bit w 39 then
    if (s.ring g).type != 4 || decide ((s.ring g).state = .unconfigured) || decide ((s.ring g).owner ≠ f) then .badParam s
    else if v ≠ 0 && decide (s.msixCount f ≤ v) then .badParam s
    else .ok (s.modEvent src fun e => { e with routes := others e ++ [⟨f, g, v⟩] }) (routeWords (s.event src))
  else .ok (s.modEvent src fun e => { e with routes := others e }) (routeWords (s.event src))

/-- EVENT_ROUTE (R363). -/
def execEventRoute (r : Req) (s : State) : Host.Outcome State Fault Refusal := .next (jcs opEventRoute eventRouteBody r s)

/-! ### VIOLATION_READ (R352) -/

/-- VIOLATION_READ for the common checks (R352). -/
def opViolationRead : JcsOp := { opcode := 0x0230, service := true, zeros := fun _ _ => 32 }

/-- VIOLATION_READ (R352): word i holds the counters of functions 2i and 2i + 1. -/
def violationReadBody (s : State) (_r : Req) : Ans :=
  .ok s ((List.range 32).map fun i =>
    (s.func (2 * i)).violations.setWidth 64 ||| ((s.func (2 * i + 1)).violations.setWidth 64 <<< 32))

/-- VIOLATION_READ (R352). -/
def execViolationRead (r : Req) (s : State) : Host.Outcome State Fault Refusal :=
  .next (jcs opViolationRead violationReadBody r s)

end Sys2Proof.Machine
end

