-- ==== Sys2Proof/Machine/Timing.lean ====
section
/-! DEFINITION. A canvas's configuration fields, its flip grid, its tile placements and regions, the way to a tile, and
the patch-map marks (R73 to R76, R196 to R199, R208, R226). -/

namespace Sys2Proof.Machine

/-! ### Configuration fields (R73, R208) -/

/-- Word `i` of the canvas block (R73). -/
def CanvasCfg.cw (c : CanvasCfg) (i : Nat) : Word := wordAt c.cfg i
/-- Word `i` of the timing block (R208); FD_EVERY is 1 until a block is staged. -/
def CanvasCfg.tw (c : CanvasCfg) (i : Nat) : Word := if c.timing.isEmpty then (if i = 0 then 0x100 else 0) else wordAt c.timing i
/-- RGBW canvas (PRIM). -/
def CanvasCfg.rgbw (c : CanvasCfg) : Bool := bit (c.cw 0) 2
/-- Primaries per pixel. -/
def CanvasCfg.np (c : CanvasCfg) : Nat := if c.rgbw then 4 else 3
/-- RATE code. -/
def CanvasCfg.rate (c : CanvasCfg) : Nat := fld (c.cw 0) 7 3
/-- Canvas primaries BT.2020. -/
def CanvasCfg.bt2020 (c : CanvasCfg) : Bool := bit (c.cw 0) 8
/-- WORK encoding. -/
def CanvasCfg.work (c : CanvasCfg) : Nat := fld (c.cw 0) 10 9
/-- Blend tree in use. -/
def CanvasCfg.tree (c : CanvasCfg) : Bool := bit (c.cw 0) 11
/-- Output LUT enabled. -/
def CanvasCfg.olut (c : CanvasCfg) : Bool := bit (c.cw 0) 12
/-- Mesh warp enabled. -/
def CanvasCfg.mesh (c : CanvasCfg) : Bool := bit (c.cw 0) 13
/-- WIDTH. -/
def CanvasCfg.width (c : CanvasCfg) : Nat := fld (c.cw 0) 31 16
/-- HEIGHT. -/
def CanvasCfg.height (c : CanvasCfg) : Nat := fld (c.cw 0) 47 32
/-- FULL_NITS. -/
def CanvasCfg.fullNits (c : CanvasCfg) : Nat := fld (c.cw 1) 13 0
/-- SDR_NITS; 0 selects 203. -/
def CanvasCfg.sdrNits (c : CanvasCfg) : Nat := if fld (c.cw 1) 27 14 = 0 then 203 else fld (c.cw 1) 27 14
/-- HLG_PEAK; 0 selects 1,000. -/
def CanvasCfg.hlgPeak (c : CanvasCfg) : Nat := if fld (c.cw 1) 41 28 = 0 then 1000 else fld (c.cw 1) 41 28
/-- MESH_STEP. -/
def CanvasCfg.meshStep (c : CanvasCfg) : Nat := fld (c.cw 3) 2 0
/-- UNDER: HOLD policy. -/
def CanvasCfg.under (c : CanvasCfg) : Bool := bit (c.tw 0) 2
/-- WIN_EN. -/
def CanvasCfg.winEn (c : CanvasCfg) : Bool := bit (c.tw 0) 3
/-- FD_EVERY. -/
def CanvasCfg.fdEvery (c : CanvasCfg) : Nat := fld (c.tw 0) 15 8
/-- PHASE_NS. -/
def CanvasCfg.phase (c : CanvasCfg) : Nat := fld (c.tw 0) 63 32
/-- SCAN_OFFSET. -/
def CanvasCfg.scanOffset (c : CanvasCfg) : Nat := fld (c.tw 1) 31 0
/-- WIN_OPEN. -/
def CanvasCfg.winOpen (c : CanvasCfg) : Nat := fld (c.tw 2) 31 0
/-- WIN_LEN. -/
def CanvasCfg.winLen (c : CanvasCfg) : Nat := fld (c.tw 2) 63 32
/-- Undercoat value of primary `p`. -/
def CanvasCfg.undercoat (c : CanvasCfg) (p : Nat) : Nat := fld (c.tw 3) (16 * p + 15) (16 * p)
/-- The OFFSET of the tiles' scan (R209). -/
def CanvasCfg.offset (c : CanvasCfg) : Nat := if c.winEn then c.winOpen else c.scanOffset
/-- The canvas has been configured: its tiles and rate are set. -/
def CanvasCfg.isSet (c : CanvasCfg) : Bool := !c.cfg.isEmpty

/-! ### The flip grid (R196, R197) -/

/-- g(k): ⌊k × 10^9 × den / num⌋ + PHASE_NS (R196). -/
def CanvasCfg.grid (c : CanvasCfg) (k : Int) : Int :=
  let r := rateOf c.rate
  gridPoint r.1 r.2 k + (c.phase : Int)

/-- The least k with g(k) ≥ t. -/
def CanvasCfg.gridFrom (c : CanvasCfg) (t : Int) : Int :=
  let r := rateOf c.rate
  let back := ((c.phase : Int) - t) * (r.1 : Int) / (1000000000 * (r.2 : Int))
  0 - back

/-- The exact period T rounded up to whole ns. -/
def CanvasCfg.period (c : CanvasCfg) : Nat :=
  let r := rateOf c.rate
  ceilDiv (1000000000 * r.2) r.1

/-- The grid index of frame N (R197). -/
def Canvas.gridIndex (c : Canvas) (n : Nat) : Int := (c.anchorK : Int) + (n : Int) - (c.anchorN : Int)
/-- F(N) (R196, R197). -/
def Canvas.flipTime (c : Canvas) (n : Nat) : Int := c.committed.grid (c.gridIndex n)
/-- S(N), the grid point before F(N) (R197). -/
def Canvas.selTime (c : Canvas) (n : Nat) : Int := c.committed.grid (c.gridIndex n - 1)
/-- A time of the grid as a wall time. -/
def wallOf (t : Int) : Nat := t.toNat
/-- The first frame N, not before the next one to be selected, with S(N) ≥ t. -/
def Canvas.firstFrame (c : Canvas) (t : Nat) : Nat :=
  let n := c.committed.gridFrom (t : Int) + 1 - (c.anchorK : Int) + (c.anchorN : Int)
  max c.next n.toNat
/-- The canvas after a step of wall time by `delta` at `ts` (R375): its next flip is the first grid point of the new time scale at
or after ts + Δ + T. -/
def Canvas.stepped (c : Canvas) (ts : Nat) (delta : Int) : Canvas :=
  { c with anchorN := c.frame + 1, anchorK := (c.committed.gridFrom ((ts : Int) + delta + (c.committed.period : Int))).toNat }
/-- The first frame number of a canvas that starts from idle with S(N) ≥ t: its grid index (R197). -/
def CanvasCfg.startFrame (c : CanvasCfg) (t : Nat) : Nat := (c.gridFrom (t : Int) + 1).toNat

/-- The canvas as the timing change in progress re-anchors it (R222 step 6): F(M + 2) is the first point of the new grid at or after
F(M + 1) + T_new. -/
def Canvas.afterChange (c : Canvas) : Canvas :=
  match c.change with
  | none => c
  | some ch =>
    { c with committed := ch.cfg, anchorN := ch.m + 2
             anchorK := (ch.cfg.gridFrom (c.flipTime (ch.m + 1) + (ch.cfg.period : Int))).toNat }
/-- F(N) of a frame to come: from M + 2 of a timing change in progress on it lies on the new grid (R222). -/
def Canvas.flipAt (c : Canvas) (n : Nat) : Int :=
  match c.change with
  | some ch => if ch.m + 2 ≤ n then c.afterChange.flipTime n else c.flipTime n
  | none => c.flipTime n
/-- S(N) of a frame to come (R222). -/
def Canvas.selAt (c : Canvas) (n : Nat) : Int :=
  match c.change with
  | some ch => if ch.m + 2 ≤ n then c.afterChange.selTime n else c.selTime n
  | none => c.selTime n
/-- The first frame N with S(N) ≥ t that a change can land on: not frame M + 1 of a timing change in progress, but M + 2 (R225). -/
def Canvas.landing (c : Canvas) (t : Nat) : Nat :=
  match c.change with
  | some ch => if c.firstFrame t ≤ ch.m then c.firstFrame t else max (ch.m + 2) (c.afterChange.firstFrame t)
  | none => c.firstFrame t
/-- The latest frame of a canvas whose flip has passed at wall time `t` to come. -/
def Canvas.frameAt (c : Canvas) (t : Nat) : Nat := max c.frame ((c.anchorN : Int) + c.committed.gridFrom ((t : Int) + 1) - 1 - c.anchorK).toNat
/-- Canvas `c` as a pending step of wall time will leave it after the flips that come before the step, and the wall time `t` of now in its
time scale (R390): the frames a timing change is accepted for are chosen after the step's re-anchoring. -/
def State.afterStep (s : State) (c t : Nat) : Canvas × Nat :=
  match s.time.step with
  | some (delta, ts) => ({ s.canvas c with frame := (s.canvas c).frameAt ts }.stepped ts delta, ((max t ts : Nat) + delta).toNat)
  | none => (s.canvas c, t)
/-- A timing change that was accepted before the pending step of wall time was scheduled delays the step (R375, R390). -/
def State.stepDelayed (s : State) : Bool :=
  (List.range 4).any fun c => match (s.canvas c).change with
    | some ch => !ch.late
    | none => false

/-! ### Placements and regions (R74 to R76) -/

/-- TILE of a placement. -/
def Placement.tile (p : Placement) : Nat := fld p.w0 8 0
/-- ORIENT. -/
def Placement.orient (p : Placement) : Nat := fld p.w0 10 9
/-- Region columns. -/
def Placement.rcols (p : Placement) : Nat := fld p.w0 14 11 + 1
/-- Region rows. -/
def Placement.rrows (p : Placement) : Nat := fld p.w0 18 15 + 1
/-- TW. -/
def Placement.tw (p : Placement) : Nat := fld p.w0 29 19
/-- TH. -/
def Placement.th (p : Placement) : Nat := fld p.w0 40 30
/-- X. -/
def Placement.x (p : Placement) : Nat := fld p.w1 15 0
/-- Y. -/
def Placement.y (p : Placement) : Nat := fld p.w1 31 16
/-- Footprint width on the canvas (R75). -/
def Placement.fw (p : Placement) : Nat := if p.orient % 2 = 0 then p.tw else p.th
/-- Footprint height on the canvas (R75). -/
def Placement.fh (p : Placement) : Nat := if p.orient % 2 = 0 then p.th else p.tw
/-- Number of regions (R76). -/
def Placement.regions (p : Placement) : Nat := p.rcols * p.rrows
/-- Canvas pixel of tile pixel (u, v) (R75). -/
def Placement.toCanvas (p : Placement) (u v : Nat) : Nat × Nat :=
  match p.orient with
  | 0 => (p.x + u, p.y + v)
  | 1 => (p.x + p.th - 1 - v, p.y + u)
  | 2 => (p.x + p.tw - 1 - u, p.y + p.th - 1 - v)
  | _ => (p.x + v, p.y + p.tw - 1 - u)
/-- A region's rectangle in the tile raster: first column, first row, width, height (R76). -/
def Placement.rect (p : Placement) (i : Nat) : Nat × Nat × Nat × Nat :=
  let c := i % p.rcols
  let r := i / p.rcols
  let x0 := c * p.tw / p.rcols
  let x1 := (c + 1) * p.tw / p.rcols
  let y0 := r * p.th / p.rrows
  let y1 := (r + 1) * p.th / p.rrows
  (x0, y0, x1 - x0, y1 - y0)
/-- A region's rectangle on the canvas: left, top, right and bottom (exclusive). -/
def Placement.canvasRect (p : Placement) (i : Nat) : Nat × Nat × Nat × Nat :=
  let (x0, y0, w, h) := p.rect i
  let a := p.toCanvas x0 y0
  let b := p.toCanvas (x0 + w - 1) (y0 + h - 1)
  (min a.1 b.1, min a.2 b.2, max a.1 b.1 + 1, max a.2 b.2 + 1)

/-- The tiles of a configuration. (DESIGN CHOICE, log entry 125) -/
def CanvasCfg.tileIds (c : CanvasCfg) : List Nat := c.tiles.map Placement.tile
/-- The placement of a tile in a configuration. -/
def CanvasCfg.place (c : CanvasCfg) (t : Nat) : Option Placement := c.tiles.find? fun p => p.tile = t
/-- The canvas that holds tile `t` by a commit that has taken effect. -/
def State.canvasOf (s : State) (t : Nat) : Option Nat :=
  (below 4 fun c => (s.canvas c).committed.tileIds.contains t).head?
/-- The placement of tile `t` on its canvas. -/
def State.placement (s : State) (t : Nat) : Option Placement :=
  match s.canvasOf t with
  | some c => (s.canvas c).committed.place t
  | none => none
/-- The lowest-numbered running canvas. -/
def State.lowCanvas (s : State) : Option Nat := (below 4 fun c => (s.canvas c).running).head?
/-- Frame N of the lowest-numbered running canvas, 0 where none runs. -/
def State.lowFrame (s : State) : Nat :=
  match s.lowCanvas with
  | some c => (s.canvas c).frame
  | none => 0

/-! ### The way to a tile (R24, R169, R226) -/

/-- The twin dies that serve a tile's port: both of a loop in Twin, the port's own in Span (R23). -/
def State.portDies (s : State) (port : Nat) : List DieId := if s.span then (if port < 32 then [.a] else [.b]) else [.a, .b]
/-- The port of die `d` that serves a mapped port number (R226). -/
def State.diePort (s : State) (d : DieId) (port : Nat) : Nat :=
  if s.span then port
  else
    match d with
    | .a => port % 32
    | .b => port % 32 + 32
/-- The mapped port number, loop or chain, of a port (R4, R226). -/
def State.mapPort (s : State) (port : Nat) : Nat := if s.span then port else port % 32
/-- The tiles mapped to a loop or chain, by ascending position. -/
def State.portTiles (s : State) (port : Nat) : List Nat :=
  let l := below 512 fun t =>
    match (s.tile t).map with
    | some m => decide (m.port = port)
    | none => false
  l.mergeSort fun x y =>
    match (s.tile x).map, (s.tile y).map with
    | some a, some b => decide (a.pos ≤ b.pos)
    | _, _ => true
/-- The dies that compute and send a tile (R23). -/
def State.tileDies (s : State) (t : Nat) : List DieId :=
  match (s.tile t).map with
  | some m => s.portDies m.port
  | none => []
/-- The region of a die that serves a port (R24). -/
def portRegion (port : Nat) : Nat := port % 32 / 8
/-- Behind its fence, a die that does not run: its copy of the counter stands (R368). -/
def Die.stopped (x : Die) : Bool := x.fenced && !x.running
/-- A twin die that runs and is not fenced. -/
def State.up (s : State) (d : DieId) : Bool := (s.die d).running && !(s.die d).fenced
/-- The lead die in Twin mode, as the arbiter has it. -/
def State.lead (s : State) : DieId :=
  if s.dies.b.role = .lead || (s.dies.a.fenced && !s.dies.b.fenced) then .b else .a
/-- The lane rate of a code, in b/s (R244). The data rate D is this × 64/66 × 64/72 (01, Tile-link load). -/
def laneBps (code : Nat) : Nat :=
  match code with
  | 0 => 6445312500 | 1 => 12890625000 | _ => 25781250000

/-- The transmitter state of a port (R193, R261, R471): OFF where no tile is mapped, its die is fenced, or, in Span mode, its
region is lost. -/
def State.portTx (s : State) (p : Nat) : TxState :=
  let d : DieId := if p < 32 then .a else .b
  if !s.up d || (s.portTiles (s.mapPort p)).isEmpty || (s.span && ((s.die d).region (portRegion p)).lost) then .off
  else if (s.port p).tx = .quiet then .quiet
  else .on
/-- Every port of a die takes its transmitter state. (DEDUCED, log entry 70) -/
def enablePorts (s : State) (d : DieId) : State :=
  s.each (List.range 32) fun s k => s.modPort (d.num * 32 + k) fun x => { x with tx := s.portTx (d.num * 32 + k) }

/-! ### Patch-map marks (R199, R200) -/

/-- Marks region `r` of tile `t` for frame `n` of canvas `c`; region 256 stands for every region of the tile. -/
def markRegion (s : State) (c t r n : Nat) : State :=
  s.modCanvas c fun x => if x.marks.contains (t, r, n) then x else { x with marks := x.marks ++ [(t, r, n)] }
/-- Marks every region of canvas `c` for frame `n`. -/
def markCanvas (s : State) (c n : Nat) : State :=
  s.modCanvas c fun x => if x.markAll.contains n then x else { x with markAll := x.markAll ++ [n] }
/-- Marks every region of tile `t` for the next frame of its canvas. -/
def markTile (s : State) (t : Nat) : State :=
  match s.canvasOf t with
  | some c => markRegion s c t 256 (s.canvas c).next
  | none => s
/-- A region is marked for frame `n` by the marks carried forward. -/
def Canvas.marked (c : Canvas) (t r n : Nat) : Bool :=
  (c.markAll.any fun m => m ≤ n) || (c.marks.any fun m => m.1 = t && (m.2.1 = r || m.2.1 = 256) && m.2.2 ≤ n)

end Sys2Proof.Machine
end

