-- ==== Sys2Proof/Machine/SlotOps.lean ====
section
/-! DEFINITION. Shared operations on source slots and their buffers: configuration fields, buffer life, stopping
(R37 to R50, R67 to R69, R554). -/

namespace Sys2Proof.Machine

/-! ### Fields of the source configuration block (R68) -/

/-- Word `i` of the configuration. -/
def Slot.w (k : Slot) (i : Nat) : Word := wordAt k.cfg i
/-- KIND: 0 OFF, 1 PULL, 2 BAR2, 3 NET, 4 DECODE (R37). -/
def Slot.kind (k : Slot) : Nat := fld (k.w 0) 7 5
/-- FORMAT (R40). -/
def Slot.format (k : Slot) : Nat := fld (k.w 0) 11 8
/-- BUFFERS. -/
def Slot.buffers (k : Slot) : Nat := fld (k.w 0) 15 12
/-- RATE. -/
def Slot.rate (k : Slot) : Nat := fld (k.w 0) 20 16
/-- LATE_US. -/
def Slot.lateUs (k : Slot) : Nat := fld (k.w 0) 63 32
/-- WIDTH. -/
def Slot.width (k : Slot) : Nat := fld (k.w 1) 15 0
/-- HEIGHT. -/
def Slot.height (k : Slot) : Nat := fld (k.w 1) 31 16
/-- STRIDE. -/
def Slot.stride (k : Slot) : Nat := fld (k.w 1) 63 32
/-- The word of leg A (0) or B (1). -/
def Slot.legWord (k : Slot) (leg : Nat) : Word := k.w (2 + leg)
/-- The leg is enabled. -/
def Slot.legEn (k : Slot) (leg : Nat) : Bool := decide (k.kind = 3) && bit (k.legWord leg) 48
/-- The network port of a leg: 0 NETA0, 1 NETA1, 2 NETB0, 3 NETB1. -/
def Slot.legPort (k : Slot) (leg : Nat) : Nat := 2 * leg + fld (k.legWord leg) 49 49
/-- The counters of a leg. -/
def Slot.leg (k : Slot) (leg : Nat) : Leg := if leg = 0 then k.legA else k.legB
/-- `k` with a leg changed by `f`. -/
def Slot.modLeg (k : Slot) (leg : Nat) (f : Leg → Leg) : Slot :=
  if leg = 0 then { k with legA := f k.legA } else { k with legB := f k.legB }
/-- SESSION. -/
def Slot.session (k : Slot) : Nat := fld (k.w 5) 10 8

/-- Half bytes of storage per pixel of a FORMAT (R40). -/
def storageHalf (format : Nat) : Nat :=
  match format with
  | 0 => 8 | 1 => 8 | 2 => 16 | 3 => 16 | 4 => 8 | 5 => 3 | 6 => 6 | _ => 16

/-- Bytes of a stored line (R40). -/
def lineBytes (format width : Nat) : Nat :=
  match format with
  | 5 => width
  | 6 => 2 * width
  | f => storageHalf f * width / 2

/-- Bytes of one buffer (R41). -/
def Slot.bufBytes (k : Slot) : Nat :=
  if k.format = 5 || k.format = 6 then k.stride * k.height * 3 / 2 else k.stride * k.height

/-! ### Buffer contents (R42, R67) -/

/-- Die `d` receives mirror writes: it runs, fenced or not, as from RELEASE (R261). -/
def State.mirrored (s : State) (d : DieId) : Bool := (s.die d).running

/-- The key of buffer `b` of slot `k` in a die's memory. -/
def bufKey (k b : Nat) : Nat := k * 8 + b

/-- Writes bytes into a buffer in one die. -/
def writeDie (s : State) (d : DieId) (k b addr : Nat) (bytes : List Byte) : State :=
  s.modFrames fun f =>
    match d with
    | .a => { f with memA := Tbl.modify [] f.memA (bufKey k b) fun m => memWrite m addr bytes }
    | .b => { f with memB := Tbl.modify [] f.memB (bufKey k b) fun m => memWrite m addr bytes }

/-- Writes bytes into a buffer in both dies, as far as they are mirrored (R42, R67); with both fenced no die holds them.
(DESIGN CHOICE, log entry 118) -/
def writeBoth (s : State) (k b addr : Nat) (bytes : List Byte) : State :=
  let s1 := if s.mirrored .a then writeDie s .a k b addr bytes else s
  if s.mirrored .b then writeDie s1 .b k b addr bytes else s1

/-- The content of a buffer in a die. -/
def State.bufMem (s : State) (d : DieId) (k b : Nat) : Tbl Byte :=
  match d with
  | .a => Tbl.get [] s.frames.memA (bufKey k b)
  | .b => Tbl.get [] s.frames.memB (bufKey k b)

/-- Buffers of slot `k` no longer hold what they held: no layer can repeat it (R103). (DESIGN CHOICE, log entry 92) -/
def forgetBufs (s : State) (k : Nat) (l : List Nat) : State :=
  s.each (s.frames.layers.map fun x => x.1) fun s y => s.modLayer y fun x =>
    if x.lastSlot = k && (x.lastBuf.any fun b => l.contains b) then { x with lastBuf := none } else x

/-- Zeroes buffers of a slot in both dies (R42): no layer can repeat what they held (R103). (DESIGN CHOICE, log entries 77 and 92) -/
def zeroBuffers (s : State) (k : Nat) (l : List Nat) : State :=
  (forgetBufs s k l).modFrames fun f =>
    let clear := fun (m : Tbl (Tbl Byte)) => l.foldl (fun m b => Tbl.set [] m (bufKey k b) []) m
    { f with memA := clear f.memA, memB := clear f.memB }

/-! ### Buffer life (R44) -/

/-- A vote on frame `n` of canvas `c` is still open. -/
def State.votesOpen (s : State) (c n : Nat) : Bool := s.dies.twin.votes.any fun v => v.canvas = c && v.frame = n && !v.ended

/-- The buffers of a slot. -/
def Slot.bufIds (k : Slot) : List Nat := List.range k.buffers

/-- A buffer that may be named by a frame order: READY or IN-USE (R63). -/
def Buf.shown (b : Buf) : Bool := decide (b.state = .ready) || decide (b.state = .inUse)

/-- The newest frame of a slot that is READY or IN-USE (R63); a buffer of before the slot's last stop holds none of its frames (R64, R69). -/
def Slot.newest (k : Slot) : Option Nat :=
  (k.bufIds.filter fun b => (k.buf b).shown && !(k.buf b).old).foldl (fun a b =>
    match a with
    | none => some b
    | some x => if (k.buf x).frame < (k.buf b).frame then some b else some x) none

/-- A buffer enters RELEASED: a BAR2 buffer waits for its RELEASE completion, any other is FREE at once (R44). -/
def Slot.release (k : Slot) (b : Nat) (dropped : Bool) : Slot :=
  if k.kind = 2 then k.modBuf b fun x => { x with state := .released, dropped := dropped, reported := false, uses := [] }
  else k.modBuf b fun _ => {}

/-- A READY buffer is dropped (R44): counted and released with DROPPED. -/
def Slot.drop (k : Slot) (b : Nat) : Slot := { k.release b true with nDropped := k.nDropped + 1 }

/-- Releases every IN-USE buffer whose uses have all ended and that is no longer needed: a newer frame is READY or IN-USE,
or the slot was stopped, whether it runs again or not (R44, R69); one of an earlier configuration is FREE at once. -/
def Slot.sweep (k : Slot) : Slot :=
  k.bufIds.foldl (fun k b =>
    let x := k.buf b
    if x.state = .inUse && x.uses.isEmpty && (x.old || decide (k.newest ≠ some b)) then
      (if x.zeroDue then k.modBuf b fun _ => {} else k.release b false)
    else k) k

/-- A filled buffer becomes READY (R44, R72): it is numbered, and older READY frames of the slot are dropped. -/
def Slot.ready (k : Slot) (b now : Nat) (concealed : Bool) (media : Nat) : Slot :=
  let old := k.bufIds.filter fun j => j ≠ b && decide ((k.buf j).state = .ready)
  let k1 := old.foldl Slot.drop k
  let n := k1.frames + 1
  let k2 := k1.modBuf b fun x => { x with state := .ready, readyAt := now, frame := n, media := media, concealed := concealed, dropped := false }
  ({ k2 with frames := n, nReady := k2.nReady + 1,
             nConcealed := if concealed then k2.nConcealed + 1 else k2.nConcealed }).sweep

/-- Source slot `k` raises an event (R71). -/
def slotEvent (s : State) (k code : Nat) (data : Word := 0) : State := raise s (64 + k) code data

/-- Buffer `b` of slot `k` becomes READY; a late slot raises event 0x02 (R71). With both dies fenced a frame that no die holds becomes READY
too (R67). (DESIGN CHOICE, log entry 118) -/
def bufReady (s : State) (k b : Nat) (concealed : Bool := false) (media : Nat := 0) : State :=
  let late := (s.slot k).late
  let s1 := s.modSlot k fun x => { x.ready b s.wall concealed media with late := false }
  if late then slotEvent s1 k 2 else s1

/-- A FREE target buffer for a new frame (R50, R554): a FREE one, else the oldest READY one, dropped with event 0x06. -/
def freeTarget (s : State) (k : Nat) : Option (State × Nat) :=
  let x := s.slot k
  match x.bufIds.find? fun b => (x.buf b).state = .free with
  | some b => some (s, b)
  | none =>
    let l := x.bufIds.filter fun b => decide ((x.buf b).state = .ready)
    match l with
    | [] => none
    | h :: t =>
      let b := t.foldl (fun a b => if (x.buf b).frame < (x.buf a).frame then b else a) h
      some (slotEvent (s.modSlot k fun y => { y with nDropped := y.nDropped + 1 }) k 6, b)

/-- Buffer `b` starts to fill with a new frame (R44): what it held is gone. -/
def startFilling (s : State) (k b : Nat) : State :=
  (forgetBufs s k [b]).modSlot k fun x => x.modBuf b fun _ => { state := .filling, arrival := s.wall }

/-- The use of a buffer for frame `n` of canvas `c` ends (R46); a buffer whose zeroing has waited for it is zeroed with the last (R42). -/
def endUse (s : State) (k b c n : Nat) : State :=
  let s1 := s.modSlot k fun x => (x.modBuf b fun y => { y with uses := y.uses.filter fun u => u ≠ (c, n) }).sweep
  if ((s.slot k).buf b).zeroDue && decide (((s1.slot k).buf b).state = .free) then zeroBuffers s1 k [b] else s1

/-- The uses of buffers by frame `n` of canvas `c` end (R46). -/
def endUses (s : State) (c n : Nat) : State :=
  s.each (s.frames.slots.map fun x => x.1) fun s k =>
    s.each ((s.slot k).bufIds.filter fun b => ((s.slot k).buf b).uses.contains (c, n)) fun s b => endUse s k b c n

/-! ### Completions and stopping (R55, R69) -/

/-- A source completion (R55). -/
def srcCompletion (s : State) (ctype status slot buf : Nat) (trunc dropped : Bool) (frame : Nat) (user : Word) : Desc :=
  ⟨ctWord ctype status (put slot 5 16 ||| put buf 3 21 ||| putB trunc 24 ||| putB dropped 25),
   BitVec.ofNat 64 s.wall, put frame 48 0, user⟩

/-- Every descriptor of the slot's open pull completes as CANCELLED (R55, R69). -/
def cancelPulls (s : State) (k : Nat) : State :=
  let x := s.slot k
  let b := x.pullOpen.getD 0
  let segs := x.pullSegs ++ x.pullWait.toList
  let s1 := s.modSlot k fun x => { x with pullOpen := none, pullSegs := [], pullWait := none }
  s1.each segs fun s g => finishOrdered s g.ring g.ticket (srcCompletion s 4 0 k b false false 0 g.desc.w3)

/-- A filling buffer of a slot is given up (R44): FREE and counted. -/
def Slot.abandon (x : Slot) (b : Nat) : Slot := { x.modBuf b fun _ => {} with nIncomplete := x.nIncomplete + 1 }

/-- The buffers of a stopping slot (R44, R69): FILLING ones are given up, READY ones dropped, IN-USE ones freed as their use ends.
(DEDUCED, log entry 76) -/
def Slot.stopBuf (x : Slot) (b : Nat) : Slot :=
  match (x.buf b).state with
  | .filling => x.abandon b
  | .ready => x.drop b
  | .inUse => x.modBuf b fun y => { y with old := true }
  | _ => x

/-- IGMPv3 membership of the enabled legs of a flow (R56, R411): a leg of a multicast group is joined for the source of its filter alone where
it has one. A report leaves at each start and stop. (DESIGN CHOICE, log entry 97) -/
def reportLegs (s : State) (on : Nat → Bool) (port : Nat → Nat) (leg : Nat → Word) (filters : Word) (join : Bool) : State :=
  s.each ((List.range 2).filter fun i => on i && decide (fld (leg i) 31 28 = 14)) fun s i =>
    s.emit (.igmp (port i) join (BitVec.ofNat 32 (fld (leg i) 31 0)) (BitVec.ofNat 32 (fld filters (32 * i + 31) (32 * i))))

/-- The membership reports of a slot's legs (R56). (DESIGN CHOICE, log entry 97) -/
def reportGroups (s : State) (k : Nat) (join : Bool) : State :=
  let x := s.slot k
  reportLegs s x.legEn x.legPort x.legWord (x.w 4) join

/-- The slot stops (R69): its FILLING frame is cancelled and counted (R44), its BAR2 pages are no longer mapped (R306).
(DEDUCED, log entry 76) (DESIGN CHOICE, log entry 97) -/
def stopSlot (s : State) (k : Nat) : State :=
  let s1 := reportGroups (cancelPulls s k) k false
  s1.modSlot k fun x =>
    let x1 := x.bufIds.foldl Slot.stopBuf x
    ({ x1 with started := false, net := none, bar2 := [], legA := { x1.legA with lost := false },
               legB := { x1.legB with lost := false } }).sweep

end Sys2Proof.Machine
end

