-- ==== Sys2Proof/Machine/AudioOps.lean ====
section
/-! DEFINITION. Shared operations on serial audio ports: configuration fields, sample grid, play delay, changes at zero crossings
(R391 to R399, R403). -/

namespace Sys2Proof.Machine

/-! ### Fields of SAP_CONFIG (R403) -/

/-- Word `i` of the configuration. -/
def Sap.w (p : Sap) (i : Nat) : Word := wordAt p.cfg i
/-- DIR: an input port. -/
def Sap.input (p : Sap) : Bool := bit (p.w 0) 3
/-- FMT. -/
def Sap.fmt (p : Sap) : Nat := fld (p.w 0) 5 4
/-- Slots of the format (R391). -/
def Sap.slots (p : Sap) : Nat := if p.fmt = 0 then 2 else if p.fmt = 1 then 8 else 16
/-- FSDLY. -/
def Sap.fsdly (p : Sap) : Bool := bit (p.w 0) 10
/-- WS and SD within one sample period (R391). -/
def Sap.frame (p : Sap) : SerialFrame :=
  if p.fmt = 0 then ⟨List.replicate 32 false ++ List.replicate 32 true, 1⟩
  else ⟨true :: List.replicate (32 * p.slots - 1) false, if p.fsdly then 1 else 0⟩
/-- The sample rate of a RATE code in Hz (R403). -/
def rateHz (code : Nat) : Nat :=
  match code with
  | 0 => 32000 | 1 => 44100 | 2 => 48000 | 3 => 88200 | _ => 96000
/-- RATE. -/
def Sap.rate (p : Sap) : Nat := fld (p.w 0) 8 6
/-- Fs in Hz. -/
def Sap.fs (p : Sap) : Nat := rateHz p.rate
/-- WL: 16-bit samples. -/
def Sap.wl16 (p : Sap) : Bool := bit (p.w 0) 9
/-- CLK: AWCLK. -/
def Sap.aw (p : Sap) : Bool := bit (p.w 0) 11
/-- CHN. -/
def Sap.chn (p : Sap) : Nat := fld (p.w 0) 16 12
/-- FEED: ST 2110-30. -/
def Sap.net (p : Sap) : Bool := bit (p.w 0) 17
/-- ALIGN. -/
def Sap.align (p : Sap) : Nat := fld (p.w 0) 19 18
/-- LAYER. -/
def Sap.layer (p : Sap) : Nat := fld (p.w 0) 23 20
/-- DELAY_US. -/
def Sap.delayUs (p : Sap) : Int := signed 32 (fld (p.w 0) 63 32)
/-- RING. -/
def Sap.ring (p : Sap) : Nat := fld (p.w 1) 11 0
/-- AWRATE. -/
def Sap.awRate (p : Sap) : Nat := fld (p.w 1) 18 16
/-- The word of leg `leg` of part `i`. -/
def Sap.legWord (p : Sap) (i leg : Nat) : Word := p.w (2 + 4 * i + leg)
/-- The map word of part `i`. -/
def Sap.map (p : Sap) (i : Nat) : Word := p.w (5 + 4 * i)
/-- Part `i` is in use: an ST 2110-30 feed of an output port. -/
def Sap.partOn (p : Sap) (i : Nat) : Bool := !p.input && p.net && bit (p.map i) 12
/-- Leg `leg` of part `i` is enabled. -/
def Sap.legOn (p : Sap) (i leg : Nat) : Bool := p.partOn i && bit (p.legWord i leg) 48
/-- The network port of a leg. -/
def Sap.legPort (p : Sap) (i leg : Nat) : Nat := 2 * leg + fld (p.legWord i leg) 49 49
/-- NCH of a part. -/
def Sap.nch (p : Sap) (i : Nat) : Nat := fld (p.map i) 5 3 + 1
/-- The port has been started and has not yet stopped. -/
def Sap.started (p : Sap) : Bool := decide (p.state ≠ .stopped)
/-- The active channels. -/
def Sap.channels (p : Sap) : List Nat := List.range p.chn
/-- Channel `ch` is muted. -/
def Sap.mutedAt (p : Sap) (ch : Nat) : Bool := p.muted.getLsbD ch
/-- Every active channel is muted. -/
def Sap.allMuted (p : Sap) : Bool := p.channels.all p.mutedAt

/-! ### Grid and events (R393 to R395, R406) -/

/-- Wall time of the start of a block after `base`, rounded down (R394). -/
def Sap.blockStart (p : Sap) : Nat := p.base + 64 * p.block * 1000000000 / p.fs

/-- Port `n` raises an event (R406). -/
def sapEvent (s : State) (n code : Nat) (data : Word := 0) : State := raise s (204 + n) code data

/-- A step of wall time by Δ moves the sample grid (R393, R397): a port on the system counter goes on with the first block of the new
time scale, a port on AWCLK keeps its edges. -/
def stepSaps (s : State) (delta : Int) : State :=
  s.modMedia fun m => { m with saps := m.saps.map fun x =>
    (x.1, if !x.2.started then x.2
      else if x.2.aw then { x.2 with base := ((x.2.base : Int) + delta).toNat }
      else { x.2 with block := ceilDiv (s.wall * x.2.fs) 64000000000 }) }

/-! ### The play delay (R396) -/

/-- D of a port whose ALIGN is not LAYER. (DEDUCED, log entry 47) -/
def Sap.fixedDelay (p : Sap) : Int := if p.align = 2 then p.delayUs * 1000 else 0

/-- D is known: always but for ALIGN 1 before the first new frame. -/
def Sap.delayKnown (p : Sap) : Bool := decide (p.align ≠ 1) || p.aligned

/-- A new frame of layer `l` has been shown with this difference: the layer's median is taken, and D of its ports (R396).
(DEDUCED, log entry 47) -/
def showLayer (s : State) (l slot frame : Nat) (diff : Int) : State :=
  let x := Tbl.get {} s.media.shows l
  let y : LayerShow := { last := some (slot, frame), diffs := (diff :: x.diffs).take 16 }
  s.modMedia fun m => { m with
    shows := Tbl.set {} m.shows l y
    saps := m.saps.map (fun z => (z.1,
      if z.2.started && !z.2.input && decide (z.2.align = 1) && decide (z.2.layer = l) then
        { z.2 with aligned := true, delay := medianLow y.diffs + z.2.delayUs * 1000 }
      else z.2)) }

/-- The layers that show a new frame at the flip of frame `n` at `f` give F(N) minus the frame's reference time (R396): its media time
for a NET slot, its ready time for another. With the control processor failed D is frozen (R407). -/
def showLayers (s : State) (o : FrameOrder) (f : Int) : State :=
  if s.hub.cpFailed then s
  else s.each o.choices fun s c =>
    match c.buf with
    | some b =>
      let x := s.slot c.slot
      let r := if x.kind = 3 then (x.buf b).media else (x.buf b).readyAt
      if c.fresh && decide ((Tbl.get {} s.media.shows c.layer).last ≠ some (c.slot, c.frame)) then
        showLayer s c.layer c.slot c.frame (f - (r : Int))
      else s
    | none => s

/-! ### Changes at zero crossings (R398) -/

/-- A change of a channel is scheduled; it replaces the pending one (R407). A channel that is already so keeps no change. -/
def Sap.change (p : Sap) (ch : Nat) (c : ChanChange) : Sap :=
  let done := match c with
    | .mute => p.mutedAt ch
    | .unmute => !p.mutedAt ch
  { p with changes := Tbl.set none p.changes ch (if done then none else some c), waited := Tbl.set 0 p.waited ch 0 }
/-- Every active channel mutes at its next zero crossing. -/
def Sap.mute (p : Sap) : Sap := p.channels.foldl (fun p ch => p.change ch .mute) p
/-- Every active channel that the host has not muted unmutes at its next zero crossing; a port that stops stays muted. -/
def Sap.unmute (p : Sap) : Sap :=
  if p.stopping then p else (p.channels.filter fun ch => !p.hostMute.getLsbD ch).foldl (fun p ch => p.change ch .unmute) p
/-- A channel takes its change. -/
def Sap.take (p : Sap) (ch : Nat) (c : ChanChange) : Sap :=
  let m := BitVec.ofNat 16 (2 ^ ch)
  { p with changes := Tbl.set none p.changes ch none,
           muted := match c with
             | .mute => p.muted ||| m
             | .unmute => p.muted &&& ~~~m }
/-- Every channel takes its pending change at once. -/
def Sap.takeAll (p : Sap) : Sap := p.changes.foldl (fun p x =>
  match x.2 with
  | some c => p.take x.1 c
  | none => p) p

/-- The bits of a slot word that hold its sample (R391). -/
def Sap.sampleBits (p : Sap) (w : BitVec 32) : BitVec 32 := w &&& (if p.wl16 then 0xFFFF0000#32 else 0xFFFFFF00#32)

/-- Two samples of opposite sign (R398). -/
def opposite (v w : BitVec 32) : Bool := decide (v ≠ 0) && decide (w ≠ 0) && v.msb != w.msb

/-- A channel's pending change takes effect at a sample `v` (R398): it is zero or opposite in sign to the one before it, or the change has
waited for 10 ms. -/
def Sap.changesAt (p : Sap) (ch : Nat) (v : BitVec 32) : Bool :=
  decide (v = 0) || opposite v (p.before.getD ch 0) || decide (p.fs ≤ 100 * Tbl.get 0 p.waited ch)

/-- One sample time of a port: each channel whose change takes effect at its sample takes it; the words of the channels that are not muted,
zero for the others (R391, R398). -/
def Sap.sample (p : Sap) (words : List (BitVec 32)) : Sap × List (BitVec 32) :=
  let vs := p.channels.map fun ch => p.sampleBits (words.getD ch 0)
  let q := p.channels.foldl (fun q ch =>
    match Tbl.get none q.changes ch with
    | none => q
    | some c => if p.changesAt ch (vs.getD ch 0) then q.take ch c else { q with waited := Tbl.modify 0 q.waited ch (· + 1) }) p
  ({ q with before := vs }, p.channels.map fun ch => if q.mutedAt ch then 0 else vs.getD ch 0)

/-- An audio completion (R402). (DEDUCED, log entry 37) -/
def sapCompletion (ctype status n : Nat) (gap : Bool) (time done : Nat) (user : Word) : Desc :=
  ⟨ctWord ctype status (put n 3 16 ||| putB gap 19), BitVec.ofNat 64 time, put done 16 0, user⟩

/-- A PLAY buffer returns to the host with the blocks read so far (R401, R402). -/
def givePlay (s : State) (n : Nat) (b : PlayBuf) : State :=
  complete s b.cr b.gen (sapCompletion 0x30 0 n b.gap b.time (b.done / 64) b.desc.w3)

/-- The membership reports of a port's flow parts (R56, R400). (DESIGN CHOICE, log entry 97) -/
def reportSap (s : State) (n : Nat) (join : Bool) : State :=
  let p := s.sap n
  s.each (List.range 2) fun s i => reportLegs s (p.legOn i) (p.legPort i) (p.legWord i) (p.w (4 + 4 * i)) join

/-- A port that stops and is wholly muted stops BCLK and WS (R404): event 0x02; the buffers it holds return with the blocks written or read
(DEDUCED, log entry 37). -/
def endStop (s : State) (n : Nat) : State :=
  let p := s.sap n
  if p.started && p.stopping && p.allMuted then
    let s1 := s.each p.capBufs fun s b => complete s b.cr b.gen (sapCompletion 0x31 0 n b.gap b.stamp b.done b.desc.w3)
    let s2 := reportSap (s1.each p.reading.toList fun s b => givePlay s n b) n false
    sapEvent (s2.modSap n fun p =>
      { p with state := .stopped, stopping := false, changes := [], waited := [], before := [], held := [], nextMedia := none,
               reading := none, seen := [], capBufs := [], aligned := false, legLost := [], awUsed := false, slewing := false }) n 2
  else s

end Sys2Proof.Machine
end

