-- ==== Sys2Proof/Machine/Line.lean ====
section
/-! DEFINITION. The line code of a tile link: code words and their check bytes, groups, blocks, the scrambler, frames on the line and
the judgement of a received frame (R161 to R166, R179). -/

namespace Sys2Proof.Machine

/-! ### Code words (R162) -/

/-- The number of set bits of an 8-bit value. -/
def ones8 (v : Nat) : Nat := (List.range 8).countP fun i => v.testBit i

/-- The columns c(0) to c(63) (R162): the values with three bits set in ascending order, then the eight smallest with five. -/
def columns : List Nat := (below 256 fun v => ones8 v = 3) ++ (below 256 fun v => ones8 v = 5).take 8

/-- The check byte of a data word (R162): the exclusive OR of the columns of its set bits. -/
def checkByte (w : Word) : Byte :=
  ((List.range 64).zip columns).foldl (fun c x => if bit w x.1 then c ^^^ BitVec.ofNat 8 x.2 else c) 0

/-- What the syndrome of a received code word says (R162). -/
inductive Decoded where
  | clean (w : Word)
  | fixed (w : Word)
  | bad
  deriving DecidableEq, Repr

/-- A received code word by its syndrome (R162): valid, corrected in a check or a data bit, or uncorrectable. -/
def decodeCode (c : Code) : Decoded :=
  let syn := (c.check ^^^ checkByte c.data).toNat
  if syn = 0 then .clean c.data
  else if ones8 syn = 1 then .fixed c.data
  else
    match columns.findIdx? fun x => x = syn with
    | some i => .fixed (c.data ^^^ BitVec.ofNat 64 (2 ^ i))
    | none => .bad

/-- The code word of a data word. -/
def codeOf (w : Word) : Code := ⟨w, checkByte w⟩

/-! ### Groups, blocks and the scrambler (R161, R163) -/

/-- The control block types IDLE, START and QUIET (R161). -/
def blkIdle : Block := ⟨true, 0x1E⟩
/-- START (R161). -/
def blkStart : Block := ⟨true, 0x78⟩
/-- QUIET (R161). -/
def blkQuiet : Block := ⟨true, 0x2D⟩

/-- The types that R161 lists; any other is reserved. -/
def knownControl (t : Byte) : Bool := t = 0x1E || t = 0x78 || t = 0x2D

/-- The string of eight code words (R163): word j in bits [72j + 71 : 72j], its data below its check byte. -/
def groupString : List Code → Nat
  | [] => 0
  | c :: rest => c.data.toNat + c.check.toNat * 2 ^ 64 + groupString rest * 2 ^ 72

/-- The nine data blocks of a group (R163). -/
def groupBlocks (g : List Code) : List Block :=
  let n := groupString g
  (List.range 9).map fun b => ⟨false, BitVec.ofNat 64 (n / 2 ^ (64 * b))⟩

/-- One bit through the self-synchronous scrambler x^58 + x^39 + 1 (R161): the state holds the last 58 bits sent, the latest lowest. -/
def scrambleBit (x : BitVec 58 × List Bool) (b : Bool) : BitVec 58 × List Bool :=
  let o := b != (x.1.getLsbD 38 != x.1.getLsbD 57)
  ((x.1 <<< 1) ||| (if o then 1 else 0), o :: x.2)

/-- A block's payload through the scrambler, bit 0 first (R161, R163); the sync header is not scrambled. -/
def scrambleBlock (st : BitVec 58) (b : Block) : BitVec 58 × Block :=
  let r := ((List.range 64).map fun i => bit b.payload i).foldl scrambleBit (st, [])
  (r.1, ⟨b.control, r.2.foldl (fun w o => (w <<< 1) ||| (if o then 1 else 0)) 0⟩)

/-- Blocks as they leave the scrambler from state `st` on (R161). (DESIGN CHOICE, log entry 99) -/
def scramble (st : BitVec 58) : List Block → List Block
  | [] => []
  | b :: rest =>
    let r := scrambleBlock st b
    r.2 :: scramble r.1 rest

/-! ### Frames on the line (R164, R165) -/

/-- The CRC of a frame's words (R165). -/
def frameCrc (words : List Word) : BitVec 32 := crc32c (wordBytes words)

/-- The words of a frame in groups of eight (R164): headers, payload, the trailer, whose CRC is inverted where asked (R213), zero fill. -/
def frameWords (h0 h1 : Word) (payload : List Word) (inverted : Bool) : List Word :=
  let ws := h0 :: h1 :: payload
  let crc := frameCrc ws
  let all := ws ++ [(if inverted then ~~~crc else crc).setWidth 64]
  all ++ List.replicate (ceilDiv all.length 8 * 8 - all.length) 0

/-- A frame on the line (R164): START, the groups, and the control block after them. -/
def frameBlocks (h0 h1 : Word) (payload : List Word) (inverted : Bool := false) : List Block :=
  let codes := (frameWords h0 h1 payload inverted).map codeOf
  blkStart :: (chunks 8 codes.length codes).flatMap groupBlocks ++ [blkIdle]

/-- Blocks leave port `p`. The state of its scrambler is open: it depends on all the fill between frames, which no row tells.
(DESIGN CHOICE, log entry 99) -/
def putLine (s : State) (p : Nat) (blocks : List Block) : State :=
  (s.emit (.line p (scramble (BitVec.ofNat 58 s.freeWord.toNat) blocks))).drawn

/-! ### Received frames (R164 to R166, R179) -/

/-- LEN is legal (R166, R179): within the range of a TYPE that R179 defines; a reserved TYPE may have any but 0xFFFF. -/
def lenLegal (type len : Nat) : Bool :=
  decide (len ≠ 65535) &&
    match type with
    | 0 => len = 0
    | 1 => 1 ≤ len && len ≤ 16384
    | 2 => len = 17
    | 3 => len = 6
    | 4 => 2 ≤ len && len ≤ 1025
    | 5 => len = 2
    | 6 => len = 1
    | 7 => 1 ≤ len && len ≤ 13
    | 8 => 1 ≤ len && len ≤ 13
    | 9 => len = 0
    | _ => true

/-- A valid received frame: its header words and payload. -/
structure Frame where
  h0      : Word
  h1      : Word
  payload : List Word
  deriving DecidableEq, Repr

/-- TYPE (R167). -/
def Frame.type (f : Frame) : Nat := fld f.h0 3 0
/-- TILE (R167): the sending tile. -/
def Frame.tile (f : Frame) : Nat := fld f.h0 12 4
/-- ORIGIN (R167). -/
def Frame.origin (f : Frame) : Nat := fld f.h0 15 14
/-- FRAME (R167). -/
def Frame.frame24 (f : Frame) : Nat := fld f.h0 47 24
/-- UCNT (R168). -/
def Frame.ucnt (f : Frame) : BitVec 32 := BitVec.ofNat 32 (fld f.h1 31 0)

/-- The data of a code word that can be read. -/
def Decoded.word : Decoded → Option Word
  | .clean w => some w
  | .fixed w => some w
  | .bad => none

/-- The code words of an arrival as they decode. -/
def decodedOf (a : Arrival) : List Decoded := a.codes.map decodeCode
/-- How many of its words are uncorrectable. -/
def badWords (a : Arrival) : Nat := (decodedOf a).countP fun x => x.word.isNone
/-- How many of its words were corrected (R162). -/
def fixedWords (a : Arrival) : Nat := (decodedOf a).countP fun x =>
  match x with
  | .fixed _ => true
  | _ => false

/-- The frame that arrives, if it is valid (R164 to R166): every word valid or corrected, as many groups as its LEN asks for, LEN legal
and the trailer's CRC right. A frame that a START cut short has fewer. (DESIGN CHOICE, log entry 78) -/
def frameOf (a : Arrival) : Option Frame :=
  match (decodedOf a).filterMap Decoded.word with
  | h0 :: h1 :: rest =>
    let len := fld h0 63 48
    if badWords a = 0 && a.codes.length = 8 * ceilDiv (len + 3) 8 && lenLegal (fld h0 3 0) len &&
        fld (wordAt rest len) 31 0 = (frameCrc (h0 :: h1 :: rest.take len)).toNat then some ⟨h0, h1, rest.take len⟩
    else none
  | _ => none

end Sys2Proof.Machine
end

