-- ==== Sys2Proof/Machine/Olern.lean ====
section
/-! DEFINITION. Frames on the tile links and multi-tile transactions: building, staging, committing and ending them
(R164 to R168, R178, R183, R184, R186, R190, R193, R194, R229 to R242). -/

namespace Sys2Proof.Machine

/-! ### Frames (R167, R168, R178) -/

/-- Header word 0 (R167). -/
def olHeader (type tile : Nat) (bcast : Bool) (origin : Nat) (epoch : BitVec 8) (frame len : Nat) : Word :=
  put type 4 0 ||| put tile 9 4 ||| putB bcast 13 ||| put origin 2 14 ||| (epoch.setWidth 64 <<< 16) |||
    put frame 24 24 ||| put len 16 48

/-- Port `p` of die `d` can send frames: the die runs unfenced and the segment is UP (R192, R193, R261). -/
def State.canSend (s : State) (d : DieId) (p : Nat) : Bool :=
  s.up d && (decide ((s.port p).rx = .up) || decide ((s.port p).rx = .upQuiet)) && decide ((s.port p).tx ≠ .off)

/-- The die that a tile-link port stands on. -/
def portDie (p : Nat) : DieId := if p < 32 then .a else .b

/-- Port `p` transmits: its die runs unfenced and the port is not off (R193, R261). -/
def State.transmits (s : State) (p : Nat) : Bool := s.up (portDie p) && decide ((s.port p).tx ≠ .off)

/-- The epoch that die `d` puts into lead-issued frames (R178, R280). -/
def State.mgmtEpoch (s : State) (d : DieId) : BitVec 8 := if s.span then (s.die d).epoch else (s.die s.lead).epoch

/-- The frame counter of a tile's canvas, 0 off canvas. -/
def tileFrame (s : State) (t : Nat) : Nat := canvasFrame s (s.canvasOf t)

/-- FRAME of a frame to no one tile (R167): that of the canvas of the port's lowest tile. (DESIGN CHOICE, log entry 103) -/
def portFrame (s : State) (p : Nat) : Nat :=
  match s.portTiles (s.mapPort p) with
  | t :: _ => tileFrame s t
  | [] => 0

/-- A frame goes onto the line of port `p` (R164). -/
def emitFrame (s : State) (p : Nat) (h0 h1 : Word) (payload : List Word) (inverted : Bool := false) : State :=
  (putLine s p (frameBlocks h0 h1 payload inverted)).modPort p fun x => { x with lastSent := s.uptime }

/-- Header word 0 of a frame that port `p`'s die sends on its own account to no tile or to all (R167). -/
def portHeader (s : State) (p type : Nat) (bcast : Bool) (len : Nat) : Word :=
  olHeader type 0 bcast (portDie p).num (s.mgmtEpoch (portDie p)) (portFrame s p) len

/-- An IDLE frame leaves port `p` (R179, R190, R192). -/
def emitIdle (s : State) (p : Nat) : State :=
  (emitFrame s p (portHeader s p 0 false 0) 0 []).modPort p fun x => { x with lastIdle := s.uptime }

/-- A TIME frame goes onto the line of port `p` (R183): `word0` carries KIND and addressing; `arg` is ARG. The spread phase at T_TX is open.
(DESIGN CHOICE, log entry 26) -/
def emitTime (s : State) (p word0 : Nat) (arg : Word) (tile : Nat) (bcast : Bool) : State :=
  let x := s.port p
  let phase : Word := if x.spread = 0 then 0 else put (s.freeWord.toNat) 16 32
  let s1 := if x.spread = 0 then s else s.drawn
  let d := portDie p
  (emitFrame s1 p (olHeader 3 tile bcast d.num (s.mgmtEpoch d) (if bcast then portFrame s p else tileFrame s tile) 6) 0
    [BitVec.ofNat 64 word0 ||| phase ||| put x.spread 8 48, BitVec.ofNat 64 s.wall, 0, arg, 0, 0]).modPort p fun y =>
      { y with lastSync := if word0 = 0 then s.uptime else y.lastSync }

/-- A transmitter leaves QUIET (R184, R190, R193, R194): IDLE blocks, one IDLE frame, and TIME SYNC first, where the frame that waits is not
one itself (`sync`). (DESIGN CHOICE, log entry 99) -/
def wake (s : State) (p : Nat) (sync : Bool) : State :=
  if (s.port p).tx ≠ .quiet then s
  else
    let s1 := emitIdle (putLine (s.modPort p fun x => { x with tx := .on }) p [blkIdle]) p
    if sync then emitTime s1 p 0 0 0 true else s1

/-- A receiver is UP (R192). -/
def Port.isUp (x : Port) : Bool := decide (x.rx = .up) || decide (x.rx = .upQuiet)

/-- A transmitter whose receiver is UP falls silent with a QUIET block, after 4 µs with nothing to send (R161, R192, R193). -/
def enterQuiet (s : State) (p : Nat) : State :=
  let x := s.port p
  if x.tx = .on && x.isUp && decide (x.lastSent + 4000 ≤ s.uptime) then putLine (s.modPort p fun x => { x with tx := .quiet }) p [blkQuiet] else s

/-- A frame leaves port `p` of die `d`, if it can send, after waking the transmitter (R164, R194). (DESIGN CHOICE, log entry 99)
(DESIGN CHOICE, log entry 78) -/
def sendFrame (s : State) (d : DieId) (p : Nat) (h0 h1 : Word) (payload : List Word) (ok : Bool := true) : State :=
  if s.canSend d p then emitFrame (wake s p true) p h0 h1 payload (!ok) else s

/-- A TIME frame leaves port `p`, if it can send (R183). (DESIGN CHOICE, log entry 26) -/
def sendTime (s : State) (p word0 : Nat) (arg : Word) (tile : Nat) (bcast : Bool) : State :=
  if s.canSend (portDie p) p then emitTime (wake s p (decide (word0 % 16 ≠ 0))) p word0 arg tile bcast else s

/-- The tiles mapped to the loop or chain of port `p`, by ascending position. -/
def State.tilesAt (s : State) (p : Nat) : List Nat := s.portTiles (s.mapPort p)

/-- The position of a tile on its loop or chain. -/
def State.posOf (s : State) (t : Nat) : Nat :=
  match (s.tile t).map with
  | some m => m.pos
  | none => 0

/-- The number of tiles that a frame passes from port `p` to position `pos`: die B's ports of a Twin loop stand at its east
end (R169). -/
def State.hopsTo (s : State) (p pos : Nat) : Nat :=
  if s.twin && decide (32 ≤ p) then ((s.tilesAt p).map s.posOf).foldl max 0 - pos else pos

/-- The tile at a distance of `n` tiles from port `p`. -/
def State.tileAway (s : State) (p n : Nat) : Option Nat := (s.tilesAt p).find? fun t => s.hopsTo p (s.posOf t) = n

/-- The MSEQ that the lead holds for a port rises by one with every management frame on it, so that a BCAST is newer than any frame to one of
its tiles (R178). (DESIGN CHOICE, log entry 103) -/
def countMgmt (s : State) (port : Nat) : State := s.modPort port fun x => { x with mseq := x.mseq + 1 }

/-- A management frame to one tile (R178): the tile's MSEQ rises by one, and every serving die sends a copy, with ORIGIN 2
for relayed tile firmware. (DESIGN CHOICE, log entry 103) -/
def sendMgmt (s : State) (t type : Nat) (payload : List Word) (relayed : Bool := false) : State :=
  match (s.tile t).map with
  | none => s
  | some m =>
    let s1 := (countMgmt s m.port).modTile t fun x => { x with mseq := x.mseq + 1 }
    let seq := ((s1.tile t).mseq.setWidth 64 : Word)
    s1.each (s1.portDies m.port) fun s d =>
      sendFrame s d (s.diePort d m.port)
        (olHeader type t false (if relayed then 2 else d.num) (s.mgmtEpoch d) (tileFrame s t) payload.length) seq payload

/-- A management frame to every tile of a loop or chain (R178): it carries the MSEQ held for the port, and every tile's rises by one.
(DESIGN CHOICE, log entry 103) -/
def sendMgmtAll (s : State) (port type : Nat) (payload : List Word) : State :=
  let s1 := s.each (s.portTiles port) fun s t => s.modTile t fun x => { x with mseq := x.mseq + 1 }
  let s2 := countMgmt s1 port
  s2.each (s2.portDies port) fun s d =>
    sendFrame s d (s.diePort d port) (portHeader s (s.diePort d port) type true payload.length) ((s2.port port).mseq.setWidth 64) payload

/-! ### Transactions (R186, R229, R239 to R241) -/

/-- STAGE word 0 (R186). -/
def stageWord (xid : BitVec 16) (kind part parts : Nat) : Word :=
  xid.setWidth 64 ||| put kind 8 16 ||| put part 12 32 ||| put parts 12 48

/-- The parts of one tile in a transaction, as (KIND, DATA). -/
def Txn.parts (x : Txn) (t : Nat) : List (Nat × List Word) := (x.data.filter fun y => y.1 = t).map fun y => y.2

/-- The CRC that a tile's KIND 1 acknowledgement must carry (R187). -/
def Txn.crc (x : Txn) (t : Nat) : BitVec 32 := crc32c (wordBytes ((x.parts t).flatMap fun y => y.2))

/-- Sends the STAGE parts of a transaction to one tile (R240). -/
def sendStage (s : State) (x : Txn) (t : Nat) : State :=
  let ps := x.parts t
  (List.range ps.length).foldl (fun s i =>
    match ps[i]? with
    | some (k, ws) => sendMgmt s t 4 (stageWord x.xid k i ps.length :: ws) (x.kind = .fwImage)
    | none => s) s

/-- Sends COMMIT to one tile (R186). -/
def sendCommit (s : State) (x : Txn) (t : Nat) : State :=
  sendMgmt s t 5 [x.xid.setWidth 64, BitVec.ofNat 64 x.applyTime]

/-- Sends ABORT to one tile (R186). -/
def sendAbort (s : State) (x : Txn) (t : Nat) : State := sendMgmt s t 6 [x.xid.setWidth 64]

/-- The ports that a set of tiles touches. -/
def State.portsOf (s : State) (tiles : List Nat) : List Nat :=
  (tiles.filterMap fun t => (s.tile t).map.map fun m => m.port).dedup

/-- The transaction covers every tile of a port with the same data, so that one BCAST serves them all (R240). Relayed firmware goes to
its tile alone (R178, R247). -/
def Txn.covers (x : Txn) (s : State) (port : Nat) : Bool :=
  let l := s.portTiles port
  match l with
  | [] => false
  | h :: _ => decide (x.kind ≠ .fwImage) && l.all fun t => x.tiles.contains t && decide (x.parts t = x.parts h)

/-- Sends one kind of frame of a transaction to all its tiles: by BCAST on each port it covers, by unicast otherwise.
(DEDUCED, log entry 60) -/
def sendAll (s : State) (x : Txn) (one : State → Nat → State) (all : State → Nat → State) : State :=
  s.each (s.portsOf x.tiles) fun s p =>
    if x.covers s p then all s p
    else s.each ((s.portTiles p).filter fun t => x.tiles.contains t) one

/-- The STAGE parts of a transaction leave for every tile (R240). -/
def sendStages (s : State) (x : Txn) : State :=
  sendAll s x (fun s t => sendStage s x t) fun s p =>
    let ps := x.parts ((s.portTiles p).headD 0)
    (List.range ps.length).foldl (fun s i =>
      match ps[i]? with
      | some (k, ws) => sendMgmtAll s p 4 (stageWord x.xid k i ps.length :: ws)
      | none => s) s

/-- COMMIT to every tile of a transaction (R240). -/
def sendCommits (s : State) (x : Txn) : State :=
  sendAll s x (fun s t => sendCommit s x t) fun s p => sendMgmtAll s p 5 [x.xid.setWidth 64, BitVec.ofNat 64 x.applyTime]

/-- ABORT to every tile of a transaction (R241). -/
def sendAborts (s : State) (x : Txn) : State :=
  sendAll s x (fun s t => sendAbort s x t) fun s p => sendMgmtAll s p 6 [x.xid.setWidth 64]

/-- The transaction in flight that has tile `t`. -/
def State.txnOn (s : State) (t : Nat) : Option Txn := s.links.txns.find? fun x => x.inProgress && x.tiles.contains t

/-- `s` with the transactions that satisfy `p` changed by `f`. -/
def State.modTxn (s : State) (p : Txn → Bool) (f : Txn → Txn) : State :=
  s.modLinks fun l => { l with txns := l.txns.map fun x => if p x then f x else x }

/-- The same transaction: XID and lowest port. -/
def Txn.same (x y : Txn) : Bool := x.xid == y.xid && x.port == y.port

/-- A transaction of `tiles` is recorded and its STAGE parts sent (R239, R240). Its XID is above the last one of every
port it touches, and becomes theirs. (DEDUCED, log entry 55) -/
def startTxn (s : State) (kind : TxnKind) (canvas : Option Nat) (src : Nat) (id : Option Nat) (tiles : List Nat)
    (data : List (Nat × Nat × List Word)) (frame applyTime : Nat) : State :=
  let ports := s.portsOf tiles
  let xid : BitVec 16 := BitVec.ofNat 16 (ports.foldl (fun a p => max a (s.port p).xid.toNat) 0 + 1)
  let x : Txn :=
    { xid := xid, port := ports.foldl min (ports.headD 0), kind := kind, canvas := canvas, src := src, id := id, tiles := tiles,
      data := data, frame := frame, applyTime := applyTime, stagedAt := s.uptime, resent := false, committed := false,
      acked := [], done := [], failed := [], aborted := false, inProgress := true, status := 1 }
  let s1 := s.each ports fun s p => s.modPort p fun y => { y with xid := xid }
  let s2 := s1.modLinks fun l => { l with txns := x :: l.txns }
  sendStages s2 x

/-- The event source of a transaction's or tile's canvas (R245). -/
def tileSource (canvas : Option Nat) : Nat :=
  match canvas with
  | some c => 192 + c
  | none => 196

/-- A transaction ends (R241): its record, canvas event 0x01, and, with the last transaction of its TILE_COMMIT, the
completion of that command. (DEDUCED, log entry 75) -/
def endTxn (s : State) (x : Txn) (failed : List Nat) (aborted : Bool) : State :=
  let status := if failed.isEmpty then 0 else 8
  let s1 := s.modTxn (fun y => y.same x && y.inProgress) fun y =>
    { y with failed := failed, aborted := aborted, inProgress := false, status := BitVec.ofNat 8 status }
  let s2 := if x.kind = .reset || x.kind = .fwImage then s1
    else raise s1 (tileSource x.canvas) 1 (put status 8 0 ||| put failed.length 10 16 ||| put x.xid.toNat 16 32)
      (canvasFrame s1 x.canvas)
  match x.id with
  | some id =>
    let l := s2.links.txns.filter fun y => decide (y.src = x.src) && decide (y.id = some id) && decide (y.kind = .prefs)
    if x.kind = .prefs && l.all fun y => !y.inProgress then
      finishLong s2 x.src id (if l.all fun y => y.failed.isEmpty then 0 else 8)
    else s2
  | none => s2

/-- ABORT to every tile of a transaction, which ends with PARTIAL and `failed` listed (R241). -/
def abortTxn (s : State) (x : Txn) (failed : List Nat) : State :=
  endTxn (sendAborts s x) x failed true

/-- The three words of a tile's DRIVE block under a PLT (R233). -/
def driveWords (t : Plt) (tile : Nat) : List Word :=
  [pltGet t 0x12 tile 0, pltGet t 0x12 tile 1, put (fld (pltGet t 0x11 tile 0) 63 48) 16 0]

/-- The SCAN block of a tile (R231): its word 0 with the canvas's RATE, and PHASE_NS and OFFSET. -/
def scanWords (scan0 : Word) (c : CanvasCfg) : List Word :=
  [(scan0 &&& ~~~(0x1F#64 <<< 40)) ||| put c.rate 5 40, put c.phase 32 0 ||| put c.offset 32 32]

/-- The RASTER block of a placement (R230). -/
def rasterWords (p : Placement) (c : CanvasCfg) : List Word := [put p.tw 11 0 ||| put p.th 11 11 ||| putB c.rgbw 22]

/-- Every transaction in flight is staged and committed again under the present epoch (R242, R263). -/
def repeatTxns (s : State) : State :=
  s.each (s.links.txns.filter fun x => x.inProgress) fun s x =>
    let s1 := sendStages s x
    if x.committed then sendCommits s1 x else s1

end Sys2Proof.Machine
end

