-- ==== Sys2Proof/Machine/Sources.lean ====
section
/-! DEFINITION. Source slots: SRC_*, DIAG_SLOT_READ, source descriptors, BAR2 traffic and ST 2110-20 packets
(R37 to R72, R306 to R308, R330, R333). -/

namespace Sys2Proof.Machine

/-- The request's slot. -/
def reqSlot (r : Req) : Nat := fld (r.word 0) 4 0
/-- The request's slot lies in the sender's partition (R38). -/
def slotReach (s : State) (r : Req) : Bool := s.owns r.who 6 (reqSlot r)

/-! ### SRC_CONFIG, SRC_START, SRC_STOP (R68 to R70, R330) -/

/-- The limits of R37, R40, R41 and R68 on a configuration. -/
def slotLimits (k : Slot) : Bool :=
  let f := k.format
  let w := k.width
  let h := k.height
  decide (k.kind ≤ 4) && (decide (k.kind = 0) ||
    (decide (f ≤ 7) && (2 ≤ k.buffers && k.buffers ≤ 8) && decide (k.rate ≤ 17) && (16 ≤ w && w ≤ 16384) && (16 ≤ h && h ≤ 16384) &&
      !((4 ≤ f && f ≤ 6) && w % 2 = 1) && !((f = 5 || f = 6) && h % 2 = 1) && k.stride % 256 = 0 && lineBytes f w ≤ k.stride &&
      k.bufBytes ≤ 2147483648 && !((f = 5 || f = 6) && k.kind ≠ 4) && !(k.kind = 3 && 4 < f) && !(k.kind = 4 && 3 < k.session)))

/-- Bits per pixel of a FORMAT on the network, times 10 (SMPTE ST 2110-20 pixel groups, R60). -/
def netBits10 (format : Nat) : Nat :=
  match format with
  | 0 => 240 | 1 => 300 | 2 => 360 | 3 => 480 | _ => 200

/-- The slots other than `k` with their configurations. -/
def otherSlots (s : State) (k : Nat) : List (Nat × Slot) := s.frames.slots.filter fun x => x.1 ≠ k && decide (x.2.kind ≠ 0)

/-- The source pool of a die in bytes: SRC_POOL, at most five segments (R70, R337, R433). -/
def sourcePool (s : State) : Nat :=
  let gib := fun g => if g = 0 then 128 else g
  min (fld (s.pltW 1 0 0) 23 16 * 1073741824) (5 * (min (gib s.hub.gibA) (gib s.hub.gibB)) * 1073741824 / 9)

/-- Σ of a rate figure over slots, compared exactly: Σ v × num / den ≤ limit, by the common denominator 1001. -/
def rateSum (l : List (Nat × Slot)) (v : Slot → Nat) : Nat :=
  (l.map fun x =>
    let r := rateOf x.2.rate
    v x.2 * r.1 * (1001 / r.2)).foldl (· + ·) 0

/-- R70: the buffers fit the source pool. -/
def poolFits (s : State) (k : Nat) (x : Slot) : Bool :=
  (((otherSlots s k).map fun y => y.2.bufBytes * y.2.buffers).foldl (· + ·) 0) + (if x.kind = 0 then 0 else x.bufBytes * x.buffers)
    ≤ sourcePool s

/-- R70: the ingest of the started slots with `l` is at most 64 GB/s, and no network port needs more than 100 Gb/s.
(DEDUCED, log entry 76) -/
def ingestFits (l : List (Nat × Slot)) : Bool :=
  decide (rateSum l (fun x => x.width * x.height * storageHalf x.format) ≤ 2 * 64000000000 * 1001) &&
    (List.range 4).all fun p =>
      let on := l.filter fun x => (x.2.legEn 0 && x.2.legPort 0 = p) || (x.2.legEn 1 && x.2.legPort 1 = p)
      decide (rateSum on (fun x => x.width * x.height * netBits10 x.format) ≤ 10 * 100000000000 * 1001)

/-- R39: at most one DECODE slot for a session, so at most four. (DEDUCED, log entry 76) -/
def decodeFits (s : State) (k : Nat) (x : Slot) : Bool :=
  decide (x.kind ≠ 4) || !((otherSlots s k).any fun y => y.2.kind = 4 && y.2.session = x.session)

/-- SRC_CONFIG for the common checks (R38, R330). -/
def opSrcConfig : JcsOp := { opcode := 0x0301, reach := slotReach, zeros := fun _ _ => 8 }
/-- SRC_START for the common checks (R330). -/
def opSrcStart : JcsOp := { opcode := 0x0302, reach := slotReach }
/-- SRC_STOP for the common checks (R330). -/
def opSrcStop : JcsOp := { opcode := 0x0303, reach := slotReach }

/-- Bytes of BAR2 that a buffer takes: whole 2 MiB pages (R306). -/
def bar2Span (bytes : Nat) : Nat := ceilDiv bytes 2097152 * 2097152

/-- The BAR2 ranges (offset, length) that a function's other slots map. (DESIGN CHOICE, log entry 14) -/
def bar2Used (s : State) (f k : Nat) : List (Nat × Nat) :=
  s.frames.slots.flatMap fun x =>
    if x.1 ≠ k && x.2.owner = f then x.2.bar2.map fun o => (o, bar2Span x.2.bufBytes) else []

/-- The lowest free offset for `n` bytes among the used ranges (DESIGN CHOICE, log entry 14). -/
def bar2Place (used : List (Nat × Nat)) (n : Nat) : Option Nat :=
  let cands := (0 :: used.map fun u => u.1 + u.2).mergeSort (· ≤ ·)
  cands.find? fun o => decide (o + n ≤ 68719476736) && used.all fun u => decide (o + n ≤ u.1) || decide (u.1 + u.2 ≤ o)

/-- Offsets for `n` buffers of `len` bytes each, none where they do not fit the 64 GiB window. (DESIGN CHOICE, log entry 14) -/
def bar2Alloc : Nat → Nat → List (Nat × Nat) → Option (List Nat)
  | 0, _, _ => some []
  | n + 1, len, used =>
    match bar2Place used len with
    | none => none
    | some o =>
      match bar2Alloc n len (used ++ [(o, len)]) with
      | some l => some (o :: l)
      | none => none

/-- Drops the held RELEASEs of a slot (R358). -/
def dropReleases (s : State) (k : Nat) : State :=
  let keep := fun (h : Held) => !(h.release.any (fun y => y.1 == k))
  s.modQueues fun q => { q with rings := q.rings.map (fun x => (x.1, { x.2 with held := x.2.held.filter keep })) }

/-- Buffers of a stopped slot that an open vote still needs (R46, R270). -/
def voteBufs (s : State) (k : Nat) : List Nat :=
  (s.slot k).bufIds.filter fun b => ((s.slot k).buf b).uses.any fun u => s.votesOpen u.1 u.2

/-- SRC_CONFIG (R42, R68 to R70, R330). A slot that was late stays so until a READY frame (R71). A buffer still IN-USE from before is
zeroed like the rest and its use dropped, but for those that a vote still needs: these are zeroed when it ends (R270).
(DESIGN CHOICE, log entry 97) (DESIGN CHOICE, log entry 14) (DEDUCED, log entry 76) -/
def srcConfigBody (s : State) (r : Req) : Ans :=
  let k := reqSlot r
  let owner := s.ownerOf 6 k
  let kept := voteBufs s k
  let x : Slot := { cfg := (List.range 6).map r.word, owner := owner, late := (s.slot k).late,
                    bufs := kept.foldl (fun m b => Tbl.set {} m b { (s.slot k).buf b with old := true, zeroDue := true }) [] }
  if (s.slot k).started then .busy s
  else if !slotLimits x || !poolFits s k x || !decodeFits s k x || !ingestFits [(k, x)] then .badParam s
  else
    match (if x.kind = 2 then bar2Alloc x.buffers (bar2Span x.bufBytes) (bar2Used s owner k) else some []) with
    | none => .badParam s
    | some offs =>
      .ok ((zeroBuffers (dropReleases s k) k ((List.range 8).filter fun b => !kept.contains b)).modSlot k fun _ => { x with bar2 := offs })
        ((List.range 8).map fun i => BitVec.ofNat 64 (offs.getD i 0))

/-- SRC_CONFIG (R68). -/
def execSrcConfig (r : Req) (s : State) : Host.Outcome State Fault Refusal := .next (jcs opSrcConfig srcConfigBody r s)

/-- SRC_START (R56, R61, R70, R330). The pages of a BAR2 slot that was stopped stay unmapped until SRC_CONFIG maps them again (R306).
(DESIGN CHOICE, log entry 97) (DEDUCED, log entry 76) -/
def srcStartBody (s : State) (r : Req) : Ans :=
  let k := reqSlot r
  let x := s.slot k
  let started := s.frames.slots.filter fun y => y.1 ≠ k && y.2.started
  if x.kind = 0 || x.started then .badParam s
  else if !slotLimits x || !poolFits s k x || !ingestFits ((k, x) :: started) then .badParam s
  else .ok (reportGroups (s.modSlot k fun x => { x with
    started := true, frames := 0, net := none, judged := [],
    legA := { x.legA with lost := false, lastAt := s.uptime }, legB := { x.legB with lost := false, lastAt := s.uptime } }) k true)

/-- SRC_START (R330). -/
def execSrcStart (r : Req) (s : State) : Host.Outcome State Fault Refusal := .next (jcs opSrcStart srcStartBody r s)

/-- SRC_STOP (R69, R330). -/
def srcStopBody (s : State) (r : Req) : Ans :=
  if (s.slot (reqSlot r)).started then .ok (stopSlot s (reqSlot r)) else .ok s

/-- SRC_STOP (R69). -/
def execSrcStop (r : Req) (s : State) : Host.Outcome State Fault Refusal := .next (jcs opSrcStop srcStopBody r s)

/-- DIAG_SLOT_READ for the common checks (R333). -/
def opDiagSlotRead : JcsOp := { opcode := 0x0B01, reach := slotReach, zeros := fun _ _ => 8 }

/-- Two 32-bit counters in one word. -/
def pair32 (lo hi : BitVec 32) : Word := lo.setWidth 64 ||| (hi.setWidth 64 <<< 32)

/-- DIAG_SLOT_READ (R333). -/
def diagSlotReadBody (s : State) (r : Req) : Ans :=
  let x := s.slot (reqSlot r)
  let newest := match x.newest with
    | some b => (x.buf b).frame
    | none => 0
  .ok s [pair32 x.nReady x.nDropped, pair32 x.nIncomplete x.nLate, pair32 x.nTrunc x.nConcealed,
    pair32 x.legA.received x.legA.dup, pair32 x.legA.late x.legB.received, pair32 x.legB.dup x.legB.late,
    put newest 48 0 ||| putB x.late 48 ||| putB x.started 49, pair32 x.legA.malformed x.legB.malformed]

/-- DIAG_SLOT_READ (R333). -/
def execDiagSlotRead (r : Req) (s : State) : Host.Outcome State Fault Refusal :=
  .next (jcs opDiagSlotRead diagSlotReadBody r s)

/-! ### Source descriptors (R51 to R55) -/

/-- SLOT of a source descriptor. -/
def srcSlot (d : Desc) : Nat := fld d.w0 20 16
/-- BUF of a source descriptor. -/
def srcBuf (d : Desc) : Nat := fld d.w0 23 21
/-- LENGTH of a source descriptor. -/
def srcLen (d : Desc) : Nat := fld d.w0 63 32

/-- Takes a source descriptor of DTYPE `t` from its ring, with a ticket; none while the ring waits or the hub is failed.
(DESIGN CHOICE, log entry 2) -/
def takeSource (s : State) (g : Nat) (d : Desc) (t : Nat) : Option (State × Nat) :=
  if dtypeOf d ≠ t || decide ((s.ring g).type ≠ 1) || ringWaits s g || s.hub.cpFailed then none else takeOrdered s g d

/-- Completes a source descriptor that ends at once (R53, R55). (DEDUCED, log entry 74) -/
def endSource (s : State) (g t : Nat) (d : Desc) (ctype status : Nat) (trunc : Bool := false) (frame : Nat := 0) : State :=
  finishOrdered s g t (srcCompletion s ctype status (srcSlot d) (srcBuf d) trunc false frame d.w3)

/-- The CTYPE with which a PULL descriptor ends (R55): PULLED with LAST, else SEGMENT. (DEDUCED, log entry 74) -/
def pullCtype (d : Desc) : Nat := if bit d.w0 9 then 1 else 5

/-- A pull segment begins (R50 to R52): its read of host memory, after the target of a first segment has been found. -/
def startPull (s : State) (k : Nat) (p : PullSeg) : State :=
  let x := s.slot k
  let s1 := (readHost s x.owner p.desc.w1 p.len).modSlot k fun x => { x with pullSegs := x.pullSegs ++ [p] }
  if p.trunc then s1.modSlot k fun x => { x with nTrunc := x.nTrunc + 1 } else s1

/-- The first segment of a frame finds its buffer (R50), or waits for one. -/
def openPull (s : State) (k : Nat) (p : PullSeg) : State :=
  match freeTarget s k with
  | none => s.modSlot k fun x => { x with pullWait := some p }
  | some (s1, b) => startPull ((startFilling s1 k b).modSlot k fun x => { x with pullOpen := some b, pullWait := none }) k p

/-- A PULL segment fits the slot's state (R53): FIRST with no frame open, or a later one of the open frame, whose LAST has not been taken.
A frame whose LAST is still in copy is open for FIRST. (DESIGN CHOICE, log entry 97) -/
def pullFits (x : Slot) (first : Bool) : Bool :=
  if first then x.pullOpen.isNone else x.pullOpen.isSome && x.pullSegs.all fun p => !bit p.desc.w0 9

/-- PULL_SEGMENT (R50 to R53): while a first segment of the slot waits for a buffer, every PULL segment that names the slot waits.
(DEDUCED, log entries 74 and 76) -/
def execPullSegment (ring : Nat) (d : Desc) (s : State) : Host.Outcome State Fault Refusal :=
  .next <|
    match takeSource s ring d 1 with
    | none => s
    | some (s1, t) =>
      let k := srcSlot d
      let x := s1.slot k
      let owner := (s1.ring ring).owner
      let n := srcLen d
      let off := fld d.w2 31 0
      let first := bit d.w0 8
      if !s1.owns owner 6 k then endSource (violate s1 owner) ring t d (pullCtype d) 0
      else if n = 0 then endSource s1 ring t d (pullCtype d) 0
      else if n = 0xFFFFFFFF then endSource s1 ring t d (pullCtype d) 3
      else if x.pullWait.isSome then s
      else if x.kind ≠ 1 || !x.started || !pullFits x first then endSource s1 ring t d (pullCtype d) 4
      else
        let cut := decide (x.bufBytes < off + n)
        let p : PullSeg := ⟨ring, t, d, if cut then x.bufBytes - off else n, cut⟩
        if first then openPull s1 k p else startPull s1 k p

/-- PULL_SEGMENT_DONE (R44, R49, R55): the oldest segment of a slot's open pull has been copied into both dies. -/
def execPullSegmentDone (slot : Nat) (bytes : List Byte) (s : State) : Host.Outcome State Fault Refusal :=
  .next <|
    let x := s.slot slot
    match x.pullOpen, x.pullSegs with
    | some b, p :: rest =>
      if s.hub.cpFailed then s
      else
        let s1 := (writeBoth s slot b (fld p.desc.w2 31 0) (bytes.take p.len)).modSlot slot fun x => { x with pullSegs := rest }
        if bit p.desc.w0 9 then
          let s2 := bufReady (s1.modSlot slot fun x => { x with pullOpen := none }) slot b
          finishOrdered s2 p.ring p.ticket
            (srcCompletion s2 1 0 slot b p.trunc false ((s2.slot slot).buf b).frame p.desc.w3)
        else finishOrdered s1 p.ring p.ticket (srcCompletion s1 5 0 slot b p.trunc false 0 p.desc.w3)
    | _, _ => s

/-- A filling buffer is given up (R44): FREE and counted. -/
def abandon (s : State) (k b : Nat) : State := s.modSlot k fun x => x.abandon b

/-- PULL_TIMEOUT (R44, R66, R310): the oldest segment ends with TIMEOUT and the open frame as if cancelled. (DESIGN CHOICE, log entry 43)
(DEDUCED, log entry 74) -/
def execPullTimeout (slot : Nat) (s : State) : Host.Outcome State Fault Refusal :=
  .next <|
    let x := s.slot slot
    match x.pullOpen, x.pullSegs with
    | some b, p :: rest =>
      if s.hub.cpFailed then s else
      let s1 := s.modSlot slot fun x => { x with pullSegs := rest }
      let s2 := finishOrdered s1 p.ring p.ticket (srcCompletion s1 (pullCtype p.desc) 7 slot b p.trunc false 0 p.desc.w3)
      abandon (cancelPulls s2 slot) slot b
    | _, _ => s

/-- PULL_BUFFER_WAIT_END (R50, R66): the waiting pull proceeds once a buffer of its slot is FREE. -/
def execPullBufferWaitEnd (slot : Nat) (s : State) : Host.Outcome State Fault Refusal :=
  .next <|
    match (s.slot slot).pullWait with
    | some p => if s.hub.cpFailed then s else openPull s slot p
    | none => s

/-- SUBMIT (R44, R52 to R55). (DEDUCED, log entry 74) -/
def execSubmit (ring : Nat) (d : Desc) (s : State) : Host.Outcome State Fault Refusal :=
  .next <|
    match takeSource s ring d 2 with
    | none => s
    | some (s1, t) =>
      let k := srcSlot d
      let b := srcBuf d
      let x := s1.slot k
      let owner := (s1.ring ring).owner
      if !s1.owns owner 6 k then endSource (violate s1 owner) ring t d 2 0
      else if srcLen d = 0 then endSource s1 ring t d 2 0
      else if srcLen d = 0xFFFFFFFF then endSource s1 ring t d 2 3
      else if x.kind ≠ 2 || !x.started || decide (x.buffers ≤ b) || decide ((x.buf b).state ≠ .filling) then
        endSource s1 ring t d 2 4
      else
        let cut := decide (x.bufBytes < srcLen d)
        let feed := s1.feedOf ring
        let s2 := bufReady (s1.modSlot k fun x =>
          { x with feedRing := some feed, nTrunc := if cut then x.nTrunc + 1 else x.nTrunc }) k b
        endSource s2 ring t d 2 0 cut ((s2.slot k).buf b).frame

/-- CANCEL (R44, R53, R55). -/
def execCancel (ring : Nat) (d : Desc) (s : State) : Host.Outcome State Fault Refusal :=
  .next <|
    match takeSource s ring d 3 with
    | none => s
    | some (s1, t) =>
      let k := srcSlot d
      let b := srcBuf d
      let x := s1.slot k
      let owner := (s1.ring ring).owner
      if !s1.owns owner 6 k then endSource (violate s1 owner) ring t d 4 0
      else if !x.started then endSource s1 ring t d 4 4
      else if x.kind = 1 then
        match x.pullOpen with
        | some p => endSource (abandon (cancelPulls s1 k) k p) ring t d 4 0
        | none => endSource s1 ring t d 4 4
      else if x.kind = 2 && decide (b < x.buffers) && decide ((x.buf b).state = .filling) then
        endSource (abandon s1 k b) ring t d 4 0
      else endSource s1 ring t d 4 4

/-- RELEASE_POSTED (R44, R47, R66, R358): the RELEASE of a BAR2 buffer in RELEASED falls due. -/
def execReleasePosted (slot buf : Nat) (s : State) : Host.Outcome State Fault Refusal :=
  .next <|
    let x := s.slot slot
    let y := x.buf buf
    if y.state ≠ .released || y.reported || s.hub.cpFailed then s
    else
      match x.feedRing with
      | none => freeReleased s (some (slot, buf))
      | some (cr, gen) =>
        complete (s.modSlot slot fun x => x.modBuf buf fun y => { y with reported := true }) cr gen
          (srcCompletion s 3 0 slot buf false y.dropped y.frame 0) (some (slot, buf))

/-! ### BAR2 (R48, R292, R306 to R308) -/

/-- The slot, buffer and byte address that a BAR2 offset of function `f` maps (R306). -/
def bar2Find (s : State) (f offset : Nat) : Option (Nat × Nat × Nat) :=
  s.frames.slots.findSome? fun x =>
    if x.2.kind = 2 && x.2.owner = f && decide (s.ownerOf 6 x.1 = f) then
      ((List.range x.2.bar2.length).findSome? fun b =>
        let o := x.2.bar2.getD b 0
        if o ≤ offset ∧ offset < o + bar2Span x.2.bufBytes then some (x.1, b, offset - o) else none)
    else none

/-- BAR2_WRITE (R44, R48, R306, R308): one memory write TLP. -/
def execBar2Write (f offset : Nat) (data : List Byte) (poisoned : Bool) (s : State) : Host.Outcome State Fault Refusal :=
  .next <|
    if !s.inUse f then s
    else if poisoned then s.emit (.aer f)
    else if (s.func f).maxPayload < data.length then violate s f
    else
      match bar2Find s f offset with
      | none => violate s f
      | some (k, b, a) =>
        let x := s.slot k
        let st := (x.buf b).state
        if st = .free ∨ st = .filling then
          if s.hub.cpFailed then s else
          let s1 := if st = .free then startFilling s k b else s
          writeBoth s1 k b a (data.take (x.bufBytes - a))
        else violate s f

/-- BAR2_READ (R292, R307): content of die A, of die B while A is fenced; no buffer changes state. -/
def execBar2Read (f offset length : Nat) (s : State) : Host.Outcome State Fault Refusal :=
  .next <|
    if !s.inUse f then s
    else
      let zero := List.replicate length 0
      if (s.func f).maxRead < length then (violate s f).emit (.barRead f zero)
      else
        match bar2Find s f offset with
        | none => (violate s f).emit (.barRead f zero)
        | some (k, b, a) => s.emit (.barRead f (memRead (s.bufMem (if s.dies.a.fenced then .b else .a) k b) a length))

/-! ### Network flows (R56 to R61, R554) -/

/-- Octets and pixels of a pixel group (SMPTE ST 2110-20, R60). -/
def pixelGroup (format : Nat) : Nat × Nat :=
  match format with
  | 0 => (3, 1) | 1 => (15, 4) | 2 => (9, 2) | 3 => (6, 1) | _ => (5, 2)

/-- Pixels that a sample row data header carries. -/
def rowPixels (format : Nat) (d : RowData) : Nat := d.length / (pixelGroup format).1 * (pixelGroup format).2

/-- The stored pixels of one pixel group (R40, R60): its samples stand most significant bit first, R G B of each pixel in turn, or Cb Y Cr Y.
(PRESUMED, log entry 96) -/
def groupPixels (format : Nat) (g : List Byte) : List Byte :=
  let v := ofLeBytes g.reverse
  let smp := fun (bits i : Nat) => v / 2 ^ (8 * g.length - bits * (i + 1)) % 2 ^ bits
  let px := fun (n : Nat) (f : Nat → List Byte) => (List.range n).flatMap f
  match format with
  | 0 => leBytes 4 (smp 8 0 + smp 8 1 * 256 + smp 8 2 * 65536)
  | 1 => px 4 fun i => leBytes 4 (smp 10 (3 * i) + smp 10 (3 * i + 1) * 1024 + smp 10 (3 * i + 2) * 1048576)
  | 2 => px 2 fun i => ([0, 1, 2].flatMap fun j => leBytes 2 (smp 12 (3 * i + j) * 16)) ++ [0, 0]
  | 3 => ([0, 1, 2].flatMap fun j => leBytes 2 (smp 16 j)) ++ [0, 0]
  | _ => px 2 fun i => leBytes 2 (smp 10 (2 * i + 1) * 64) ++ leBytes 2 (smp 10 (2 * i) * 64)

/-- The stored pixels that the octets of a sample row data segment carry, pixel group by pixel group (R40, R56). -/
def storedPixels (format : Nat) (octets : List Byte) : List Byte :=
  (chunks (pixelGroup format).1 octets.length octets).flatMap (groupPixels format)

/-- The octets of each sample row data header, in order (R60). -/
def rowOctets : List RowData → List Byte → List (RowData × List Byte)
  | [], _ => []
  | r :: rest, l => (r, l.take r.length) :: rowOctets rest (l.drop r.length)

/-- The packet is as long as its own headers describe (R60). -/
def netSizeOk (p : NetPkt) : Bool := decide ((p.rows.map fun r => r.length).sum = p.octets.length)

/-- The first cause that makes a packet malformed (R60): 1 row, 2 offset or width, 3 pixel-group length, 4 payload type,
5 packet length; 0 for none. Of several causes, over all its row headers, the lowest is the first. (DESIGN CHOICE, log entry 97) -/
def malformedCause (x : Slot) (p : NetPkt) : Nat :=
  let f := x.format
  if p.rows.any fun d => decide (x.height ≤ d.row) then 1
  else if p.rows.any fun d => decide (x.width < d.offset + rowPixels f d) then 2
  else if p.rows.any fun d => d.length % (pixelGroup f).1 ≠ 0 || (bit (x.w 5) 7 && d.length % 180 ≠ 0) then 3
  else if p.pt ≠ fld (x.w 5) 6 0 then 4
  else if !netSizeOk p then 5
  else 0

/-- The runs of pixels cover a row of `w` pixels from the left: how far they reach without a gap. -/
def reach (w : Nat) : Nat → List (Nat × Nat) → Nat → Nat
  | 0, _, at_ => at_
  | n + 1, runs, at_ =>
    match runs.find? fun r => decide (r.1 ≤ at_) && decide (at_ < r.1 + r.2) with
    | some r => reach w n runs (r.1 + r.2)
    | none => at_

/-- The runs (row, offset, pixels) hold every pixel of a frame. -/
def covers (w h : Nat) (runs : List (Nat × Nat × Nat)) : Bool :=
  (List.range h).all fun y =>
    let l := (runs.filter fun r => r.1 = y).map fun r => r.2
    decide (w ≤ reach w l.length l 0)

/-- The PTP time in ns of an RTP timestamp of a clock of `rate` Hz, the one nearest to wall time `t` (SMPTE ST 2110-10, R396). -/
def mediaTime (rate : Nat) (ts : BitVec 32) (t : Nat) : Nat :=
  let now := t * rate / 1000000000
  let k := (now + 2147483648 - ts.toNat) / 4294967296
  (k * 4294967296 + ts.toNat) * 1000000000 / rate

/-- The open frame of a NET slot is judged (R58): READY when complete in every die that takes part, else incomplete. The last 16 judged
frames are known for the counts of R59; a packet of an older one opens a frame. (DESIGN CHOICE, log entry 97) -/
def judgeNet (s : State) (k : Nat) : State :=
  let x := s.slot k
  match x.net with
  | none => s
  | some n =>
    let full := fun (d : DieId) (runs : List (Nat × Nat × Nat)) => !(s.up d) || covers x.width x.height runs
    let ok := !n.bad && n.buf.isSome && full .a n.heldA && full .b n.heldB
    let j : NetJudged := ⟨n.ts, ok, s.uptime, n.markerAt.getD s.wall⟩
    let s1 := s.modSlot k fun x => { x with net := none, judged := (j :: x.judged).take 16 }
    match n.buf with
    | some b => if ok then bufReady s1 k b false (mediaTime 90000 n.ts (n.markerAt.getD s.wall)) else slotEvent (abandon s1 k b) k 3
    | none => slotEvent (s1.modSlot k fun x => { x with nIncomplete := x.nIncomplete + 1 }) k 3

/-- A network port stands in a planned network window (R536). -/
def inWindow (s : State) (port : Nat) : Bool := Tbl.get false s.time.netWindow port

/-- The die a leg arrives at. -/
def legDie (leg : Nat) : DieId := if leg = 0 then .a else .b

/-- A leg counts as absent: lost (R61), in a network window (R536), or of a die that is fenced (R61, R261). -/
def legAbsent (s : State) (x : Slot) (leg : Nat) : Bool :=
  !x.legEn leg || (x.leg leg).lost || inWindow s (x.legPort leg) || !s.up (legDie leg)

/-- Every leg that counts has delivered the marker of the open frame (R58). -/
def markersIn (s : State) (x : Slot) (n : NetFrame) : Bool :=
  (legAbsent s x 0 || n.markerA) && (legAbsent s x 1 || n.markerB) && n.markerAt.isSome

/-- The open frame of a slot is judged if every leg that counts has delivered its marker (R58). -/
def judgeIfIn (s : State) (k : Nat) : State :=
  match (s.slot k).net with
  | some n => if markersIn s (s.slot k) n then judgeNet s k else s
  | none => s

/-- Opens a network frame with RTP timestamp `ts` (R554). -/
def openNet (s : State) (k : Nat) (ts : BitVec 32) : State :=
  match freeTarget s k with
  | some (s1, b) => (startFilling s1 k b).modSlot k fun x => { x with net := some { ts := ts, buf := some b } }
  | none => s.modSlot k fun x => { x with net := some { ts := ts, buf := none } }

/-- The runs of a packet. -/
def packetRuns (x : Slot) (p : NetPkt) : List (Nat × Nat × Nat) :=
  p.rows.map fun d => (d.row, d.offset, rowPixels x.format d)

/-- A packet's pixels reach one die (R57). -/
def mergeDie (s : State) (d : DieId) (k b : Nat) (p : NetPkt) : State :=
  let x := s.slot k
  let s1 := s.each (rowOctets p.rows p.octets) fun s r =>
    writeDie s d k b (r.1.row * x.stride + r.1.offset * storageHalf x.format / 2) (storedPixels x.format r.2)
  let add := fun (n : NetFrame) =>
    match d with
    | .a => { n with heldA := n.heldA ++ packetRuns x p }
    | .b => { n with heldB := n.heldB ++ packetRuns x p }
  s1.modSlot k fun x => { x with net := x.net.map add }

/-- A well-formed packet of the open frame is merged, or discarded as a duplicate (R57), and its marker noted. A die that rejoins is fed
like one in service (R67). -/
def mergePacket (s : State) (k leg : Nat) (p : NetPkt) : State :=
  match (s.slot k).net with
  | none => s
  | some n =>
    let x := s.slot k
    let runs := packetRuns x p
    let own := if leg = 0 then n.heldA else n.heldB
    let dup := runs.all fun r => own.contains r
    let both := s.dies.twin.linkAB
    let s1 :=
      match n.buf with
      | none => s
      | some b =>
        if dup then s.modSlot k fun x => x.modLeg leg fun l => { l with dup := l.dup + 1 }
        else
          let s2 := mergeDie s (legDie leg) k b p
          if both && s.mirrored (legDie leg).other then mergeDie s2 (legDie leg).other k b p else s2
    let mark := fun (n : NetFrame) =>
      if p.marker then
        { n with markerA := n.markerA || leg = 0, markerB := n.markerB || leg = 1, markerAt := some (n.markerAt.getD s.wall) }
      else n
    judgeIfIn (s1.modSlot k fun x => { x with net := x.net.map mark }) k

/-- A frame that the packet's RTP timestamp does not continue is closed (R59), and the packet's own is opened. -/
def frameFor (s : State) (k : Nat) (ts : BitVec 32) : State :=
  match (s.slot k).net with
  | some n => if n.ts = ts then s else openNet (judgeNet (if n.markerAt.isNone then
      s.modSlot k fun x => { x with net := x.net.map fun n => { n with bad := true } } else s) k) k ts
  | none => openNet s k ts

/-- A packet for leg `leg` of NET slot `k` (R58 to R61). -/
def slotPacket (s : State) (k leg : Nat) (p : NetPkt) : State :=
  let back := ((s.slot k).leg leg).lost
  let s1 := s.modSlot k fun x => x.modLeg leg fun l => { l with received := l.received + 1, lost := false, lastAt := s.uptime }
  let s2 := if back then slotEvent s1 k 5 (put leg 1 0) else s1
  let x := s2.slot k
  let cause := malformedCause x p
  if cause ≠ 0 then
    let due := match x.malformedAt with
      | some t => decide (t + 1000000000 ≤ s.uptime)
      | none => true
    let s3 := s2.modSlot k fun x => x.modLeg leg fun l => { l with malformed := l.malformed + 1 }
    let s4 := if due then slotEvent (s3.modSlot k fun x => { x with malformedAt := some s.uptime }) k 7 (put leg 1 0 ||| put cause 3 1) else s3
    if x.judged.any fun j => j.ts = p.ts then s4
    else (frameFor s4 k p.ts).modSlot k fun x => { x with net := x.net.map fun n => { n with bad := true } }
  else
    match x.judged.find? fun j => j.ts = p.ts with
    | some j =>
      if j.complete && decide (s.uptime ≤ j.at_ + 10000000) then s2.modSlot k fun x => x.modLeg leg fun l => { l with dup := l.dup + 1 }
      else s2.modSlot k fun x => x.modLeg leg fun l => { l with late := l.late + 1 }
    | none => mergePacket (frameFor s2 k p.ts) k leg p

/-- The legs of started NET slots that a packet on a network port belongs to (R56, R57). -/
def packetLegs (s : State) (port : Nat) (p : NetPkt) : List (Nat × Nat) :=
  s.frames.slots.flatMap fun x =>
    (List.range 2).filterMap fun leg =>
      let w := x.2.legWord leg
      let src := fld (x.2.w 4) (32 * leg + 31) (32 * leg)
      if x.2.started && x.2.legEn leg && decide (x.2.legPort leg = port) && decide (fld w 31 0 = p.dst.toNat) &&
        decide (fld w 47 32 = p.udp) && (decide (src = 0) || decide (src = p.src.toNat)) then some (x.1, leg) else none

/-- A network port receives: its die is up, its link too, and no network window is open (R261, R389, R536). -/
def netReceives (s : State) (port : Nat) : Bool :=
  s.up (if port < 2 then .a else .b) && Tbl.get false s.time.netUp port && !inWindow s port

/-- NET_PACKET (R56 to R61): an ST 2110-20 packet arrives on a network port. -/
def execNetPacket (port : NetPort) (p : NetPkt) (s : State) : Host.Outcome State Fault Refusal :=
  .next <|
    if netReceives s port then s.each (packetLegs s port p) fun s x => slotPacket s x.1 x.2 p else s

/-- NET_FRAME_TIMEOUT (R58): 10 ms after the first marker the open frame is judged. -/
def execNetFrameTimeout (slot : Nat) (s : State) : Host.Outcome State Fault Refusal :=
  .next <|
    match (s.slot slot).net with
    | some n => if n.markerAt.isSome then judgeNet s slot else s
    | none => s

/-- NET_LEG_LOSS (R61, R536): an enabled leg of a started slot has delivered nothing for 10 ms, outside a network window.
(DEDUCED, log entry 48) -/
def execNetLegLoss (slot : Nat) (leg : Nat) (s : State) : Host.Outcome State Fault Refusal :=
  .next <|
    let x := s.slot slot
    if !x.started || !x.legEn leg || (x.leg leg).lost || inWindow s (x.legPort leg) then s
    else judgeIfIn (slotEvent (s.modSlot slot fun x => x.modLeg leg fun l => { l with lost := true }) slot 4 (put leg 1 0)) slot

end Sys2Proof.Machine
end

