-- ==== Sys2Proof/Machine/CalOps.lean ====
section
/-! DEFINITION. Calibration items and the windows that take a path out of service: sources, indexes, closing
(R530 to R541). -/

namespace Sys2Proof.Machine

/-- ITEM of a calibration item (R540). -/
def calCode (i : CalItem) : Nat :=
  match i with
  | .tileLane _ _ => 0 | .netLane _ _ => 1 | .memory _ _ => 2 | .diode _ => 3 | .ptp _ _ => 4

/-- INDEX of a calibration item (R540). -/
def calIndex (i : CalItem) : Nat :=
  match i with
  | .tileLane _ p => p | .netLane _ l => l | .memory _ c => c | .diode _ => 0 | .ptp _ p => p

/-- The die of a calibration item. -/
def calDie (i : CalItem) : Die3 :=
  match i with
  | .tileLane d _ => d.die3 | .netLane d _ => d.die3 | .memory d _ => d | .diode d => d | .ptp d _ => d.die3

/-- The event source of a die's self-test and calibration (R541). -/
def calSource (d : Die3) : Nat :=
  match d with
  | .a => 268 | .b => 652 | .hub => 221

/-- A calibration event (R541). -/
def calEvent (s : State) (i : CalItem) (code : Nat) : State :=
  raise s (calSource (calDie i)) code (put (calCode i) 4 0 ||| put (calIndex i) 8 8)

/-- Whether a calibration of the item takes a path out of service (R533). -/
def takesPath (i : CalItem) : Bool :=
  match i with
  | .diode _ => false
  | _ => true

/-- The port number 0 to 63 of a die's tile-link port. -/
def diePortNo (d : DieId) (p : Nat) : Nat := d.num * 32 + p

/-- The network port 0 to 3 of a die's port or lane. -/
def netPortNo (d : DieId) (p : Nat) : Nat := d.num * 2 + p

/-- The network port that an item's window takes out of service. -/
def calNetPort (i : CalItem) : Option Nat :=
  match i with
  | .netLane d l => some (netPortNo d (l / 4))
  | .ptp d p => some (netPortNo d p)
  | _ => none

/-- The path of an item leaves service, or rejoins it once no item of its network port has an open window (R535, R536). -/
def setPath (s : State) (i : CalItem) (out : Bool) : State :=
  match i with
  | .tileLane d p => s.modPort (diePortNo d p) fun x => { x with windowOpen := out }
  | _ =>
    match calNetPort i with
    | some p =>
      let still := s.service.cal.any fun x => x.2.window && decide (x.1 ≠ i) && decide (calNetPort x.1 = some p)
      let s1 := s.modTime fun t => { t with netWindow := Tbl.set false t.netWindow p (out || still) }
      if out then s1.each (s1.frames.slots.map fun x => x.1) judgeIfIn else s1
    | none => s

/-- LINKSET gives the tile next to a port the transmit preset of its port on that side; its other port keeps the preset last applied
(R184, R535). (DEDUCED, log entry 52) -/
def sendLinkset (s : State) (d : DieId) (p : Nat) (preset : Nat) : State :=
  let port := diePortNo d p
  match s.tileAway port 0 with
  | none => s
  | some t =>
    let other := ((s.cal (.tileLane d.other p)).values.getD 2 2).toNat
    let far := if s.twin && decide (s.tileAway (diePortNo d.other p) 0 = some t) then other else 2
    let arg := match d with
      | .a => put preset 3 0 ||| put far 3 3
      | .b => if s.twin then put far 3 0 ||| put preset 3 3 else put preset 3 0 ||| put far 3 3
    sendTime s port 5 arg t false

/-- A tile-link lane takes sender preset, peaking and tile preset (R535); those of R532 where it has no values. (DEDUCED, log entry 52) -/
def setLane (s : State) (d : DieId) (p : Nat) (v : List Int) : State :=
  let n := fun (k : Nat) => ((if v.isEmpty then [2, 6, 2] else v).getD k 0).toNat
  sendLinkset (s.modPort (diePortNo d p) fun x => { x with preset := n 0, ctle := n 1 }) d p (n 2)

/-- Closes an open window with the values last applied, which a run under way has overwritten (R535, R538): event 0x05, then the outcome
of a calibration that ended in it. (DEDUCED, log entry 52) -/
def closeWindow (s : State) (i : CalItem) : State :=
  let c := s.cal i
  if !c.window then s
  else
    let s0 := match i with
      | .tileLane d p => if c.results.isEmpty then s else setLane s d p c.values
      | _ => s
    let s1 := setPath (s0.modCal i fun x => { x with window := false, results := [], outcome := 0 }) i false
    let s2 := calEvent s1 i 5
    if c.outcome = 0 then s2 else calEvent s2 i c.outcome

/-- Closes every open window that satisfies `p`. -/
def closeWindows (s : State) (p : CalItem → Bool) : State :=
  s.each ((s.service.cal.filter fun x => x.2.window && p x.1).map fun x => x.1) closeWindow

end Sys2Proof.Machine
end

