-- ==== Sys2Proof/Machine/Layers.lean ====
section
/-! DEFINITION. Fields and geometry of layers, blend programs and scan words, and the staging commands CANVAS_CONFIG,
CANVAS_TILES, LAYER_CONFIG, BLEND_TREE, CANVAS_TIMING and TILE_SCAN (R73 to R91, R99, R208, R231). -/

namespace Sys2Proof

open Sys2Proof.Machine

/-- The choices that die `d` composes by (R17, R19). -/
def Machine.FrameOrder.choicesOf (o : FrameOrder) (d : DieId) : List Choice := if d = .b then o.choicesB.getD o.choices else o.choices

/-! ### Fields of a layer block (R79) -/

/-- CANVAS of a layer block. -/
def Desc.lCanvas (d : Desc) : Nat := fld d.w0 5 4
/-- SLOT. -/
def Desc.lSlot (d : Desc) : Nat := fld d.w0 10 6
/-- EN. -/
def Desc.lEn (d : Desc) : Bool := bit d.w0 11
/-- ROT. -/
def Desc.lRot (d : Desc) : Nat := fld d.w0 13 12
/-- ALPHA. -/
def Desc.lAlpha (d : Desc) : Nat := fld d.w0 15 14
/-- GALPHA. -/
def Desc.lGalpha (d : Desc) : Nat := fld d.w0 26 16
/-- ILUT. -/
def Desc.lIlut (d : Desc) : Nat := fld d.w0 28 27
/-- FILTER. -/
def Desc.lFilter (d : Desc) : Nat := fld d.w0 30 29
/-- REPEAT. -/
def Desc.lRepeat (d : Desc) : Nat := fld d.w0 39 32
/-- LCS. -/
def Desc.lCs2020 (d : Desc) : Bool := bit d.w0 40
/-- LTF. -/
def Desc.lTf (d : Desc) : Nat := fld d.w0 42 41
/-- YCCM. -/
def Desc.lYcc2020 (d : Desc) : Bool := bit d.w0 43
/-- RANGE: full. -/
def Desc.lFull (d : Desc) : Bool := bit d.w0 44
/-- CROP_X. -/
def Desc.cropX (d : Desc) : Nat := fld d.w1 15 0
/-- CROP_Y. -/
def Desc.cropY (d : Desc) : Nat := fld d.w1 31 16
/-- CROP_W. -/
def Desc.cropW (d : Desc) : Nat := fld d.w1 47 32
/-- CROP_H. -/
def Desc.cropH (d : Desc) : Nat := fld d.w1 63 48
/-- DST_X. -/
def Desc.dstX (d : Desc) : Int := signed 32 (fld d.w2 31 0)
/-- DST_Y. -/
def Desc.dstY (d : Desc) : Int := signed 32 (fld d.w2 63 32)
/-- DST_W. -/
def Desc.dstW (d : Desc) : Nat := fld d.w3 15 0
/-- DST_H. -/
def Desc.dstH (d : Desc) : Nat := fld d.w3 31 16
/-- RW: the width of the rotated crop (R80). -/
def Desc.rw' (d : Desc) : Nat := if d.lRot % 2 = 1 then d.cropH else d.cropW
/-- RH: the height of the rotated crop (R80). -/
def Desc.rh' (d : Desc) : Nat := if d.lRot % 2 = 1 then d.cropW else d.cropH
/-- The layer is scaled (R80). -/
def Desc.scaled (d : Desc) : Bool := decide (d.lRot ≠ 0) || decide (d.dstW ≠ d.rw') || decide (d.dstH ≠ d.rh')

end Sys2Proof

namespace Sys2Proof.Machine

/-- The part of a layer's destination inside the canvas: left, top, right, bottom (exclusive), if any (R80). -/
def layerRect (c : CanvasCfg) (d : Desc) : Option (Nat × Nat × Nat × Nat) :=
  let x0 := max 0 d.dstX
  let y0 := max 0 d.dstY
  let x1 := min (c.width : Int) (d.dstX + d.dstW)
  let y1 := min (c.height : Int) (d.dstY + d.dstH)
  if x0 < x1 && y0 < y1 then some (x0.toNat, y0.toNat, x1.toNat, y1.toNat) else none

/-- DWc and DHc of a layer (R80); zero with no part inside the canvas. -/
def clipped (c : CanvasCfg) (d : Desc) : Nat × Nat :=
  match layerRect c d with
  | some (x0, y0, x1, y1) => (x1 - x0, y1 - y0)
  | none => (0, 0)

/-- A canvas's exact frame rate times 1,001, a whole number. -/
def CanvasCfg.rate1001 (c : CanvasCfg) : Nat :=
  let r := rateOf c.rate
  r.1 * (1001 / r.2)

/-- The stripes a layer needs (R87): none when unscaled or outside the canvas. -/
def stripes (c : CanvasCfg) (d : Desc) : Nat :=
  let (w, h) := clipped c d
  if !d.scaled || w = 0 then 0
  else max (ceilDiv w 8192) (ceilDiv (w * h * c.rate1001) (3200000000 * 1001))

/-! ### Blend programs (R91) -/

/-- BLEND_TREE's COUNT. -/
def CanvasCfg.blendCount (c : CanvasCfg) : Nat := fld (wordAt c.blend 0) 5 2
/-- Byte `i` of the blend program. -/
def CanvasCfg.blendByte (c : CanvasCfg) (i : Nat) : Nat := fld (wordAt c.blend (1 + i / 8)) (i % 8 * 8 + 7) (i % 8 * 8)
/-- The blend program. -/
def CanvasCfg.blendProg (c : CanvasCfg) : List Nat := (List.range c.blendCount).map c.blendByte
/-- The program's leaves. -/
def blendLeaves (p : List Nat) : List Nat := (p.filter fun b => b < 128).map fun b => b % 16
/-- The stack depth after a program that never underflows, by a fold over its bytes. -/
def blendDepth (p : List Nat) : Option Nat :=
  p.foldl (fun a b =>
    match a with
    | none => none
    | some n => if b < 128 then some (n + 1) else if n < 2 then none else some (n - 1)) (some 0)
/-- Every operator of the program has a code (R11, R91). Reserved bits of a byte are ignored (R10). (DEDUCED, log entry 107) -/
def blendCodes (c : CanvasCfg) : Bool := c.blendProg.all fun b => decide (b < 128) || decide (b % 8 < 4)
/-- The program that canvas `k` commits is valid (R91): every leaf names a layer of the canvas, enabled or not.
(DEDUCED, log entry 107) -/
def blendValid (s : State) (k : Nat) (c : CanvasCfg) : Bool :=
  let p := c.blendProg
  let l := blendLeaves p
  decide (l.length ≤ 8) && decide l.Nodup && decide (blendDepth p = some 1) &&
    l.all fun x => decide ((s.layer x).staged.lCanvas = k)

/-! ### Scan words (R231, R232) -/

/-- The scan configuration of a tile in a canvas configuration; zero when TILE_SCAN has staged none. (DEDUCED, log entry 53) -/
def CanvasCfg.scanOf (c : CanvasCfg) (t : Nat) : Word := Tbl.get 0 c.scan t
/-- The bits of a SCAN word 0 that TILE_SCAN supplies: MUX, PD, BLANK, GCLK. -/
def scanBits (w : Word) : Word := w &&& 0x000000FF1FFF0F7F#64
/-- T_cyc of a SCAN word times GCLK, in ns (R232). -/
def scanCycle (w : Word) : Nat :=
  fld w 6 0 * (2 ^ (fld w 11 8 + 8) * 1000 + fld w 28 16 * fld w 39 32)
/-- C: PWM cycles in a period (R232). -/
def scanCount (w : Word) (rate : Nat) : Nat :=
  let r := rateOf rate
  1000000000 * r.2 * fld w 39 32 / (r.1 * scanCycle w)
/-- The fields of a SCAN word lie in the ranges of R231. -/
def scanFields (w : Word) : Bool :=
  (1 ≤ fld w 6 0 && fld w 6 0 ≤ 64) && decide (fld w 11 8 ≤ 8) && (20 ≤ fld w 28 16 && fld w 28 16 ≤ 5000) &&
    (10 ≤ fld w 39 32 && fld w 39 32 ≤ 250)

/-! ### Staging (R74, R91, R99, R208, R231, R320) -/

/-- Staged canvas field `f` of canvas `c`. -/
def modStaged (s : State) (c : Nat) (f : CanvasCfg → CanvasCfg) : State := s.modCanvas c fun x => { x with staged := f x.staged }

/-- The CANVAS of a request whose word 0 holds it in bits [1:0]. -/
def reqCanvas (r : Req) : Nat := fld (r.word 0) 1 0
/-- The request's canvas lies in the sender's partition. -/
def canvasReach (s : State) (r : Req) : Bool := s.owns r.who 3 (reqCanvas r)

/-- CANVAS_CONFIG for the common checks. -/
def opCanvasConfig : JcsOp := { opcode := 0x0401, reach := canvasReach }
/-- CANVAS_CONFIG (R73, R99). -/
def canvasConfigBody (s : State) (r : Req) : Ans :=
  .ok (modStaged s (reqCanvas r) fun c => { c with cfg := (List.range 4).map r.word })
/-- CANVAS_CONFIG (R73). -/
def execCanvasConfig (r : Req) (s : State) : Host.Outcome State Fault Refusal := .next (jcs opCanvasConfig canvasConfigBody r s)

/-- The entries of CANVAS_TILES that the payload holds (R74, R318). -/
def tileEntries (r : Req) : List Placement :=
  let n := min (fld (r.word 0) 15 8) ((min r.len 511 - 1) / 2)
  (List.range n).map fun i => ⟨r.word (1 + 2 * i), r.word (2 + 2 * i)⟩
/-- CANVAS_TILES for the common checks (R74, R336): the canvas and every tile named are the sender's. -/
def opCanvasTiles : JcsOp :=
  { opcode := 0x0402, reach := fun s r => canvasReach s r && (tileEntries r).all fun p => s.owns r.who 4 p.tile }
/-- The list with an entry added, in the place of one that names the same tile (R74). (DESIGN CHOICE, log entry 105) -/
def addPlacement (l : List Placement) (p : Placement) : List Placement :=
  if l.any fun q => q.tile = p.tile then l.map fun q => if q.tile = p.tile then p else q else l ++ [p]
/-- CANVAS_TILES (R74, R99, R318). (DEDUCED, log entry 53) -/
def canvasTilesBody (s : State) (r : Req) : Ans :=
  let count := fld (r.word 0) 15 8
  let l := tileEntries r
  if count = 0 then .ok s
  else
    { Ans.ok (modStaged s (reqCanvas r) fun c =>
        { c with tiles := l.foldl addPlacement (if bit (r.word 0) 16 then c.tiles else []) }) with
      trunc := decide (l.length < count) }
/-- CANVAS_TILES (R74). -/
def execCanvasTiles (r : Req) (s : State) : Host.Outcome State Fault Refusal := .next (jcs opCanvasTiles canvasTilesBody r s)

/-- The LAYER of a layer block. -/
def reqLayer (r : Req) : Nat := fld (r.word 0) 3 0
/-- LAYER_CONFIG for the common checks (R82): the layer, the canvas and the slot are the sender's. -/
def opLayerConfig : JcsOp :=
  { opcode := 0x0403, reach := fun s r =>
      s.owns r.who 5 (reqLayer r) && s.owns r.who 3 (fld (r.word 0) 5 4) && s.owns r.who 6 (fld (r.word 0) 10 6) }
/-- LAYER_CONFIG (R79, R99). -/
def layerConfigBody (s : State) (r : Req) : Ans :=
  .ok (s.modLayer (reqLayer r) fun l => { l with staged := ⟨r.word 0, r.word 1, r.word 2, r.word 3⟩, owner := r.who })
/-- LAYER_CONFIG (R79). -/
def execLayerConfig (r : Req) (s : State) : Host.Outcome State Fault Refusal := .next (jcs opLayerConfig layerConfigBody r s)

/-- BLEND_TREE for the common checks. -/
def opBlendTree : JcsOp := { opcode := 0x0404, reach := canvasReach }
/-- BLEND_TREE (R91, R99, R318): a count that passes the payload is cut. (DEDUCED, log entry 53) -/
def blendTreeBody (s : State) (r : Req) : Ans :=
  let count := fld (r.word 0) 5 2
  let n := min count (8 * (min r.len 511 - 1))
  if count = 0 then .ok s
  else
    { Ans.ok (modStaged s (reqCanvas r) fun c =>
        { c with blend := [(r.word 0 &&& ~~~(0xF#64 <<< 2)) ||| put n 4 2, r.word 1, r.word 2] }) with
      trunc := decide (n < count) }
/-- BLEND_TREE (R91). -/
def execBlendTree (r : Req) (s : State) : Host.Outcome State Fault Refusal := .next (jcs opBlendTree blendTreeBody r s)

/-- CANVAS_TIMING for the common checks. -/
def opCanvasTiming : JcsOp := { opcode := 0x0820, reach := canvasReach }
/-- CANVAS_TIMING (R208, R99). -/
def canvasTimingBody (s : State) (r : Req) : Ans :=
  .ok (modStaged s (reqCanvas r) fun c => { c with timing := (List.range 4).map r.word })
/-- CANVAS_TIMING (R208). -/
def execCanvasTiming (r : Req) (s : State) : Host.Outcome State Fault Refusal := .next (jcs opCanvasTiming canvasTimingBody r s)

/-- The TILE of a request whose word 0 holds it in bits [8:0]. -/
def reqTile (r : Req) : Nat := fld (r.word 0) 8 0
/-- The request's tile lies in the sender's partition (R243). -/
def tileReach (s : State) (r : Req) : Bool := s.owns r.who 4 (reqTile r)
/-- TILE_SCAN for the common checks. -/
def opTileScan : JcsOp := { opcode := 0x0502, reach := tileReach }
/-- TILE_SCAN (R231, R99). -/
def tileScanBody (s : State) (r : Req) : Ans :=
  .ok (s.modFrames fun f => { f with stagedScan := Tbl.set 0 f.stagedScan (reqTile r) (r.word 1) })
/-- TILE_SCAN (R231). -/
def execTileScan (r : Req) (s : State) : Host.Outcome State Fault Refusal := .next (jcs opTileScan tileScanBody r s)

end Sys2Proof.Machine
end

