-- ==== Sys2Proof/Machine/Commit.lean ====
section
/-! DEFINITION. CANVAS_COMMIT: the checks of R101, ordinary commits and the start of a timing change
(R34, R80 to R88, R98 to R101, R210, R222, R230 to R232, R331, R446). -/

namespace Sys2Proof.Machine

/-- The staged configuration of canvas `c` as a commit takes it (R99, R82): with its enabled layers and its tiles' scans. -/
def stagedCfg (s : State) (c : Nat) : CanvasCfg :=
  let st := (s.canvas c).staged
  { st with
    layers := (s.frames.layers.filter fun x => x.2.staged.lEn && x.2.staged.lCanvas = c).map fun x => (x.1, x.2.staged),
    scan := s.frames.stagedScan.filter fun x => st.tileIds.contains x.1 }

/-! ### Check 1: fields (R73, R79, R208, R210, R230 to R232) -/

/-- T × GCLK bound: `num` ns at `den` against the period: a whole time fits the exact period of a rate. (DEDUCED, log entry 54) -/
def fitsPeriod (rate t : Nat) : Bool :=
  let r := rateOf rate
  decide (t * r.1 ≤ 1000000000 * r.2)

/-- The canvas block lies within R73, with no reserved encoding (R11). A mesh of more points than R95 allows is refused here, where the
spacing is judged: the manual names no check for it. (DESIGN CHOICE, log entry 105) -/
def canvasFields (c : CanvasCfg) : Bool :=
  let step := 2 ^ c.meshStep
  (1 ≤ c.rate && c.rate ≤ 17) && decide (c.work ≠ 3) && decide (16 ≤ c.width) && decide (16 ≤ c.height) &&
    (1 ≤ c.fullNits && c.fullNits ≤ 10000) && (1 ≤ c.sdrNits && c.sdrNits ≤ 10000) &&
    (100 ≤ c.hlgPeak && c.hlgPeak ≤ 10000) &&
    decide (4 ≤ c.meshStep) && (!c.mesh || decide ((ceilDiv c.width step + 1) * (ceilDiv c.height step + 1) ≤ 262144))

/-- An enabled layer's block lies within R79. -/
def layerFields (d : Desc) : Bool :=
  decide (d.lAlpha ≠ 3) && decide (d.lIlut ≠ 3) && decide (d.lFilter ≠ 3) && decide (d.lGalpha ≤ 1024) &&
    decide (1 ≤ d.dstW) && decide (1 ≤ d.dstH)

/-- The timing block lies within R208 and R210. -/
def timingFields (c : CanvasCfg) : Bool :=
  fitsPeriod c.rate (c.phase + 1) && fitsPeriod c.rate (c.scanOffset + 1) &&
    (!c.winEn || fitsPeriod c.rate (c.winOpen + c.winLen))

/-- GCLK_MAX that a tile has reported (R249). -/
def Tile.gclkMax (t : Tile) : Option Nat := t.newest.map fun x => fld (wordAt x.words 5) 15 0
/-- PIX_MAX that a tile has reported (R249). -/
def Tile.pixMax (t : Tile) : Option Nat := t.newest.map fun x => fld (wordAt x.words 5) 49 32
/-- A bound holds for a reported value; it passes when the tile has not reported it (R553). -/
def reported (v : Option Nat) (p : Nat → Bool) : Bool :=
  match v with
  | some x => p x
  | none => true

/-- The scan of a tile lies within R231, R232 and R210. D_REF binds while the tile's drive entry is enabled. -/
def scanOk (s : State) (c : CanvasCfg) (t : Nat) : Bool :=
  let w := c.scanOf t
  let r := rateOf c.rate
  let n := scanCount w c.rate
  scanFields w && reported (s.tile t).gclkMax (fun g => decide (fld w 39 32 ≤ g)) && decide (1 ≤ n) &&
    (!bit (s.pltW 0x12 t 1) 32 ||
      decide (n * scanCycle w * r.1 * 65536 ≤ fld (s.pltW 0x12 t 1) 31 16 * fld w 39 32 * 1000000000 * r.2)) &&
    (!c.winEn || decide (scanCycle w ≤ c.winLen * fld w 39 32))

/-- A placement lies within R230: the ranges of TW and TH, and what its tile has reported. -/
def placeReported (s : State) (c : CanvasCfg) (p : Placement) : Bool :=
  (16 ≤ p.tw && p.tw ≤ 1024) && (8 ≤ p.th && p.th ≤ 1024) && reported (s.tile p.tile).pixMax (fun m => decide (p.tw * p.th ≤ m)) &&
    (!c.rgbw || reported ((s.tile p.tile).caps.map fun w => fld w 4 4) (fun b => b = 1))

/-- Check 1 of R101: no staged field out of range or with a reserved encoding (R11, R99). -/
def check1 (s : State) (c : CanvasCfg) : Bool :=
  canvasFields c && blendCodes c && (c.layers.all fun l => layerFields l.2) && timingFields c && (c.tileIds.all fun t => scanOk s c t) &&
    c.tiles.all fun p => placeReported s c p

/-! ### Checks 2 and 3: tiles (R75, R76, R226) -/

/-- The canvases other than `c` with the configuration each runs and the one that is pending or changing. (DEDUCED, log entry 54) -/
def otherCfgs (s : State) (c : Nat) : List (Nat × CanvasCfg) :=
  (below 4 fun i => i ≠ c).flatMap fun i =>
    let x := s.canvas i
    (i, x.committed) :: ((x.pending.map fun p => (i, p.cfg)).toList ++ (x.change.map fun p => (i, p.cfg)).toList)

/-- A tile holds an enabled map entry in effect. -/
def State.mapped (s : State) (t : Nat) : Bool := (s.tile t).map.isSome

/-- A placement's raster and regions obey R74 to R76 and lie inside the canvas. -/
def placeFits (c : CanvasCfg) (p : Placement) : Bool :=
  decide (p.tw * p.th ≤ 131072) && decide (p.x + p.fw ≤ c.width) && decide (p.y + p.fh ≤ c.height) &&
    (List.range p.regions).all fun i =>
      let (_, _, w, h) := p.rect i
      (16 ≤ w && w ≤ 1024) && (8 ≤ h && h ≤ 64) && decide (w * h ≤ 16384)

/-- Two footprints do not overlap. -/
def footApart (p q : Placement) : Bool :=
  decide (p.x + p.fw ≤ q.x) || decide (q.x + q.fw ≤ p.x) || decide (p.y + p.fh ≤ q.y) || decide (q.y + q.fh ≤ p.y)

/-- Every pair of a list satisfies `p`. -/
def pairs {α : Type} (p : α → α → Bool) : List α → Bool
  | [] => true
  | x :: t => (t.all fun y => p x y) && pairs p t

/-- Check 3 of R101. -/
def check3 (s : State) (c : CanvasCfg) : Bool :=
  (c.tileIds.all fun t => s.mapped t) && (c.tiles.all fun p => placeFits c p) && pairs footApart c.tiles

/-! ### Checks 4, 5, 12, 13: budgets of the package (R34, R98, R446) -/

/-- The canvas sets that a commit of `cfg` to canvas `c` would leave: beside the running configurations, and beside the
pending ones. (DEDUCED, log entry 54) -/
def cfgSets (s : State) (c : Nat) (cfg : CanvasCfg) : List (List CanvasCfg) :=
  let now := below 4 fun i => i ≠ c
  [cfg :: now.map fun i => (s.canvas i).committed,
   cfg :: now.map fun i =>
    let x := s.canvas i
    match x.change, x.pending with
    | some p, _ => p.cfg
    | none, some p => p.cfg
    | none, none => x.committed]

/-- The placements of a canvas that die `d` computes (R23). -/
def dieTiles (s : State) (d : DieId) (c : CanvasCfg) : List Placement :=
  if s.span then c.tiles.filter fun p => (s.tileDies p.tile).contains d else c.tiles
/-- A canvas in effect has tiles of both dies (R280). -/
def sharedCanvas (s : State) (c : Nat) : Bool := decide (((s.canvas c).committed.tileIds.flatMap s.tileDies).dedup.length = 2)
/-- The tile pixels of a canvas that die `d` computes. -/
def diePixels (s : State) (d : DieId) (c : CanvasCfg) : Nat := ((dieTiles s d c).map fun p => p.tw * p.th).sum

/-- Check 4 of R101, with weights times 3. -/
def pixelsFit (s : State) (l : List CanvasCfg) : Bool :=
  [DieId.a, DieId.b].all fun d =>
    decide ((l.map fun c => diePixels s d c * (if 14 ≤ c.rate then 2 else 1) * (if c.rgbw then 4 else 3)).sum ≤ 3 * 33554432)

/-- The lane rate code of a port that R34 takes: the setting in force. -/
def State.laneRate (s : State) (port : Nat) : Nat := (s.port (s.diePort (if s.span && 32 ≤ port then .b else .a) port)).rate

/-- Payload per second times 1,001 that a canvas puts on a loop or chain (R34), in bits. -/
def portLoad (s : State) (port : Nat) (c : CanvasCfg) : Nat :=
  ((c.tiles.filter fun p =>
    match (s.tile p.tile).map with
    | some m => m.port = port
    | none => false).map fun p => p.tw * p.th * c.np * 16).sum * c.rate1001

/-- The payload of a loop or chain is within 0.70 × D at a lane rate (R34): D is the rate × 64/66 × 64/72. -/
def loadFits (load bps : Nat) : Bool := decide (load * 66 * 72 * 10 ≤ 7 * bps * 64 * 64 * 1001)

/-- Check 5 of R101. -/
def payloadFits (s : State) (l : List CanvasCfg) : Bool :=
  (List.range 64).all fun p => loadFits ((l.map fun c => portLoad s p c).sum) (laneBps (s.laneRate p))

/-- The engine cost of a canvas in lane-cycles per pixel besides correction (R98). -/
def engineCost (c : CanvasCfg) : Nat :=
  (c.layers.map fun l => 5 + (if l.2.lIlut = 0 then 0 else 3) + (if l.2.scaled then 2 else 0)).sum +
    (if c.tree then (c.blendProg.filter fun b => 128 ≤ b).length else 0) + (if c.olut then 4 else 0) + (if c.mesh then 40 else 0)

/-- The demand of a canvas on a die times 1,001 (R98). -/
def canvasDemand (s : State) (d : DieId) (c : CanvasCfg) : Nat :=
  let px := diePixels s d c
  if px = 0 then 0
  else (px * (if c.rgbw then 26 else 20) + (if c.mesh then c.width * c.height else px) * engineCost c) * c.rate1001

/-- Check 12 of R101. -/
def demandFits (s : State) (l : List CanvasCfg) : Bool :=
  [DieId.a, DieId.b].all fun d => decide ((l.map fun c => canvasDemand s d c).sum ≤ 614400000000 * 1001)

/-- Whole 512-byte blocks, in bytes (R446). -/
def blocks (n : Nat) : Nat := ceilDiv n 512 * 512

/-- The memory traffic of a canvas in a die in bytes per second times 1,001 (R446). -/
def canvasTraffic (s : State) (d : DieId) (c : CanvasCfg) : Nat :=
  let px := diePixels s d c
  if px = 0 then 0
  else
    let reads := (c.layers.map fun l =>
      let k := s.slot l.2.lSlot
      if k.kind = 0 then 0 else blocks (l.2.cropW * l.2.cropH * storageHalf k.format / 2)).sum
    let scaled := (c.layers.map fun l =>
      let (w, h) := clipped c l.2
      if l.2.scaled then blocks (16 * w * h) else 0).sum
    (blocks ((if c.rgbw then 24 else 16) * px) + blocks (4 * c.np * px) + reads + scaled +
      (if c.mesh then blocks (12 * c.width * c.height) else 0)) * c.rate1001

/-- The pool bytes of a canvas in a die (R86, R96). (DEDUCED, log entry 54) -/
def canvasPool (s : State) (d : DieId) (c : CanvasCfg) : Nat :=
  if diePixels s d c = 0 then 0
  else (c.layers.map fun l =>
    let (w, h) := clipped c l.2
    if l.2.scaled then 8 * w * h else 0).sum + (if c.mesh then 6 * c.width * c.height else 0)

/-- Bytes of one segment of a die's memory (R433). The pool of a die whose memory has not been trained, of which the manual says nothing,
counts as that of 128 GiB. (DESIGN CHOICE, log entry 94) -/
def segmentBytes (s : State) (d : DieId) : Nat :=
  let g := match d with
    | .a => s.hub.gibA
    | .b => s.hub.gibB
  (if g = 0 then 128 else g) * 1073741824 / 9

/-- The ingest of the started slots times 2,002 (R70). -/
def ingestNow (s : State) : Nat :=
  rateSum (s.frames.slots.filter fun x => x.2.started) fun x => x.width * x.height * storageHalf x.format

/-- Check 13 of R101. -/
def memoryFits (s : State) (l : List CanvasCfg) : Bool :=
  [DieId.a, DieId.b].all fun d =>
    decide ((l.map fun c => canvasTraffic s d c).sum + ingestNow s / 2 ≤ (320 - 15) * 1000000000 * 1001) &&
      decide ((l.map fun c => canvasPool s d c).sum ≤ segmentBytes s d)

/-! ### Checks 6 to 11: layers, stripes, programs, tables (R80 to R91, R97) -/

/-- The crop of a layer fits its slot's frame (R80, R102). -/
def cropFits (s : State) (d : Desc) : Bool :=
  let k := s.slot d.lSlot
  decide (k.kind = 0) ||
    (decide (d.cropX + d.cropW ≤ k.width) && decide (d.cropY + d.cropH ≤ k.height) &&
      !((4 ≤ k.format && k.format ≤ 6) && (d.cropX % 2 = 1 || d.cropW % 2 = 1)) &&
      !((k.format = 5 || k.format = 6) && (d.cropY % 2 = 1 || d.cropH % 2 = 1)))

/-- The transfer of a layer suits its slot's format (R80). -/
def formatFits (s : State) (d : Desc) : Bool :=
  let k := s.slot d.lSlot
  decide (k.kind = 0) || ((d.lTf == 3) == (k.format == 7))

/-- The scale factors of a layer lie between 1/8 and 8 (R80). -/
def scaleFits (d : Desc) : Bool :=
  decide (1 ≤ d.rw') && decide (1 ≤ d.rh') && decide (d.rw' ≤ 8 * d.dstW) && decide (d.dstW ≤ 8 * d.rw') &&
    decide (d.rh' ≤ 8 * d.dstH) && decide (d.dstH ≤ 8 * d.rh')

/-- Check 6 of R101. -/
def check6 (s : State) (c : CanvasCfg) : Bool :=
  decide (c.layers.length ≤ 8) && c.layers.all fun l => scaleFits l.2 && cropFits s l.2 && formatFits s l.2

/-- The stripes a layer holds in a die by configurations other than `c`'s pending one (R88). -/
def heldStripes (l : Nat) (cs : List CanvasCfg) : Nat :=
  (cs.map fun k => ((k.layers.filter fun y => y.1 = l).map fun y => stripes k y.2).foldl max 0).foldl max 0

/-- The configurations of canvas `c` that hold stripes beside a new commit: the running one, and one that is changing. -/
def ownCfgs (s : State) (c : Nat) : List CanvasCfg :=
  (s.canvas c).committed :: ((s.canvas c).change.map fun x => x.cfg).toList

/-- The configurations of a list that die `d` computes tiles of (R23). -/
def onDie (s : State) (d : DieId) (cs : List CanvasCfg) : List CanvasCfg := cs.filter fun k => s.twin || decide (0 < diePixels s d k)

/-- The stripes that the commit needs in die `d` beyond those its layers hold there (R88). -/
def stripesNeeded (s : State) (d : DieId) (c : Nat) (cfg : CanvasCfg) : Nat :=
  if (onDie s d [cfg]).isEmpty then 0
  else (cfg.layers.map fun l => stripes cfg l.2 - heldStripes l.1 (onDie s d (ownCfgs s c))).sum

/-- The stripes that are held in die `d` (R88). (DEDUCED, log entry 54) -/
def stripesHeld (s : State) (d : DieId) (c : Nat) : Nat :=
  ((List.range 4).map fun i =>
    let cs := if i = c then ownCfgs s i
      else (s.canvas i).committed :: (((s.canvas i).pending.map fun x => x.cfg).toList ++ ((s.canvas i).change.map fun x => x.cfg).toList)
    let on := onDie s d cs
    ((on.flatMap fun k => k.layers.map fun y => y.1).dedup.map fun l => heldStripes l on).sum).sum

/-- The stripes free in die `d` to canvas `c` (R88). -/
def stripesFree (s : State) (d : DieId) (c : Nat) : Nat := 12 - stripesHeld s d c

/-- The die whose stripes do not suffice for a commit (R88), die A first. (DEDUCED, log entry 54) -/
def stripesShort (s : State) (c : Nat) (cfg : CanvasCfg) : Option DieId :=
  [DieId.a, DieId.b].find? fun d => decide (stripesFree s d c < stripesNeeded s d c cfg)

/-- The clipped destination columns of stripe `i` of `n` (R87): first and one past the last. -/
def stripeColumns (dwc n i : Nat) : Nat × Nat := (i * dwc / n, (i + 1) * dwc / n)

/-- The inactive bank counts as loaded. -/
def LutBanks.idleLoaded (b : LutBanks) : Bool := if b.active1 then b.loaded0 else b.loaded1
/-- The active bank counts as loaded. -/
def LutBanks.activeLoaded (b : LutBanks) : Bool := if b.active1 then b.loaded1 else b.loaded0
/-- The bank that would be active with the commit holds a loaded table (R97). -/
def LutBanks.willBeLoaded (b : LutBanks) : Bool := if b.fresh then b.idleLoaded else b.activeLoaded

/-- The tables that a commit of canvas `c` can activate: the input LUTs of its layers, its output LUT and its mesh. -/
def canvasTables (s : State) (c : Nat) : List TableId :=
  (below 16 fun l => (s.layer l).staged.lCanvas = c).map TableId.inLut ++ [.outLut c, .mesh c]
/-- The inactive banks loaded since the last commit are to become active with the one now accepted, `change` where it is a timing change
(R97, R99). -/
def dueTables (s : State) (c : Nat) (change : Bool) : State :=
  s.each (canvasTables s c) fun s t => s.modTable t fun b =>
    { b with due := if b.due.isSome then b.due else if b.fresh && b.idleLoaded then some (c, change) else none }
/-- Every table. -/
def allTables : List TableId := (List.range 16).map TableId.inLut ++ (List.range 4).map TableId.outLut ++ (List.range 4).map TableId.mesh
/-- The banks that a timing change of canvas `c` was to activate stay inactive (R224). -/
def undueTables (s : State) (c : Nat) : State :=
  s.each allTables fun s t => s.modTable t fun b => if b.due = some (c, true) then { b with due := none } else b
/-- The banks that a timing change, or an ordinary commit, of canvas `c` was to activate become active (R97). -/
def flipTables (s : State) (c : Nat) (change : Bool) : State :=
  s.each allTables fun s t => s.modTable t fun b =>
    if b.due = some (c, change) then { b with active1 := !b.active1, fresh := false, due := none } else b

/-- Check 11 of R101. -/
def tablesLoaded (s : State) (c : Nat) (cfg : CanvasCfg) : Bool :=
  (cfg.layers.all fun l => l.2.lIlut = 0 || (Tbl.get {} s.frames.inLuts l.1).willBeLoaded) &&
    (!cfg.olut || (Tbl.get {} s.frames.outLuts c).willBeLoaded) && (!cfg.mesh || (Tbl.get {} s.frames.meshes c).willBeLoaded)

/-- The checks of R101 in order: the status and payload of the first that fails. (DEDUCED, log entry 54) -/
def commitFails (s : State) (c : Nat) (cfg : CanvasCfg) : Option (Nat × List Word) :=
  let others := otherCfgs s c
  let sets := cfgSets s c cfg
  if !check1 s cfg then some (4, [])
  else if others.any fun k => cfg.tileIds.any fun t => k.2.tileIds.contains t then some (6, [])
  else if !check3 s cfg then some (4, [])
  else if !(sets.all fun l => pixelsFit s l) then some (4, [])
  else if !(sets.all fun l => payloadFits s l) then some (4, [])
  else if !check6 s cfg then some (4, [])
  else if others.any fun k => cfg.layers.any fun l => k.2.layers.any fun y => y.1 = l.1 then some (6, [])
  else if cfg.layers.any fun l => decide (4 < stripes cfg l.2) then some (4, [])
  else if (stripesShort s c cfg).isSome then
    let d := (stripesShort s c cfg).getD .a
    some (2, [put (stripesNeeded s d c cfg) 8 0 ||| put (stripesFree s d c) 8 8])
  else if cfg.tree && !blendValid s c cfg then some (4, [])
  else if !tablesLoaded s c cfg then some (5, [])
  else if !(sets.all fun l => demandFits s l) then some (4, [])
  else if !(sets.all fun l => memoryFits s l) then some (4, [])
  else none

/-! ### Timing changes (R222) -/

/-- The defined bits of a placement. -/
def Placement.bits (p : Placement) : Word × Word := (p.w0 &&& 0x1FFFFFFFFFF#64, p.w1 &&& 0xFFFFFFFF#64)

/-- A change of microcode in Twin mode is in steps 1 to 4 of R511: no timing change and no SYS_POWER begins (R518). -/
def State.mcMoves (s : State) : Bool := decide (1 ≤ s.firmware.mcStep) && decide (s.firmware.mcStep ≤ 4)

/-- The commit of `new` over the running `old` is a timing change (R222). -/
def isTimingChange (old new : CanvasCfg) : Bool :=
  let tiles := (old.tileIds ++ new.tileIds).dedup
  decide (old.rate ≠ new.rate) || (old.rgbw != new.rgbw) || decide (old.phase ≠ new.phase) ||
    decide (old.scanOffset ≠ new.scanOffset) || (old.winEn != new.winEn) || decide (old.winOpen ≠ new.winOpen) ||
    decide (old.winLen ≠ new.winLen) ||
    tiles.any fun t => decide ((old.place t).map Placement.bits ≠ (new.place t).map Placement.bits) ||
      decide (scanBits (old.scanOf t) ≠ scanBits (new.scanOf t))

/-- The blocks of tile `t` under a configuration that differ from the committed blocks it holds (R229). (DEDUCED, log entry 55) -/
def tileBlocks (s : State) (c : CanvasCfg) (t : Nat) : List (Nat × Nat × List Word) :=
  match c.place t with
  | none => []
  | some p =>
    let x := s.tile t
    let r := rasterWords p c
    let w := scanWords (scanBits (c.scanOf t)) c
    (if x.raster.toList = r then [] else [(t, 1, r)]) ++
      (if (match x.scan with
        | some (a, b) => decide ([a, b] = w)
        | none => false) then [] else [(t, 2, w)])

/-- Starts the timing change of canvas `c` (R222 steps 2 to 4): frame M + 1 is the first with S ≥ t + 10 ms, and every
tile whose blocks change is staged, but for those held back (R553). A tile takes part in one transaction at a time (R239). An ordinary
commit that has been accepted keeps its frame; one for M + 1 applies at M + 2 (R225). (DEDUCED, log entry 55)
(DEDUCED, log entry 87) -/
def startChange (s : State) (c : Nat) (cfg : CanvasCfg) (src id : Nat) (follow : Bool := false) : State :=
  let (cv, t) := s.afterStep c s.reqTime
  let n := cv.firstFrame (t + 10000000)
  let data := (cfg.tileIds.filter fun t => (s.tile t).held.isNone).flatMap fun t => tileBlocks s cfg t
  let tiles := (data.map fun x => x.1).dedup
  let s1 := (if follow then s else dueTables s c true).modCanvas c fun x =>
    { x with change := some { src := src, id := id, m := n - 1, cfg := cfg, follow := follow, late := s.time.step.isSome },
             chStatus := 1, chFailed := [] }
  if tiles.isEmpty then s1
  else startTxn s1 .timing (some c) src (some id) tiles data n (wallOf (cv.flipTime n))

/-- The commit is accepted for frame `n` of canvas `c` (R99); the tiles of an idle canvas receive their blocks with
APPLY_TIME 0 (R227, R240). (DEDUCED, log entry 55) -/
def acceptCommit (s : State) (c : Nat) (cfg : CanvasCfg) (n : Nat) : State :=
  let s1 := (dueTables s c false).modCanvas c fun x => { x with pending := some ⟨n, cfg⟩ }
  if (s.canvas c).running then s1
  else
    let data := (cfg.tileIds.filter fun t => (s.tile t).assigned && (s.tile t).held.isNone && (s.txnOn t).isNone).flatMap fun t => tileBlocks s cfg t
    let tiles := (data.map fun x => x.1).dedup
    if tiles.isEmpty then s1 else startTxn s1 .raster (some c) 64 none tiles data n 0

/-- The staged tiles, the enabled layers and their slots are the sender's (R82, R336). (DESIGN CHOICE, log entry 111) -/
def stagedOwned (s : State) (who c : Nat) : Bool :=
  let cfg := stagedCfg s c
  (cfg.tileIds.all fun t => s.owns who 4 t) && cfg.layers.all fun l => s.owns who 5 l.1 && s.owns who 6 l.2.lSlot

/-- CANVAS_COMMIT for the common checks (R331, R336): a staged tile, layer or slot that has changed owner since is a partition violation.
(DESIGN CHOICE, log entry 111) -/
def opCanvasCommit : JcsOp :=
  { opcode := 0x0405, reach := fun s r => canvasReach s r && stagedOwned s r.who (reqCanvas r), zeros := fun _ _ => 1 }

/-- CANVAS_COMMIT (R99 to R101, R222, R225, R313, R331): a timing change is a long command (check 5 of R317). -/
def canvasCommitBody (s : State) (r : Req) : Ans :=
  let c := reqCanvas r
  let cv := s.canvas c
  let cfg := stagedCfg s c
  let change := cv.running && isTimingChange cv.committed cfg
  if change && decide (16 ≤ inFlight (s.func r.who)) then .busy s
  else if s.clocks.power ≠ .run then .notReady s
  else if cv.change.isSome then .busy s
  else
    match commitFails s c cfg with
    | some (status, words) => { status := status, state := s, payload := words }
    | none =>
      if change then
        let (cv', t) := s.afterStep c s.reqTime
        let n := cv'.firstFrame (t + 10000000)
        if s.mcMoves || cfg.tileIds.any fun t => (s.txnOn t).isSome then .busy s
        else if r.check then .ok s [put (n + 1) 48 0]
        else .accepted (startChange s c cfg r.who (s.nextLong r.who)) false (some c)
      else
        let n := if cv.running then cv.firstFrame (s.reqTime + 1000000) else cfg.startFrame (s.reqTime + 1000000)
        if r.check then .ok s [put n 48 0] else .ok (acceptCommit s c cfg n) [put n 48 0]

/-- CANVAS_COMMIT (R101). -/
def execCanvasCommit (r : Req) (s : State) : Host.Outcome State Fault Refusal := .next (jcs opCanvasCommit canvasCommitBody r s)

end Sys2Proof.Machine
end

