-- ==== Sys2Proof/Machine/OrdClocks.lean ====
section
/-! DEFINITION. The reference state, the ordinary clocks of the dies, their network ports and the grandmaster in use (R373, R378, R379,
R382, R389). -/

namespace Sys2Proof.Machine

/-- Word `i` of PTP_CONFIG. -/
def State.ptpW (s : State) (i : Nat) : Word := wordAt s.time.ptp i
/-- The reference state becomes `st`. -/
def toRef (s : State) (st : RefState) : State :=
  s.modTime fun t =>
    if t.state = st then t
    else { t with state := st, since := (s.wall : Int), good := 0, bad := 0, onPeriod := true, intervals := [] }

/-- An E203 event: its frame is that of the lowest-numbered running canvas (R389). -/
def timeEvent (s : State) (code : Nat) (data : Word) : State := raise s 203 code data s.lowFrame

/-! ### Ordinary clocks and network ports (R378, R379, R389) -/

/-- A reference rate change ends (R386): with every canvas changed the new REF_RATE is in force and the reference is acquired anew; a change
that ended PARTIAL leaves the reference in HOLDOVER. (DEDUCED, log entry 106) -/
def endFollow (s : State) (ok : Bool) : State :=
  match s.time.following with
  | none => s
  | some code =>
    if !ok then
      let s1 := (toRef s .holdover).modTime fun t => { t with following := none, inc := t.holdInc, slewing := false }
      timeEvent (timeEvent s1 2 (putB true 0)) 7 (put code 5 0)
    else if (List.range 4).any fun c => (s.canvas c).change.any fun ch => ch.follow then s
    else
      let s1 := s.modTime fun t =>
        { t with following := none, refRate := code,
                 ref := ((wordAt t.ref 0 &&& ~~~(0x1F#64 <<< 4)) ||| put code 5 4) :: t.ref.drop 1 }
      timeEvent (toRef s1 .acquire) 6 (put code 5 0)

/-- The ordinary clock of a die. -/
def State.oc (s : State) : DieId → OrdClock
  | .a => s.time.ocA
  | .b => s.time.ocB
/-- `s` with a die's ordinary clock changed. -/
def State.modOc (s : State) (d : DieId) (f : OrdClock → OrdClock) : State :=
  s.modTime fun t => match d with
    | .a => { t with ocA := f t.ocA }
    | .b => { t with ocB := f t.ocB }
/-- The die's ordinary clock is enabled, and its die runs (R261, R382). -/
def State.ocOn (s : State) (d : DieId) : Bool := s.up d && bit (s.ptpW 0) (16 + d.num)
/-- The die's ordinary clock is a slave on the port it uses. -/
def State.slave (s : State) (d : DieId) : Bool :=
  s.ocOn d && decide ((if (s.oc d).using1 then (s.oc d).port1 else (s.oc d).port0) = 9)
/-- The ordinary clock in use (R379): die A's while it is a slave, else die B's, else none. -/
def State.ocUsed (s : State) : Option DieId := if s.slave .a then some .a else if s.slave .b then some .b else none

/-- The event source of a network port (R389). -/
def netSource (port : Nat) : Nat := dieSource (if port < 2 then .a else .b) (10 + port % 2)
/-- The die of a network port. -/
def netDie (port : Nat) : DieId := if port < 2 then .a else .b
/-- A network port is up and in service. -/
def State.netUp (s : State) (port : Nat) : Bool :=
  s.up (netDie port) && Tbl.get false s.time.netUp port && !Tbl.get false s.time.netWindow port

/-- A port state of an ordinary clock (R389): event 0x03 when it changes. -/
def setPortState (s : State) (port : Nat) (v : BitVec 4) : State :=
  let d := netDie port
  let old := if port % 2 = 0 then (s.oc d).port0 else (s.oc d).port1
  if old = v then s
  else raise (s.modOc d fun o => if port % 2 = 0 then { o with port0 := v } else { o with port1 := v }) (netSource port) 3 (v.setWidth 64)

/-- The grandmasters that the two slaves see differ (R379). -/
def State.gmDiffer (s : State) : Bool := s.slave .a && s.slave .b && decide (s.time.ocA.gmId ≠ s.time.ocB.gmId)

/-- The grandmaster in use. (DEDUCED, log entry 73) -/
def State.gmUsed (s : State) : Option Word := s.ocUsed.map fun d => (s.oc d).gmId

/-- What follows from a change of port states or grandmasters (R379, R382, R389): `before` is the state it came from. A grandmaster
is new against the last one in use.
(DEDUCED, log entry 73) -/
def followGm (before s : State) : State :=
  let s1 := match s.time.lastGm, s.gmUsed with
    | some a, some b =>
      if a = b then s
      else
        let s2 := timeEvent s 8 0
        if s2.time.mode = .ptp then toRef (s2.modTime fun t => { t with slewing := false }) .acquire else s2
    | _, _ => s
  let s3 := match s.gmUsed with
    | some b => s1.modTime fun t => { t with lastGm := some b }
    | none => s1
  if s3.gmDiffer && !before.gmDiffer then timeEvent s3 8 1 else s3

/-- What an ordinary clock keeps of the Announces of one of its ports. -/
def OrdClock.foreign (o : OrdClock) (port : Nat) : Option (Announce × Nat) := if port % 2 = 0 then o.foreign0 else o.foreign1
/-- `o` with what it keeps of a port replaced. -/
def OrdClock.setForeign (o : OrdClock) (port : Nat) (v : Option (Announce × Nat)) : OrdClock :=
  if port % 2 = 0 then { o with foreign0 := v } else { o with foreign1 := v }
/-- A port's ordinary clock starts its master selection again: LISTENING where it is enabled and the port is up. (DEDUCED, log entry 73) -/
def restartPort (s : State) (port : Nat) : State :=
  setPortState (s.modOc (netDie port) fun o => o.setForeign port none) port (if s.ocOn (netDie port) && s.netUp port then 4 else 0)

/-! ### The best master clock algorithm (R378, IEEE 1588-2019) -/

/-- The order of two masters by their Announces, as one number, lower is better: priority1, clockClass, clockAccuracy,
offsetScaledLogVariance, priority2, identity, stepsRemoved, sender. (PRESUMED, log entry 108) -/
def announceRank (a : Announce) : Nat :=
  [(a.cls.toNat, 8), (a.accuracy.toNat, 8), (a.variance.toNat, 16), (a.prio2.toNat, 8), (a.gmId.toNat, 64), (a.steps.toNat, 16),
    (a.sender.toNat, 64)].foldl (fun n x => n * 2 ^ x.2 + x.1) a.prio1.toNat

/-- The Announce that an ordinary clock keeps of a port, until the announce receipt timeout of 3 intervals (R372); none while the port is
down. -/
def State.freshAnnounce (s : State) (port : Nat) : Option Announce :=
  match (s.oc (netDie port)).foreign port with
  | some (a, t) => if s.netUp port && decide (s.uptime ≤ t + 3 * a.interval) then some a else none
  | none => none

/-- The better of two masters, the first where they rank alike. -/
def betterMaster (x y : Option Announce) : Option Announce :=
  match x, y with
  | some a, some b => if announceRank b < announceRank a then y else x
  | some _, none => x
  | none, _ => y

/-- A die's ordinary clock selects its master (R378, R379): the port that hears it is UNCALIBRATED until a Sync of it has been measured, and the
other one LISTENING. (PRESUMED, log entry 108) -/
def selectMaster (s : State) (d : DieId) : State :=
  let p0 := d.num * 2
  match betterMaster (s.freshAnnounce p0) (s.freshAnnounce (p0 + 1)) with
  | none => s
  | some a =>
    let p := p0 + a.port % 2
    let o := s.oc d
    let st := if a.port % 2 = 0 then o.port0 else o.port1
    let kept := decide (o.master = a.sender) && (st = 9 || st = 8)
    let other := p0 + 1 - a.port % 2
    let s1 := setPortState (setPortState s p (if kept then st else 8)) other (if s.netUp other then 4 else 0)
    s1.modOc d fun o => { o with using1 := decide (a.port % 2 = 1), master := a.sender, gmId := a.gmId, prio1 := a.prio1, cls := a.cls,
                                 accuracy := a.accuracy, domain := a.domain, steps := a.steps, exchange := if kept then o.exchange else none }

end Sys2Proof.Machine
end

