-- ==== Sys2Proof/Machine/TimeOps.lean ====
section
/-! DEFINITION. Wall time's servo: reference measurements, states, realignments and steps (R366, R372 to R376, R379, R386,
R390). -/

namespace Sys2Proof.Machine

/-! ### Settings (R366, R382, R385) -/

/-- The nominal INC, 2.5 ns (R366). -/
def nominalInc : BitVec 40 := 0x280000000#40
/-- INC lies in the range of R366. (DESIGN CHOICE, log entry 10) -/
def incOk (v : BitVec 40) : Bool := decide (0x27CCCCCCD ≤ v.toNat) && decide (v.toNat ≤ 0x283333333)
/-- Word `i` of REF_CONFIG. -/
def State.refW (s : State) (i : Nat) : Word := wordAt s.time.ref i
/-- REF_MODE. -/
def State.refMode (s : State) : Nat := fld (s.refW 0) 1 0
/-- GLITCH_NS of a settings word 0; 0 selects 1,000. -/
def glitchNs (w : Word) : Nat := if fld w 63 32 = 0 then 1000 else fld w 63 32
/-- GLITCH_NS of the reference in use. -/
def State.glitch (s : State) : Nat := glitchNs (if s.time.mode = .ptp then s.ptpW 0 else s.refW 0)
/-- The reference gives pulses: PPS or frame pulses. -/
def State.pulses (s : State) : Bool := decide (s.time.mode = .ref) && (decide (s.refMode = 1) || decide (s.refMode = 2))
/-- The reference is 10 MHz. -/
def State.tenMhz (s : State) : Bool := decide (s.time.mode = .ref) && decide (s.refMode = 3)
/-- The servo runs (R369). -/
def State.servoOn (s : State) : Bool := decide (s.time.mode = .ptp) || decide (s.time.mode = .ref)

/-- The rate of the expected pulses as a fraction in Hz (R385). -/
def State.refRateQ (s : State) : Nat × Nat := if s.refMode = 1 then (1, 1) else rateOf s.time.refRate

/-- A counter's time-stamp of what happened `age` ago, both in 2^-16 ns, with the resolution of 0.25 ns (R381, R384). -/
def stampOf (counter : BitVec 96) (age : Nat) : Int := ((counter >>> 16).toNat - (age : Int)) / 16384 * 16384

/-- An edge's time-stamp minus the nearest expected time, in 2^-16 ns (R372, R385). -/
def edgeOffset (s : State) (t : Int) : Int :=
  let (num, den) := s.refRateQ
  let ro : Int := fld (s.refW 1) 31 0
  let k : Int := ((t / 65536 - ro) * (num : Int)) / (1000000000 * (den : Int))
  let a := t - 65536 * (gridPoint num den k + ro)
  let b := t - 65536 * (gridPoint num den (k + 1) + ro)
  if a.natAbs ≤ b.natAbs then a else b

/-- The interval from the previous edge to the one at `t` lies within GLITCH_NS of the expected period. -/
def intervalOk (s : State) (t : Int) : Bool :=
  match s.time.lastEdge with
  | none => true
  | some e =>
    let (num, den) := s.refRateQ
    let d : Int := (t - e) * (num : Int) - 65536 * 1000000000 * (den : Int)
    decide (d.natAbs ≤ 65536 * s.glitch * num)

/-- T of one frame as a fraction: 10^9 × den / num ns, of the lowest-numbered running canvas, or of REF_RATE (R373). -/
def State.frameQ (s : State) : Nat × Nat :=
  match s.lowCanvas with
  | some c => rateOf (s.canvas c).committed.rate
  | none => rateOf s.time.refRate

/-- An offset in 2^-16 ns is at most `ns`. -/
def within (offset : Int) (ns : Nat) : Bool := decide (offset.natAbs ≤ ns * 65536)

/-! ### States, steps, realignments (R373 to R376) -/

/-- Every counter moves by Δ on one tick, running canvases re-anchor, sample grids move, and event 0x05 follows (R225,
R375, R393). (DEDUCED, log entry 116) -/
def stepNow (s : State) (delta : Int) : State :=
  let ts := s.wall
  let add := fun (c : BitVec 96) => c + (BitVec.ofInt 96 delta <<< 32)
  let s1 := s.modTime fun t =>
    { t with counter := add t.counter, copyA := if s.dies.a.stopped then t.copyA else add t.copyA,
             copyB := if s.dies.b.stopped then t.copyB else add t.copyB, steps := t.steps + 1, step := none,
             lastEdge := t.lastEdge.map fun e => e + 65536 * delta, since := t.since + delta }
  let s1 := s1.modHub fun h => { h with resetRef := h.resetRef + delta }
  let s2 := s1.each (below 4 fun c => (s1.canvas c).running) fun s c => s.modCanvas c fun x =>
    { x.stepped ts delta with change := x.change.map fun ch => { ch with late := false } }
  let s3 := s2.modLinks fun l => { l with txns := l.txns.map fun x =>
    match x.canvas with
    | some c => if x.inProgress && x.frame ≠ 0 then { x with applyTime := wallOf ((s2.canvas c).flipTime x.frame) } else x
    | none => x }
  timeEvent (stepSaps s3 delta) 5 (ofInt delta)

/-- The slew under way has brought the offset to 100 ns or less, or past zero (R374). -/
def State.slewDone (s : State) : Bool :=
  if s.time.inc.toNat < nominalInc.toNat then decide (s.time.offset ≤ 100 * 65536) else decide (-(100 * 65536) ≤ s.time.offset)

/-- A step is scheduled 100 µs after the next flip of the lowest-numbered running canvas, or made at once (R375). -/
def scheduleStep (s : State) (delta : Int) : State :=
  match s.lowCanvas with
  | none => stepNow s delta
  | some c =>
    s.modTime fun t => { t with step := some (delta, wallOf ((s.canvas c).flipTime ((s.canvas c).frame + 1)) + 100000) }

/-- The servo writes INC for an offset in 2^-16 ns; outside the range of R366 INC stays. (DESIGN CHOICE, log entry 10) -/
def servo (s : State) (offset : Int) : State :=
  let v := Config.servoInc s.time.inc offset
  s.modTime fun t =>
    let inc := if incOk v then v else t.inc
    { t with inc := inc, holdInc := inc, predicted := Config.servoPredict inc offset }

/-- A realignment begins (R374): event 0x04; a slew at ±100 ppm, or a step where the offset exceeds one frame and SNAP is set.
(DEDUCED, log entry 72) -/
def realign (s : State) (offset : Int) : State :=
  let (num, den) := s.frameQ
  let ns : Int := roundDivI offset 65536
  let long := decide (1000000000 * 65536 * (den : Int) < (offset.natAbs : Int) * (num : Int))
  let steps := long && s.time.snap
  let s1 := (toRef s .realign).modTime fun t => { t with realigns := t.realigns + 1 }
  let s2 := timeEvent s1 4 (putB steps 0 ||| (ofInt ns <<< 8))
  if steps then (if s2.time.step.isSome then s2 else scheduleStep s2 (0 - ns))
  else s2.modTime fun t =>
    { t with slewing := true, inc := if 0 < offset then nominalInc - 0x10624E#40 else nominalInc + 0x10624E#40 }

/-- The servo halts on the increment of R376: HOLDOVER, or MEASURE for `rate`. -/
def holdover (s : State) (rate : Bool) : State :=
  timeEvent ((toRef s (if rate then .measure else .holdover)).modTime fun t => { t with inc := t.holdInc, slewing := false }) 2 (putB rate 0)

/-- LOCKED is reached (R373). -/
def lock (s : State) : State := timeEvent (toRef s .locked) 1 0

/-! ### Measurements (R372, R373) -/

/-- 16 consecutive measurements of at most 100 ns lock the servo. (DEDUCED, log entry 72) -/
def countGood (s : State) (ok : Bool) : State :=
  let n := if ok then s.time.good + 1 else 0
  let s1 := s.modTime fun t => { t with good := n }
  if 16 ≤ n && !s1.time.slewing then lock s1 else s1

/-- The offset counts as at most 100 ns: a 10 MHz gate, which carries no phase, when it is good. (DEDUCED, log entry 72) -/
def State.near (s : State) (offset : Int) (glitch : Bool) : Bool := if s.tenMhz then !glitch else within offset 100

/-- The servo takes a measurement, unless it is a glitch (R372). -/
def steer (s : State) (offset : Int) (glitch : Bool) : State := if glitch then s else servo s offset

/-- A measurement acts on the reference state; `onTime` says that it came one period after the last. A 10 MHz gate steers the rate only.
(DEDUCED, log entry 72) -/
def useMeasurement (s : State) (offset : Int) (glitch onTime : Bool) : State :=
  let ok := s.near offset glitch
  match s.time.state with
  | .acquire =>
    if s.tenMhz then countGood (steer s offset glitch) ok
    else if s.lowCanvas.isNone then
      let delta := 0 - roundDivI offset 65536
      countGood (if delta = 0 then s else stepNow s delta) ok
    else if !within offset 1000 then realign s offset
    else countGood (steer s offset glitch) ok
  | .realign => countGood (if s.time.slewing || s.time.step.isSome then s else steer s offset glitch) ok
  | .locked => (steer s offset glitch).modTime fun t => { t with bad := 0 }
  | .holdover =>
    let n := if onTime then s.time.good + 1 else if s.tenMhz then 0 else 1
    let s1 := s.modTime fun t => { t with good := n }
    if (if s.tenMhz then 8 else 3) ≤ n then
      let s2 := timeEvent s1 3 0
      if ok then toRef s2 .locked else realign s2 offset
    else s1
  | _ => s

/-- A glitch while LOCKED (R372, R373): the first two are ignored and counted; the third realigns, measures the rate, or, of
10 MHz, counts as a stop. (DEDUCED, log entry 72) -/
def useGlitch (s : State) (offset : Int) (onTime : Bool) : State :=
  let n := s.time.bad + 1
  let s1 := s.modTime fun t => { t with bad := n, onPeriod := if n = 1 then true else t.onPeriod && onTime }
  if n < 3 then s1.modTime fun t => { t with glitches := t.glitches + 1 }
  else if s1.tenMhz then holdover s1 false
  else if s1.pulses && !s1.time.onPeriod then holdover s1 true
  else realign s1 offset

/-- One measurement of the reference in use. -/
def measurement (s : State) (offset : Int) (glitch onTime : Bool) : State :=
  if glitch && decide (s.time.state = .locked) then useGlitch s offset onTime else useMeasurement s offset glitch onTime

end Sys2Proof.Machine
end

