-- ==== Sys2Proof/Machine/AudioRows.lean ====
section
/-! DEFINITION. Serial audio ports: SAP_*, PLAY, CAPTURE, ST 2110-30 packets, blocks and AWCLK (R391 to R407). -/

namespace Sys2Proof.Machine

/-! ### Commands (R403 to R405) -/

/-- The request's port. -/
def reqSap (r : Req) : Nat := fld (r.word 0) 2 0
/-- The request's port lies in the sender's partition. -/
def sapReach (s : State) (r : Req) : Bool := s.owns r.who 7 (reqSap r)
/-- SAP_CONFIG for the common checks (R403). -/
def opSapConfig : JcsOp := { opcode := 0x0901, reach := sapReach }
/-- The codes of a port's block are all listed ones (R11, R403): FMT, RATE, ALIGN, AWRATE. -/
def Sap.codesOk (p : Sap) : Bool := decide (p.fmt ≠ 3) && decide (p.rate ≤ 4) && decide (p.align ≠ 3) && decide (p.awRate ≤ 4)

/-- SAP_CONFIG (R11, R403): the block is stored, counters are cleared. Ranges are checked at SAP_START (R404). -/
def sapConfigBody (s : State) (r : Req) : Ans :=
  let n := reqSap r
  let x : Sap := { cfg := (List.range 10).map r.word, owner := s.ownerOf 7 n }
  if (s.sap n).started then .busy s
  else if !x.codesOk then .badParam s
  else .ok (s.modSap n fun _ => x)
/-- SAP_CONFIG (R403). -/
def execSapConfig (r : Req) (s : State) : Host.Outcome State Fault Refusal := .next (jcs opSapConfig sapConfigBody r s)

/-- A part lies in a flow of at most 8 channels and inside CHN (R400, R404). -/
def Sap.partOk (p : Sap) (i : Nat) : Bool :=
  !p.partOn i || (decide (fld (p.map i) 2 0 + p.nch i ≤ 8) && decide (fld (p.map i) 11 8 + p.nch i ≤ p.chn))
/-- The two parts share no slot. -/
def Sap.partsApart (p : Sap) : Bool :=
  let a := fld (p.map 0) 11 8
  let b := fld (p.map 1) 11 8
  !p.partOn 0 || !p.partOn 1 || decide (a + p.nch 0 ≤ b) || decide (b + p.nch 1 ≤ a)
/-- Check 2 of R404. -/
def Sap.fieldsOk (p : Sap) : Bool :=
  p.codesOk && (1 ≤ p.chn && p.chn ≤ p.slots) && !(p.input && p.net) &&
    !(p.align = 1 && !(-100000 ≤ p.delayUs && p.delayUs ≤ 100000)) && !(p.align = 2 && !(0 ≤ p.delayUs && p.delayUs ≤ 1000000)) &&
    p.partOk 0 && p.partOk 1 && p.partsApart && !(p.net && p.rate ≠ 2 && p.rate ≠ 4) &&
    !(p.aw && !(decide (p.fs = rateHz p.awRate) || decide (p.fs = 2 * rateHz p.awRate)))
/-- Flows of a port on a die (R400). -/
def Sap.flows (p : Sap) (leg : Nat) : Nat := (below 2 fun i => p.legOn i leg).length
/-- Flows on a die with port `n` started. -/
def flowsWith (s : State) (n leg : Nat) : Nat :=
  ((s.media.saps.filter fun x => x.1 ≠ n && x.2.started).map fun x => x.2.flows leg).sum + (s.sap n).flows leg

/-- SAP_START for the common checks (R404). -/
def opSapStart : JcsOp := { opcode := 0x0902, reach := sapReach }
/-- SAP_START (R398, R404): muted, the channels unmute at zero crossings. -/
def sapStartBody (s : State) (r : Req) : Ans :=
  let n := reqSap r
  let p := s.sap n
  let outside := (!p.input && decide (p.align = 1) && !s.owns r.who 5 p.layer) ||
    ((p.input || !p.net) && decide (s.ringCount r.who ≤ p.ring))
  if p.started then .badParam s
  else if p.cfg.isEmpty || !p.fieldsOk then .badParam s
  else if outside && decide (r.who < 64) then .ok (violate s r.who)
  else if n = 7 && s.time.ppsGranted then .busy s
  else if p.aw && s.media.saps.any (fun x => x.2.started && x.2.aw && decide (x.2.awRate ≠ p.awRate)) then .busy s
  else if 16 < flowsWith s n 0 || 16 < flowsWith s n 1 then .busy s
  else
    let p1 : Sap := { p with
      state := if p.input then .running else .starting, muted := 0xFFFF#16, changes := [], stopping := false,
      base := if p.aw then s.wall else 0, block := if p.aw then 0 else ceilDiv (s.wall * p.fs) 64000000000,
      waited := [], before := [], delay := p.fixedDelay, aligned := false, held := [], nextMedia := none, reading := none, seen := [],
      capBufs := [], capGap := false, awUsed := p.aw && s.media.awPresent, slewing := false, legLost := [] }
    .ok (sapEvent (reportSap (s.modSap n fun _ => if p.input then p1.unmute else p1) n true) n 1)
/-- SAP_START (R404). -/
def execSapStart (r : Req) (s : State) : Host.Outcome State Fault Refusal := .next (jcs opSapStart sapStartBody r s)

/-- SAP_STOP for the common checks (R404). -/
def opSapStop : JcsOp := { opcode := 0x0903, reach := sapReach }
/-- SAP_STOP (R404). -/
def sapStopBody (s : State) (r : Req) : Ans :=
  let n := reqSap r
  if (s.sap n).started then .ok (endStop (s.modSap n fun p => { p.mute with stopping := true }) n) else .ok s
/-- SAP_STOP (R404). -/
def execSapStop (r : Req) (s : State) : Host.Outcome State Fault Refusal := .next (jcs opSapStop sapStopBody r s)

/-- SAP_MUTE for the common checks (R404). -/
def opSapMute : JcsOp := { opcode := 0x0904, reach := sapReach }
/-- SAP_MUTE (R398, R404, R407): a port that is held muted for another reason unmutes only when that ends. -/
def sapMuteBody (s : State) (r : Req) : Ans :=
  let mask := BitVec.ofNat 16 (fld (r.word 0) 31 16)
  let on := bit (r.word 0) 3
  .ok (s.modSap (reqSap r) fun p =>
    let p1 : Sap := { p with hostMute := if on then p.hostMute ||| mask else p.hostMute &&& ~~~mask }
    let l := p.channels.filter fun ch => mask.getLsbD ch
    if !p.started || p.stopping then p1
    else if on then l.foldl (fun p ch => p.change ch .mute) p1
    else if p.state = .running then l.foldl (fun p ch => p.change ch .unmute) p1 else p1)
/-- SAP_MUTE (R404). -/
def execSapMute (r : Req) (s : State) : Host.Outcome State Fault Refusal := .next (jcs opSapMute sapMuteBody r s)

/-- STATE of R405. -/
def Sap.stateCode (p : Sap) : Nat :=
  match p.state with
  | .stopped => 0 | .starting => 1 | .running => if p.allMuted then 3 else 2 | .starving => 4 | .realigning => 5
/-- SAP_STATUS_READ for the common checks (R405). -/
def opSapStatusRead : JcsOp := { opcode := 0x0905, reach := sapReach, zeros := fun _ _ => 8 }
/-- SAP_STATUS_READ (R405). -/
def sapStatusReadBody (s : State) (r : Req) : Ans :=
  let p := s.sap (reqSap r)
  let two := fun (a b : BitVec 32) => a.setWidth 64 ||| (b.setWidth 64 <<< 32)
  .ok s [put p.stateCode 4 0 ||| putB p.awUsed 4 ||| putB s.media.awPresent 5 ||| (p.muted.setWidth 64 <<< 16), ofInt p.delay,
    two p.nDropped p.nRepeated, two p.nStarve p.nRealign, two p.nLate p.nCapDrop, BitVec.ofNat 64 p.stamp, two p.nLegA p.nLegB,
    p.nAwLoss.setWidth 64]
/-- SAP_STATUS_READ (R405). -/
def execSapStatusRead (r : Req) (s : State) : Host.Outcome State Fault Refusal := .next (jcs opSapStatusRead sapStatusReadBody r s)

/-! ### AUDIO rings (R401, R402) -/

/-- SAP of an audio descriptor. -/
def audioSap (d : Desc) : Nat := fld d.w0 10 8
/-- BLOCKS of an audio descriptor. -/
def audioBlocks (d : Desc) : Nat := fld d.w0 31 16
/-- Why an audio descriptor has no effect (R320, R354, R401; DEDUCED, log entry 35): the status, `none` where it has its effect. -/
def audioRefused (s : State) (ring : Nat) (d : Desc) (capture : Bool) : Option Nat :=
  let p := s.sap (audioSap d)
  let owner := (s.ring ring).owner
  if !s.owns owner 7 (audioSap d) then some 0
  else if audioBlocks d = 0 then some 0
  else if audioBlocks d = 0xFFFF then some 3
  else if 1024 < audioBlocks d then some 4
  else if p.input != capture || (!capture && p.net) || decide (s.globalRing owner p.ring ≠ ring) then some 4
  else if !p.started then some 5
  else none

/-- The 32-bit slot words of a byte list, little-endian (R6, R391). -/
def slotWords (l : List Byte) : List (BitVec 32) := (chunks 4 l.length l).map fun c => BitVec.ofNat 32 (ofLeBytes c)
/-- `k` sample periods in ns, rounded down. -/
def Sap.span (p : Sap) (k : Nat) : Nat := k * 1000000000 / p.fs

/-- The media time of a PLAY buffer's first sample: its own, or that which continues the previous buffer; free where there is none.
(DEDUCED, log entry 36) -/
def playMedia (s : State) (p : Sap) (d : Desc) : Nat × Nat :=
  if d.w2.toNat ≠ 0 then (d.w2.toNat, 0) else p.nextMedia.getD (Config.freeNat s.free, 0)

/-- Sample `j` of a PLAY buffer that is being read. -/
def PlayBuf.sample (b : PlayBuf) (p : Sap) (j : Nat) : Sample :=
  ⟨b.media + p.span (b.first + b.done + j), (List.range p.chn).map fun ch => b.words.getD (j * p.chn + ch) 0⟩

/-- The samples of a PLAY buffer that may be read now (R401): those that play within 100 ms, while the hub holds less than 100 ms. -/
def PlayBuf.readable (b : PlayBuf) (p : Sap) (now : Nat) : Nat :=
  ((List.range (min (64 * audioBlocks b.desc - b.done) (p.fs / 10 - p.held.length))).takeWhile fun j =>
    decide (((b.sample p j).media : Int) + p.delay ≤ (now : Int) + 100000000)).length

/-- The hub reads on in the PLAY buffer of port `n` (R401, R402): what it reads is held, and a buffer read whole is PLAYED. -/
def readAhead (s : State) (n : Nat) : State :=
  let p := s.sap n
  match p.reading with
  | none => s
  | some b =>
    let c := if s.hub.cpFailed then 0 else b.readable p s.wall
    if c = 0 then s
    else
      let s1 := readHost s b.func (b.desc.w1 + BitVec.ofNat 64 (4 * p.chn * b.done)) (4 * p.chn * c)
      let b1 := { b with done := b.done + c, words := b.words.drop (c * p.chn) }
      let s2 := s1.modSap n fun p => { p with held := p.held ++ (List.range c).map (b.sample p), reading := some b1 }
      if b1.done < 64 * audioBlocks b.desc then s2 else givePlay (s2.modSap n fun p => { p with reading := none }) n b1

/-- PLAY (R401, R402): the buffer is read once its first play time lies within 100 ms and the one before it has been read; of a longer one
the rest follows block by block. (DEDUCED, log entry 35) (DEDUCED, log entry 36) -/
def execPlay (ring : Nat) (d : Desc) (pull : Pull) (s : State) : Host.Outcome State Fault Refusal :=
  .next <|
    if s.hub.cpFailed then s
    else
      match takeTyped s ring d 6 0x30 with
      | none => s
      | some (s1, cr, gen) =>
        let n := audioSap d
        let owner := (s.ring ring).owner
        match audioRefused s ring d false with
        | some st =>
          let s2 := if s.owns owner 7 n then s1 else violate s1 owner
          complete s2 cr gen (sapCompletion 0x30 st n false 0 0 d.w3)
        | none =>
          let p := s.sap n
          let (base, k) := playMedia s p d
          let m := base + p.span k
          let t := (m : Int) + p.delay
          if !p.delayKnown || (s.wall : Int) + 100000000 < t || p.reading.isSome then s
          else
            match pull with
            | .failed => complete s1.drawn cr gen (sapCompletion 0x30 7 n false t.toNat 0 d.w3)
            | .data bytes =>
              let gap := match p.nextMedia with
                | some (b, c) => decide (1000000 < (((b + p.span c : Nat) : Int) - (m : Int)).natAbs)
                | none => false
              let buf : PlayBuf := ⟨cr, gen, owner, d, base, k, 0, slotWords bytes, t.toNat, gap⟩
              readAhead (s1.drawn.modSap n fun p =>
                { p with reading := some buf, nextMedia := some (base, k + 64 * audioBlocks d) }) n

/-- CAPTURE (R401, R402): the port holds the buffer until its blocks have been written. (DEDUCED, log entry 35) -/
def execCapture (ring : Nat) (d : Desc) (s : State) : Host.Outcome State Fault Refusal :=
  .next <|
    if s.hub.cpFailed then s
    else
      match takeTyped s ring d 6 0x31 with
      | none => s
      | some (s1, cr, gen) =>
        let n := audioSap d
        let owner := (s.ring ring).owner
        match audioRefused s ring d true with
        | some st =>
          let s2 := if s.owns owner 7 n then s1 else violate s1 owner
          complete s2 cr gen (sapCompletion 0x31 st n false 0 0 d.w3)
        | none => s1.modSap n fun p => { p with capBufs := p.capBufs ++ [⟨cr, gen, owner, d, 0, 0, false⟩] }

/-! ### ST 2110-30 flows (R400) -/

/-- A sample of a part joins those of its sample time: media times within half a sample period are one (R400). (DEDUCED, log entry 38) -/
def joinSample (p : Sap) (m slot : Nat) (words : List (BitVec 32)) : Sap :=
  let near := fun (x : Sample) => decide (2 * ((x.media : Int) - (m : Int)).natAbs * p.fs ≤ 1000000000)
  let lay := fun (l : List (BitVec 32)) => (List.range p.chn).map fun ch =>
    if slot ≤ ch ∧ ch < slot + words.length then words.getD (ch - slot) 0 else l.getD ch 0
  if p.held.any near then { p with held := p.held.map fun x => if near x then { x with words := lay x.words } else x }
  else
    let new : Sample := ⟨m, lay []⟩
    { p with held := (p.held.filter fun x => decide (x.media < m)) ++ new :: p.held.filter fun x => !decide (x.media < m) }

/-- The hub holds 100 ms of samples (R401): past that the oldest go while D is unknown, else a new one is not taken
(DEDUCED, log entry 38). A sample whose play time has passed is discarded as late (R399). (DEDUCED, log entry 36) -/
def holdSample (p : Sap) (m slot : Nat) (words : List (BitVec 32)) : Sap :=
  let late := p.delayKnown && decide (2 * ((m : Int) + p.delay - (p.blockStart : Int)) * (p.fs : Int) < -1000000000)
  let full := decide (p.fs ≤ 10 * p.held.length)
  if late then { p with nLate := p.nLate + 1 }
  else if full && p.delayKnown then p
  else if full then joinSample { p with held := p.held.drop 1 } m slot words
  else joinSample p m slot words

/-- Sample `j` of a payload of L16 or L24 samples, most significant byte first, as a 32-bit slot word, left-justified (R391, R400).
(PRESUMED, log entry 98) -/
def netSample (width : Nat) (l : List Byte) (j : Nat) : BitVec 32 :=
  BitVec.ofNat 32 (ofLeBytes ((l.drop (width * j)).take width).reverse * 256 ^ (4 - width))

/-- The legs of a part are merged across A ↔ B (R400); with that link failed and both dies up, a part of two legs takes leg A alone.
(DESIGN CHOICE, log entry 114) -/
def legMerges (s : State) (p : Sap) (i leg : Nat) : Bool :=
  s.dies.twin.linkAB || leg = 0 || !p.legOn i 0 || !s.up .a

/-- A packet for leg `leg` of part `i` of port `n`: counted, and merged across the legs (R400). (DESIGN CHOICE, log entry 114) -/
def sapPacket (s : State) (n i leg : Nat) (k : AudioPkt) : State :=
  let back := Tbl.get false (s.sap n).legLost (2 * i + leg)
  let s1 := s.modSap n fun p =>
    { p with legLost := Tbl.set false p.legLost (2 * i + leg) false,
             nLegA := if leg = 0 then p.nLegA + 1 else p.nLegA, nLegB := if leg = 1 then p.nLegB + 1 else p.nLegB }
  let s2 := if back then sapEvent s1 n 9 (put leg 1 0 ||| put i 1 1) else s1
  let p := s2.sap n
  let old := Tbl.get [] p.seen i
  if old.contains k.seq || !legMerges s2 p i leg then s2
  else
    let count := if bit (p.map i) 14 then p.fs / 8000 else p.fs / 1000
    let width := if bit (p.map i) 13 then 2 else 3
    let flow := k.payload.length / (width * count)
    let fch := fld (p.map i) 2 0
    let words := fun (j : Nat) => (List.range (p.nch i)).map fun c => netSample width k.payload (j * flow + fch + c)
    s2.modSap n fun p =>
      (List.range count).foldl (fun p j => holdSample p (k.media + p.span j) (fld (p.map i) 11 8) (words j))
        { p with seen := Tbl.set [] p.seen i ((k.seq :: old).take 128) }

/-- The parts and legs of started ports that a packet on a network port belongs to (R400). -/
def audioLegs (s : State) (port : Nat) (k : AudioPkt) : List (Nat × Nat × Nat) :=
  s.media.saps.flatMap fun x =>
    if !x.2.started then []
    else (List.range 4).filterMap fun y =>
      let i := y / 2
      let leg := y % 2
      let w := x.2.legWord i leg
      let src := fld (x.2.w (4 + 4 * i)) (32 * leg + 31) (32 * leg)
      if x.2.legOn i leg && decide (x.2.legPort i leg = port) && decide (fld w 31 0 = k.dst.toNat) && decide (fld w 47 32 = k.udp) &&
        decide (fld w 56 50 = k.pt) && (decide (src = 0) || decide (src = k.src.toNat)) then some (x.1, i, leg) else none

/-- AUDIO_PACKET (R261, R400): an ST 2110-30 packet arrives on a network port in service. -/
def execAudioPacket (port : NetPort) (p : AudioPkt) (s : State) : Host.Outcome State Fault Refusal :=
  .next (if s.netUp port then s.each (audioLegs s port p) fun s x => sapPacket s x.1 x.2.1 x.2.2 p else s)

/-- AUDIO_LEG_LOSS (R61, R400, R536): an enabled leg of a started port has delivered nothing for 10 ms; event 0x08, but for a network
window. (DEDUCED, log entry 48) -/
def execAudioLegLoss (sap part leg : Nat) (s : State) : Host.Outcome State Fault Refusal :=
  .next <|
    let p := s.sap sap
    if !p.started || !p.legOn part leg || Tbl.get false p.legLost (2 * part + leg) || Tbl.get false s.time.netWindow (p.legPort part leg) then s
    else sapEvent (s.modSap sap fun p => { p with legLost := Tbl.set false p.legLost (2 * part + leg) true }) sap 8
      (put leg 1 0 ||| put part 1 1)

/-! ### Blocks (R393 to R399) -/

/-- A block as it is played: the port, the words of the sample times played (newest first), whether a slip was made (R397), the codes of the
events raised (newest first). -/
structure Playing where
  p       : Sap
  out     : List (List (BitVec 32)) := []
  slipped : Bool := false
  events  : List Nat := []

/-- `e` × Fs of a sample at sample `i` of a block that starts at `t` (R397). (DEDUCED, log entry 47) -/
def slipOf (p : Sap) (t i : Nat) (x : Sample) : Int := ((t : Int) - (x.media : Int) - p.delay) * (p.fs : Int) + (i : Int) * 1000000000

/-- The port plays one sample time of words. -/
def Playing.play (y : Playing) (words : List (BitVec 32)) : Playing :=
  let r := y.p.sample words
  { y with p := r.1, out := r.2 :: y.out }

/-- The next held sample is played; zeros where none is held. (DEDUCED, log entry 47) -/
def Playing.next (y : Playing) : Playing :=
  match y.p.held with
  | x :: rest => { y with p := { y.p with held := rest } }.play x.words
  | [] => y.play []

/-- The port's state changes, with an event. -/
def Playing.enter (y : Playing) (p : Sap) (code : Option Nat) : Playing := { y with p := p, events := code.toList ++ y.events }

/-- Held samples cover less than 10 ms beyond sample `i` of the block (R399); media times are rounded to the nanosecond. -/
def Sap.short (p : Sap) (t i : Nat) : Bool :=
  match p.held.getLast? with
  | some x => decide (1000000000 + (p.fs : Int) - slipOf p t i x ≤ 10000000 * (p.fs : Int))
  | none => true

/-- The next held sample is due at sample `i` of the block, within half a sample period (R397). -/
def Sap.onTime (p : Sap) (t i : Nat) : Bool :=
  match p.held with
  | x :: _ => decide (2 * (slipOf p t i x).natAbs ≤ 1000000000)
  | [] => false

/-- Sample `i` of a muted port that seeks its play time (R396, R397, R399): held samples whose time has passed go, those to come wait. Once
the next one is due, and where `full` 10 ms are held, the port goes on playing and unmutes; `code` is the event. `late` counts the
samples that have passed. -/
def playSeeking (t : Nat) (y : Playing) (i : Nat) (late full : Bool) (code : Option Nat) : Playing :=
  let rest := y.p.held.dropWhile fun x => decide (1000000000 < 2 * slipOf y.p t i x)
  let gone := y.p.held.length - rest.length
  let q := { y.p with held := rest, nLate := if late then y.p.nLate + BitVec.ofNat 32 gone else y.p.nLate }
  if !q.onTime t i then { y with p := q }.play []
  else if full && q.short t i then { y with p := q }.next
  else (y.enter { q with state := .running }.unmute code).next

/-- Sample `i` of a starving port (R399): it mutes within the held samples, at the last one at the latest, then plays zeros until 10 ms are
held again, event 0x04. -/
def playStarving (t : Nat) (y : Playing) (i : Nat) : Playing :=
  if y.p.allMuted then playSeeking t y i true true (some 4)
  else if y.p.held.length ≤ 1 then { y with p := y.p.takeAll }.next
  else y.next

/-- Sample `i` of a running port that holds enough (R397): played, after a slip where it is off by more than half a sample period; off by
more than 1 ms, the port mutes and realigns. -/
def playAligned (t : Nat) (y : Playing) (i : Nat) : Playing :=
  match y.p.held with
  | [] => y.next
  | x :: rest =>
    let e := slipOf y.p t i x
    if 2 * e.natAbs ≤ 1000000000 then y.next
    else if 1000000 * y.p.fs < e.natAbs then
      (y.enter { y.p with state := .realigning, nRealign := y.p.nRealign + 1 }.mute none).next
    else if y.slipped then y.next
    else if 0 < e then { y with p := { y.p with held := rest, nDropped := y.p.nDropped + 1 }, slipped := true }.next
    else { y with p := { y.p with nRepeated := y.p.nRepeated + 1 }, slipped := true }.play x.words

/-- Sample `i` of a block of an output port (R396 to R399): a port that runs or realigns starves once less than 10 ms are held, event 0x03;
one whose D is not known plays zeros. -/
def playSample (t : Nat) (y : Playing) (i : Nat) : Playing :=
  if (decide (y.p.state = .running) || decide (y.p.state = .realigning)) && y.p.short t i then
    playStarving t (y.enter { y.p with state := .starving, nStarve := y.p.nStarve + 1 }.mute (some 3)) i
  else
    match y.p.state with
    | .running => playAligned t y i
    | .realigning => if y.p.allMuted then playSeeking t y i false false (some 5) else y.next
    | .starving => playStarving t y i
    | .starting => if y.p.delayKnown then playSeeking t y i false true none else y.play []
    | .stopped => y

/-- The words of a block at SD: unused slots are zero (R391). -/
def sapWords (p : Sap) (l : List (List (BitVec 32))) : List (BitVec 32) :=
  l.flatMap fun x => (List.range p.slots).map fun ch => x.getD ch 0

/-- A block of an output port (R391, R396 to R399). -/
def playBlock (s : State) (n t : Nat) : State :=
  let y := (List.range 64).foldl (playSample t) { p := s.sap n }
  let s1 := (s.modSap n fun _ => y.p).emit (.sample n y.p.frame (sapWords y.p y.out.reverse))
  endStop (y.events.reverse.foldl (fun s c => sapEvent s n c) s1) n

/-- The slot words of each sample time of an input port (R391), from SD as it was sampled, 32 bits a word, from each WS edge on: slot 0
begins `skew` BCLKs after the edge. -/
def capturedSlots (p : Sap) (input : List (BitVec 32)) : List (List (BitVec 32)) :=
  let k := p.frame.skew
  (List.range 64).map fun i => p.channels.map fun ch =>
    let j := i * p.slots + ch
    (input.getD j 0 <<< k) ||| (if k = 0 then 0 else input.getD (j + 1) 0 >>> (32 - k))

/-- The samples of a block of an input port, with its changes at zero crossings (R398). -/
def captureSamples (p : Sap) (input : List (BitVec 32)) : Sap × List (List (BitVec 32)) :=
  let r := (capturedSlots p input).foldl (fun (a : Sap × List (List (BitVec 32))) x =>
    let y := a.1.sample x
    (y.1, y.2 :: a.2)) (p, [])
  (r.1, r.2.reverse)

/-- The bytes of a capture record (R401): the stamp and 64 frames. -/
def captureBytes (stamp : Nat) (frames : List (List (BitVec 32))) : List Byte :=
  leBytes 8 stamp ++ frames.flatMap fun x => x.flatMap fun v => leBytes 4 v.toNat

/-- A block of an input port (R391, R401, R402): BCLK and WS are driven, and the samples are written to the oldest capture buffer, or dropped
with event 0x0A. -/
def captureBlock (s : State) (n t : Nat) (input : List (BitVec 32)) : State :=
  let r := captureSamples (s.sap n) input
  let s0 := (s.emit (.sample n (s.sap n).frame [])).modSap n fun _ => r.1
  let p := s0.sap n
  if s.hub.cpFailed then s0
  else
    let s2 :=
      match p.capBufs with
      | [] =>
        let s1 := s0.modSap n fun p => { p with nCapDrop := p.nCapDrop + 1, capGap := true }
        if p.capGap then s1 else sapEvent s1 n 0x0A
      | b :: rest =>
        let b1 : CapBuf := { b with done := b.done + 1, stamp := if b.done = 0 then t else b.stamp, gap := b.gap || p.capGap }
        let s1 := s0.emit (.hostWrite b.func (b.desc.w1 + BitVec.ofNat 64 (b.done * (8 + 256 * p.chn))) (captureBytes t r.2))
        if b1.done < audioBlocks b.desc then s1.modSap n fun p => { p with capGap := false, capBufs := b1 :: rest }
        else complete (s1.modSap n fun p => { p with capGap := false, capBufs := rest }) b.cr b.gen
          (sapCompletion 0x31 0 n b1.gap b1.stamp b1.done b.desc.w3)
    endStop s2 n

/-- A port that slews onto AWCLK (R395): the phase of the edge measured now against the generator's next block, to the nearest WS edge, is
taken up by at most 100 ppm of a block; once it is none the port locks, event 0x07. (DEDUCED, log entry 47) -/
def slewBlock (s : State) (n t : Nat) : State :=
  let p := s.sap n
  let next := { p with block := p.block + 1 }.blockStart
  let d := (s.wall : Int) - next
  let e := d - roundDivI (d * p.fs) 1000000000 * 1000000000 / p.fs
  let m : Int := (6400000 / p.fs : Nat)
  let s1 := s.modSap n fun p => { p with stamp := t, base := ((next : Int) + max (-m) (min m e)).toNat, block := 0 }
  if e.natAbs ≤ m then sapEvent (s1.modSap n fun p => { p with awUsed := true, slewing := false }) n 7 else s1

/-- AUDIO_BLOCK (R394): block `block` of a started port is complete; `input` is what SD of an input port showed. On AWCLK the next block
begins at the edge measured now; on the system counter with the next block of the grid. The SAP's clock stands still in Deep-sleep (R468).
(DEDUCED, log entry 47) -/
def execAudioBlock (sap : Nat) (input : List (BitVec 32)) (s : State) : Host.Outcome State Fault Refusal :=
  .next <|
    if !(s.sap sap).started || decide (s.clocks.power = .deep) then s
    else
      let s0 := s.modSap sap fun p => if p.aw then p else { p with block := max p.block (s.wall * p.fs / 64000000000 - 1) }
      let p := s0.sap sap
      let t := p.blockStart
      let s1 := if p.input then captureBlock s0 sap t input else playBlock (readAhead s0 sap) sap t
      if p.slewing then slewBlock s1 sap t
      else s1.modSap sap fun p =>
        if p.awUsed then { p with stamp := t, base := s.wall, block := 0 } else { p with stamp := t, block := p.block + 1 }

/-- A channel's change takes effect now (R398): for an output port at its next sample, for an input port, whose samples come with their
block, after 10 ms. -/
def Sap.changeDue (p : Sap) (ch : Nat) : Bool :=
  p.changesAt ch (if p.input then p.before.getD ch 1 ||| 1 else p.sampleBits ((p.held.headD ⟨0, []⟩).words.getD ch 0))

/-- SAP_ZERO_CROSSING_CHANGE (R398, R404): a channel takes its pending change, where a zero crossing or 10 ms have come. -/
def execSapZeroCrossingChange (sap channel : Nat) (s : State) : Host.Outcome State Fault Refusal :=
  .next <|
    match Tbl.get none (s.sap sap).changes channel with
    | none => s
    | some c => if (s.sap sap).changeDue channel then endStop (s.modSap sap fun p => p.take channel c) sap else s

/-! ### AWCLK (R395) -/

/-- The started ports of which `f` holds. -/
def sapsWhere (s : State) (f : Sap → Bool) : List Nat := (s.media.saps.filter fun x => x.2.started && f x.2).map fun x => x.1

/-- AWCLK_LOSS (R395, R407): ports on AWCLK, and those that slew onto it, go on from the last edge on the system counter without a phase
step. -/
def execAwclkLoss (s : State) : Host.Outcome State Fault Refusal :=
  .next <|
    if !s.media.awPresent then s
    else
      (s.modMedia fun m => { m with awPresent := false }).each (sapsWhere s fun p => p.awUsed || p.slewing) fun s n =>
        sapEvent (s.modSap n fun p => { p with awUsed := false, slewing := false, nAwLoss := p.nAwLoss + 1 }) n 6

/-- AWCLK_RETURN (R395): after 1 s of good edges the ports with CLK = 1 slew onto them. -/
def execAwclkReturn (s : State) : Host.Outcome State Fault Refusal :=
  .next <|
    if s.media.awPresent then s
    else
      (s.modMedia fun m => { m with awPresent := true }).each (sapsWhere s fun p => p.aw && !p.awUsed) fun s n =>
        s.modSap n fun p => { p with slewing := true }

end Sys2Proof.Machine
end

