-- ==== Sys2Proof/Machine/ScrimTable.lean ====
section
/-! DEFINITION. Safety entries, cap codes and the tables of the Scrim checkers (R134 to R138, R148). -/

namespace Sys2Proof.Machine

/-! ### Fields of a table's safety entries (R134 to R137) -/

/-- The zone of a tile's safety entry. -/
def pltZone (p : Plt) (t : Nat) : Nat := fld (pltGet p 0x11 t 0) 5 0
/-- LUM of the first `np` primaries of a tile. -/
def pltLum (p : Plt) (np t : Nat) : List Nat := (List.range np).map fun i => fld (pltGet p 0x11 t 2) (16 * i + 15) (16 * i)
/-- PW of the first `np` primaries of a tile. -/
def pltPw (p : Plt) (np t : Nat) : List Nat := (List.range np).map fun i => fld (pltGet p 0x11 t 1) (16 * i + 15) (16 * i)
/-- P_IDLE of a tile. -/
def pltIdle (p : Plt) (t : Nat) : Nat := fld (pltGet p 0x11 t 0) 31 16
/-- V_SUP of a tile. -/
def pltSup (p : Plt) (t : Nat) : Nat := fld (pltGet p 0x11 t 0) 47 32
/-- PMAX_t in 10 mW (R135). -/
def pltMax (p : Plt) (t : Nat) : Nat := pltSup p t * fld (pltGet p 0x11 t 0) 63 48 / 1000

/-- A tile on canvas `c` is driven (R135, R137, R233): its safety entry, its zone and its drive entry are enabled, the zone is
the canvas's, and neither its white luminance nor its power limit is 0. -/
def driven (p : Plt) (drive : Bool) (c np t : Nat) : Bool :=
  let z := pltGet p 0x10 (pltZone p t) 0
  bit (pltGet p 0x11 t 0) 6 && bit z 43 && decide (fld z 42 41 = c) && drive && decide ((pltLum p np t).sum ≠ 0) && decide (pltMax p t ≠ 0)

/-- CAP_t of a tile on canvas `c` (R137, R138). -/
def capCode (p : Plt) (drive : Bool) (c np t : Nat) : Nat :=
  if driven p drive c np t then min 65535 (65535 * fld (pltGet p 0x10 (pltZone p t) 0) 33 20 / (pltLum p np t).sum) else 0

/-- The drive entry of a tile is enabled, as it is in force (R233). -/
def State.driveEn (s : State) (t : Nat) : Bool := bit (s.pltF 0x12 t 1) 32

/-- A tile on canvas `c` is driven by the entries in force. -/
def State.driven (s : State) (c t : Nat) : Bool := Machine.driven s.plt.inForce (s.driveEn t) c (s.canvas c).committed.np t

/-- CAP_t of a tile on canvas `c` by the entries in force. -/
def State.cap (s : State) (c t : Nat) : Nat := capCode s.plt.inForce (s.driveEn t) c (s.canvas c).committed.np t

/-! ### The Scrim tables (R148, R340) -/

/-- The tiles on the ports of region `r` of die `d`. -/
def scrimTiles (s : State) (d : DieId) (r : Nat) : List Nat :=
  below 512 fun t =>
    match (s.tile t).map with
    | some m => decide (portRegion m.port = r) && (s.portDies m.port).contains d
    | none => false

/-- The canvas that a tile's zone entry names (R134). -/
def pltCanvas (p : Plt) (t : Nat) : Nat := fld (pltGet p 0x10 (pltZone p t) 0) 42 41

/-- The raw entries of a checker's table: zone entries, tile safety entries and flash blocks of its tiles, in ascending section
code and index. A tile's flash block is that of the canvas its zone belongs to, since on no other canvas is it driven (R137).
(DEDUCED, log entry 65) -/
def scrimRaw (s : State) (d : DieId) (r : Nat) : Plt :=
  let tiles := scrimTiles s d r
  let p := s.plt.inForce
  let zones := below 64 fun z => tiles.any fun t => pltZone p t = z
  let canvases := below 4 fun c => tiles.any fun t => pltCanvas p t = c
  let words := fun (sec n i : Nat) => (List.range n).map fun w => (pltKey sec i w, pltGet p sec i w)
  (zones.flatMap fun z => words 0x10 1 z) ++ (tiles.flatMap fun t => words 0x11 3 t) ++ canvases.flatMap fun c => words 0x13 2 c

/-- The CRC-32C of a checker's raw entries. -/
def rawCrc (p : Plt) : BitVec 32 := crc32c (wordBytes (p.map fun x => x.2))

/-- A tile's values as a loader computes them from raw entries (R135, R138, R148). -/
def scrimEntry (raw : Plt) (t : Nat) : ScrimEntry :=
  let cap := fun (np : Nat) => capCode raw true (pltCanvas raw t) np t
  { cap3 := cap 3, cap4 := cap 4, pw := pltPw raw 4 t, lum := pltLum raw 4 t, idle := pltIdle raw t, pmax := pltMax raw t, zone := pltZone raw t }

/-- Every tile's values, as a checker's loader computes them from raw entries. -/
def scrimEntries (raw : Plt) (tiles : List Nat) : Tbl (Option ScrimEntry) :=
  tiles.foldl (fun m t => Tbl.set none m t (some (scrimEntry raw t))) []

/-- The event source of a region of a twin die (R154). -/
def regionSource (d : DieId) (r : Nat) : Nat := dieSource d (16 + r)

/-- The CAP_t values of a checker's table for a list of tiles. -/
def capValues (m : Tbl (Option ScrimEntry)) (tiles : List Nat) : List (Option (Nat × Nat)) :=
  tiles.map fun t => (Tbl.get none m t).map fun e => (e.cap3, e.cap4)

/-- Both comparisons of a checker's table hold (R148): its raw entries have the CRC that the arbiter holds, and every CAP_t is the one its
loader computes from them. -/
def scrimAgrees (s : State) (d : DieId) (r : Nat) : Bool :=
  let x := s.scrim d r
  let l := scrimTiles s d r
  decide (rawCrc x.raw = x.arbCrc) && decide (capValues x.tiles l = capValues (scrimEntries x.raw l) l)

/-- A checker compares its table (R148, R154): a mismatch blocks every region of it, with event 0x07. -/
def checkScrim (s : State) (d : DieId) (r : Nat) : State :=
  if scrimAgrees s d r then s
  else raise (s.modScrim d r fun y => { y with blocked := true }) (regionSource d r) 7 0

/-- Loads one checker's table and compares it (R133, R148); the arbiter receives the CRC of the entries in force from the hub (R340). A
load ends a block. (DEDUCED, log entry 65) -/
def loadScrim (s : State) (d : DieId) (r : Nat) : State :=
  let raw := scrimRaw s d r
  let tiles := scrimTiles s d r
  let zones := (tiles.map fun t => pltZone raw t).dedup
  checkScrim (s.modScrim d r fun x =>
    { x with raw := raw, tiles := scrimEntries raw tiles,
             flashes := (below 4 fun c => tiles.any fun t => pltCanvas raw t = c).map fun c => (c, (pltGet raw 0x13 c 0, pltGet raw 0x13 c 1)),
             budgets := zones.foldl (fun m z => Tbl.set 0 m z (fld (pltGet raw 0x10 z 0) 19 0)) [],
             arbCrc := rawCrc (scrimRaw s d r), blocked := false }) d r

/-- Loads every checker's table in both dies. -/
def loadScrims (s : State) : State := s.each [DieId.a, DieId.b] fun s d => s.each (List.range 4) fun s r => loadScrim s d r

/-- The raw word of a checker's private storage with key `k` holds another value (R155). -/
def upsetScrim (s : State) (d : DieId) (r k : Nat) (v : Word) : State :=
  s.modScrim d r fun x => { x with raw := x.raw.map fun y => if y.1 = k then (k, v) else y }

/-! ### What a checker takes for a tile (R137, R148) -/

/-- The region that serves a tile (R24). -/
def State.regionOf (s : State) (t : Nat) : Nat :=
  match (s.tile t).map with
  | some m => portRegion m.port
  | none => 0

/-- A checker's values of a tile; zeros where its table has none. -/
def State.scrimEntry (s : State) (d : DieId) (t : Nat) : ScrimEntry :=
  (Tbl.get none (s.scrim d (s.regionOf t)).tiles t).getD ⟨0, 0, [0, 0, 0, 0], [0, 0, 0, 0], 0, 0, 0⟩

/-- CAP_t as the Scrim checker takes it on canvas `c`: 0 for a tile whose zone belongs to another canvas, or whose drive entry is not
enabled (R137, R148, R233). -/
def State.scrimCap (s : State) (d : DieId) (c t : Nat) : Nat :=
  let x := s.scrim d (s.regionOf t)
  if pltCanvas x.raw t = c && s.driveEn t then
    let e := s.scrimEntry d t
    if (s.canvas c).committed.rgbw then e.cap4 else e.cap3
  else 0

/-- The flash words of canvas `c` that the checker of a tile holds. -/
def State.scrimFlash (s : State) (d : DieId) (c t : Nat) : Word × Word := Tbl.get (0, 0) (s.scrim d (s.regionOf t)).flashes c

end Sys2Proof.Machine
end

