-- ==== Sys2Proof/Machine/Plt.lean ====
section
/-! DEFINITION. The Partition and Limits Table: PLT_READ, the two-party change, its expiry and the settings areas
(R133 to R136, R233, R234, R335 to R350, R503). -/

namespace Sys2Proof.Machine

/-! ### PLT_READ (R341) -/

/-- PLT_READ for the common checks (R341): open to every function. -/
def opPltRead : JcsOp := { opcode := 0x0201 }

/-- A sender that is no principal may read this entry (R341). -/
def pltReadable (s : State) (who sec i : Nat) : Bool :=
  let z := fld (s.pltW 0x10 i 0) 42 41
  if sec = 1 then true
  else if sec = 2 then decide (i = who)
  else if 3 ≤ sec ∧ sec ≤ 9 then decide (s.ownerOf sec i = who)
  else if sec = 0x10 then decide (s.ownerOf 3 z = who)
  else if sec = 0x13 then decide (s.ownerOf 3 i = who)
  else decide (s.ownerOf 4 i = who)

/-- PLT_READ (R318, R341). -/
def pltReadBody (s : State) (r : Req) : Ans :=
  let sec := fld (r.word 0) 7 0
  let i := fld (r.word 0) 25 16
  let count := fld (r.word 0) 41 32
  let w := pltWords sec
  if w = 0 then .badParam s
  else
    let n := min count (min (pltEntries sec - i) (511 / w))
    let ws := (List.range n).flatMap fun k => (List.range w).map fun j =>
      if s.principal r.who || pltReadable s r.who sec (i + k) then s.pltW sec (i + k) j else 0
    { Ans.ok s ws with trunc := decide (n < count) }

/-- PLT_READ (R341). -/
def execPltRead (r : Req) (s : State) : Host.Outcome State Fault Refusal := .next (jcs opPltRead pltReadBody r s)

/-! ### PLT_PROPOSE (R343, R344) -/

/-- The fields of an entry lie in their ranges (R134 to R136, R233, R336 to R338, R343). -/
def pltEntryOk (sec : Nat) (w : List Word) : Bool :=
  let a := wordAt w 0
  let b := wordAt w 1
  let c := wordAt w 2
  if sec = 1 then (fld a 1 0 == 1 || fld a 1 0 == 2) && (1 ≤ fld a 15 8 && fld a 15 8 ≤ 175) && (1 ≤ fld a 23 16 && fld a 23 16 ≤ 64)
  else if sec = 2 then decide (fld a 30 18 ≤ 4096) && decide (fld a 37 31 ≤ 64)
  else if 3 ≤ sec ∧ sec ≤ 9 then decide (fld a 6 0 ≤ 63) || fld a 6 0 == 127
  else if sec = 0x10 then
    !bit a 43 || (decide (1 ≤ fld a 19 0) && (1 ≤ fld a 33 20 && fld a 33 20 ≤ 10000) && (50 ≤ fld a 40 34 && fld a 40 34 ≤ 97))
  else if sec = 0x11 then
    !bit a 6 || (decide (1 ≤ fld c 15 0 + fld c 31 16 + fld c 47 32) && decide (1 ≤ fld a 47 32) && decide (1 ≤ fld a 63 48))
  else if sec = 0x12 then !bit b 32 || decide (fld b 7 0 ≤ 125)
  else if sec = 0x13 then
    decide (1 ≤ fld a 15 8) && (1 ≤ fld a 31 16 && fld a 31 16 ≤ 10000) && decide (1 ≤ fld a 35 32) && decide (1 ≤ fld a 39 36)
  else false

/-- A word of an entry with its reserved bits zero (R10, R134 to R136, R233, R336 to R338). Bits [7:2] of a flash block's word 0, which
R136 does not list, count as reserved. (DEDUCED, log entry 74) -/
def pltMasked (sec j : Nat) (w : Word) : Word :=
  let keep := fun (hi lo : Nat) => put (fld w hi lo) (hi + 1 - lo) lo
  if sec = 1 then keep 1 0 ||| keep 23 8
  else if sec = 2 then keep 37 0
  else if 3 ≤ sec ∧ sec ≤ 9 then keep 6 0
  else if sec = 0x10 then keep 43 0
  else if sec = 0x11 then if j = 0 then keep 6 0 ||| keep 63 16 else w
  else if sec = 0x12 then if j = 1 then keep 32 0 else w
  else if sec = 0x13 then if j = 0 then keep 1 0 ||| keep 55 8 else keep 31 0
  else w

/-- The entries of one edit as keys and words: entry `i` on, `n` of them, from the words `ws`. -/
def editEntries (sec : Nat) : Nat → Nat → List Word → List (Nat × Word)
  | _, 0, _ => []
  | i, n + 1, ws =>
    let w := pltWords sec
    ((List.range w).map fun j => (pltKey sec i j, pltMasked sec j (wordAt ws j))) ++ editEntries sec (i + 1) n (ws.drop w)

/-- The edits of a proposal's payload after word 0 (R343): the keys and words, or none where the payload is refused. -/
def parseEdits : Nat → List Word → Option (List (Nat × Word))
  | 0, ws => if ws.isEmpty then some [] else none
  | _ + 1, [] => none
  | n + 1, h :: ws =>
    let sec := fld h 7 0
    let i := fld h 25 16
    let count := fld h 41 32
    let w := pltWords sec
    if w = 0 || count = 0 || decide (pltEntries sec < i + count) || decide (ws.length < count * w) then none
    else if sec = 9 && decide (i < 64) then none
    else if !((chunks w count ws).all fun e => pltEntryOk sec e) then none
    else
      match parseEdits n (ws.drop (count * w)) with
      | some l => some (editEntries sec i count ws ++ l)
      | none => none

/-- PLT_PROPOSE for the common checks (R342, R343). -/
def opPltPropose : JcsOp := { opcode := 0x0202, principal := true }

/-- PID and PROPOSER in their bits (R343, R346). -/
def pidWord (pid : BitVec 16) (proposer : Nat) : Word := pid.setWidth 64 ||| put proposer 7 16

/-- PLT_PROPOSE (R343, R344). (DEDUCED, log entry 74) -/
def pltProposeBody (s : State) (r : Req) : Ans :=
  let edits := fld (r.word 0) 7 0
  if s.plt.proposal.isSome then .busy s
  else if edits = 0 then .ok s
  else if 508 < r.len then .badParam s
  else
    match parseEdits edits (r.words.drop 1) with
    | none => .badParam s
    | some _ =>
      let pid := Config.firstPid + BitVec.ofNat 16 s.plt.recorded
      let p : Proposal :=
        { pid := pid, proposer := r.who, session := if 64 ≤ r.src then some (r.src - 64) else none, edits := r.words,
          time := s.reqTime, expiry := s.reqTime + 30000000000 }
      { status := 9,
        state := raise (s.modPlt fun t => { t with proposal := some p, recorded := t.recorded + 1 }) 202 1 (pidWord pid r.who),
        payload := [pidWord pid r.who, BitVec.ofNat 64 p.expiry] }

/-- PLT_PROPOSE (R343). -/
def execPltPropose (r : Req) (s : State) : Host.Outcome State Fault Refusal := .next (jcs opPltPropose pltProposeBody r s)

/-! ### Lapse (R347) -/

/-- PROPOSAL_EXPIRY (R347, R350): the EXPIRY of the pending proposal has passed, and it lapses once every request taken by then has been
processed. -/
def execProposalExpiry (s : State) : Host.Outcome State Fault Refusal :=
  .next <|
    match s.plt.proposal with
    | none => s
    | some p => if p.expiry < s.wall && !(s.hub.accepted.any fun x => s.serves x.2 && decide (x.1 ≤ p.expiry)) then lapseProposal s 0 else s

/-! ### PLT_CONFIRM (R345) -/

/-- The I_HW that a tile has reported since its last reset (R249, R553). -/
def Tile.iHw (t : Tile) : Option Nat := t.newest.map fun x => fld (wordAt x.words 5) 31 16

/-- The runs of ring contexts of all functions lie within 0 to 262,143 and do not overlap (R338). -/
def runsApart (t : Plt) : Bool :=
  let run := fun f => (fld (pltGet t 2 f 0) 17 0, fld (pltGet t 2 f 0) 30 18)
  (List.range 64).all fun f => (List.range 64).all fun g =>
    let a := run f
    let b := run g
    decide (a.1 + a.2 ≤ 262144) && (f == g || a.2 == 0 || b.2 == 0 || decide (a.1 + a.2 ≤ b.1) || decide (b.1 + b.2 ≤ a.1))

/-- Every entry of a section is in range. -/
def sectionOk (t : Plt) (sec : Nat) : Bool :=
  (List.range (pltEntries sec)).all fun i => pltEntryOk sec ((List.range (pltWords sec)).map fun w => pltGet t sec i w)

/-- Check 4 of R345: the resulting table is valid. -/
def tableValid (s : State) (t : Plt) : Bool :=
  sectionOk t 2 && runsApart t && ((List.range 7).all fun k => sectionOk t (3 + k)) &&
    ((List.range 512).all fun i =>
      match (s.tile i).iHw with
      | some h => decide (fld (pltGet t 0x11 i 0) 63 48 ≤ h)
      | none => true) &&
    sectionOk t 0x10 && sectionOk t 0x11 && sectionOk t 0x12

/-- No committed layer, slot of one or placed tile of canvas `c` ends owned by a function other than the canvas's owner by a change of hands
of any of them (R336, R345). -/
def layersFit (s : State) (t : Plt) (c : Nat) : Bool :=
  let o := pltOwner t 3 c
  let moved := fun (sec i : Nat) => pltOwner t sec i != s.ownerOf sec i
  let fits := fun (sec i : Nat) => pltOwner t sec i == o || !(moved sec i || moved 3 c)
  ((s.canvas c).committed.layers.all fun l => fits 5 l.1 && (fits 6 (fld l.2.w0 10 6) && (pltOwner t 6 (fld l.2.w0 10 6) == o || !moved 5 l.1))) &&
    ((s.canvas c).committed.tileIds.all fun k => fits 4 k)

/-- Check 5 of R345: no resource in use changes hands, and no ownership rule of R336 breaks. -/
def handsKept (s : State) (t : Plt) : Bool :=
  let same := fun sec i => pltOwner t sec i == s.ownerOf sec i
  (s.frames.slots.all fun x => !x.2.started || same 6 x.1) &&
    (s.queues.rings.all fun x => x.2.state != .running ||
      (decide (64 ≤ x.2.owner) || (decide (fld (pltGet t 2 x.2.owner 0) 17 0 ≤ x.1) &&
        decide (x.1 < fld (pltGet t 2 x.2.owner 0) 17 0 + fld (pltGet t 2 x.2.owner 0) 30 18)))) &&
    (s.media.saps.all fun x => x.2.state == .stopped || same 7 x.1) &&
    (s.media.decs.all fun x => !x.2.running || same 8 x.1) &&
    (s.media.encs.all fun x => !x.2.running || same 8 (4 + x.1)) &&
    ((List.range 4).all fun c => layersFit s t c)

/-- PLT_CONFIRM for the common checks (R342, R345). -/
def opPltConfirm : JcsOp := { opcode := 0x0203, principal := true, zeros := fun _ _ => 1 }

/-- The frame at which a change confirmed now takes effect on canvas `c` (R133), not before wall time `t`; frame M + 1 of
a timing change waits for M + 2 (R225). -/
def safetyFrame (s : State) (c t : Nat) : Nat :=
  let cv := s.canvas c
  cv.landing (max t (s.reqTime + 1000000))

/-- Words take effect in engines and Scrim now (R133, R148). A zone that is enabled, disabled or moved has no scale of a
frame before (R141). -/
def putInForce (s : State) (l : List (Nat × Word)) : State :=
  if l.isEmpty then s
  else
  let s1 := s.modPlt fun p => { p with inForce := pltSet p.inForce l }
  let zones := (l.filter fun x => decide (x.1 / 65536 = 0x10)).map fun x => x.1 % 65536 / 4
  loadScrims (s1.each (zones.filter fun z => decide (fld (s.pltF 0x10 z 0) 43 41 ≠ fld (s1.pltF 0x10 z 0) 43 41)) fun s z =>
    s.modZone z fun y => { y with g := none, gB := none })

/-- Words take effect with frame N of canvas `c` (R133), or now when it does not run. -/
def applyOn (s : State) (c t : Nat) (l : List (Nat × Word)) : State :=
  if l.isEmpty then s
  else if (s.canvas c).running then
    s.modPlt fun p => { p with waits := p.waits ++ [{ canvas := c, frame := safetyFrame s c t, tile := none, words := l }] }
  else putInForce s l

/-- A zone's change takes effect on its canvas; a zone that moves leaves its old canvas first (R133), and enters an idle one as it does. -/
def applyZone (s : State) (old : Plt) (l : List (Nat × Word)) (z : Nat) : State :=
  let w := pltGet old 0x10 z 0
  let k := pltKey 0x10 z 0
  match (l.filter fun x => x.1 = k).getLast? with
  | none => s
  | some (_, v) =>
    let a := fld w 42 41
    let b := fld v 42 41
    if a = b || !bit w 43 then applyOn s b 0 [(k, v)]
    else if !(s.canvas b).running then applyOn s a 0 [(k, v)]
    else
      let ta := if (s.canvas a).running then wallOf ((s.canvas a).selAt (safetyFrame s a 0)) else 0
      applyOn (applyOn s a 0 [(k, v &&& ~~~(1#64 <<< 43))]) b ta [(k, v)]

/-- The confirmed I_LIMIT of a tile exceeds the I_HW it has reported (R250, R553). -/
def iHwShort (s : State) (t : Nat) : Bool :=
  bit (s.pltW 0x11 t 0) 6 && (match (s.tile t).iHw with
    | some m => decide (m < fld (s.pltW 0x11 t 0) 63 48)
    | none => false)

/-- Marks the changes that wait for a tile's DRIVE transaction as carried by the one that begins, or as waiting again (R234). -/
def carryWaits (s : State) (t : Nat) (v : Bool) : State :=
  s.modPlt fun p => { p with waits := p.waits.map fun x => if x.tile = some t then { x with carried := v } else x }

/-- Starts a tile's DRIVE transaction for its confirmed entries (R234), or notes that it must wait: for the transaction the tile is in
(R242), or while it is held back or its I_HW is too low (R250, R553). -/
def startDrive (s : State) (t : Nat) : State :=
  let s0 := s.modTile t fun x => { x with driveWait := true }
  if (s.txnOn t).isSome || (s.tile t).held.isSome || iHwShort s t then s0
  else
    let s1 := carryWaits s0 t true
    match s.canvasOf t with
    | some c =>
      let cv := s.canvas c
      let n := cv.landing (s.reqTime + 10000000)
      let run := cv.running
      startTxn s1 .drive (some c) 64 none [t] [(t, 3, driveWords s.plt.table t)] (if run then n else 0)
        (if run then wallOf (cv.flipAt n) else 0)
    | none => startTxn s1 .drive none 64 none [t] [(t, 3, driveWords s.plt.table t)] 0 0

/-- A tile's changed entries take effect (R133, R234): with its DRIVE transaction when its drive entry or I_LIMIT changes
and it can be started, or when an earlier change still waits for one, else with its canvas. (DEDUCED, log entry 75) -/
def applyTile (s : State) (old new : Plt) (l : List (Nat × Word)) (t : Nat) : State :=
  let mine := l.filter fun x => (decide (x.1 / 65536 = 0x11) || decide (x.1 / 65536 = 0x12)) && decide (x.1 % 65536 / 4 = t)
  let starts := driveWords old t ≠ driveWords new t && (s.tile t).assigned && (s.tile t).held.isNone
  if mine.isEmpty then s
  else if starts || s.plt.waits.any fun x => x.tile = some t then
    startDrive ((s.modTile t fun x => { x with driveTold := false }).modPlt fun p =>
      { p with waits := p.waits ++ [{ canvas := 0, frame := 0, tile := some t, words := mine }] }) t
  else
    match s.canvasOf t with
    | some c => applyOn s c 0 mine
    | none => putInForce s mine

/-- Settings writes fall due in both areas, one after the other (R348, R503). -/
def settingsDue (s : State) : State :=
  s.modPlt fun p => { p with writesDue := (p.writesDue ++ [0, 1]).dedup }

/-- A confirmed change: the table, the removal of routes of events that change owner, the times of R340, the writes. -/
def applyConfirmed (s : State) (l : List (Nat × Word)) : State :=
  let old := s.plt.table
  let new := pltSet old l
  let s1 := s.modPlt fun p => { p with table := new }
  let s2 := s1.each (below 1024 fun e => pltOwner old 9 e != pltOwner new 9 e) fun s e =>
    s.modEvent e fun x => { x with routes := [] }
  let s3 := s2.each (List.range 64) fun s z => applyZone s old l z
  let s4 := s3.each (List.range 4) fun s c =>
    applyOn s c 0 (l.filter fun x => decide (x.1 / 65536 = 0x13) && decide (x.1 % 65536 / 4 = c))
  let tiles := ((l.filter fun x => decide (x.1 / 65536 = 0x11) || decide (x.1 / 65536 = 0x12)).map fun x => x.1 % 65536 / 4).dedup
  settingsDue (s4.each tiles fun s t => applyTile s old new l t)

/-! ### PLT_WITHDRAW, PLT_PROPOSAL_READ (R346) -/

/-- PLT_WITHDRAW for the common checks (R346). -/
def opPltWithdraw : JcsOp := { opcode := 0x0204, principal := true }

/-- PLT_WITHDRAW (R344, R346). -/
def pltWithdrawBody (s : State) (r : Req) : Ans :=
  match s.plt.proposal with
  | none => .badParam s
  | some p =>
    if fld (r.word 0) 15 0 ≠ p.pid.toNat then .badParam s
    else if p.proposer ≠ r.who then .conflict s
    else .ok (raise (s.modPlt fun t => { t with proposal := none }) 202 4 (p.pid.setWidth 64))

/-- PLT_WITHDRAW (R346). -/
def execPltWithdraw (r : Req) (s : State) : Host.Outcome State Fault Refusal := .next (jcs opPltWithdraw pltWithdrawBody r s)

/-- PLT_PROPOSAL_READ for the common checks (R320, R346). -/
def opPltProposalRead : JcsOp := { opcode := 0x0205, principal := true, zeros := fun _ _ => 1 }

/-- PLT_PROPOSAL_READ (R346). -/
def pltProposalReadBody (s : State) (_r : Req) : Ans :=
  match s.plt.proposal with
  | none => .ok s [0]
  | some p =>
    .ok s ([pidWord p.pid p.proposer ||| putB true 23, BitVec.ofNat 64 p.time, BitVec.ofNat 64 p.expiry] ++ p.edits)

/-- PLT_PROPOSAL_READ (R346). -/
def execPltProposalRead (r : Req) (s : State) : Host.Outcome State Fault Refusal :=
  .next (jcs opPltProposalRead pltProposalReadBody r s)

end Sys2Proof.Machine
end

