-- ==== Sys2Proof/Machine/FwOps.lean ====
section
/-! DEFINITION. Shared operations on the flash header, the running image, STAGE 7, the fall-back and safe halt's supplies
(R500, R502, R510, R513, R543, R547). -/

namespace Sys2Proof.Machine

/-! ### Flash slots (R500, R502) -/

/-- The header copy in force: the one with the higher HSEQ (R500). (DEDUCED, log entry 74) -/
def Firmware.head (f : Firmware) : FlashHeader := if f.hdr0.hseq < f.hdr1.hseq then f.hdr1 else f.hdr0
/-- The state of slot A. -/
def Firmware.stateA (f : Firmware) : SlotState := f.head.stateA
/-- The state of slot B. -/
def Firmware.stateB (f : Firmware) : SlotState := f.head.stateB
/-- The number of a slot state (R500). -/
def slotCode (x : SlotState) : Nat := match x with
  | .empty => 0 | .loaded => 1 | .trial => 2 | .confirmed => 3 | .bad => 4 | .writing => 5
/-- The slot state of a number; 6 and 7 are reserved. -/
def codeSlot (n : Nat) : Option SlotState := match n with
  | 0 => some .empty | 1 => some .loaded | 2 => some .trial | 3 => some .confirmed | 4 => some .bad | 5 => some .writing | _ => none
/-- The bytes of a header copy (R500). -/
def headerBytes (h : FlashHeader) : List Byte :=
  let l := leBytes 4 0x4A524846 ++ leBytes 4 h.hseq.toNat ++ [BitVec.ofNat 8 (slotCode h.stateA), BitVec.ofNat 8 (slotCode h.stateB), 0, 0] ++
    leBytes 4 h.verA.toNat ++ leBytes 4 h.verB.toNat ++ List.replicate 8 0
  l ++ leBytes 4 (crc32c l).toNat
/-- The header copy that bytes hold, where MAGIC, CRC and states are right (R500). -/
def readHeader (l : List Byte) : Option FlashHeader :=
  let num := fun (lo n : Nat) => ofLeBytes ((l.drop lo).take n)
  if l.length < 32 || num 0 4 ≠ 0x4A524846 || num 28 4 ≠ (crc32c (l.take 28)).toNat then none
  else
    match codeSlot (num 8 1), codeSlot (num 9 1) with
    | some a, some b => some ⟨BitVec.ofNat 32 (num 4 4), a, b, BitVec.ofNat 32 (num 12 4), BitVec.ofNat 32 (num 16 4)⟩
    | _, _ => none
/-- A slot's state: slot A for `false`, slot B for `true`. -/
def Firmware.slot (f : Firmware) (b : Bool) : SlotState := if b then f.stateB else f.stateA
/-- A slot's image. -/
def Firmware.image (f : Firmware) (b : Bool) : Option Image := if b then f.imageB else f.imageA
/-- `f` after a header write that gives both slots a state (R500): the copy with the lower HSEQ takes the next one. -/
def Firmware.header (f : Firmware) (a b : SlotState) : Firmware :=
  let ver := fun (x : Option Image) => (x.map fun y => y.version).getD 0
  let h : FlashHeader := ⟨f.head.hseq + 1, a, b, ver f.imageA, ver f.imageB⟩
  if f.hdr1.hseq < f.hdr0.hseq then { f with hdr1 := h } else { f with hdr0 := h }
/-- The header copies as the Primer reads them (R500): what the flash returned in place of a copy counts where it is valid. -/
def Firmware.readHeaders (f : Firmware) (r : BootResult) : Firmware :=
  let read := fun (h : FlashHeader) (o : Option (List Byte)) => match o with
    | none => h
    | some l => (readHeader l).getD {}
  { f with hdr0 := read f.hdr0 r.header0, hdr1 := read f.hdr1 r.header1 }
/-- `f` after a header write that gives one slot a state. -/
def Firmware.setSlot (f : Firmware) (b : Bool) (x : SlotState) : Firmware :=
  if b then f.header f.stateA x else f.header x f.stateB
/-- The slot in a state: A before B. -/
def Firmware.find (f : Firmware) (x : SlotState) : Option Bool :=
  if f.stateA = x then some false else if f.stateB = x then some true else none

/-- The FORMAT in which an image takes an area's records (R503): its own, or else the newest that it can read. -/
def SettingsArea.formatFor (a : SettingsArea) (x : Image) : Option Nat :=
  if a.formats.contains x.format then some x.format
  else (a.formats.filter fun f => decide (x.formatPrev ≤ f) && decide (f ≤ x.format)).foldl (fun m f => some (max (m.getD 0) f)) none

/-- The records that an area holds in a FORMAT (R504): those of an older format than its writer's lack what that format cannot
express. (DEDUCED, log entry 82) -/
def SettingsArea.asFormat (a : SettingsArea) (f : Nat) : SettingsArea :=
  if a.formats.head? = some f then a
  else
    { a with
      plt := a.plt.filter fun x => Config.expresses f 1 x.1
      tileMap := a.tileMap.filter fun x => Config.expresses f 3 x.1
      portCfg := a.portCfg.filter fun x => Config.expresses f 3 (512 + x.1)
      timeMode := if Config.expresses f 2 0 then a.timeMode else 0
      timeSnap := Config.expresses f 2 0 && a.timeSnap
      ptpWords := if Config.expresses f 2 1 then a.ptpWords else []
      refWords := if Config.expresses f 2 2 then a.refWords else [] }

/-- An image passes its signature check (R502): none does while OTP_OFF is set (R528). -/
def imagePasses (s : State) (x : Image) : Bool := x.signed && decide (s.firmware.svnFuse ≤ x.svn) && !s.service.keys.otpOff

/-- The image in a slot runs (R295): HUB_FW_VERSION shows it. -/
def setRunning (s : State) (b trial : Bool) : State :=
  s.modHub fun h => { h with fwValid := true, fwSlotB := b, unconfirmed := trial,
                             fwVersion := ((s.firmware.image b).map fun x => x.version).getD 0 }

/-! ### STAGE 7 and the fall-back (R326, R347, R510, R513, R538) -/

/-- Step `n` of a change of microcode is in progress (R515). -/
def setMcStep (s : State) (n : Nat) : State := s.modFirmware fun f => { f with mcStep := n }

/-- The control processor is to restart (R301, R326): calibration windows close, and STAGE becomes 7 once every request taken has been
answered. -/
def enterRestart (s : State) : State :=
  let s1 := closeWindows s fun _ => true
  if s1.hub.reqAt.isSome || s1.nextRequest.isSome then s1.modHub fun h => { h with restartDue := true } else beginRestart s1

/-- A fall-back begins (R513): the trial slot becomes BAD, E220 tells of it, and the control processor restarts into the
CONFIRMED slot. Without one there is nothing to fall back to. (DEDUCED, log entry 19) -/
def beginFallBack (s : State) (cause : Nat) : State :=
  match s.firmware.find .confirmed with
  | none => s
  | some c =>
    let s1 := s.modFirmware fun f =>
      { f.setSlot s.hub.fwSlotB .bad with trialAt := none, fallBack := none, fallbacks := f.fallbacks + 1, mcStep := 0 }
    let s2 := raise s1 220 5 (s.hub.fwVersion.setWidth 64 ||| put cause 2 32)
    enterRestart (setRunning s2 c false)

/-- A fall-back that waited for a step of a change of microcode begins at STAGE 6, as the step ends (R513). -/
def fallBackDue (s : State) : State :=
  match s.firmware.fallBack with
  | some cause => if s.hub.cpFailed || decide (s.hub.stage ≠ .ready) then s else beginFallBack s cause
  | none => s

/-! ### Supplies (R543, R547) -/

/-- The twin die that a supply serves alone. -/
def supplyDie (x : Supply) : Option DieId :=
  match x with
  | .vddpe d => some d
  | .vddc d => some d
  | .vddphy .a => some .a | .vddphy .b => some .b
  | .vddq .a => some .a | .vddq .b => some .b
  | .vddsd .a => some .a | .vddsd .b => some .b
  | .vddsdh .a => some .a | .vddsdh .b => some .b
  | _ => none

/-- A supply of the always-on island. -/
def islandSupply (x : Supply) : Bool := decide (x = .vddao) || decide (x = .vddioAo)

/-- The supplies of a twin die are in range. -/
def State.dieSupplied (s : State) (d : DieId) : Bool := s.service.supplyOut.all fun x => decide (supplyDie x ≠ some d)
/-- The supplies of the hub and the island are in range. -/
def State.hubSupplied (s : State) : Bool := s.service.supplyOut.all fun x => (supplyDie x).isSome

end Sys2Proof.Machine
end

