-- ==== Sys2Proof/Machine/MemCtl.lean ====
section
/-! DEFINITION. The memory controller of a channel: the device code in memory, the address maps, the request queues, the choice at a
command slot and the rows of the banks (R434 to R441, R455). -/

namespace Sys2Proof.Machine

/-! ### The device code in memory (R434 to R437) -/

/-- The stamp word of a line (R435): its data address bits [39:6]. -/
def stampWord (line : Nat) : Word := put line 34 0

/-- A data word as it is stored in a line (R435, R437): its check byte is computed over the word XOR the stamp word, and is XOR 0x03
where the word comes from a poisoned source. -/
def storedCode (line : Nat) (w : Word) (poisoned : Bool) : Code :=
  ⟨w, checkByte (w ^^^ stampWord line) ^^^ (if poisoned then 0x03 else 0)⟩

/-- A line that nothing has written: eight words of zeros under its stamp. What such a line holds is open, and as the code is linear no
check depends on it. (DESIGN CHOICE, log entry 102) -/
def blankLine (line : Nat) : List Code := List.replicate 8 (storedCode line 0 false)

/-- A line of a channel as it is stored. -/
def Chan.line (x : Chan) (line : Nat) : List Code :=
  match Tbl.get [] x.lines line with
  | [] => blankLine line
  | l => l

/-- `x` with a line stored. -/
def Chan.setLine (x : Chan) (line : Nat) (l : List Code) : Chan :=
  { x with lines := Tbl.set [] x.lines line (if l = blankLine line then [] else l) }

/-- A word of a line is written (R435, R437). -/
def Chan.writeWord (x : Chan) (line i : Nat) (w : Word × Bool) : Chan :=
  x.setLine line ((x.line line).set i (storedCode line w.1 w.2))

/-- Words are written from word `k` of block `block` on (R434): word k of the block is word k mod 8 of its line k ÷ 8. -/
def Chan.writeWords (x : Chan) (block k : Nat) : List (Word × Bool) → Chan
  | [] => x
  | w :: rest => (x.writeWord (8 * block + k / 8) (k % 8) w).writeWords block (k + 1) rest

/-- The syndrome of a word read at a line (R162, R435). -/
def lineSyndrome (line : Nat) (c : Code) : Nat := (c.check ^^^ checkByte (c.data ^^^ stampWord line)).toNat

/-- A word read at a line, decoded (R162, R435). -/
def decodeAt (line : Nat) (c : Code) : Decoded :=
  match decodeCode ⟨c.data ^^^ stampWord line, c.check⟩ with
  | .clean w => .clean (w ^^^ stampWord line)
  | .fixed w => .fixed (w ^^^ stampWord line)
  | .bad => .bad

/-- A stamp mismatch (R436): at least 7 of the 8 words give the same non-zero syndrome. -/
def stampMismatch (line : Nat) (l : List Code) : Bool :=
  let syns := l.map (lineSyndrome line)
  syns.any fun x => decide (x ≠ 0) && decide (7 ≤ syns.countP fun y => y = x)

/-- What a channel returns for a line (R434 to R436): the line of `source`, which is another one where the access was misdirected, with
bits flipped. -/
def Chan.returned (x : Chan) (source : Nat) (flips : List Code) : List Code :=
  (x.line source).zipWith (fun a b => ⟨a.data ^^^ b.data, a.check ^^^ b.check⟩) flips

/-- How a line read is judged (R436): words corrected and words poisoned, a stamp mismatch, and the line as it is written back: corrected,
and with its poison kept in the check bytes (R437, R447). -/
structure LineRead where
  fixed : Nat
  bad   : Nat
  stamp : Bool
  back  : List Code
  deriving DecidableEq, Repr

/-- A line judged (R436, R437, R447). -/
def judgeLine (line : Nat) (l : List Code) : LineRead :=
  if stampMismatch line l then ⟨0, 8, true, l.map fun c => storedCode line c.data true⟩
  else
    let ds := l.map (decodeAt line)
    ⟨ds.countP fun d => (match d with | .fixed _ => true | _ => false), ds.countP fun d => d.word.isNone, false,
      l.zipWith (fun c d => match Decoded.word d with
        | some w => storedCode line w false
        | none => storedCode line c.data true) ds⟩

/-- A block's check line is read (R434): each channel keeps the last 16. -/
def Chan.readCheck (x : Chan) (block : Nat) : Chan := { x with checks := (block :: x.checks.filter fun b => b ≠ block).take 16 }

/-! ### The address maps (R433, R438) -/

/-- The map of a segment (R433). -/
def segmentMap (segment : Nat) : Nat := if segment = 0 then 1 else if segment = 7 then 3 else 2

/-- The 512-byte units of one bank of a segment: its raw bytes, an eighth of the channel's bank, hold whole blocks of 576 bytes
(R431, R433, R434). -/
def unitsPerBank (gib channels : Nat) : Nat := gib * 2 ^ 30 / 8 / channels / 16 / 576

/-- The channel of a data offset under a map, and its unit's index among those of that channel (R438). -/
def mapPlace (map gib channels offset : Nat) : Nat × Nat :=
  let u := offset / 512
  let per := 16 * unitsPerBank gib channels
  match map with
  | 0 => (u / per, u % per)
  | 1 => (u % channels ^^^ u / channels % channels ^^^ u / channels / channels % channels, u / channels)
  | 2 => (offset / 2048 % channels, offset / 2048 / channels)
  | _ => (u / (4 * per) * 4 + (u % 4 ^^^ u / 4 % 4), u % (4 * per) / 4)

/-- The bank of index `k` (R438). -/
def mapBank (map gib channels k : Nat) : Nat :=
  if map = 0 then k / unitsPerBank gib channels else k % 16 ^^^ k / 16 % 16

/-- The channel and the bank of a data offset of a segment (R433, R438). -/
def placeOf (segment gib channels offset : Nat) : Nat × Nat :=
  let map := segmentMap segment
  let p := mapPlace map gib channels offset
  (p.1, mapBank map gib channels p.2)

/-! ### Requests and queues (R437, R439, R441, R443) -/

end Sys2Proof.Machine

namespace Sys2Proof

/-- RT-A or RT-B (R439). -/
def MemClass.rt (c : MemClass) : Bool := c = .rtA || c = .rtB

/-- The deadline of an RT request (R439). -/
def MemReq.due (r : MemReq) : Option Nat :=
  match r.cls with
  | .rtA => some r.deadline
  | .rtB => some (r.arrived + 20000)
  | _ => none

/-- The line a request begins at (R454): its segment above its line address in the segment. -/
def MemReq.line (r : MemReq) : Nat := r.segment % 8 * 2 ^ 31 + r.offset / 64 % 2 ^ 31

/-- The block of a request (R434). -/
def MemReq.block (r : MemReq) : Nat := r.line / 8

/-- A write of less than a whole block (R437). -/
def MemReq.partialWrite (r : MemReq) : Bool := r.write.any fun l => decide (l.length < 64)

/-- The order of classes within a bank at time `now` (R440): RT, M, BG; a BG request that has waited 500 µs counts as M. -/
def MemReq.rank (now : Nat) (r : MemReq) : Nat :=
  if r.cls.rt then 0 else if r.cls = .m || decide (r.arrived + 500000 ≤ now) then 1 else 2

end Sys2Proof

namespace Sys2Proof.Machine

/-- A bank of a channel. -/
def Chan.bank (x : Chan) (b : Nat) : Bank := Tbl.get {} x.banks b
/-- `x` with a bank changed. -/
def Chan.modBank (x : Chan) (b : Nat) (f : Bank → Bank) : Chan := { x with banks := Tbl.modify {} x.banks b f }

/-- A bank's queue has room for a request (R439): 8 entries, 2 of them kept for RT. -/
def Bank.room (b : Bank) (r : MemReq) : Bool :=
  decide (b.queue.length < 8) && (r.cls.rt || decide (b.queue.countP (fun q => !q.req.cls.rt) < 6))

/-- The requests at the channel input enter their banks' queues in order of arrival, as far as there is room (R439). A request that finds
room passes an earlier one that finds none. (DEDUCED, log entry 100) -/
def Chan.refill (x : Chan) : Chan :=
  x.input.foldl (fun y (i : Nat × MemReq) =>
    if (y.bank i.1).room i.2 then y.modBank i.1 fun b => { b with queue := b.queue ++ [{ req := i.2 }] }
    else { y with input := y.input ++ [i] }) { x with input := [] }

/-- A request arrives at a channel (R439). -/
def Chan.arrive (x : Chan) (bank : Nat) (r : MemReq) : Chan := ({ x with input := x.input ++ [(bank, r)] } : Chan).refill

/-- Every queued request with its bank. -/
def Chan.queued (x : Chan) : List (Nat × Queued) := x.banks.flatMap fun b => b.2.queue.map fun q => (b.1, q)

/-- An RT request is queued in the channel (R443). -/
def Chan.rtQueued (x : Chan) : Bool := (x.queued.any fun q => q.2.req.cls.rt) || x.input.any fun i => i.2.cls.rt

/-- Every open row is closed (R441). -/
def Chan.closeRows (x : Chan) : Chan :=
  { x with banks := x.banks.foldl (fun t b => Tbl.modify {} t b.1 fun y => { y with openRow := none }) x.banks }

/-! ### The choice at a command slot (R437, R440, R441, R455) -/

/-- No other request holds the block (R437), and a patrol read lets a write to its block go first (R455). -/
def Bank.free (b : Bank) (q : Queued) : Bool :=
  (q.rmw || !b.queue.any fun o => o.rmw && decide (o.req.block = q.req.block)) &&
    !(q.req.patrol && b.queue.any fun o => o.req.write.isSome && decide (o.req.block = q.req.block))

/-- The row a request needs is open. -/
def Bank.hits (b : Bank) (q : Queued) : Bool := b.openRow = some q.req.row

/-- A bank has had 16 row hits in a row while another has a request waiting (R440). -/
def Chan.spent (x : Chan) (b : Nat) : Bool :=
  decide (x.run.1 = b) && decide (16 ≤ x.run.2) && x.queued.any fun q => decide (q.1 ≠ b)

/-- The bank group of a bank: which banks make a group is not stated. (DESIGN CHOICE, log entry 102) -/
def bankGroup (b : Nat) : Nat := b / 4

/-- The earliest by a measure, the first on a tie. -/
def earliest {α : Type} (f : α → Nat) : List α → Option α
  | [] => none
  | x :: rest =>
    match earliest f rest with
    | some y => if f y < f x then some y else some x
    | none => some x

/-- The oldest request of the best class (R440). -/
def pickOf (now : Nat) (l : List Queued) : Option Queued :=
  (List.range 3).findSome? fun k => earliest (fun q => q.req.arrived) (l.filter fun q => q.req.rank now = k)

/-- What bank `b` would do in a slot by rule 4 (R440): a row hit, else an activate where one is permitted. -/
def Chan.offer (x : Chan) (now : Nat) (activate : Bool) (b : Nat) : Option Queued :=
  let k := x.bank b
  let l := k.queue.filter k.free
  let hit := if x.spent b then none else pickOf now (l.filter k.hits)
  match hit with
  | some q => some q
  | none => if activate && (l.filter k.hits).isEmpty then pickOf now l else none

/-- Rule 4 of R440: the banks from the one after the last activated on; an activate in the bank group of the last one only where no bank
offers anything else. (DEDUCED, log entry 100) -/
def Chan.rotate (x : Chan) (now : Nat) (activate : Bool) : Option (Nat × Queued) :=
  let first := match x.lastAct with
    | some b => b + 1
    | none => 0
  let offers := (List.range 16).filterMap fun i => (x.offer now activate ((first + i) % 16)).map fun q => ((first + i) % 16, q)
  let same := fun (o : Nat × Queued) => !(x.bank o.1).hits o.2 && (x.lastAct.any fun b => bankGroup b = bankGroup o.1)
  match offers.find? fun o => !same o with
  | some o => some o
  | none => offers.head?

/-- Rule 2 of R440: the urgent request with the earliest deadline. (DEDUCED, log entry 100) -/
def Chan.urgent (x : Chan) (now : Nat) : Option (Nat × Queued) :=
  earliest (fun o => o.2.req.due.getD 0) (x.queued.filter fun o => o.2.req.due.any fun t => decide (t ≤ now + 1000))

/-- The first entry of a queue that is `q` replaced by others. -/
def swapOut (q : Queued) (new : List Queued) : List Queued → List Queued
  | [] => []
  | x :: rest => if x = q then new ++ rest else x :: swapOut q new rest

/-- The column command that ends a request (R434, R437, R441): its words are stored, or its block's check line comes with the read; the
access joins the bank's history, and after three misses of four, with no request for the open row, the row is closed. -/
def Chan.column (x : Chan) (b : Nat) (q : Queued) : Chan :=
  let y := match q.req.write with
    | some l => x.writeWords q.req.block (q.req.offset / 8 % 64) l
    | none => x.readCheck q.req.block
  let z := y.modBank b fun k =>
    let queue := swapOut q [] k.queue
    let history := ((!q.missed) :: k.history).take 4
    let close := decide (3 ≤ history.countP fun h => !h) && !(queue.any fun o => decide (k.openRow = some o.req.row))
    { openRow := if close then none else k.openRow, history := history, queue := queue }
  ({ z with run := (b, if x.run.1 = b then x.run.2 + 1 else 1) } : Chan).refill

/-- A slot goes to a request (R437, R440): an activate opens its row; a partial write whose check line is not kept reads it and holds its
block; else the column command ends it. -/
def Chan.serve (x : Chan) (b : Nat) (q : Queued) : Chan :=
  if !(x.bank b).hits q then
    { x.modBank b fun k => { k with openRow := some q.req.row, queue := swapOut q [{ q with missed := true }] k.queue } with lastAct := some b }
  else if q.req.partialWrite && !q.rmw && !x.checks.contains q.req.block then
    (x.readCheck q.req.block).modBank b fun k => { k with queue := swapOut q [{ q with rmw := true }] k.queue }
  else x.column b q

/-- A request ends in this slot. -/
def Chan.ends (x : Chan) (b : Nat) (q : Queued) : Bool :=
  (x.bank b).hits q && !(q.req.partialWrite && !q.rmw && !x.checks.contains q.req.block)

/-- A command slot (R440), and the class of a request served after its deadline (R453). A forced burst is never under way in a slot:
nothing interrupts it, and REFRESH_DUE does the whole of it. An urgent request that cannot proceed yet keeps the slot for itself.
(DEDUCED, log entry 100) -/
def Chan.slot (x : Chan) (now : Nat) (activate : Bool) : Chan × Option MemClass :=
  let go := fun (o : Option (Nat × Queued)) =>
    match o with
    | some (b, q) => (x.serve b q, if x.ends b q && q.req.due.any (fun t => decide (t < now)) then some q.req.cls else none)
    | none => (x, none)
  match x.urgent now with
  | some (b, q) => if (x.bank b).free q && ((x.bank b).hits q || activate) then go (some (b, q)) else (x, none)
  | none =>
    if decide (0 < x.owed) && !x.rtQueued then ({ x.closeRows with owed := x.owed - 1 }, none)
    else go (x.rotate now activate)

/-- The memory leaves service (R441, R450, R455): writes already accepted complete, reads are discarded, rows are closed. -/
def Chan.drain (x : Chan) : Chan :=
  let all := (x.queued.map fun q => q.2.req) ++ x.input.map fun i => i.2
  let y := all.foldl (fun y r =>
    match r.write with
    | some l => y.writeWords r.block (r.offset / 8 % 64) l
    | none => y) x
  ({ y with input := [], banks := y.banks.foldl (fun t b => Tbl.modify {} t b.1 fun k => { k with queue := [] }) y.banks } : Chan).closeRows

/-- Segments S1 to S7 lose their content (R450). -/
def Chan.dropUpper (x : Chan) : Chan := { x with lines := x.lines.filter fun l => decide (l.1 < 2 ^ 31) }

/-- The listed channels of a die changed by `g`. -/
def State.modChans (s : State) (d : Die3) (g : Chan → Chan) : State :=
  s.modClocks fun c =>
    { c with chans := c.chans.foldl (fun t x => if x.1 / 32 = d.num then Tbl.modify {} t x.1 g else t) c.chans }

/-- The state of a die's memory (R450). -/
def State.memMode (s : State) (d : Die3) : MemMode :=
  match d with
  | .a => s.clocks.memA
  | .b => s.clocks.memB
  | .hub => s.clocks.memH

/-- A memory in self-refresh, which serves nothing (R450). -/
def MemMode.asleep (m : MemMode) : Bool := decide (m = .selfRefresh) || decide (m = .partialArray)

/-- Since a die's memory left self-refresh, a channel has still to make its tracking pass before the first request (R450). -/
def State.awaitsTracking (s : State) (d : Die3) (ch : Nat) : Bool := s.clocks.memExits.any fun x => decide (x.1 = d) && !x.2.contains ch

/-- The memory of a die enters a state (R441, R450, R455). On the way out of self-refresh every channel has a tracking pass to make. -/
def State.setMem (s : State) (d : Die3) (m : MemMode) : State :=
  let exits := fun (l : List (Die3 × List Nat)) =>
    if m.asleep then l.filter fun x => x.1 ≠ d
    else if (s.memMode d).asleep then (d, []) :: l.filter fun x => x.1 ≠ d else l
  let s1 := s.modClocks fun c =>
    match d with
    | .a => { c with memA := m, memExits := exits c.memExits }
    | .b => { c with memB := m, memExits := exits c.memExits }
    | .hub => { c with memH := m, memExits := exits c.memExits }
  match m with
  | .active => s1
  | .powerDown => s1.modChans d Chan.closeRows
  | .selfRefresh => s1.modChans d Chan.drain
  | .partialArray => s1.modChans d fun x => x.drain.dropUpper

end Sys2Proof.Machine
end

