-- ==== Sys2Proof/Machine/TwinOps.lean ====
section
/-! DEFINITION. Shared operations on the twin dies and the arbiter: recorded errors, retired clusters, lost regions, fatal
declarations, heartbeats and fences (R25, R29, R32, R255 to R264, R268, R276, R277, R525). -/

namespace Sys2Proof.Machine

/-! ### Recorded errors, clusters and regions (R25, R29, R32, R268) -/

/-- A recorded error of die `d` (R268), kept by its wall time and counted. (DEDUCED, log entry 56) -/
def recordError (s : State) (d : DieId) (k : ErrKind) : State :=
  s.modDie d fun x => { x with errors := ((s.wall, k) :: x.errors).take 64, nErrors := x.nErrors + 1 }

/-- A cluster that is not retired. -/
def Die.serviceable (d : Die) (c : Nat) : Bool := (d.cluster c).retired = .no
/-- The retired clusters of a die. -/
def Die.retiredList (d : Die) : List Nat := below 16 fun c => !d.serviceable c
/-- The cluster that rests in a region. (DEDUCED, log entry 56) -/
def Die.restingCluster (d : Die) (r : Nat) : Option Nat := (d.region r).resting.map fun q => 4 * r + q
/-- The clusters that take work: serviceable and not resting. -/
def Die.activeList (d : Die) : List Nat := below 16 fun c => d.serviceable c && decide (d.restingCluster (c / 4) ≠ some c)

/-- The next heartbeat of a die (R255). -/
def heartbeatWord (s : State) (d : DieId) : Word :=
  let x := s.die d
  (x.hseq.setWidth 64) ||| (x.epoch.setWidth 64 <<< 8) |||
    put (match x.role with
      | .none => 0 | .lead => 1 | .shadow => 2 | .span => 3) 2 16 |||
    putB x.fatal 18 ||| putB x.incomplete 19 ||| put x.cause 4 20 ||| putB x.fenceReq 24 ||| put s.lowFrame 16 32 |||
    put x.retiredList.length 8 48

/-- A heartbeat word leaves die `d` (R255): HSEQ rises by one. -/
def sendHeartbeat (s : State) (d : DieId) : State :=
  let s1 := s.modDie d fun x => { x with hseq := x.hseq + 1 }
  s1.emit (.heartbeat d (heartbeatWord s1 d))

/-- Die `d` declares itself fatal with a CAUSE (R257): at once in an extra heartbeat. A die that does not run, or has
declared, does not declare again. -/
def declareFatal (s : State) (d : DieId) (cause : Nat) : State :=
  if !(s.die d).running || (s.die d).fatal then s
  else sendHeartbeat (s.modDie d fun x => { x with fatal := true, cause := cause }) d

/-- Region `r` of die `d` is lost (R29): in Twin mode the die declares itself fatal; in Span mode its
ports fall silent, so that their tiles hold and fade (DEDUCED, log entry 30). -/
def loseRegion (s : State) (d : DieId) (r : Nat) : State :=
  let s1 := s.modRegion d r fun x => { x with lost := true, resetting := false }
  if s.span then s1.each (below 32 fun k => k / 8 = r) fun s k => s.modPort (diePortNo d k) fun x => { x with tx := .off }
  else declareFatal s1 d 4

/-- The slice on a cluster aborts (R32, R525): counted, its stores are scrubbed, and its index runs again later. -/
def abortSlice (s : State) (d : DieId) (c : Nat) : State :=
  if ((s.die d).cluster c).slice then
    s.modCluster d c fun x => { x with slice := false, aborted := x.aborted + 1, stores := [] }
  else s

/-- A cluster reset with store scrub (R30, R32): its engines' stores and its own hold zeros. -/
def scrubCluster (s : State) (d : DieId) (c : Nat) : State := s.modCluster d c fun x => { x with stores := [] }

/-- A work item runs on a cluster: what it leaves in the stores is not stated (R2, R28). (DESIGN CHOICE, log entry 88) -/
def soilCluster (s : State) (d : DieId) (c : Nat) : State :=
  s.modCluster d c fun x => { x with stores := (List.range 9).map fun i => (i, .left s.free) }

/-- Every slice of a die aborts (R525). -/
def abortSlices (s : State) (d : DieId) : State := s.each (List.range 16) fun s c => abortSlice s d c

/-- Cluster `c` of die `d` is retired (R29, R30): its slice ends, its stores are scrubbed, the resting cluster of its region serves as spare
(R25), and a region with three retired clusters is lost. (DEDUCED, log entry 56) -/
def retireCluster (s : State) (d : DieId) (c : Nat) (why : Retired) : State :=
  if !(s.die d).serviceable c then s
  else
    let r := c / 4
    let s1 := abortSlice s d c
    let s2 := s1.modCluster d c fun x => { x with retired := why, retTime := s.wall, spare := false, slice := false, stores := [] }
    let s3 := recordError s2 d .retirement
    let s4 :=
      match (s3.die d).restingCluster r with
      | some k =>
        let s5 := s3.modRegion d r fun x => { x with resting := none }
        if k = c then s5 else (scrubCluster (abortSlice s5 d k) d k).modCluster d k fun x => { x with spare := true }
      | none => s3
    if 3 ≤ (below 4 fun q => !(s4.die d).serviceable (4 * r + q)).length then loseRegion s4 d r else s4

/-- The event source of a cluster (R541). -/
def clusterSource (d : DieId) (c : Nat) : Nat := dieSource d (64 + c)

/-! ### The FENCE line (R261) -/

/-- The results a die holds for the regions of the present frames. -/
def State.results (s : State) : DieId → Tbl (Option RegionRes)
  | .a => s.frames.resA
  | .b => s.frames.resB
/-- `s` with a die's region results changed. -/
def State.modResults (s : State) (d : DieId) (f : Tbl (Option RegionRes) → Tbl (Option RegionRes)) : State :=
  match d with
  | .a => s.modFrames fun x => { x with resA := f x.resA }
  | .b => s.modFrames fun x => { x with resB := f x.resB }

/-- Key of a region in a die's results. -/
def regKey (tile region : Nat) : Nat := tile * 256 + region
/-- A die's result for a region. -/
def State.result (s : State) (d : DieId) (tile region : Nat) : Option RegionRes := Tbl.get none (s.results d) (regKey tile region)
/-- `s` with a die's result for a region replaced. -/
def State.setResult (s : State) (d : DieId) (tile region : Nat) (r : RegionRes) : State :=
  s.modResults d fun t => Tbl.set none t (regKey tile region) (some r)

/-- Every vote in progress is abandoned (R46, R277): no retirement, OUTCOME 7 in the tile's record; the inputs of frames whose flip has
passed are let go. -/
def abandonVotes (s : State) : State :=
  let s1 := (s.each (s.dies.twin.votes.filter fun v => !v.ended) fun s v => s.modTile v.tile fun t =>
    { t with vote := some [put v.frame 48 0 ||| put v.region 8 48, put v.tile 9 0 ||| put 7 3 9 ||| putB v.held 16,
        v.a0.setWidth 64 ||| (v.b0.setWidth 64 <<< 32), 0] }).modTwin fun x => { x with votes := [] }
  s1.each (s.dies.twin.votes.filter fun v => !v.ended && decide (v.frame ≤ (s.canvas v.canvas).frame)) fun s v => endUses s v.canvas v.frame

/-- The state of a memory (R450). -/
def setMemory (s : State) (d : DieId) (m : MemMode) : State := s.setMem d.die3 m

/-- Die `d` is held in die reset behind its FENCE line (R261): its ports are off, its memory refreshes itself, and what it
had in progress is gone; a frame that waited for a marker on its leg alone is judged. Retired clusters and lost regions stay so (R29).
(DEDUCED, log entry 81) -/
def holdDie (s : State) (d : DieId) : State :=
  let s1 := s.modDie d fun x =>
    { x with role := .none, running := false, fenced := true, mute := false, incomplete := false, fatal := false,
             fenceReq := false, hseq := 0, missedCmd := 0,
             clusters := (List.range 16).foldl (fun t c => Tbl.modify {} t c fun y =>
               { y with slice := false, spare := false, stores := [] }) x.clusters,
             regions := (List.range 4).foldl (fun t r => Tbl.modify {} t r fun y =>
               { y with resetting := false, blocked := false, latent := false, again := false }) x.regions,
             engineErr := [], errors := [] }
  let s2 := s1.each (List.range 32) fun s p => s.modPort (diePortNo d p) fun x =>
    { x with tx := .off, rx := .down, sent := [], windowOpen := false }
  let s3 := setMemory (s2.modResults d fun _ => []) d .selfRefresh
  let s4 := s3.modOp d fun _ => { since := s.uptime }
  let s5 := s4.modTwin fun x =>
    match d with
    | .a => { x with hseqA := 0, missA := 0 }
    | .b => { x with hseqB := 0, missB := 0 }
  let s6 := s5.modTime fun t =>
    match d with
    | .a => { t with ocA := {}, tcSyncs := t.tcSyncs.filter fun x => x.1 ≠ .a }
    | .b => { t with ocB := {}, tcSyncs := t.tcSyncs.filter fun x => x.1 ≠ .b }
  let s7 := followGm s (abandonVotes (closeWindows s6 fun _ => true))
  s7.each (s7.frames.slots.map fun x => x.1) judgeIfIn

/-- The arbiter's command word (R258): CMD and EPOCH. -/
def commandWord (cmd : Nat) (epoch : BitVec 8) : Word := put cmd 4 0 ||| (epoch.setWidth 64 <<< 8)

/-- The arbiter sends a command word to a die (R258). -/
def sendCommand (s : State) (d : DieId) (cmd : Nat) : State := s.emit (.command d (commandWord cmd s.dies.twin.epoch))

/-- Every 100 µs a TICK command word goes to each die (R258). (DESIGN CHOICE, log entry 1) -/
def tickCommands (s : State) : State :=
  if decide (s.uptime < s.dies.twin.cmdAt) || decide (s.dies.twin.cmdAt + 100000 ≤ s.uptime) then
    (sendCommand (sendCommand s .a 0) .b 0).modTwin fun x => { x with cmdAt := s.uptime }
  else s

/-- The frame in production of the lowest-numbered running canvas (R281): the one after its latest flip. (DEDUCED, log entry 56) -/
def productionFrame (s : State) : Nat :=
  match s.lowCanvas with
  | some c => (s.canvas c).frame + 1
  | none => 0

/-- The arbiter's state changes with a change of roles (R281), the fencing of a shadow among them (R255). (DEDUCED, log entry 86) -/
def roleChange (s : State) (st : ArbState) : State :=
  s.modTwin fun x => { x with state := st, roleFrame := productionFrame s, roleTime := s.wall }

/-- The cause of a die's last fence (R281). -/
def setCause (s : State) (d : DieId) (cause : Nat) : State :=
  s.modTwin fun x =>
    match d with
    | .a => { x with causeA := cause }
    | .b => { x with causeB := cause }

/-- The joining die, released behind its fence (R261, R273). -/
def State.joining (s : State) (d : DieId) : Bool := (s.die d).fenced && (s.die d).running

/-- A joining die in its verification computes with the lead (R275). -/
def State.verifies (s : State) (d : DieId) : Bool := s.joining d && decide (s.dies.twin.state = .verify)

/-- The arbiter's state with one die running alone (R259): Span mode has none of its own. -/
def State.alone (s : State) : ArbState := if s.span then .span else .solo

/-- A second fault (R276): both dies are held, event 0x06. (DEDUCED, log entry 70) -/
def goOut (s : State) (d : DieId) : State :=
  raise (roleChange (holdDie (holdDie s .a) .b) .out) 200 6 (put d.num 1 0)

/-- Both dies of a pair are fenced within 10 µs (R259, R277): a promotion that the second has not taken yet (`taken`) is undone.
(DEDUCED, log entry 70) -/
def undoPromotion (s : State) (taken : Bool) : State :=
  match s.dies.twin.promotedAt with
  | some t => if decide (s.uptime ≤ t + 10000) && !taken then
      s.modTwin fun x => { x with epoch := x.epoch - 1, promotions := x.promotions - 1, promotedAt := none }
    else s
  | none => s

/-- The arbiter promotes die `d` with EPOCH + 1 (R259, R263). -/
def promoteDie (s : State) (d : DieId) : State :=
  sendCommand (s.modTwin fun x =>
    { x with epoch := x.epoch + 1, promotions := x.promotions + 1, promotedAt := some s.uptime, owed := false }) d 1

/-- The lead has been fenced and die `d` is to lead (R259): once it shows itself complete and in a role. -/
def succeed (s : State) (d : DieId) : State :=
  if (s.die d).incomplete || decide ((s.die d).role = .none) then s.modTwin fun x => { x with owed := true } else promoteDie s d

/-- The arbiter fences die `d` with a cause (R259, R261, R276, R277, R280): nothing while it is frozen or for a die whose
fence stands; a joining die goes back to its restart. A fence during step 3 of R511 leads on to step 5, or back to step 1. -/
def fenceDie (s : State) (d : DieId) (cause : Nat) : State :=
  if s.dies.twin.frozen then s
  else if s.joining d then
    let s1 := if s.firmware.mcStep = 2 then setMcStep s 1 else s
    (holdDie s1 d).modTwin fun x => { x with state := s.alone, verified := 0 }
  else if (s.die d).fenced then s
  else
    let lead := decide (s.lead = d)
    let s1 := setCause (holdDie s d) d cause
    let s2 := s1.modTwin fun x => { x with fences := x.fences + 1 }
    let s3 := raise s2 200 1 (put d.num 1 0 ||| put cause 4 4)
    if s.span then roleChange (if s.joining d.other then holdDie s3 d.other else s3) .span
    else match s.dies.twin.state with
    | .duo =>
      let s3 := if s.firmware.mcStep = 3 then setMcStep s3 (if lead then 5 else 1) else s3
      if lead then sendCommand (succeed (roleChange s3 .solo) d.other) d.other 4
      else sendCommand (roleChange s3 .solo) d.other 4
    | .solo => goOut (undoPromotion s3 (decide ((s.die d).role = .lead))) d
    | .copy => goOut s3 d
    | .verify => goOut s3 d
    | _ => s3

end Sys2Proof.Machine
end

