-- ==== Sys2Proof/Machine/PowerOps.lean ====
section
/-! DEFINITION. Power modes, shed classes, operating-point choices and bands as other families ask for them
(R463, R471, R472, R478 to R485, R524). -/

namespace Sys2Proof.Machine

/-! ### Classes shed (R478, R480, R482, R484) -/

/-- The band sheds class O on a die (R478): a twin die in CRIT, the hub from HOT. -/
def bandShedsO (d : Die3) (b : Band) : Bool :=
  match d with
  | .hub => decide (b = .hot) || decide (b = .crit)
  | _ => decide (b = .crit)
/-- The classes O and D are shed on a die at a rung (R482, R484). -/
def shedAt (s : State) (rung : Nat) (d : Die3) : Bool × Bool :=
  (decide (1 ≤ rung) || bandShedsO d (s.therm d).band, decide (2 ≤ rung) || decide ((s.therm d).band = .crit))
/-- Class O work is shed on a die (R484). -/
def State.oShed (s : State) (d : Die3) : Bool := (shedAt s s.budget.rung d).1
/-- Class D work is shed on a die (R484). -/
def State.dShed (s : State) (d : Die3) : Bool := (shedAt s s.budget.rung d).2
/-- A D task that a die sheds is counted (R480). (DEDUCED, log entry 58) -/
def countShed (s : State) (d : Die3) : State := s.modTherm d fun x => { x with shedTasks := x.shedTasks + 1 }

/-- A band's place in the order COLD to CRIT. -/
def bandCode (b : Band) : Nat := match b with
  | .cold => 0 | .norm => 1 | .warm => 2 | .hot => 3 | .crit => 4
/-- The preset set of a band (R478). -/
def bandSet (b : Band) : Nat := min 3 (bandCode b)

/-! ### Operating points (R482, R484) -/

/-- The committed engine demand of a die times 1,001 (R98). -/
def State.demand (s : State) (d : DieId) : Nat := ((List.range 4).map fun c => canvasDemand s d (s.canvas c).committed).sum
/-- R524 holds a die at OP2: a serviceable cluster has gone 45 min of eligible time without completing its set. -/
def State.bistHolds (s : State) (d : DieId) : Bool := (List.range 16).any fun c => (s.die d).serviceable c && ((s.die d).cluster c).late45
/-- The scheduler's free choice for a die (R482): OP3 above 25 % of its active capacity at OP2, unless R524 holds it. -/
def freeOp (s : State) (d : DieId) : Nat :=
  if !s.bistHolds d && decide ((s.die d).activeList.length * 153600000000 * 1001 < 4 * s.demand d) then 3 else 2
/-- The highest operating point a rung allows (R482). -/
def rungCap (rung : Nat) : Nat := if 5 ≤ rung then 0 else if rung = 4 then 1 else if rung = 3 then 2 else 3
/-- The operating point that the scheduler wants for a die at a rung (R484). -/
def wantedOp (s : State) (d : DieId) (rung : Nat) : Nat :=
  if (s.therm d.die3).band = .crit then 0 else min (freeOp s d) (rungCap rung)
/-- The budget pause of a rung (R482). -/
def budgetPause (rung : Nat) : Nat := if 6 ≤ rung then min 255 (32 * (rung - 5)) else 0
/-- The pause of a die's dispatchers (R484). -/
def State.pause (s : State) (d : DieId) : Nat := max (budgetPause s.budget.rung) (s.therm d.die3).pause
/-- The effective restriction of a rung on a die: classes shed, operating point, pause (R484). -/
def restriction (s : State) (rung : Nat) (d : DieId) : (Bool × Bool) × Nat × Nat :=
  (shedAt s rung d.die3, wantedOp s d rung, max (budgetPause rung) (s.therm d.die3).pause)

/-! ### Frames of a power mode (R471, R472) -/

/-- What a frame of a canvas shows (R471, R472): its content, every lamp at 0, or nothing is sent. -/
inductive FramePhase where
  | normal | dark | silent
  deriving DecidableEq, Repr

/-- The phase of frame `n` of canvas `c` under the power mode and a transition in progress (R472). -/
def framePhase (s : State) (c n : Nat) : FramePhase :=
  let cv := s.canvas c
  match s.clocks.change with
  | none => if s.clocks.power = .run then .normal else .silent
  | some p =>
    let since := fun (m d : Nat) => decide (((p.at_ + d : Nat) : Int) ≤ cv.selTime m)
    match p.mode with
    | .run => if s.clocks.power = .sleep && since n 2000000 then .normal else .silent
    | .sleep => if since (n - 1) 1000000 then .silent else .normal
    | .deep =>
      if since (n - 1) 2000000 then .silent
      else if since n 2000000 then .dark
      else if s.clocks.power = .run then .normal else .silent

/-- The frame of a transition's last act has flipped on every running canvas (R472). -/
def powerFramesDone (s : State) (p : PwrChange) : Bool :=
  let d := if p.mode = .sleep then 1000000 else 2000000
  (List.range 4).all fun c =>
    let cv := s.canvas c
    !cv.running || decide (((p.at_ + d : Nat) : Int) ≤ cv.selTime cv.frame)

/-! ### Transitions of an operating point (R465) -/

/-- The voltage of an operating point in mV (R463). (DESIGN CHOICE, log entry 57) -/
def opMv (op : Nat) : Nat := match op with
  | 0 => 600 | 1 => 650 | 2 => 750 | _ => 850
/-- Its VOUT_COMMAND code at exponent −12 (R463). (DESIGN CHOICE, log entry 57) -/
def opCode (op : Nat) : Nat := match op with
  | 0 => 0x099A | 1 => 0x0A66 | 2 => 0x0C00 | _ => 0x0D9A

/-- The die status source of a twin die (R474). -/
def statusSource (d : DieId) : Nat := dieSource d 0

/-- The targets of both dies follow the scheduler (R484); a target that changes during a transition is held (R473). -/
def setTargets (s : State) : State :=
  (s.modOp .a fun x => { x with target := wantedOp s .a s.budget.rung }).modOp .b fun x =>
    { x with target := wantedOp s .b s.budget.rung }

/-- Entry to CRIT on a die, or a band change that moves its target, acts at once (R478, R525): slices abort in CRIT. -/
def bandActs (s : State) (d : Die3) : State :=
  let s1 := match d with
    | .a => if s.thermA.band = .crit then abortSlices s .a else s
    | .b => if s.thermB.band = .crit then abortSlices s .b else s
    | .hub => s
  setTargets s1

end Sys2Proof.Machine
end

