-- ==== Sys2Proof/Machine/VoteOps.lean ====
section
/-! DEFINITION. Votes on disputed regions: their results, tie-breaks and ends (R46, R267 to R272, R281, R282). -/

namespace Sys2Proof.Machine

/-- The same vote: tile, region and frame. -/
def Vote.same (v w : Vote) : Bool := v.tile == w.tile && v.region == w.region && v.frame == w.frame

/-- `s` with the vote `v` changed by `f`. -/
def State.modVote (s : State) (v : Vote) (f : Vote → Vote) : State :=
  s.modTwin fun x => { x with votes := x.votes.map fun w => if w.same v then f w else w }

/-- A replay's CRC in the record of a vote, 0 where there is none. -/
def replayCrc (x : Option (Option (BitVec 32))) : BitVec 32 := (x.getD none).getD 0

/-- A vote ends with an OUTCOME and a trusted CRC (R281, R282): the tile's record, event E201 0x02, and the inputs of a
frame whose flip has passed are let go (R270). -/
def endVote (s : State) (v : Vote) (outcome cluster : Nat) (trusted : Option (BitVec 32)) : State :=
  let s1 := s.modVote v fun w => { w with ended := true, trusted := trusted }
  let s2 := s1.modTile v.tile fun t =>
    { t with vote := some [put v.frame 48 0 ||| put v.region 8 48, put v.tile 9 0 ||| put outcome 3 9 ||| put cluster 4 12 ||| putB v.held 16,
        v.a0.setWidth 64 ||| (v.b0.setWidth 64 <<< 32),
        (replayCrc v.a1).setWidth 64 ||| ((replayCrc v.b1).setWidth 64 <<< 32)] }
  let s3 := raise s2 201 2 (put v.tile 9 0 ||| put outcome 3 16 ||| put cluster 4 20)
  if decide (v.frame ≤ (s3.canvas v.canvas).frame) && !s3.votesOpen v.canvas v.frame then endUses s3 v.canvas v.frame else s3

/-- A die has a recorded error in the vote's frame or the one before, from S(N − 1) to F(N) (R268, R269). -/
def hasError (s : State) (d : DieId) (v : Vote) : Bool :=
  let c := s.canvas v.canvas
  (s.die d).errors.any fun e => decide (c.selTime (v.frame - 1) ≤ (e.1 : Int)) && decide ((e.1 : Int) < c.flipTime v.frame)

/-- A die loses the tie-break (R269): fatal with CAUSE 0x6; the winner's original is trusted. -/
def loseTie (s : State) (v : Vote) (d : DieId) : State :=
  let s1 := endVote s v (4 + d.num) 0 (some (if d = .a then v.b0 else v.a0))
  declareFatal s1 d 6

/-- A vote ends without a loser (R269 step 3): counted as inconclusive. -/
def inconclusive (s : State) (v : Vote) : State :=
  (endVote s v 6 0 none).modTwin fun x =>
    { x with inconclusive := x.inconclusive + 1, inconFrames := (productionFrame s :: x.inconFrames).take 8 }

/-- A cluster is busy as a replay unit (R32): an open vote replays on its region's resting cluster. -/
def replaying (s : State) (d : DieId) (c : Nat) : Bool :=
  s.dies.twin.votes.any fun v => !v.ended &&
    (match d with
      | .a => decide (v.repA = some c) && v.a1.isNone
      | .b => decide (v.repB = some c) && v.b1.isNone)

/-- The flips of the lowest-numbered running canvas, and whether a rotation of the region falls due within 250 µs
(R25, R522). -/
def rotationNear (s : State) (d : DieId) (r : Nat) : Bool :=
  let x := (s.die d).region r
  match s.lowCanvas with
  | some c =>
    let cv := s.canvas c
    decide (1023 ≤ x.flips) && decide (cv.flipTime (cv.frame + 1) ≤ (s.wall + 250000 : Nat))
  | none => decide (x.movedAt + 10000000000 ≤ s.uptime + 250000)

/-- The conditions of R522 for a slice, with the die's latest READ_VOUT code and diode reading. -/
def sliceMay (s : State) (d : DieId) (r c : Nat) (vout temp : Int) : Bool :=
  decide (s.hub.stage = .ready) && decide (s.clocks.power = .run) && s.clocks.change.isNone && decide ((s.opState d).op = 2) &&
    (s.opState d).change.isNone && decide (7275 * 4096 ≤ vout * 10000) && decide (vout * 10000 ≤ 7725 * 4096) &&
    decide (temp < 1600) && !s.dShed d.die3 && !((s.die d).cluster c).slice && !replaying s d c && !rotationNear s d r

/-- The cluster on which die `d` runs a tie-break slice (R269): the region's resting one, under the conditions of R522. -/
def tieCluster (s : State) (d : DieId) (r : Nat) : Option Nat :=
  match (s.die d).restingCluster r, (s.opState d).vout with
  | some c, some vout => if sliceMay s d r c vout (s.therm d.die3).now then some c else none
  | _, _ => none

/-- The tie-break of a vote without a majority (R269). -/
def tieBreak (s : State) (v : Vote) : State :=
  match hasError s .a v, hasError s .b v with
  | true, false => loseTie s v .a
  | false, true => loseTie s v .b
  | _, _ =>
    let r := match (s.tile v.tile).map with
      | some m => portRegion m.port
      | none => 0
    let ca := tieCluster s .a r
    let cb := tieCluster s .b r
    if ca.isNone && cb.isNone then inconclusive s v
    else
      let go := fun (s : State) (d : DieId) (c : Option Nat) =>
        match c with
        | some k => s.modCluster d k fun x => { x with slice := true }
        | none => s
      (go (go s .a ca) .b cb).modVote v fun w =>
        { w with tie := true, repA := ca, repB := cb, tieA := if ca.isNone then some none else none,
                 tieB := if cb.isNone then some none else none }

/-- Ends a vote's tie-break once both slices have given their results (R269 steps 2 and 3). -/
def settleTie (s : State) (v : Vote) : State :=
  match v.tieA, v.tieB with
  | some x, some y =>
    if x = some false && y ≠ some false then loseTie s v .a
    else if y = some false && x ≠ some false then loseTie s v .b
    else inconclusive s v
  | _, _ => s

/-- The cluster that replays for a region of a die (R25, R32): the region's own resting cluster, or else the lowest-numbered one that
rests in another region of the die. (DEDUCED, log entry 68) -/
def replayUnit (s : State) (d : DieId) (r : Nat) : Option Nat :=
  match (s.die d).restingCluster r with
  | some k => some k
  | none => (List.range 4).findSome? fun q => (s.die d).restingCluster q

/-- The value that three or four of the results share (R269). -/
def majority (l : List (Option (BitVec 32))) : Option (BitVec 32) :=
  (l.filterMap fun x => x).find? fun x => decide (3 ≤ (l.filter fun y => y = some x).length)

/-- Decides a vote once both replays have ended (R269): by majority, retiring every cluster whose result differs, or by
the tie-break. -/
def decideVote (s : State) (v : Vote) : State :=
  match v.a1, v.b1 with
  | some a1, some b1 =>
    match majority [some v.a0, some v.b0, a1, b1] with
    | none => tieBreak s v
    | some x =>
      let lost := fun (y : Option (BitVec 32)) (c : Option Nat) (d : DieId) (s : State) =>
        match y, c with
        | some z, some k => if z = x then s else retireCluster s d k .vote
        | _, _ => s
      let s1 := lost b1 v.repB .b (lost a1 v.repA .a (lost (some v.b0) v.clusterB .b (lost (some v.a0) v.clusterA .a s)))
      let p := if v.a0 ≠ x then (1, v.clusterA) else if v.b0 ≠ x then (2, v.clusterB)
        else if a1.isSome && a1 ≠ some x then (3, v.repA) else if b1.isSome && b1 ≠ some x then (3, v.repB) else (0, none)
      endVote s1 v p.1 (p.2.getD 0) (some x)
  | _, _ => s

end Sys2Proof.Machine
end

