-- ==== Sys2Proof/Machine/Bist.lean ====
section
/-! DEFINITION. BIST slices, their coverage and DIAG_BIST_READ; the resting rotation (R25, R520 to R525, R539, R541). -/

namespace Sys2Proof.Machine

/-- 20 ms have passed since a region's last opportunity for a slice (R521). -/
def sliceTurn (s : State) (d : DieId) (r : Nat) : Bool :=
  match ((s.die d).region r).sliceAt with
  | some t => decide (t + 20000000 ≤ s.uptime)
  | none => true

/-- BIST_SLICE_START (R521, R522): every 20 ms a slice of the region's resting cluster starts, or is skipped and counted. -/
def execBistSliceStart (die : DieId) (region : Nat) (vout temp : Int) (s : State) : Host.Outcome State Fault Refusal :=
  .next <|
    if s.hub.cpFailed || !s.up die || !sliceTurn s die region then s
    else
      match (s.die die).restingCluster region with
      | none => s
      | some c =>
        let s1 := (s.modOp die fun x => { x with vout := some vout }).modRegion die region fun x => { x with sliceAt := some s.uptime }
        if sliceMay s die region c vout temp then s1.modCluster die c fun x => { x with slice := true }
        else (if s.dShed die.die3 then countShed s1 die.die3 else s1).modCluster die c fun x => { x with skipped := x.skipped + 1 }

/-- A slice that serves a vote's tie-break gives its result (R269). -/
def tieResult (s : State) (d : DieId) (c : Nat) (result : Option Bool) : State :=
  match s.dies.twin.votes.find? fun v => v.tie && !v.ended &&
      (match d with
        | .a => decide (v.repA = some c) && v.tieA.isNone
        | .b => decide (v.repB = some c) && v.tieB.isNone) with
  | none => s
  | some v =>
    let w := match d with
      | .a => { v with tieA := some result }
      | .b => { v with tieB := some result }
    settleTie (s.modVote v fun _ => w) w

/-- A slice completes with its signature as expected (R30, R521, R523): the stores are scrubbed, the set advances, and
slice 383 completes it. -/
def slicePassed (s : State) (d : DieId) (c : Nat) : State :=
  let n := ((s.die d).cluster c).next
  let s1 := s.modCluster d c fun x => { x with slice := false, passed := x.passed + 1, next := (n + 1) % 384, stores := [] }
  if n = 383 then
    raise (setTargets (s1.modCluster d c fun x =>
      { x with sets := x.sets + 1, setTime := s.wall, setUp := s.uptime, setElig := (s.therm d.die3).eligMs, late45 := false,
               overdue := false })) (clusterSource d c) 2 0
  else s1

/-- BIST_SLICE_END (R520, R523, R525, R541): a slice aborts, passes with the signature its image expects, or fails and retires its
cluster. -/
def execBistSliceEnd (die : DieId) (cluster : Nat) (completed : Bool) (signature : Word) (s : State) : Host.Outcome State Fault Refusal :=
  .next <|
    let x := (s.die die).cluster cluster
    let pass := decide (signature = Config.bistSignature s.hub.fwVersion x.next)
    if !x.slice then s
    else if !completed then tieResult (abortSlice s die cluster) die cluster none
    else if pass then tieResult (slicePassed s die cluster) die cluster (some true)
    else
      let s1 := retireCluster (s.modCluster die cluster fun y => { y with slice := false, failSlice := y.next, stores := [] }) die cluster .bist
      tieResult (raise s1 (clusterSource die cluster) 1 (put x.next 9 0)) die cluster (some false)

/-- BIST_OVERDUE (R524): after 45 min of eligible time the die is held at OP2; after 60 min of wall time event 0x03, once. -/
def execBistOverdue (die : DieId) (cluster : Nat) (s : State) : Host.Outcome State Fault Refusal :=
  .next <|
    let x := (s.die die).cluster cluster
    if !(s.die die).serviceable cluster then s
    else
      let late := x.late45 || decide (x.setElig + 2700000 ≤ (s.therm die.die3).eligMs)
      let s1 := setTargets (s.modCluster die cluster fun y => { y with late45 := late })
      if decide (x.setUp + 3600000000000 ≤ s.uptime) && !x.overdue then
        raise (s1.modCluster die cluster fun y => { y with overdue := true }) (calSource die.die3) 3 (put cluster 4 0)
      else s1

/-- The next serviceable cluster of a region after `q`, in the order of R25, that does not serve as spare. -/
def nextResting (s : State) (d : DieId) (r q : Nat) : Option Nat :=
  ([1, 2, 3].map fun i => (q + i) % 4).find? fun k => (s.die d).serviceable (4 * r + k)

/-- RESTING_ROTATION (R25, R32): after 1,024 flips of the lowest-numbered running canvas, or 10 s with none, the resting
role moves; skipped while no cluster rests. A slice on the cluster that goes to work aborts. -/
def execRestingRotation (die : DieId) (region : Nat) (s : State) : Host.Outcome State Fault Refusal :=
  .next <|
    let x := (s.die die).region region
    let due := match s.lowCanvas with
      | some _ => decide (1024 ≤ x.flips)
      | none => decide (x.movedAt + 10000000000 ≤ s.uptime)
    if !due || !s.up die then s
    else
      match x.resting with
      | none => s
      | some q =>
        match nextResting s die region q with
        | none => s
        | some k =>
          (abortSlice s die (4 * region + q)).modRegion die region fun y => { y with resting := some k, flips := 0, movedAt := s.uptime }

/-! ### DIAG_BIST_READ (R539) -/

/-- CAUSE of a retirement (R539); the boot BIST counts as a failed slice (DEDUCED, log entry 25). -/
def retiredCode (r : Retired) : Nat := match r with
  | .no => 0 | .poison => 1 | .watchdog => 2 | .vote => 3 | .bist => 4 | .boot => 4
/-- DIAG_BIST_READ for the common checks (R539). -/
def opDiagBistRead : JcsOp := { opcode := 0x0B31 }
/-- DIAG_BIST_READ (R539). -/
def diagBistReadBody (s : State) (r : Req) : Ans :=
  let d : DieId := if bit (r.word 0) 0 then .b else .a
  let c := fld (r.word 0) 11 8
  let x := (s.die d).cluster c
  let st := if x.retired ≠ .no then 3 else if x.spare || replaying s d c then 2
    else if (s.die d).restingCluster (c / 4) = some c then 1 else 0
  .ok s [put st 2 0 ||| putB (x.retired = .boot) 4 ||| put (retiredCode x.retired) 3 8 ||| put x.next 9 16 ||| (x.passed.setWidth 64 <<< 32),
    x.skipped.setWidth 64 ||| (x.aborted.setWidth 64 <<< 32), x.sets.setWidth 64 ||| put x.failSlice 9 32,
    BitVec.ofNat 64 x.setTime, BitVec.ofNat 64 x.retTime]
/-- DIAG_BIST_READ (R539). -/
def execDiagBistRead (r : Req) (s : State) : Host.Outcome State Fault Refusal := .next (jcs opDiagBistRead diagBistReadBody r s)

end Sys2Proof.Machine
end

