-- ==== Sys2Proof/Machine/TxnOps.lean ====
section
/-! DEFINITION. How transactions, hop calibrations and assignments go on: their ends by kind, TIME frames, checking a tile
against its committed configuration, configuring it (R183, R184, R204, R205, R222 to R227, R234, R240 to R246, R553). -/

namespace Sys2Proof.Machine

/-- The event source of a tile-link port (R195). -/
def portSource (p : Nat) : Nat := if p < 32 then 288 + p else 640 + p

/-- A tile event of the tile's canvas (R245). (DEDUCED, log entry 75) -/
def tileEvent (s : State) (t code : Nat) (rest : Word := 0) : State :=
  raise s (tileSource (s.canvasOf t)) code (put t 9 0 ||| rest) (tileFrame s t)

/-! ### Ends of transactions (R224, R234, R241, R242) -/

/-- DRIVE transactions that waited for these tiles start (R242). -/
def startWaiting (s : State) (tiles : List Nat) : State :=
  s.each (tiles.filter fun t => (s.tile t).driveWait && (s.tile t).assigned && (s.txnOn t).isNone) startDrive

/-- The canvas that places a tile: by a commit in effect, or by one pending on an idle canvas. -/
def placedOn (s : State) (t : Nat) : Option (Nat × CanvasCfg) :=
  match s.canvasOf t with
  | some c => some (c, (s.canvas c).committed)
  | none =>
    (below 4 fun c =>
      match (s.canvas c).pending with
      | some p => !(s.canvas c).running && p.cfg.tileIds.contains t
      | none => false).head?.bind fun c => (s.canvas c).pending.map fun p => (c, p.cfg)

/-- A tile of an idle canvas that was in a transaction at the commit receives the blocks it does not hold (R229, R239). -/
def stageIdle (s : State) (t : Nat) : State :=
  let x := s.tile t
  match placedOn s t with
  | some (c, cfg) =>
    let data := tileBlocks s cfg t
    if (s.canvas c).running || !x.assigned || x.awaitStatus || x.held.isSome || (s.txnOn t).isSome || data.isEmpty then s
    else startTxn s .raster (some c) 64 none [t] data 0 0
  | none => s

/-- What waits for tiles whose transaction has ended: their DRIVE, then the blocks of a commit (R229, R242). -/
def afterTxn (s : State) (x : Txn) (tiles : List Nat) : State :=
  let s1 := startWaiting s tiles
  if x.kind = .raster then s1 else s1.each tiles stageIdle

/-- The PLT words that wait for tile `t` and satisfy `p` take effect. -/
def waitsInForce (s : State) (t : Nat) (p : PltWait → Bool) : State :=
  let mine := fun (x : PltWait) => decide (x.tile = some t) && p x
  (s.each (s.plt.waits.filter mine) fun s x => putInForce s x.words).modPlt fun q => { q with waits := q.waits.filter fun x => !mine x }

/-- The PLT words that tile `t`'s DRIVE transaction carries take effect (R234); a change confirmed since it began waits for the next.
(DEDUCED, log entry 75) -/
def driveInForce (s : State) (t : Nat) : State := waitsInForce s t fun x => x.carried

/-- A change of the tile's drive waits for a DRIVE transaction that has not begun. -/
def driveLeft (s : State) (t : Nat) : Bool := s.plt.waits.any fun x => decide (x.tile = some t) && !x.carried

/-- A timing change ends (R222 step 8, R224): canvas event 0x04 of R219, and the completion of its command. -/
def endChange (s : State) (c status newFrame : Nat) (failed : List Nat) : State :=
  match (s.canvas c).change with
  | none => s
  | some ch =>
    let s1 := (if status = 0 then s else undueTables s c).modCanvas c fun x =>
      { x with change := none, chStatus := BitVec.ofNat 8 status, chFailed := failed }
    let s2 := raise s1 (112 + c) 4 (put status 8 0 ||| put newFrame 32 16) (s1.canvas c).frame
    if !ch.follow then finishLong s2 ch.src ch.id status
    else endFollow s2 (decide (status = 0))

/-! ### Firmware relay (R247, R517) -/

/-- These tiles of a relay have failed (R242, R517, R518). -/
def relayDrop (s : State) (tiles : List Nat) : State :=
  s.modFirmware fun f => { f with relay := f.relay.map fun x =>
    { x with waiting := x.waiting.filter fun t => !tiles.contains t
             tiles := x.tiles.filter fun t => !tiles.contains t
             failed := x.failed ++ x.tiles.filter fun t => tiles.contains t } }

/-- The next tile of a relay on a port is staged, one at a time (R247, R517). -/
def relayNext (s : State) (port : Nat) : State :=
  match s.firmware.relay with
  | none => s
  | some x =>
    let busy := s.links.txns.any fun y => y.inProgress && decide (y.kind = .fwImage) && (s.portsOf y.tiles).contains port
    match x.waiting.find? fun t => s.portsOf [t] = [port] with
    | none => s
    | some t =>
      if busy || (s.txnOn t).isSome then s
      else
        let s1 := s.modFirmware fun f => { f with relay := some { x with waiting := x.waiting.filter fun k => k ≠ t } }
        startTxn s1 .fwImage (s.canvasOf t) x.src none [t] ((chunks 1024 x.image.length x.image).map fun ws => (t, 0x10, ws)) 0 x.applyTime

/-- A relay's transaction has ended: the tiles that failed, and the next of its ports. -/
def relayGoesOn (s : State) (x : Txn) (failed : List Nat) : State :=
  if x.kind = .fwImage then (s.portsOf x.tiles).foldl relayNext (relayDrop s failed) else s

/-- A transaction fails before its COMMIT (R224, R234, R241): ABORT to every tile, and what follows for its kind. -/
def failTxn (s : State) (x : Txn) (failed : List Nat) : State :=
  let s1 := abortTxn s x failed
  match x.kind with
  | .drive =>
    s1.each x.tiles fun s t =>
      let s2 := carryWaits s t false
      if (s.tile t).driveTold then s2 else tileEvent (s2.modTile t fun y => { y with driveTold := true }) t 8
  | .timing =>
    afterTxn (match x.canvas with
      | some c => endChange s1 c 8 0 failed
      | none => s1) x x.tiles
  | _ => relayGoesOn (afterTxn s1 x x.tiles) x failed

/-- A committed transaction ends at its apply time (R224, R241): the tiles that have not answered COMMIT are listed, and for
all kinds but PREFS and FW_IMAGE stay in DMASK until they do. -/
def closeTxn (s : State) (x : Txn) : State :=
  let failed := x.tiles.filter fun t => !x.done.contains t
  let s1 := endTxn s x failed false
  let s2 := if x.kind = .prefs || x.kind = .fwImage then s1 else s1.each failed fun s t => s.modTile t fun y => { y with awaitResult := true }
  if x.kind = .drive then
    afterTxn (s2.each x.tiles fun s t => s.modTile t fun y => { y with driveWait := driveLeft s t, driveTold := false }) x x.tiles
  else relayGoesOn (afterTxn s2 x x.tiles) x failed

/-- Every tile has acknowledged (R240): COMMIT leaves. A DRIVE transaction without a running canvas takes effect now.
(DEDUCED, log entry 27) -/
def commitTxn (s : State) (x : Txn) : State :=
  let s1 := s.modTxn (fun y => y.same x && y.inProgress) fun y => { y with committed := true }
  let s2 := sendCommits s1 x
  if x.kind = .drive && decide (x.applyTime = 0) then s2.each x.tiles driveInForce else s2

/-- A tile applies the blocks of a transaction it has committed (R229). -/
def applyBlocks (s : State) (x : Txn) (t : Nat) : State :=
  s.each (x.parts t) fun s y =>
    s.modTile t fun z =>
      match y.1 with
      | 1 => { z with raster := some (wordAt y.2 0) }
      | 2 => { z with scan := some (wordAt y.2 0, wordAt y.2 1) }
      | 3 => { z with drive := some (wordAt y.2 0, wordAt y.2 1, wordAt y.2 2) }
      | 4 => { z with prefs := wordAt y.2 0, prefsNext := if z.prefsNext = some (wordAt y.2 0) then none else z.prefsNext }
      | _ => z

/-! ### Tiles on a port, TIME PING and hop calibration (R183, R184, R204) -/

/-- TIME PING by hop to a position (R184). -/
def sendPing (s : State) (p pos : Nat) : State := sendTime s p (1 + s.hopsTo p pos * 4096 + 65536) 0 0 false

/-- A hop calibration of position `pos` on port `p` starts with its first PING (R204, R205). -/
def startHop (s : State) (p pos : Nat) : State :=
  sendPing (s.modHop p pos fun h => { h with due := true, runs := [], sentAt := some s.wall }) p pos

/-- The ports that reach tile `t`. -/
def State.portsTo (s : State) (t : Nat) : List Nat :=
  match (s.tile t).map with
  | some m => (s.portDies m.port).map fun d => s.diePort d m.port
  | none => []

/-- The port on which the lead works on a tile (R227): the lead's in Twin mode, the only one in Span. -/
def State.leadPort (s : State) (port : Nat) : Nat := if s.span then port else s.diePort s.lead port

/-- The hop delays of a tile are calibrated on each of its ports (R205, R227 step 5). -/
def startHops (s : State) (t : Nat) : State := s.each (s.portsTo t) fun s p => startHop s p (s.posOf t)

/-! ### Holding back and configuring a tile (R227, R553) -/

/-- The cause for which CAPS hold back tile `t` (R553), if one does. -/
def capsCause (s : State) (t : Nat) (caps : Word) : Option Nat :=
  match (s.tile t).map with
  | none => none
  | some m =>
    let p := s.port (s.leadPort m.port)
    if p.rate = 2 && !bit caps 2 then some 1
    else if p.spread ≠ 0 && !bit caps 3 then some 2
    else
      match placedOn s t with
      | some (_, cfg) => if cfg.rgbw && !bit caps 4 then some 3 else none
      | none => none

/-- The cause for which a STATUS holds back tile `t` (R553), if one does. -/
def statusCause (s : State) (t : Nat) : Option Nat :=
  let x := s.tile t
  let place := placedOn s t
  let small := match place with
    | some (_, cfg) => (match cfg.place t with
      | some p => !reported x.pixMax fun m => decide (p.tw * p.th ≤ m)
      | none => false)
    | none => false
  let slow := match place with
    | some (_, cfg) => !reported x.gclkMax fun m => decide (fld (cfg.scanOf t) 39 32 ≤ m)
    | none => false
  if small then some 4 else if slow then some 5 else if iHwShort s t then some 6 else none

/-- The lead holds a tile back (R553): event 0x09, once for each cause. -/
def holdBack (s : State) (t cause : Nat) : State :=
  if (s.tile t).held = some cause then s
  else tileEvent (s.modTile t fun x => { x with held := some cause }) t 9 (put cause 3 16)

/-- ASSIGN by hop with the mapped tile (R227 step 3). -/
def assignTile (s : State) (t : Nat) : State :=
  match (s.tile t).map with
  | none => s
  | some m =>
    let p := s.leadPort m.port
    let s1 := sendTime s p (4 + s.hopsTo p m.pos * 4096 + 65536) 0 t false
    markTile (s1.modTile t fun x => { x with assigned := true, assigning := false, awaitStatus := true, held := none }) t

/-- The configuration blocks of a tile that it does not hold (R227 step 4, R229). -/
def blocksDue (s : State) (t : Nat) : List (Nat × Nat × List Word) :=
  let x := s.tile t
  let drive := driveWords s.plt.table t
  (match placedOn s t with
    | some (_, cfg) => tileBlocks s cfg t
    | none => []) ++
    (if bit (wordAt drive 1) 32 && x.drive ≠ some (wordAt drive 0, wordAt drive 1, wordAt drive 2) then [(t, 3, drive)] else []) ++
    (if x.prefs = ({} : Tile).prefs then [] else [(t, 4, [x.prefs])])

/-- A tile is staged with its configuration blocks (R227 step 4): they apply at once when its canvas does not run, else at
the next flip of R240. A tile in a transaction waits (R239). -/
def configureTile (s : State) (t : Nat) : State :=
  if (s.txnOn t).isSome then s
  else
    let s1 := s.modTile t fun x => { x with awaitStatus := false, held := none }
    let data := blocksDue s1 t
    let s2 := markTile s1 t
    if data.isEmpty then s2
    else
      match placedOn s t with
      | some (c, _) =>
        let cv := s.canvas c
        let n := cv.firstFrame (s.wall + 10000000)
        if cv.running then startTxn s2 .raster (some c) 64 none [t] data n (wallOf (cv.flipTime n))
        else startTxn s2 .raster (some c) 64 none [t] data 0 0
      | none => startTxn s2 .raster none 64 none [t] data 0 0

/-- What held tile `t` back is gone (R553): its reports fit the committed configuration. -/
def fitsNow (s : State) (t : Nat) : Bool :=
  let x := s.tile t
  match x.held, x.caps with
  | some k, some w => if k ≤ 3 then !x.assigned && (capsCause s t w).isNone else x.assigned && (statusCause s t).isNone
  | _, _ => false

/-- Tiles that were held back and now fit are configured (R553): from step 3 of R227, with the hop calibration of its step 5, or from
step 4. -/
def rejudge (s : State) : State :=
  s.each ((s.links.tiles.map fun x => x.1).filter (fitsNow s)) fun s t =>
    if (s.tile t).assigned then configureTile s t else startHops (assignTile s t) t

/-! ### Chain resets (R246) -/

/-- The tiles of a loop or chain have all been assigned and configured, or held back. (DEDUCED, log entry 62) -/
def chainSettled (s : State) (port : Nat) : Bool :=
  (s.portTiles port).all fun t => ((s.tile t).assigned && !(s.tile t).awaitStatus) || (s.tile t).held.isSome

/-- A chain reset ends (R246): event 0x05 with the tiles assigned, and the completion of its command. (DEDUCED, log entry 62) -/
def endChain (s : State) (j : ChainJob) : State :=
  let tiles := s.portTiles j.port
  let n := (tiles.filter fun t => (s.tile t).assigned).length
  let c := tiles.head?.bind s.canvasOf
  let s1 := s.modLinks fun l => { l with chains := l.chains.filter fun x => x.port ≠ j.port }
  let s2 := raise s1 (tileSource c) 5 (put j.port 6 0 ||| put n 8 8) (canvasFrame s1 c)
  finishLong s2 j.src j.id (if n = tiles.length then 0 else 8)

/-- Ends the chain reset of a port once its tiles have settled. -/
def settleChain (s : State) (port : Nat) : State :=
  match s.links.chains.find? fun j => j.port = port && j.begun with
  | some j => if chainSettled s port then endChain s j else s
  | none => s

end Sys2Proof.Machine
end

