-- ==== Sys2Proof/Machine/Tiles.lean ====
section
/-! DEFINITION. The tile commands and the time-driven steps of tile transactions and chain resets: TILE_MAP to PORT_CONFIG,
TILE_ASSIGN, STAGE_RESEND, STAGE_ACK_TIMEOUT, COMMIT_REPEAT, DRIVE_RETRY, TILE_STATUS_TIMEOUT, DIAG_PORT_READ
(R226 to R246, R334). -/

namespace Sys2Proof.Machine

/-! ### Reach of a port (R243, R244, R334) -/

/-- The function owns every tile mapped to a loop or chain; one with no mapped tile is any PF0's (R244). (DEDUCED, log entry 62) -/
def ownsPort (s : State) (who port : Nat) : Bool :=
  let l := s.portTiles port
  if l.isEmpty then s.principal who else l.all fun t => s.owns who 4 t

/-- The function owns a tile that the loop or chain carries (R334). (DEDUCED, log entry 62) -/
def seesPort (s : State) (who p : Nat) : Bool := decide (64 ≤ who) || (s.tilesAt p).any fun t => s.owns who 4 t

/-- PORT names a loop or chain (R226). -/
def State.portOk (s : State) (port : Nat) : Bool := decide (port < (if s.span then 64 else 32))

/-! ### TILE_MAP (R226) -/

/-- The map entry that a tile will hold after the next chain reset. -/
def Tile.mapLater (t : Tile) : Option MapEntry :=
  match t.mapNext with
  | some m => m
  | none => t.map

/-- A tile is placed on a canvas by a commit that has taken effect or is pending. -/
def placedAny (s : State) (t : Nat) : Bool :=
  (List.range 4).any fun c =>
    let x := s.canvas c
    x.committed.tileIds.contains t ||
      (match x.pending with
        | some p => p.cfg.tileIds.contains t
        | none => false) ||
      (match x.change with
        | some p => p.cfg.tileIds.contains t
        | none => false)

/-- TILE_MAP for the common checks (R243). -/
def opTileMap : JcsOp := { opcode := 0x0501, reach := tileReach }
/-- TILE_MAP (R226). -/
def tileMapBody (s : State) (r : Req) : Ans :=
  let t := reqTile r
  let port := fld (r.word 0) 14 9
  let pos := fld (r.word 0) 18 15
  let entry : Option MapEntry := if bit (r.word 0) 19 then some ⟨port, pos, r.word 1⟩ else none
  let old := (s.tile t).mapLater
  let moved := match old, entry with
    | none, _ => false
    | some _, none => true
    | some a, some b => decide (a.port ≠ b.port) || decide (a.pos ≠ b.pos)
  let taken := entry.isSome && (below 512 fun k => decide (k ≠ t) && (match (s.tile k).mapLater with
    | some m => decide (m.port = port) && decide (m.pos = pos)
    | none => false)) ≠ []
  if !s.portOk port || (s.span && decide (7 < pos)) then .badParam s
  else if taken || (moved && placedAny s t) then .conflict s
  else .ok (settingsDue (s.modTile t fun x => { x with mapNext := some entry }))
/-- TILE_MAP (R226). -/
def execTileMap (r : Req) (s : State) : Host.Outcome State Fault Refusal := .next (jcs opTileMap tileMapBody r s)

/-! ### TILE_PREFS, TILE_COMMIT, TILE_TXN_READ, TILE_READ (R236, R239 to R243) -/

/-- TILE_PREFS for the common checks (R243). -/
def opTilePrefs : JcsOp := { opcode := 0x0503, reach := tileReach }
/-- TILE_PREFS (R236): the block is staged for the tile. -/
def tilePrefsBody (s : State) (r : Req) : Ans :=
  let w := r.word 1
  if fld w 10 0 < 200 || 2000 < fld w 10 0 || 10000 < fld w 27 12 || 10000 < fld w 43 28 then .badParam s
  else .ok (s.modTile (reqTile r) fun x => { x with prefsNext := some (w &&& 0x00000FFFFFFFF7FF#64) })
/-- TILE_PREFS (R236). -/
def execTilePrefs (r : Req) (s : State) : Host.Outcome State Fault Refusal := .next (jcs opTilePrefs tilePrefsBody r s)

/-- The tiles that a TILE_COMMIT names. -/
def commitTiles (r : Req) : List Nat := maskTiles ((List.range 8).map r.word)

/-- TILE_COMMIT for the common checks (R243): it may name only the function's tiles. -/
def opTileCommit : JcsOp :=
  { opcode := 0x0504, long := true, reach := fun s r => (commitTiles r).all fun t => s.owns r.who 4 t }

/-- A PREFS transaction for the tiles of one canvas, or of none (R240). (DEDUCED, log entry 60) -/
def startPrefs (s : State) (src id : Nat) (tiles : List Nat) (c : Option Nat) : State :=
  let l := tiles.filter fun t => s.canvasOf t = c
  let data := l.map fun t => (t, 4, [((s.tile t).prefsNext).getD 0])
  if l.isEmpty then s
  else
    match c with
    | some k =>
      let cv := s.canvas k
      let n := cv.firstFrame (s.reqTime + 10000000)
      if cv.running then startTxn s .prefs c src (some id) l data n (wallOf (cv.flipTime n)) else startTxn s .prefs c src (some id) l data 0 0
    | none => startTxn s .prefs none src (some id) l data 0 0

/-- The PREFS of tiles that are held back are committed without a block (R553): each receives them when it is configured. -/
def heldPrefs (s : State) (tiles : List Nat) : State :=
  s.each tiles fun s t => s.modTile t fun x => { x with prefs := x.prefsNext.getD x.prefs, prefsNext := none }

/-- TILE_COMMIT (R239, R240, R242, R313, R473, R553): one transaction for each canvas that the named staged tiles stand on.
(DEDUCED, log entry 60) -/
def tileCommitBody (s : State) (r : Req) : Ans :=
  let named := commitTiles r
  let staged := named.filter fun t => (s.tile t).prefsNext.isSome
  let l := staged.filter fun t => (s.tile t).held.isNone
  let s0 := heldPrefs s (staged.filter fun t => (s.tile t).held.isSome)
  if s.clocks.power ≠ .run then .notReady s
  else if named.any fun t => (s.txnOn t).isSome || (match s.canvasOf t with
      | some c => (s.canvas c).change.isSome
      | none => false) then .busy s
  else if l.isEmpty then .ok (if r.check then s else s0)
  else if r.check then { Ans.accepted s with dry := true }
  else
    .accepted ([none, some 0, some 1, some 2, some 3].foldl (fun s c => startPrefs s r.who (s.nextLong r.who) l c) s0)
/-- TILE_COMMIT (R240). -/
def execTileCommit (r : Req) (s : State) : Host.Outcome State Fault Refusal := .next (jcs opTileCommit tileCommitBody r s)

/-- TILE_TXN_READ for the common checks (R243). -/
def opTileTxnRead : JcsOp := { opcode := 0x0505, reach := tileReach, zeros := fun _ _ => 10 }
/-- TILE_TXN_READ (R243): the last transaction that included the tile. -/
def tileTxnReadBody (s : State) (r : Req) : Ans :=
  match s.links.txns.find? fun x => x.tiles.contains (reqTile r) with
  | none => .ok s (List.replicate 10 0)
  | some x =>
    .ok s ([x.status.setWidth 64 ||| putB x.inProgress 8 ||| putB x.aborted 9 ||| put x.failed.length 10 16 ||| put x.xid.toNat 16 32,
      put x.frame 48 0] ++ maskWords x.failed)
/-- TILE_TXN_READ (R243). -/
def execTileTxnRead (r : Req) (s : State) : Host.Outcome State Fault Refusal := .next (jcs opTileTxnRead tileTxnReadBody r s)

/-- TILE_READ for the common checks (R243). -/
def opTileRead : JcsOp := { opcode := 0x0506, reach := tileReach, zeros := fun _ _ => 7 }
/-- TILE_READ (R243, R250): the newer of the dies' copies of the last STATUS. -/
def tileReadBody (s : State) (r : Req) : Ans :=
  match (s.tile (reqTile r)).newest with
  | none => .ok s (List.replicate 7 0)
  | some x =>
    .ok s (((List.range 6).map fun i => wordAt x.words i) ++ [put x.frame 48 0 ||| put (min 65535 ((s.uptime - x.at_) / 1000000)) 16 48])
/-- TILE_READ (R243). -/
def execTileRead (r : Req) (s : State) : Host.Outcome State Fault Refusal := .next (jcs opTileRead tileReadBody r s)

/-! ### PORT_CONFIG (R244) -/

/-- PORT of a PORT_CONFIG or CHAIN_RESET. -/
def reqPort (r : Req) : Nat := fld (r.word 0) 5 0
/-- PORT_CONFIG for the common checks (R244). -/
def opPortConfig : JcsOp :=
  { opcode := 0x0508, reach := fun s r => decide (64 ≤ r.who) || ownsPort s r.who (reqPort r), zeros := fun _ _ => 1 }
/-- The ports that a mapped port number sets (R156). -/
def State.portsFor (s : State) (port : Nat) : List Nat := if s.span then [port] else [port, port + 32]
/-- PORT_CONFIG (R156, R160, R244, R553): it takes effect at the next chain reset of the port. -/
def portConfigBody (s : State) (r : Req) : Ans :=
  let port := reqPort r
  let rate := fld (r.word 0) 7 6
  let spread := fld (r.word 0) 13 8
  let lacks := fun (b : Nat) => (s.portTiles port).any fun t => !reported ((s.tile t).caps.map BitVec.toNat) fun w => w.testBit b
  let load := ((List.range 4).map fun c => portLoad s port (s.canvas c).committed).sum
  if !s.portOk port || rate = 3 || 50 < spread || (rate = 2 && lacks 2) || (spread ≠ 0 && lacks 3) || !loadFits load (laneBps rate) then
    .badParam s
  else
    let s1 := s.each (s.portsFor port) fun s p =>
      s.modLinks fun l => { l with portNext := Tbl.set none l.portNext p (some (rate, spread)) }
    let x := s.port port
    .ok (settingsDue s1) [put port 6 0 ||| put x.rate 2 6 ||| put x.spread 6 8]
/-- PORT_CONFIG (R244). -/
def execPortConfig (r : Req) (s : State) : Host.Outcome State Fault Refusal := .next (jcs opPortConfig portConfigBody r s)

/-! ### CHAIN_RESET (R242, R243, R246) -/

/-- CHAIN_RESET for the common checks (R243, R244). -/
def opChainReset : JcsOp := { opcode := 0x0507, long := true, reach := fun s r => decide (64 ≤ r.who) || ownsPort s r.who (reqPort r) }

/-- A transaction in progress meets a chain reset of `port` (R242): PARTIAL, with its tiles on the port listed. One that is not committed
is aborted for all its tiles, so that none keeps it staged. (DEDUCED, log entry 62) -/
def cutTxn (s : State) (x : Txn) (port : Nat) : State :=
  let failed := x.tiles.filter fun t => (s.portTiles port).contains t
  let s1 := if x.committed || x.kind = .reset then endTxn s x failed false
    else
      let s1 := abortTxn s x failed
      match x.kind, x.canvas with
      | .timing, some c => endChange s1 c 8 0 failed
      | _, _ => s1
  afterTxn s1 x (x.tiles.filter fun t => !failed.contains t)

/-- CHAIN_RESET (R246): STAGE RESET by BCAST from every die that serves the port. -/
def chainResetBody (s : State) (r : Req) : Ans :=
  let port := reqPort r
  if !s.portOk port then .badParam s
  else
    let s1 := (s.links.chains.filter fun j => j.port = port).foldl (fun s j => finishLong s j.src j.id 8) s
    let s1 := relayDrop s1 (s1.portTiles port)
    let s2 := s1.each (s1.links.txns.filter fun x => x.inProgress && x.tiles.any fun t => (s1.portTiles port).contains t) fun s x => cutTxn s x port
    let l := s2.portTiles port
    let s3 := if l.isEmpty then
        let xid := (s2.port port).xid + 1
        sendMgmtAll (s2.modPort port fun x => { x with xid := xid }) port 4 [stageWord xid 0x11 0 1, 0]
      else startTxn s2 .reset none r.who none l (l.map fun t => (t, 0x11, [0])) 0 0
    let j : ChainJob := { src := r.who, id := s.nextLong r.who, port := port, committed := false, at_ := s.uptimeAt s.reqTime, begun := false }
    .accepted (s3.modLinks fun x => { x with chains := x.chains.filter (fun y => y.port ≠ port) ++ [j] })
/-- CHAIN_RESET (R246). -/
def execChainReset (r : Req) (s : State) : Host.Outcome State Fault Refusal := .next (jcs opChainReset chainResetBody r s)

/-- What the package knows of a tile after it has committed RESET (R246, R553), with its map entry in effect. -/
def Tile.afterReset (t : Tile) (m : Option MapEntry) : Tile :=
  { t with map := m, mapNext := none, assigned := false, assigning := false, awaitStatus := false, caps := none, serial := 0, held := none,
           statusA := none, statusB := none, raster := none, scan := none, drive := none, awaitResult := false, underruns := 0 }

/-- Entries of the map and settings of a port that wait for its chain reset take effect (R226, R244). Drive changes that waited for a tile
of the port take effect: the tile is configured anew (R227). (DEDUCED, log entry 75) -/
def takeMap (s : State) (port : Nat) : State :=
  let mine := below 512 fun t =>
    let x := s.tile t
    (match x.map with
      | some m => decide (m.port = port)
      | none => false) ||
    (match x.mapNext with
      | some (some m) => decide (m.port = port)
      | _ => false)
  let s1 := s.each mine fun s t => s.modTile t fun x =>
    match x.mapNext with
    | some (some m) => if m.port = port then x.afterReset (some m) else { x.afterReset x.map with mapNext := x.mapNext }
    | some none => x.afterReset none
    | none => x.afterReset x.map
  let s1 := s1.each mine fun s t => (waitsInForce s t fun _ => true).modTile t fun x => { x with driveWait := false }
  loadScrims (s1.each (s1.portsFor port) fun s p =>
    match Tbl.get none s.links.portNext p with
    | some (rate, spread) =>
      (s.modPort p fun x => { x with rate := rate, spread := spread }).modLinks fun l => { l with portNext := Tbl.set none l.portNext p none }
    | none => s) |> fun s => s.each (s.portsFor port) fun s p => s.modPort p fun x => { x with tx := s.portTx p }

/-- CHAIN_RESET_COMMIT (R246): 5 ms later COMMIT with APPLY_TIME 0, whether or not every tile has acknowledged. -/
def execChainResetCommit (port : Nat) (s : State) : Host.Outcome State Fault Refusal :=
  .next <|
    match s.links.chains.find? fun j => j.port = port && !j.committed with
    | none => s
    | some _ =>
      let s1 :=
        match s.links.txns.find? fun x => x.kind = .reset && x.inProgress && s.portsOf x.tiles = [port] with
        | some x => endTxn (sendCommits s x) x [] false
        | none => sendMgmtAll s port 5 [(s.port port).xid.setWidth 64, 0]
      let s2 := s1.modLinks fun l => { l with chains := l.chains.map fun j => if j.port = port then { j with committed := true } else j }
      takeMap s2 port

/-! ### TILE_ASSIGN (R227, R246) -/

/-- TILE_ASSIGN (R227): the lead pings every mapped position of the port by hop, in ascending order. After a chain reset
whose 2 s have passed, tiles that never answered stay unassigned and the reset completes. -/
def execTileAssign (port : Nat) (s : State) : Host.Outcome State Fault Refusal :=
  .next <|
    let s1 := s.each (s.portTiles port) fun s t =>
      sendPing (s.modTile t fun x => { x with assigning := true }) (s.leadPort port) (s.posOf t)
    match s1.links.chains.find? fun j => j.port = port && j.committed with
    | none => s1
    | some j =>
      if j.begun && decide (j.at_ + 2000000000 ≤ s1.uptime) then endChain s1 j
      else settleChain (s1.modLinks fun l => { l with chains := l.chains.map fun x => if x.port = port then { x with begun := true } else x }) port

/-! ### Time-driven steps of a transaction (R234, R240, R241) -/

/-- The transaction in flight with an XID that touches a port. -/
def State.txnAt (s : State) (xid port : Nat) : Option Txn :=
  s.links.txns.find? fun x => x.inProgress && decide (x.xid.toNat = xid) && (s.portsOf x.tiles).contains port

/-- STAGE_RESEND (R240): once, to each tile without a valid acknowledgement. -/
def execStageResend (xid port : Nat) (s : State) : Host.Outcome State Fault Refusal :=
  .next <|
    match s.txnAt xid port with
    | none => s
    | some x =>
      if x.committed || x.resent then s
      else
        (s.each (x.tiles.filter fun t => !x.acked.contains t) fun s t => sendStage s x t).modTxn (fun y => y.same x && y.inProgress)
          fun y => { y with resent := true }

/-- STAGE_ACK_TIMEOUT (R224, R240, R241): an acknowledgement is missing at the limit. (DESIGN CHOICE, log entry 43) -/
def execStageAckTimeout (xid port : Nat) (s : State) : Host.Outcome State Fault Refusal :=
  .next <|
    match s.txnAt xid port with
    | none => s
    | some x => if x.committed || x.kind = .reset then s else failTxn s x (x.tiles.filter fun t => !x.acked.contains t)

/-- COMMIT_REPEAT (R224, R240, R241): COMMIT again to each tile without RESULT 0 or 1; after the end of a PREFS transaction
for 100 ms more. One without a flip to apply at ends after 100 ms (DEDUCED, log entry 27). -/
def execCommitRepeat (xid port : Nat) (s : State) : Host.Outcome State Fault Refusal :=
  .next <|
    match s.links.txns.find? fun x => decide (x.xid.toNat = xid) && (s.portsOf x.tiles).contains port with
    | none => s
    | some x =>
      let l := x.tiles.filter fun t => !x.done.contains t
      if !x.committed || x.kind = .reset then s
      else if x.inProgress && decide (x.frame = 0) && decide (x.applyTime ≤ s.wall) && decide (x.stagedAt + 100000000 ≤ s.uptime) then
        closeTxn s x
      else if x.inProgress || (decide (x.kind = .prefs) && decide (s.wall ≤ x.applyTime + 100000000)) ||
          (!x.aborted && l.any fun t => (s.tile t).awaitResult) then s.each l fun s t => sendCommit s x t
      else s

/-- DRIVE_RETRY (R234): an aborted DRIVE transaction starts again. -/
def execDriveRetry (tile : Nat) (s : State) : Host.Outcome State Fault Refusal :=
  .next (if (s.tile tile).driveWait && (s.tile tile).assigned && (s.txnOn tile).isNone then startDrive s tile else s)

/-- TILE_STATUS_TIMEOUT (R245): event 0x02, once until the tile reports again. -/
def execTileStatusTimeout (tile : Nat) (s : State) : Host.Outcome State Fault Refusal :=
  .next <|
    if (s.tile tile).assigned && !(s.tile tile).quietSent then tileEvent (s.modTile tile fun x => { x with quietSent := true }) tile 2 else s

/-! ### DIAG_PORT_READ (R334) -/

/-- DIAG_PORT_READ for the common checks (R334). -/
def opDiagPortRead : JcsOp := { opcode := 0x0B03, reach := fun s r => seesPort s r.who (reqPort r), zeros := fun _ _ => 6 }
/-- Two 32-bit counters in a word. -/
def pair (lo hi : BitVec 32) : Word := lo.setWidth 64 ||| (hi.setWidth 64 <<< 32)
/-- DIAG_PORT_READ (R334). -/
def diagPortReadBody (s : State) (r : Req) : Ans :=
  let x := s.port (reqPort r)
  let rx := match x.rx with
    | .down => 0 | .locking => 1 | .aligned => 2 | .up => 3 | .upQuiet => 4
  let tx := match x.tx with
    | .on => 0 | .quiet => 1 | .off => 2
  .ok s [pair x.nInvalid x.nCorrected, pair x.nUncorr x.nOrigin, pair x.nStale x.nLateEcho, pair x.nUnderrun x.nMismatch,
    pair x.nRegions x.nFlips,
    put rx 3 0 ||| put tx 2 3 ||| putB x.rxSleep 5 ||| put x.preset 3 8 ||| put x.ctle 4 12 ||| put x.rate 2 16]
/-- DIAG_PORT_READ (R334). -/
def execDiagPortRead (r : Req) (s : State) : Host.Outcome State Fault Refusal := .next (jcs opDiagPortRead diagPortReadBody r s)

end Sys2Proof.Machine
end

