-- ==== Sys2Proof/Machine/CorrOps.lean ====
section
/-! DEFINITION. Correction banks: tile blocks and records, bank switches, repair and hashes (R108, R110, R113, R115 to R117,
R121, R122, R127 to R129, R131). -/

namespace Sys2Proof.Machine

/-- The active bank of a tile in a die. -/
def Corr.active (x : Corr) (d : DieId) : CorrBank := if x.active1 then (x.side d).bank1 else (x.side d).bank0
/-- The inactive bank of a tile in a die. -/
def Corr.idle (x : Corr) (d : DieId) : CorrBank := if x.active1 then (x.side d).bank0 else (x.side d).bank1
/-- `x` with a die's active bank changed by `f`. -/
def Corr.modActive (x : Corr) (d : DieId) (f : CorrBank → CorrBank) : Corr :=
  x.modSide d fun y => if x.active1 then { y with bank1 := f y.bank1 } else { y with bank0 := f y.bank0 }
/-- `x` with a die's inactive bank changed by `f`. -/
def Corr.modIdle (x : Corr) (d : DieId) (f : CorrBank → CorrBank) : Corr :=
  x.modSide d fun y => if x.active1 then { y with bank0 := f y.bank0 } else { y with bank1 := f y.bank1 }
/-- The dies that hold a tile's banks (R23, R121): both in Twin mode, the tile's own in Span mode; one held behind its fence takes no
load until its release (R261). -/
def corrDies (s : State) (t : Nat) : List DieId :=
  [DieId.a, DieId.b].filter fun d => (s.die d).running && (!s.span || (s.tileDies t).isEmpty || (s.tileDies t).contains d)
/-- The die whose banks stand for a tile: the first that holds them, the lead where there are two. -/
def corrDie (s : State) (t : Nat) : DieId :=
  let l := corrDies s t
  if l.contains s.lead then s.lead else l.headD s.lead

/-! ### The tile correction block (R108) -/

/-- A number of `n` bytes of a tile block at byte `a`. -/
def CorrBank.num (b : CorrBank) (a n : Nat) : Nat := ofLeBytes (memRead b.block a n)
/-- T_ij as a code of 2^-24 (R108). -/
def CorrBank.target (b : CorrBank) (i j : Nat) : Int := signed 32 (b.num (4 * (3 * i + j)) 4)
/-- WMIX. -/
def CorrBank.wmix (b : CorrBank) : Nat := b.num 36 2
/-- SPR_MODE. -/
def CorrBank.sprMode (b : CorrBank) : Nat := b.num 38 1 % 4
/-- T_EN. -/
def CorrBank.tEn (b : CorrBank) : Bool := (b.num 39 1).testBit 0
/-- CURVE_EN. -/
def CorrBank.curveEn (b : CorrBank) : Bool := (b.num 39 1).testBit 1
/-- L_p[k] of the transfer curve of primary `p`, or of the default curve (R108, R116). -/
def CorrBank.curve (b : CorrBank) (p k : Nat) : Nat :=
  if b.curveEn then b.num (64 + 514 * p + 2 * k) 2 else min (k * k) 65535

/-- A tile block that CORR_COMMIT accepts for a canvas with `np` primaries (R117, R127). -/
def CorrBank.blockOk (b : CorrBank) (np : Nat) : Bool :=
  decide (b.wmix ≤ 32768) && decide (b.sprMode ≠ 3) &&
    (!b.curveEn || (List.range np).all fun p =>
      b.curve p 0 == 0 && (List.range 256).all fun k => decide (b.curve p k ≤ b.curve p (k + 1)))

/-- The record size of a canvas (R110, R113). -/
def CanvasCfg.recSize (c : CanvasCfg) : Nat := if c.rgbw then 24 else 16

/-- The records of a bank do not match the primaries of the tile's canvas (R128); a bank never loaded matches. -/
def CorrBank.mismatch (b : CorrBank) (c : CanvasCfg) : Bool := decide (b.recSize ≠ 0) && decide (b.recSize ≠ c.recSize)

/-! ### Switching (R122, R128, R129, R131) -/

/-- The banks of a tile swap in both dies for frame `n` (R122): the hashes fall invalid, the master copy follows. -/
def switchBank (s : State) (t n : Nat) : State :=
  let d := corrDie s t
  markTile (s.modCorr t fun x =>
    { x with active1 := !x.active1, state := .clean, since := n, hvalid := false, master := x.idle d, mismatch := false,
             sideA := { x.sideA with poison := [] }, sideB := { x.sideB with poison := [] } }) t

/-- The canvas event for a tile whose record size does not match (R128), once. -/
def tellMismatch (s : State) (c t n : Nat) : State :=
  let x := s.corr t
  if (x.active (corrDie s t)).mismatch (s.canvas c).committed && !x.mismatch then
    raise (s.modCorr t fun y => { y with mismatch := true }) (116 + c) 2 (put t 9 0) n
  else s

/-- The tiles that are PENDING on canvas `c` for a frame up to `n`. -/
def pendingTiles (s : State) (c n : Nat) : List Nat :=
  (s.frames.corr.filter fun x =>
    match x.2.state with
    | .pending k f => decide (k = c) && decide (f ≤ n)
    | _ => false).map fun x => x.1

/-- Tiles that leave canvas `c` while they are PENDING on it are STAGING again (R122). -/
def leavePending (s : State) (c : Nat) (gone : List Nat) : State :=
  s.each gone fun s t => s.modCorr t fun x =>
    match x.state with
    | .pending k _ => if k = c then { x with state := .staging } else x
    | _ => x

/-- The tiles whose banks switch at frame `n` of canvas `c` (R122): PENDING for it and placed on it. -/
def switchTiles (s : State) (c n : Nat) : List Nat := (pendingTiles s c n).filter fun t => decide (s.canvasOf t = some c)

/-- The switches of frame `n` of canvas `c` (R122, R131); a tile that is not placed there is STAGING again. -/
def switchDue (s : State) (c n : Nat) : State :=
  let due := switchTiles s c n
  let gone := (pendingTiles s c n).filter fun t => !due.contains t
  let s1 := s.each due fun s t => switchBank s t n
  let s2 := if due.isEmpty then s1 else raise s1 (116 + c) 1 (put n 48 0 ||| put due.length 10 48) n
  let s3 := leavePending s2 c gone
  s3.each (s3.canvas c).committed.tileIds fun s t => tellMismatch s c t n

/-- The record lines that a die holds poisoned. -/
def Corr.poison (x : Corr) (d : DieId) : List Nat := (x.side d).poison

/-! ### Hashes (R129) -/

/-- The bytes of a tile's active record array: those of the bank's array, or, where none was ever loaded, of an array of zeros of the
raster of the canvas the tile is placed on. -/
def recordBytes (s : State) (t : Nat) (b : CorrBank) : List Byte :=
  let n := if b.arrSize ≠ 0 then b.arrSize else
    match s.canvasOf t, s.placement t with
    | some c, some p => p.tw * p.th * (s.canvas c).committed.recSize
    | _, _ => 0
  memRead b.recs 0 n

/-- The record hash and the block hash of a bank (R129). -/
def bankHashes (s : State) (t : Nat) (b : CorrBank) : BitVec 32 × BitVec 32 :=
  (crc32c (recordBytes s t b), crc32c (memRead b.block 0 2120))

/-- A tile on no canvas that holds no record array reads zeros for its hashes (R129). -/
def noHash (s : State) (t : Nat) : Bool := (s.canvasOf t).isNone && decide (((s.corr t).active (corrDie s t)).arrSize = 0)

/-- A tile's hashes are recomputed from a die's active bank (R129). -/
def hashTile (s : State) (d : DieId) (t : Nat) : State :=
  if noHash s t then s.modCorr t fun y => { y with recHash := 0, blkHash := 0, hvalid := false }
  else s.modCorr t fun y =>
    let h := bankHashes s t (y.active d)
    { y with recHash := h.1, blkHash := h.2, hvalid := true }

/-- The patrol pass over the record banks of a die recomputes every tile's hashes and compares them with the master copy's (R129, R448):
HVALID stays clear where they differ. (DESIGN CHOICE, log entry 91) -/
def patrolHashes (s : State) (d : DieId) : State :=
  s.each ((s.frames.corr.map fun x => x.1).filter fun t => (corrDies s t).contains d && !noHash s t) fun s t =>
    let s1 := hashTile s d t
    let m := bankHashes s t (s.corr t).master
    s1.modCorr t fun y => { y with hvalid := decide ((y.recHash, y.blkHash) = m) }

end Sys2Proof.Machine
end

