-- ==== Sys2Proof/Machine/Correction.lean ====
section
/-! DEFINITION. Correction loads and commands: RECORDS, TILE_BLOCK, CORRECTION_LOAD_DONE, CORR_COMMIT, CORR_HASH, CORR_PROBE,
CORR_PROBE_READ, RECORD_REPAIR and HASH_RECOMPUTE (R122 to R131). -/

namespace Sys2Proof.Machine

/-! ### Correction descriptors (R123 to R125) -/

/-- TILE of a correction descriptor. -/
def corrTile (d : Desc) : Nat := fld d.w0 24 16
/-- LENGTH of a correction descriptor. -/
def corrLen (d : Desc) : Nat := fld d.w0 63 32
/-- OFFSET of a correction descriptor. -/
def corrOff (d : Desc) : Nat := fld d.w2 31 0

/-- The canvas configuration that sizes a tile's records (R124): of the canvas on which it is staged, the lowest-numbered of two, else
placed. (DESIGN CHOICE, log entry 126) -/
def corrCfg (s : State) (t : Nat) : Option (CanvasCfg × Placement) :=
  let staged := (below 4 fun c => (s.canvas c).staged.tileIds.contains t).head?
  match staged with
  | some c => (s.canvas c).staged.place t |>.map fun p => ((s.canvas c).staged, p)
  | none => (placedOn s t).bind fun x => (x.2.place t).map fun p => (x.2, p)

/-- The LOADED completion (R125). -/
def corrCompletion (s : State) (d : Desc) (status : Nat) (trunc : Bool) (bytes : Nat) : Desc :=
  ⟨ctWord 0x10 status (put (corrTile d) 9 16 ||| putB trunc 25), BitVec.ofNat 64 s.wall, put bytes 32 0, d.w3⟩

/-- A vote still needs the bank that is now inactive (R270): it was active in a frame with an open vote. -/
def bankNeeded (s : State) (t : Nat) : Bool :=
  s.dies.twin.votes.any fun v => !v.ended && decide (v.tile = t) && decide (v.frame < (s.corr t).since)

/-- Bytes of the array or block that a descriptor writes. -/
def corrRoom (records : Bool) (x : CanvasCfg × Placement) : Nat := if records then x.2.tw * x.2.th * x.1.recSize else 2120

/-- A load lands in an inactive bank (R124): a record array of another record or array size restarts with zeros. (DEDUCED, log entry 28) -/
def corrWrite (b : CorrBank) (records : Bool) (recSize arrSize off : Nat) (bytes : List Byte) : CorrBank :=
  if records then
    let base := if b.recSize = recSize && b.arrSize = arrSize then b else { b with recSize := recSize, arrSize := arrSize, recs := [] }
    { base with recs := memWrite base.recs off bytes }
  else { b with block := memWrite b.block off bytes }

/-- A load lands in the inactive bank of every die that holds the tile (R121). -/
def landLoad (s : State) (t : Nat) (l : CorrLoad) (bytes : List Byte) : State :=
  (corrDies s t).foldl (fun s d => s.modCorr t fun y =>
    y.modIdle d fun b => corrWrite b (fld l.desc.w0 7 0 = 0x10) l.recSize l.arrSize (corrOff l.desc) (bytes.take l.len)) s

/-- A correction descriptor by the rules of R124 in order. (DEDUCED, log entry 74) -/
def corrDescriptor (s : State) (g : Nat) (d : Desc) (records : Bool) : State :=
  let t := corrTile d
  if fld d.w0 7 0 ≠ (if records then 0x10 else 0x11) || decide ((s.ring g).type ≠ 2) || s.hub.cpFailed || bankNeeded s t then s
  else
    match takeOrdered s g d with
    | none => s
    | some (s1, k) =>
      let who := (s1.ring g).owner
      let n := corrLen d
      let done := fun (s : State) (status : Nat) => finishOrdered s g k (corrCompletion s d status false 0)
      if !s1.owns who 4 t then done (violate s1 who) 0
      else if n = 0 then done s1 0
      else if n = 0xFFFFFFFF then done s1 3
      else
        match corrCfg s1 t with
        | none => done s1 5
        | some x =>
          let unit := if records then x.1.recSize else 2
          match (s1.corr t).state with
          | .pending _ _ => done s1 2
          | st =>
            if corrOff d % unit ≠ 0 || n % unit ≠ 0 then done s1 4
            else
              let room := corrRoom records x - corrOff d
              let cut := decide (room < n)
              let len := min n room
              let copy := fun (s : State) (e : DieId) => s.modCorr t fun y => y.modIdle e fun _ => y.active e
              let s2 := ((if st = .clean then (corrDies s1 t).foldl copy s1 else s1)).modCorr t fun y => { y with state := .staging }
              let l : CorrLoad := { ring := g, ticket := k, desc := d, len := len, trunc := cut, recSize := x.1.recSize, arrSize := corrRoom true x }
              if len = 0 then
                let s3 := landLoad s2 t l []
                finishOrdered s3 g k (corrCompletion s3 d 0 true 0)
              else (readHost s2 who d.w1 len).modCorr t fun y => { y with loads := y.loads ++ [l] }

/-- RECORDS (R122 to R124). -/
def execRecords (ring : Nat) (d : Desc) (s : State) : Host.Outcome State Fault Refusal := .next (corrDescriptor s ring d true)
/-- TILE_BLOCK (R122 to R124). -/
def execTileBlock (ring : Nat) (d : Desc) (s : State) : Host.Outcome State Fault Refusal := .next (corrDescriptor s ring d false)

/-- The configuration of canvas `c` at frame `n` (R127). -/
def cfgAt (s : State) (c n : Nat) : CanvasCfg :=
  match (s.canvas c).change, (s.canvas c).pending with
  | some ch, _ => if ch.m + 2 ≤ n then ch.cfg else (s.canvas c).committed
  | none, some p => if p.frame ≤ n then p.cfg else (s.canvas c).committed
  | none, none => (s.canvas c).committed

/-- The inactive blocks of a PENDING tile stay as CORR_COMMIT accepts them for the canvas as it is at the tile's frame (R127). -/
def blockStays (s : State) (t : Nat) : Bool :=
  match (s.corr t).state with
  | .pending c n => (corrDies s t).all fun d => ((s.corr t).idle d).blockOk (cfgAt s c n).np
  | _ => true

/-- CORRECTION_LOAD_DONE (R122, R124, R125, R127, R310): the oldest load of a tile is complete in both dies, or its read failed. A load
whose staging has ended writes nothing, nor does one that would spoil the block of a tile already PENDING. (DEDUCED, log entry 28) -/
def execCorrectionLoadDone (tile : Nat) (pull : Pull) (s : State) : Host.Outcome State Fault Refusal :=
  .next <|
    match (s.corr tile).loads with
    | [] => s
    | l :: rest =>
      if bankNeeded s tile || s.hub.cpFailed then s
      else
        let s1 := s.modCorr tile fun x => { x with loads := rest }
        let busy := finishOrdered s1 l.ring l.ticket (corrCompletion s1 l.desc 2 l.trunc 0)
        match pull, (s1.corr tile).state with
        | .failed, _ => finishOrdered s1 l.ring l.ticket (corrCompletion s1 l.desc 7 l.trunc 0)
        | .data _, .clean => busy
        | .data bytes, st =>
          let s2 := landLoad s1 tile l bytes
          if st ≠ .staging && !blockStays s2 tile then busy
          else finishOrdered s2 l.ring l.ticket (corrCompletion s2 l.desc 0 l.trunc l.len)

/-! ### CORR_COMMIT (R126, R127) -/

/-- The configuration whose tiles a CORR_COMMIT on a canvas that is not running takes (R127): the pending one, else the committed one,
else, where none has been committed, the staged one that sized the loads (R124). (DEDUCED, log entry 85) -/
def idleCfg (cv : Canvas) : CanvasCfg :=
  match cv.pending with
  | some p => p.cfg
  | none => if cv.committed.tileIds.isEmpty then cv.staged else cv.committed

/-- CORR_COMMIT for the common checks (R126). -/
def opCorrCommit : JcsOp := { opcode := 0x0601, reach := canvasReach, zeros := fun _ _ => 2 }
/-- CORR_COMMIT (R122, R126, R127, R131, R225, R313, R473): the first failing tile is that of the placement list, and DISCARD
takes the tiles that the canvas has at frame N. (DEDUCED, log entry 85) (DESIGN CHOICE, log entry 125) -/
def corrCommitBody (s : State) (r : Req) : Ans :=
  let c := reqCanvas r
  let cv := s.canvas c
  let n := cv.landing (s.reqTime + 1000000)
  let cfg := if cv.running then cfgAt s c n else idleCfg cv
  let staging := cfg.tileIds.filter fun t => decide ((s.corr t).state = .staging) && (cv.running || (s.canvasOf t).all fun k => k = c)
  if s.clocks.power ≠ .run then .notReady s
  else if bit (r.word 0) 8 then
    let s1 := s.each staging fun s t => s.modCorr t fun x => { x with state := .clean }
    .ok (if r.check then s else s1) [0, put staging.length 10 0]
  else
    match staging.find? fun t => !((s.corr t).idle (corrDie s t)).blockOk cfg.np with
    | some t => { status := 4, state := s, payload := [0, put t 9 16 ||| putB true 25] }
    | none =>
      if cv.running then
        let s1 := s.each staging fun s t => s.modCorr t fun x => { x with state := .pending c n }
        .ok (if r.check then s else s1) [put n 48 0, put staging.length 10 0]
      else
        let s1 := s.each staging fun s t => switchBank s t 0
        let s2 := if staging.isEmpty then s1 else raise s1 (116 + c) 1 (put staging.length 10 48)
        .ok (if r.check then s else s2) [0, put staging.length 10 0]
/-- CORR_COMMIT (R127). -/
def execCorrCommit (r : Req) (s : State) : Host.Outcome State Fault Refusal := .next (jcs opCorrCommit corrCommitBody r s)

/-! ### CORR_HASH, CORR_PROBE, CORR_PROBE_READ (R126, R129, R130) -/

/-- CORR_HASH for the common checks (R126). -/
def opCorrHash : JcsOp := { opcode := 0x0602, reach := tileReach, zeros := fun _ _ => 3 }
/-- CORR_HASH (R126). -/
def corrHashBody (s : State) (r : Req) : Ans :=
  let x := s.corr (reqTile r)
  let st := match x.state with
    | .clean => 0 | .staging => 1 | .pending _ _ => 2
  let none' := noHash s (reqTile r)
  let recHash := if none' then 0 else x.recHash
  let blkHash := if none' then 0 else x.blkHash
  .ok s [recHash.setWidth 64 ||| putB (x.hvalid && !none') 32 ||| putB x.active1 33 ||| put st 2 34, blkHash.setWidth 64, put x.since 48 0]
/-- CORR_HASH (R126). -/
def execCorrHash (r : Req) (s : State) : Host.Outcome State Fault Refusal := .next (jcs opCorrHash corrHashBody r s)

/-- CORR_PROBE for the common checks (R126, R130). -/
def opCorrProbe : JcsOp := { opcode := 0x0603, long := true, reach := tileReach }
/-- CORR_PROBE (R130). (DEDUCED, log entry 29) -/
def corrProbeBody (s : State) (r : Req) : Ans :=
  let t := reqTile r
  let u := fld (r.word 0) 25 16
  let v := fld (r.word 0) 41 32
  match s.canvasOf t, s.placement t with
  | some c, some p =>
    if p.tw ≤ u || p.th ≤ v then .badParam s
    else
      let x : Probe := { id := s.nextLong r.who, canvas := c, tile := t, u := u, v := v, die := if bit (r.word 0) 48 then .b else .a,
                         frame := fld (r.word 1) 47 0 }
      .accepted (s.modFunc r.who fun f => { f with probes := f.probes ++ [x] }) false (some c)
  | _, _ => .notReady s
/-- CORR_PROBE (R130). -/
def execCorrProbe (r : Req) (s : State) : Host.Outcome State Fault Refusal := .next (jcs opCorrProbe corrProbeBody r s)

/-- CORR_PROBE_READ for the common checks (R130). -/
def opCorrProbeRead : JcsOp := { opcode := 0x0604 }
/-- CORR_PROBE_READ (R130): the sender's own capture, the one taken last. (DEDUCED, log entry 29) -/
def corrProbeReadBody (s : State) (r : Req) : Ans :=
  .ok s ((s.func r.who).capture.getD (List.replicate 12 0))
/-- CORR_PROBE_READ (R130). -/
def execCorrProbeRead (r : Req) (s : State) : Host.Outcome State Fault Refusal := .next (jcs opCorrProbeRead corrProbeReadBody r s)

/-! ### RECORD_REPAIR, HASH_RECOMPUTE (R129, R131) -/

/-- The regions of a placement whose records share a 64-byte line. -/
def lineRegions (p : Placement) (recSize line : Nat) : List Nat :=
  let a := line * 64 / recSize
  let b := (line * 64 + 63) / recSize
  (below p.regions fun i =>
    let (x0, y0, w, h) := p.rect i
    (List.range (b + 1 - a)).any fun k =>
      let u := (a + k) % p.tw
      let v := (a + k) / p.tw
      decide (x0 ≤ u) && decide (u < x0 + w) && decide (y0 ≤ v) && decide (v < y0 + h))

/-- A bank with a 64-byte line of its record array taken from another. -/
def repairLine (b src : CorrBank) (line : Nat) : CorrBank :=
  { b with recs := memWrite b.recs (64 * line) (memRead src.recs (64 * line) 64) }

/-- RECORD_REPAIR (R129, R131): a damaged line is rewritten from the other die's bank in Twin mode, or from the hub's master
copy; it waits while the hub is failed and the other die absent. The withheld regions are marked. -/
def execRecordRepair (die : DieId) (tile line : Nat) (s : State) : Host.Outcome State Fault Refusal :=
  .next <|
    let x := s.corr tile
    let peer := s.twin && s.up die.other && !(x.poison die.other).contains line
    if !(x.poison die).contains line || (!peer && s.hub.cpFailed) then s
    else
      let src := if peer then x.active die.other else x.master
      let s1 := s.modCorr tile fun y => (y.modActive die fun b => repairLine b src line).modSide die fun z =>
        { z with poison := z.poison.filter fun k => k ≠ line }
      match s1.canvasOf tile, s1.placement tile with
      | some c, some p =>
        let s2 := raise s1 (116 + c) 3 (put tile 9 0 ||| put die.num 1 16) (s1.canvas c).frame
        let cfg := (s2.canvas c).committed
        if (x.active die).mismatch cfg then s2
        else s2.each (lineRegions p cfg.recSize line) fun s i => markRegion s c tile i (s.canvas c).next
      | _, _ => s1

/-- HASH_RECOMPUTE (R129): the hashes of the active bank. A tile on no canvas without a record array reads as zeros. -/
def execHashRecompute (tile : Nat) (s : State) : Host.Outcome State Fault Refusal := .next (hashTile s (corrDie s tile) tile)

end Sys2Proof.Machine
end

