-- ==== Sys2Proof/Machine/Tables.lean ====
section
/-! DEFINITION. LUT and mesh tables: LUT_LOAD, MESH_LOAD, TABLE_LOAD_COMPLETE; DIAG_LAYER_READ (R85, R94, R95, R97, R332,
R333). -/

namespace Sys2Proof.Machine

/-- The points of a mesh (R95). -/
def CanvasCfg.meshPoints (c : CanvasCfg) : Nat :=
  (ceilDiv c.width (2 ^ c.meshStep) + 1) * (ceilDiv c.height (2 ^ c.meshStep) + 1)

/-- The size of a table by the staged configuration (R85, R94, R95, R332); 0 for a layer with ILUT = 0 or reserved. -/
def tableSize (s : State) (t : TableId) : Nat :=
  match t with
  | .inLut l => (match (s.layer l).staged.lIlut with
    | 1 => 39304
    | 2 => 287496
    | _ => 0)
  | .outLut _ => 2197000
  | .mesh c => (s.canvas c).staged.meshPoints * 4

/-- The canvas whose commit activates a table. -/
def tableCanvas (s : State) (t : TableId) : Nat :=
  match t with
  | .inLut l => (s.layer l).staged.lCanvas
  | .outLut c => c
  | .mesh c => c

/-- A pending commit is about to activate the inactive bank (R97). -/
def tablePending (s : State) (t : TableId) : Bool := (s.table t).due.isSome

/-- Starts a table load (R97, R318, R332): the table is pulled from host memory into the inactive bank. LENGTH 0
for a table of no size, as that of a layer with ILUT 0, is BADPARAM. (DEDUCED, log entry 64) (DESIGN CHOICE, log entry 124) -/
def tableLoad (s : State) (r : Req) (t : TableId) : Ans :=
  let n := fld (r.word 2) 31 0
  let size := tableSize s t
  if n = 0xFFFFFFFF then .badLen s
  else if size = 0 then .badParam s
  else if n = 0 then .ok s
  else if tablePending s t then .busy s
  else
    let cut := decide (size < n)
    let l : LutLoad := { src := r.who, id := s.nextLong r.who, addr := r.word 1, length := min n size, trunc := cut }
    let s1 := match (s.table t).load with
      | some old => finishLong s old.src old.id 0
      | none => s
    .accepted ((readHost s1 r.who l.addr l.length).modTable t fun b =>
      { b with load := some l, fresh := true, loaded0 := b.loaded0 && !b.active1, loaded1 := b.loaded1 && b.active1 }) cut
      (some (tableCanvas s t))

/-- The table that LUT_LOAD names. -/
def lutTable (r : Req) : TableId := if bit (r.word 0) 0 then .outLut (fld (r.word 0) 9 8) else .inLut (fld (r.word 0) 7 4)
/-- LUT_LOAD for the common checks (R332). -/
def opLutLoad : JcsOp :=
  { opcode := 0x0406, long := true,
    reach := fun s r => if bit (r.word 0) 0 then s.owns r.who 3 (fld (r.word 0) 9 8) else s.owns r.who 5 (fld (r.word 0) 7 4) }
/-- LUT_LOAD (R97, R332). -/
def lutLoadBody (s : State) (r : Req) : Ans := tableLoad s r (lutTable r)
/-- LUT_LOAD (R97). -/
def execLutLoad (r : Req) (s : State) : Host.Outcome State Fault Refusal := .next (jcs opLutLoad lutLoadBody r s)

/-- MESH_LOAD for the common checks (R332). -/
def opMeshLoad : JcsOp := { opcode := 0x0407, long := true, reach := fun s r => s.owns r.who 3 (fld (r.word 0) 9 8) }
/-- MESH_LOAD (R97, R332). -/
def meshLoadBody (s : State) (r : Req) : Ans := tableLoad s r (.mesh (fld (r.word 0) 9 8))
/-- MESH_LOAD (R97). -/
def execMeshLoad (r : Req) (s : State) : Host.Outcome State Fault Refusal := .next (jcs opMeshLoad meshLoadBody r s)

/-- Every mesh point lies within ±256.0 (R95, R97). -/
def meshInRange (bytes : List Byte) : Bool :=
  (chunks 2 bytes.length bytes).all fun c => decide ((signed 16 (ofLeBytes c)).natAbs ≤ 16384)

/-- TABLE_LOAD_COMPLETE (R97, R270, R310): the load in flight ends. While a vote needs the canvas's banks it waits.
(DEDUCED, log entry 64) -/
def execTableLoadComplete (table : TableId) (pull : Pull) (s : State) : Host.Outcome State Fault Refusal :=
  .next <|
    match (s.table table).load with
    | none => s
    | some l =>
      if s.hub.cpFailed || s.dies.twin.votes.any fun v => !v.ended && decide (v.canvas = tableCanvas s table) then s
      else
        let s1 := s.modTable table fun b => { b with load := none }
        match pull with
        | .failed => finishLong s1 l.src l.id 7
        | .data bytes =>
          let d := bytes.take l.length
          let isMesh := match table with
            | .mesh _ => true
            | _ => false
          if isMesh && !meshInRange d then finishLong s1 l.src l.id 4
          else
            finishLong (s1.modTable table fun b =>
              if b.active1 then { b with bank0 := memWrite b.bank0 0 d, loaded0 := true }
              else { b with bank1 := memWrite b.bank1 0 d, loaded1 := true }) l.src l.id 0

/-- DIAG_LAYER_READ for the common checks (R333). -/
def opDiagLayerRead : JcsOp := { opcode := 0x0B02, reach := fun s r => s.owns r.who 5 (reqLayer r), zeros := fun _ _ => 3 }
/-- DIAG_LAYER_READ (R104, R333). -/
def diagLayerReadBody (s : State) (r : Req) : Ans :=
  let x := s.layer (reqLayer r)
  let st : Nat × Nat := match x.state with
    | .disabled => (0, 0) | .absent => (1, 0) | .showing => (2, 0) | .repeating k => (3, k) | .transparent => (4, 0)
  let live := Tbl.get x.staged (s.canvas x.canvas).committed.layers (reqLayer r)
  .ok s [x.nRepeat.setWidth 64 ||| (x.nTransp.setWidth 64 <<< 32), put st.1 3 0 ||| put st.2 8 8 ||| put live.lSlot 5 16,
    put x.changedAt 48 0]
/-- DIAG_LAYER_READ (R333). -/
def execDiagLayerRead (r : Req) (s : State) : Host.Outcome State Fault Refusal := .next (jcs opDiagLayerRead diagLayerReadBody r s)

end Sys2Proof.Machine
end

