-- ==== Sys2Proof/Machine/Transfer.lean ====
section
/-! DEFINITION. Transfer functions and colour matrices (R78, R83, R84, R93, R94, R418): the formulas and coefficients of the standards
that the rules name (PRESUMED, log entry 98), computed in fixed point to a unit of Q1.23, and the firmware's tables of them, which
depart from the formula by at most 2^-13 (R78). -/

namespace Sys2Proof.Machine

/-- 1.0 in Q1.23. -/
def one23 : Nat := 8388608

/-- An RGB triple. -/
abbrev Rgb := Nat × Nat × Nat

/-- A triple changed channel by channel. -/
def rgbMap (f : Nat → Nat) (c : Rgb) : Rgb := (f c.1, f c.2.1, f c.2.2)

/-! ### The microcode that computes a frame (R119, R512) -/

/-- The microcode that a die runs (R119, R512). -/
def State.microcode (s : State) : DieId → Word
  | .a => s.firmware.mcRunA
  | .b => s.firmware.mcRunB

/-- The running image in the flash (R500). -/
def State.runImage (s : State) : Option Image := if s.hub.fwSlotB then s.firmware.imageB else s.firmware.imageA
/-- The microcode digest of the running image (R510, R512). -/
def State.imageMicrocode (s : State) : Word := (s.runImage.map fun x => x.microcode).getD 0
/-- The microcode that a die computes canvas `c` with (R512): the new one once the canvas has passed its frame K. -/
def State.microcodeOn (s : State) (c : Nat) (d : DieId) : Word := if (s.canvas c).mcNew then s.imageMicrocode else s.microcode d

/-! ### Powers in fixed point: values with 64 fractional bits, logarithms with 48 -/

/-- 1.0 with 64 fractional bits. -/
def oneQ : Nat := 2 ^ 64

/-- The next `n` fractional bits of log2 of `m` / 2^64, for 1 ≤ `m` / 2^64 < 2, after `acc`. -/
def log2Bits : Nat → Nat → Nat → Nat
  | 0, _, acc => acc
  | n + 1, m, acc =>
    let q := m * m / oneQ
    if 2 * oneQ ≤ q then log2Bits n (q / 2) (2 * acc + 1) else log2Bits n q (2 * acc)

/-- log2 of `x` / 2^64 in units of 2^-48, for `x` not 0. -/
def log2Q (x : Nat) : Int :=
  let e := Nat.log2 x
  ((e : Int) - 64) * 2 ^ 48 + log2Bits 48 (x * oneQ / 2 ^ e) 0

/-- The terms of exp(`y` / 2^64) from number `j` on, `t` being the last one, `n` of them. -/
def expTerms (y : Nat) : Nat → Nat → Nat → Nat
  | 0, _, _ => 0
  | n + 1, j, t =>
    let u := t * y / oneQ / j
    u + expTerms y n (j + 1) u

/-- 2 to the power `t` / 2^48, with 64 fractional bits; 12786308645202655660 is ln 2. -/
def exp2Q (t : Int) : Nat :=
  let k := t / 2 ^ 48
  let m := oneQ + expTerms ((t % 2 ^ 48).toNat * 65536 * 12786308645202655660 / oneQ) 24 1 oneQ
  if 0 ≤ k then m * 2 ^ k.toNat else m / 2 ^ (-k).toNat

/-- (`x` / 2^64) to the power `num` / `den`, with 64 fractional bits. -/
def powQ (x : Nat) (num den : Int) : Nat := if x = 0 then 0 else exp2Q (log2Q x * num / den)

/-- Q1.23 to 64 fractional bits. -/
def wide (v : Nat) : Nat := v * 2 ^ 41

/-- 64 fractional bits to Q1.23, rounded and held to 0 to 1.0 (R78). -/
def narrow (v : Nat) : Nat := min one23 (roundDiv v (2 ^ 41))

/-! ### The formulas -/

/-- E^2.4 (ITU-R BT.1886; R84, R93). (PRESUMED, log entry 98) -/
def pow24F (v : Nat) : Nat := narrow (powQ (wide v) 12 5)

/-- x^(1/2.4) (R84, R418). (PRESUMED, log entry 98) -/
def root24F (v : Nat) : Nat := narrow (powQ (wide v) 5 12)

/-- The ST 2084 EOTF: signal to luminance in units of 10,000 nits (R84, R93, R94). (PRESUMED, log entry 98) -/
def pqEotfF (v : Nat) : Nat :=
  let p := powQ (wide v) 32 2523
  narrow (powQ ((p - 107 * oneQ / 128) * oneQ / (2413 * oneQ / 128 - 2392 * p / 128)) 16384 2610)

/-- The ST 2084 inverse EOTF (R84, R94). (PRESUMED, log entry 98) -/
def pqInverseF (v : Nat) : Nat :=
  let y := powQ (wide v) 2610 16384
  narrow (powQ ((107 * oneQ / 128 + 2413 * y / 128) * oneQ / (oneQ + 2392 * y / 128)) 2523 32)

/-- A decimal constant of `n` / 10^8 with 64 fractional bits. -/
def dec8 (n : Nat) : Nat := n * oneQ / 100000000

/-- The HLG inverse OETF (ITU-R BT.2100; R84): a = 0.17883277, b = 0.28466892, c = 0.55991073; 1 / ln 2 = 1.44269504.
(PRESUMED, log entry 98) -/
def hlgInverseOetfF (v : Nat) : Nat :=
  let e := wide v
  if 2 * v ≤ one23 then narrow (e * e / (3 * oneQ))
  else narrow ((exp2Q (((e : Int) - dec8 55991073) * 14426950408889634 * 2 ^ 48 / (1788327700000000 * (oneQ : Int))) + dec8 28466892) / 12)

/-- The HLG OETF (ITU-R BT.2100; R418). (PRESUMED, log entry 98) -/
def hlgOetfF (v : Nat) : Nat :=
  let e := wide v
  if 12 * v ≤ one23 then narrow (powQ (3 * e) 1 2)
  else narrow (log2Q (12 * e - dec8 28466892) * 65536 * 17883277 * 69314718056 / 10000000000000000000 + dec8 55991073).toNat

/-- The system gamma of a nominal peak in nits (ITU-R BT.2100), in units of 2^-48: 1.2 + 0.42 log10(peak / 1,000) from 400 to 2,000 nits,
1.2 × 1.111^log2(peak / 1,000) outside. (PRESUMED, log entry 98) -/
def hlgGamma (peak : Nat) : Int :=
  let l := log2Q (peak * oneQ / 1000)
  if 400 ≤ peak && peak ≤ 2000 then 12 * 2 ^ 48 / 10 + l * 42 * 30102999566398 / 10000000000000000
  else (exp2Q (log2Q (1111 * oneQ / 1000) * l / 2 ^ 48) * 12 / 10 / 65536 : Nat)

/-- Y^γ, Y being relative to the peak (the OOTF of ITU-R BT.2100 on its luminance; R84). (DESIGN CHOICE, log entry 122) -/
def ootfF (peak v : Nat) : Nat := narrow (powQ (wide v) (hlgGamma peak) (2 ^ 48))

/-- Y^(1/γ) (the inverse OOTF; R418). -/
def inverseOotfF (peak v : Nat) : Nat := narrow (powQ (wide v) (2 ^ 48) (hlgGamma peak))

/-! ### The firmware's tables (R78) -/

/-- The knots on either side of the input `v`, among the `n` segments of a table that begin at `lo` (R78): the knots rise from 0 to 1.0,
and the firmware chooses where the inner ones lie. (DESIGN CHOICE, log entry 7) -/
def segmentOf (mc : Word) (table param v : Nat) : Nat → Nat → Nat × Nat
  | 0, lo => (lo, one23)
  | n + 1, lo =>
    let hi := if n = 0 then one23 else max (lo + 1) (min (one23 - n) (Config.transferKnot mc table param (1024 - n)))
    if v < hi then (lo, hi) else segmentOf mc table param v n hi

/-- What the firmware's table of 1,024 segments gives for the formula `f` (R78): linear between the formula's values at the 1,025 knots, and
at most 2^-13 from the formula. (DESIGN CHOICE, log entry 7) -/
def tabled (mc : Word) (table param : Nat) (f : Nat → Nat) (v : Nat) : Nat :=
  let k := segmentOf mc table param v 1024 0
  let y := (roundDivI (((f k.2 : Int) - f k.1) * ((v : Int) - k.1)) (k.2 - k.1) + f k.1).toNat
  min one23 (max (f v - 1024) (min (f v + 1024) y))

/-- E^2.4 by table. -/
def pow24 (mc : Word) (v : Nat) : Nat := tabled mc 0 0 pow24F v
/-- x^(1/2.4) by table. -/
def root24 (mc : Word) (v : Nat) : Nat := tabled mc 1 0 root24F v
/-- The ST 2084 EOTF by table. -/
def pqEotf (mc : Word) (v : Nat) : Nat := tabled mc 2 0 pqEotfF v
/-- The ST 2084 inverse EOTF by table. -/
def pqInverse (mc : Word) (v : Nat) : Nat := tabled mc 3 0 pqInverseF v

/-- The luminance that BT.2100 gives three linear values. -/
def hlgLuma (c : Rgb) : Nat := min one23 (roundDiv (2627 * c.1 + 6780 * c.2.1 + 593 * c.2.2) 10000)

/-- Three HLG signals to luminances in nits × 2^23 (R84): the inverse OETF and the OOTF for a nominal peak, each by table: that of the
OOTF gives Y^γ of the luma Y, and each channel is scaled by it over Y. (DESIGN CHOICE, log entry 122) -/
def hlgDecode (mc : Word) (peak : Nat) (c : Rgb) : Rgb :=
  let e := rgbMap (tabled mc 4 0 hlgInverseOetfF) c
  let y := hlgLuma e
  let g := tabled mc 5 peak (ootfF peak) y
  rgbMap (fun v => if y = 0 then 0 else min one23 (roundDiv (v * g) y) * peak) e

/-- Three luminances in nits × 2^23 to HLG signals (R418): the inverse OOTF and the OETF, each by table. (DESIGN CHOICE, log entry 122) -/
def hlgEncode (mc : Word) (peak : Nat) (c : Rgb) : Rgb :=
  let f := rgbMap (fun v => min one23 (roundDiv v peak)) c
  let y := hlgLuma f
  let g := tabled mc 6 peak (inverseOotfF peak) y
  let e := rgbMap (fun v => if y = 0 then 0 else min one23 (roundDiv (v * g) y)) f
  rgbMap (tabled mc 7 0 hlgOetfF) e

/-! ### Matrices (R83, R84) -/

/-- The coefficients of a conversion of primaries × 10,000: `true` from BT.709 to BT.2020 (ITU-R BT.2087). (PRESUMED, log entry 98) -/
def primaries (to2020 : Bool) : List (List Int) :=
  if to2020 then [[6274, 3293, 433], [691, 9195, 114], [164, 880, 8956]]
  else [[16605, -5876, -728], [-1246, 11329, -83], [-182, -1006, 11187]]

/-- Three linear values in the other primaries; negative results become 0 (R84). -/
def toPrimaries (to2020 : Bool) (c : Rgb) : Rgb :=
  let row := fun (i : Nat) =>
    let m := (primaries to2020).getD i []
    (roundDivI (m.getD 0 0 * c.1 + m.getD 1 0 * c.2.1 + m.getD 2 0 * c.2.2) 10000).toNat
  (row 0, row 1, row 2)

/-- Kr and Kb of a YCbCr matrix × 10,000: `true` BT.2020 non-constant luminance, else BT.709 (R83, R418). (PRESUMED, log entry 98) -/
def lumaWeights (bt2020 : Bool) : Int × Int := if bt2020 then (2627, 593) else (2126, 722)

/-- YCbCr to RGB as 16-bit codes (R77, R83): matrix, range, bit depth, the luma code and the chroma codes times 64. Codes of black and of
zero chroma and the spans of luma and chroma are those of the standards: narrow range 16 to 235 and 16 to 240 of 8 bits, full range all
codes with zero chroma at half of them. Codes are values × 65,535 to nearest, ties up. (PRESUMED, log entry 98)
(DESIGN CHOICE, log entry 120) -/
def yccToCodes (bt2020 full : Bool) (bits y : Nat) (cb cr : Int) : List Int :=
  let k : Int := 2 ^ (bits - 8)
  let oy : Int := if full then 0 else 16 * k
  let ry : Int := if full then 256 * k - 1 else 219 * k
  let rc : Int := if full then 256 * k - 1 else 224 * k
  let kr := (lumaWeights bt2020).1
  let kb := (lumaWeights bt2020).2
  let kg := 10000 - kr - kb
  let b := cb - 64 * 128 * k
  let r := cr - 64 * 128 * k
  let base := 64 * rc * 10000 * ((y : Int) - oy)
  let code := fun (n d : Int) => max 0 (min 65535 (roundDivI (n * 65535) d.toNat))
  let den := 64 * rc * 10000 * ry
  [code (base + 2 * (10000 - kr) * ry * r) den,
   code (base * kg - ry * (2 * kb * (10000 - kb) * b + 2 * kr * (10000 - kr) * r)) (den * kg),
   code (base + 2 * (10000 - kb) * ry * b) den]

end Sys2Proof.Machine
end

