-- ==== Sys2Proof/Machine/Compose.lean ====
section
/-! DEFINITION. Composition, stages 1 to 7: from source buffers to the linear value of a canvas pixel (R77 to R96). Channels
and alpha are Q1.23 numbers, 2^23 standing for 1.0 (R78). -/

namespace Sys2Proof.Machine

/-- Two triples combined channel by channel. -/
def rgbZip (f : Nat → Nat → Nat) (a b : Rgb) : Rgb := (f a.1 b.1, f a.2.1 b.2.1, f a.2.2 b.2.2)

/-- A product of Q1.23 values, rounded and clamped by R78. -/
def mul23 (a b : Nat) : Nat := min one23 (roundDiv (a * b) one23)

/-! ### binary16 (R40, R96) -/

/-- A binary16 in units of 2^-24; infinities and NaN are open (DESIGN CHOICE, log entry 6). -/
def halfVal (h : Nat) : Int :=
  let m := h % 1024
  let e := h / 1024 % 32
  let v : Nat := if e = 0 then m else if e = 31 then (if m = 0 then Config.halfInf (decide (32768 ≤ h)) else Config.halfNan (BitVec.ofNat 16 h))
    else (1024 + m) * 2 ^ (e - 1)
  if 32768 ≤ h && e ≠ 31 then -(v : Int) else v

/-- A magnitude in units of 2^-24 as binary16, to nearest even (R96). -/
def halfEven (n : Nat) : Nat :=
  let k := Nat.log2 n - 10
  let q := n / 2 ^ k
  let r := n % 2 ^ k
  if k = 0 then n else if 2 ^ k < 2 * r || (2 * r = 2 ^ k && q % 2 = 1) then (q + 1) * 2 ^ k else q * 2 ^ k

/-- The value `n / d` in units of 2^-24 as binary16, to nearest, ties up, in one rounding (R86). -/
def halfUp (n : Int) (d : Nat) : Int :=
  let k := Nat.log2 (n.natAbs / d) - 10
  roundDivI n (d * 2 ^ k) * 2 ^ k

/-! ### Stage 1: unpacking (R40, R83) -/

/-- Two bytes of a buffer. -/
def half16 (m : Tbl Byte) (a : Nat) : Nat := ofLeBytes (memRead m a 2)

/-- A 16-bit code of an RGB value of `n` bits by RANGE (R83): the value × 65,535 to nearest, ties up. (DESIGN CHOICE, log entry 120) -/
def rgbCode (full : Bool) (n c : Nat) : Int :=
  if full then roundDiv (c * 65535) (2 ^ n - 1)
  else
    let k := 2 ^ (n - 8)
    min 65535 (roundDiv ((c - 16 * k) * 65535) (219 * k))

/-- Luma and chroma of a stored YCbCr line position, in the container's value bits times 16 (8 bits: times 256) (R40, R83). -/
def lumaAt (x : Slot) (m : Tbl Byte) (px py : Nat) : Nat :=
  match x.format with
  | 4 => half16 m (py * x.stride + px * 4) / 64
  | 5 => (Tbl.get 0 m (py * x.stride + px)).toNat
  | _ => half16 m (py * x.stride + px * 2) / 64

/-- The chroma sample `cr` (0 Cb, 1 Cr) of chroma column `cx` in stored chroma row `cy`. -/
def chromaAt (x : Slot) (m : Tbl Byte) (cr cx cy : Nat) : Nat :=
  match x.format with
  | 4 => half16 m (cy * x.stride + (2 * cx + cr) * 4 + 2) / 64
  | 5 => (Tbl.get 0 m ((x.height + cy) * x.stride + 2 * cx + cr)).toNat
  | _ => half16 m ((x.height + cy) * x.stride + (2 * cx + cr) * 2) / 64

/-- Chroma of luma column `px` in stored chroma row `cy`, times 16: the taps (-1, 9, 9, -1) / 16 at odd columns, the edges of the crop
replicated (R81, R83). -/
def chromaCol (x : Slot) (l : Desc) (m : Tbl Byte) (cr px cy : Nat) : Int :=
  let lo : Int := l.cropX / 2
  let hi : Int := (l.cropX + l.cropW) / 2 - 1
  let at' := fun (i : Int) => (chromaAt x m cr (max lo (min hi i)).toNat cy : Int)
  let i : Int := px / 2
  if px % 2 = 0 then 16 * at' i else 9 * (at' i + at' (i + 1)) - at' (i - 1) - at' (i + 2)

/-- Chroma of a luma pixel, times 64: rows of 4:2:0 take 3/4 of the nearer and 1/4 of the farther chroma row, the edges of the crop
replicated (R81, R83). -/
def chromaPix (x : Slot) (l : Desc) (m : Tbl Byte) (cr px py : Nat) : Int :=
  if x.format = 4 then 4 * chromaCol x l m cr px py
  else
    let near := py / 2
    let far := if py % 2 = 0 then max (l.cropY / 2) (near - 1) else min ((l.cropY + l.cropH) / 2 - 1) (near + 1)
    3 * chromaCol x l m cr px near + chromaCol x l m cr px far

/-- The 16-bit codes of source pixel (px, py), or its binary16 values in units of 2^-24 for FORMAT 7: R, G, B, A
(R77 stage 1). -/
def sourcePixel (x : Slot) (l : Desc) (m : Tbl Byte) (px py : Nat) : List Int :=
  match x.format with
  | 0 =>
    let a := py * x.stride + px * 4
    ([0, 1, 2].map fun i => rgbCode l.lFull 8 (Tbl.get 0 m (a + i)).toNat) ++ [65535]
  | 1 =>
    let w := ofLeBytes (memRead m (py * x.stride + px * 4) 4)
    ([0, 1, 2].map fun i => rgbCode l.lFull 10 (w / 2 ^ (10 * i) % 1024)) ++ [65535]
  | 2 =>
    let a := py * x.stride + px * 8
    ([0, 1, 2].map fun i => rgbCode l.lFull 12 (half16 m (a + 2 * i) / 16)) ++ [65535]
  | 3 =>
    let a := py * x.stride + px * 8
    ([0, 1, 2].map fun i => rgbCode l.lFull 16 (half16 m (a + 2 * i))) ++ [65535]
  | 7 =>
    let a := py * x.stride + px * 8
    [0, 1, 2, 3].map fun i => halfVal (half16 m (a + 2 * i))
  | _ =>
    yccToCodes l.lYcc2020 l.lFull (if x.format = 5 then 8 else 10) (lumaAt x m px py) (chromaPix x l m 0 px py) (chromaPix x l m 1 px py) ++
      [65535]

/-! ### Stage 2: crop, rotation, scaling (R80, R81, R86) -/

/-- Where pixel (i, j) of a `w` × `h` picture rotated clockwise by `rot` stands in it, the nearest edge pixel for one outside (R79, R81). -/
def unrotate (rot w h : Nat) (i j : Int) : Nat × Nat :=
  let rw := if rot % 2 = 1 then h else w
  let rh := if rot % 2 = 1 then w else h
  let a := min (rw - 1) i.toNat
  let b := min (rh - 1) j.toNat
  match rot with
  | 0 => (a, b)
  | 1 => (b, h - 1 - a)
  | 2 => (w - 1 - a, h - 1 - b)
  | _ => (w - 1 - b, a)

/-- `n / d` rounded to nearest, ties up, in the stored container: a 16-bit code or binary16 (R77, R86). -/
def stored (half : Bool) (n : Int) (d : Nat) : Int := if half then halfUp n d else max 0 (min 65535 (roundDivI n d))

/-- The box size of an axis of `r` source pixels over `d` destination pixels (R86). -/
def boxSize (r d : Nat) : Nat := if r ≤ 2 * d then 1 else if r ≤ 4 * d then 2 else 4

/-- The boxes along the crop's own axes (R86): width and height. -/
def cropBoxes (l : Desc) : Nat × Nat :=
  let a := boxSize l.rw' l.dstW
  let b := boxSize l.rh' l.dstH
  if l.lRot % 2 = 1 then (b, a) else (a, b)

/-- The box (i, j) of the crop, averaged; one that the crop's right or bottom edge cuts averages what it holds (R86). -/
def boxMean (x : Slot) (l : Desc) (m : Tbl Byte) (i j : Nat) : List Int :=
  let (bx, by') := cropBoxes l
  if bx = 1 && by' = 1 then sourcePixel x l m (l.cropX + i) (l.cropY + j)
  else
    let xs := below l.cropW fun k => k / bx = i
    let ys := below l.cropH fun k => k / by' = j
    let px := ys.flatMap fun k => xs.map fun h => sourcePixel x l m (l.cropX + h) (l.cropY + k)
    (List.range 4).map fun c => stored (x.format = 7) ((px.map fun p => p.getD c 0).sum) px.length

/-- Averaged pixel (i, j) of the rotated crop: the boxes stand on the crop as it is stored, and the picture of their averages is rotated
(R86). (DEDUCED, log entry 81) -/
def averaged (x : Slot) (l : Desc) (m : Tbl Byte) (i j : Int) : List Int :=
  let (bx, by') := cropBoxes l
  let c := unrotate l.lRot (ceilDiv l.cropW bx) (ceilDiv l.cropH by') i j
  boxMean x l m c.1 c.2

/-- The position of destination pixel `k` in averaged pixels in Q16.16, rounded to nearest, ties up (R81, R86): half a unit of p is kept
until then. (DESIGN CHOICE, log entry 119) -/
def position (k r d : Nat) : Int :=
  let b := boxSize r d
  roundDivI ((2 * k + 1) * roundDiv (r * 65536) d - 65536 - ((b : Int) - 1) * 65536) (2 * b)

/-- The taps of FILTER at a position: averaged pixel and weight, with the weights' sum (R79, R86); halfway between two pixels FILTER 2 takes the
higher. (DESIGN CHOICE, log entry 8) (DESIGN CHOICE, log entry 123) -/
def taps (filter : Nat) (p : Int) : List (Int × Int) × Nat :=
  let i := p / 65536
  let f := p % 65536
  match filter with
  | 2 => ([((p + 32768) / 65536, 1)], 1)
  | 1 => ([(i, 65536 - f), (i + 1, f)], 65536)
  | _ => ((List.range 8).map fun (t : Nat) => (i - 3 + (t : Int), Config.sincTap (f / 1024).toNat t), 16384)

/-- The channels of a layer at its destination pixel (dx, dy) (R81, R86): read directly when it is not scaled.
(DESIGN CHOICE, log entry 8) -/
def layerSample (x : Slot) (l : Desc) (m : Tbl Byte) (dx dy : Nat) : List Int :=
  if !l.scaled then sourcePixel x l m (l.cropX + dx) (l.cropY + dy)
  else
    let tx := taps l.lFilter (position dx l.rw' l.dstW)
    let ty := taps l.lFilter (position dy l.rh' l.dstH)
    (List.range 4).map fun c =>
      let sum := (ty.1.map fun b => (tx.1.map fun a => a.2 * b.2 * (averaged x l m a.1 b.1).getD c 0).sum).sum
      stored (x.format = 7) sum (tx.2 * ty.2)

/-! ### 3D LUTs (R85, R94) -/

/-- The lattice corner and fraction of a coordinate `c` (Q1.23) in a cube of `n` points a side. -/
def lutCoord (n c : Nat) : Nat × Nat :=
  let p := c * (n - 1)
  let i := min (n - 2) (p / one23)
  (i, p - i * one23)

/-- The corners and weights of tetrahedral interpolation (R85): along the axes in falling order of their fractions. -/
def tetra (fr fg fb : Nat) : List ((Nat × Nat × Nat) × Nat) :=
  let path := fun (a b c : (Nat × Nat × Nat) × Nat) =>
    let p1 := a.1
    let p2 := rgbZip (· + ·) p1 b.1
    [((0, 0, 0), one23 - a.2), (p1, a.2 - b.2), (p2, b.2 - c.2), ((1, 1, 1), c.2)]
  let r := ((1, 0, 0), fr)
  let g := ((0, 1, 0), fg)
  let b := ((0, 0, 1), fb)
  if fg ≤ fr then (if fb ≤ fg then path r g b else if fb ≤ fr then path r b g else path b r g)
  else (if fb ≤ fr then path g r b else if fb ≤ fg then path g b r else path b g r)

/-- The value of a 3D LUT of `n` points a side at (r, g, b): entries of 8 bytes whose channels begin at the bits of `at'`
and hold codes out of `full` (R85, R94). -/
def lutValue (m : Tbl Byte) (n : Nat) (at' : Nat → Nat) (full : Nat) (c : Rgb) : Rgb :=
  let (ri, rf) := lutCoord n c.1
  let (gi, gf) := lutCoord n c.2.1
  let (bi, bf) := lutCoord n c.2.2
  let ch := fun (k : Nat) =>
    let sum := ((tetra rf gf bf).map fun y =>
      let i := ((bi + y.1.2.2) * n + (gi + y.1.2.1)) * n + (ri + y.1.1)
      y.2 * (ofLeBytes (memRead m (8 * i) 8) / 2 ^ at' k % (full + 1))).sum
    min one23 (roundDiv sum full)
  (ch 0, ch 1, ch 2)

/-- The active bank of a table. -/
def LutBanks.active (b : LutBanks) : Tbl Byte := if b.active1 then b.bank1 else b.bank0

/-! ### Stage 3: layer conversion (R84, R85) -/

/-- A channel of stage 1 or 2 as Q1.23 (R78). -/
def channel23 (half : Bool) (v : Int) : Nat :=
  if half then min one23 (roundDivI v 2).toNat else min one23 (roundDiv (v.toNat * one23) 65535)

/-- Luminance of a source-encoded colour in nits × 2^23, in the source's primaries (R84), by the tables of microcode `mc`. The
product with the nits is neither rounded nor clamped. (DESIGN CHOICE, log entry 121) -/
def decodeTransfer (mc : Word) (cfg : CanvasCfg) (l : Desc) (c : Rgb) : Rgb :=
  match l.lTf with
  | 0 => rgbMap (fun v => pow24 mc v * cfg.sdrNits) c
  | 1 => rgbMap (fun v => pqEotf mc v * 10000) c
  | 2 => hlgDecode mc cfg.hlgPeak c
  | _ => rgbMap (fun v => v * cfg.sdrNits) c

/-- Luminance in the canvas primaries (R84): negative results become 0. -/
def toCanvasPrimaries (cfg : CanvasCfg) (l : Desc) (c : Rgb) : Rgb :=
  if l.lCs2020 = cfg.bt2020 then c else toPrimaries cfg.bt2020 c

/-- Luminance to WORK (R84). (DESIGN CHOICE, log entry 121) -/
def encodeWork (mc : Word) (cfg : CanvasCfg) (lum : Nat) : Nat :=
  match cfg.work with
  | 0 => pqInverse mc (min one23 (roundDiv lum 10000))
  | 1 => root24 mc (min one23 (roundDiv lum cfg.sdrNits))
  | _ => min one23 (roundDiv lum cfg.fullNits)

/-- Premultiplied WORK colour and alpha of a layer at a pixel (R84, R85). -/
def convertLayer (s : State) (mc : Word) (cfg : CanvasCfg) (n : Nat) (l : Desc) (half : Bool) (px : List Int) : Rgb × Nat :=
  let ch := fun (i : Nat) => channel23 half (px.getD i 0)
  let pa := if l.lAlpha = 0 then one23 else ch 3
  let raw : Rgb := (ch 0, ch 1, ch 2)
  let col := if l.lAlpha = 2 then rgbMap (fun v => if pa = 0 then 0 else min one23 (roundDiv (v * one23) pa)) raw else raw
  let work :=
    if l.lIlut = 0 then rgbMap (encodeWork mc cfg) (toCanvasPrimaries cfg l (decodeTransfer mc cfg l col))
    else lutValue (s.table (.inLut n)).active (if l.lIlut = 1 then 17 else 33) (fun k => 16 * k) 65535 col
  let alpha := min one23 (roundDiv (l.lGalpha * pa) 1024)
  (rgbMap (fun v => mul23 v alpha) work, alpha)

/-! ### Stages 4 and 5: blending and linear light (R90 to R93) -/

/-- What a frame order names for the layers of a canvas: layer, slot and buffer. -/
abbrev Named := List (Nat × Nat × Nat)

/-- The layers that a frame order names with a buffer. -/
def FrameOrder.named (o : FrameOrder) (d : DieId) : Named := (o.choicesOf d).filterMap fun c => c.buf.map fun b => (c.layer, c.slot, b)

/-- Layer `n` at canvas pixel (x, y) in die `d`: nothing where it is not named or does not reach (R80, R103). -/
def layerAt (s : State) (d : DieId) (cfg : CanvasCfg) (named : Named) (n x y : Nat) : Option (Rgb × Nat) :=
  match named.find? fun c => c.1 = n with
  | none => none
  | some (_, k, b) =>
    let l := Tbl.get ⟨0, 0, 0, 0⟩ cfg.layers n
    match layerRect cfg l with
    | none => none
    | some (x0, y0, x1, y1) =>
      if x < x0 || x1 ≤ x || y < y0 || y1 ≤ y then none
      else
        let slot := s.slot k
        some (convertLayer s (s.microcodeOn (l.lCanvas) d) cfg n l (slot.format = 7)
          (layerSample slot l (s.bufMem d k b) ((x : Int) - l.dstX).toNat ((y : Int) - l.dstY).toNat))

/-- A layer over what lies below it (R90). -/
def over' (a : Rgb × Nat) (res : Rgb) : Rgb := rgbZip (fun c r => min one23 (c + mul23 r (one23 - a.2))) a.1 res

/-- A op B of the blend tree (R92); reserved operators never pass check 10. -/
def blendOp (op : Nat) (a b : Rgb × Nat) : Rgb × Nat :=
  let ia := one23 - a.2
  let ib := one23 - b.2
  let al := min one23 (a.2 + mul23 b.2 ia)
  match op with
  | 0 => (rgbZip (fun x y => min one23 (x + mul23 y ia)) a.1 b.1, al)
  | 1 => (rgbZip (fun x y => min one23 (x + y)) a.1 b.1, min one23 (a.2 + b.2))
  | 2 => (rgbZip (fun x y => min one23 (mul23 x y + mul23 x ib + mul23 y ia)) a.1 b.1, al)
  | _ => (rgbZip max a.1 b.1, max a.2 b.2)

/-- One byte of the blend program on its stack (R91). -/
def blendByteStep (leaf : Nat → Rgb × Nat) (st : List (Rgb × Nat)) (b : Nat) : List (Rgb × Nat) :=
  if b < 128 then leaf (b % 16) :: st
  else
    match st with
    | a :: c :: rest => blendOp (b % 8) a c :: rest
    | _ => st

/-- The background in WORK encoding (R73). -/
def background (cfg : CanvasCfg) : Rgb :=
  let ch := fun (i : Nat) => roundDiv (fld (cfg.cw 2) (16 * i + 15) (16 * i) * one23) 65535
  (ch 0, ch 1, ch 2)

/-- The blended WORK colour of canvas pixel (x, y) (R90, R91). -/
def blendAt (s : State) (d : DieId) (cfg : CanvasCfg) (named : Named) (x y : Nat) : Rgb :=
  if cfg.tree then
    let leaf := fun (n : Nat) => (layerAt s d cfg named n x y).getD ((0, 0, 0), 0)
    match cfg.blendProg.foldl (blendByteStep leaf) [] with
    | top :: _ => over' top (background cfg)
    | [] => background cfg
  else
    (List.range 16).foldl (fun res n =>
      match layerAt s d cfg named n x y with
      | some a => over' a res
      | none => res) (background cfg)

/-- Stage 5 on one channel: linear value relative to FULL_NITS (R93), by the tables of microcode `mc`. -/
def linear (mc : Word) (cfg : CanvasCfg) (w : Nat) : Nat :=
  let lum := match cfg.work with
    | 0 => pqEotf mc w * 10000
    | 1 => pow24 mc w * cfg.sdrNits
    | _ => w * cfg.fullNits
  min one23 (roundDiv lum cfg.fullNits)

/-! ### Stages 6 and 7: mesh warp and output LUT (R94 to R96) -/

/-- A displacement of the mesh at canvas pixel (x, y), axis 0 DX or 1 DY, in units of 2^-(6 + 2k) pixels (R95). -/
def meshAt (s : State) (c : Nat) (cfg : CanvasCfg) (axis x y : Nat) : Int :=
  let k := cfg.meshStep
  let cols := ceilDiv cfg.width (2 ^ k) + 1
  let m := (s.table (.mesh c)).active
  let pt := fun (i j : Nat) => signed 16 (half16 m (4 * (j * cols + i) + 2 * axis))
  let i := x / 2 ^ k
  let j := y / 2 ^ k
  let fx := x % 2 ^ k
  let fy := y % 2 ^ k
  let gx := 2 ^ k - fx
  let gy := 2 ^ k - fy
  (gx * gy : Nat) * pt i j + (fx * gy : Nat) * pt (i + 1) j + (gx * fy : Nat) * pt i (j + 1) + (fx * fy : Nat) * pt (i + 1) (j + 1)

/-- The composed canvas at (x, y), held as binary16 in units of 2^-24; the background outside the canvas (R95, R96). -/
def composedHalf (s : State) (d : DieId) (mc : Word) (cfg : CanvasCfg) (named : Named) (x y : Int) : Rgb :=
  if x < 0 || y < 0 || (cfg.width : Int) ≤ x || (cfg.height : Int) ≤ y then rgbMap (fun v => 2 * linear mc cfg v) (background cfg)
  else rgbMap (fun v => halfEven (2 * linear mc cfg v)) (blendAt s d cfg named x.toNat y.toNat)

/-- The warped value of canvas pixel (x, y) (R95). -/
def warpAt (s : State) (d : DieId) (c : Nat) (cfg : CanvasCfg) (named : Named) (x y : Nat) : Rgb :=
  let u : Nat := 2 ^ (6 + 2 * cfg.meshStep)
  let px := (x : Int) * u + meshAt s c cfg 0 x y
  let py := (y : Int) * u + meshAt s c cfg 1 x y
  let i := px / (u : Int)
  let j := py / (u : Int)
  let fx := (px % (u : Int)).toNat
  let fy := (py % (u : Int)).toNat
  let at' := composedHalf s d (s.microcodeOn c d) cfg named
  let mix := fun (f : Rgb → Nat) =>
    min one23 (roundDiv ((u - fx) * (u - fy) * f (at' i j) + fx * (u - fy) * f (at' (i + 1) j) + (u - fx) * fy * f (at' i (j + 1)) +
      fx * fy * f (at' (i + 1) (j + 1))) (2 * u * u))
  (mix fun r => r.1, mix fun r => r.2.1, mix fun r => r.2.2)

/-- Stage 7 (R94): the output LUT, indexed by the PQ signal of each channel. -/
def outputLut (s : State) (mc : Word) (c : Nat) (cfg : CanvasCfg) (v : Rgb) : Rgb :=
  let u := rgbMap (fun k => pqInverse mc (min one23 (roundDiv (k * cfg.fullNits) 10000))) v
  let e := lutValue (s.table (.outLut c)).active 65 (fun k => 16 * k) 4095 u
  rgbMap (fun k => min one23 (roundDiv (pqEotf mc k * 10000) cfg.fullNits)) e

/-- The linear value that composition hands to correction at canvas pixel (x, y) of canvas `c` in die `d` (R77). (DEDUCED, log entry 81) -/
def composedAt (s : State) (d : DieId) (c : Nat) (cfg : CanvasCfg) (named : Named) (x y : Nat) : Rgb :=
  let mc := s.microcodeOn c d
  let v := if cfg.mesh then warpAt s d c cfg named x y else rgbMap (linear mc cfg) (blendAt s d cfg named x y)
  if cfg.olut then outputLut s mc c cfg v else v

end Sys2Proof.Machine
end

