-- ==== Sys2Proof/Machine/Correct.lean ====
section
/-! DEFINITION. The correction stages C1 to C7 of one pixel: target matrix, record, lamp transfer, zone scale, flash limiter,
cap and Sprinkle (R105 to R120, R138, R141, R147). -/

namespace Sys2Proof.Machine

/-- ⌊√n⌋ for n below 2^48, bit by bit (R107). -/
def isqrt (n : Nat) : Nat :=
  (List.range 24).foldl (fun r i => if (r + 2 ^ (23 - i)) * (r + 2 ^ (23 - i)) ≤ n then r + 2 ^ (23 - i) else r) 0

/-- A Q1.23 value held to 0 to 1.0. -/
def clamp23 (v : Int) : Nat := min one23 v.toNat

/-! ### C1 (R109) -/

/-- Stage C1: the tile target matrix. -/
def stageC1 (b : CorrBank) (v : Rgb) : Rgb :=
  if b.tEn then
    let row := fun (i : Nat) => clamp23 (roundDivI (b.target i 0 * v.1 + b.target i 1 * v.2.1 + b.target i 2 * v.2.2) 16777216)
    (row 0, row 1, row 2)
  else v

/-! ### C2 (R110 to R114) -/

/-- Bits [lo + n - 1 : lo] of a correction record. -/
def recBits (r lo n : Nat) : Nat := r / 2 ^ lo % 2 ^ n
/-- Coefficient M_ij of a record in units of 2^-11 (R110, R111). -/
def recCoef (r i j : Nat) : Int :=
  let c := recBits r (10 * (3 * i + j)) 10
  if i = j then 4 * c else signed 10 c
/-- The matrix part a_i in units of 2^-34 (R112). -/
def recRow (r : Nat) (t : Rgb) (i : Nat) : Int := recCoef r i 0 * t.1 + recCoef r i 1 * t.2.1 + recCoef r i 2 * t.2.2
/-- FLAGS of a record (R110, R113). -/
def recFlags (np r : Nat) : Nat := recBits r (if np = 4 then 160 else 120) 8
/-- Black offset of lamp `i` in units of 2^-34 (R111). -/
def recOffset (np r i : Nat) : Int := signed 10 (recBits r ((if np = 4 then 120 else 90) + 10 * i) 10) * 262144
/-- E_i of a record (R113). -/
def recWhite (r i : Nat) : Nat := recBits r (90 + 10 * i) 10

/-- y of a lamp from its matrix part and offset (R112). -/
def lampDrive (a o : Int) : Nat := if 0 < a then clamp23 (roundDivI (a + o) 2048) else 0

/-- The white lamp's drive w (R114). -/
def whiteDrive (wmix r : Nat) (a : Nat → Int) : Nat :=
  let q := ([0, 1, 2].filter fun i => recWhite r i ≠ 0).map fun i => (a i).toNat / (4 * recWhite r i)
  match q with
  | [] => 0
  | h :: t => if (recFlags 4 r).testBit 3 then 0 else min one23 (roundDiv (wmix * t.foldl min h) 32768)

/-- Stage C2: each lamp's drive y, and whether the lamp is kept at 0 through every later stage (R112, R114, R128). -/
def stageC2 (np wmix r : Nat) (mismatch : Bool) (t : Rgb) : List (Nat × Bool) :=
  let ti := fun (i : Nat) => if i = 0 then t.1 else if i = 1 then t.2.1 else t.2.2
  let flags := if mismatch then 0 else recFlags np r
  let off := fun (i : Nat) (y : Nat) => if flags.testBit i then (0, true) else (y, false)
  if !flags.testBit 7 then
    ([0, 1, 2].map fun i => off i (ti i)) ++ (if np = 4 then [(0, true)] else [])
  else if np = 4 then
    let a := fun (i : Nat) => recRow r t i
    let w := whiteDrive wmix r a
    ([0, 1, 2].map fun i => off i (lampDrive (max 0 (a i) - 4 * w * recWhite r i) (recOffset 4 r i))) ++
      [off 3 (lampDrive (w * 2048) (recOffset 4 r 3))]
  else [0, 1, 2].map fun i => off i (lampDrive (recRow r t i) (recOffset 3 r i))

/-! ### C3 (R116) -/

/-- Stage C3: the lamp transfer of drive `d` by the curve of primary `p`, a Q16.4 code. -/
def stageC3 (b : CorrBank) (p d : Nat) : Nat :=
  let r := isqrt (d * one23)
  let k := r / 32768
  if k = 256 then b.curve p 256 * 16
  else (b.curve p k * 16 + roundDivI (((b.curve p (k + 1) : Int) - b.curve p k) * (r % 32768 : Nat)) 2048).toNat

/-! ### C4 to C6 (R106, R138, R141, R147) -/

/-- What the safety stages and Sprinkle take for a tile in a frame: the zone scale, the cap code, the luminances of the
primaries, the ceiling Yc in units of 2^-24 nit where the tile is limited, RED_RATIO − 1,024 where its red is, the PWM depth, SPR_MODE,
the microcode's digest, and whether every lamp is dark (R472). -/
structure Limits where
  g    : Nat
  cap  : Nat
  lum  : List Nat
  ceil : Option Nat
  red  : Option Nat
  pd   : Nat
  mode : Nat
  mc   : Word
  dark : Bool
  deriving DecidableEq, Repr

/-- Σ a_p × b_p over the primaries. -/
def dot (a b : List Nat) : Nat := (List.zipWith (· * ·) a b).sum

/-- Stage C4. -/
def stageC4 (g : Nat) (cs : List Nat) : List Nat := cs.map fun c => c * g / 32768

/-- C5 while the canvas is armed: a pixel above the ceiling is scaled down to it. (DESIGN CHOICE, log entry 9) -/
def limitFlash (lum : List Nat) (yc : Nat) (cs : List Nat) : List Nat :=
  let l := dot lum cs
  if yc * 1048560 < l * 16777216 then cs.map fun c => c * (yc * 1048560) / (l * 16777216) else cs

/-- C5 while the canvas is red-armed: a saturated red is lowered below the bound. The bound of a RED_RATIO that reaches no
code is open. (DESIGN CHOICE, log entry 9) -/
def limitRed (k : Nat) (cs : List Nat) : List Nat :=
  match cs with
  | [] => []
  | r :: rest =>
    let o := rest.sum
    if r * 65536 < k * (r + o) then cs
    else if o = 0 then 0 :: rest
    else if k = 0 then min r (Config.redOpen r o) :: rest
    else min r ((k * o - 1) / (65536 - k)) :: rest

/-- Stage C5: the flash limiter, general before red. -/
def stageC5 (x : Limits) (cs : List Nat) : List Nat :=
  let a := match x.ceil with
    | some yc => limitFlash x.lum yc cs
    | none => cs
  match x.red with
  | some k => limitRed k a
  | none => a

/-- Stage C6. -/
def stageC6 (cap : Nat) (cs : List Nat) : List Nat := cs.map fun c => min c (cap * 16)

/-! ### C7 (R118, R119) -/

/-- The thresholds of `l` in the order that the choices `f` take them, `n` of them. -/
def arranged (f : Nat → Nat) : Nat → List Nat → List Nat
  | 0, _ => []
  | n + 1, l =>
    let i := f n % l.length
    l.getD i 0 :: arranged f n (l.eraseIdx i)

/-- The Sprinkle matrix of a microcode, row by row (R119): every threshold from 0 to 4,095 once. (DESIGN CHOICE, log entry 9) -/
def sprinkleMatrix (mc : Word) : List Nat := arranged (Config.sprinkleChoice mc) 4096 (List.range 4096)

/-- The threshold at a row and column of the Sprinkle matrix (R119). -/
def sprinkleAt (mc : Word) (row col : Nat) : Nat := (sprinkleMatrix mc).getD (64 * row + col) 0

/-- Sprinkle on the code `c` of primary `p` at tile pixel (u, v) in frame `n`. -/
def sprinkle (x : Limits) (n u v p c : Nat) : Nat :=
  let f := 20 - x.pd
  let th :=
    if x.mode = 2 then 2 ^ (f - 1)
    else
      let ox := if x.mode = 0 then n * 41 % 64 else 0
      let oy := if x.mode = 0 then n * 23 % 64 else 0
      sprinkleAt x.mc ((v + oy + 40 * p) % 64) ((u + ox + 16 * p) % 64) / 2 ^ (12 - f)
  let out := min ((c + th) / 2 ^ f) (min (2 ^ x.pd - 1) (x.cap / 2 ^ (16 - x.pd)))
  out * 2 ^ (16 - x.pd)

/-! ### One pixel (R105) -/

/-- The values of a pixel after the stages that CORR_PROBE shows (R130), its share of the census S_p (R139) and whether C5
limited it. -/
structure Stages where
  v       : Rgb
  t       : Rgb
  y       : List Nat
  c3      : List Nat
  c6      : List Nat
  lamps   : List Nat
  census  : List Nat
  limited : Bool
  deriving DecidableEq, Repr

/-- The record of tile pixel (u, v) in a bank, as a number (R115); zero where none was loaded. -/
def CorrBank.record (b : CorrBank) (tw u v : Nat) : Nat := ofLeBytes (memRead b.recs ((v * tw + u) * b.recSize) b.recSize)

/-- A tile pixel from its linear value to its lamps (R105). -/
def correctPixel (x : Limits) (b : CorrBank) (mismatch : Bool) (np tw n u v : Nat) (lin : Rgb) : Stages :=
  let t := stageC1 b lin
  let ys := (stageC2 np b.wmix (b.record tw u v) mismatch t).map fun y => if x.dark then (0, true) else y
  let off := ys.map fun y => y.2
  let keep := fun (l : List Nat) => List.zipWith (fun o c => if o then 0 else c) off l
  let c3 := keep ((List.range ys.length).map fun p => stageC3 b p (ys.getD p (0, true)).1)
  let c4 := stageC4 x.g c3
  let c5 := stageC5 x c4
  let c6 := stageC6 x.cap c5
  { v := lin, t := t, y := ys.map fun y => y.1, c3 := c3, c6 := c6,
    lamps := keep ((List.range c6.length).map fun p => sprinkle x n u v p (c6.getD p 0)),
    census := c3.map fun c => min c (x.cap * 16), limited := decide (c5 ≠ c4) }

end Sys2Proof.Machine
end

