-- ==== Sys2Proof/Machine/SafetyOps.lean ====
section
/-! DEFINITION. Census, power predictions, zone scales, flash trackers, arming and the Scrim checks (R139 to R150). -/

namespace Sys2Proof.Machine

/-! ### Lamp sums of a tile (R139, R145, R149) -/

/-- Adds lists element by element. -/
def addLists (a b : List Nat) : List Nat := List.zipWith (· + ·) a b
/-- Sums by primary of `f` of the lamp values of a region, pixel after pixel. -/
def lampSums (np : Nat) (f : Nat → Nat) (lamps : List (BitVec 16)) : List Nat :=
  (chunks np lamps.length lamps).foldl (fun a c => addLists a (c.map fun v => f v.toNat)) (List.replicate np 0)
/-- The regions of a tile that a die holds a result of. -/
def tileResults (s : State) (d : DieId) (t : Nat) (p : Placement) : List RegionRes :=
  (List.range p.regions).filterMap fun i => s.result d t i
/-- Sums by primary of `f` of the lamp values that a die has formed for a tile: regions not computed in the present frame
stand as they were. -/
def tileSums (s : State) (d : DieId) (np : Nat) (f : Nat → Nat) (t : Nat) (p : Placement) : List Nat :=
  ((tileResults s d t p).map fun r => lampSums np f r.lamps).foldl addLists (List.replicate np 0)
/-- S_p of a tile, by the regions' census. -/
def tileDemand (s : State) (d : DieId) (np t : Nat) (p : Placement) : List Nat :=
  ((tileResults s d t p).map fun r => r.demand).foldl addLists (List.replicate np 0)

/-! ### Power (R135, R139, R140, R143) -/

/-- F_t (R140). -/
def SafeTile.factor (x : SafeTile) : Nat := x.trim * x.derate / 16384
/-- A die's view of a tile (R139, R145). -/
def SafeTile.view (x : SafeTile) : DieId → TileView
  | .a => x.viewA
  | .b => x.viewB
/-- `x` with a die's view changed. -/
def SafeTile.modView (x : SafeTile) (d : DieId) (f : TileView → TileView) : SafeTile :=
  match d with
  | .a => { x with viewA := f x.viewA }
  | .b => { x with viewB := f x.viewB }
/-- A die's history of a canvas (R146). -/
def Flash.view (x : Flash) : DieId → FlashView
  | .a => x.viewA
  | .b => x.viewB
/-- `x` with a die's history changed. -/
def Flash.modView (x : Flash) (d : DieId) (f : FlashView → FlashView) : Flash :=
  match d with
  | .a => { x with viewA := f x.viewA }
  | .b => { x with viewB := f x.viewB }
/-- The die whose figures die `d` takes for a tile: its own in Twin mode, the owner's in Span mode. -/
def State.holder (s : State) (d : DieId) (t : Nat) : DieId := if s.span then ((s.tileDies t).headD .a) else d
/-- The dies of a Span package judge apart: the link between them has failed (R17, R143). -/
def State.split (s : State) : Bool := s.span && !s.dies.twin.linkAB

/-- S_p of a tile as the next zone scale takes it: full demand for a tile's first frame (R139). (DEDUCED, log entry 65) -/
def census (s : State) (d : DieId) (c t : Nat) (p : Placement) : List Nat :=
  let np := (s.canvas c).committed.np
  let x := s.safe t
  let own := (x.view (s.holder d t)).demand
  if x.fresh || decide (x.canvas ≠ c) || own.isEmpty then List.replicate np (p.tw * p.th * s.cap c t * 16) else own
/-- led_t (R139), from the census of die `d`. -/
def ledPower (s : State) (d : DieId) (c t : Nat) (p : Placement) : Nat :=
  dot (pltPw s.plt.inForce (s.canvas c).committed.np t) (census s d c t p) / (1048560 * (p.tw * p.th))
/-- sent_t from Q_p (R139). -/
def sentPower (s : State) (np t : Nat) (p : Placement) (q : List Nat) : Nat := dot (pltPw s.plt.inForce np t) q / (65535 * (p.tw * p.th))
/-- pred_t from a tile's LED power (R143). -/
def predPower (s : State) (f t led : Nat) : Nat := pltIdle s.plt.inForce t + f * led / 16384

/-- BUDGET of a zone in W. -/
def State.budgetW (s : State) (z : Nat) : Nat := fld (s.pltF 0x10 z 0) 19 0
/-- TARGET of a zone. -/
def State.targetPct (s : State) (z : Nat) : Nat := fld (s.pltF 0x10 z 0) 40 34
/-- The zone is enabled on canvas `c`, as it is in force. -/
def State.zoneOn (s : State) (c z : Nat) : Bool := bit (s.pltF 0x10 z 0) 43 && decide (fld (s.pltF 0x10 z 0) 42 41 = c)
/-- The zones of a canvas. -/
def State.zonesOf (s : State) (c : Nat) : List Nat := below 64 fun z => s.zoneOn c z
/-- The driven placements of canvas `c` in zone `z`. -/
def zoneTiles (s : State) (c z : Nat) : List Placement :=
  (s.canvas c).committed.tiles.filter fun p => s.driven c p.tile && decide (pltZone s.plt.inForce p.tile = z)
/-- The placements of a canvas that die `d` judges: every one in Twin mode, its own in Span mode. -/
def diePlacements (s : State) (d : DieId) (l : List Placement) : List Placement :=
  if s.span then l.filter fun p => (s.tileDies p.tile).contains d else l

/-! ### Zone scale (R141) -/

/-- The scale that a power limit and a percentage of the tiles' limits give: budget in 10 mW, per tile F_t, led_t. -/
def scaleFor (s : State) (limit pct : Nat) (tiles : List (Placement × Nat × Nat)) : Nat :=
  let idle := (tiles.map fun x => pltIdle s.plt.inForce x.1.tile).sum
  let u := (tiles.map fun x => x.2.1 * x.2.2 / 16384).sum
  let gs := if u = 0 then 32768 else min 32768 ((limit - idle) * 32768 / u)
  (tiles.filter fun x => x.2.2 ≠ 0).foldl (fun g x =>
    min g ((pltMax s.plt.inForce x.1.tile * pct / 100 - pltIdle s.plt.inForce x.1.tile) * 32768 * 16384 / (x.2.1 * x.2.2))) gs

/-- A zone's budget in 10 mW for the placements that die `d` judges: its share by pixels where the dies judge apart (R143). -/
def zoneBudget (s : State) (all mine : List Placement) (watts : Nat) : Nat :=
  let px := fun (l : List Placement) => (l.map fun p => p.tw * p.th).sum
  if s.split then watts * 100 * px mine / max 1 (px all) else watts * 100

/-- G_z that die `d` computes for zone `z` of canvas `c`, and whether it took a hard step (R141). Where the dies of a Span package are
apart, each takes its own tiles and its share of the budget. (DEDUCED, log entry 65) -/
def zoneScale (s : State) (d : DieId) (c z : Nat) (withheld : Bool) : Nat × Bool :=
  let all := zoneTiles s c z
  let mine := if s.split then diePlacements s d all else all
  let tiles := mine.map fun p => (p, (s.safe p.tile).factor, ledPower s d c p.tile p)
  let budget := zoneBudget s all mine (s.budgetW z)
  let gs := scaleFor s (budget * s.targetPct z / 100) (s.targetPct z) tiles
  let prev := if s.split && decide (d = .b) then (s.zone z).gB.orElse fun _ => (s.zone z).g else (s.zone z).g
  let g := match prev with
    | some prev => if withheld then gs else max (prev - 655) (min (prev + 655) gs)
    | none => gs
  let idle := (tiles.map fun x => pltIdle s.plt.inForce x.1.tile).sum
  let u := (tiles.map fun x => x.2.1 * x.2.2 / 16384).sum
  let above := decide (budget < idle + u * g / 32768) || tiles.any fun x =>
    decide (pltMax s.plt.inForce x.1.tile < pltIdle s.plt.inForce x.1.tile + x.2.1 * x.2.2 / 16384 * g / 32768)
  if above then (scaleFor s budget 100 tiles, true) else (g, false)

/-! ### Flash (R136, R145, R146) -/

/-- Word `w` of a canvas's flash block in force. -/
def State.flashW (s : State) (c w : Nat) : Word := s.pltF 0x13 c w
/-- DELTA in nits. -/
def State.flashDelta (s : State) (c : Nat) : Nat := fld (s.flashW c 0) 15 8
/-- DARK in nits. -/
def State.flashDark (s : State) (c : Nat) : Nat := fld (s.flashW c 0) 31 16
/-- RED_RATIO. -/
def State.redRatio (s : State) (c : Nat) : Nat := fld (s.flashW c 1) 15 0
/-- RED_MIN in nits. -/
def State.redMin (s : State) (c : Nat) : Nat := fld (s.flashW c 1) 31 16
/-- W of a canvas (R136). -/
def flashWindow (cfg : CanvasCfg) : Nat := ceilDiv (rateOf cfg.rate).1 (rateOf cfg.rate).2
/-- The entries of a history that lie in the window before the next frame (R146). -/
def windowCount (cfg : CanvasCfg) (l : List Bool) : Nat := ((l.take (flashWindow cfg - 1)).filter id).length
/-- Arming by the general and the red history under a flash block's word 0 (R146). -/
def armedBy (flash0 : Word) (cfg : CanvasCfg) (rises reds : List Bool) : Bool × Bool :=
  (bit flash0 0 && decide (fld flash0 35 32 ≤ windowCount cfg rises), bit flash0 1 && decide (fld flash0 39 36 ≤ windowCount cfg reds))

/-- A tracker after a frame of mean luminance `y` (Q16.8) and redness (R145), with its up and red_entry. -/
def Tracker.step (delta dark : Nat) (k : Tracker) (y : Nat) (red : Bool) : Tracker × Bool × Bool :=
  let entry := red && !k.red
  match k.dir with
  | .rising =>
    if k.ext < y then ({ dir := .rising, ext := y, y := y, red := red }, false, entry)
    else if delta * 256 ≤ k.ext - y then ({ dir := .falling, ext := y, y := y, red := red }, false, entry)
    else ({ k with y := y, red := red }, false, entry)
  | .falling =>
    if y < k.ext then ({ dir := .falling, ext := y, y := y, red := red }, false, entry)
    else if delta * 256 ≤ y - k.ext then ({ dir := .rising, ext := y, y := y, red := red }, decide (k.ext < dark * 256), entry)
    else ({ k with y := y, red := red }, false, entry)

/-- Y_t as Q16.8 and whether the tile is red (R145), from sums of lamp values out of `full`, the tile's LUM by primary and a flash block's
words. ρ_t is a Q16.8 value rounded down. -/
def tileLight (lum : List Nat) (flash1 : Word) (pixels full : Nat) (q : List Nat) : Nat × Bool :=
  let y := dot lum q * 256 / (full * pixels)
  let rho := if q.sum = 0 then 0 else q.headD 0 * 256 / q.sum
  (y, decide (fld flash1 15 0 ≤ rho * 256) && decide (fld flash1 31 16 * 256 ≤ y))

/-- The tiles of a list together hold at least AREA of the canvas tile pixels (R146). -/
def areaHeld (s : State) (c : Nat) (tiles : List Nat) : Bool :=
  let all := (s.canvas c).committed.tiles
  let px := fun (l : List Placement) => (l.map fun p => p.tw * p.th).sum
  decide (fld (s.flashW c 0) 55 40 * px all ≤ px (all.filter fun p => tiles.contains p.tile) * 65536)

/-! ### What C4 to C7 take for a tile (R118, R138, R141, R147) -/

/-- Yc in units of 2^-24 nit (R147). -/
def flashCeiling (s : State) (c wl pd ext : Nat) : Nat :=
  max (ext * 65536) ((ext + s.flashDelta c * 256 - 1) * 65536 - wl * 2 ^ (24 - pd))

/-- P of a tile (R118, R231). -/
def State.pwmDepth (s : State) (c t : Nat) : Nat := fld ((s.canvas c).committed.scanOf t) 11 8 + 8

/-- The limits of tile `t` of canvas `c` in the frame of order `o`, in die `d`. (DEDUCED, log entry 65) -/
def tileLimits (s : State) (d : DieId) (c t : Nat) (o : FrameOrder) (dark : Bool) : Limits :=
  let np := (s.canvas c).committed.np
  let lum := pltLum s.plt.inForce np t
  let k := ((s.safe t).view d).trk
  let zones := if s.split && decide (d = .b) then o.zonesB.getD o.zones else o.zones
  let pd := s.pwmDepth c t
  { g := ((zones.find? fun z => z.1 = pltZone s.plt.inForce t).map fun z => z.2).getD 32768, cap := s.cap c t, lum := lum,
    ceil := if o.armed && decide (k.dir = .falling) && decide (k.ext < s.flashDark c * 256)
      then some (flashCeiling s c lum.sum pd k.ext) else none,
    red := if o.redArmed && !k.red then some (s.redRatio c - 1024) else none,
    pd := pd, mode := ((s.corr t).active d).sprMode, mc := s.microcodeOn c d, dark := dark }

/-! ### Scrim (R149) -/

/-- A lamp value rounded to Scrim's 8 bits for luminance. -/
def lamp8 (v : Nat) : Nat := (v + 128) / 256
/-- A lamp value rounded up to Scrim's 8 bits for power. -/
def lamp8Up (v : Nat) : Nat := (v + 255) / 256

/-- Why Scrim blocks a region (R149): by the cap, by a flash check, or because its table is bad (R148). -/
inductive ScrimBlock where
  | cap | flash | table
  deriving DecidableEq, Repr

/-- What a Scrim checker judges a region of a tile by (R148, R149): CAP_t, LUM by primary, its flash words, its arming and its tracker. -/
structure ScrimView where
  blocked  : Bool
  cap      : Nat
  lum      : List Nat
  flash0   : Word
  flash1   : Word
  armed    : Bool
  redArmed : Bool
  trk      : Tracker
  deriving DecidableEq, Repr

/-- Scrim's region mean is above its bound (R149): ext + DELTA + 2 nits + WL_t / 512, on a falling tile with ext < DARK. -/
def flashOver (v : ScrimView) (n : Nat) (q : List Nat) : Bool :=
  decide (v.trk.dir = .falling) && decide (v.trk.ext < fld v.flash0 31 16 * 256) &&
    decide (n * (2 * v.trk.ext + 512 * fld v.flash0 15 8 + 1024 + v.lum.sum) < 2 * dot v.lum q)

/-- Scrim's region is saturated red on a tile that was not red (R149). -/
def redOver (v : ScrimView) (n : Nat) (q : List Nat) : Bool :=
  !v.trk.red && decide (fld v.flash1 31 16 * 256 * n ≤ dot v.lum q) &&
    decide ((fld v.flash1 15 0 + 1024) * q.sum ≤ q.headD 0 * 65536) && decide (q.sum ≠ 0)

/-- A lamp value is above CAP_t (R149). -/
def capOver (v : ScrimView) (lamps : List (BitVec 16)) : Bool := lamps.any fun x => decide (v.cap < x.toNat)

/-- Scrim's judgement of a region of `n` pixels (R148, R149). -/
def scrimJudge (v : ScrimView) (lamps : List (BitVec 16)) (n : Nat) : Option ScrimBlock :=
  let q := lampSums v.lum.length lamp8 lamps
  if v.blocked then some .table
  else if capOver v lamps then some .cap
  else if (v.armed && flashOver v n q) || (v.redArmed && redOver v n q) then some .flash
  else none

/-- What the checker of die `d` takes for tile `t` of canvas `c` (R148, R149). -/
def scrimView (s : State) (d : DieId) (c t : Nat) : ScrimView :=
  let f := s.scrimFlash d c t
  let h := (s.flash c).view d
  let arm := armedBy f.1 (s.canvas c).committed h.scrimRises h.scrimReds
  { blocked := (s.scrim d (s.regionOf t)).blocked, cap := s.scrimCap d c t, lum := (s.scrimEntry d t).lum.take (s.canvas c).committed.np,
    flash0 := f.1, flash1 := f.2, armed := arm.1, redArmed := arm.2, trk := ((s.safe t).view d).scrimTrk }

/-- Scrim's judgement of a region of tile `t` (R149). (DEDUCED, log entry 65) -/
def scrimCheck (s : State) (d : DieId) (c t : Nat) (lamps : List (BitVec 16)) (n : Nat) : Option ScrimBlock :=
  scrimJudge (scrimView s d c t) lamps n

/-- A sum in 10 mW is above 1.05 × a limit (R149). -/
def powerOver (limit sum : Nat) : Bool := decide (limit * 105 < sum * 100)

/-- Scrim's power sum of a tile in 10 mW (R149), from the values of its own table and its 8-bit sums. -/
def scrimPower (s : State) (d : DieId) (np f t : Nat) (p : Placement) : Nat :=
  let e := s.scrimEntry d t
  e.idle + f * (dot (e.pw.take np) (tileSums s d np lamp8Up t p) / (255 * (p.tw * p.th))) / 16384

/-! ### The latent test (R152) -/

/-- CAP_t in the test context of a checker. The manual does not give the values of the context. (DESIGN CHOICE, log entry 90) -/
def testCap : Nat := 32768

/-- The test context of a checker, with or without an armed and a red-armed history forced (R152). (DESIGN CHOICE, log entry 90) -/
def testView (armed redArmed : Bool) : ScrimView :=
  { blocked := false, cap := testCap, lum := [1000, 1000, 1000], flash0 := 3#64 ||| (20#64 <<< 8) ||| (160#64 <<< 16),
    flash1 := 52429#64 ||| (20#64 <<< 16), armed := armed, redArmed := redArmed, trk := {} }

/-- The lamps of the test region that fails the cap check (R152): one lamp at CAP_t + 1, at the comparator lane under test. -/
def testLamps (lane : Nat) : List (BitVec 16) :=
  (List.range 192).map fun i => if i = lane then BitVec.ofNat 16 (testCap + 1) else 0

/-- What a sound checker answers to the five test regions (R152), the first with its failing lamp in lane `lane`: it blocks by the cap, by
the flash check, by the red check; it fails the power verdict at 1.06 × BUDGET; it passes. -/
def latentAnswers (lane : Nat) : List Bool :=
  let at' := fun (x : BitVec 16) => List.replicate 192 x
  let red := (List.range 192).map fun i => if i % 3 = 0 then BitVec.ofNat 16 testCap else 0
  [decide (scrimJudge (testView false false) (testLamps lane) 64 = some .cap),
   decide (scrimJudge (testView true false) (at' (BitVec.ofNat 16 testCap)) 64 = some .flash),
   decide (scrimJudge (testView false true) red 64 = some .flash),
   powerOver 100 106,
   decide (scrimJudge (testView false false) (at' (BitVec.ofNat 16 testCap)) 64 = none)]

/-- The latent test of a checker with faults: comparator lanes that are stuck passing, and test regions (0 to 4) whose outcome is wrong.
Every region must have its outcome (R152). (DESIGN CHOICE, log entry 90) -/
def latentOk (lane : Nat) (x : ScrimFaults) : Bool :=
  ((latentAnswers lane).zipIdx.all fun y => y.1 && !x.wrong.contains y.2) && !x.lanes.contains lane

end Sys2Proof.Machine
end

