-- ==== Sys2Proof/Machine/FrameOps.lean ====
section
/-! DEFINITION. The selection instant: what takes effect with a frame, the choice of source frames, zone scales, arming and
the patch map (R19, R20, R43 to R46, R63 to R66, R99, R102, R103, R133, R141, R142, R146, R197, R199 to R201, R222, R471, R472,
R512). -/

namespace Sys2Proof.Machine

/-! ### Configurations that take effect (R97, R99, R103, R137, R222) -/

/-- Layers of canvas `c` that a configuration no longer has fall disabled; those that it brings are ABSENT (R82, R103). -/
def takeLayers (s : State) (c : Nat) (cfg : CanvasCfg) (n : Nat) : State :=
  let had := (s.canvas c).committed.layers.map fun l => l.1
  let has := cfg.layers.map fun l => l.1
  let s1 := s.each (had.filter fun l => !has.contains l && decide ((s.layer l).canvas = c)) fun s l =>
    s.modLayer l fun x => { x with state := .disabled, changedAt := n, lastBuf := none }
  s1.each has fun s l => s.modLayer l fun x =>
    if x.state = .disabled || decide (x.canvas ≠ c) then
      { x with state := .absent, canvas := c, changedAt := n, lastBuf := none, lastFrame := 0, misfit := false }
    else { x with misfit := false }

/-- Events of tiles without a valid safety entry, once per commit (R137). -/
def tellUndriven (s : State) (c n : Nat) : State :=
  s.each ((s.canvas c).committed.tileIds.filter fun t => !s.driven c t) fun s t => raise s (120 + c) 6 (put t 9 0) n

/-- The tiles of a canvas that were not on it before begin as newly placed (R139). -/
def freshTiles (s : State) (c : Nat) (old new : CanvasCfg) : State :=
  s.each (new.tileIds.filter fun t => !old.tileIds.contains t) fun s t =>
    s.modSafe t fun x =>
      { x with canvas := c, fresh := true, viewA := { x.viewA with demand := [], sent := [] }, viewB := { x.viewB with demand := [], sent := [] } }

/-- A configuration takes effect on canvas `c` with frame `n` by a timing change or an ordinary commit (R97, R99, R122, R222): every region is
marked. -/
def takeCfg (s : State) (c : Nat) (cfg : CanvasCfg) (n : Nat) (change : Bool) : State :=
  let old := (s.canvas c).committed
  let s1 := takeLayers s c cfg n
  let s2 := s1.modCanvas c fun x => { x with committed := cfg }
  let s3 := flipTables (freshTiles s2 c old cfg) c change
  let s4 := leavePending s3 c (old.tileIds.filter fun t => !cfg.tileIds.contains t)
  rejudge (tellUndriven (markCanvas s4 c n) c n)

/-- An idle canvas with a pending commit starts with its first frame (R197). -/
def startCanvas (s : State) (c : Nat) (p : PendingCommit) : State :=
  let s1 := takeCfg s c p.cfg p.frame false
  let s2 := s1.each (s1.zonesOf c) fun s z => s.modZone z fun y => { y with g := none, gB := none }
  s2.modCanvas c fun x =>
    { x with pending := none, running := true, anchorN := p.frame, anchorK := p.frame, next := p.frame, frame := p.frame - 1,
             order := none, prevOrder := none }

/-- The regions that a zone, tile or flash change marks (R133). -/
def markWords (s : State) (c n : Nat) (l : List (Nat × Word)) : State :=
  l.foldl (fun s x =>
    let i := x.1 % 65536 / 4
    if x.1 / 65536 = 0x10 then
      ((s.canvas c).committed.tileIds.filter fun t => pltZone s.plt.inForce t = i).foldl (fun s t => markRegion s c t 256 n) s
    else if x.1 / 65536 = 0x13 then markCanvas s c n
    else if (s.canvas c).committed.tileIds.contains i then markRegion s c i 256 n
    else s) s

/-- The word that takes a zone from canvas `c` has been overtaken: the zone is in force on its new canvas already, whose selection instant
fell on the same time and came first (R133). -/
def overtaken (s : State) (c : Nat) (x : Nat × Word) : Bool :=
  decide (x.1 / 65536 = 0x10) && !bit x.2 43 && decide (fld x.2 42 41 ≠ c) && decide (s.pltF 0x10 (x.1 % 65536 / 4) 0 = x.2 ||| (1#64 <<< 43))

/-- The tiles whose configuration changes at the flip of frame `n` of canvas `c` (R19, R240). -/
def changingTiles (s : State) (c n : Nat) : List Nat :=
  ((s.links.txns.filter fun x => x.inProgress && x.committed && decide (x.canvas = some c) && decide (x.frame = n)).flatMap fun x => x.tiles).dedup

/-- PLT changes that wait for frame `n` of canvas `c` take effect (R133, R234): those of a tile with its DRIVE transaction. -/
def takeWaits (s : State) (c n : Nat) : State :=
  let mine := fun (x : PltWait) => x.tile.isNone && decide (x.canvas = c) && decide (x.frame ≤ n)
  let due := s.plt.waits.filter mine
  let s1 := s.modPlt fun p => { p with waits := p.waits.filter fun x => !mine x }
  let s2 := due.foldl (fun s x => markWords (putInForce (markWords s c n x.words) (x.words.filter fun w => !overtaken s c w)) c n x.words) s1
  let tiles := (s2.links.txns.filter fun x =>
    x.inProgress && x.committed && decide (x.kind = .drive) && decide (x.canvas = some c) && decide (x.frame = n)).flatMap fun x => x.tiles
  tiles.foldl (fun s t => driveInForce (markRegion s c t 256 n) t) s2

/-! ### Choice of source frames (R63 to R66, R102 to R104) -/

/-- A slot is late at wall time `t` (R64, R69). -/
def slotLate (k : Slot) (t : Int) : Bool :=
  if !k.started then true
  else
    match k.newest with
    | none => true
    | some b =>
      let r := rateOf k.rate
      let age := t - ((k.buf b).readyAt : Int)
      if k.lateUs ≠ 0 then decide ((k.lateUs : Int) * 1000 < age)
      else if k.rate = 0 then decide (100000000 < age)
      else decide (3 * 1000000000 * (r.2 : Int) < age * 2 * (r.1 : Int))

/-- The slots of a canvas's committed layers, and no others, are judged for lateness at its S(N) (R64, R71): event 0x01 once per transition.
(DESIGN CHOICE, log entry 97) -/
def judgeLate (s : State) (c : Nat) (t : Int) : State :=
  s.each ((s.canvas c).committed.layers.map fun l => l.2.lSlot).dedup fun s k =>
    let x := s.slot k
    if slotLate x t && !x.late then slotEvent (s.modSlot k fun y => { y with late := true, nLate := y.nLate + 1 }) k 1
    else if slotLate x t then s
    else s.modSlot k fun y => { y with late := false }

/-- Buffer `b` of slot `k` is named for frame `n` of canvas `c` (R43, R44). -/
def useBuf (s : State) (k b c n : Nat) : State :=
  s.modSlot k fun x => x.modBuf b fun y => { y with state := .inUse, uses := (c, n) :: y.uses }

/-- The buffer a repeat can name (R44, R103): the one last named, in the slot it was named in, while it still holds that frame: it has
neither started to fill again nor been zeroed since (`forgetBufs`). Where it does not, the layer repeats and names no buffer, as after a
SRC_CONFIG of its stopped slot. (DESIGN CHOICE, log entry 92) -/
def repeatBuf (s : State) (l : Layer) : Option Nat :=
  l.lastBuf.filter fun b => match ((s.slot l.lastSlot).buf b).state with
    | .filling => false
    | .ready => false
    | _ => true

/-- A repeat names the buffer last named; one that is no longer IN-USE is IN-USE again. (DESIGN CHOICE, log entry 92) -/
def useAgain (s : State) (k b frame c n : Nat) : State :=
  s.modSlot k fun x => x.modBuf b fun y =>
    { y with state := .inUse, frame := frame, uses := (c, n) :: y.uses, reported := false, old := y.old || decide (y.state ≠ .inUse) }

/-- Layer `l` moves to a state with frame `n` (R103, R104); `code` is the event it raises. -/
def toLayer (s : State) (l n : Nat) (st : LayerState) (code : Option Nat) : State :=
  let same := match (s.layer l).state, st with
    | .repeating _, .repeating _ => true
    | a, b => decide (a = b)
  let s1 := s.modLayer l fun x => { x with state := st, changedAt := if same then x.changedAt else n }
  match code with
  | some k => raise s1 (96 + l) k 0 n
  | none => s1

/-- Layer `l` of canvas `c` at S(N) (R63, R102, R103): the state after it and what the frame order says of it. -/
def chooseLayer (s : State) (c n : Nat) (l : Nat) (d : Desc) : State × Choice :=
  let k := d.lSlot
  let x := s.slot k
  let fits := cropFits s d
  let s1 := if !fits && !(s.layer l).misfit then raise (s.modLayer l fun y => { y with misfit := true }) (96 + l) 4 0 n
    else if fits then s.modLayer l fun y => { y with misfit := false } else s
  let y := s1.layer l
  let none' : Choice := ⟨l, k, none, 0, false⟩
  let transparent := fun (s : State) => s.modLayer l fun z => { z with nTransp := z.nTransp + 1 }
  match (if fits && x.started && decide (x.kind ≠ 0) && !x.late then x.newest else none) with
  | some b =>
    let f := (x.buf b).frame
    let code := match y.state with
      | .repeating _ => some 3 | .transparent => some 3 | _ => none
    let s2 := toLayer (useBuf s1 k b c n) l n .showing code
    (s2.modLayer l fun z => { z with lastSlot := k, lastBuf := some b, lastFrame := f }, ⟨l, k, some b, f, true⟩)
  | none =>
    let again := fun (s : State) (m : Nat) (code : Option Nat) =>
      let s2 := (toLayer s l n (.repeating m) code).modLayer l fun z => { z with nRepeat := z.nRepeat + 1 }
      match repeatBuf s y with
      | some b => (useAgain s2 y.lastSlot b y.lastFrame c n, (⟨l, y.lastSlot, some b, y.lastFrame, false⟩ : Choice))
      | none => (s2, none')
    match y.state with
    | .showing => if d.lRepeat = 0 then (transparent (toLayer s1 l n .transparent (some 2)), none') else again s1 1 (some 1)
    | .repeating m =>
      if d.lRepeat = 255 || m < d.lRepeat then again s1 (m + 1) none
      else (transparent (toLayer s1 l n .transparent (some 2)), none')
    | .transparent => (transparent s1, none')
    | .absent => (transparent s1, none')
    | .disabled => (s1, none')

/-- The choices of every enabled layer of a canvas. -/
def chooseLayers (s : State) (c n : Nat) : State × List Choice :=
  (s.canvas c).committed.layers.foldl (fun a l =>
    let r := chooseLayer a.1 c n l.1 l.2
    (r.1, a.2 ++ [r.2])) (s, [])

/-- Die B's own choice for a layer while the link between the dies has failed in Span mode (R17): by the rule of R63 over the buffers as
it knows them. What it knows of the newest frame is open: a free value says whether it names that one or the next older one.
(DESIGN CHOICE, log entry 34) -/
def chooseApart (s : State) (c n : Nat) (x : Choice) : State × Choice :=
  let k := s.slot x.slot
  match x.buf with
  | none => (s, x)
  | some b =>
    let older := (k.bufIds.filter fun j => (k.buf j).shown && decide ((k.buf j).frame < x.frame)).foldl (fun (a : Option Nat) j =>
      match a with
      | none => some j
      | some i => if (k.buf i).frame < (k.buf j).frame then some j else some i) none
    match older with
    | some j =>
      if x.fresh && s.freeWord.toNat % 2 = 1 then ((useBuf s x.slot j c n).drawn, { x with buf := some j, frame := (k.buf j).frame })
      else (s.drawn, { x with buf := some b })
    | none => (s, x)

/-- Die B's choices where the dies choose apart: none otherwise (R17, R63). -/
def choicesApart (s : State) (c n : Nat) (l : List Choice) : State × Option (List Choice) :=
  if s.split && s.up .a && s.up .b then
    let r := l.foldl (fun (a : State × List Choice) x =>
      let y := chooseApart a.1 c n x
      (y.1, a.2 ++ [y.2])) (s, [])
    (r.1, some r.2)
  else (s, none)

/-- The stripes that run on a cluster of a die, among those of a list. -/
def stripesOn (l : List (DieId × Nat × Nat × Nat)) (d : DieId) (k : Nat) : Nat := (l.filter fun x => x.1 = d && x.2.2.2 = k).length

/-- The cluster for a stripe of layer `y` in die `d` (R87, R88): an active one that runs no other stripe of the layer, of those with the
fewest stripes; which of these is open. (DESIGN CHOICE, log entry 93) -/
def stripeCluster (s : State) (d : DieId) (y free : Nat) (l : List (DieId × Nat × Nat × Nat)) : Nat :=
  let other := (s.die d).activeList.filter fun k => !(l.any fun x => x.1 = d && x.2.1 = y && x.2.2.2 = k)
  let least := other.filter fun k => other.all fun j => decide (stripesOn l d k ≤ stripesOn l d j)
  least.getD (free % max 1 least.length) 0

/-- The stripes of the other canvases' frames that die `d` runs. -/
def otherStripes (s : State) (c : Nat) (d : DieId) : List (DieId × Nat × Nat × Nat) :=
  ((List.range 4).filter fun k => k ≠ c).flatMap fun k => (s.canvas k).scalers.filter fun x => x.1 = d

/-- The clusters that run the stripes of a frame in each die that computes the canvas (R27, R87, R88): each stripe on a cluster of its own
while there are enough, two on one scaler where clusters are lost or resting. (DESIGN CHOICE, log entry 93) -/
def stripeUnits (s : State) (c : Nat) : List (DieId × Nat × Nat × Nat) :=
  let cfg := (s.canvas c).committed
  (([DieId.a, DieId.b].filter fun d => s.up d && !(onDie s d [cfg]).isEmpty)).flatMap fun d =>
    let work := cfg.layers.flatMap fun y => (List.range (stripes cfg y.2)).map fun i => (y.1, i)
    let mine := work.foldl (fun (l : List (DieId × Nat × Nat × Nat)) x =>
      (d, x.1, x.2, stripeCluster s d x.1 (s.freeWord.toNat + x.2) l) :: l) (otherStripes s c d)
    (mine.take work.length).reverse

/-- The work of a frame whose order is acknowledged is dispatched (R254): its stripes are placed, and they leave the stores of their
clusters as they may (R2, R87). -/
def placeStripes (s : State) (c : Nat) : State :=
  let l := if ((s.canvas c).order.map fun o => o.acked && !o.isRepeat) = some true then stripeUnits s c else []
  if l.isEmpty then s.modCanvas c fun x => { x with scalers := [] }
  else
    let s1 := (s.modCanvas c fun x => { x with scalers := l }).drawn
    s1.each (l.map fun x => (x.1, x.2.2.2)).dedup fun s x => soilCluster s x.1 x.2

/-! ### Zone scales and arming (R141, R142, R146) -/

/-- The dies whose values count at a selection instant: those that compute in Twin mode, both in Span mode (R142, R143). -/
def State.judges (s : State) : List DieId := if s.span then [.a, .b] else [DieId.a, DieId.b].filter fun d => s.up d

/-- The zones of canvas `c` take their scales for frame `n`, the lower of the dies' (R141, R142): a difference is an error of the die with
the higher one. `withheld` says that the FLIP before was withheld. While the dies of a Span package are apart each keeps its own. -/
def scaleZones (s : State) (c n : Nat) (withheld : Bool) : State × List (Nat × Nat) × List (Nat × Nat) :=
  (s.zonesOf c).foldl (fun a z =>
    let l := a.1.judges
    let da := l.headD .a
    let db := l.getLastD .a
    let x := zoneScale a.1 da c z withheld
    let y := zoneScale a.1 db c z withheld
    let split := a.1.split
    let g := if split then x.1 else min x.1 y.1
    let gB := if split then some y.1 else none
    let hard := x.2 || y.2
    let old := a.1.zone z
    let s1 := a.1.modZone z fun w => { w with g := some g, gB := gB, frame := n, hard := if hard then w.hard + 1 else w.hard }
    let s2 := if s1.twin && decide (x.1 ≠ y.1) then recordError s1 (if x.1 < y.1 then db else da) .oneSided else s1
    let s3 := if hard then raise s2 (128 + z) 1 0 n else s2
    let s4 := if old.g = some g && decide (old.gB = gB) then s3
      else (zoneTiles s3 c z).foldl (fun s p => markRegion s c p.tile 256 n) s3
    (s4, a.2.1 ++ [(z, g)], a.2.2 ++ [(z, y.1)])) (s, [], [])

/-- Arming of canvas `c` by die `d`'s own history (R146). -/
def armedIn (s : State) (c : Nat) (d : DieId) : Bool × Bool :=
  let h := (s.flash c).view d
  armedBy (s.flashW c 0) (s.canvas c).committed h.rises h.reds

/-- Arming of canvas `c` for frame `n`, with the events of each change (R146, R147, R154): the union of the dies' (R142), a die that does
not arm where the other does having a recorded error in Twin mode. (DEDUCED, log entry 65) -/
def armCanvas (s : State) (c n : Nat) : State :=
  let x := s.flash c
  let l := s.judges
  let a := l.any fun d => (armedIn s c d).1
  let r := l.any fun d => (armedIn s c d).2
  let s := if s.twin then l.foldl (fun s d => if (armedIn s c d) = (a, r) then s else recordError s d .oneSided) s else s
  let s1 := s.modFlash c fun y =>
    { y with armed := a, redArmed := r, frame := n, armedFrames := if a || r then y.armedFrames + 1 else y.armedFrames }
  let s2 := if a = x.armed then s1 else raise s1 (120 + c) (if a then 1 else 2) 0 n
  if r = x.redArmed then s2 else raise s2 (120 + c) (if r then 3 else 4) 0 n

/-! ### The patch map (R199 to R201) -/

/-- Two half-open rectangles overlap. -/
def rectsMeet (a b : Int × Int × Int × Int) : Bool :=
  decide (a.1 < b.2.2.1) && decide (b.1 < a.2.2.1) && decide (a.2.1 < b.2.2.2) && decide (b.2.1 < a.2.2.2)

/-- The slot frame that an order names for a layer in die `d`. -/
def FrameOrder.shows (o : FrameOrder) (d : DieId) (l : Nat) : Option (Nat × Nat) :=
  ((o.choicesOf d).find? fun c => c.layer = l).bind fun c => c.buf.map fun _ => (c.slot, c.frame)

/-- The clipped destinations, widened where scaled, of the layers whose named frame has changed (R199). -/
def changedRects (cfg : CanvasCfg) (d : DieId) (old : Option FrameOrder) (new : FrameOrder) : List (Int × Int × Int × Int) :=
  cfg.layers.filterMap fun l =>
    if (old.bind fun o => o.shows d l.1) = new.shows d l.1 then none
    else (layerRect cfg l.2).map fun (x0, y0, x1, y1) =>
      let w : Int := if l.2.scaled then 4 else 0
      ((x0 : Int) - w, (y0 : Int) - w, (x1 : Int) + w, (y1 : Int) + w)

/-- Region `i` of placement `p` is due in frame `n` by the sweep of R201. -/
def swept (n t i : Nat) : Bool := decide ((n + 16 * t) % 4096 = 16 * i)

/-- The patch map of a frame (R199, R200). -/
def patchMap (s : State) (c : Nat) (o : FrameOrder) : List (Nat × Nat) :=
  let cv := s.canvas c
  let cfg := cv.committed
  let armed := o.armed || o.redArmed || (match cv.prevOrder with
    | some p => p.armed || p.redArmed
    | none => false)
  cfg.tiles.flatMap fun p =>
    let d := s.holder s.lead p.tile
    let rects := changedRects cfg d cv.prevOrder o
    let whole := armed || (cfg.mesh && !rects.isEmpty) || o.changes.contains p.tile
    let dither := decide (((s.corr p.tile).active d).sprMode = 0)
    ((List.range p.regions).filter fun i =>
      let (x0, y0, x1, y1) := p.canvasRect i
      whole || dither || cv.marked p.tile i o.frame || swept o.frame p.tile i ||
        rects.any fun r => rectsMeet r ((x0 : Int), (y0 : Int), (x1 : Int), (y1 : Int))).map fun i => (p.tile, i)

/-- Marks carried to frame `n` are used up. -/
def dropMarks (s : State) (c n : Nat) : State :=
  s.modCanvas c fun x => { x with marks := x.marks.filter fun m => decide (n < m.2.2), markAll := x.markAll.filter fun m => decide (n < m) }

/-! ### The frame order (R19, R20, R254) -/

/-- The twin dies that compute a canvas now. -/
def State.computing (s : State) : List DieId := [DieId.a, DieId.b].filter fun d => s.up d

/-- The state of a canvas at the start of a frame with order `o`. -/
def beginFrame (s : State) (c n : Nat) (o : Option FrameOrder) : State :=
  s.modCanvas c fun x =>
    { x with prevOrder := x.order, order := o, next := n + 1, flipSent := false, heldBefore := x.withheld, withheld := false, repeated := false,
             tallied := false, scalers := [], noFlip := [], fmask := [], dmask := [], hold := [] }

/-- An order that names nothing: the repeat of a timing change or of a microcode switch, or a frame of Sleep. -/
def emptyOrder (s : State) (c n : Nat) (repeats : Bool) : FrameOrder :=
  let x := s.flash c
  { frame := n, choices := [], isRepeat := repeats, trims := [], changes := changingTiles s c n,
    zonesB := if s.split then some ((s.zonesOf c).map fun z => (z, ((s.zone z).gB).getD 32768)) else none,
    xids := (s.portsOf ((s.links.txns.filter fun y => y.inProgress).flatMap fun y => y.tiles)).map fun p => (p, (s.port p).xid),
    zones := (s.zonesOf c).map fun z => (z, ((s.zone z).g).getD 32768), armed := x.armed, redArmed := x.redArmed,
    patch := [], acked := !s.twin || !s.up s.lead.other, writtenBy := s.lead }

/-- A transaction of canvas `c` whose frame has come without every acknowledgement ends (R240, R241). -/
def failLate (s : State) (c n : Nat) : State :=
  (s.links.txns.filter fun x => x.inProgress && !x.committed && decide (x.canvas = some c) && decide (x.frame ≠ 0) && decide (x.frame ≤ n)).foldl
    (fun s x => failTxn s x (x.tiles.filter fun t => !x.acked.contains t)) s

/-- What takes effect at S(N) of every frame, repeated or silent ones too: PLT changes, a pending commit, correction bank switches; with the
tiles whose banks switch (R99, R122, R133). -/
def enterFrame (s : State) (c n : Nat) : State × List Nat :=
  let s1 := takeWaits s c n
  let s2 := match (s1.canvas c).pending with
    | some p => if p.frame ≤ n then takeCfg (s1.modCanvas c fun x => { x with pending := none }) c p.cfg n false else s1
    | none => s1
  (switchDue s2 c n, switchTiles s2 c n)

/-- S(N) of a frame that shows sources (R19, R63, R103, R122, R133, R141, R146, R199). -/
def selectFrame (s : State) (c n : Nat) (dark : Bool) : State :=
  let cv := s.canvas c
  let (s3, switches) := enterFrame s c n
  let (s4, zones, zonesB) := scaleZones s3 c n cv.withheld
  let s5 := armCanvas s4 c n
  let s6 := if dark then markCanvas s5 c n else judgeLate s5 c (cv.selTime n)
  let before := (s6.canvas c).committed.layers.map fun l => (l.1, s6.layer l.1)
  let (s6a, choices) := if dark then (s6, []) else chooseLayers s6 c n
  let (s7, choicesB) := choicesApart s6a c n choices
  let x := s7.flash c
  let trims := (s7.canvas c).committed.tileIds.foldl (fun m t => Tbl.set 0 m t (s7.safe t).factor) []
  let o : FrameOrder :=
    { emptyOrder s7 c n false with
        choices := choices, choicesB := choicesB, switches := switches, before := before, trims := trims, zones := zones
        zonesB := if s7.split then some zonesB else none, armed := x.armed, redArmed := x.redArmed }
  let s8 := s7.modCanvas c fun x => { x with prevOrder := x.order }
  let o' := { o with patch := patchMap s8 c o }
  placeStripes (dropMarks (beginFrame s7 c n (some o')) c n) c

/-- S(N) of a frame in which the canvas sends nothing (R471): scales start anew and no transition is counted. -/
def silentFrame (s : State) (c n : Nat) : State :=
  let (s1, switches) := enterFrame s c n
  let s2 := armCanvas (s1.each (s1.zonesOf c) fun s z => s.modZone z fun y => { y with g := none, gB := none }) c n
  (markCanvas (beginFrame s2 c n (some { emptyOrder s2 c n true with switches := switches })) c (n + 1)).modCanvas c fun x =>
    { x with repeated := true }

/-- S(N) of a frame that repeats for a timing change or a change of microcode (R222, R512): what is due takes effect, and zone scales and
arming are formed (R122, R133, R141, R146). -/
def repeatFrame (s : State) (c n : Nat) : State :=
  let (s1, switches) := enterFrame s c n
  let (s2, _, _) := scaleZones s1 c n (s.canvas c).withheld
  let s3 := armCanvas s2 c n
  beginFrame s3 c n (some { emptyOrder s3 c n true with switches := switches })

/-- No die leads: in Twin mode the lead is fenced, and the other die has not been promoted yet (R251, R254, R264). -/
def State.noLead (s : State) : Bool := s.twin && decide ((s.die s.lead).role ≠ .lead)

/-- S(N) of canvas `c` that runs (R20, R222, R251, R471, R472, R512). Only a lead writes a frame order. -/
def select (s : State) (c : Nat) : State :=
  let n := (s.canvas c).next
  let s0 := failLate s c n
  let cv := s0.canvas c
  if (s0.computing).isEmpty || s0.noLead then (beginFrame s0 c n none).modCanvas c fun x => { x with repeated := true }
  else
    match framePhase s0 c n with
    | .silent => silentFrame s0 c n
    | .dark => selectFrame s0 c n true
    | .normal =>
      if (match cv.change with
        | some ch => decide (n = ch.m + 1)
        | none => false) then repeatFrame s0 c n
      else if cv.mcFrame = some n then
        markCanvas ((repeatFrame s0 c n).modCanvas c fun x => { x with repeated := true }) c (n + 1)
      else selectFrame s0 c n false

/-- SELECTION_INSTANT (R20, R45, R197): at S(N), after the flip that falls on the same instant. An idle canvas with a pending
commit starts with its first frame. (DESIGN CHOICE, log entry 43) -/
def execSelectionInstant (canvas : Nat) (s : State) : Host.Outcome State Fault Refusal :=
  .next <|
    let cv := s.canvas canvas
    if cv.running then (if cv.next = cv.frame + 1 then select s canvas else s)
    else
      match cv.pending with
      | some p => if p.frame = 0 then s else select (startCanvas s canvas p) canvas
      | none => s

/-- Canvas `c` as it was before the selection instant of its frame in production. -/
def Canvas.unselected (x : Canvas) : Canvas := { x with order := x.prevOrder, next := x.next - 1, withheld := x.heldBefore }

/-- The frame order of a canvas waits for nobody any more: the frame's work is dispatched (R254). -/
def ackOrder (s : State) (c : Nat) : State :=
  match (s.canvas c).order with
  | some o => if o.acked then s
    else placeStripes (s.modCanvas c fun x => { x with order := some { o with acked := true } }) c
  | none => s

/-- A promoted die that does not hold the frame order of a frame in production writes its own (R63, R264): the choices of source frames by
what it knows now, the zone scales and arming that both dies form at S(N) as they stand. -/
def rewriteOrder (s : State) (c : Nat) (o : FrameOrder) (d : DieId) : State :=
  if o.isRepeat then s.modCanvas c fun x => { x with order := some { o with acked := true, writtenBy := d } }
  else
    let s1 := o.before.foldl (fun s x => s.modLayer x.1 fun _ => x.2) (endUses s c o.frame)
    let (s2, choices) := if framePhase s1 c o.frame = .dark then (s1, []) else chooseLayers s1 c o.frame
    let o1 := { o with choices := choices, choicesB := none, acked := true, writtenBy := d }
    let o2 := { o1 with patch := (o.patch ++ patchMap s2 c o1).dedup }
    placeStripes (s2.modCanvas c fun x => { x with order := some o2 }) c

/-- Frame orders at a promotion (R254, R264): one that the die holds goes on; one that it does not hold, or that nobody wrote, it writes. -/
def takeOrders (s : State) (d : DieId) : State :=
  s.each (below 4 fun c => (s.canvas c).running) fun s c =>
    match (s.canvas c).order with
    | some o => if o.acked then s else if o.writtenBy = d then ackOrder s c else rewriteOrder s c o d
    | none => if (s.canvas c).next = (s.canvas c).frame + 2 then select (s.modCanvas c Canvas.unselected) c else s

/-- FRAME_ORDER_ACK (R254): the shadow holds the frame order of the canvas. -/
def execFrameOrderAck (canvas : Nat) (s : State) : Host.Outcome State Fault Refusal :=
  .next <|
    if s.twin && s.up s.lead && s.up s.lead.other then ackOrder s canvas else s

/-- FRAME_ORDER_ACK_TIMEOUT (R254, R255): the lead sets FENCE_REQ in an extra heartbeat. -/
def execFrameOrderAckTimeout (canvas : Nat) (s : State) : Host.Outcome State Fault Refusal :=
  .next <|
    let late := match (s.canvas canvas).order with
      | some o => !o.acked
      | none => false
    if s.twin && late && s.up s.lead && s.up s.lead.other && !(s.die s.lead).fenceReq then
      sendHeartbeat (s.modDie s.lead fun x => { x with fenceReq := true }) s.lead
    else s

end Sys2Proof.Machine
end

