-- ==== Sys2Proof/Machine/LinkRows.lean ====
section
/-! DEFINITION. What arrives on the tile links and how segments come and go: ECHO, STATUS, PONG, discarded and invalid
frames, receive states, TIME SYNC and KEEPALIVE, hop calibration (R161, R166, R173, R184, R188 to R195, R204, R205, R217,
R221, R227, R240, R241, R249, R250). -/

namespace Sys2Proof.Machine

/-- A port hears upstream frames: its die runs unfenced and its segment is UP. -/
def State.hears (s : State) (p : Nat) : Bool := s.up (portDie p) && (decide ((s.port p).rx = .up) || decide ((s.port p).rx = .upQuiet))

/-- A frame arrives at a sender port (R161, R162, R166, R173): control blocks of reserved types and corrected words are counted; an invalid
frame is counted with its uncorrectable words, a valid one of ORIGIN 0 to 2 as discarded; any other is heard. -/
def hear (s : State) (p : Nat) (a : Arrival) : State × Option Frame :=
  let s1 := s.modPort p fun x =>
    { x with nReserved := x.nReserved + BitVec.ofNat 32 (a.fill.countP fun t => !knownControl t)
             nCorrected := x.nCorrected + BitVec.ofNat 32 (fixedWords a) }
  match frameOf a with
  | none => (s1.modPort p fun x => { x with nInvalid := x.nInvalid + 1, nUncorr := x.nUncorr + BitVec.ofNat 32 (badWords a) }, none)
  | some f => if f.origin ≤ 2 then (s1.modPort p fun x => { x with nOrigin := x.nOrigin + 1 }, none) else (s1, some f)

/-- The value `a` is newer than the stored `b` (R174). -/
def newer (a b : BitVec 32) : Bool := decide (1 ≤ (a - b).toNat) && decide ((a - b).toNat < 2 ^ 31)

/-- Takes an upstream frame's UCNT (R168): none when it is stale, which is counted (R334). -/
def takeUcnt (s : State) (p : Nat) (h : Frame) : State × Bool :=
  let fresh := match Tbl.get none (s.port p).ucnt h.tile with
    | some u => newer h.ucnt u
    | none => true
  if fresh then (s.modPort p fun x => { x with ucnt := Tbl.set none x.ucnt h.tile (some h.ucnt) }, true)
  else (s.modPort p fun x => { x with nStale := x.nStale + 1 }, false)

/-! ### ECHO (R187, R189, R217, R240) -/

/-- An ECHO entry of a frame with these low 24 bits comes after F(N) (R334). -/
def echoLate (s : State) (tile frame24 : Nat) : Bool :=
  match s.canvasOf tile with
  | some c => decide (((s.canvas c).frame % 2 ^ 24 + 2 ^ 24 - frame24) % 2 ^ 24 < 2 ^ 23)
  | none => false

/-- A KIND 0 entry (R217, R334): it confirms the region sent, and the send of the frame before, or is a mismatch with event 0x05.
(DEDUCED, log entry 83) -/
def echoRegion (s : State) (p tile frame24 region : Nat) (crc : BitVec 32) : State :=
  let s1 := if echoLate s tile frame24 then s.modPort p fun y => { y with nLateEcho := y.nLateEcho + 1 } else s
  match (s.port p).sent.find? fun x => x.tile = tile && x.region = region && x.frame % 2 ^ 24 = frame24 with
  | none => s1
  | some x =>
    let s2 := match Tbl.get none (s1.results (portDie p)) (tile * 256 + region) with
      | some r => if r.frame = x.frame then s1.modResults (portDie p) fun t =>
          Tbl.set none t (tile * 256 + region) (some { r with echoed := some crc }) else s1
      | none => s1
    if x.crc = crc then
      s2.modPort p fun y => { y with sent := y.sent.map fun z =>
        if z.tile = tile && z.region = region && (z.frame = x.frame || z.frame + 1 = x.frame) then { z with confirmed := true } else z }
    else
      raise (s2.modPort p fun y =>
        { y with nMismatch := y.nMismatch + 1, sent := y.sent.map fun z => if z = x then { z with mismatch := true } else z })
        (portSource p) 5 (put tile 9 0 ||| put region 8 16) x.frame

/-- A stage acknowledgement (R187, R240): with the lead's CRC it counts, and the last one commits; with another the tile is
staged again. A tile staged again after COMMIT is committed again. -/
def ackStage (s : State) (x : Txn) (t : Nat) (crc : BitVec 32) : State :=
  if crc ≠ x.crc t then sendStage s x t
  else if x.committed then (if x.done.contains t then s else sendCommit s x t)
  else
    let y := { x with acked := if x.acked.contains t then x.acked else t :: x.acked }
    let s1 := s.modTxn (fun z => z.same x && z.inProgress) fun _ => y
    if x.kind ≠ .reset && y.tiles.all fun k => y.acked.contains k then commitTxn s1 y else s1

/-- A COMMIT result (R187, R240, R241): 0 or 1 counts, 2 or 3 stages the tile again. A tile that was held in DMASK for its
RESULT is shown again from the next frame. -/
def takeResult (s : State) (x : Txn) (t result : Nat) : State :=
  if 2 ≤ result then (if x.committed && !x.done.contains t then sendStage s x t else s)
  else if x.done.contains t || !x.committed then s
  else
    let y := { x with done := t :: x.done }
    let s1 := applyBlocks (s.modTxn (fun z => decide (z = x)) fun _ => y) y t
    let s2 := if (s1.tile t).awaitResult then markTile (s1.modTile t fun z => { z with awaitResult := false }) t else s1
    if y.inProgress && decide (y.frame = 0) && y.tiles.all fun k => y.done.contains k then
      closeTxn s2 y
    else s2

/-- One entry of an ECHO (R189). -/
def echoEntry (s : State) (p tile frame24 : Nat) (w : Word) : State :=
  let index := fld w 47 32
  let crc : BitVec 32 := BitVec.ofNat 32 (fld w 31 0)
  match fld w 49 48 with
  | 0 => echoRegion s p tile frame24 index crc
  | 1 =>
    match s.links.txns.find? fun x => x.inProgress && decide (x.xid.toNat = index) && x.tiles.contains tile with
    | some x => ackStage s x tile crc
    | none => s
  | 2 =>
    match s.links.txns.find? fun x => decide (x.xid.toNat = index) && x.tiles.contains tile with
    | some x => takeResult s x tile (fld w 1 0)
    | none => s
  | _ => s

/-- A valid ECHO is taken (R189, R217): its entries in order, unless its UCNT is stale. -/
def takeEcho (s : State) (port : Nat) (f : Frame) : State :=
  let (s1, fresh) := takeUcnt s port f
  if fresh then s1.each f.payload fun s w => echoEntry s port f.tile f.frame24 w else s1

/-- ECHO_RECEIVED (R166, R187, R189, R217, R218, R240, R241). -/
def execEchoReceived (port : Nat) (fill : List Byte) (codes : List Code) (s : State) : Host.Outcome State Fault Refusal :=
  .next <|
    if !s.hears port then s
    else
      let (s1, f) := hear s port ⟨fill, codes⟩
      match f with
      | some f => if f.type = 8 then takeEcho s1 port f else s1
      | none => s1

/-! ### STATUS (R245, R249, R250, R553) -/

/-- The 48-bit frame of a tile's last executed flip, from its low 24 bits (R167). -/
def fullFrame (s : State) (t : Nat) (low : Nat) : Nat :=
  let n := tileFrame s t
  n - (n - low) % 2 ^ 24

/-- A tile's firmware version in STATUS (R247, R517): a tile under relay that reports a new one is activated. -/
def takeVersion (s : State) (t : Nat) (ver : BitVec 32) : State :=
  let old := (s.tile t).fwVersion
  let s1 := s.modTile t fun x => { x with fwVersion := some ver }
  match s.firmware.relay with
  | some x =>
    if x.tiles.contains t && !x.waiting.contains t && old.isSome && old ≠ some ver then
      tileEvent (s1.modFirmware fun f => { f with relay := some { x with tiles := x.tiles.filter fun k => k ≠ t } }) t 6
    else s1
  | none => s1

/-- The telemetry of R140 gathers the mean current and the board temperature of a STATUS. (DEDUCED, log entry 61) -/
def gather (s : State) (t : Nat) (words : List Word) : State :=
  s.modSafe t fun x => { x with statusI := fld (wordAt words 1) 15 0 :: x.statusI, statusT := signed 16 (fld (wordAt words 0) 15 0) :: x.statusT }

/-- The events that a STATUS gives rise to (R245): ILIM newly reported, and a dust-sheet state without a bit in the DMASK of the last FLIP or
of the one that is due, once.
(DEDUCED, log entry 61) -/
def statusEvents (s : State) (t : Nat) (old : Option StatusRec) (words : List Word) : State :=
  let w := wordAt words 2
  let was := match old with
    | some x => bit (wordAt x.words 2) 2
    | none => false
  let s1 := if bit w 2 && !was then tileEvent s t 3 else s
  let masked := (s1.tile t).awaitResult || (match s1.canvasOf t with
    | some c => (s1.canvas c).dmask.contains t || (s1.canvas c).lastDmask.contains t
    | none => false)
  if !bit w 0 then s1.modTile t fun x => { x with dustTold := false }
  else if masked || (s1.tile t).dustTold then s1
  else tileEvent (s1.modTile t fun x => { x with dustTold := true }) t 4

/-- A link of the tile has come UP since its last STATUS: a segment of the loop came UP (R199, R205). -/
def segmentRose (old : Option StatusRec) (words : List Word) : Bool :=
  match old with
  | some x =>
    let up := fun (b : Nat) => bit (wordAt words 2) b && !bit (wordAt x.words 2) b
    up 6 || up 7
  | none => false

/-- Every tile of a loop or chain is marked and its hops calibrated, as a segment came UP (R199, R205). -/
def segmentUp (s : State) (port : Nat) : State :=
  s.each (s.portTiles port) fun s t => startHops (markTile s t) t

/-- The first STATUS after ASSIGN, or one of a tile held back for its STATUS, is judged (R227 step 4, R553); any other for its I_HW
(R250). -/
def judgeStatus (s : State) (t : Nat) : State :=
  let x := s.tile t
  let waits := x.awaitStatus || (match x.held with
    | some k => decide (4 ≤ k)
    | none => false)
  if !waits || !x.assigned then (if x.assigned && x.held.isNone && iHwShort s t then holdBack s t 6 else s)
  else
    match statusCause s t with
    | some k => holdBack (s.modTile t fun y => { y with awaitStatus := false }) t k
    | none => configureTile s t

/-- A valid STATUS is taken by its die (R227, R235, R245, R248 to R250, R553). What it gives rise to follows where it is news: not the other
die's copy of one taken already, nor an older one. (DEDUCED, log entry 61) -/
def takeStatus (s : State) (port : Nat) (h : Frame) : State :=
  let (s1, fresh) := takeUcnt s port h
  let words := h.payload
  let t := h.tile
  if !fresh || !(s1.tile t).assigned then s1
  else
    let old := (s1.tile t).newest
    let rec0 : StatusRec := { words := words, frame := fullFrame s1 t h.frame24, at_ := s1.uptime }
    let known := match old with
      | some x => decide (rec0.frame < x.frame) || (decide (x.words = words) && decide (x.frame = rec0.frame))
      | none => false
    let s2 := s1.modTile t fun x => { x.setStatus (portDie port) (some rec0) with quietSent := false }
    if known && !(s1.tile t).awaitStatus then s2
    else
      let s3 := statusEvents (gather s2 t words) t old words
      let s4 := takeVersion s3 t (BitVec.ofNat 32 (fld (wordAt words 2) 63 32))
      let s5 := judgeStatus s4 t
      let s6 := if segmentRose old words then segmentUp s5 (s.mapPort port) else s5
      settleChain s6 (s.mapPort port)

/-- STATUS_RECEIVED (R166, R250). (DEDUCED, log entry 61) -/
def execStatusReceived (port : Nat) (fill : List Byte) (codes : List Code) (s : State) : Host.Outcome State Fault Refusal :=
  .next <|
    if !s.hears port then s
    else
      let (s1, f) := hear s port ⟨fill, codes⟩
      match f with
      | some f => if f.type = 7 then takeStatus s1 port f else s1
      | none => s1

/-! ### PONG: assignment and hop delays (R204, R205, R227, R531) -/

/-- The first pair of runs that agree within 0.5 ns, the two first runs before any with the third, the closest first. -/
def hopPair (l : List Int) : Option (Int × Int) :=
  let near := fun (a b : Int) => decide ((a - b).natAbs ≤ 32768)
  match l with
  | [a, b] => if near a b then some (a, b) else none
  | [a, b, c] =>
    let ps := [(a, b), (a, c), (b, c)].filter fun p => near p.1 p.2
    ps.foldl (fun best p =>
      match best with
      | none => some p
      | some q => if (p.1 - p.2).natAbs < (q.1 - q.2).natAbs then some p else best) none
  | _ => none

/-- TIME SET with a tile's LINKDLY (R184, R205). -/
def sendSet (s : State) (p pos : Nat) : State :=
  match (s.tilesAt p).find? fun t => s.posOf t = pos with
  | none => s
  | some t => sendTime (s.modHop p pos fun h => { h with setDue := false }) p 3 (BitVec.ofNat 64 (s.hop p pos).linkdly) t false

/-- A FLIP of some canvas has left port `p` and its flip has not passed: SET waits (R205). -/
def flipPending (s : State) (p : Nat) : Bool :=
  (s.tilesAt p).any fun t =>
    match s.canvasOf t with
    | some c => (s.canvas c).running && (s.canvas c).flipSent && decide ((s.canvas c).frame < (s.canvas c).lastFlipFrame)
    | none => false

/-- A hop calibration ends (R205, R531, R532): the agreeing mean is written, or the old value stays and is suspect. -/
def endHop (s : State) (p pos : Nat) (pair : Option (Int × Int)) : State :=
  let s1 := s.modHop p pos fun h => { h with due := false, sentAt := none, time := s.wall }
  match pair with
  | none => s1.modHop p pos fun h => { h with suspect := true }
  | some (a, b) =>
    let s2 := s1.modHop p pos fun h =>
      { h with linkdly := (roundDivI (a + b) 2).toNat, spread := (a - b).natAbs, suspect := false, setDue := true }
    if flipPending s2 p then s2 else sendSet s2 p pos

/-- A run of a hop calibration (R204): half of what the round trip leaves after turnaround and residence. (DEDUCED, log entry 63) -/
def hopRun (s : State) (p pos : Nat) (words : List Word) (t4 : Int) : State :=
  let trip := t4 - (wordAt words 1).toNat * 65536
  let d := roundDivI (trip - (wordAt words 3).toNat - (wordAt words 2).toNat) 2
  let runs := (s.hop p pos).runs ++ [d]
  let s1 := s.modHop p pos fun h => { h with runs := runs, sentAt := none }
  match hopPair runs with
  | some x => endHop s1 p pos (some x)
  | none =>
    if 3 ≤ runs.length then endHop s1 p pos none
    else sendPing (s1.modHop p pos fun h => { h with sentAt := some s1.wall }) p pos

/-- A PONG answers the assignment PING of tile `t` (R227 steps 1 to 3, R553). A tile without an identifier has been reset and
holds no blocks. -/
def pongAssign (s : State) (t : Nat) (caps serial : Word) : State :=
  let s1 := s.modTile t fun x =>
    let y := { x with assigning := false, caps := some caps, serial := serial }
    if bit caps 5 then { y with assigned := false, held := none, statusA := none, statusB := none, raster := none, scan := none, drive := none }
    else y
  match (s1.tile t).map with
  | none => s1
  | some m =>
    let off := fun (s : State) => s.modTile t fun x => { x with assigned := false }
    let s2 := if bit caps 5 then s1.each (s1.portsTo t) fun s p => s.modPort p fun x => { x with ucnt := Tbl.set none x.ucnt t none } else s1
    if m.serial ≠ 0 && serial ≠ m.serial then tileEvent ((off s2).modTile t fun x => { x with held := none }) t 7
    else
      match capsCause s2 t caps with
      | some k => holdBack (off s2) t k
      | none => assignTile s2 t

/-- A valid PONG is taken (R184, R185, R204, R205, R227). `t4` is the arrival of START in 2^-16 ns of wall time.
(DEDUCED, log entry 63) -/
def takePong (s : State) (port : Nat) (words : List Word) (t4 : Int) : State :=
  match s.tileAway port (fld (wordAt words 0) 11 8) with
  | none => s
  | some t =>
    let pos := s.posOf t
    if (s.hop port pos).sentAt = some (wordAt words 1).toNat && (s.hop port pos).due then hopRun s port pos words t4
    else if (s.tile t).assigning && port = s.leadPort (s.mapPort port) then
      let s2 := pongAssign s t (wordAt words 4) (wordAt words 5)
      let s3 := if (s2.tile t).assigned then startHops s2 t else s2
      settleChain s3 (s3.mapPort port)
    else s

/-- PONG_RECEIVED (R166, R204): a TIME frame of KIND 2. (DEDUCED, log entry 63) -/
def execPongReceived (port : Nat) (fill : List Byte) (codes : List Code) (t4 : Int) (s : State) : Host.Outcome State Fault Refusal :=
  .next <|
    if !s.hears port then s
    else
      let (s1, f) := hear s port ⟨fill, codes⟩
      match f with
      | some f => if f.type = 3 && decide (fld (wordAt f.payload 0) 3 0 = 2) then takePong s1 port f.payload t4 else s1
      | none => s1

/-! ### Discarded and invalid frames (R166, R173) -/

/-- DOWNSTREAM_FRAME_DISCARD (R173): counted, and no more. -/
def execDownstreamFrameDiscard (port : Nat) (a : Arrival) (s : State) : Host.Outcome State Fault Refusal :=
  .next (if s.hears port then (hear s port a).1 else s)

/-- UPSTREAM_FRAME_INVALID (R166): an invalid frame is counted; a valid frame of a reserved TYPE is ignored. -/
def execUpstreamFrameInvalid (port : Nat) (a : Arrival) (s : State) : Host.Outcome State Fault Refusal :=
  .next (if s.hears port then (hear s port a).1 else s)

/-! ### Receive states (R192, R195) -/

/-- A port's die runs, so that its receiver acts. -/
def State.alive (s : State) (p : Nat) : Bool := s.up (portDie p)

/-- Every calibration window on the loop of a port closes at once (R538). -/
def closeLoop (s : State) (p : Nat) : State :=
  closeWindows s fun i =>
    match i with
    | .tileLane _ k => decide (k = p % 32) && (s.twin || decide (diePortNo (match calDie i with
      | .b => .b
      | _ => .a) k = p))
    | _ => false

/-- LINK_SIGNAL_DETECT (R192). -/
def execLinkSignalDetect (port : Nat) (s : State) : Host.Outcome State Fault Refusal :=
  .next (if s.alive port && (s.port port).rx = .down then s.modPort port fun x => { x with rx := .locking } else s)

/-- Block lock is declared after 64 consecutive valid sync headers (R161): `headers` says of each whether it was valid.
(DESIGN CHOICE, log entry 78) -/
def lockFound (headers : List Bool) : Bool :=
  (List.range (headers.length + 1 - 64)).any fun i => ((headers.drop i).take 64).all id && decide (64 ≤ (headers.drop i).length)

/-- Block lock is lost on 16 invalid sync headers within 64 (R161). -/
def lockLost (headers : List Bool) : Bool :=
  (List.range headers.length).any fun i => decide (16 ≤ ((headers.drop i).take 64).countP fun h => !h)

/-- LINK_BLOCK_LOCK (R161, R192): LOCKING becomes ALIGNED; from UP, quiet, signal and lock are back. -/
def execLinkBlockLock (run : HeaderRun) (s : State) : Host.Outcome State Fault Refusal :=
  .next <|
    if !s.alive run.port || !lockFound run.headers then s
    else
      match (s.port run.port).rx with
      | .locking => s.modPort run.port fun x => { x with rx := .aligned }
      | .upQuiet => s.modPort run.port fun x => { x with rx := .up, rxSleep := false }
      | _ => s

/-- LINK_LOCK_TIMEOUT (R192, R195). (DESIGN CHOICE, log entry 43) -/
def execLinkLockTimeout (port : Nat) (s : State) : Host.Outcome State Fault Refusal :=
  .next <|
    if s.alive port && (s.port port).rx = .locking then raise (s.modPort port fun x => { x with rx := .down }) (portSource port) 3 0 else s

/-- LINK_UP (R190, R192, R194, R195, R199, R205, R533): event 0x01 and one IDLE frame; the loop's tiles are marked, their hops and the port's lane
calibration fall due. -/
def execLinkUp (port : Nat) (s : State) : Host.Outcome State Fault Refusal :=
  .next <|
    if s.alive port && (s.port port).rx = .aligned then
      let s0 := if (s.port port).tx = .quiet then wake s port true else if s.transmits port then emitIdle s port else s
      let s1 := raise (s0.modPort port fun x => { x with rx := .up }) (portSource port) 1 0
      let s2 := s1.modCal (.tileLane (portDie port) (port % 32)) fun c => { c with due := true, state := if c.state = 0 then 0 else 3 }
      segmentUp s2 (s2.mapPort port)
    else s

/-- A segment that was UP goes DOWN (R192, R195): its transmitter sends IDLE blocks and frames from now on. -/
def linkFalls (s : State) (port : Nat) : State :=
  let s1 := if s.transmits port then wake s port false else s
  closeLoop (raise (s1.modPort port fun x => { x with rx := .down, rxSleep := false }) (portSource port) 2 0) port

/-- LINK_DOWN (R161, R192): loss of block lock, or of signal without a QUIET block. -/
def execLinkDown (loss : LinkLoss) (s : State) : Host.Outcome State Fault Refusal :=
  .next <|
    if !s.alive loss.port || (loss.signal && !lockLost loss.headers) then s
    else
      match (s.port loss.port).rx with
      | .up => linkFalls s loss.port
      | _ => s

/-- LINK_QUIET (R192, R193): UP becomes UP, quiet, and the receiver may sleep. -/
def execLinkQuiet (port : Nat) (s : State) : Host.Outcome State Fault Refusal :=
  .next (if s.alive port && (s.port port).rx = .up then s.modPort port fun x => { x with rx := .upQuiet, rxSleep := true } else s)

/-- QUIET_SILENCE_TIMEOUT (R192). -/
def execQuietSilenceTimeout (port : Nat) (s : State) : Host.Outcome State Fault Refusal :=
  .next (if s.alive port && (s.port port).rx = .upQuiet then linkFalls s port else s)

/-! ### TIME SYNC, KEEPALIVE, hop calibration (R184, R190, R205, R221) -/

/-- TIME_SYNC (R183, R184, R190): in every state of the segment. (DESIGN CHOICE, log entry 43) (DESIGN CHOICE, log entry 26) -/
def execTimeSync (port : Nat) (s : State) : Host.Outcome State Fault Refusal :=
  .next (if s.transmits port then emitTime (wake s port false) port 0 0 0 true else s)

/-- KEEPALIVE (R190). -/
def execKeepalive (port : Nat) (s : State) : Host.Outcome State Fault Refusal :=
  .next (if s.transmits port then emitFrame (wake s port true) port (portHeader s port 9 false 0) 0 [] else s)

/-- HOP_CAL_PERIODIC (R205): one position of one port. -/
def execHopCalPeriodic (port pos : Nat) (s : State) : Host.Outcome State Fault Refusal :=
  .next (if (s.tilesAt port).any fun t => s.posOf t = pos then startHop s port pos else s)

/-- HOP_CAL for the common checks (R221). -/
def opHopCal : JcsOp := { opcode := 0x0823, long := true, reach := fun s r => seesPort s r.who (reqPort r) }
/-- HOP_CAL (R221): every position of the port is calibrated. -/
def hopCalBody (s : State) (r : Req) : Ans :=
  let p := reqPort r
  let s1 := s.each (s.tilesAt p) fun s t => startHop s p (s.posOf t)
  .accepted (s1.modLinks fun l => { l with hopJobs := l.hopJobs ++ [⟨r.who, s.nextLong r.who, p⟩] })
/-- HOP_CAL (R221). -/
def execHopCal (r : Req) (s : State) : Host.Outcome State Fault Refusal := .next (jcs opHopCal hopCalBody r s)

/-- HOP_CAL_COMPLETE (R221, R323): port event 0x08 and the completion of its commands, whose final status is OK; a position that has not
ended is suspect. -/
def execHopCalComplete (port : Nat) (s : State) : Host.Outcome State Fault Refusal :=
  .next <|
    match s.links.hopJobs.filter fun j => j.port = port with
    | [] => s
    | jobs =>
      let undone := (s.tilesAt port).filter fun t => (s.hop port (s.posOf t)).due
      let s1 := s.each undone fun s t => s.modHop port (s.posOf t) fun h => { h with due := false, sentAt := none, suspect := true }
      let s2 := raise (s1.modLinks fun l => { l with hopJobs := l.hopJobs.filter fun j => j.port ≠ port }) (portSource port) 8 0
      s2.each jobs fun s j => finishLong s j.src j.id 0

/-- HOP_READ for the common checks (R221). -/
def opHopRead : JcsOp := { opcode := 0x0824, reach := fun s r => seesPort s r.who (reqPort r), zeros := fun _ _ => 4 }
/-- HOP_READ (R221): a position whose tile the function does not own, or that has none, reads as zeros. -/
def hopReadBody (s : State) (r : Req) : Ans :=
  let p := reqPort r
  let pos := fld (r.word 0) 11 8
  match (s.tilesAt p).find? fun t => s.posOf t = pos with
  | none => .ok s [0, 0, 0, 0]
  | some t =>
    if !s.owns r.who 4 t then .ok s [0, 0, 0, 0]
    else
      let h := s.hop p pos
      .ok s [put t 9 0 ||| putB h.suspect 9, BitVec.ofNat 64 h.linkdly, put h.spread 32 0, BitVec.ofNat 64 h.time]
/-- HOP_READ (R221). -/
def execHopRead (r : Req) (s : State) : Host.Outcome State Fault Refusal := .next (jcs opHopRead hopReadBody r s)

end Sys2Proof.Machine
end

