-- ==== Sys2Proof/Machine/Pipeline.lean ====
section
/-! DEFINITION. Regions of a frame: computing and checking them, reports and votes, sending, probes; engine watchdogs and
region resets (R24 to R30, R105, R129, R130, R149, R150, R165, R180, R202, R211 to R213, R217, R265 to R270). -/

namespace Sys2Proof.Machine

/-! ### Computing a region (R105, R129, R139, R149, R265) -/

/-- A region's rectangle in its tile, its lamp stages pixel by pixel (R105). (DEDUCED, log entry 81) -/
def regionStages (s : State) (d : DieId) (c : Nat) (p : Placement) (o : FrameOrder) (dark : Bool) (i : Nat) : List Stages :=
  let cfg := (s.canvas c).committed
  let x := tileLimits s d c p.tile o dark
  let k := (s.corr p.tile).active d
  let (x0, y0, w, h) := p.rect i
  (List.range h).flatMap fun dv => (List.range w).map fun du =>
    let (cx, cy) := p.toCanvas (x0 + du) (y0 + dv)
    correctPixel x k (k.mismatch cfg) cfg.np p.tw o.frame (x0 + du) (y0 + dv) (composedAt s d c cfg (o.named d) cx cy)

/-- The payload words of a region (R180). -/
def regionWords (np w : Nat) (lamps : List (BitVec 16)) : List Word :=
  (chunks (w * np) lamps.length lamps).flatMap fun row =>
    (chunks 4 row.length row).map fun l => orW ((List.range 4).map fun i => put (l.getD i 0).toNat 16 (16 * i))

/-- The CRC-32C over a region's payload (R189, R265). -/
def regionCrc (np w : Nat) (lamps : List (BitVec 16)) : BitVec 32 := crc32c (wordBytes (regionWords np w lamps))

/-- The cluster that computes a region (R27): one of the active clusters of its region, of the die where two are retired;
which one is open (DESIGN CHOICE, log entry 31). -/
def pickCluster (s : State) (d : DieId) (r : Nat) : Nat :=
  let x := s.die d
  let own := x.activeList.filter fun c => c / 4 = r
  let l := if 2 ≤ (below 4 fun q => !x.serviceable (4 * r + q)).length then x.activeList else own
  l.getD (s.freeWord.toNat % max 1 l.length) (4 * r)

/-- Counters and event of a region that Scrim blocks (R150, R153, R154). -/
def blockRegion (s : State) (d : DieId) (t i n : Nat) (b : ScrimBlock) : State :=
  let r := s.regionOf t
  let data := put t 9 0 ||| put i 8 16
  match b with
  | .cap => raise (s.modScrim d r fun x => { x with capBlocks := x.capBlocks + 1 }) (regionSource d r) 1 data n
  | .flash => raise (s.modScrim d r fun x => { x with flashBlocks := x.flashBlocks + 1 }) (regionSource d r) 2 data n
  | .table => s

/-- The two words of a region report (R265). -/
def reportWords (t i n outcome : Nat) (crc : BitVec 32) : Word × Word :=
  (crc.setWidth 64 ||| put i 8 32 ||| put t 9 40 ||| put outcome 3 49, put n 48 0)

/-- A die's region report leaves for the other die (R265). -/
def sendReport (s : State) (d : DieId) (t i n outcome : Nat) (crc : BitVec 32) : State :=
  let w := reportWords t i n outcome crc
  if s.twin then s.emit (.report d w.1 w.2) else s

/-- Records the outcome of a region in a die and reports it (R265). What is not sent leaves the lamp values that the tile holds. -/
def endRegion (s : State) (d : DieId) (t i n outcome cluster : Nat) (crc : BitVec 32) (lamps : List (BitVec 16))
    (demand : List Nat) (limited : Nat) : State :=
  let old := s.result d t i
  (sendReport s d t i n outcome crc).setResult d t i
    { frame := n, outcome := outcome, crc := crc, lamps := if outcome = 0 then lamps else (old.map fun x => x.lamps).getD [],
      demand := if demand.isEmpty then (old.map fun x => x.demand).getD [] else demand, limited := limited, under := false,
      cluster := cluster, reported := false, sentCrc := none, echoed := none }

/-- A record line of the region is poisoned in a die (R129). The records of a bank that does not match its canvas are not read (R128). -/
def recordBad (s : State) (d : DieId) (c : Nat) (p : Placement) (i : Nat) : Bool :=
  let cfg := (s.canvas c).committed
  let x := s.corr p.tile
  !(x.active d).mismatch cfg && (x.poison d).any fun line => (lineRegions p cfg.recSize line).contains i

/-- The regions and the FLIP of frame `n` of canvas `c` may still leave: it is not past F(N) − 200 µs (R20, R32, R202). -/
def inTime (s : State) (c n : Nat) : Bool := decide ((s.wall : Int) + 200000 ≤ (s.canvas c).flipTime n)

/-! ### The probe's capture (R130) -/

/-- Two values of a capture word. -/
def probePair (l : List Nat) (i : Nat) : Word := put (l.getD i 0) 32 0 ||| put (l.getD (i + 1) 0) 32 32

/-- The capture words of a pixel (R130). -/
def probeWords (n : Nat) (x : Stages) (lamps : List Nat) : List Word :=
  let tri := fun (c : Rgb) => [put c.1 32 0 ||| put c.2.1 32 32, put c.2.2 32 0]
  [put n 48 0 ||| putB true 48] ++ tri x.v ++ tri x.t ++
    [probePair x.y 0, probePair x.y 2, probePair x.c3 0, probePair x.c3 2, probePair x.c6 0, probePair x.c6 2,
     orW ((List.range 4).map fun i => put (lamps.getD i 0) 16 (16 * i))]

/-- The region of a placement that holds tile pixel (u, v). -/
def Placement.regionAt (p : Placement) (u v : Nat) : Nat :=
  ((List.range p.regions).find? fun i =>
    let (x0, y0, w, h) := p.rect i
    decide (x0 ≤ u) && decide (u < x0 + w) && decide (y0 ≤ v) && decide (v < y0 + h)).getD 0

/-- A probe in flight takes its capture as die `d` computes region `i` in frame `n` of canvas `c` (R130). -/
def captureProbe (d : DieId) (c : Nat) (pl : Placement) (i n np : Nat) (st : List Stages) (lamps : List (BitVec 16)) (p : Probe) : Probe :=
  if p.die = d && p.tile = pl.tile && p.taken.isNone && decide (pl.regionAt p.u p.v = i) && (p.frame = 0 || (p.frame = n && p.canvas = c)) then
    let (x0, y0, w, _) := pl.rect i
    let k := (p.v - y0) * w + (p.u - x0)
    match st[k]? with
    | some x => { p with taken := some (n, probeWords n x ((List.range np).map fun j => (lamps.getD (k * np + j) 0).toNat)) }
    | none => p
  else p

/-- Every function's probes in flight take their captures from a region that die `d` has computed (R130). -/
def captureProbes (s : State) (d : DieId) (c : Nat) (pl : Placement) (i n np : Nat) (st : List Stages) (lamps : List (BitVec 16)) : State :=
  s.each (s.hub.funcs.map fun x => x.1) fun s f =>
    s.modFunc f fun x => { x with probes := x.probes.map (captureProbe d c pl i n np st lamps) }

/-- A region is computed with these lamp values and census sums, and checked by Scrim (R149, R150): those of the pipeline where no fault
gives others. One whose records are poisoned is withheld (R129); one that comes after F(N) − 200 µs, or while the region's output is
blocked, is not sent (R29, R32). (DEDUCED, log entry 81) -/
def computeRegion (s : State) (d : DieId) (c : Nat) (p : Placement) (o : FrameOrder) (i : Nat) (fault : Option (List (BitVec 16)))
    (sums : Option (List Nat)) : State :=
  let cfg := (s.canvas c).committed
  let st := regionStages s d c p o (framePhase s c o.frame = .dark) i
  let (_, _, w, h) := p.rect i
  let good := st.flatMap fun x => x.lamps.map fun v => BitVec.ofNat 16 v
  let lamps := match fault with
    | some l => l
    | none => good
  let demand := sums.getD ((st.map fun x => x.census).foldl addLists (List.replicate cfg.np 0))
  let limited := (st.filter fun x => x.limited).length
  let cluster := pickCluster s d (s.regionOf p.tile)
  let crc := regionCrc cfg.np w lamps
  if recordBad s d c p i then recordError (endRegion s d p.tile i o.frame 1 cluster 0 [] [] 0) d .poison
  else if ((s.die d).region (s.regionOf p.tile)).blocked || !inTime s c o.frame then endRegion s d p.tile i o.frame 4 cluster crc [] demand limited
  else
    let s := captureProbes s d c p i o.frame cfg.np st lamps
    match scrimCheck s d c p.tile lamps (w * h) with
    | none => endRegion s d p.tile i o.frame 0 cluster crc lamps demand limited
    | some b => blockRegion (endRegion s d p.tile i o.frame 2 cluster crc [] demand limited) d p.tile i o.frame b

/-- The order and placement of a marked region that die `d` computes now, not yet computed (R20, R23, R251, R254, R275): only from an order
that it holds as the lead's. -/
def regionDue (s : State) (d : DieId) (t i : Nat) : Option (Nat × FrameOrder × Placement) :=
  match s.canvasOf t with
  | none => none
  | some c =>
    match (s.canvas c).order, (s.canvas c).committed.place t with
    | some o, some p =>
      if (s.up d || s.verifies d) && (s.tileDies t).contains d && o.acked && decide (o.frame = (s.canvas c).frame + 1) && o.patch.contains (t, i) &&
          !(s.canvas c).flipSent && decide ((s.result d t i).map (fun r => r.frame) ≠ some o.frame) then some (c, o, p) else none
    | _, _ => none

/-- REGION_COMPUTED (R24, R28, R29, R32, R105, R129, R149, R150, R265): a die's work on a marked region ends. A poisoned word in a store
retires the cluster, and the item comes out again. -/
def execRegionComputed (die : DieId) (tile region : Nat) (result : Computed) (s : State) : Host.Outcome State Fault Refusal :=
  .next <|
    match regionDue s die tile region with
    | none => s
    | some (c, o, p) =>
      let poisoned := fun (s : State) =>
        recordError (endRegion s die tile region o.frame 1 (pickCluster s die (s.regionOf tile)) 0 [] [] 0) die .poison
      let k := pickCluster s die (s.regionOf tile)
      let s := soilCluster s die k
      let s1 := match result with
        | .storePoison => retireCluster (recordError s die .poison) die k .poison
        | .storeFixed => computeRegion (s.modCluster die k fun x => { x with corrected := x.corrected + 1 }) die c p o region none none
        | .poisonedPixel => poisoned s
        | .poisonedRecord line => poisoned (s.poisonRecord die tile line)
        | .unfinished => endRegion s die tile region o.frame 4 (pickCluster s die (s.regionOf tile)) 0 [] [] 0
        | .good => computeRegion s die c p o region none none
        | .wrong l => computeRegion s die c p o region (some l) none
        | .census l => computeRegion s die c p o region none (some l)
      s1.drawn

/-! ### Reports and votes (R265 to R270) -/

/-- The two dies run the same microcode, so that reports are compared (R511). -/
def State.sameMicrocode (s : State) : Bool := decide (s.firmware.mcRunA = s.firmware.mcRunB)

/-- The slice on the cluster that replays for a region gives way to the replay, after a scrub (R32). -/
def clearForReplay (s : State) (d : DieId) (r : Nat) : State :=
  match replayUnit s d r with
  | some k => abortSlice s d k
  | none => s

/-- A replay that cannot run ends its vote (R32, R269): deferred, no CRC trusted. -/
def deferVote (s : State) (v : Vote) : State := endVote s v 7 0 none

/-- A vote on a region begins (R32, R267, R269, R282): a die in which no cluster rests defers it. (DEDUCED, log entry 68) -/
def startVote (s : State) (c t i n : Nat) (a b : RegionRes) : State :=
  let v : Vote := { tile := t, region := i, frame := n, canvas := c, a0 := a.crc, b0 := b.crc, clusterA := some a.cluster, clusterB := some b.cluster,
                    repA := replayUnit s .a (s.regionOf t), repB := replayUnit s .b (s.regionOf t) }
  let s1 := (s.modTwin fun x => { x with votes := x.votes ++ [v], mismatches := x.mismatches + 1 }).modTile t fun x =>
    { x with mismatches := x.mismatches + 1 }
  let s2 := raise s1 201 1 (put t 9 0 ||| put i 8 16) n
  if v.repA.isNone || v.repB.isNone then deferVote s2 v
  else clearForReplay (clearForReplay s2 .a (s.regionOf t)) .b (s.regionOf t)

/-- Two reports are handled (R267, R268). (DEDUCED, log entry 67) -/
def compareReports (s : State) (c t i n : Nat) (a b : RegionRes) : State :=
  let oneSided := fun (d : DieId) (x : RegionRes) (s : State) =>
    if x.outcome = 2 then recordError s d .oneSided else if x.outcome = 1 then s else recordError s d .unfinished
  let apart := fun (d : DieId) (x y : RegionRes) (s : State) => if x.outcome = y.outcome then s else oneSided d x s
  if a.outcome = 0 && b.outcome = 0 then (if a.crc = b.crc then s else startVote s c t i n a b)
  else if a.outcome = 0 then
    if b.outcome = 2 then startVote (oneSided .b b s) c t i n a b else oneSided .b b s
  else if b.outcome = 0 then
    if a.outcome = 2 then startVote (oneSided .a a s) c t i n a b else oneSided .a a s
  else apart .b b a (apart .a a b s)

/-- REGION_REPORT (R265 to R268): both dies hold both reports of a region. -/
def execRegionReport (tile region : Nat) (s : State) : Host.Outcome State Fault Refusal :=
  .next <|
    match s.canvasOf tile with
    | none => s
    | some c =>
      match s.result .a tile region, s.result .b tile region, (s.canvas c).order with
      | some a, some b, some o =>
        if !s.twin || !s.up .a || !s.up .b || decide (a.frame ≠ o.frame) || decide (b.frame ≠ o.frame) || (a.reported && b.reported) then s
        else
          let s1 := (s.setResult .a tile region { a with reported := true }).setResult .b tile region { b with reported := true }
          if s.sameMicrocode then compareReports s1 c tile region o.frame a b else s1
      | _, _, _ => s

/-- The cluster on which die `d` replays for vote `v`: the one the vote took while it still rests, or else another (R32). -/
def replayOn (s : State) (d : DieId) (v : Vote) : Option Nat :=
  let r := s.regionOf v.tile
  let rests := fun (k : Nat) => decide ((s.die d).restingCluster (k / 4) = some k)
  match (match d with
    | .a => v.repA
    | .b => v.repB) with
  | some k => if rests k then some k else replayUnit s d r
  | none => replayUnit s d r

/-- REPLAY_RESULT (R32, R269, R270): a die's replay ends on `cluster`; a value of another cluster than the resting one that ran it is not
the replay's. Where none rests any more the vote is
deferred; without a result an engine fault discarded it, and its cluster is retired. (DEDUCED, log entries 68 and 106) -/
def execReplayResult (die : DieId) (tile region : Nat) (crc : Option (BitVec 32)) (cluster : Nat) (s : State) :
    Host.Outcome State Fault Refusal :=
  .next <|
    match s.dies.twin.votes.find? fun v => v.tile = tile && v.region = region && !v.ended && !v.tie with
    | none => s
    | some v =>
      let mine := match die with
        | .a => v.a1
        | .b => v.b1
      if !s.up die || mine.isSome then s
      else match replayOn s die v with
      | none => deferVote s v
      | some k => if cluster ≠ k then s else
        let w := match die with
          | .a => { v with a1 := some crc, repA := some k }
          | .b => { v with b1 := some crc, repB := some k }
        let s1 := (soilCluster s die k).modVote v fun _ => w
        (decideVote (if crc.isNone then retireCluster s1 die k .watchdog else s1) w).drawn

/-! ### Sending (R180, R202, R211 to R213, R217) -/

/-- A region of a frame is ready to leave a die and has not left it. -/
def readyToSend (s : State) (d : DieId) (n t i : Nat) : Bool :=
  match s.result d t i with
  | some r => decide (r.frame = n) && decide (r.outcome = 0) && r.sentCrc.isNone
  | none => false

/-- A region that leaves port `p` before region (t, i) of canvas `c`: nearer the port, or of the same tile and lower index
(R202). -/
def leavesBefore (s : State) (p t i : Nat) (x : Nat × Nat) : Bool :=
  let h := s.hopsTo p (s.posOf x.1)
  let k := s.hopsTo p (s.posOf t)
  decide (h < k) || (decide (x.1 = t) && decide (x.2 < i))

/-- The tile takes no regions: held back, in the dust-sheet state, or its region's output is blocked or lost (R29, R150, R553). -/
def noSend (s : State) (d : DieId) (t : Nat) : Bool :=
  let r := (s.die d).region (s.regionOf t)
  (s.tile t).held.isSome || (s.safe t).dust || r.blocked || r.lost || (s.die d).mute

/-- The order of R202 lets region (t, i) of canvas `c` leave port `p` now: no region of its frame that leaves before it is
still to come, and none of a canvas that flips earlier is ready. -/
def turnToSend (s : State) (p c n t i : Nat) : Bool :=
  let d := portDie p
  let onPort := fun (k : Nat) => (s.tilesAt p).contains k && !noSend s d k
  let here := match (s.canvas c).order with
    | some o => o.patch.all fun x => !onPort x.1 || !leavesBefore s p t i x || (match s.result d x.1 x.2 with
        | some r => decide (r.frame = n) && !readyToSend s d n x.1 x.2
        | none => false)
    | none => true
  here && (List.range 4).all fun k =>
    k = c || (match (s.canvas k).order with
      | some o => decide ((s.canvas c).flipTime n ≤ (s.canvas k).flipTime o.frame) ||
          o.patch.all fun x => !onPort x.1 || !readyToSend s d o.frame x.1 x.2
      | none => true)

/-- The lamp values of a region with the rest of each underrun row replaced by undercoat from a payload word on (R211): `under` lists the
rows, each with its first missing word. -/
def withUndercoat (cfg : CanvasCfg) (cap w : Nat) (under : List (Nat × Nat)) (lamps : List (BitVec 16)) : List (BitVec 16) :=
  let n := w * cfg.np
  (List.range lamps.length).map fun j =>
    if under.any fun u => j / n = u.1 && decide (4 * u.2 ≤ j % n) then
      BitVec.ofNat 16 (min (cfg.undercoat (j % n % cfg.np)) cap) else lamps.getD j 0

/-- Header word 1 of a REGION (R168). -/
def regionHeader (n i x0 y0 w : Nat) : Word := put (n % 2 ^ 24 * 256 + i) 32 0 ||| put x0 10 32 ||| put y0 10 42 ||| put (w - 1) 10 52

/-- A region leaves a port (R180, R211 to R213, R217). -/
def sendRegion (s : State) (p c : Nat) (o : FrameOrder) (pl : Placement) (i : Nat) (r : RegionRes) (under : List (Nat × Nat)) : State :=
  let d := portDie p
  let cfg := (s.canvas c).committed
  let (x0, y0, w, _) := pl.rect i
  let cap := s.scrimCap d c pl.tile
  let lamps := withUndercoat cfg cap w under r.lamps
  let words := regionWords cfg.np w lamps
  let crc := crc32c (wordBytes words)
  let short := !under.isEmpty
  let inverted := short && s.twin
  let s1 := sendFrame s d p (olHeader 1 pl.tile false d.num (s.mgmtEpoch d) o.frame words.length)
    (regionHeader o.frame i x0 y0 w) words (!inverted)
  let s2 := s1.modPort p fun y =>
    { y with nRegions := y.nRegions + 1, nUnderrun := if short then y.nUnderrun + 1 else y.nUnderrun,
             sent := { tile := pl.tile, region := i, frame := o.frame, crc := crc, inverted := inverted,
                       confirmed := false, mismatch := false } :: y.sent }
  let r1 : RegionRes := { r with sentCrc := if inverted then none else some crc, outcome := if inverted then 3 else 0,
                                 lamps := if inverted then r.lamps else lamps, under := short }
  let s3 := s2.setResult d pl.tile i r1
  if !short then s3
  else
    let s4 := raise s3 (portSource p) 4 (put pl.tile 9 0 ||| put i 8 16) o.frame
    let s5 := markRegion s4 c pl.tile i (o.frame + (if s.twin then 2 else 1))
    if r.reported && s.twin then s5.setResult d pl.tile i { r1 with lateUnder := true } else sendReport s5 d pl.tile i o.frame 3 r.crc

/-- REGION_SEND (R20, R32, R202, R211 to R213, R217): a port sends a region that passed Scrim, when its turn has come, before the FLIP of
its frame and not past F(N) − 200 µs. -/
def execRegionSend (port tile region : Nat) (underruns : List (Nat × Nat)) (s : State) : Host.Outcome State Fault Refusal :=
  .next <|
    let d := portDie port
    match s.canvasOf tile with
    | none => s
    | some c =>
      match (s.canvas c).order, (s.canvas c).committed.place tile, s.result d tile region with
      | some o, some p, some r =>
        if !(s.canvas c).flipSent && inTime s c o.frame && readyToSend s d o.frame tile region && (s.portsTo tile).contains port &&
            s.canSend d port && decide ((s.port port).tx = .on) && !noSend s d tile && turnToSend s port c o.frame tile region then
          sendRegion s port c o p region r underruns
        else s
      | _, _, _ => s

/-! ### The probe (R130, R131) -/

/-- A probe ends with its capture words (R130), which replace its function's capture: event 0x04 and the completion of its command.
(DEDUCED, log entry 29) (DEDUCED, log entry 68) -/
def endProbe (s : State) (f c n : Nat) (p : Probe) (words : List Word) (valid : Bool) : State :=
  let s1 := s.modFunc f fun x => { x with probes := x.probes.filter fun q => q.id ≠ p.id, capture := some words }
  finishLong (raise s1 (116 + c) 4 (put p.tile 9 0 ||| put p.die.num 1 16 ||| putB valid 17) n) f p.id 0

/-- The frame that a probe names has gone by without a capture (R130): the tile has left the canvas, its region is not in the patch map, the
die withheld it, or the frame has flipped. -/
def probeMissed (s : State) (p : Probe) : Bool :=
  let cv := s.canvas p.canvas
  p.frame ≠ 0 && (decide (p.frame ≤ cv.frame) || (match cv.order with
    | some o => decide (o.frame = p.frame) && (match cv.committed.place p.tile with
      | some pl =>
        let i := pl.regionAt p.u p.v
        !o.patch.contains (p.tile, i) || decide ((s.result p.die p.tile i).map RegionRes.frame = some p.frame)
      | none => true)
    | none => decide (p.frame < cv.next)))

/-- A probe of function `f` ends if its capture has been taken, or if the frame it names has gone by without one (R130).
(DEDUCED, log entry 68) (DEDUCED, log entry 29) -/
def takeProbe (f : Nat) (s : State) (p : Probe) : State :=
  match p.taken with
  | some (n, words) => endProbe s f ((s.canvasOf p.tile).getD p.canvas) n p words true
  | none => if probeMissed s p then endProbe s f p.canvas p.frame p (put p.frame 48 0 :: List.replicate 11 0) false else s

/-- CORR_PROBE_CAPTURE (R130, R131): the probes of function `f` in flight, oldest first. (DEDUCED, log entry 68) -/
def execCorrProbeCapture (f : Nat) (s : State) : Host.Outcome State Fault Refusal :=
  .next ((s.func f).probes.foldl (takeProbe f) s)

/-! ### Watchdogs and region resets (R29, R30) -/

/-- ENGINE_WATCHDOG_EXPIRY (R28, R29, R268): the engine restarts; a second expiry within 1,024 frames retires its cluster. -/
def execEngineWatchdogExpiry (die : DieId) (engine : Nat) (s : State) : Host.Outcome State Fault Refusal :=
  .next <|
    if !(s.die die).running || 128 ≤ engine || !(s.die die).serviceable (engine / 8) then s
    else
      let again := (Tbl.get none (s.die die).engineErr engine).isSome
      let s1 := recordError (s.modDie die fun x => { x with engineErr := Tbl.set none x.engineErr engine (some 0) }) die .watchdog
      if again then retireCluster s1 die (engine / 8) .watchdog else s1

/-- A region reset starts (R29, R30): its output is blocked until a latent test passes after it. `latent` says that a failed latent
test started it. -/
def startRegionReset (s : State) (d : DieId) (r : Nat) (latent : Bool) : State :=
  s.modRegion d r fun x => { x with resetting := true, blocked := true, latent := x.latent || latent }

/-- REGION_DMA_FAULT (R30). -/
def execRegionDmaFault (die : DieId) (region : Nat) (s : State) : Host.Outcome State Fault Refusal :=
  .next (if (s.die die).running && !((s.die die).region region).lost then startRegionReset s die region false else s)

/-- REGION_RESET_DONE (R29, R30): the reset ends; the block lasts until the next latent test passes. A test that fails
after a reset for a failed test loses the region; after one for a DMA fault it starts a reset. -/
def execRegionResetDone (die : DieId) (region : Nat) (s : State) : Host.Outcome State Fault Refusal :=
  .next <|
    if ((s.die die).region region).resetting then s.modRegion die region fun x => { x with resetting := false, again := x.latent } else s

/-- A latent test of a checker ends (R29, R152 to R154): counted, its lane steps on; a failure starts a region reset, or loses the region
after one; a pass after the reset ends the block. -/
def latentTest (s : State) (d : DieId) (r : Nat) (ok : Bool) : State :=
  let x := (s.die d).region r
  let s1 := s.modScrim d r fun y =>
    { y with lane := (y.lane + 1) % 64, latentRun := y.latentRun + 1, latentFail := if ok then y.latentFail else y.latentFail + 1 }
  if x.lost then s1
  else if ok then (if x.blocked && !x.resetting then s1.modRegion d r fun y => { y with blocked := false, latent := false, again := false } else s1)
  else
    let s2 := recordError (raise s1 (regionSource d r) 6 0) d .latent
    if x.again then loseRegion s2 d r else startRegionReset s2 d r true

/-- A checker serves a tile of a running canvas. -/
def scrimServes (s : State) (d : DieId) (r : Nat) : Bool :=
  (List.range 4).any fun c => (s.canvas c).running && (s.canvas c).committed.tileIds.any fun t =>
    decide (s.regionOf t = r) && (s.tileDies t).contains d

/-- The tiles of a canvas on the ports of a die's region. -/
def canvasRegionTiles (s : State) (c : Nat) (d : DieId) (r : Nat) : List Nat :=
  (s.canvas c).committed.tileIds.filter fun t => decide (s.regionOf t = r) && (s.tileDies t).contains d

/-- The tiles of a region whose block has ended are marked in Span mode (R29). -/
def markUnblocked (s : State) (d : DieId) (r : Nat) : State :=
  if s.twin then s
  else s.each (List.range 4) fun s c => s.each (canvasRegionTiles s c d r) fun s t => markRegion s c t 256 (s.canvas c).next

/-- SCRIM_IDLE_LATENT_TEST (R152, R471): of a checker that serves no tile, or of any in Sleep and Deep-sleep. -/
def execScrimIdleLatentTest (die : DieId) (region : Nat) (faults : ScrimFaults) (s : State) : Host.Outcome State Fault Refusal :=
  .next <|
    if !(s.die die).running || (scrimServes s die region && decide (s.clocks.power = .run)) then s
    else
      let was := ((s.die die).region region).blocked
      let s1 := latentTest s die region (latentOk (s.scrim die region).lane faults)
      if was && !((s1.die die).region region).blocked then markUnblocked s1 die region else s1

end Sys2Proof.Machine
end

