-- ==== Sys2Proof/Machine/CodecOps.lean ====
section
/-! DEFINITION. Shared operations of the codec: session fields, budgets, decode pools, concealment and output, capture, rate control
(R408 to R428). -/

namespace Sys2Proof.Machine

/-! ### Decode session fields (R417) -/

/-- Word `i` of the configuration. -/
def Dec.w (x : Dec) (i : Nat) : Word := wordAt x.cfg i
/-- RATE. -/
def Dec.rate (x : Dec) : Nat := fld (x.w 0) 8 4
/-- MAXBR in Mb/s. -/
def Dec.maxBr (x : Dec) : Nat := fld (x.w 0) 25 16
/-- JIT_MS; 0 selects 20. -/
def Dec.jitMs (x : Dec) : Nat := if fld (x.w 0) 39 32 = 0 then 20 else fld (x.w 0) 39 32
/-- MAXW. -/
def Dec.maxW (x : Dec) : Nat := fld (x.w 1) 15 0
/-- MAXH. -/
def Dec.maxH (x : Dec) : Nat := fld (x.w 1) 31 16
/-- The word of leg A (0) or B (1). -/
def Dec.legWord (x : Dec) (leg : Nat) : Word := x.w (2 + leg)
/-- The leg is enabled. -/
def Dec.legOn (x : Dec) (leg : Nat) : Bool := bit (x.legWord leg) 48
/-- The network port of a leg. -/
def Dec.legPort (x : Dec) (leg : Nat) : Nat := 2 * leg + fld (x.legWord leg) 49 49
/-- The leg has been lost. -/
def Dec.legLost (x : Dec) (leg : Nat) : Bool := if leg = 0 then x.lostA else x.lostB
/-- `x` with a leg's loss set. -/
def Dec.setLost (x : Dec) (leg : Nat) (v : Bool) : Dec := if leg = 0 then { x with lostA := v } else { x with lostB := v }
/-- Decode session `k` raises an event (R408, R429). -/
def decEvent (s : State) (k code : Nat) (data : Word := 0) : State := raise s (212 + k) code data

/-- The FORMAT that a picture's chroma and depth match (R413); 0 where none does. -/
def pictureFormat (p : Picture) : Nat :=
  match p.sps.chroma, p.sps.depthY with
  | 1, 8 => 5 | 1, 10 => 6 | 2, 10 => 4 | _, _ => 0
/-- The limit of R412 that a picture's stream breaks, by its reason; 0 where it keeps them. Level 6.1 is general_level_idc 183.
(PRESUMED, log entry 98) (DESIGN CHOICE, log entry 50) -/
def Dec.limitBroken (x : Dec) (p : Picture) : Nat :=
  let q := p.sps
  if !(decide (q.profile = 1) || decide (q.profile = 2) || decide (q.profile = 4)) then 1
  else if 183 < q.level || p.width < 64 || p.height < 64 || 8192 < p.width || 4320 < p.height || x.maxW < p.width || x.maxH < p.height then 2
  else if !(decide (q.chroma = 1) || decide (q.chroma = 2)) || q.depthY ≠ q.depthC then 3
  else if 16 < q.buffers then 4
  else if q.fields then 5
  else 0

/-! ### Encode session fields (R428) -/

/-- Word `i` of the configuration. -/
def EncSt.w (x : EncSt) (i : Nat) : Word := wordAt x.cfg i
/-- CANVAS. -/
def EncSt.canvas (x : EncSt) : Nat := fld (x.w 0) 2 1
/-- TAP 1, POST. -/
def EncSt.post (x : EncSt) : Bool := bit (x.w 0) 3
/-- DIV. -/
def EncSt.div (x : EncSt) : Nat := fld (x.w 0) 6 4 + 1
/-- TF. -/
def EncSt.tf (x : EncSt) : Nat := fld (x.w 0) 8 7
/-- CSPACE BT.2020. -/
def EncSt.bt2020 (x : EncSt) : Bool := bit (x.w 0) 9
/-- BAND. -/
def EncSt.bandCols (x : EncSt) : Nat := fld (x.w 0) 13 10
/-- LT_EVERY. -/
def EncSt.ltEvery (x : EncSt) : Nat := fld (x.w 0) 27 20
/-- SLICE_ROWS. -/
def EncSt.sliceRows (x : EncSt) : Nat := fld (x.w 0) 19 14
/-- RING. -/
def EncSt.ring (x : EncSt) : Nat := fld (x.w 0) 43 32
/-- EW. -/
def EncSt.ew (x : EncSt) : Nat := fld (x.w 1) 15 0
/-- EH. -/
def EncSt.eh (x : EncSt) : Nat := fld (x.w 1) 31 16
/-- BITRATE in 10 kb/s. -/
def EncSt.bitrate (x : EncSt) : Nat := fld (x.w 1) 47 32
/-- QP_MIN. -/
def EncSt.qpMin (x : EncSt) : Nat := fld (x.w 1) 53 48
/-- QP_MAX. -/
def EncSt.qpMax (x : EncSt) : Nat := fld (x.w 1) 59 54
/-- SX. -/
def EncSt.sx (x : EncSt) : Nat := fld (x.w 2) 15 0
/-- SY. -/
def EncSt.sy (x : EncSt) : Nat := fld (x.w 2) 31 16
/-- SW. -/
def EncSt.sw (x : EncSt) : Nat := fld (x.w 2) 47 32
/-- SH. -/
def EncSt.sh (x : EncSt) : Nat := fld (x.w 2) 63 48
/-- CAPX. -/
def EncSt.capx (x : EncSt) : Nat := fld (x.w 3) 6 0
/-- CTU columns, K. -/
def EncSt.ctuCols (x : EncSt) : Nat := ceilDiv x.ew 64
/-- CTU rows, R. -/
def EncSt.ctuRows (x : EncSt) : Nat := ceilDiv x.eh 64
/-- The skim cycle's length: L, and a picture more for each postponement (R420). -/
def EncSt.cycleLen (x : EncSt) : Nat := ceilDiv x.ctuCols (max 1 x.bandCols) + x.postponed
/-- The CTU rows of each slice of a picture (R419). -/
def EncSt.slices (x : EncSt) : List Nat :=
  if x.sliceRows = 0 then [x.ctuRows]
  else List.replicate (x.ctuRows / x.sliceRows) x.sliceRows ++ if x.ctuRows % x.sliceRows = 0 then [] else [x.ctuRows % x.sliceRows]
/-- What the next picture carries (R419, R420): parameter sets and a recovery point SEI with L + 4 with the first picture of a skim
cycle, an IDR picture first of all. -/
def EncSt.codedPic (x : EncSt) (qps : List Nat) (vectors : List (Option MotionVec)) : CodedPic :=
  let first := decide (x.inCycle = 0)
  { idr := x.prev.isNone, psets := first, recovery := if first then some (ceilDiv x.ctuCols (max 1 x.bandCols) + 4) else none,
    slices := x.slices, intra := if x.prev.isNone then (0, x.ctuCols) else (x.band, min x.bandCols (x.ctuCols - x.band)), qps := qps,
    vectors := vectors }
/-- Encode session `k` raises an event with canvas frame `frame` (R408, R429). -/
def encEvent (s : State) (k code frame : Nat) : State := raise s (216 + k) code 0 frame
/-- The canvas configuration that gives a session its rate: the committed one, else the staged one. -/
def encCanvas (s : State) (x : EncSt) : CanvasCfg :=
  let c := s.canvas x.canvas
  if c.committed.isSet then c.committed else c.staged
/-- The encode rate as a fraction in Hz (R418). -/
def encRate (s : State) (x : EncSt) : Nat × Nat :=
  let r := rateOf (encCanvas s x).rate
  (r.1, r.2 * x.div)
/-- The picture budget B (R423). -/
def encBudget (s : State) (x : EncSt) : Nat :=
  let r := encRate s x
  x.bitrate * 10000 * r.2 / r.1
/-- The hard cap C (R423). -/
def encCap (s : State) (x : EncSt) : Nat := encBudget s x * x.capx / 16
/-- MIN_BUF (R425). (DESIGN CHOICE, log entry 51) -/
def encMinBuf (s : State) (x : EncSt) : Nat := ceilDiv (encCap s x) 8 + 1024

/-! ### Budgets (R409) -/

/-- A session's charge in luma samples per second, times 8,008 so that every rate is whole. -/
def Dec.charge (x : Dec) : Nat :=
  let r := if x.rate = 0 then (60, 1) else rateOf x.rate
  x.maxW * x.maxH * r.1 * (8008 / r.2)
/-- An encode session's charge, times 840,840. -/
def encCharge (s : State) (x : EncSt) : Nat :=
  let r := encRate s x
  x.ew * x.eh * r.1 * (840840 / r.2)
/-- The charge of the running decode sessions but `k`. -/
def decUsed (s : State) (k : Nat) : Nat := ((s.media.decs.filter fun y => y.1 ≠ k && y.2.running).map fun y => y.2.charge).sum
/-- The bit rate of the running decode sessions but `k`. -/
def decBits (s : State) (k : Nat) : Nat := ((s.media.decs.filter fun y => y.1 ≠ k && y.2.running).map fun y => y.2.maxBr).sum
/-- The charge of the running encode sessions but `k`. -/
def encUsed (s : State) (k : Nat) : Nat := ((s.media.encs.filter fun y => y.1 ≠ k && y.2.running).map fun y => encCharge s y.2).sum
/-- The response word of a start that exceeds a budget: needed, rounded up, and free, rounded down (R409; DEDUCED, log entry 39). -/
def budgetWord (need used limit scale : Nat) : Word :=
  put (min 0xFFFFFFFF (ceilDiv need scale)) 32 0 ||| put (limit - ceilDiv used scale) 32 32

/-! ### The decode pool (R414) -/

/-- `x` with pool buffer `b` changed. -/
def Dec.modPool (x : Dec) (b : Nat) (f : PoolBuf → PoolBuf) : Dec := { x with pool := Tbl.modify {} x.pool b f }
/-- Pool buffer `b`. -/
def Dec.poolBuf (x : Dec) (b : Nat) : PoolBuf := Tbl.get {} x.pool b
/-- The pool buffers with a property. -/
def Dec.where' (x : Dec) (f : PoolBuf → Bool) : List Nat := below 16 fun b => f (x.poolBuf b)
/-- A reference: SHORT or LONG. -/
def PoolBuf.isRef (p : PoolBuf) : Bool := decide (p.mark = .short) || decide (p.mark = .long)
/-- The least of a list of buffers by a key. -/
def leastBy (l : List Nat) (key : Nat → Int) : Option Nat :=
  l.foldl (fun a b =>
    match a with
    | none => some b
    | some x => if key b < key x then some b else some x) none
/-- The reference nearest in picture order to `poc`, the lower on a tie (R415). -/
def Dec.nearest (x : Dec) (poc : Int) : Option Nat :=
  leastBy (x.where' PoolBuf.isRef) fun b =>
    let p := (x.poolBuf b).poc
    2 * ((p - poc).natAbs : Int) + (if poc < p then 1 else 0)

/-- The DECODE slot that names a session (R413). -/
def decodeSlot (s : State) (k : Nat) : Option Nat :=
  (below 32 fun j => decide ((s.slot j).kind = 4) && decide ((s.slot j).session = k) && (s.slot j).started).head?

/-- A buffer loses its pending output; one that an RPS has omitted is then UNUSED (R414). -/
def clearPending (p : PoolBuf) : PoolBuf := { p with pending := false, mark := if p.omitted then .unused else p.mark }

/-- The picture of pool buffer `b` is written into its slot's buffer in both dies, or is not output with event 0x05 (R62, R413). -/
def outputPicture (s : State) (k b : Nat) : State :=
  let p := (s.dec k).poolBuf b
  let s0 := s.modDec k fun x => x.modPool b clearPending
  let refuse := fun (s : State) => decEvent (s.modDec k fun x => { x with nNotOut := x.nNotOut + 1 }) k 5 6
  match decodeSlot s0 k with
  | none => refuse s0
  | some j =>
    let y := s0.slot j
    if y.width ≠ p.width || y.height ≠ p.height || y.format ≠ p.format then refuse s0
    else
      match freeTarget s0 j with
      | none => s0.modDec k fun x => { x with nNotOut := x.nNotOut + 1 }
      | some (s1, t) =>
        let line := lineBytes p.format p.width
        let rows := if p.format = 4 then p.height else p.height * 3 / 2
        let s2 := (List.range rows).foldl (fun s r => writeBoth s j t (r * y.stride) ((p.bytes.drop (r * line)).take line)) (startFilling s1 j t)
        bufReady (s2.modDec k fun x => { x with nOut := x.nOut + 1, nConcealed := if p.concealed then x.nConcealed + 1 else x.nConcealed })
          j t p.concealed

/-- Pending pictures leave in picture order while `more` holds (bumping, R413); at most 16 in a turn. -/
def bump (k : Nat) (more : Dec → Bool) : Nat → State → State
  | 0, s => s
  | n + 1, s =>
    let x := s.dec k
    match leastBy (x.where' fun p => p.pending) (fun b => (x.poolBuf b).poc) with
    | none => s
    | some b => if more x then bump k more n (outputPicture s k b) else s

/-- A picture begins decoding into a free buffer (R414). Where a stream that breaks R412 leaves none, the oldest pending picture is
output at once and the oldest buffer taken. -/
def beginPicture (s : State) (k : Nat) : State :=
  if !((s.dec k).where' fun p => decide (p.mark = .decoding)).isEmpty then s
  else
    let free := fun (x : Dec) => (x.where' fun p => decide (p.mark = .unused) && !p.pending).head?
    let start := fun (s : State) (b : Nat) =>
      s.modDec k fun x => { x.modPool b fun _ => { mark := .decoding, order := x.pictures } with pictures := x.pictures + 1 }
    match free (s.dec k) with
    | some b => start s b
    | none =>
      let x := s.dec k
      let age := fun b => ((x.poolBuf b).order : Int)
      let s1 := match leastBy (x.where' fun p => p.pending) age with
        | some b => outputPicture s k b
        | none => s
      start s1 ((free (s1.dec k)).getD ((leastBy (List.range 16) age).getD 0))

/-! ### Concealment (R415) -/

/-- The CTU address of byte `i` of a stored picture (R40). -/
def ctuOf (p : Picture) (i : Nat) : Nat :=
  let line := max 1 (lineBytes (pictureFormat p) p.width)
  let r := i / line
  let px := i % line / (match pictureFormat p with
    | 4 => 4 | 5 => 1 | _ => 2)
  let py := if pictureFormat p = 4 || r < p.height then r else 2 * (r - p.height)
  py / max 1 p.ctb * ceilDiv p.width (max 1 p.ctb) + px / max 1 p.ctb
/-- The CTUs of a picture. -/
def pictureCtus (p : Picture) : Nat := ceilDiv p.width (max 1 p.ctb) * ceilDiv p.height (max 1 p.ctb)
/-- The picture's samples with those of lost CTUs copied from the nearest reference. -/
def concealed (x : Dec) (p : Picture) : List Byte :=
  match (if p.lostCtus.isEmpty then none else x.nearest p.poc) with
  | none => p.bytes
  | some b =>
    let ref := (x.poolBuf b).bytes
    ((List.range p.bytes.length).zip p.bytes).map fun y => if p.lostCtus.contains (ctuOf p y.1) then ref.getD y.1 0 else y.2

/-! ### Capture (R418) -/

/-- A linear Q1.23 colour, 1.0 standing for FULL_NITS, in the session's TF and CSPACE, by the tables of microcode `mc`.
(DEDUCED, log entry 46) -/
def encodeTap (mc : Word) (cfg : CanvasCfg) (x : EncSt) (v : Rgb) : Rgb :=
  let nits := rgbMap (fun k => k * cfg.fullNits) v
  let c := if cfg.bt2020 = x.bt2020 then nits else toPrimaries x.bt2020 nits
  match x.tf with
  | 0 => rgbMap (fun k => root24 mc (min one23 (roundDiv k cfg.sdrNits))) c
  | 1 => rgbMap (fun k => pqInverse mc (min one23 (roundDiv k 10000))) c
  | _ => hlgEncode mc cfg.hlgPeak c

/-- The placement and tile pixel that show canvas pixel (px, py). -/
def tilePixel (cfg : CanvasCfg) (px py : Nat) : Option (Placement × Nat × Nat) :=
  cfg.tiles.findSome? fun p =>
    if p.x ≤ px ∧ px < p.x + p.fw ∧ p.y ≤ py ∧ py < p.y + p.fh then
      let dx := px - p.x
      let dy := py - p.y
      match p.orient with
      | 0 => some (p, dx, dy)
      | 1 => some (p, dy, p.th - 1 - dx)
      | 2 => some (p, p.tw - 1 - dx, p.th - 1 - dy)
      | _ => some (p, p.tw - 1 - dy, dx)
    else none

/-- The lamp values last sent at tile pixel (u, v), as linear R, G, B (R418 POST): W is added to each and the sum clamped. -/
def sentPixel (s : State) (d : DieId) (cfg : CanvasCfg) (p : Placement) (u v : Nat) : Rgb :=
  let i := p.regionAt u v
  let (x0, y0, w, _) := p.rect i
  let l := match s.result d p.tile i with
    | some r => r.lamps
    | none => []
  let k := ((v - y0) * w + (u - x0)) * cfg.np
  let ch := fun (j : Nat) => (l.getD (k + j) 0).toNat
  let mix := fun (j : Nat) => min one23 (roundDiv ((ch j + if cfg.rgbw then ch 3 else 0) * one23) 65535)
  (mix 0, mix 1, mix 2)

/-- The tap at canvas pixel (px, py) (R418): black outside every footprint and, before correction, where the frame computes nothing.
(DEDUCED, log entry 46) -/
def tapAt (s : State) (x : EncSt) (o : FrameOrder) (px py : Nat) : Rgb :=
  let c := x.canvas
  let cfg := (s.canvas c).committed
  match tilePixel cfg px py with
  | none => encodeTap (s.microcodeOn c s.lead) cfg x (0, 0, 0)
  | some (p, u, v) =>
    let d := ((s.tileDies p.tile).filter s.up).head?.getD s.lead
    let enc := encodeTap (s.microcodeOn c d) cfg x
    if x.post then enc (sentPixel s d cfg p u v)
    else if o.patch.contains (p.tile, p.regionAt u v) then enc (composedAt s d c cfg (o.named d) px py)
    else enc (0, 0, 0)

/-- The box edge 2^j of an axis: as large as leaves the factor at 1/2 or above (R418). -/
def capBox (src dst : Nat) : Nat := (2 ^ Nat.log2 (src / max 1 dst))

/-- A pixel of the averaged source rectangle. (DEDUCED, log entry 46) -/
def boxAt (s : State) (x : EncSt) (o : FrameOrder) (b i j : Nat) : Rgb :=
  let l := (List.range b).flatMap fun v => (List.range b).filterMap fun u =>
    if b * i + u < x.sw ∧ b * j + v < x.sh then some (tapAt s x o (x.sx + b * i + u) (x.sy + b * j + v)) else none
  let mean := fun (f : Rgb → Nat) => roundDiv ((l.map f).sum) (max 1 l.length)
  (mean fun v => v.1, mean fun v => v.2.1, mean fun v => v.2.2)

/-- Encoded R'G'B' in Q1.23 as 10-bit narrow-range Y', Cb and Cr, non-constant luminance (ITU-R BT.709, BT.2020; R418).
(DEDUCED, log entry 46) -/
def yccOf (bt2020 : Bool) (c : Rgb) : Nat × Nat × Nat :=
  let kr := (lumaWeights bt2020).1
  let kb := (lumaWeights bt2020).2
  let r : Int := c.1
  let g : Int := c.2.1
  let b : Int := c.2.2
  let y := kr * r + (10000 - kr - kb) * g + kb * b
  let u : Int := 10000 * (one23 : Int)
  let code := fun (v : Int) => (max 4 (min 1019 v)).toNat
  (code (64 + (2 * 876 * y + u) / (2 * u)),
   code (512 + (2 * 448 * (10000 * b - y) + (10000 - kb) * (one23 : Int)) / (2 * (10000 - kb) * (one23 : Int))),
   code (512 + (2 * 448 * (10000 * r - y) + (10000 - kr) * (one23 : Int)) / (2 * (10000 - kr) * (one23 : Int))))

/-- The captured picture (R418): averaged in boxes, resampled bilinearly with pixel centres kept, converted to YCbCr.
(DEDUCED, log entry 46) -/
def capture (s : State) (x : EncSt) (o : FrameOrder) : List (Nat × Nat × Nat) :=
  let b := min (capBox x.sw x.ew) (capBox x.sh x.eh)
  let cols := ceilDiv x.sw b
  let rows := ceilDiv x.sh b
  let pos := fun (k src dst : Nat) => (((2 * k + 1) * src : Nat) : Int) - ((b * dst : Nat) : Int)
  let at' := fun (i j : Int) => boxAt s x o b (min (cols - 1) i.toNat) (min (rows - 1) j.toNat)
  (List.range x.eh).flatMap fun v => (List.range x.ew).map fun u =>
    let ux : Int := 2 * b * x.ew
    let uy : Int := 2 * b * x.eh
    let i := pos u x.sw x.ew / ux
    let j := pos v x.sh x.eh / uy
    let fx := (pos u x.sw x.ew % ux).toNat
    let fy := (pos v x.sh x.eh % uy).toNat
    let nx := ux.toNat
    let ny := uy.toNat
    let mix := fun (f : Rgb → Nat) =>
      roundDiv ((nx - fx) * (ny - fy) * f (at' i j) + fx * (ny - fy) * f (at' (i + 1) j) + (nx - fx) * fy * f (at' i (j + 1)) +
        fx * fy * f (at' (i + 1) (j + 1))) (nx * ny)
    yccOf x.bt2020 (mix fun c => c.1, mix fun c => c.2.1, mix fun c => c.2.2)

/-! ### Motion search (R420, R421) -/

/-- A reference of a picture: its number (R421), the canvas frame it holds, its refreshed edge in luma columns (R420). -/
structure MotionRef where
  ref   : Nat
  frame : Nat
  edge  : Nat

/-- The references of the next picture (R421, R422): the previous picture and the long-term reference. -/
def EncSt.motionRefs (x : EncSt) : List MotionRef :=
  (match x.prev with
    | some n => [⟨0, n, x.prevEdge⟩]
    | none => []) ++
  (match x.longRef with
    | some n => [⟨1, n, x.longEdge⟩]
    | none => [])

/-- A block at luma column `bx` may use the samples that a vector names (R420): a block of a CTU left of the band's right edge stays left
of the reference's refreshed edge minus 8 columns. The vector counts `scale` quarter samples. (DEDUCED, log entry 104) -/
def EncSt.inWindow (x : EncSt) (r : MotionRef) (bx scale : Nat) (v : MotionVec) : Bool :=
  decide ((x.band + x.bandCols) * 64 ≤ bx / 64 * 64) ||
    decide (4 * (bx + 16 : Int) + v.dx * (scale : Int) ≤ 4 * ((r.edge : Int) - 8))

/-- Offsets of −n to n. -/
def offsets (n : Nat) : List Int := (List.range (2 * n + 1)).map fun i => (i : Int) - (n : Int)

/-- The `k` best of the vectors that lie in the window, by the open cost of frame `n`'s block at (bx, by); on a tie the first.
(DESIGN CHOICE, log entry 101) -/
def EncSt.bestOf (x : EncSt) (n bx by' level scale k : Nat) (l : List MotionVec) : List MotionVec :=
  let ref := fun (v : MotionVec) => x.motionRefs.find? fun r => r.ref = v.ref
  let cost := fun (v : MotionVec) =>
    Config.motionCost n ((ref v).elim 0 MotionRef.frame) (by' * 65536 + bx) level v.dx v.dy
  ((l.filter fun v => (ref v).any fun r => x.inWindow r bx scale v).mergeSort fun a b => decide (cost a ≤ cost b)).take k

/-- The vectors around others, twice as fine: ±n in each axis (R421). -/
def around (n : Nat) (mul : Int) (l : List MotionVec) : List MotionVec :=
  l.flatMap fun v => (offsets n).flatMap fun dy => (offsets n).map fun dx => ⟨v.ref, mul * v.dx + dx, mul * v.dy + dy⟩

/-- The vector of the 16 × 16 block at (bx, by) of frame `n`, in quarter samples (R421): level 1 at 4:1 keeps two for each reference,
level 2 at 2:1 two, level 3 one, and the refinement is of ±3/4. (DEDUCED, log entry 104) -/
def EncSt.motionOf (x : EncSt) (n bx by' : Nat) : Option MotionVec :=
  let level1 := x.motionRefs.flatMap fun r =>
    x.bestOf n bx by' 1 16 2 ((offsets 32).flatMap fun dy => (offsets 64).map fun dx => ⟨r.ref, dx, dy⟩)
  let level2 := x.bestOf n bx by' 2 8 2 (around 8 2 level1)
  let level3 := x.bestOf n bx by' 3 4 1 (around 4 2 level2)
  (x.bestOf n bx by' 4 1 1 (around 3 4 level3)).head?

/-- The vectors of a picture's blocks in raster order (R421); a picture without references has none. -/
def EncSt.motion (x : EncSt) (n : Nat) : List (Option MotionVec) :=
  if x.motionRefs.isEmpty then []
  else (List.range (ceilDiv x.eh 16)).flatMap fun j => (List.range (ceilDiv x.ew 16)).map fun i => x.motionOf n (16 * i) (16 * j)

/-! ### Rate control (R423, R424) -/

/-- round(6 × log2(n / d)) held to ±`lim`: the k with 2^((2k − 1)/12) ≤ n / d < 2^((2k + 1)/12), compared exactly by twelfth
powers; at n or d of 0 the step is not stated. -/
def qpStep (n d lim : Nat) : Int :=
  if n = 0 || d = 0 then Config.qpStepOpen n d
  else
    let ups := ((List.range lim).filter fun k => decide (d ^ 12 * 2 ^ (2 * k + 1) ≤ n ^ 12)).length
    let downs := ((List.range lim).filter fun k => decide (n ^ 12 * 2 ^ (2 * k + 1) ≤ d ^ 12)).length
    (ups : Int) - (downs : Int)

/-- An integer held to a range of naturals. -/
def clampInt (lo hi : Nat) (v : Int) : Nat := (max (lo : Int) (min (hi : Int) v)).toNat

/-- What rate control made of a picture: bits used, the bits of each row and the qp of each row (newest first), rows coded as skip. -/
structure Coded where
  used  : Nat := 0
  rows  : List Nat := []
  qps   : List Nat := []
  skips : Nat := 0

/-- The bits of row `r` coded as skip: at most 64 for each CTU (R423). -/
def skipRow (x : EncSt) (c : CodedRows) (r : Nat) : Nat := min (c.skipBits.getD r 0) (64 * x.ctuCols)

/-- Row `r` of a picture (R423). -/
def codeRow (x : EncSt) (budget cap : Nat) (c : CodedRows) (y : Coded) (r : Nat) : Coded :=
  let plan := budget * (x.rows.take r).sum
  let total := x.rows.sum
  let first := x.rows.isEmpty
  let qp :=
    if budget ≤ y.used then x.qpMax
    else if r = 0 then x.qpPic
    else
      let step := if first then qpStep (y.used * x.ctuRows) (budget * r) 6 else qpStep (y.used * total) plan 6
      clampInt x.qpMin x.qpMax ((x.qpPic : Int) + max (-6) (min 6 step))
  let allow : Int := (cap : Int) - (y.used : Int) - ((64 * x.ctuCols * (x.ctuRows - 1 - r) : Nat) : Int)
  let bits := c.codedBits.getD r 0
  let skip := decide (allow < (bits : Int))
  let b := if skip then skipRow x c r else bits
  { used := y.used + b, rows := y.rows ++ [b], qps := y.qps ++ [qp], skips := if skip then y.skips + 1 else y.skips }

/-- A picture coded by rows, or as an all-skip picture where its capture did not arrive (R423, R424). (DESIGN CHOICE, log entry 50) -/
def codePicture (x : EncSt) (budget cap : Nat) (ok : Bool) (c : CodedRows) : Coded :=
  if ok then (List.range x.ctuRows).foldl (codeRow x budget cap c) {}
  else
    let rows := (List.range x.ctuRows).map (skipRow x c)
    { used := rows.sum, rows := rows, qps := List.replicate x.ctuRows x.qpPic, skips := x.ctuRows }

end Sys2Proof.Machine
end

