-- ==== Sys2Proof/Machine/CodecRows.lean ====
section
/-! DEFINITION. The codec's commands, rings, packets and pictures: DEC_*, ENC_*, VCX_STATUS_READ, ENC_BUF (R408 to R430). -/

namespace Sys2Proof.Machine

/-! ### DEC_CONFIG, DEC_START, DEC_STOP (R409, R417) -/

/-- The request's decode session. -/
def reqDec (r : Req) : Nat := fld (r.word 0) 1 0
/-- The request's decode session lies in the sender's partition. -/
def decReach (s : State) (r : Req) : Bool := s.owns r.who 8 (reqDec r)
/-- The ranges of R417. -/
def Dec.fieldsOk (x : Dec) : Bool :=
  decide (x.rate ≤ 17) && (1 ≤ x.maxBr && x.maxBr ≤ 800) && decide (fld (x.w 0) 39 32 ≤ 100) && (64 ≤ x.maxW && x.maxW ≤ 8192) &&
    (64 ≤ x.maxH && x.maxH ≤ 4320)
/-- DEC_CONFIG for the common checks (R417). -/
def opDecConfig : JcsOp := { opcode := 0x0A01, reach := decReach }
/-- DEC_CONFIG (R417). -/
def decConfigBody (s : State) (r : Req) : Ans :=
  let k := reqDec r
  let x : Dec := { cfg := (List.range 5).map r.word, owner := s.ownerOf 8 k }
  if (s.dec k).running then .busy s
  else if !x.fieldsOk then .badParam s
  else .ok (s.modDec k fun _ => x)
/-- DEC_CONFIG (R417). -/
def execDecConfig (r : Req) (s : State) : Host.Outcome State Fault Refusal := .next (jcs opDecConfig decConfigBody r s)

/-- The membership reports of a session's legs (R411). -/
def reportDec (s : State) (k : Nat) (join : Bool) : State :=
  let x := s.dec k
  reportLegs s x.legOn x.legPort x.legWord (x.w 4) join

/-- DEC_START for the common checks (R417). -/
def opDecStart : JcsOp := { opcode := 0x0A02, reach := decReach }
/-- DEC_START (R409, R417). -/
def decStartBody (s : State) (r : Req) : Ans :=
  let k := reqDec r
  let x := s.dec k
  if x.running || x.cfg.isEmpty then .badParam s
  else if 1990656000 * 8008 < decUsed s k + x.charge || 800 < decBits s k + x.maxBr then
    .busy s [budgetWord x.charge (decUsed s k) 1990656000 8008]
  else .ok (decEvent (reportDec (s.modDec k fun x => { x with running := true, lostA := false, lostB := false, pictures := 0 }) k true) k 1)
/-- DEC_START (R417). -/
def execDecStart (r : Req) (s : State) : Host.Outcome State Fault Refusal := .next (jcs opDecStart decStartBody r s)

/-- The FILLING frame of a slot ends as cancelled (R44, R417). -/
def cancelFilling (s : State) (j : Nat) : State :=
  s.modSlot j fun x => x.bufIds.foldl (fun x b =>
    if (x.buf b).state = .filling then { x.modBuf b fun _ => {} with nIncomplete := x.nIncomplete + 1 } else x) x
/-- DEC_STOP for the common checks (R417). -/
def opDecStop : JcsOp := { opcode := 0x0A03, reach := decReach }
/-- DEC_STOP (R414, R417). -/
def decStopBody (s : State) (r : Req) : Ans :=
  let k := reqDec r
  if !(s.dec k).running then .ok s
  else
    let s1 := s.modDec k fun x =>
      { x with running := false, concealing := false, broken := false, pool := [], clean := [], nextSeq := none, window := [], missed := [],
               stream := [] }
    let s2 := match decodeSlot s1 k with
      | some j => cancelFilling s1 j
      | none => s1
    .ok (decEvent (reportDec s2 k false) k 2)
/-- DEC_STOP (R417). -/
def execDecStop (r : Req) (s : State) : Host.Outcome State Fault Refusal := .next (jcs opDecStop decStopBody r s)

/-! ### Packets of a decode session (R411, R430) -/

/-- A PACI packet (RFC 7798, NAL unit type 50). (DEDUCED, log entry 49) -/
def isPaci (p : RtpPkt) : Bool :=
  match p.bytes with
  | b :: _ => decide (b.toNat / 2 % 64 = 50)
  | [] => false

/-- A packet in order reaches the decoder: a PACI packet is discarded and counted; in STAGE 7 what goes beyond JIT_MS is lost; with the
first packet of a picture it begins decoding (R411, R414, R430). (DEDUCED, log entry 49) -/
def deliverPkt (s : State) (k : Nat) (p : RtpPkt) : State :=
  let x := s.dec k
  let over' := decide (s.hub.stage = .restarting) && x.stream.any fun y => decide (y.1 + x.jitMs * 1000000 < s.uptime)
  let s1 := s.modDec k fun x => { x with nextSeq := some (p.seq + 1) }
  if isPaci p || over' then s1.modDec k fun x => { x with nLost := x.nLost + 1 }
  else beginPicture (s1.modDec k fun x => { x with stream := x.stream ++ [(s.uptime, p)] }) k

/-- The packets of the window that follow on one another from `nextSeq` are delivered. -/
def drainWindow (k : Nat) : Nat → State → State
  | 0, s => s
  | n + 1, s =>
    match (s.dec k).window with
    | (_, p) :: rest =>
      if (s.dec k).nextSeq = some p.seq then drainWindow k n (deliverPkt (s.modDec k fun x => { x with window := rest }) k p) else s
    | [] => s

/-- A packet is merged and reordered by its sequence number (R411). -/
def orderPkt (s : State) (k : Nat) (p : RtpPkt) : State :=
  let x := s.dec k
  match x.nextSeq with
  | none => deliverPkt s k p
  | some q =>
    let ahead := (p.seq - q).toNat
    if ahead = 0 then
      let s1 := deliverPkt s k p
      drainWindow k (s1.dec k).window.length s1
    else if ahead < 32768 then
      if x.window.any fun y => y.2.seq = p.seq then s.modDec k fun x => { x with nDup := x.nDup + 1 }
      else s.modDec k fun x =>
        let before := fun (y : Nat × RtpPkt) => decide ((y.2.seq - q).toNat < ahead)
        { x with window := x.window.filter before ++ (s.uptime, p) :: x.window.filter fun y => !before y }
    else if x.missed.contains p.seq then s.modDec k fun x => { x with missed := x.missed.filter fun y => y ≠ p.seq }
    else s.modDec k fun x => { x with nDup := x.nDup + 1 }

/-- A packet for leg `leg` of session `k`: event 0x07 where the leg resumes. -/
def decPacket (s : State) (k leg : Nat) (p : RtpPkt) : State :=
  let s1 := if (s.dec k).legLost leg then decEvent (s.modDec k fun x => x.setLost leg false) k 7 (put leg 1 0) else s
  orderPkt s1 k p

/-- The legs of running sessions that a packet on a network port belongs to (R411). -/
def decLegs (s : State) (port : Nat) (p : RtpPkt) : List (Nat × Nat) :=
  s.media.decs.flatMap fun x =>
    (List.range 2).filterMap fun leg =>
      let w := x.2.legWord leg
      let src := fld (x.2.w 4) (32 * leg + 31) (32 * leg)
      if x.2.running && x.2.legOn leg && decide (x.2.legPort leg = port) && decide (fld w 31 0 = p.dst.toNat) &&
        decide (fld w 47 32 = p.udp) && decide (fld (x.2.w 0) 15 9 = p.pt) && (decide (src = 0) || decide (src = p.src.toNat)) then
        some (x.1, leg) else none

/-- DECODE_PACKET (R411): an RTP packet on a network port in service. -/
def execDecodePacket (port : NetPort) (p : RtpPkt) (s : State) : Host.Outcome State Fault Refusal :=
  .next (if s.netUp port then s.each (decLegs s port p) fun s x => decPacket s x.1 x.2 p else s)

/-- JITTER_WINDOW_CLOSE (R411): what is still missing before the first packet of the window is lost. -/
def execJitterWindowClose (session : Nat) (s : State) : Host.Outcome State Fault Refusal :=
  .next <|
    let x := s.dec session
    match x.nextSeq, x.window with
    | some q, (_, p) :: _ =>
      let n := (p.seq - q).toNat
      let gone := (List.range n).map fun i => q + BitVec.ofNat 16 i
      let s1 := s.modDec session fun x =>
        { x with nLost := x.nLost + BitVec.ofNat 32 n, missed := (gone.reverse ++ x.missed).take 256, nextSeq := some p.seq }
      drainWindow session x.window.length s1
    | _, _ => s

/-- DECODE_LEG_LOSS (R61, R411, R536): an enabled leg of a running session has delivered nothing for 10 ms. (DEDUCED, log entry 48) -/
def execDecodeLegLoss (session : Nat) (leg : Nat) (s : State) : Host.Outcome State Fault Refusal :=
  .next <|
    let x := s.dec session
    if !x.running || !x.legOn leg || x.legLost leg || Tbl.get false s.time.netWindow (x.legPort leg) then s
    else decEvent (s.modDec session fun x => x.setLost leg true) session 6 (put leg 1 0)

/-! ### Pictures (R412 to R416) -/

/-- The packets that a picture used: up to the first marker. -/
def usePackets (l : List (Nat × RtpPkt)) : List (Nat × RtpPkt) := (l.dropWhile fun y => !y.2.marker).drop 1

/-- The RPS of a picture on a pool buffer (R414): what it omits is UNUSED once its output is no longer pending, what it names
long-term is LONG. -/
def applyRps (p : Picture) (b : PoolBuf) : PoolBuf :=
  if !b.isRef then b
  else if p.longRefs.contains b.poc then { b with mark := .long }
  else if p.refs.contains b.poc then b
  else if b.pending then { b with omitted := true }
  else { b with mark := .unused }

/-- Concealment after a picture (R415, R416): whether the session still conceals, its clean CTUs, whether this picture is marked, and
the event. -/
def concealStep (x : Dec) (p : Picture) (damaged : Bool) : Bool × List Nat × Bool × Option Nat :=
  if !x.concealing then (damaged, [], damaged, if damaged then some 3 else none)
  else
    let clean := (x.clean ++ p.intraCtus.filter fun c => !p.lostCtus.contains c && decide (c < pictureCtus p)).dedup
    if !damaged && (p.irap || decide (pictureCtus p ≤ clean.length)) then (false, [], false, some 4)
    else (true, clean, true, none)

/-- A picture within R412 completes its decoding. (DESIGN CHOICE, log entry 50) -/
def completePicture (s : State) (k b : Nat) (p : Picture) : State :=
  let s1 := if p.irap && p.noRasl then
      (bump k (fun _ => true) 16 s).modDec k fun x => (x.where' PoolBuf.isRef).foldl (fun x j => x.modPool j fun y => { y with mark := .unused }) x
    else s
  let s2 := s1.modDec k fun x => { x with pool := x.pool.foldl (fun t y => Tbl.modify {} t y.1 (applyRps p)) x.pool }
  let x := s2.dec k
  let held := (x.where' PoolBuf.isRef).map fun j => (x.poolBuf j).poc
  let damaged := !p.lostCtus.isEmpty || (p.refs ++ p.longRefs).any fun r => !held.contains r
  let shown := p.output && !(damaged && held.isEmpty)
  let (on, clean, marked, ev) := concealStep x p damaged
  let bytes := concealed x p
  let s3 := s2.modDec k fun x =>
    let x1 : Dec :=
      { x with concealing := on, clean := clean, nNotOut := if p.output && !shown then x.nNotOut + 1 else x.nNotOut,
               nRecover := if ev = some 4 then x.nRecover + 1 else x.nRecover }
    let x2 := if shown then (x1.where' fun y => y.pending).foldl (fun x j => x.modPool j fun y => { y with latency := y.latency + 1 }) x1 else x1
    x2.modPool b fun y =>
      { mark := if p.long then .long else .short, order := y.order, poc := p.poc, pending := shown, concealed := marked, width := p.width,
        height := p.height, format := pictureFormat p, bytes := bytes }
  let s4 := match ev with
    | some c => decEvent s3 k c
    | none => s3
  bump k (fun x =>
    let l := x.where' fun y => y.pending
    decide (p.reorder < l.length) || (decide (p.latency ≠ 0) && l.any fun j => decide (p.latency ≤ (x.poolBuf j).latency))) 16 s4

/-- PICTURE_DECODED (R412 to R416): the firmware's and hardware's work on a picture ends; not in STAGE 7 (R410). A coded video sequence
that breaks a limit raises event 0x05 once.
(DESIGN CHOICE, log entry 50) -/
def execPictureDecoded (session : Nat) (p : Picture) (s : State) : Host.Outcome State Fault Refusal :=
  .next <|
    if !(s.dec session).running || s.hub.cpFailed || decide (s.hub.stage = .restarting) then s
    else
      let s1 := (beginPicture s session).modDec session fun x => { x with stream := usePackets x.stream }
      match ((s1.dec session).where' fun y => decide (y.mark = .decoding)).head? with
      | none => s1
      | some b =>
        let x := s1.dec session
        let reason := x.limitBroken p
        let drop := s1.modDec session fun x => { x.modPool b fun _ => {} with nNotOut := x.nNotOut + 1, broken := true }
        let s2 :=
          if reason ≠ 0 then (if x.broken && !(p.irap && p.noRasl) then drop else decEvent drop session 5 (put reason 4 0))
          else if x.broken && !p.irap then drop
          else completePicture (s1.modDec session fun x => { x with broken := false }) session b p
        if (s2.dec session).stream.isEmpty then s2 else beginPicture s2 session

/-! ### ENC_CONFIG, ENC_START, ENC_STOP (R428) -/

/-- The request's encode session. -/
def reqEnc (r : Req) : Nat := fld (r.word 0) 0 0
/-- The request's encode session lies in the sender's partition. -/
def encReach (s : State) (r : Req) : Bool := s.owns r.who 8 (4 + reqEnc r)
/-- ENC_CONFIG for the common checks (R428). -/
def opEncConfig : JcsOp := { opcode := 0x0A10, reach := encReach, zeros := fun _ _ => 1 }
/-- The codes of a session's block are all listed ones (R11, R428): TF, BAND. -/
def EncSt.codesOk (x : EncSt) : Bool := decide (x.tf ≠ 3) && (1 ≤ x.bandCols && x.bandCols ≤ 8)
/-- ENC_CONFIG (R11, R428): ranges are checked at ENC_START; MIN_BUF is a free value while the canvas has no rate.
(DESIGN CHOICE, log entry 51) -/
def encConfigBody (s : State) (r : Req) : Ans :=
  let k := reqEnc r
  let x : EncSt := { cfg := (List.range 4).map r.word, owner := s.ownerOf 8 (4 + k) }
  if (s.enc k).running then .busy s
  else if !x.codesOk then .badParam s
  else .ok ((s.modEnc k fun _ => x).drawn)
    [if (encCanvas s x).isSet then put (encMinBuf s x) 32 0 else put s.freeWord.toNat 32 0]
/-- ENC_CONFIG (R428). -/
def execEncConfig (r : Req) (s : State) : Host.Outcome State Fault Refusal := .next (jcs opEncConfig encConfigBody r s)

/-- Check 2 of R428. -/
def encFieldsOk (s : State) (x : EncSt) : Bool :=
  let cfg := (s.canvas x.canvas).committed
  let r := encRate s x
  cfg.isSet && x.codesOk && decide (fld (x.w 0) 19 14 ≤ 34) &&
    (256 ≤ x.ew && x.ew ≤ 3840) && x.ew % 8 = 0 && (144 ≤ x.eh && x.eh ≤ 2160) && x.eh % 8 = 0 &&
    (1000 ≤ x.bitrate && x.bitrate ≤ 20000) && decide (x.qpMax ≤ 51) && decide (x.qpMin ≤ x.qpMax) && (16 ≤ x.capx && x.capx ≤ 64) &&
    decide (x.sx + x.sw ≤ cfg.width) && decide (x.sy + x.sh ≤ cfg.height) && (x.ew ≤ x.sw && x.sw ≤ 32 * x.ew) &&
    (x.eh ≤ x.sh && x.sh ≤ 32 * x.eh) && decide (r.1 ≤ 60 * r.2)

/-- ENC_START for the common checks (R428). -/
def opEncStart : JcsOp := { opcode := 0x0A11, reach := encReach }
/-- ENC_START (R409, R420, R423, R428). -/
def encStartBody (s : State) (r : Req) : Ans :=
  let k := reqEnc r
  let x := s.enc k
  let g := s.ring (s.globalRing r.who x.ring)
  if x.running || x.cfg.isEmpty || !encFieldsOk s x then .badParam s
  else if decide (r.who < 64) && (!s.owns r.who 3 x.canvas || decide (s.ringCount r.who ≤ x.ring)) then .ok (violate s r.who)
  else if g.type ≠ 5 || decide (g.state ≠ .running) then .notReady s
  else if 497664000 * 840840 < encUsed s k + encCharge s x then .busy s [budgetWord (encCharge s x) (encUsed s k) 497664000 840840]
  else .ok (encEvent (s.modEnc k fun x =>
    { x with running := true, stopping := false, qpPic := 32, rows := [], band := 0, inCycle := 0, postponed := 0, cycles := 0,
             prev := none, longRef := none, prevEdge := 0, longEdge := 0, caps := [], held := [], dropping := false }) k 1 (s.canvas x.canvas).frame)
/-- ENC_START (R428). -/
def execEncStart (r : Req) (s : State) : Host.Outcome State Fault Refusal := .next (jcs opEncStart encStartBody r s)

/-- An encode session stops (R428): event 0x02. -/
def endEncode (s : State) (k : Nat) : State :=
  encEvent (s.modEnc k fun x => { x with running := false, stopping := false, caps := [] }) k 2 (s.canvas (s.enc k).canvas).frame
/-- ENC_STOP for the common checks (R428). -/
def opEncStop : JcsOp := { opcode := 0x0A12, reach := encReach }
/-- ENC_STOP (R428): the access unit in progress is completed first. -/
def encStopBody (s : State) (r : Req) : Ans :=
  let k := reqEnc r
  let x := s.enc k
  if !x.running then .ok s
  else if x.caps.isEmpty then .ok (endEncode s k)
  else .ok (s.modEnc k fun x => { x with stopping := true })
/-- ENC_STOP (R428). -/
def execEncStop (r : Req) (s : State) : Host.Outcome State Fault Refusal := .next (jcs opEncStop encStopBody r s)

/-! ### VCX_STATUS_READ (R429) -/

/-- The request's session by its PLT index (R408). -/
def reqVcx (r : Req) : Nat := fld (r.word 0) 2 0
/-- VCX_STATUS_READ for the common checks (R429). -/
def opVcxStatusRead : JcsOp :=
  { opcode := 0x0A20, reach := fun s r => decide (5 < reqVcx r) || s.owns r.who 8 (reqVcx r), zeros := fun _ _ => 4 }
/-- VCX_STATUS_READ (R429). -/
def vcxStatusReadBody (s : State) (r : Req) : Ans :=
  let k := reqVcx r
  let two := fun (a b : BitVec 32) => a.setWidth 64 ||| (b.setWidth 64 <<< 32)
  if 5 < k then .badParam s
  else if k < 4 then
    let x := s.dec k
    let legUp := fun (leg : Nat) => x.running && x.legOn leg && !x.legLost leg && s.netUp (x.legPort leg)
    .ok s [put (if !x.running then 0 else if x.concealing then 2 else 1) 2 0 ||| putB (legUp 0) 2 ||| putB (legUp 1) 3,
      two x.nOut x.nConcealed, two x.nLost x.nDup, two x.nNotOut x.nRecover]
  else
    let x := s.enc (k - 4)
    .ok s [putB x.running 0 ||| put x.qpPic 8 24 ||| put x.band 16 32 ||| put x.cycleLen 16 48,
      two x.nAu x.nDropped, two x.nSkipRows x.nPostpone, two x.nAllSkip x.nLongCycle]
/-- VCX_STATUS_READ (R429). -/
def execVcxStatusRead (r : Req) (s : State) : Host.Outcome State Fault Refusal := .next (jcs opVcxStatusRead vcxStatusReadBody r s)

/-! ### BITSTREAM rings and encoding (R418 to R427) -/

/-- A finished access unit goes into a host buffer, and its completion is posted (R425, R426). -/
def giveUnit (s : State) (b : EncBuf) (au : AccessUnit) : State :=
  complete (s.emit (.accessUnit b.func b.desc.w1 (fld au.desc.w0 63 32) au.pic)) b.cr b.gen { au.desc with w3 := b.desc.w3 }

/-- ENC_BUF (R425, R427): the oldest access unit held takes the buffer at once. -/
def execEncBuf (ring : Nat) (d : Desc) (s : State) : Host.Outcome State Fault Refusal :=
  .next <|
    if s.hub.cpFailed then s
    else
      match takeTyped s ring d 5 0x20 with
      | none => s
      | some (s1, cr, gen) =>
        let k := fld d.w0 8 8
        let x := s.enc k
        let owner := (s.ring ring).owner
        let len := fld d.w0 63 32
        let finish := fun (s : State) (st : Nat) => complete s cr gen ⟨ctWord 0x20 st (put k 1 16), 0, 0, d.w3⟩
        if !s.owns owner 8 (4 + k) then finish (violate s1 owner) 0
        else if len = 0 then finish s1 0
        else if len = 0xFFFFFFFF then finish s1 3
        else if x.cfg.isEmpty || decide (s.globalRing owner x.ring ≠ ring) || decide (len < encMinBuf s x) then finish s1 4
        else
          let b : EncBuf := ⟨cr, gen, owner, d⟩
          match x.held with
          | au :: rest => giveUnit (s1.modEnc k fun x => { x with held := rest }) b au
          | [] => s1.modEnc k fun x => { x with bufs := x.bufs ++ [b] }

/-- ENCODE_CAPTURE (R418, R424, R427, R430): canvas frame N has flipped. It arrives in time unless class O work is shed, its die is
out or STAGE is 7. -/
def execEncodeCapture (session : Nat) (s : State) : Host.Outcome State Fault Refusal :=
  .next <|
    let x := s.enc session
    let cv := s.canvas x.canvas
    let n := cv.frame
    if !x.running || x.stopping || !cv.running || n % x.div ≠ 0 || x.prev = some n || x.caps.any (fun c => decide (c.frame = n)) then s
    else if x.bufs.isEmpty && decide (8 ≤ x.held.length + x.caps.length) then
      let s1 := s.modEnc session fun x => { x with nDropped := x.nDropped + 1, dropping := true }
      if x.dropping then s1 else encEvent s1 session 3 n
    else
      let dies := if s.span then (cv.committed.tileIds.flatMap s.tileDies).dedup else [s.lead]
      let ok := decide (s.hub.stage = .ready) && dies.all fun d => s.up d && !s.oShed d.die3
      let pic := match [cv.order, cv.prevOrder].findSome? fun o => o.filter fun o => decide (o.frame = n) with
        | some o => if ok then capture s x o else []
        | none => []
      s.modEnc session fun x => { x with dropping := false, caps := x.caps ++ [⟨n, wallOf (cv.flipTime n), ok, pic⟩] }

/-- The refreshed edge of a picture in luma columns (R420, R424): its band's right edge, its left edge where a row was skipped. -/
def EncSt.edgeAfter (x : EncSt) (skips : Nat) : Nat :=
  if skips ≠ 0 then x.band * 64 else min x.ew ((x.band + x.bandCols) * 64)

/-- The session's skim state after a picture (R420, R422, R424). -/
def EncSt.skim (x : EncSt) (frame skips : Nat) : EncSt :=
  if skips ≠ 0 then { x with inCycle := x.inCycle + 1, postponed := x.postponed + 1, nPostpone := x.nPostpone + 1,
                             nLongCycle := if x.postponed = 4 then x.nLongCycle + 1 else x.nLongCycle }
  else if x.ctuCols ≤ x.band + x.bandCols then
    let long := decide (x.ltEvery ≠ 0) && decide ((x.cycles + 1) % x.ltEvery = 0)
    { x with inCycle := 0, band := 0, postponed := 0, cycles := x.cycles + 1,
             longRef := if long then some frame else x.longRef, longEdge := if long then x.edgeAfter skips else x.longEdge }
  else { x with inCycle := x.inCycle + 1, band := x.band + x.bandCols }

/-- ACCESS_UNIT_DONE (R419, R420, R422 to R427): the oldest captured picture has been coded. (DESIGN CHOICE, log entry 50) -/
def execAccessUnitDone (session : Nat) (c : CodedRows) (s : State) : Host.Outcome State Fault Refusal :=
  .next <|
    let x := s.enc session
    match x.caps with
    | [] => s
    | p :: rest =>
      if !x.running || s.hub.cpFailed || decide (s.hub.stage = .restarting) then s
      else
        let budget := encBudget s x
        let y := codePicture x budget (encCap s x) p.ok c
        let rap := decide (x.inCycle = 0)
        let bytes := ceilDiv y.used 8 + c.extraBytes
        let unit : Desc := ⟨ctWord 0x20 0 (put session 1 16 ||| putB rap 17 ||| putB (decide (y.skips ≠ 0)) 18 |||
            putB (decide (y.skips ≠ 0)) 19 ||| putB rap 20 ||| put (y.qps.getD 0 0) 8 24 ||| put bytes 32 32),
          BitVec.ofNat 64 p.flipAt, put p.frame 48 0 ||| put y.skips 8 48, 0⟩
        let au : AccessUnit := ⟨unit, x.codedPic y.qps (if p.ok then x.motion p.frame else [])⟩
        let step := max (-3) (min 3 (qpStep y.used budget 3))
        let s1 := s.modEnc session fun x =>
          { x.skim p.frame y.skips with
            caps := rest, rows := y.rows, prev := some p.frame, prevEdge := x.edgeAfter y.skips,
            qpPic := clampInt x.qpMin x.qpMax ((x.qpPic : Int) + step), nAu := x.nAu + 1,
            nSkipRows := x.nSkipRows + BitVec.ofNat 32 y.skips, nAllSkip := if p.ok then x.nAllSkip else x.nAllSkip + 1 }
        let s2 := if !p.ok then encEvent s1 session 4 p.frame else if y.skips ≠ 0 then encEvent s1 session 5 p.frame else s1
        let s3 := if y.skips ≠ 0 && decide (x.postponed = 4) then encEvent s2 session 6 p.frame else s2
        let s4 := match x.bufs with
          | b :: bs => giveUnit (s3.modEnc session fun x => { x with bufs := bs }) b au
          | [] => s3.modEnc session fun x => { x with held := x.held ++ [au] }
        if x.stopping && rest.isEmpty then endEncode s4 session else s4

end Sys2Proof.Machine
end

