-- ==== Sys2Proof/Machine/TimeRows.lean ====
section
/-! DEFINITION. The time commands and events: servo, references, steps, PTP, PPS, network links (R365 to R390). -/

namespace Sys2Proof.Machine

/-! ### TIME commands (R369 to R371, R388) -/

/-- TIME_READ for the common checks. -/
def opTimeRead : JcsOp := { opcode := 0x0801 }
/-- The code of a servo mode (R369). -/
def servoCode (m : ServoMode) : Nat := match m with
  | .free => 0 | .ptp => 1 | .ref => 2 | .host => 3
/-- The code of a reference state (R388). -/
def refCode (x : RefState) : Nat := match x with
  | .none => 0 | .acquire => 1 | .locked => 2 | .holdover => 3 | .realign => 4 | .measure => 5
/-- TIME_READ (R388). (DEDUCED, log entry 87) -/
def timeReadBody (s : State) (_ : Req) : Ans :=
  let t := s.time
  .ok s [BitVec.ofNat 64 s.wall, put t.counter.toNat 32 0, t.inc.setWidth 64,
    put (servoCode t.mode) 2 0 ||| put (refCode t.state) 3 4 ||| putB t.snap 7 ||| putB t.step.isSome 8,
    put (min 0xFFFFFFFF (((s.wall : Int) - t.since).toNat / 1000000)) 32 0 ||| (t.steps.setWidth 64 <<< 32), ofInt t.offset,
    t.glitches.setWidth 64 ||| (t.realigns.setWidth 64 <<< 32), t.copyFix.setWidth 64]
/-- TIME_READ (R388). -/
def execTimeRead (r : Req) (s : State) : Host.Outcome State Fault Refusal := .next (jcs opTimeRead timeReadBody r s)

/-- The timebase belongs to the owner of canvas 0 and to the service port (R370). -/
def timeReach (s : State) (r : Req) : Bool := s.owns r.who 3 0

/-- TIME_SERVO for the common checks. -/
def opTimeServo : JcsOp := { opcode := 0x0802, reach := timeReach }
/-- TIME_SERVO (R369, R390): entering PTP or REF, or leaving MEASURE, starts in ACQUIRE; FREE and HOST stop the servo. -/
def timeServoBody (s : State) (r : Req) : Ans :=
  let mode : ServoMode := match fld (r.word 0) 1 0 with
    | 0 => .free | 1 => .ptp | 2 => .ref | _ => .host
  let free : BitVec 40 := BitVec.ofNat 40 (fld (r.word 1) 39 0)
  if mode = .free && free ≠ 0 && !incOk free then .badParam s
  else
    let s1 := s.modTime fun t => { t with mode := mode, snap := bit (r.word 0) 2, inc := if mode = .free && free ≠ 0 then free else t.inc }
    let s2 := if mode = .ptp || mode = .ref then
        (if mode = s.time.mode && s.time.state ≠ .measure then s1
         else (toRef (s1.modTime fun t =>
          { t with slewing := false, holdInc := if t.slewing then t.holdInc else t.inc, lastEdge := none, following := none,
                   state := .none }) .acquire))
      else toRef (s1.modTime fun t => { t with slewing := false, following := none }) .none
    .ok (settingsDue s2)
/-- TIME_SERVO (R369). -/
def execTimeServo (r : Req) (s : State) : Host.Outcome State Fault Refusal := .next (jcs opTimeServo timeServoBody r s)

/-- TIME_INCREMENT for the common checks. -/
def opTimeIncrement : JcsOp := { opcode := 0x0803, reach := timeReach }
/-- TIME_INCREMENT (R366, R371, R375). -/
def timeIncrementBody (s : State) (r : Req) : Ans :=
  let inc : BitVec 40 := BitVec.ofNat 40 (fld (r.word 0) 39 0)
  let on := bit (r.word 0) 40
  let delta := (r.word 1).toInt
  if s.time.mode ≠ .host then .conflict s
  else if !incOk inc then .badParam s
  else if on && s.time.step.isSome then .busy s
  else
    let s1 := s.modTime fun t => { t with inc := inc }
    .ok (if on && delta ≠ 0 then scheduleStep s1 delta else s1)
/-- TIME_INCREMENT (R371). -/
def execTimeIncrement (r : Req) (s : State) : Host.Outcome State Fault Refusal := .next (jcs opTimeIncrement timeIncrementBody r s)

/-! ### PTP_CONFIG, PTP_STATUS_READ, REF_CONFIG (R382, R383, R385, R387) -/

/-- GLITCH_NS of a request's word 0 is in range (R382, R385). -/
def glitchField (w : Word) : Bool := decide (fld w 63 32 = 0) || (decide (100 ≤ fld w 63 32) && decide (fld w 63 32 ≤ 1000000))

/-- PTP_CONFIG for the common checks. -/
def opPtpConfig : JcsOp := { opcode := 0x0804, reach := timeReach }
/-- PTP_CONFIG (R382): the ordinary clocks restart their master selection. (DEDUCED, log entry 73) -/
def ptpConfigBody (s : State) (r : Req) : Ans :=
  let w := r.word 0
  if decide (1 < fld w 1 0) || !glitchField w || (bit w 20 && decide (fld w 1 0 = 1)) then .badParam s
  else
    let s1 := s.modTime fun t => { t with ptp := (List.range 3).map r.word }
    .ok (settingsDue (s1.each (List.range 4) restartPort))
/-- PTP_CONFIG (R382). -/
def execPtpConfig (r : Req) (s : State) : Host.Outcome State Fault Refusal := .next (jcs opPtpConfig ptpConfigBody r s)

/-- The latency constants of a network port: calibrated, or the factory's (R381, R532). -/
def State.netLatency (s : State) (port : Nat) : Nat × Nat := (Tbl.get none s.time.latency port).getD (Config.factoryLatency port)

/-- PTP_STATUS_READ for the common checks. -/
def opPtpStatusRead : JcsOp := { opcode := 0x0805 }
/-- PTP_STATUS_READ (R383): of the ordinary clock in use; without one, of die A's. -/
def ptpStatusReadBody (s : State) (_ : Req) : Ans :=
  let d := s.ocUsed.getD .a
  let o := s.oc d
  let port := d.num * 2 + (if o.using1 then 1 else 0)
  let ps := fun (d : DieId) (v : BitVec 4) (lo : Nat) => if s.ocOn d then put v.toNat 4 lo else 0
  let lat := s.netLatency port
  .ok s [ps .a s.time.ocA.port0 0 ||| ps .a s.time.ocA.port1 4 ||| ps .b s.time.ocB.port0 8 ||| ps .b s.time.ocB.port1 12 |||
      put (match s.ocUsed with
        | some d => d.num
        | none => 3) 2 16,
    o.gmId, o.prio1.setWidth 64 ||| (o.cls.setWidth 64 <<< 8) ||| (o.accuracy.setWidth 64 <<< 16) ||| (o.domain.setWidth 64 <<< 24) |||
      (o.steps.setWidth 64 <<< 32),
    ofInt o.mpd, ofInt o.ofm, s.time.syncs.setWidth 64 ||| (s.time.tcMsgs.setWidth 64 <<< 32), put lat.1 32 0 ||| put lat.2 32 32, s.time.smTlv]
/-- PTP_STATUS_READ (R383). -/
def execPtpStatusRead (r : Req) (s : State) : Host.Outcome State Fault Refusal := .next (jcs opPtpStatusRead ptpStatusReadBody r s)

/-- REF_CONFIG for the common checks. -/
def opRefConfig : JcsOp := { opcode := 0x0806, reach := timeReach }
/-- The fields of REF_CONFIG are in range (R385). -/
def refFieldsOk (r : Req) : Bool :=
  let w := r.word 0
  let off := fld (r.word 1) 31 0
  let q := rateOf (fld w 8 4)
  glitchField w && (match fld w 1 0 with
    | 1 => decide (off ≤ 999999999)
    | 2 => decide (1 ≤ fld w 8 4) && decide (fld w 8 4 ≤ 17) && decide ((off + 1) * q.1 ≤ 1000000000 * q.2)
    | _ => true)
/-- REF_CONFIG (R385, R387, R390): in REF mode the reference is acquired anew. -/
def refConfigBody (s : State) (r : Req) : Ans :=
  let w := r.word 0
  if !refFieldsOk r then .badParam s
  else if bit w 16 && decide ((s.sap 7).state ≠ .stopped) then .busy s
  else
    let s1 := s.modTime fun t =>
      { t with ref := (List.range 2).map r.word, refRate := fld w 8 4, ppsGranted := bit w 16, ppsHigh := t.ppsHigh && bit w 16, lastEdge := none,
               following := none }
    let s2 := if s.time.ppsHigh && !bit w 16 then s1.emit (.pin "PPS_OUT" false) else s1
    .ok (settingsDue (if s.time.mode = .ref then toRef (s2.modTime fun t => { t with slewing := false, state := .none }) .acquire else s2))
/-- REF_CONFIG (R385). -/
def execRefConfig (r : Req) (s : State) : Host.Outcome State Fault Refusal := .next (jcs opRefConfig refConfigBody r s)

/-! ### Measurements (R368, R372 to R376) -/

/-- The last measured offset is kept for TIME_READ unless another reference steers (R371, R388). -/
def keepOffset (s : State) (offset : Int) (mode : ServoMode) : State :=
  if s.servoOn && decide (s.time.mode ≠ mode) then s else s.modTime fun t => { t with offset := offset }

/-- The firmware's servo runs (R368). -/
def State.servoRuns (s : State) : Bool := decide (s.hub.stage = .ready) && !s.hub.cpFailed

/-- A Delay_Req leaves a port (R378, R382): from the source address of the die's ordinary clock, tagged with VID where VLAN_EN is set. -/
def sendDelayReq (s : State) (port : Nat) : State :=
  let d := netDie port
  let w := s.ptpW 2
  s.emit (.delayReq port (BitVec.ofNat 32 (fld (s.ptpW 1) (32 * d.num + 31) (32 * d.num))) (fld (s.ptpW 0) 15 8) (bit (s.ptpW 0) 20)
    (if bit w 12 then some (fld w 11 0) else none))

/-- A Sync of the master that a die's ordinary clock follows (R372, R378, R381): the time-stamp less the port's receive latency, the origin
time, the correctionFields and the mean path delay give the offset. A port that was UNCALIBRATED becomes SLAVE, and a Delay_Req follows each
Sync. (DEDUCED, log entry 63) (PRESUMED, log entry 108) -/
def measureSync (s : State) (m : SyncMsg) : State :=
  let d := m.die
  let o := s.oc d
  let port := d.num * 2 + m.port % 2
  let st := if m.port % 2 = 0 then o.port0 else o.port1
  if !s.ocOn d || !s.netUp port || decide (m.domain.toNat ≠ fld (s.ptpW 0) 15 8) || o.master ≠ m.sender || !(st = 8 || st = 9) then s
  else
    let copy := s.copyOf d
    let t1 := m.origin + m.correction
    let t2 := stampOf copy m.age - ((s.netLatency port).2 : Int)
    let t3 := stampOf copy 0 + ((s.netLatency port).1 : Int)
    let offset := t2 - t1 - o.mpd
    let s0 := setPortState s port 9
    let s1 := sendDelayReq (followGm s ((s0.modOc d fun o => { o with ofm := offset, exchange := some (t1, t2, t3) }).modTime fun t =>
      { t with syncs := t.syncs + 1 })) port
    if s1.ocUsed ≠ some d || !s1.servoRuns then s1
    else
      let s2 := keepOffset s1 offset .ptp
      let glitch := !within (offset - s.time.predicted) s.glitch
      if s2.time.mode = .ptp then measurement s2 offset glitch true else s2

/-- A selected edge at REF_IN that came `age` ago (R372, R384): its time-stamp less the pin delay. -/
def measureEdge (s : State) (age : Nat) : State :=
  if !(decide (s.refMode = 1) || decide (s.refMode = 2)) || !s.servoRuns then s
  else
    let t := stampOf s.time.counter age - (Config.pinDelay : Int)
    let off := edgeOffset s t
    let ok := intervalOk s t
    let gap := s.time.lastEdge.map fun e => (t - e).toNat
    let s1 := (keepOffset s off .ref).modTime fun x =>
      { x with lastEdge := some t, intervals := if x.state = .measure then (gap.toList ++ x.intervals).take 8 else x.intervals }
    if s.time.mode = .ref then measurement s1 off (!within off s.glitch || !ok) ok else s1

/-- A 10 MHz gate of 1 ms of wall time (R372, R373): each edge too few or too many is 100 ns by which the wall ran fast or slow in the gate.
(DEDUCED, log entry 72) -/
def measureGate (s : State) (count : Nat) : State :=
  if !s.tenMhz || !s.servoRuns then s
  else
    let ok := decide (9999 ≤ count) && decide (count ≤ 10001)
    measurement s ((10000 - (count : Int)) * 100 * 65536) (!ok) ok

/-- REF_MEASUREMENT (R372, R373). -/
def execRefMeasurement (m : RefMeas) (s : State) : Host.Outcome State Fault Refusal :=
  .next <|
    match m with
    | .sync m => measureSync s m
    | .edge age => measureEdge s age
    | .gate count => measureGate s count

/-- REF_STOP (R372, R373, R390): any servo state goes to HOLDOVER. -/
def execRefStop (s : State) : Host.Outcome State Fault Refusal :=
  .next (if s.servoOn && s.servoRuns && s.time.state ≠ .holdover then holdover s false else s)

/-- SLEW_END (R368, R374): the offset is 100 ns or less, or past zero, and the servo takes over where it runs. -/
def execSlewEnd (s : State) : Host.Outcome State Fault Refusal :=
  .next <|
    if s.time.slewing && s.servoRuns && s.slewDone then
      servo (s.modTime fun t => { t with slewing := false, inc := t.holdInc }) s.time.offset
    else s

/-- TIME_STEP (R375): at ts. A timing change accepted before the step was scheduled delays it past its end. -/
def execTimeStep (s : State) : Host.Outcome State Fault Refusal :=
  .next <|
    match s.time.step with
    | none => s
    | some (delta, _) =>
      if s.stepDelayed then scheduleStep s delta else stepNow s delta

/-! ### RATE_MEASURED (R386) -/

/-- A configuration at another rate. -/
def CanvasCfg.atRate (c : CanvasCfg) (code : Nat) : CanvasCfg :=
  { c with cfg := ((c.cw 0 &&& ~~~(0x1F#64 <<< 3)) ||| put code 5 3) :: c.cfg.drop 1 }

/-- The canvases that follow a rate change: those of FOLLOW_MASK that run at the old REF_RATE. -/
def followers (s : State) : List Nat :=
  below 4 fun c => bit (s.refW 0) (12 + c) && (s.canvas c).running && decide ((s.canvas c).committed.rate = s.time.refRate)

/-- The configuration last committed on a canvas: the pending one, else that in effect (R225). -/
def Canvas.lastCfg (x : Canvas) : CanvasCfg := (x.pending.map fun p => p.cfg).getD x.committed

/-- Every follower passes the checks of R101 at the new rate and can change now: no change is in progress, no tile of it in a transaction
(R239). -/
def canFollow (s : State) (code : Nat) : Bool :=
  bit (s.refW 0) 3 && decide (s.refMode = 2) && decide (1 ≤ code) && decide (code ≤ 17) &&
    (followers s).all fun c => (s.canvas c).change.isNone && (commitFails s c ((s.canvas c).lastCfg.atRate code)).isNone &&
      (s.canvas c).lastCfg.tileIds.all fun t => (s.txnOn t).isNone

/-- The last 8 intervals of MEASURE lie within GLITCH_NS of their mean (R373). -/
def State.steady (s : State) : Bool :=
  let sum := s.time.intervals.sum
  s.time.intervals.all fun d => decide (((8 * d : Nat) - (sum : Int)).natAbs ≤ 8 * 65536 * s.glitch)

/-- The mean of 8 intervals lies within 50 ppm of the period of rate `code` (R3, R373). -/
def nearRate (sum code : Nat) : Bool :=
  let (num, den) := rateOf code
  decide ((((sum * num : Nat) : Int) - (65536 * 8000000000 * den : Nat)).natAbs * 20000 ≤ 65536 * 8000000000 * den)

/-- The rate code that the last 8 intervals of MEASURE measure (R386): 0 for an unsupported rate. -/
def State.measuredCode (s : State) : Nat := ((List.range' 1 17).find? fun c => nearRate s.time.intervals.sum c).getD 0

/-- RATE_MEASURED (R373, R386): 8 intervals have been measured at rate `code` (0: no rate of the table); another code than theirs
changes nothing. Where they scatter the measurement restarts; else their rate is followed, once its canvases have changed, or not.
(DEDUCED, log entries 72 and 106) -/
def execRateMeasured (code : Nat) (s : State) : Host.Outcome State Fault Refusal :=
  .next <|
    if code ≠ s.measuredCode || s.time.state ≠ .measure || !s.servoRuns || s.time.intervals.length < 8 || s.time.following.isSome then s
    else if !s.steady then s.modTime fun t => { t with intervals := [] }
    else if canFollow s code then
      let s1 := s.modTime fun t => { t with following := some code }
      endFollow ((followers s).foldl (fun s c => startChange s c ((s.canvas c).lastCfg.atRate code) 66 0 true) s1) true
    else timeEvent (timeEvent (toRef s .holdover) 2 (putB true 0)) 7 (put code 5 0)

/-! ### Counter copies (R365) -/

/-- COUNTER_COPY_COMPARE (R365): the copies have gone off by these amounts, in 2^-32 ns, since the comparison before. A copy that now differs
from the hub's counter by more than 0.5 ns is corrected and counted. (DEDUCED, log entry 63) -/
def execCounterCopyCompare (diffA diffB : Int) (s : State) : Host.Outcome State Fault Refusal :=
  .next <|
    let one := fun (s : State) (d : DieId) (diff : Int) =>
      if (s.die d).stopped then s
      else
        let v := s.copyOf d + BitVec.ofInt 96 diff
        if 2147483648 < (v - s.time.counter).toInt.natAbs then
          (s.setCopy d s.time.counter).modTime fun t => { t with copyFix := t.copyFix + 1 }
        else s.setCopy d v
    one (one s .a diffA) .b diffB

/-! ### PTP messages (R372, R378 to R380, R383, R389) -/

/-- The two-step Sync whose Follow_Up a message is, as a transparent clock has passed it (R380). -/
def syncPassed (d : DieId) (m : PtpMsg) (x : DieId × Word × BitVec 16 × Nat) : Bool :=
  decide (x.1 = d) && decide (x.2.1 = m.source) && decide (x.2.2.1 = m.seq)

/-- A message leaves a transparent clock by the port it did not come in at (R380), with `add` added to its correctionField where it is given:
such a message has its UDP checksum zeroed and its frame check sequence recomputed. -/
def passPtp (s : State) (d : DieId) (m : PtpMsg) (add : Option Nat) : State :=
  let port := d.num * 2 + 1 - m.port % 2
  match add with
  | some r => (s.emit (.ptp port { m with correction := m.correction + r } true)).modTime fun t => { t with tcMsgs := t.tcMsgs + 1 }
  | none => s.emit (.ptp port m false)

/-- PTP_MESSAGE_FORWARD (R380): residence is added to a one-step Sync and to a Delay_Req, and that of a two-step Sync to its Follow_Up. -/
def execPtpMessageForward (die : DieId) (msg : PtpMsg) (twoStep : Bool) (residence : Nat) (s : State) : Host.Outcome State Fault Refusal :=
  .next <|
    if !s.up die || !bit (s.ptpW 0) (18 + die.num) || !s.netUp (die.num * 2) || !s.netUp (die.num * 2 + 1) then s
    else if msg.kind = 1 || (msg.kind = 0 && !twoStep) then passPtp s die msg (some residence)
    else if msg.kind = 0 then
      (passPtp s die msg none).modTime fun t =>
        { t with tcSyncs := (die, msg.source, msg.seq, residence) :: t.tcSyncs.filter fun x => x.1 ≠ die || x.2.1 ≠ msg.source }
    else if msg.kind = 2 then
      (passPtp s die msg ((s.time.tcSyncs.find? (syncPassed die msg)).map fun x => x.2.2.2)).modTime fun t =>
        { t with tcSyncs := t.tcSyncs.filter fun x => !syncPassed die msg x }
    else passPtp s die msg none

/-- An Announce replaces what its port keeps when it comes from the same sender, ranks better, or what is kept has timed out (R378). -/
def State.keepsAnnounce (s : State) (x : Announce) : Bool :=
  match s.freshAnnounce (x.die.num * 2 + x.port % 2) with
  | some a => a.sender != x.sender && decide (announceRank a ≤ announceRank x)
  | none => false

/-- PTP_ANNOUNCE_RECEIVED (R378, R379, R382, R389): an Announce of the configured domain enters the best master clock choice of its die.
(DEDUCED, log entry 73) (PRESUMED, log entry 108) -/
def execPtpAnnounceReceived (x : Announce) (s : State) : Host.Outcome State Fault Refusal :=
  .next <|
    let port := x.die.num * 2 + x.port % 2
    if !s.ocOn x.die || !s.netUp port || decide (x.domain.toNat ≠ fld (s.ptpW 0) 15 8) then s
    else
      let s1 := if s.keepsAnnounce x then s else s.modOc x.die fun o => o.setForeign port (some (x, s.uptime))
      let s2 := selectMaster s1 x.die
      followGm s (match x.smTlv with
        | some w => s2.modTime fun t => { t with smTlv := w }
        | none => s2)

/-- PTP_DELAY_RESPONSE (R372, R378): the mean path delay that later offsets use, from the last Sync, the Delay_Req sent after it and the
receipt time that the Delay_Resp carries. A unicast one is accepted only while UNICAST_DREQ is set. -/
def execPtpDelayResponse (die : DieId) (resp : DelayResp) (s : State) : Host.Outcome State Fault Refusal :=
  .next <|
    match (s.oc die).exchange with
    | none => s
    | some (t1, t2, t3) =>
      if !s.ocOn die || decide (resp.domain.toNat ≠ fld (s.ptpW 0) 15 8) || (resp.unicast && !bit (s.ptpW 0) 20) then s
      else s.modOc die fun o => { o with mpd := (t2 - t1 + (resp.receipt - resp.correction - t3)) / 2, exchange := none }

/-- PPS_OUTPUT (R387): a granted output rises at a whole second. -/
def execPpsOutput (s : State) : Host.Outcome State Fault Refusal :=
  .next (if s.time.ppsGranted then (s.modTime fun t => { t with ppsHigh := true }).emit (.pin "PPS_OUT" true) else s)

/-! ### Network links (R389, R533) -/

/-- NETWORK_LINK_UP (R389, R533): event 0x01; the port's lanes and PTP latency are due for calibration. -/
def execNetworkLinkUp (port : NetPort) (s : State) : Host.Outcome State Fault Refusal :=
  .next <|
    let d := netDie port
    if !s.up d || Tbl.get false s.time.netUp port then s
    else
      let s1 := raise (s.modTime fun t => { t with netUp := Tbl.set false t.netUp port true }) (netSource port) 1 0
      let due := fun (c : CalSt) => { c with due := true, state := if c.state = 0 then 0 else 3 }
      let s2 := (s1.each (List.range 4) fun s l => s.modCal (.netLane d (port % 2 * 4 + l)) due).modCal (.ptp d (port % 2)) due
      restartPort s2 port

/-- NETWORK_LINK_DOWN (R389): event 0x02; the port's ordinary clock no longer listens. -/
def execNetworkLinkDown (port : NetPort) (s : State) : Host.Outcome State Fault Refusal :=
  .next <|
    if !s.up (netDie port) || !Tbl.get false s.time.netUp port then s
    else
      let s1 := raise (s.modTime fun t => { t with netUp := Tbl.set false t.netUp port false }) (netSource port) 2 0
      followGm s (setPortState s1 port 0)

end Sys2Proof.Machine
end

