-- ==== Sys2Proof/Machine/HostOps.lean ====
section
/-! DEFINITION. Shared operations on host functions: mailbox, MSI-X table, function and link reset, failure of the control
processor (R33, R290, R299 to R309, R321, R347). -/

namespace Sys2Proof.Machine

/-! ### Registers of the hub (R294, R295) -/

/-- MODE of HUB_IDENT (R294). -/
def modeCode (m : PkgMode) : Nat :=
  match m with
  | .unknown => 0 | .twin => 1 | .span => 2

/-- MODE as it is shown: 0 until STAGE has reached 6 since package reset (R294, R301). -/
def State.shownMode (s : State) : Nat := if s.hub.reached then modeCode s.hub.mode else 0

/-- HUB_FW_VERSION (R295): zero until an image has passed its signature check. -/
def fwVersionWord (h : Hub) : Word :=
  if h.fwValid then h.fwVersion.setWidth 64 ||| putB h.fwSlotB 32 ||| putB h.unconfirmed 33 else 0

/-- STAGE as a number (R296). -/
def stageCode (g : Stage) : Nat :=
  match g with
  | .reset => 0 | .primer => 1 | .fwLoad => 2 | .memTrain => 3 | .dieCheck => 4 | .linkBringUp => 5 | .ready => 6
  | .restarting => 7 | .halted => 8

/-- HUB_STATUS as the hub forms it (R296). -/
def liveStatusWord (s : State) : Word :=
  put (stageCode s.hub.stage) 4 0 ||| (s.hub.halt.setWidth 64 <<< 4) ||| putB (s.up .a) 8 ||| putB (s.up .b) 9 |||
    putB (s.twin && decide (s.lead = .b)) 10 ||| (s.hub.beat.setWidth 64 <<< 16) ||| (s.hub.bootMs.setWidth 64 <<< 32)

/-- HUB_STATUS (R33, R296, R297): after a failure of the control processor it keeps its last values. -/
def hubStatusWord (s : State) : Word := s.hub.lastStatus.getD (liveStatusWord s)

/-- HUB_IDENT (R294). -/
def hubIdentWord (s : State) (f : Nat) : Word :=
  Config.vendorId.setWidth 64 ||| put 0x6401 16 16 ||| put 0xA0 8 32 ||| put s.shownMode 2 40 |||
    (s.hub.straps.setWidth 64 <<< 42) ||| put (f / 16) 2 44

/-- HUB_FUNC_INFO (R298, R301). -/
def hubFuncInfoWord (s : State) (f : Nat) : Word :=
  let own := put f 6 0 ||| putB (decide (f % 16 = 0)) 6
  if s.hub.stage = .ready ∨ s.hub.stage = .restarting then
    own ||| put (s.ringBase f) 18 8 ||| put (s.ringCount f) 13 26 ||| put (s.msixCount f) 7 39
  else own

/-- HUB_MBOX_STATE (R300, R301). -/
def mboxStateWord (s : State) (f : Nat) : Word :=
  let x := s.func f
  if s.hub.stage = .ready ∨ s.hub.stage = .restarting then
    put (match x.mbox with
      | .idle => 0 | .busy => 1 | .done => 2) 2 0 ||| putB x.drop 2 ||| (x.status.setWidth 64 <<< 8) |||
      (x.tag.setWidth 64 <<< 16) ||| (x.count.setWidth 64 <<< 32)
  else 0

/-! ### Mailbox (R303, R304) -/

/-- The request that stands in a function's request mailbox (R303, R312). -/
def mailboxRequest (f : Nat) (x : Func) : Req :=
  let h := Tbl.get 0 x.reqMem 0
  ⟨f, h, (List.range (min (fld h 63 48) 511)).map fun i => Tbl.get 0 x.reqMem (i + 1)⟩

/-- SUBMIT = 1 is written to the doorbell of function `f` (R301, R303, R304). -/
def mboxSubmit (s : State) (f : Nat) : State :=
  if !s.inUse f || decide (s.hub.stage ≠ .ready) || s.hub.cpFailed then s
  else if (s.func f).mbox = .busy then s.modFunc f fun x => { x with drop := true }
  else
    (s.modHub fun h => { h with accepted := h.accepted ++ [(s.wall, mailboxRequest f (s.func f))] }).modFunc f fun x =>
      { x with mbox := .busy, drop := false }

/-- An access of 4 or 8 bytes, naturally aligned (R292). -/
def sizeOk (offset size : Nat) : Bool := (size = 4 || size = 8) && offset % size = 0

/-- A word with `size` bytes from byte `offset mod 8` on replaced (R292). -/
def mergeWord (old : Word) (offset size : Nat) (v : Word) : Word :=
  if size = 8 then v
  else if offset % 8 = 0 then (old &&& 0xFFFFFFFF00000000#64) ||| (v &&& 0xFFFFFFFF#64)
  else (old &&& 0xFFFFFFFF#64) ||| (v <<< 32)

/-- A write into the request mailbox (R301, R304): discarded with DROP while BUSY, stored at STAGE 6 otherwise. -/
def mailboxWrite (s : State) (f offset size : Nat) (v : Word) : State :=
  if !s.inUse f then s
  else if !sizeOk offset size then violate s f
  else if s.hub.stage ≠ .ready then s
  else if (s.func f).mbox = .busy then s.modFunc f fun x => { x with drop := true }
  else
    let i := (offset - 0x1000) / 8
    s.modFunc f fun x => { x with reqMem := Tbl.modify 0 x.reqMem i fun w => mergeWord w offset size v }

/-! ### MSI-X table (R309) -/

/-- The pending vectors of a function that are no longer masked fire once (R309). -/
def firePending (s : State) (f : Nat) : State :=
  let F := s.func f
  if !F.msixEnabled || F.msixMasked || s.hub.cpFailed then s
  else
    s.each (below (s.msixCount f) fun v => Tbl.get false F.msixPending v && !(Tbl.get {} F.msixTable v).masked) fun s v =>
      let e := Tbl.get {} (s.func f).msixTable v
      (s.emit (.msix f v e.addr e.data)).modFunc f fun x => { x with msixPending := Tbl.set false x.msixPending v false }

/-- An entry, or with `none` the function, is unmasked (R309). -/
def unmask (s : State) (f : Nat) (vector : Option Nat) : State :=
  match vector with
  | some v => firePending (s.modFunc f fun x => { x with msixTable := Tbl.modify {} x.msixTable v fun e => { e with masked := false } }) f
  | none => firePending (s.modFunc f fun x => { x with msixMasked := false }) f

/-- A write of 4 or 8 bytes into the MSI-X table (R309): address, data and vector control of an entry. -/
def msixWrite (s : State) (f offset size : Nat) (v : Word) : State :=
  let i := offset / 16
  let s1 := s.modFunc f fun x => { x with msixTable := Tbl.modify {} x.msixTable i fun e =>
    if offset % 16 < 8 then { e with addr := mergeWord e.addr offset size v }
    else
      let w := mergeWord (e.data.setWidth 64 ||| putB e.masked 32) offset size v
      { e with data := w.setWidth 32, masked := bit w 32 } }
  firePending s1 f

/-! ### Reads of BAR0 and BAR4 (R8, R292, R293, R301, R309, R311) -/

/-- The mailbox areas can be read: in STAGE 6 and 7 (R301). -/
def mailboxReads (s : State) : Bool := decide (s.hub.stage = .ready) || decide (s.hub.stage = .restarting)

/-- The 8-byte word of function `f`'s BAR0 that holds an offset of the map of R293, as a read returns it. HUB_MBOX_DOORBELL and the ring
doorbells are write-only and read zero (R8); words of the response mailbox beyond a response hold open values (R312; DESIGN CHOICE, log
entry 89). (DESIGN CHOICE, log entry 89) -/
def bar0Word (s : State) (f offset : Nat) : Word :=
  match offset / 8 with
  | 0 => hubIdentWord s f
  | 1 => fwVersionWord s.hub
  | 2 => hubStatusWord s
  | 3 => hubFuncInfoWord s f
  | 33 => mboxStateWord s f
  | i =>
    if !mailboxReads s then 0
    else if 512 ≤ i ∧ i < 1024 then Tbl.get 0 (s.func f).reqMem (i - 512)
    else if 1024 ≤ i ∧ i < 1536 then
      (s.func f).respMem.getD (i - 1024) (Config.responseTail f (s.func f).count.toNat (i - 1024))
    else 0

/-- A BAR0 offset inside the map of R293. -/
def inBar0 (offset : Nat) : Bool :=
  decide (offset < 0x20) || (0x100 ≤ offset && offset < 0x110) || (0x1000 ≤ offset && offset < 0x3000) ||
    (0x4000 ≤ offset && offset < 0x8000)

/-- The 8-byte word of BAR4 that holds an offset of the MSI-X table or of the pending-bit array (R309). (DESIGN CHOICE, log entry 89) -/
def bar4Word (s : State) (f offset : Nat) : Word :=
  let x := s.func f
  if offset < 0x400 then
    let e := Tbl.get {} x.msixTable (offset / 16)
    if offset % 16 < 8 then e.addr else e.data.setWidth 64 ||| putB e.masked 32
  else orW ((List.range 64).map fun v => putB (Tbl.get false x.msixPending v) v)

/-- A BAR4 offset inside the table and the pending-bit array. -/
def inBar4 (offset : Nat) : Bool := decide (offset < 0x400) || (0x2000 ≤ offset && offset < 0x2008)

/-- The part of an 8-byte word that a read of `size` bytes returns (R292). -/
def readPart (w : Word) (offset size : Nat) : Word :=
  if size = 8 then w else if offset % 8 = 0 then w &&& 0xFFFFFFFF#64 else w >>> 32

/-- A read of `size` bytes at `offset` of BAR0 or BAR4 (R8, R292, R293, R311): the state after it and the data. An access of another
size and an offset outside the map read zero and count as violations. The table has no row for such a read. (DESIGN CHOICE, log entry 89) -/
def registerRead (s : State) (f bar offset size : Nat) : State × Word :=
  if !s.inUse f then (s, 0)
  else if !sizeOk offset size then (violate s f, 0)
  else if bar = 0 then (if inBar0 offset then (s, readPart (bar0Word s f offset) offset size) else (violate s f, 0))
  else if bar = 4 then (if inBar4 offset then (s, readPart (bar4Word s f offset) offset size) else (violate s f, 0))
  else (s, 0)

/-! ### Configuration space (R288, R289, R309) -/

/-- The capabilities of R289. -/
inductive Capability where
  | pciExpress | powerManagement | msix | srIov | ari | advancedErrors | deviceSerial
  deriving DecidableEq, Repr

/-- Function `f` carries a capability (R289): a PF0 all of them, a VF only two. -/
def carries (f : Nat) (c : Capability) : Bool := f % 16 = 0 || c = .pciExpress || c = .msix

/-- The size of a BAR in bytes, 0 for a number that has none (R291). -/
def barSize (bar : Nat) : Nat := if bar = 0 then 65536 else if bar = 2 then 2 ^ 36 else if bar = 4 then 16384 else 0

/-- The base of a BAR of function `f` (R291): a VF's lies its index − 1 sizes above the VF BAR of its PF0. (PRESUMED, log entry 110) -/
def State.barOf (s : State) (f bar : Nat) : Word :=
  if f % 16 = 0 then Tbl.get 0 (s.func f).bars bar
  else Tbl.get 0 (s.link (f / 16)).vfBars bar + BitVec.ofNat 64 ((f % 16 - 1) * barSize bar)

/-- A field of function `f`'s configuration space (R287 to R289, R291, R309, R310); none where the function does not have it. The kind of a
BAR and ASPM's fields stand in PCI Express's own codes. (PRESUMED, log entry 110) (DESIGN CHOICE, log entry 89) -/
def configField (s : State) (f : Nat) (x : ConfigField) : Option Nat :=
  let l := s.link (f / 16)
  let y := s.func f
  let srIov := fun (v : Nat) => if carries f .srIov then some v else none
  let bar := fun (b v : Nat) => if barSize b = 0 then none else some v
  match x with
  | .vendor => some Config.vendorId.toNat
  | .device => some (if f % 16 = 0 then 0x6401 else 0x6402)
  | .revision => some 0xA0
  | .classCode => some 0x048000
  | .serial => if carries f .deviceSerial then some Config.packageSerial.toNat else none
  | .initialVfs => srIov 15
  | .totalVfs => srIov 15
  | .numVfs => srIov l.numVfs
  | .vfEnable => srIov l.vfOn.toNat
  | .ariHierarchy => srIov l.ari.toNat
  | .vfOffset => srIov 1
  | .vfStride => srIov 1
  | .vfDevice => srIov 0x6402
  | .msixTableSize => some 63
  | .msixEnable => some y.msixEnabled.toNat
  | .noSoftReset => if carries f .powerManagement then some 1 else none
  | .d3hot => if carries f .powerManagement then some y.d3.toNat else none
  | .aspmSupport => some 2
  | .aspmControl => some (if y.aspmL1 then 2 else 0)
  | .barBytes b => bar b (barSize b)
  | .barKind b => bar b (if b = 2 then 0xC else 0x4)
  | .barBase b => if f % 16 = 0 then bar b (s.barOf f b).toNat else none
  | .vfBarBase b => if carries f .srIov then bar b (Tbl.get 0 l.vfBars b).toNat else none
  | .maxPayload => some y.maxPayload
  | .maxRead => some y.maxRead
  | .completionTimeout => some y.timeoutUs

/-! ### Function and link reset (R290, R304, R321, R359) -/

/-- The rings of function `f` return to UNCONFIGURED, with no further completions (R290, R359). -/
def resetRings (s : State) (f : Nat) : State :=
  let mine := (s.queues.rings.filter fun x => x.2.owner = f && s.ringOwned f x.1).map fun x => x.1
  s.each mine fun s g => (dropHeld s g).modRing g fun r => { gen := r.gen, ticket := r.ticket }

/-- A function-level reset of one function (R290, R304, R321, R347). -/
def resetFunction (s : State) (f : Nat) : State :=
  let s1 := resetRings s f
  let s2 := s1.each ((s1.frames.slots.filter fun x =>
    x.2.started && x.2.owner = f && (x.2.kind = 1 || x.2.kind = 2)).map fun x => x.1) stopSlot
  let s2 := s2.modMedia fun m =>
    { m with saps := m.saps.map (fun x =>
               (x.1, { x.2 with capBufs := x.2.capBufs.filter (fun b => b.func ≠ f), reading := x.2.reading.filter fun b => b.func ≠ f })),
             encs := m.encs.map (fun x => (x.1, { x.2 with bufs := x.2.bufs.filter fun b => b.func ≠ f })) }
  let s3 := s2.modHub fun h => { h with accepted := h.accepted.filter fun x => x.2.src ≠ f }
  let s4 := s3.modFunc f fun x =>
    { reqMem := x.reqMem, respMem := x.respMem, violations := x.violations, longCount := x.longCount, probes := x.probes,
      capture := x.capture }
  match s4.plt.proposal with
  | some p => if p.proposer = f then lapseProposal s4 1 else s4
  | none => s4

/-- Every function of a PCI Express link is reset (R284, R290); PF0's VF settings return to their reset values. -/
def resetLinkFunctions (s : State) (l : Nat) : State :=
  beginDue ((s.each (List.range 16) fun s i => resetFunction s (16 * l + i)).modLink l fun x =>
    { x with numVfs := 0, vfOn := false, ari := false, vfBars := [] })

/-! ### Failure of the control processor (R33, R297, R327, R350) -/

/-- Every codec session stops (R430): the picture in work is discarded, pools and packets are emptied. -/
def stopCodec (s : State) : State :=
  s.modMedia fun m =>
    { m with decs := m.decs.map (fun x =>
               (x.1, { x.2 with running := false, concealing := false, broken := false, pool := [], window := [], stream := [],
                                nextSeq := none, missed := [], clean := [] })),
             encs := m.encs.map (fun x => (x.1, { x.2 with running := false, stopping := false, caps := [] })) }

/-- The control processor fails: BEAT, JCS and event delivery stop, the pending proposal lapses unseen, and a pending step of wall time is
abandoned (R390), codec sessions stop (R430). -/
def failCp (s : State) : State :=
  let s1 := s.modHub fun h => { h with cpFailed := true, lastStatus := some (hubStatusWord s) }
  stopCodec ((s1.modPlt fun p => { p with proposal := none }).modTime fun t => { t with step := none })

end Sys2Proof.Machine
end

