-- ==== Sys2Proof/Machine/Reset.lean ====
section
/-! DEFINITION. Package reset (R30, R347, R367, R462, R495, R496, R528, R547, R548) and the fence of both dies. -/

namespace Sys2Proof.Machine

/-- What a package reset keeps of the firmware state: the flash, the fuses and the always-on island's records
(R495, R500, R503). (DESIGN CHOICE, log entry 17) -/
def Firmware.kept (f : Firmware) : Firmware :=
  { hdr0 := f.hdr0, hdr1 := f.hdr1, imageA := f.imageA, imageB := f.imageB, area0 := f.area0,
    area1 := f.area1, svnFuse := f.svnFuse, hubTripped := f.hubTripped }

/-- The balls that a package reset puts into a state of R549 and a stage or a setting later leaves; those of SAPn stand for all eight
ports. -/
def resetPins : List Out :=
  [.pin "SVC_RST_N" false, .pin "OSPI_CS_N" true, .pin "OSPI_RESET_N" false, .pin "CLKOBS_FLIPOUT" false, .pin "PPS_OUT" false,
   .pin "SAPn_BCLK" false, .pin "SAPn_WS" false, .pin "SAPn_SD" false]

/-- A package reset (R495): every state but the flash, fuses, key store, pins, REFCLK's state and a die's standing trip
returns to its value after reset; the straps are sampled. (DESIGN CHOICE, log entry 17) (DEDUCED, log entry 23) -/
def packageReset (s : State) : State :=
  { pending := s.pending, out := resetPins ++ s.out, free := s.free,
    hub := { strapPins := s.hub.strapPins, straps := s.hub.strapPins,
             links := (List.range 4).foldl (fun t l => Tbl.set {} t l { perst := (s.link l).perst }) [] },
    firmware := s.firmware.kept,
    clocks := { refOk := s.clocks.refOk, pllA := s.clocks.refOk, pllB := s.clocks.refOk, pllH := s.clocks.refOk },
    thermA := { tripped := s.thermA.tripped },
    thermB := { tripped := s.thermB.tripped },
    service := { keys := { s.service.keys with held := false }, supplyOut := s.service.supplyOut, resetHeld := s.service.resetHeld,
                 powered := s.service.powered, tripPinA := s.service.tripPinA, tripPinB := s.service.tripPinB } }

/-- Both dies are fenced for one cause (R259, R457): OUT in Twin mode. -/
def fenceBoth (s : State) (cause : Nat) : State :=
  if s.span || s.dies.twin.frozen then fenceDie (fenceDie s .a cause) .b cause
  else
    let one := fun (s : State) (d : DieId) =>
      if (s.die d).fenced then s
      else raise ((setCause (holdDie s d) d cause).modTwin fun x => { x with fences := x.fences + 1 }) 200 1
        (put d.num 1 0 ||| put cause 4 4)
    let s1 := one (one s .a) .b
    match s.dies.twin.state with
    | .duo => goOut s1 .b
    | .solo => goOut s1 s.lead
    | .copy => goOut s1 s.lead
    | .verify => goOut s1 s.lead
    | _ => s1

end Sys2Proof.Machine
end

