-- ==== Sys2Proof/Machine/ClockRows.lean ====
section
/-! DEFINITION. Clocks, operating points, gates, power modes, lane references and trips: their commands and events
(R450, R456 to R474, R487, R488). -/

namespace Sys2Proof.Machine

/-! ### References and root PLLs (R456, R457, R460, R461) -/

/-- A die's root PLL is locked or not. -/
def setPll (s : State) (d : DieId) (v : Bool) : State :=
  match d with
  | .a => s.modClocks fun c => { c with pllA := v }
  | .b => s.modClocks fun c => { c with pllB := v }
/-- A die's root PLL is locked. -/
def State.pll (s : State) (d : DieId) : Bool :=
  match d with
  | .a => s.clocks.pllA
  | .b => s.clocks.pllB

/-- REFCLK_STABLE (R456, R457): the PLLs start; after a loss the package is reset. -/
def execRefclkStable (s : State) : Host.Outcome State Fault Refusal :=
  .next <|
    let s1 := if s.clocks.refLost then packageReset s else s
    s1.modClocks fun c => { c with refOk := true, refLost := false, pllA := true, pllB := true, pllH := true }

/-- A PCI Express link goes down with its functions (R284, R457). -/
def dropLink (s : State) (l : Nat) : State := (resetLinkFunctions s l).modLink l fun x => { x with state := .down }

/-- REFCLK_LOSS (R457): a package fault. -/
def execRefclkLoss (s : State) : Host.Outcome State Fault Refusal :=
  .next <|
    if !s.clocks.refOk then s
    else
      let s1 := s.modClocks fun c => { c with refOk := false, refLost := true, pllA := false, pllB := false, pllH := false }
      let s2 := fenceBoth (declareFatal (declareFatal s1 .a 1) .b 1) 2
      s2.each (List.range 4) dropLink

/-- ROOT_PLL_LOCK_LOSS (R460): status event 0x01, self-refresh, FATAL with CAUSE 0x1; a transition is abandoned (R473). -/
def execRootPllLockLoss (die : DieId) (s : State) : Host.Outcome State Fault Refusal :=
  .next <|
    if !s.pll die || !(s.die die).running then s
    else
      let s1 := raise (setPll s die false) (statusSource die) 1 0
      declareFatal ((setMemory s1 die .selfRefresh).modOp die fun x => { x with change := none }) die 1

/-- HUB_PLL_LOCK_LOSS (R461): the control processor stops and the hub memory refreshes itself. -/
def execHubPllLockLoss (s : State) : Host.Outcome State Fault Refusal :=
  .next <|
    if !s.clocks.pllH then s
    else ((failCp s).modClocks fun c =>
      { c with pllH := false, hubLostAt := if s.hub.cpFailed then none else some s.uptime }).setMem .hub .selfRefresh

/-- HUB_PLL_RELOCK (R461): within 10 ms the control processor restarts through STAGE 7 (in safe halt it stays at STAGE 8) unless it had
failed before, and E219 tells of the loss and of the restart. -/
def execHubPllRelock (s : State) : Host.Outcome State Fault Refusal :=
  .next <|
    let s1 := if s.clocks.pllH then s else (s.modClocks fun c => { c with pllH := true, hubLostAt := none }).setMem .hub .active
    match s.clocks.hubLostAt with
    | none => s1
    | some t =>
      if t + 10000000 < s.uptime then s1
      else
        let s2 := s1.modHub fun h => { h with cpFailed := false, lastStatus := none }
        raise (raise (if s.hub.stage = .halted then s2 else beginRestart s2) 219 0x20 0) 219 0x21 0

/-! ### Lane reference (R462) -/

/-- One trim step of at most 1 ppm (R462), in 0.001 ppm. -/
def trimStep (s : State) : State :=
  let t := s.clocks.trim
  let d := max (-1000) (min 1000 t)
  s.modClocks fun c => { c with offset := c.offset + d, trim := c.trim - d }

/-- LANE_REFERENCE_MEASUREMENT (R462, R496): a change above 5 ppm is trimmed in steps, the first now. -/
def execLaneReferenceMeasurement (offset : Int) (s : State) : Host.Outcome State Fault Refusal :=
  .next <|
    if !s.clocks.refOk then s
    else
      let s1 := s.modClocks fun c => { c with laneSeen := true }
      if 5000 < (offset - s.clocks.offset).natAbs then
        trimStep (raise (s1.modClocks fun c => { c with trim := offset - c.offset }) 219 0x22
          (put (BitVec.ofInt 32 offset).toNat 32 0))
      else s1

/-- LANE_REFERENCE_TRIM_STEP (R462): a further step of a pending trim. -/
def execLaneReferenceTrimStep (s : State) : Host.Outcome State Fault Refusal := .next (trimStep s)

/-! ### Operating points (R463, R465, R466, R473, R474, R490, R525) -/

/-- The READ_VOUT code of event 0x05 (R466, R474): the latest reading, open where there is none. -/
def voutWord (s : State) (d : DieId) : Word :=
  put (match (s.opState d).vout with
    | some v => v.toNat
    | none => s.freeWord.toNat) 16 0

/-- A transition of a die fails (R465, R466): event 0x04; the third failure in 1 s makes the die fatal. -/
def opFailed (s : State) (d : DieId) (target why : Nat) : State :=
  let x := s.opState d
  let fails := s.uptime :: x.fails.filter fun t => decide (s.uptime ≤ t + 1000000000)
  let s1 := raise (s.modOp d fun x => { x with change := none, fails := fails }) (statusSource d) 4 (put target 2 0 ||| put why 2 8)
  if 3 ≤ fails.length then
    declareFatal ((raise s1 (statusSource d) 5 (voutWord s1 d)).drawn) d 5
  else s1

/-- A transition of a die is done (R465, R474). -/
def opDone (s : State) (d : DieId) (x : OpChange) : State :=
  raise (s.modOp d fun o => { o with op := x.target, since := s.uptime, change := none }) (statusSource d) 3
    (put x.target 2 0 ||| putB x.up 2 ||| put (opCode x.target) 16 16 ||| put ((s.uptime - x.since) / 1000) 16 32)

/-- OP_TRANSITION (R463, R465, R525): the sequencer starts the transition to the target, after the dwell of 1 ms, or
retries one whose first try failed. `ack` says that VOUT_COMMAND is acknowledged. Down, the frequency goes first.
(DESIGN CHOICE, log entry 57) -/
def execOpTransition (die : DieId) (ack : Bool) (s : State) : Host.Outcome State Fault Refusal :=
  .next <|
    let x := s.opState die
    let slice := (List.range 16).any fun c => ((s.die die).cluster c).slice
    if !(s.die die).running then s
    else
      match x.change with
      | some c =>
        if c.settling then s
        else if ack then s.modOp die fun o => { o with change := some { c with settling := true } }
        else opFailed s die c.target 0
      | none =>
        if x.target = x.op || decide (s.uptime < x.since + 1000000) then s
        else if x.op < x.target then
          if slice then s
          else s.modOp die fun o =>
            { o with change := some { target := x.target, up := true, retried := !ack, since := s.uptime, settling := ack } }
        else
          (abortSlices s die).modOp die fun o =>
            { o with op := x.target, since := s.uptime,
                     change := some { target := x.target, up := false, retried := false, since := s.uptime, settling := true } }

/-- OP_SETTLE (R465, R490): VR_PG is sampled after the settle wait. An upward transition whose target has fallen is
abandoned here. -/
def execOpSettle (die : DieId) (pg : Bool) (s : State) : Host.Outcome State Fault Refusal :=
  .next <|
    let x := s.opState die
    match x.change with
    | none => s
    | some c =>
      if !c.settling then s
      else if !c.up then opDone s die c
      else if x.target < c.target then s.modOp die fun o => { o with change := none }
      else if pg then opDone s die c
      else if c.retried then opFailed s die c.target 1
      else s.modOp die fun o => { o with change := some { c with retried := true, settling := false } }

/-- REGULATOR_MONITOR (R466): READ_VOUT, a code at exponent −12, lies more than 5 % from the operating point.
(DESIGN CHOICE, log entry 57) -/
def execRegulatorMonitor (die : DieId) (readVout : Nat) (s : State) : Host.Outcome State Fault Refusal :=
  .next <|
    let x := s.opState die
    let want : Int := opMv x.op * 4096
    let s1 := if (s.die die).running then s.modOp die fun x => { x with vout := some readVout } else s
    if !(s.die die).running || x.change.isSome then s1
    else if 5 * want < 100 * (((readVout * 1000 : Nat) : Int) - want).natAbs then
      declareFatal (raise s1 (statusSource die) 5 (put readVout 16 0)) die 5
    else s1

/-- VR_PG_LOW (R466, R548): low for more than 100 µs outside a transition. (DESIGN CHOICE, log entry 57) -/
def execVrPgLow (die : DieId) (s : State) : Host.Outcome State Fault Refusal :=
  .next <|
    if !(s.die die).running || (s.opState die).change.isSome || (s.therm die.die3).tripped then s
    else declareFatal ((raise s (statusSource die) 5 (voutWord s die)).drawn) die 5

/-! ### Clock gates (R467 to R469) -/

/-- The die of a gate's status events; the hub's gates have none. -/
def gateDie (g : GateId) : Option DieId :=
  match g with
  | .cluster d _ => some d | .regionDma d _ => some d | .scrim d _ => some d | .port d _ => some d | .net d _ => some d
  | .mem .a _ => some .a | .mem .b _ => some .b | _ => none

/-- A gate's number in its die, in the order of R468 (the manual gives no numbers; DESIGN CHOICE, log entry 24). -/
def gateNumber (g : GateId) : Nat :=
  match g with
  | .cluster _ c => c | .regionDma _ r => 16 + r | .scrim _ r => 20 + r | .port _ k => 24 + k | .net _ p => 56 + p
  | .mem _ p => 58 + p | .codec => 60 | .sap n => 61 + n

/-- GATE_CLOSE_REQUEST (R469): the request waits for idle; no sooner than 10 µs after a dropped one. The gate closes with
the next clock tick at which its block is idle (`idleTick`). -/
def execGateCloseRequest (g : GateId) (s : State) : Host.Outcome State Fault Refusal :=
  .next <|
    let x := s.gate g
    if !x.isOpen || x.pending || decide (s.uptime < x.retryAt) then s else s.modGate g fun x => { x with pending := true }

/-- GATE_CLOSE_TIMEOUT (R469): the block is still busy; the request is dropped, counted and told once per second. -/
def execGateCloseTimeout (g : GateId) (s : State) : Host.Outcome State Fault Refusal :=
  .next <|
    let x := s.gate g
    if !x.pending then s
    else
      let tell := match x.toldAt with
        | some t => decide (t + 1000000000 ≤ s.uptime)
        | none => true
      let s1 := s.modGate g fun x => { x with pending := false, drops := x.drops + 1, retryAt := s.uptime + 10000 }
      match gateDie g with
      | some d =>
        if tell then raise (s1.modGate g fun x => { x with toldAt := some s.uptime }) (statusSource d) 6 (put (gateNumber g) 8 0)
        else s1
      | none => s1

/-- The gates of the package (R468). -/
def allGates : List GateId :=
  ([DieId.a, DieId.b].flatMap fun d =>
    ((List.range 16).map fun c => GateId.cluster d c) ++ ((List.range 4).map fun r => GateId.regionDma d r) ++
      (List.range 8).map fun p => GateId.mem d.die3 p) ++ [.mem .hub 0, .mem .hub 1, .codec]

/-- The enable of a gate in a mode, as the firmware loads it (R468). (DESIGN CHOICE, log entry 24) -/
def gateRuns (s : State) (g : GateId) (m : PwrMode) : Bool :=
  match g with
  | .cluster _ _ => m = .run
  | .regionDma _ _ => m = .run
  | .mem _ _ => m ≠ .deep
  | .codec => m ≠ .deep
  | .sap n => m ≠ .deep && decide ((s.sap n).state ≠ .stopped)
  | .port d k => !(s.portTiles (s.mapPort (d.num * 32 + k))).isEmpty
  | .scrim _ _ => true
  | .net _ _ => true

/-- The mode whose gates are open: a change from Sleep opens those of Run at once (R472). -/
def State.gateMode (s : State) : PwrMode := if s.clocks.power = .sleep && s.clocks.change.isSome then .run else s.clocks.power

/-- A region of a die has a REGION to send: one that passed Scrim in the frame under way and has not left (R468). -/
def regionWaits (s : State) (d : DieId) (r : Nat) : Bool :=
  (List.range 4).any fun c =>
    match (s.canvas c).order with
    | some o => o.patch.any fun x => decide (s.regionOf x.1 = r) && (match s.result d x.1 x.2 with
      | some y => decide (y.frame = o.frame) && decide (y.outcome = 0) && y.sentCrc.isNone
      | none => false)
    | none => false

/-- A gate has not been closed by a request (R469); that of a Scrim checker opens while a port of its region has a REGION to send (R468). -/
def gateStands (s : State) (g : GateId) : Bool :=
  (s.gate g).isOpen || (match g with
    | .scrim d r => regionWaits s d r
    | _ => false)

/-- OPEN of a gate (R467): its clock runs now, enabled in the present mode and not closed by a request. (DESIGN CHOICE, log entry 24) -/
def gateOpen (s : State) (g : GateId) : Bool := gateStands s g && (!s.hub.reached || gateRuns s g s.gateMode)

/-- The gates whose enables differ between the modes take them (R468, R471). -/
def setGates (s : State) (m : PwrMode) : State :=
  s.each allGates fun s g => s.modGate g fun x => { x with isOpen := gateRuns s g m, pending := false }

/-! ### Power modes (R471, R472) -/

/-- The number of a mode (R472). -/
def pwrCode (m : PwrMode) : Nat := match m with
  | .run => 0 | .sleep => 1 | .deep => 2
/-- SYS_POWER for the common checks (R472). -/
def opSysPower : JcsOp := { opcode := 0x0110, long := true, principal := true }

/-- Every memory enters a state (R450, R471); that of a die behind its fence stays in self-refresh (R261). -/
def setMemories (s : State) (m : MemMode) : State :=
  (([DieId.a, DieId.b].filter fun d => !(s.die d).fenced).foldl (fun s d => setMemory s d m) s).setMem .hub m

/-- The transmitters of every port in use of the running dies fall silent, or wake (R193, R194, R471). -/
def setTransmitters (s : State) (quiet : Bool) : State :=
  s.each ((List.range 64).filter s.transmits) fun s p => if quiet then enterQuiet s p else wake s p true

/-- SYS_POWER (R472, R473, R518). A change from Sleep opens the gates, and wakes the transmitters for the frame that ends it. -/
def sysPowerBody (s : State) (r : Req) : Ans :=
  let code := fld (r.word 0) 1 0
  let m : PwrMode := if code = 0 then .run else if code = 1 then .sleep else .deep
  if code = 3 then .badParam s
  else if s.clocks.change.isSome then .busy s
  else if m = s.clocks.power then .ok s
  else if s.clocks.power = .deep && m = .sleep then .badParam s
  else if s.mcMoves || (m ≠ .run && (s.dies.twin.state = .copy || s.dies.twin.state = .verify ||
      (List.range 4).any fun c => (s.canvas c).change.isSome)) then .busy s
  else
    let s1 := s.modClocks fun c => { c with change := some ⟨r.who, s.nextLong r.who, m, s.reqTime⟩ }
    .accepted (if s.clocks.power = .sleep then setTransmitters (setGates s1 .run) false else s1)
/-- SYS_POWER (R472). -/
def execSysPower (r : Req) (s : State) : Host.Outcome State Fault Refusal := .next (jcs opSysPower sysPowerBody r s)

/-- The package is in mode `m` (R450, R468, R471): gates, memories, transmitters; Deep-sleep stops the slots and loses
their buffers, and the return from it leaves every layer ABSENT. (DEDUCED, log entry 58) -/
def reachMode (s : State) (m : PwrMode) : State :=
  let old := s.clocks.power
  let s1 := setGates (s.modClocks fun c => { c with power := m, change := none }) m
  match m with
  | .sleep => setTransmitters (setMemories s1 .powerDown) true
  | .deep =>
    let s2 := s1.each ((s1.frames.slots.filter fun x => x.2.started).map fun x => x.1) stopSlot
    (setTransmitters (setMemories s2 .partialArray) false).modFrames fun f => { f with memA := [], memB := [] }
  | .run =>
    let s2 := setTransmitters (setMemories s1 .active) false
    let s3 := s2.each (below 4 fun c => (s2.canvas c).running) fun s c => markCanvas s c (s.canvas c).next
    if old = .deep then
      s3.each (s3.frames.layers.map fun x => x.1) fun s l => s.modLayer l fun x =>
        if x.state = .disabled then x else { x with state := .absent, lastBuf := none }
    else s3

/-- SYS_POWER_COMPLETE (R472): the mode is reached once its last frames have flipped; event 0x07 of each running die, then
the command's completion. -/
def execSysPowerComplete (s : State) : Host.Outcome State Fault Refusal :=
  .next <|
    match s.clocks.change with
    | none => s
    | some p =>
      if !(s.clocks.power = .deep) && !powerFramesDone s p then s
      else
        let s1 := reachMode s p.mode
        let s2 := s1.each ([DieId.a, DieId.b].filter s1.up) fun s d => raise s (statusSource d) 7 (put (pwrCode p.mode) 2 0)
        finishLong s2 p.src p.id 0

/-! ### Hardware trips (R487, R488, R493, R494, R548) -/

/-- A trip pin is driven low or released. -/
def setTripPin (s : State) (d : Die3) (low : Bool) : State :=
  s.modService fun v =>
    match d with
    | .a => { v with tripPinA := low }
    | .b => { v with tripPinB := low }
    | .hub => { v with tripPinH := low }

/-- A die's clocks stop at its trip (R487). -/
def tripDie (s : State) (d : Die3) : State :=
  setTripPin (s.modTherm d fun x => { x with tripped := true, trips := x.trips + 1, coolSince := none }) d true

/-- THERMAL_TRIP (R487, R493): a twin die falls silent, event 0x02 comes through the hub; a hub trip stops the package. -/
def execThermalTrip (die : Die3) (s : State) : Host.Outcome State Fault Refusal :=
  .next <|
    if (s.therm die).tripped then s
    else
      match die with
      | .a => (raise (tripDie s .a) 257 2 0 s.lowFrame).modDie .a fun x => { x with running := false }
      | .b => (raise (tripDie s .b) 641 2 0 s.lowFrame).modDie .b fun x => { x with running := false }
      | .hub =>
        let s1 := setTripPin (setTripPin (tripDie (failCp s) .hub) .a true) .b true
        ((s1.modDie .a fun x => { x with running := false }).modDie .b fun x => { x with running := false }).modFirmware fun f =>
          { f with hubTripped := true }

/-- The hub has read a tripped twin die below 85 °C for 10 s (R488); a tripped hub's own timer is the island's. (DEDUCED, log entry 58) -/
def State.cooled (s : State) (d : Die3) : Bool :=
  d = .hub || (s.therm d).coolSince.any fun t => decide (t + 10000000000 ≤ s.uptime)

/-- TRIP_RELEASE (R488): a twin die's pin is released and it restarts at OP2; a hub trip ends in a package reset. -/
def execTripRelease (die : Die3) (s : State) : Host.Outcome State Fault Refusal :=
  .next <|
    if !(s.therm die).tripped || !s.cooled die then s
    else
      let free := fun (s : State) (d : Die3) => setTripPin (s.modTherm d fun x => { x with tripped := false }) d false
      let again := fun (s : State) (d : DieId) =>
        raise ((free s d.die3).modOp d fun _ => { since := s.uptime }) (thermSourceOf d) 3 0 s.lowFrame
      match die with
      | .a => if s.hub.cpFailed then s else again s .a
      | .b => if s.hub.cpFailed then s else again s .b
      | .hub => packageReset (setTripPin (setTripPin (free s .hub) .a s.thermA.tripped) .b s.thermB.tripped)
where
  /-- The thermal event source of a twin die (R493). -/
  thermSourceOf (d : DieId) : Nat := dieSource d 1

end Sys2Proof.Machine
end

