-- ==== Sys2Proof/Machine/Flip.lean ====
section
/-! DEFINITION. The end of a frame: latent tests, verdicts, dust-sheet decisions, the hold set, FLIP and the flip instant
(R29, R36, R46, R143 to R146, R150 to R152, R182, R186, R203, R212 to R219, R222 to R224, R241, R271, R471, R486). -/

namespace Sys2Proof.Machine

/-! ### Results of a region in both dies (R267, R271) -/

/-- A die's outcome for a region in frame `n`: none where it does not compute it now, 5 where no result has come (R265). -/
def outcomeOf (s : State) (d : DieId) (t i n : Nat) : Option Nat :=
  if !s.up d || !(s.tileDies t).contains d then none
  else
    match s.result d t i with
    | some r => some (if r.frame = n then r.outcome else 5)
    | none => some 5

/-- The outcomes of a region in the dies that compute it. -/
def outcomes (s : State) (t i n : Nat) : List Nat := [DieId.a, DieId.b].filterMap fun d => outcomeOf s d t i n

/-- The CRC that a die's result carries. -/
def crcOf (s : State) (d : DieId) (t i : Nat) : Option (BitVec 32) := (s.result d t i).map fun r => r.crc
/-- A die has sent the region with this CRC. -/
def sentOf (s : State) (d : DieId) (t i n : Nat) : Option (BitVec 32) :=
  (s.result d t i).bind fun r => if r.frame = n then r.sentCrc else none
/-- A marked region of frame `n` that no die has sent (R199): withheld for poison, blocked, or not finished and sent in time. A copy sent
as an underrun is marked by R212 and R213 instead. -/
def notSent (s : State) (t i n : Nat) : Bool :=
  let l := [DieId.a, DieId.b].filter fun d => (outcomeOf s d t i n).isSome
  !l.isEmpty && l.all fun d => (sentOf s d t i n).isNone && decide (outcomeOf s d t i n ≠ some 3)

/-- The tile's ECHO for the region, by either port. -/
def echoIs (s : State) (t i n : Nat) (crc : BitVec 32) : Bool :=
  [DieId.a, DieId.b].any fun d =>
    match s.result d t i with
    | some r => decide (r.frame = n) && decide (r.echoed = some crc)
    | none => false

/-- The CRC that a vote on the region trusts, if it has ended with one. -/
def voteTrust (s : State) (t i n : Nat) : Option (BitVec 32) :=
  (s.dies.twin.votes.find? fun v => v.tile = t && v.region = i && v.frame = n && v.ended).bind fun v => v.trusted

/-- Region (t, i) holds its tile back at the FLIP of frame `n` in Twin mode (R271): no CRC is trusted and not both dies were
blocked, or the copies differ and the tile has not echoed the trusted one. Two underrun copies leave no CRC trusted (R267) and hold the
tile. (DEDUCED, log entry 67) (DESIGN CHOICE, log entry 127) -/
def holdsTile (s : State) (t i n : Nat) : Bool :=
  match outcomeOf s .a t i n, outcomeOf s .b t i n with
  | some a, some b =>
    let echoed := fun (x : Option (BitVec 32)) => match x with
      | some x => echoIs s t i n x
      | none => false
    if !s.sameMicrocode then false
    else if a = 0 && b = 0 then
      decide (crcOf s .a t i ≠ crcOf s .b t i) && !echoed (voteTrust s t i n)
    else if a = 0 then (if b = 2 then (voteTrust s t i n).isNone else (sentOf s .b t i n).isSome && !echoed (crcOf s .a t i))
    else if b = 0 then (if a = 2 then (voteTrust s t i n).isNone else (sentOf s .a t i n).isSome && !echoed (crcOf s .b t i))
    else !(a = 2 && b = 2)
  | some a, none => a ≠ 0 && a ≠ 2
  | none, some b => b ≠ 0 && b ≠ 2
  | none, none => false

/-- The hold set of a canvas frame with the regions in dispute (R271). -/
def holdRegions (s : State) (o : FrameOrder) : List (Nat × Nat) :=
  if s.twin then o.patch.filter fun x => holdsTile s x.1 x.2 o.frame else []

/-! ### Latent tests (R29, R152) -/

/-- A failed latent test of frame `n` makes the region's reports of that frame count as OUTCOME 4 (R29). (DEDUCED, log entry 67) -/
def voidReports (s : State) (d : DieId) (r n : Nat) (o : FrameOrder) : State :=
  s.each (o.patch.filter fun x => decide (s.regionOf x.1 = r)) fun s x =>
    match s.result d x.1 x.2 with
    | some y => if y.frame = n then s.setResult d x.1 x.2 { y with outcome := 4 } else s
    | none => s

/-- The latent test of one checker at the end of a canvas frame (R29, R152). A region blocked before and after sends no
FLIP. -/
def frameLatent (s : State) (c : Nat) (o : FrameOrder) (d : DieId) (r : Nat) (ok : Bool) : State :=
  let was := ((s.die d).region r).blocked
  let s1 := latentTest s d r ok
  let s2 := if ok then s1
    else
      let s3 := voidReports s1 d r o.frame o
      if s.twin then s3 else s3.each (canvasRegionTiles s3 c d r) fun s t => markRegion s c t 256 (o.frame + 1)
  let is := ((s2.die d).region r).blocked || ((s2.die d).region r).lost
  if was && is then s2.modCanvas c fun x => { x with noFlip := (d.num * 4 + r) :: x.noFlip }
  else if was then markUnblocked s2 d r
  else s2

/-- The latent tests of every checker that serves the canvas (R152), with the faults of those that have some. -/
def frameLatents (s : State) (c : Nat) (o : FrameOrder) (l : List (DieId × Nat × ScrimFaults)) : State :=
  (s.computing).foldl (fun s d =>
    (List.range 4).foldl (fun s r =>
      if (canvasRegionTiles s c d r).isEmpty then s
      else
        let faults := match l.find? fun x => x.1 = d && x.2.1 = r with
          | some x => x.2.2
          | none => {}
        frameLatent s c o d r (latentOk (s.scrim d r).lane faults)) s) s

/-! ### Census and trackers after a frame (R139, R140, R145, R146) -/

/-- The die whose sums stand for a tile: the lead in Twin mode, the owner in Span mode. (DEDUCED, log entry 65) -/
def State.sumDie (s : State) (t : Nat) : DieId := if s.span then ((s.tileDies t).headD .a) else s.lead

/-- F_t of a canvas's frame as its frame order carries it (R19, R140); the present one where it carries none. -/
def frameFactor (s : State) (c t : Nat) : Nat :=
  let f := match (s.canvas c).order with
    | some o => Tbl.get 0 o.trims t
    | none => 0
  if f = 0 then (s.safe t).factor else f

/-- What a tile's trackers show after a frame, in the engines and in Scrim: a rising transition and an entry to red in each (R145). -/
structure Rises where
  up         : Bool
  entry      : Bool
  scrimUp    : Bool
  scrimEntry : Bool
  deriving DecidableEq, Repr

/-- Die `d`'s view of a tile after a frame (R139, R145, R149): its sums and trackers, in the engines and, by the values of its own table,
in Scrim. -/
def stepView (s : State) (d : DieId) (c : Nat) (p : Placement) : TileView × Rises :=
  let np := (s.canvas c).committed.np
  let px := p.tw * p.th
  let x := (s.safe p.tile).view d
  let q := tileSums s d np id p.tile p
  let (y, red) := tileLight (pltLum s.plt.inForce np p.tile) (s.flashW c 1) px 65535 q
  let (k, up, entry) := x.trk.step (s.flashDelta c) (s.flashDark c) y red
  let f := s.scrimFlash d c p.tile
  let (sy, sred) := tileLight ((s.scrimEntry d p.tile).lum.take np) f.2 px 256 (tileSums s d np lamp8 p.tile p)
  let (sk, sup, sentry) := x.scrimTrk.step (fld f.1 15 8) (fld f.1 31 16) sy sred
  ({ demand := tileDemand s d np p.tile p, sent := q, trk := k, scrimTrk := sk }, ⟨up, entry, sup, sentry⟩)

/-- A tile after frame `n`: the views of every die that computes it (R275: one in its verification too), and its predicted power (R139,
R140, R143, R145). -/
def endTile (s : State) (c n : Nat) (p : Placement) : State × List (DieId × Nat × Rises) :=
  let np := (s.canvas c).committed.np
  let dies := (s.tileDies p.tile).filter fun d => s.up d || (s.twin && s.verifies d)
  let s1 := s.each dies fun s d => s.modSafe p.tile fun z => z.modView d fun _ => (stepView s d c p).1
  let pred := predPower s (frameFactor s c p.tile) p.tile (sentPower s np p.tile p (tileSums s (s.sumDie p.tile) np id p.tile p))
  (s1.modSafe p.tile fun z => { z with canvas := c, fresh := false, pred := pred, frame := n },
   dies.map fun d => (d, p.tile, (stepView s d c p).2))

/-- A die's history of a canvas goes on by what the tiles showed that it counts (R146): its own in Twin mode and while the dies of a Span
package are apart, every tile's else. -/
def pushRises (s : State) (c : Nat) (l : List (DieId × Nat × Rises)) (d : DieId) : State :=
  let mine := l.filter fun x => x.1 = d || (s.span && !s.split)
  let held := fun (f : Rises → Bool) => areaHeld s c ((mine.filter fun x => f x.2.2).map fun x => x.2.1)
  s.modFlash c fun y => y.modView d fun h =>
    { rises := (decide (mine ≠ []) && held Rises.up) :: h.rises.take 255, reds := (decide (mine ≠ []) && held Rises.entry) :: h.reds.take 255,
      scrimRises := (decide (mine ≠ []) && held Rises.scrimUp) :: h.scrimRises.take 255,
      scrimReds := (decide (mine ≠ []) && held Rises.scrimEntry) :: h.scrimReds.take 255 }

/-- A frame enters both dies' histories of a canvas. -/
def pushFrame (s : State) (c : Nat) (l : List (DieId × Nat × Rises)) : State :=
  (s.each [DieId.a, DieId.b] fun s d => pushRises s c l d).modCanvas c fun x => { x with tallied := true }

/-- Every tile of a canvas after frame `n`, and the histories of R146. (DEDUCED, log entry 66) -/
def endTiles (s : State) (c n : Nat) : State :=
  let r := (s.canvas c).committed.tiles.foldl (fun (a : State × List (DieId × Nat × Rises)) p =>
    let (s1, l) := endTile a.1 c n p
    (s1, a.2 ++ l)) (s, [])
  let s1 := r.1
  let limited := ((s1.canvas c).order.map fun o => (o.patch.map fun x =>
    ((s1.result (s1.sumDie x.1) x.1 x.2).map fun y => if y.frame = n then y.limited else 0).getD 0).sum).getD 0
  (pushFrame s1 c r.2).modFlash c fun y => { y with limited := BitVec.ofNat 32 limited }

/-! ### Power verdicts (R143, R149) -/

/-- The BUDGET of a zone in a die's Scrim tables, in W: of the first checker that holds it. -/
def State.scrimBudget (s : State) (d : DieId) (z : Nat) : Option Nat :=
  (List.range 4).findSome? fun r => ((s.scrim d r).budgets.find? fun x => x.1 = z).map fun x => x.2

/-- A zone's engine verdict in a die fails (R143): the tiles' powers together are above BUDGET, or one above PMAX_t. In Span mode the die
takes the other die's tiles by that die's figures, or, while the dies are apart, its own tiles against its share. -/
def engineFails (s : State) (c z : Nat) (d : DieId) : Bool :=
  let all := zoneTiles s c z
  let mine := diePlacements s d all
  let judged := if s.split then mine else all
  let np := (s.canvas c).committed.np
  let power := fun (p : Placement) =>
    predPower s (frameFactor s c p.tile) p.tile (sentPower s np p.tile p (tileSums s (s.holder d p.tile) np id p.tile p))
  decide (zoneBudget s all judged (s.budgetW z) < (judged.map power).sum) ||
    mine.any fun p => decide (pltMax s.plt.inForce p.tile < power p)

/-- A zone's Scrim verdict in a die fails (R149), by the values of its own tables and the checkers' own sums. -/
def scrimFails (s : State) (c z : Nat) (d : DieId) : Bool :=
  let all := zoneTiles s c z
  let mine := diePlacements s d all
  let judged := if s.split then mine else all
  let np := (s.canvas c).committed.np
  let power := fun (p : Placement) => scrimPower s (s.holder d p.tile) np (frameFactor s c p.tile) p.tile p
  (match s.scrimBudget d z with
    | some b => powerOver (zoneBudget s all judged b) (judged.map power).sum
    | none => false) ||
    mine.any fun p => powerOver (s.scrimEntry d p.tile).pmax (power p)

/-- The verdicts of a zone in every die that computes tiles of the canvas (R143, R154): events, counters, the sums read by
SAFE_ZONE_READ. (DEDUCED, log entry 65) -/
def judgeZone (s : State) (c n z : Nat) : State × Bool :=
  let dies := s.computing
  let np := (s.canvas c).committed.np
  let engine := dies.any fun d => engineFails s c z d
  let bad := dies.filter fun d => scrimFails s c z d
  let l := zoneTiles s c z
  let s1 := s.modZone z fun y =>
    { y with pred := (l.map fun p => (s.safe p.tile).pred).sum,
             scrimSum := (l.map fun p => scrimPower s (s.sumDie p.tile) np (frameFactor s c p.tile) p.tile p).sum,
             withheld := if engine || !bad.isEmpty then y.withheld + 1 else y.withheld }
  let s2 := if engine then raise s1 (128 + z) 2 0 n else s1
  let s3 := if bad.isEmpty then s2 else raise s2 (128 + z) 3 0 n
  let s4 := bad.foldl (fun s d =>
    (below 4 fun r => l.any fun p => decide (s.regionOf p.tile = r) && (s.tileDies p.tile).contains d).foldl
      (fun s r => s.modScrim d r fun x => { x with powerFails := x.powerFails + 1 }) s) s3
  (s4, !engine && bad.isEmpty)

/-! ### Blocks and the dust-sheet state (R150, R151) -/

/-- A tile has a block in die `d` in frame `n` (R150): a region blocked, or, in a frame with verdicts, a Scrim verdict of its zone. -/
def blockedIn (s : State) (d : DieId) (c n : Nat) (patch : List (Nat × Nat)) (judged : Bool) (t : Nat) : Bool :=
  (patch.any fun x => decide (x.1 = t) && decide (outcomeOf s d t x.2 n = some 2)) ||
    (judged && s.driven c t && (s.tileDies t).contains d && scrimFails s c (pltZone s.plt.inForce t) d)

/-- Block counts of a tile after a frame and what follows from them (R150, R151). (DEDUCED, log entry 67) -/
def countBlocks (s : State) (c n : Nat) (patch : List (Nat × Nat)) (judged : Bool) (t : Nat) : State :=
  let dies := (s.tileDies t).filter fun d => s.up d
  let has := fun (d : DieId) => blockedIn s d c n patch judged t
  let x := s.safe t
  let next := fun (d : DieId) (k : Nat) => if dies.contains d && has d then k + 1 else 0
  let a := next .a x.blocksA
  let b := next .b x.blocksB
  let count := fun (d : DieId) => match d with
    | .a => a
    | .b => b
  let any := dies.any has
  let clean := if any then 0 else x.clean + 1
  let enters := !x.dust && !dies.isEmpty && dies.all fun d => 3 ≤ count d
  let leaves := x.dust && decide (16 ≤ clean)
  let s1 := s.modSafe t fun y =>
    { y with blocksA := a, blocksB := b, clean := clean, total := if any then y.total + 1 else y.total, blocked := any,
             dust := (y.dust || enters) && !leaves }
  let s2 := if enters then dies.foldl (fun s d =>
      raise (s.modScrim d (s.regionOf t) fun y => { y with dustEntries := y.dustEntries + 1 }) (regionSource d (s.regionOf t)) 4 (put t 9 0) n) s1
    else if leaves then dies.foldl (fun s d => raise s (regionSource d (s.regionOf t)) 5 (put t 9 0) n) (markRegion s1 c t 256 (n + 1))
    else s1
  if dies.length = 2 then dies.foldl (fun s d =>
    if count d = 3 && count d.other < 3 then recordError s d .oneSided else s) s2
  else s2

/-! ### Underruns and unsent regions (R199, R212) -/

/-- An underrun of the tile went out in frame `n`. -/
def underran (s : State) (t n : Nat) (patch : List (Nat × Nat)) : Bool :=
  patch.any fun x => decide (x.1 = t) && [DieId.a, DieId.b].any fun d =>
    match s.result d t x.2 with
    | some r => decide (r.frame = n) && r.under
    | none => false

/-- Tiles that a Span canvas does not flip for an underrun under HOLD, at most three frames in a row (R212). -/
def countUnderrun (s : State) (n : Nat) (patch : List (Nat × Nat)) (t : Nat) : State :=
  let u := underran s t n patch
  s.modTile t fun x => { x with underruns := if u then x.underruns + 1 else 0, underrunNow := u }

/-- Every frame of a canvas counts for the blocks and underruns of its tiles, one with verdicts or without (R150, R212). -/
def countTiles (s : State) (c n : Nat) (judged : Bool) : State :=
  let patch := (((s.canvas c).order.filter fun o => decide (o.frame = n)).map fun o => o.patch).getD []
  s.each (s.canvas c).committed.tileIds fun s t => countUnderrun (countBlocks s c n patch judged t) n patch t

/-- Regions that were marked and sent by no die are marked for the next frame (R199). -/
def markUnsent (s : State) (c n : Nat) (o : FrameOrder) : State :=
  s.each (o.patch.filter fun x => notSent s x.1 x.2 n || (s.safe x.1).dust) fun s x => markRegion s c x.1 x.2 (n + 1)

/-! ### Check rectangles (R214 to R216) -/

/-- The regions of a placement that overlap a rectangle of its tile. -/
def Placement.overlapped (p : Placement) (x0 y0 w h : Nat) : List Nat :=
  (List.range p.regions).filter fun i =>
    let (rx, ry, rw, rh) := p.rect i
    decide (rx < x0 + w) && decide (x0 < rx + rw) && decide (ry < y0 + h) && decide (y0 < ry + rh)

/-- A die has computed a region that overlaps a check rectangle in frame `n` (R214). -/
def checkFresh (s : State) (d : DieId) (p : Placement) (n x0 y0 w h : Nat) : Bool :=
  (p.overlapped x0 y0 w h).any fun i =>
    match s.result d p.tile i with
    | some r => decide (r.frame = n)
    | none => false

/-- The lamp values that a die sends for a check rectangle, row by row; none where an overlapping region gave no value. -/
def checkLamps (s : State) (d : DieId) (p : Placement) (np n x0 y0 w h : Nat) : Option (List (BitVec 16)) :=
  let ok := (p.overlapped x0 y0 w h).all fun i =>
    match s.result d p.tile i with
    | some r => decide (r.frame ≠ n) || (!r.under && decide (r.outcome = 0))
    | none => false
  if !ok || !checkFresh s d p n x0 y0 w h then none
  else some <|
    (List.range h).flatMap fun dy => (List.range w).flatMap fun dx =>
      let i := p.regionAt (x0 + dx) (y0 + dy)
      let (rx, ry, rw, _) := p.rect i
      let k := ((y0 + dy - ry) * rw + (x0 + dx - rx)) * np
      (List.range np).map fun j => ((s.result d p.tile i).map fun r => r.lamps.getD (k + j) 0).getD 0

/-- The CRC-32C of lamp values, 16 bits each, little-endian (R214). -/
def lampCrc (l : List (BitVec 16)) : BitVec 32 := crc32c (l.flatMap fun v => leBytes 2 v.toNat)

/-- One check rectangle at the end of frame `n` (R215, R216). -/
def runCheck (s : State) (c n k : Nat) (x : Check) : State :=
  let w0 := wordAt x.words 0
  let w1 := wordAt x.words 1
  let at' := fld (wordAt x.words 3) 47 0
  let mode := fld w0 10 8
  match (s.canvas c).committed.place (fld w0 24 16) with
  | none => s
  | some p =>
    let np := (s.canvas c).committed.np
    let value := fun (d : DieId) => if !s.up d || !(s.tileDies p.tile).contains d then none
      else (checkLamps s d p np n (fld w1 9 0) (fld w1 25 16) (fld w1 41 32 + 1) (fld w1 57 48 + 1)).map lampCrc
    let va := value .a
    let vb := value .b
    let learn := mode = 3 && n = at'
    let standing := if (s.tileDies p.tile).contains .a then x.valA else x.valB
    let expect : BitVec 32 := if learn then (va.orElse fun _ => vb).getD standing else BitVec.ofNat 32 (fld (wordAt x.words 2) 31 0)
    let compare := mode = 1 || (mode = 2 && n = at') || (mode = 3 && at' ≤ n)
    let y := { x with valA := va.getD x.valA, valB := vb.getD x.valB, frame := if va.isSome || vb.isSome then n else x.frame,
                      words := if learn then [w0, w1, expect.setWidth 64, wordAt x.words 3] else x.words }
    let judged := fun (d : DieId) (v : Option (BitVec 32)) => s.up d && (s.tileDies p.tile).contains d && (v.isSome || (mode = 2 &&
      !checkFresh s d p n (fld w1 9 0) (fld w1 25 16) (fld w1 41 32 + 1) (fld w1 57 48 + 1)))
    let ja := compare && judged .a va
    let jb := compare && judged .b vb
    let badA := ja && decide (y.valA ≠ expect)
    let badB := jb && decide (y.valB ≠ expect)
    let z := { y with matchA := if ja then !badA else y.matchA, matchB := if jb then !badB else y.matchB,
                      misses := y.misses + (if badA then 1 else 0) + (if badB then 1 else 0) }
    let s1 := s.modCanvas c fun q => { q with checks := Tbl.set {} q.checks k z }
    let s2 := if badA then raise s1 (112 + c) 3 (put k 6 0) n else s1
    if badB then raise s2 (112 + c) 3 (put k 6 0 ||| putB true 8) n else s2

/-- Every check rectangle of a canvas that is on (R215). -/
def runChecks (s : State) (c n : Nat) : State :=
  ((s.canvas c).checks.filter fun x => fld (wordAt x.2.words 0) 10 8 ≠ 0).foldl (fun s x => runCheck s c n x.1 x.2) s

/-! ### FLIP (R182, R186, R203) -/

/-- Tiles that a committed transaction leaves unconfirmed for the flip of frame `n`, or that still owe a RESULT (R203, R224,
R241). (DEDUCED, log entry 83) -/
def unconfirmed (s : State) (c n t : Nat) : Bool :=
  (s.tile t).awaitResult || (((s.canvas c).order.map fun o => o.changes).getD []).contains t && s.links.txns.any fun x =>
    x.inProgress && x.committed && decide (x.kind ≠ .prefs) && decide (x.canvas = some c) && decide (x.frame = n) && x.tiles.contains t &&
      !x.done.contains t

/-- Tiles whose raster and primaries stay, and tiles that leave, at the repeat of a timing change (R222, R223). -/
def changeMasks (old new : CanvasCfg) : List Nat × List Nat :=
  (new.tileIds.filter fun t => old.rgbw == new.rgbw && (match old.place t, new.place t with
    | some a, some b => decide (a.tw = b.tw) && decide (a.th = b.th)
    | _, _ => false), old.tileIds.filter fun t => !new.tileIds.contains t)

/-- The FLIP of canvas `c` leaves every port that carries one of its tiles (R182, R203): not in a mute shadow, nor from a
region whose output is blocked or lost. -/
def sendFlip (s : State) (c n : Nat) (tiles : List Nat) : State :=
  let cv := s.canvas c
  let payload := [BitVec.ofNat 64 (wallOf (cv.flipTime n))] ++ maskWords cv.fmask ++ maskWords cv.dmask
  let ports := (tiles.flatMap fun t => s.portsTo t).dedup
  let s1 := s.each ports fun s p =>
    let d := portDie p
    let blocked := cv.noFlip.contains (d.num * 4 + portRegion p)
    if (s.die d).mute || blocked || !s.canSend d p then s
    else
      (sendFrame s d p (olHeader 2 0 true d.num (s.mgmtEpoch d) n 17) (put (n % 2 ^ 24 * 256) 32 0 ||| put c 2 32) payload).modPort p
        fun y => { y with nFlips := y.nFlips + 1 }
  s1.modCanvas c fun x =>
    { x with flipSent := true, lastDmask := cv.dmask, lastFlip := wallOf (cv.flipTime n), lastFlipFrame := n }

/-- The dies that sent undercoat for a region of frame `n` after they had reported it (R268). -/
def lateUnders (s : State) (t i n : Nat) : List DieId :=
  [DieId.a, DieId.b].filter fun d => match s.result d t i with
    | some r => decide (r.frame = n) && decide (r.outcome = 3) && r.lateUnder
    | none => false

/-- An underrun in one die only is a recorded error of that die (R268): those that came after the reports, at the frame's end. -/
def recordUnders (s : State) (o : FrameOrder) : State :=
  if !s.twin then s
  else s.each o.patch fun s x =>
    match lateUnders s x.1 x.2 o.frame with
    | [d] => if outcomeOf s d.other x.1 x.2 o.frame = some 3 then s else recordError s d .unfinished
    | _ => s

/-- Marks held for the FLIP of frame `n`: FMASK and DMASK of the canvas (R203). -/
def setMasks (s : State) (c : Nat) (fmask dmask : List Nat) : State :=
  s.modCanvas c fun x => { x with fmask := fmask.filter fun t => !dmask.contains t, dmask := dmask }

/-- A tile is held for frame `n` (R271, R281, R282): counted, with event E201 0x03. -/
def tellHeld (s : State) (t n : Nat) : State :=
  let hold := fun (v : Vote) => if v.tile = t && v.frame = n then { v with held := true } else v
  raise ((s.modTwin fun x => { x with votes := x.votes.map hold }).modTile t fun x =>
    { x with holds := x.holds + 1,
             vote := x.vote.map fun w =>
               if fld (wordAt w 0) 47 0 = n % 2 ^ 48 then [wordAt w 0, wordAt w 1 ||| putB true 16, wordAt w 2, wordAt w 3] else w })
    201 3 (put t 9 0) n

/-- M work of the frame is late (R486): a marked region has no result in any die that computes it. (DEDUCED, log entry 66) -/
def workLate (s : State) (o : FrameOrder) : Bool :=
  o.patch.any fun x =>
    let l := outcomes s x.1 x.2 o.frame
    !l.isEmpty && l.all fun k => k = 5

/-- The FLIP may leave now: in Twin mode, or on a Span canvas of both dies, a fenced other die is waited for (R143). -/
def awaitsVerdict (s : State) (c : Nat) : Bool :=
  (s.computing).length = 1 && (s.twin || sharedCanvas s c)

/-- A pending step of wall time keeps the FLIP of frame `n` back (R375): its FLIP_TIME falls after ts and before ts + 2 ms. -/
def stepBlocks (s : State) (c n : Nat) : Bool :=
  match s.time.step with
  | some (_, ts) => !s.stepDelayed && decide ((ts : Int) < (s.canvas c).flipTime n) && decide ((s.canvas c).flipTime n < (ts : Int) + 2000000)
  | none => false

/-- The FLIP leaves, or is withheld by a step of wall time, with which the frame also counts as repeated (R375). (DESIGN CHOICE, log entry 112) -/
def leaveFlip (s : State) (c n : Nat) (tiles : List Nat) : State :=
  if stepBlocks s c n then
    (markCanvas s c (n + 1)).modCanvas c fun x => { x with withheld := true, repeated := true, nWithheld := x.nWithheld + 1 }
  else sendFlip s c n tiles

/-- The FLIP is due: it leaves, or waits for VERDICT_TIMEOUT (R143). -/
def flipOrWait (s : State) (c n : Nat) (tiles : List Nat) : State :=
  if awaitsVerdict s c && !stepBlocks s c n then s.modTwin fun x => { x with verdictWait := (c, n) :: x.verdictWait.filter fun y => y.1 ≠ c }
  else leaveFlip s c n tiles

/-- The end of a frame that selects nothing: the repeat of a timing change, or of a microcode switch, whose FLIP has every FMASK bit clear
(R203, R222, R223, R512). It enters the histories of R146 and the counts of R150, and check rectangles are judged (R215). -/
def endRepeat (s : State) (c n : Nat) : State :=
  let s := runChecks (countTiles (endTiles s c n) c n false) c n
  let cv := s.canvas c
  let old := cv.committed
  let dust := old.tileIds.filter fun t => (s.safe t).dust
  match cv.change.filter fun ch => decide (n = ch.m + 1) with
  | some ch =>
    let (keep, gone) := changeMasks old ch.cfg
    let tiles := (old.tileIds ++ ch.cfg.tileIds).dedup
    let dmask := (gone ++ dust ++ tiles.filter fun t => unconfirmed s c n t).dedup
    flipOrWait (setMasks s c (keep.filter fun t => (s.tile t).held.isNone) dmask) c n tiles
  | none => flipOrWait (setMasks s c [] (dust ++ old.tileIds.filter fun t => unconfirmed s c n t).dedup) c n old.tileIds

/-- The end of a frame whose M work is late (R486): every FMASK bit clear, event 0x02, every region marked again. What it computed enters
the histories of R146, the counts of R150 and R212 and the check values (R214). -/
def endLate (s : State) (c n : Nat) : State :=
  let s := runChecks (countTiles (endTiles s c n) c n false) c n
  let l := (s.canvas c).committed.tileIds
  let dmask := l.filter fun t => (s.safe t).dust || unconfirmed s c n t
  let s1 := (raise s (112 + c) 2 0 n).modCanvas c fun x => { x with repeated := true }
  flipOrWait (setMasks (markCanvas s1 c (n + 1)) c [] dmask) c n l

/-- The prediction of the frame that a tile shows from this flip on (R140): the new one's where the tile flips. -/
def keepPred (s : State) (flipped : List Nat) (t : Nat) : State :=
  s.modSafe t fun x =>
    let v := if flipped.contains t then x.pred else x.shown
    { x with shown := v, predHist := v :: x.predHist }

/-- The end of a frame with verdicts (R143, R150, R212, R271). A FLIP that a verdict withholds counts as WITHHELD alone.
(DEDUCED, log entry 66) (DESIGN CHOICE, log entry 112) -/
def endFrame (s : State) (c : Nat) (o : FrameOrder) : State :=
  let n := o.frame
  let l := (s.canvas c).committed.tileIds
  let dark := decide (framePhase s c n = .dark)
  let s1 := endTiles s c n
  let (s2, pass) := (s1.zonesOf c).foldl (fun a z =>
    let (x, ok) := judgeZone a.1 c n z
    (x, a.2 && ok)) (s1, true)
  let dustBefore := l.filter fun t => (s2.safe t).dust
  let s3 := countTiles s2 c n true
  let s4 := runChecks (markUnsent (recordUnders s3 o) c n o) c n
  if !pass then
    (markCanvas s4 c (n + 1)).modCanvas c fun x => { x with withheld := true, nWithheld := x.nWithheld + 1 }
  else
    let held := holdRegions s4 o
    let hold := (held.map fun x => x.1).dedup
    let s5 := hold.foldl (fun s t => tellHeld s t n) (held.foldl (fun s x => markRegion s c x.1 x.2 (n + 1)) s4)
    let span := l.filter fun t => s.span && (((o.patch.filter fun x => x.1 = t).any fun x =>
      (outcomes s5 t x.2 n).any fun k => k = 1 || k = 4) || 
        ((s5.canvas c).committed.under && (s5.tile t).underrunNow && decide ((s5.tile t).underruns ≤ 3)) ||
      (s5.tileDies t).any fun d => ((s5.die d).region (s5.regionOf t)).blocked)
    let dmask := l.filter fun t => dustBefore.contains t || (s5.safe t).dust || unconfirmed s5 c n t
    let fmask := l.filter fun t => (s5.tile t).held.isNone && (dark || !(hold.contains t || span.contains t))
    let s6 := setMasks (s5.modCanvas c fun x => { x with hold := hold }) c fmask dmask
    flipOrWait s6 c n l

/-- A region of the frame has passed Scrim and has still to leave a port that can send it, and the time for it has not passed (R202). -/
def sendsLeft (s : State) (o : FrameOrder) : Bool :=
  o.patch.any fun x => (s.portsTo x.1).any fun p =>
    let d := portDie p
    readyToSend s d o.frame x.1 x.2 && s.canSend d p && decide ((s.port p).tx = .on) && !noSend s d x.1

/-- FRAME_VERDICT (R29, R36, R143, R144, R150 to R152, R203, R202, R254, R271, R486): after the last region of the frame has left, or when
the time for regions has passed, and not before the frame order is acknowledged. (DEDUCED, log entry 66) -/
def execFrameVerdict (canvas : Nat) (faults : List (DieId × Nat × ScrimFaults)) (s : State) : Host.Outcome State Fault Refusal :=
  .next <|
    let cv := s.canvas canvas
    match cv.order with
    | none => s
    | some o =>
      if !cv.running || cv.flipSent || cv.withheld || decide (o.frame ≠ cv.frame + 1) || (s.computing).isEmpty ||
          s.dies.twin.verdictWait.contains (canvas, o.frame) || decide (framePhase s canvas o.frame = .silent) || !o.acked ||
          (sendsLeft s o && inTime s canvas o.frame) then s
      else
        let s1 := frameLatents s canvas o faults
        if o.isRepeat then endRepeat s1 canvas o.frame
        else if workLate s1 o then endLate s1 canvas o.frame else endFrame s1 canvas o

/-- VERDICT_TIMEOUT (R143, R375): 20 µs after its own verdict, a die whose peer is fenced proceeds. -/
def execVerdictTimeout (die : DieId) (canvas : Nat) (s : State) : Host.Outcome State Fault Refusal :=
  .next <|
    let n := (s.canvas canvas).frame + 1
    if s.up die && !s.up die.other && s.dies.twin.verdictWait.contains (canvas, n) then
      let s1 := s.modTwin fun x => { x with verdictWait := x.verdictWait.filter fun y => y ≠ (canvas, n) }
      let cv := s1.canvas canvas
      leaveFlip s1 canvas n (cv.committed.tileIds ++ (match cv.change with
        | some ch => ch.cfg.tileIds
        | none => [])).dedup
    else s

/-! ### The flip instant (R46, R197, R205, R217 to R219, R222, R241) -/

/-- The echo record of a tile on a port after a frame (R218): `missing` says that a region of it was not echoed, nothing where it had no
send. Frames without a missing echo, and those with the segment not UP, end the count. Events 0x06 and 0x07. -/
def judgeSilence (s : State) (p t : Nat) (missing : Option Bool) : State :=
  let x := s.port p
  let k := if missing = some true && decide (x.rx = .up) then Tbl.get 0 x.silentEcho t + 1 else 0
  let gone := Tbl.get false x.echoGone t
  let s1 := s.modPort p fun y => { y with silentEcho := Tbl.set 0 y.silentEcho t k }
  if 3 ≤ k && !gone then
    raise (s1.modPort p fun y => { y with echoGone := Tbl.set false y.echoGone t true }) (portSource p) 6 (put t 9 0) (tileFrame s t)
  else if missing = some false && gone then
    raise (s1.modPort p fun y => { y with echoGone := Tbl.set false y.echoGone t false }) (portSource p) 7 (put t 9 0) (tileFrame s t)
  else s1

/-- The sends of a region of frame `n` that should have been echoed, on every port. -/
def sendsOf (s : State) (t i n : Nat) : List SentRegion :=
  (s.portsTo t).flatMap fun p => (s.port p).sent.filter fun x => x.tile = t && x.region = i && x.frame = n && !x.inverted

/-- Regions of frame `m` of a canvas that no port has had confirmed, or whose echo one found to mismatch, are marked for frame `n` (R217). -/
def markEchoes (s : State) (c m n : Nat) : State :=
  let sent := (s.canvas c).committed.tileIds.flatMap fun t => (s.portsTo t).flatMap fun p =>
    ((s.port p).sent.filter fun x => x.tile = t && x.frame = m && !x.inverted).map fun x => (t, x.region)
  s.each sent.dedup fun s x =>
    let l := sendsOf s x.1 x.2 m
    if (l.all fun y => !y.confirmed) || l.any fun y => y.mismatch then markRegion s c x.1 x.2 n else s

/-- Echoes at F(N) (R217, R218): in Span mode those of frame N mark for N + 1; in Twin mode those of frame N − 1, which the dies exchange
with the reports of frame N and a send of frame N can still confirm, mark for N + 1. (DEDUCED, log entry 83) -/
def judgeEchoes (s : State) (c n : Nat) : State :=
  let s1 := markEchoes s c (if s.twin then n - 1 else n) (n + 1)
  let tiles := (s.canvas c).committed.tileIds
  let s2 := s1.each tiles fun s t => s.each (s.portsTo t) fun s p =>
    let l := (s.port p).sent.filter fun x => x.tile = t && x.frame = n && !x.inverted
    judgeSilence s p t (if l.isEmpty then none else some (l.any fun y => (sendsOf s t y.region n).all fun z => !z.confirmed))
  s2.each (tiles.flatMap fun t => s2.portsTo t).dedup fun s p =>
    s.modPort p fun y => { y with sent := y.sent.filter fun x => !tiles.contains x.tile || decide (n ≤ x.frame) }

/-- The new anchor of a timing change (R222 step 6): F(M + 2) is the first new grid point at or after F(M + 1) + T_new. Its configuration
holds what a commit accepted before it set (R225). -/
def reanchor (s : State) (c : Nat) (ch : TimingChange) : State :=
  let failed := (s.links.txns.filter fun x => x.inProgress && x.committed && decide (x.kind = .timing) && decide (x.canvas = some c)).flatMap
    fun x => x.tiles.filter fun t => !x.done.contains t
  let k := (s.canvas c).afterChange.anchorK
  let s1 := takeCfg (s.modCanvas c fun x => { x with chFailed := failed }) c ch.cfg (ch.m + 2) true
  let left := (s.canvas c).pending.filter fun p => decide (ch.m + 2 < p.frame)
  (if left.isNone then flipTables s1 c false else s1).modCanvas c fun x => { x with anchorN := ch.m + 2, anchorK := k, pending := left }

/-- The transactions of canvas `c` that apply at the flip of frame `n` end (R241). -/
def closeTxns (s : State) (c n : Nat) : State :=
  (s.links.txns.filter fun x => x.inProgress && x.committed && decide (x.canvas = some c) && decide (x.frame = n)).foldl closeTxn s

/-- What waits for a flip of the lowest-numbered running canvas takes effect: calibration values and preset sets (R455, R479, R537). -/
def takeTrims (s : State) : State :=
  let trim := fun (t : Therm) => { t with trim := t.trimNext.getD t.trim, trimNext := none, set := bandSet t.band }
  (((s.modTherm .a trim).modTherm .b trim).modTherm .hub trim).modTime fun x =>
    { x with latency := x.latencyNext.foldl (fun m y => Tbl.set none m y.1 (some y.2)) x.latency, latencyNext := [] }

/-- What FLIP_DONE says of frame `n` (R219). -/
def flipDone (s : State) (c n : Nat) (cv : Canvas) : State :=
  let every := cv.committed.fdEvery
  let change := match cv.change with
    | some ch => decide (n = ch.m + 1)
    | none => false
  let clear := if cv.flipSent then (cv.committed.tileIds.filter fun t => !cv.fmask.contains t).length else cv.committed.tileIds.length
  if every = 0 || n % every ≠ 0 then s
  else raise s (112 + c) 1 (putB cv.repeated 0 ||| putB cv.withheld 1 ||| putB change 2 ||| put (min 255 clear) 8 8) n (some (wallOf (cv.flipTime n)))

/-- Frame `n` of canvas `c` was its frame K of a change of microcode (R512): the canvas goes on with the new microcode; once no
canvas waits, the running dies run it, and a fall-back that waited begins (R513). -/
def endSwitch (s : State) (c n : Nat) : State :=
  if (s.canvas c).mcFrame ≠ some n then s
  else
    let s1 := s.modCanvas c fun x => { x with mcFrame := none, mcNew := true }
    if (List.range 4).any fun k => (s1.canvas k).mcFrame.isSome then s1
    else
      let mc := s1.imageMicrocode
      let s2 := s1.each (List.range 4) fun s k => s.modCanvas k fun x => { x with mcNew := false }
      fallBackDue (s2.modFirmware fun f => { f with mcStep := 0, mcRunA := if s2.up .a then mc else f.mcRunA,
                                                    mcRunB := if s2.up .b then mc else f.mcRunB })

/-- A flip of the lowest-numbered running canvas counts towards every region's rotation (R25) and for the 1,024 frames after a watchdog
expiry of an engine (R29). -/
def countFlip (s : State) : State :=
  s.each [DieId.a, DieId.b] fun s d =>
    (s.each (List.range 4) fun s r => s.modRegion d r fun x => { x with flips := x.flips + 1 }).modDie d fun x =>
      { x with engineErr := (x.engineErr.filter fun e => e.2.any fun k => decide (k < 1024)).map fun e => (e.1, e.2.map fun k => k + 1) }

/-- A frame that ended without a verdict enters the histories with no transition (R146), the counts of R150 and R212 and the check
rectangles (R215). -/
def tallyMissed (s : State) (c n : Nat) : State :=
  if (s.canvas c).tallied then s else runChecks (countTiles (pushFrame s c []) c n false) c n

/-- The flip of frame `n` of canvas `c`. A frame whose FLIP was not sent leaves its regions to be sent with the next (R199). -/
def flip (s : State) (c n : Nat) : State :=
  let cv0 := s.canvas c
  let missed := !cv0.flipSent && !cv0.withheld
  let s0 := s.modCanvas c fun x =>
    { x with repeated := x.repeated || missed, nRepeat := if x.repeated || missed then x.nRepeat + 1 else x.nRepeat }
  let cv := s0.canvas c
  let flipped := if cv.flipSent then cv.fmask else []
  let s1 := (tallyMissed (s0.each cv.committed.tileIds fun s t => keepPred s flipped t) c n).modCanvas c fun x => { x with frame := n }
  let s1' := if missed && decide (framePhase s c n ≠ .silent) then markCanvas s1 c (n + 1) else s1
  let s2 := match cv.order with
    | some o => judgeEchoes (if missed || cv.withheld then s1' else showLayers s1' o (cv.flipTime n)) c n
    | none => judgeEchoes s1' c n
  let s3 := match cv.change with
    | some ch => if n = ch.m + 1 then reanchor s2 c ch else s2
    | none => s2
  let s4 := closeTxns s3 c n
  let s5 := if s4.votesOpen c n then s4 else endUses s4 c n
  let s6 := endSwitch (flipDone s5 c n cv) c n
  let hops := s6.links.hops.filter fun x => x.2.setDue && !flipPending s6 (x.1 / 32)
  let s7 := s6.each hops fun s x => sendSet s (x.1 / 32) (x.1 % 32)
  if s7.lowCanvas.all fun k => k = c then countFlip (takeTrims s7) else s7

/-- FLIP_INSTANT (R46, R197, R219, R222): F(N) of the frame that has been selected. (DESIGN CHOICE, log entry 43)
(DESIGN CHOICE, log entry 44) -/
def execFlipInstant (canvas : Nat) (s : State) : Host.Outcome State Fault Refusal :=
  .next <|
    let cv := s.canvas canvas
    if cv.running && decide (cv.next = cv.frame + 2) then flip s canvas (cv.frame + 1) else s

end Sys2Proof.Machine
end

