-- ==== Sys2Proof/Machine/SafeRows.lean ====
section
/-! DEFINITION. Loop trims, the periodic check of Scrim's tables, and the SAFE reads (R140, R148, R153, R154). -/

namespace Sys2Proof.Machine

/-! ### LOOP_TRIM_UPDATE (R140) -/

/-- The derating factor in Q2.14, rounded down, from temperatures in 1/16 °C (R140, R233). (DEDUCED, log entry 69) -/
def derating (knee slope : Nat) (temps : List Int) : Nat :=
  let n : Int := temps.length
  if temps.isEmpty then 16384
  else
    let over' := temps.sum - 16 * (knee : Int) * n
    if over' ≤ 0 then 16384 else (max 8192 ((16384 * 4 * n - (slope : Int) * over') / (4 * n))).toNat

/-- The trim after an update towards what is called for (R140): by at most +0.10 or −0.02, within 1.0 to 1.5. (DEDUCED, log entry 69) -/
def movedTrim (trim target : Nat) : Nat := max 16384 (min 24576 (max (trim - 327) (min (trim + 1638) target)))

/-- One tile's update: the measured power in 10 mW, the trim and the derating (R140). A predicted mean of 0 gives no
stated quotient: the trim called for is then a free value. (DEDUCED, log entry 69) -/
def trimTile (s : State) (t : Nat) : State :=
  let x := s.safe t
  let v := pltSup s.plt.inForce t
  if x.statusI.isEmpty then s.modSafe t fun y => { y with derate := 16384, statusT := [], predHist := [] }
  else
    let n := x.statusI.length
    let sumP := x.predHist.sum
    let target := if sumP = 0 then Config.freeNat s.free else x.trim * (v * x.statusI.sum * x.predHist.length) / (1000 * n * sumP)
    let w1 := s.pltF 0x12 t 1
    (s.modSafe t fun y =>
      { y with trim := movedTrim x.trim target, derate := derating (fld w1 7 0) (fld w1 15 8) x.statusT,
               measured := v * x.statusI.sum / (1000 * n), statusI := [], statusT := [], predHist := [] }).drawn

/-- The zones of a canvas after an update: measured sums and their events (R153, R154). -/
def trimZone (s : State) (c z : Nat) (before : List (Nat × Nat)) : State :=
  let tiles := zoneTiles s c z
  let sum := (tiles.map fun p => (s.safe p.tile).measured).sum
  let s1 := s.modZone z fun y => { y with measured := sum }
  let s2 := if s.budgetW z * 100 < sum then raise s1 (128 + z) 4 (put sum 32 0) (s.canvas c).frame else s1
  tiles.foldl (fun s p =>
    if (s.safe p.tile).trim = 24576 && !before.contains (p.tile, 24576) then raise s (128 + z) 5 (put p.tile 9 0) (s.canvas c).frame else s) s2

/-- LOOP_TRIM_UPDATE (R140, R153, R154): after every 10 frames of the canvas. (DEDUCED, log entry 69) -/
def execLoopTrimUpdate (canvas : Nat) (s : State) : Host.Outcome State Fault Refusal :=
  .next <|
    if !(s.canvas canvas).running || (s.computing).isEmpty then s
    else
      let l := (s.canvas canvas).committed.tileIds
      let before := l.map fun t => (t, (s.safe t).trim)
      let s1 := s.each l trimTile
      s1.each (s1.zonesOf canvas) fun s z => trimZone s canvas z before

/-! ### SCRIM_TABLE_CHECK (R148) -/

/-- SCRIM_TABLE_CHECK (R148, R154, R155): both comparisons of a checker's table; a mismatch blocks the checker. The row's upset is a
word of its private storage, by its key, that has changed its value since the last check. -/
def execScrimTableCheck (die : DieId) (table : TableUpset) (s : State) : Host.Outcome State Fault Refusal :=
  .next <|
    if !(s.die die).running then s
    else
      let s1 := match table.upset with
        | some (k, v) => upsetScrim s die table.region k v
        | none => s
      checkScrim s1 die table.region

/-! ### SAFE reads (R153) -/

/-- The zone of a request lies in the partition of the owner of its canvas (DEDUCED, log entry 32). -/
def zoneReach (s : State) (r : Req) : Bool := s.owns r.who 3 (fld (s.pltW 0x10 (fld (r.word 0) 5 0) 0) 42 41)
/-- SAFE_ZONE_READ for the common checks. (DEDUCED, log entry 32) -/
def opSafeZoneRead : JcsOp := { opcode := 0x0701, reach := zoneReach, zeros := fun _ _ => 3 }
/-- SAFE_ZONE_READ (R153). -/
def safeZoneReadBody (s : State) (r : Req) : Ans :=
  let z := s.zone (fld (r.word 0) 5 0)
  .ok s [put z.frame 48 0 ||| put (z.g.getD 0) 16 48, put z.pred 32 0 ||| put z.measured 32 32,
    put z.scrimSum 32 0 ||| put z.withheld.toNat 16 32 ||| put z.hard.toNat 16 48]
/-- SAFE_ZONE_READ (R153). -/
def execSafeZoneRead (r : Req) (s : State) : Host.Outcome State Fault Refusal := .next (jcs opSafeZoneRead safeZoneReadBody r s)

/-- SAFE_TILE_READ for the common checks. -/
def opSafeTileRead : JcsOp := { opcode := 0x0702, reach := tileReach, zeros := fun _ _ => 4 }
/-- SAFE_TILE_READ (R153). -/
def safeTileReadBody (s : State) (r : Req) : Ans :=
  let t := reqTile r
  let x := s.safe t
  let cap := match s.canvasOf t with
    | some c => s.cap c t
    | none => 0
  let trk := (x.view (s.sumDie t)).trk
  let blocks := match s.sumDie t with
    | .a => x.blocksA
    | .b => x.blocksB
  .ok s [put x.frame 48 0 ||| put x.factor 16 48, put x.pred 32 0 ||| put x.measured 32 32,
    put trk.y 24 0 ||| putB trk.red 24 ||| putB (trk.dir = .rising) 25 ||| put trk.ext 24 40,
    put cap 16 0 ||| put (min 3 blocks) 2 16 ||| putB x.dust 18 ||| put x.total.toNat 32 32]
/-- SAFE_TILE_READ (R153). -/
def execSafeTileRead (r : Req) (s : State) : Host.Outcome State Fault Refusal := .next (jcs opSafeTileRead safeTileReadBody r s)

/-- SAFE_FLASH_READ for the common checks. -/
def opSafeFlashRead : JcsOp := { opcode := 0x0703, reach := canvasReach, zeros := fun _ _ => 2 }
/-- SAFE_FLASH_READ (R153). (DEDUCED, log entry 66) -/
def safeFlashReadBody (s : State) (r : Req) : Ans :=
  let c := reqCanvas r
  let x := s.flash c
  let cfg := (s.canvas c).committed
  let h := x.view s.lead
  .ok s [put x.frame 48 0 ||| putB x.armed 48 ||| putB x.redArmed 49 ||| put (min 15 (windowCount cfg h.rises)) 4 52 |||
      put (min 15 (windowCount cfg h.reds)) 4 56,
    put x.limited.toNat 32 0 ||| put x.armedFrames.toNat 32 32]
/-- SAFE_FLASH_READ (R153). -/
def execSafeFlashRead (r : Req) (s : State) : Host.Outcome State Fault Refusal := .next (jcs opSafeFlashRead safeFlashReadBody r s)

/-- SAFE_SCRIM_READ for the common checks: principals only (R320). -/
def opSafeScrimRead : JcsOp := { opcode := 0x0704, principal := true, zeros := fun _ _ => 3 }
/-- SAFE_SCRIM_READ (R153). -/
def safeScrimReadBody (s : State) (r : Req) : Ans :=
  let x := s.scrim (if bit (r.word 0) 8 then .b else .a) (fld (r.word 0) 1 0)
  .ok s [x.capBlocks.setWidth 64 ||| (x.flashBlocks.setWidth 64 <<< 32), x.powerFails.setWidth 64 ||| (x.latentRun.setWidth 64 <<< 32),
    x.latentFail.setWidth 64 ||| (x.dustEntries.setWidth 64 <<< 32)]
/-- SAFE_SCRIM_READ (R153). -/
def execSafeScrimRead (r : Req) (s : State) : Host.Outcome State Fault Refusal := .next (jcs opSafeScrimRead safeScrimReadBody r s)

end Sys2Proof.Machine
end

