-- ==== Sys2Proof/Machine/TwinRows.lean ====
section
/-! DEFINITION. The twin dies' rows: heartbeats, fatal declarations, fences, the arbiter's commands, rejoin, verification, cold
rebuild, votes' limit, microcode handover, the Twin commands and the die links (R17, R251 to R264, R272 to R282, R511, R512). -/

namespace Sys2Proof.Machine

/-! ### Heartbeats and fatal declarations (R255 to R257) -/

/-- HEARTBEAT_SEND (R255): a running die's word. -/
def execHeartbeatSend (die : DieId) (s : State) : Host.Outcome State Fault Refusal :=
  .next (if (s.die die).running then sendHeartbeat s die else s)

/-- The arbiter's record of a die's heartbeats: misses, last valid HSEQ. (DESIGN CHOICE, log entry 71) -/
def Twin.beats (x : Twin) (d : DieId) : Nat × BitVec 8 := match d with
  | .a => (x.missA, x.hseqA)
  | .b => (x.missB, x.hseqB)
/-- `x` with a die's record replaced. -/
def Twin.setBeats (x : Twin) (d : DieId) (miss : Nat) (hseq : BitVec 8) : Twin := match d with
  | .a => { x with missA := miss, hseqA := hseq }
  | .b => { x with missB := miss, hseqB := hseq }

/-- A die's hub link starts anew with the die (R17). -/
def Twin.linkRestart (x : Twin) (d : DieId) : Twin := match d with
  | .a => { x with linkA := true }
  | .b => { x with linkB := true }

/-- The arbiter watches a die: its fence is lifted, or it has been released to rejoin. -/
def State.watched (s : State) (d : DieId) : Bool := !(s.die d).fenced || s.joining d

/-- HEARTBEAT_RECEIVED (R255, R256, R259, R277): a word whose HSEQ follows the last valid one clears the misses; FATAL fences
the die with cause 2, or 4 where it lost a tie-break, the lead's FENCE_REQ fences the shadow with cause 3; a promotion
that waits for the die to show itself complete is given. -/
def execHeartbeatReceived (die : DieId) (word : Word) (s : State) : Host.Outcome State Fault Refusal :=
  .next <|
    let b := s.dies.twin.beats die
    let h : BitVec 8 := BitVec.ofNat 8 (fld word 7 0)
    if !s.watched die || h ≠ b.2 + 1 then s
    else
      let s1 := s.modTwin fun x => x.setBeats die 0 h
      if bit word 18 then fenceDie s1 die (if fld word 23 20 = 6 then 4 else 2)
      else if bit word 24 && s.twin && decide (fld word 17 16 = 1) && decide (s.lead = die) then fenceDie s1 die.other 3
      else if s1.dies.twin.owed && s1.up die && !s1.dies.twin.frozen && !bit word 19 && decide (fld word 17 16 ≠ 0) then promoteDie s1 die
      else s1

/-- HEARTBEAT_MISS (R256): 110 µs without a valid word; the third in a row fences the die with cause 1. (DESIGN CHOICE, log entry 43) -/
def execHeartbeatMiss (die : DieId) (s : State) : Host.Outcome State Fault Refusal :=
  .next <|
    if !s.watched die then s
    else
      let b := s.dies.twin.beats die
      let s1 := s.modTwin fun x => x.setBeats die (min 3 (b.1 + 1)) b.2
      if 3 ≤ b.1 + 1 then fenceDie s1 die 1 else s1

/-- FATAL_DECLARATION (R257). -/
def execFatalDeclaration (die : DieId) (cause : Nat) (s : State) : Host.Outcome State Fault Refusal :=
  .next (declareFatal s die cause)

/-- FENCE (R259, R261, R263, R276, R277). (DEDUCED, log entry 70) (DEDUCED, log entry 86) -/
def execFence (die : DieId) (cause : Nat) (s : State) : Host.Outcome State Fault Refusal := .next (fenceDie s die cause)

/-! ### The arbiter's command words (R258, R263, R264, R273) -/

/-- The frame orders that die `d` has written wait for nobody (R254). -/
def ownOrders (s : State) (d : DieId) : State :=
  s.each (List.range 4) fun s c => if ((s.canvas c).order.map fun o => o.writtenBy) = some d then ackOrder s c else s

/-- A die becomes lead with an epoch (R263, R264, R242): it takes over the frames in production, and repeats the transactions in flight. -/
def promote (s : State) (d : DieId) (epoch : BitVec 8) : State :=
  let s1 := s.modDie d fun x => { x with role := .lead, epoch := epoch, mute := false, fenceReq := false }
  let s2 := repeatTxns (takeOrders s1 d)
  raise s2 200 2 (put d.num 1 0 ||| (epoch.setWidth 64 <<< 8))

/-- A die becomes shadow, or resumes its Span chains with its epoch raised by 1 (R253, R263, R273, R280): event 0x04; its
ports send again. -/
def becomeShadow (s : State) (d : DieId) (epoch : BitVec 8) : State :=
  let s1 := s.modDie d fun x => { x with role := if s.span then .span else .shadow,
                                         epoch := if s.span then x.epoch + 1 else epoch, incomplete := false }
  raise s1 200 4 (put d.num 1 0)

/-- ARBITER_COMMAND (R258): what a running die does with a command word: CMD in [3:0], EPOCH in [15:8]. One that the device code cannot
correct is a command missed. A die that leads already is not promoted again. -/
def execArbiterCommand (die : DieId) (word : Word) (valid : Bool) (s : State) : Host.Outcome State Fault Refusal :=
  .next <|
    let x := s.die die
    let cmd := fld word 3 0
    let epoch := BitVec.ofNat 8 (fld word 15 8)
    if !x.running then s
    else if !valid then s.modDie die fun y => { y with missedCmd := min 3 (y.missedCmd + 1) }
    else
      let s1 := s.modDie die fun y => { y with missedCmd := 0 }
      if cmd = 1 then
        (if x.fenced || s.span || x.role = .lead || x.incomplete || x.role = .none then s1 else promote s1 die epoch)
      else if cmd = 2 then (if !x.fenced && x.role = .none then becomeShadow s1 die epoch else s1)
      else if cmd = 3 then (if x.fenced then s1.modDie die fun y => { y with incomplete := true } else s1)
      else if cmd = 4 then (if x.fenced || s.up die.other then s1 else ownOrders (s1.modDie die fun y => { y with fenceReq := false }) die)
      else s1

/-- ARBITER_COMMAND_MISS (R258): after 3 commands missed in a row a die reports an arbiter fault, and keeps its role. -/
def execArbiterCommandMiss (die : DieId) (s : State) : Host.Outcome State Fault Refusal :=
  .next (if (s.die die).running then s.modDie die fun x => { x with missedCmd := 3 } else s)

/-- ARBITER_FREEZE (R260). (DEDUCED, log entry 70) -/
def execArbiterFreeze (s : State) : Host.Outcome State Fault Refusal :=
  .next <|
    if s.dies.twin.frozen then s else raise (s.modTwin fun x => { x with frozen := true }) 200 8 0

/-! ### Rejoin (R29, R67, R273 to R275, R280, R511, R512) -/

/-- The microcode that die `d` runs from now on. -/
def setMicrocode (s : State) (d : DieId) (mc : Word) : State :=
  s.modFirmware fun f => match d with
    | .a => { f with mcRunA := mc }
    | .b => { f with mcRunB := mc }

/-- The fence of die `d` is lifted at the end of its verification (R259, R273, R511): a mute shadow in the middle of a change of
microcode that the lead has still to make, a shadow otherwise. A fall-back that waited for the step begins (R513).
(DEDUCED, log entry 70) -/
def admitDie (s : State) (d : DieId) : State :=
  let step := s.firmware.mcStep
  let s1 := setMemory s d .active
  let half := decide (step = 2) && s.twin && decide (s.microcode d.other ≠ s.microcode d)
  let s2 := s1.modDie d fun x => { x with fenced := false, mute := half, incomplete := false }
  let s3 := setCause (roleChange s2 (if s.span then .span else .duo)) d 0
  let s4 := if half then setMcStep s3 3 else if step = 2 || step = 5 then setMcStep s3 0 else s3
  let s5 := (List.range 2).foldl (fun s p => restartPort s (d.num * 2 + p)) <|
    sendCommand (enablePorts (s4.modTwin fun x => { x with verified := 0, failedVer := 0 }) d) d 2
  if step = 0 then s5 else fallBackDue s5

/-- The hop delays of a die's ends fall due (R205, R273). (DEDUCED, log entry 30) -/
def lostRegion (s : State) (d : DieId) : Bool := (List.range 4).any fun r => ((s.die d).region r).lost

/-- A die may restart and be released: no trip stands, its supplies are in range, REFCLK is there, A-to-B works, and the package is not in
Deep-sleep (R473). (DEDUCED, log entry 30) -/
def canRelease (s : State) (d : DieId) : Bool :=
  (s.die d).fenced && !(s.die d).running && !(s.therm d.die3).tripped && !s.hub.cpFailed && !s.dies.twin.frozen &&
    !s.dies.twin.stayFenced && s.dies.twin.linkAB && s.dieSupplied d && s.clocks.refOk && !s.joining d.other &&
    (s.span || decide (s.dies.twin.state = .solo)) && decide (s.hub.stage = .ready) && decide (s.clocks.power ≠ .deep) &&
    s.clocks.change.all fun x => decide (x.mode = .run)

/-- The snapshot frame K0 (R273): the first frame of the lowest-numbered running canvas with S(K0) ≥ t + 1 ms. -/
def snapshotFrame (s : State) : Nat :=
  match s.lowCanvas with
  | some c => (s.canvas c).firstFrame (s.wall + 1000000)
  | none => 0

/-- REJOIN_RELEASE (R29, R67, R273, R280, R512): a restarted die, its root PLL locked again (R460) and its counter copy loaded afresh
(R368), is released and the state copy begins; the die runs the microcode of the running image. With a lost region it stays fenced. In Span
mode with no die to copy from it resumes at once. (DEDUCED, log entry 70) -/
def execRejoinRelease (die : DieId) (s : State) : Host.Outcome State Fault Refusal :=
  .next <|
    if !canRelease s die then s
    else if lostRegion s die then
      raise (s.modTwin fun x => { x with stayFenced := true }) 200 1 (put die.num 1 0 ||| put (match die with
        | .a => s.dies.twin.causeA
        | .b => s.dies.twin.causeB) 4 4)
    else
      let s0 := if s.pll die then s else raise (setPll s die true) (statusSource die) 2 0
      let s1 := s0.modDie die fun x => { x with running := true, incomplete := true, hseq := 0, missedCmd := 0 }
      let s2 := (setMemory (setMicrocode s1 die s.imageMicrocode) die .active).setCopy die s.time.counter
      let s3 := s2.modTwin fun x =>
        Twin.linkRestart { (x.setBeats die 0 0) with
          k0 := snapshotFrame s, verified := 0, verFrame := none, failedVer := 0 } die
      if s.span && !s.up die.other then admitDie s3 die
      else
        let s4 := if s.firmware.mcStep = 1 then setMcStep s3 2 else s3
        let s5 := raise (sendCommand (s4.modTwin fun x => { x with state := .copy }) die 3) 200 3
          (put die.num 1 0)
        if s.firmware.mcStep = 1 then fallBackDue s5 else s5

/-- A tile's correction banks as a joining die takes them (R274, R280): the active one from the hub's master copy, a staged one from the
other die where that one holds it. -/
def copyCorr (x : Corr) (d : DieId) : Corr :=
  let idle := if x.state = .clean then {} else x.idle d.other
  x.modSide d fun _ => if x.active1 then { bank0 := idle, bank1 := x.master } else { bank0 := x.master, bank1 := idle }

/-- A region result as a joining die takes it (R274): what the other die last sent, to which it has sent nothing itself. -/
def copyResult (r : Option RegionRes) : Option RegionRes := r.map fun x => { x with reported := false, sentCrc := none, echoed := none }

/-- The slots that a joining die takes buffers of (R274, R280): all of them, in Span mode those of the layers of canvases of both dies. -/
def copiedSlots (s : State) : List Nat :=
  if s.span then (below 4 fun c => sharedCanvas s c).flatMap fun c => (s.canvas c).committed.layers.map fun l => l.2.lSlot
  else s.frames.slots.map fun x => x.1

/-- The copy of what the other die holds (R67, R274): source buffers, correction banks, what it last formed for each region, and its safety
state; the checkers' tables are rebuilt. In Span mode only the state of canvases of both dies is copied: a die's own tiles have no copy in
the other die, and begin anew (R280). -/
def copyState (s : State) (d : DieId) : State :=
  let mem := fun (m : Tbl (Tbl Byte)) => m.filter fun x => (copiedSlots s).contains (x.1 / 8)
  let s1 := s.modFrames fun f =>
    let f1 : Frames := match d with
      | .a => { f with memA := mem f.memB, resA := if s.span then [] else f.resB.map fun x => (x.1, copyResult x.2) }
      | .b => { f with memB := mem f.memA, resB := if s.span then [] else f.resA.map fun x => (x.1, copyResult x.2) }
    { f1 with corr := f1.corr.map fun x => (x.1, copyCorr x.2 d)
              safeTiles := f1.safeTiles.map fun x =>
                let y := x.2.modView d fun _ => if s.span then {} else x.2.view d.other
                (x.1, match d with
                  | .a => { y with blocksA := y.blocksB }
                  | .b => { y with blocksB := y.blocksA })
              flash := f1.flash.map fun x => (x.1, x.2.modView d fun _ => if s.span && !sharedCanvas s x.1 then {} else x.2.view d.other) }
  s1.each (List.range 4) fun s r => loadScrim s d r

/-- S(K0) has passed, so that the copy as at K0 is complete (R273). -/
def copyReached (s : State) : Bool :=
  match s.lowCanvas with
  | some c => decide (s.dies.twin.k0 < (s.canvas c).next)
  | none => true

/-- The joining die's correction hashes equal those of the other die after loading (R129, R274). (DESIGN CHOICE, log entry 113) -/
def hashesAgree (s : State) (d : DieId) : Bool :=
  s.span || s.frames.corr.all fun x => decide (bankHashes s x.1 (x.2.active d) = bankHashes s x.1 (x.2.active d.other))

/-- STATE_COPY_COMPLETE (R259, R273, R274): the copy is paused while class D work is shed (R490), and goes on while a correction hash
differs. (DESIGN CHOICE, log entry 113) -/
def execStateCopyComplete (die : DieId) (s : State) : Host.Outcome State Fault Refusal :=
  .next <|
    if s.joining die && copyReached s && !s.dShed .a && !s.dShed .b && decide (s.dies.twin.state = .copy) && !s.dies.twin.frozen then
      let s1 := copyState s die
      let s2 := if hashesAgree s1 die then
          s1.modTwin fun x => { x with state := .verify, verified := 0, verFrame := s.lowCanvas.map fun _ => productionFrame s }
        else s1
      s2.modDie die fun x => { x with incomplete := true, epoch := if s.span then x.epoch else (s.die s.lead).epoch }
    else s

/-- The third failed verification (R259, R275): the die stays fenced with cause 5. A change of microcode in steps ends: the other die
runs alone, and R512 applies. -/
def failVerification (s : State) (d : DieId) : State :=
  (setCause (holdDie (if s.firmware.mcStep = 0 then s else fallBackDue (setMcStep s 0)) d) d 5).modTwin fun x =>
    { x with state := s.alone, stayFenced := true }

/-- What one die reported for the regions of a frame order is what the other did (R275). In a canvas other than the lowest-numbered one
(`all` false) a region that one of them has still to form is judged later. -/
def sameReports (s : State) (d : DieId) (all : Bool) (o : FrameOrder) : Bool :=
  o.patch.all fun x =>
    match s.result d x.1 x.2, s.result d.other x.1 x.2 with
    | some a, some b =>
      if a.frame = o.frame && b.frame = o.frame then decide (a.outcome = b.outcome) && decide (a.crc = b.crc) else !all
    | _, _ => !all

/-- The canvases that a verification judges (R275, R280): the running ones, in Span mode those of both dies. -/
def verifiedCanvases (s : State) : List Nat := below 4 fun c => (s.canvas c).running && (!s.span || sharedCanvas s c)

/-- What a joining die formed for the present frames equals what the other die formed (R275, R280): its region reports in Twin mode, its
G_z and its arming. -/
def verified (s : State) (d : DieId) : Bool :=
  (verifiedCanvases s).all fun c =>
    (s.span || ((s.canvas c).order.map fun o => sameReports s d (decide (s.lowCanvas = some c)) o).getD true) &&
      decide (armedIn s c d = armedIn s c d.other) &&
      (s.zonesOf c).all fun z => decide (zoneScale s d c z (s.canvas c).withheld = zoneScale s d.other c z (s.canvas c).withheld)

/-- The bytes of a frame order under a digest: its patch map, or in Span mode the layers' choices (R275, R280).
(DESIGN CHOICE, log entry 113) -/
def digestBytes (s : State) (o : FrameOrder) : List Byte :=
  if s.span then o.choices.flatMap fun x => leBytes 2 x.layer ++ leBytes 2 x.slot ++ leBytes 2 (x.buf.getD 65535) ++ leBytes 6 x.frame
  else o.patch.flatMap fun x => leBytes 2 x.1 ++ leBytes 2 x.2

/-- The running die's digest of its patch maps, or in Span mode of its frame orders (R275, R280): a CRC-32C over the canvases in order of
number. (DESIGN CHOICE, log entry 113) -/
def verifyDigest (s : State) : BitVec 32 :=
  crc32c ((verifiedCanvases s).flatMap fun c => ((s.canvas c).order.map (digestBytes s)).getD [])

/-- VERIFICATION_FRAME (R259, R275, R280, R282): the joining die's digest reaches the other. A frame of the lowest-numbered running canvas
is judged once; 16 in a row that agree admit the die; after a difference the lead copies again, the count starts over, and the third leaves
the die fenced. (DESIGN CHOICE, log entry 113) -/
def execVerificationFrame (die : DieId) (digest : BitVec 32) (s : State) : Host.Outcome State Fault Refusal :=
  .next <|
    let n := s.lowCanvas.map fun _ => productionFrame s
    if !(s.joining die && decide (s.dies.twin.state = .verify)) || s.dies.twin.frozen || (n.isSome && decide (n = s.dies.twin.verFrame)) then s
    else if digest = verifyDigest s && verified s die then
      let v := if n = s.dies.twin.verFrame.map (· + 1) then s.dies.twin.verified else 0
      if 16 ≤ v + 1 then admitDie s die else s.modTwin fun x => { x with verified := v + 1, verFrame := n }
    else
      let k := s.dies.twin.failedVer + 1
      let s1 := raise (s.modTwin fun x => { x with verified := 0, verFrame := n, failedVer := k }) 200 5 (put die.num 1 0 ||| put k 2 8)
      if 3 ≤ k then failVerification s1 die else copyState s1 die

/-! ### Cold rebuild (R252, R259, R276) -/

/-- Staged changes of a canvas that were not committed: its blocks that differ from the committed ones. -/
def stagedChanges (c : Canvas) : Nat :=
  let one := fun (b : Bool) => if b then 1 else 0
  one (decide (c.staged.cfg ≠ c.committed.cfg)) + one (decide (c.staged.tiles ≠ c.committed.tiles)) +
    one (decide (c.staged.blend ≠ c.committed.blend)) + one (decide (c.staged.timing ≠ c.committed.timing))

/-- Layers whose staged words differ from those that a canvas has committed. -/
def stagedLayers (s : State) : List Nat :=
  (s.frames.layers.map fun x => x.1).filter fun l =>
    match (List.range 4).findSome? fun c => (((s.canvas c).committed.layers.find? fun y => y.1 = l).map fun y => y.2) with
    | some d => decide (d ≠ (s.layer l).staged)
    | none => decide ((s.layer l).staged ≠ (({} : Layer).staged))

/-- Tiles whose staged corrections are not committed. -/
def stagedTiles (s : State) : List Nat := (s.frames.corr.filter fun x => decide (x.2.state ≠ .clean)).map fun x => x.1

/-- Tables whose inactive bank has been loaded, in part or whole, and waits for a commit. -/
def stagedTables (s : State) : List TableId := allTables.filter fun t => (s.table t).fresh

/-- The SCAN words of the tiles as the canvases have committed them. -/
def committedScan (s : State) : Tbl Word :=
  ((List.range 4).flatMap fun c => (s.canvas c).committed.scan).foldl (fun m x => Tbl.set 0 m x.1 x.2) []

/-- Tiles whose staged SCAN word is not committed, and tiles with a staged PREFS word. -/
def stagedWords (s : State) : Nat :=
  (s.frames.stagedScan.filter fun x => !(committedScan s).contains x).length + (s.links.tiles.filter fun x => x.2.prefsNext.isSome).length

/-- The number of staged changes that a cold rebuild loses (R276, R282). -/
def lostChanges (s : State) : Nat :=
  ((List.range 4).map fun c => stagedChanges (s.canvas c)).sum + (stagedLayers s).length + (stagedTiles s).length + (stagedTables s).length +
    stagedWords s

/-- The inactive bank of a table is lost, and a load into it with it. -/
def LutBanks.dropIdle (b : LutBanks) : LutBanks :=
  if b.active1 then { b with bank0 := [], loaded0 := false, fresh := false, due := none }
  else { b with bank1 := [], loaded1 := false, fresh := false, due := none }

/-- A slot as a cold rebuild leaves it (R44, R276): what its buffers held is gone with the dies' memories. A frame that is FILLING is
cancelled, READY frames are dropped, and buffers IN-USE are released. (DESIGN CHOICE, log entry 95) -/
def coldSlot (s : State) (k : Nat) : State :=
  (cancelPulls s k).modSlot k fun x =>
    let y := x.bufIds.foldl (fun x b =>
      match (x.buf b).state with
      | .filling => x.modBuf b fun _ => {}
      | .ready => x.drop b
      | .inUse => x.release b false
      | _ => x) x
    { y with net := none }

/-- A tile's correction banks after a cold rebuild (R276): the active ones from the master copy, staged ones lost. A load still in flight
then finds no staging. -/
def coldCorr (x : Corr) : Corr :=
  let y := { x with state := .clean }
  copyCorr (copyCorr y .a) .b

/-- Staged changes are lost, and every running canvas starts as from idle with its layers ABSENT (R197, R276). -/
def coldCanvas (s : State) (c : Nat) : State :=
  let cv := s.canvas c
  let again : Option PendingCommit :=
    if cv.running then some ⟨cv.committed.startFrame (s.wall + 1000000), cv.committed⟩ else cv.pending
  let s1 := match cv.change with
    | some ch => finishLong s ch.src ch.id 8
    | none => s
  (s1.each (cv.committed.layers.map fun l => l.1) fun s l => s.modLayer l fun x =>
      { x with state := if x.state = .disabled then .disabled else .absent, lastBuf := none }).modCanvas c fun x =>
    { x with staged := { x.staged with cfg := x.committed.cfg, tiles := x.committed.tiles, blend := x.committed.blend,
                                       timing := x.committed.timing },
             pending := again, change := none, running := false, order := none, prevOrder := none, mcFrame := none, mcNew := false }

/-- The state that both dies start from after a cold rebuild (R276). -/
def coldState (s : State) : State :=
  let s1 := (stagedLayers s).foldl (fun s l =>
    match (List.range 4).findSome? fun c => (((s.canvas c).committed.layers.find? fun y => y.1 = l).map fun y => y.2) with
    | some d => s.modLayer l fun x => { x with staged := d }
    | none => s.modLayer l fun x => { x with staged := ({} : Layer).staged }) s
  let s2 := s1.each (stagedTables s) fun s t => s.modTable t LutBanks.dropIdle
  let s3 := (s2.each (List.range 4) coldCanvas).each (s2.frames.slots.map fun x => x.1) coldSlot
  let s4 := s3.each (s3.links.tiles.map fun x => x.1) fun s t => s.modTile t fun x => { x with prefsNext := none }
  s4.modFrames fun f =>
    { f with memA := [], memB := [], resA := [], resB := [], stagedScan := committedScan s, corr := f.corr.map fun x => (x.1, coldCorr x.2)
             safeTiles := f.safeTiles.map fun x => (x.1, { x.2 with fresh := true, viewA := {}, viewB := {} })
             flash := f.flash.map fun x => (x.1, { x.2 with viewA := {}, viewB := {} }) }

/-- A die starts in a role with an epoch: memory active, ports sending, the microcode of the running image. -/
def startDie (s : State) (d : DieId) (role : Role) (epoch : BitVec 8) : State :=
  let s0 := if s.pll d then s else raise (setPll s d true) (statusSource d) 2 0
  let s1 := (setMemory (setMicrocode s0 d s.imageMicrocode) d .active).modDie d fun x =>
    { x with role := role, running := true, fenced := false, mute := false, incomplete := false, epoch := epoch, hseq := 0, missedCmd := 0 }
  let s2 := enablePorts (setCause ((s1.setCopy d s.time.counter).modTwin fun x => (x.setBeats d 0 0).linkRestart d) d 0) d
  (List.range 2).foldl (fun s p => restartPort s (d.num * 2 + p)) s2

/-- The roles of R252 with an epoch, by which dies passed their check; at least one did. -/
def startDies (s : State) (passA passB : Bool) (epoch : BitVec 8) : State :=
  let s1 := s.modTwin fun x => { x with epoch := epoch }
  let s2 := if passA then startDie s1 .a .lead epoch else s1
  let s3 := if passB then startDie s2 .b (if passA then .shadow else .lead) epoch else s2
  roleChange (s3.modTwin fun x => { x with owed := false, promotedAt := none }) (if passA && passB then .duo else .solo)

/-- COLD_REBUILD (R252, R259, R276, R282, R296): both dies are rebuilt cold; with neither, safe halt with HALT 7.
(DEDUCED, log entry 70) (DESIGN CHOICE, log entry 95) -/
def execColdRebuild (passA passB : Bool) (s : State) : Host.Outcome State Fault Refusal :=
  .next <|
    if s.dies.twin.state ≠ .out || s.hub.cpFailed || s.dies.twin.frozen then s
    else
      let a := passA && !lostRegion s .a
      let b := passB && !lostRegion s .b
      if !a && !b then setStage ((s.modTwin fun x => { x with state := .halt }).modHub fun h => { h with halt := 7 }) .halted
      else
        let lost := lostChanges s
        fallBackDue (raise (setMcStep (startDies (coldState s) a b (s.dies.twin.epoch + 1)) 0) 200 7 (put (min 65535 lost) 16 0))

/-! ### Votes' limit and microcode (R272, R511, R512) -/

/-- INCONCLUSIVE_LIMIT (R272): 8 inconclusive votes within 1,024 frames fence the shadow with cause 7. -/
def execInconclusiveLimit (s : State) : Host.Outcome State Fault Refusal :=
  .next <|
    let l := s.dies.twin.inconFrames
    let near := match l[0]?, l[7]? with
      | some a, some b => decide (a < b + 1024)
      | _, _ => false
    if s.dies.twin.state = .duo && near then
      fenceDie (raise (s.modTwin fun x => { x with inconFrames := [] }) 201 4 0) s.lead.other 7
    else s

/-- MICROCODE_HANDOVER (R511 step 4): the lead is fenced with cause 6 and the mute shadow promoted. -/
def execMicrocodeHandover (s : State) : Host.Outcome State Fault Refusal :=
  .next <|
    let m := s.lead.other
    if s.dies.twin.state = .duo && (s.die m).mute && decide (s.firmware.mcStep = 3) && !s.dies.twin.frozen && !s.hub.cpFailed then
      fallBackDue (setMcStep ((fenceDie (setMcStep s 4) s.lead 6).modDie m fun x => { x with mute := false }) 5)
    else s

/-- A running die's microcode is not that of the running image, and R512's procedure applies: Span mode, or one die fenced. -/
def switchWaits (s : State) : Bool :=
  decide (s.firmware.mcStep = 0) && (s.span || decide (s.dies.twin.state = .solo)) && !s.hub.cpFailed &&
    [DieId.a, DieId.b].any fun d => s.up d && decide (s.microcode d ≠ s.imageMicrocode)

/-- MICROCODE_SWITCH (R512): the load has ended; every running canvas switches at its first frame K with S(K) ≥ t + 10 ms. With
none running the dies switch at once. -/
def execMicrocodeSwitch (canvas : Nat) (s : State) : Host.Outcome State Fault Refusal :=
  .next <|
    let l := below 4 fun c => (s.canvas c).running
    if !switchWaits s || l.any fun c => (s.canvas c).mcFrame.isSome || (s.canvas c).mcNew then s
    else if l.isEmpty then
      fallBackDue (([DieId.a, DieId.b].filter s.up).foldl (fun s d => setMicrocode s d s.imageMicrocode) s)
    else if l.contains canvas then
      s.each l fun s c => s.modCanvas c fun x => { x with mcFrame := some (x.firstFrame (s.wall + 10000000)) }
    else s

/-! ### Twin commands (R281) -/

/-- The number of the arbiter's state in TWIN_STATUS_READ (R259, R281). -/
def arbCode (s : State) : Nat :=
  if s.span then 7
  else match s.dies.twin.state with
    | .start => 0 | .duo => 1 | .solo => 2 | .copy => 3 | .verify => 4 | .out => 5 | .halt => 6 | .span => 7

/-- A mask of a die's retired clusters. -/
def retiredMask (x : Die) : Word := orW (x.retiredList.map fun c => putB true c)

/-- TWIN_STATUS_READ for the common checks. -/
def opTwinStatusRead : JcsOp := { opcode := 0x0140 }
/-- TWIN_STATUS_READ (R281): ARB_OK is clear while the arbiter is frozen or a die has reported an arbiter fault (R258).
(DEDUCED, log entry 86) -/
def twinStatusReadBody (s : State) (_ : Req) : Ans :=
  let t := s.dies.twin
  let ok := !t.frozen && decide (s.dies.a.missedCmd < 3) && decide (s.dies.b.missedCmd < 3)
  .ok s [put (arbCode s) 4 0 ||| putB ok 4 ||| (t.epoch.setWidth 64 <<< 8) ||| putB s.dies.a.fenced 16 ||| putB s.dies.b.fenced 17 |||
      putB (s.twin && decide (s.lead = .b)) 18 ||| put t.causeA 4 24 ||| put t.causeB 4 28 ||| put t.failedVer 2 32 ||| put t.verified 5 36,
    put t.roleFrame 48 0, BitVec.ofNat 64 t.roleTime, t.fences.setWidth 64 ||| (t.promotions.setWidth 64 <<< 32),
    retiredMask s.dies.a ||| (retiredMask s.dies.b <<< 16), t.mismatches.setWidth 64 ||| (t.inconclusive.setWidth 64 <<< 32)]
/-- TWIN_STATUS_READ (R281). -/
def execTwinStatusRead (r : Req) (s : State) : Host.Outcome State Fault Refusal := .next (jcs opTwinStatusRead twinStatusReadBody r s)

/-- TWIN_VOTE_READ for the common checks. -/
def opTwinVoteRead : JcsOp := { opcode := 0x0141, reach := tileReach, zeros := fun _ _ => 5 }
/-- TWIN_VOTE_READ (R281). -/
def twinVoteReadBody (s : State) (r : Req) : Ans :=
  let x := s.tile (reqTile r)
  .ok s ((List.range 4).map (wordAt (x.vote.getD [])) ++ [x.mismatches.setWidth 64 ||| (x.holds.setWidth 64 <<< 32)])
/-- TWIN_VOTE_READ (R281). -/
def execTwinVoteRead (r : Req) (s : State) : Host.Outcome State Fault Refusal := .next (jcs opTwinVoteRead twinVoteReadBody r s)

/-- TWIN_SERVICE for the common checks: principals only (R281, R320). -/
def opTwinService : JcsOp := { opcode := 0x0142, long := true, principal := true }
/-- TWIN_SERVICE (R281): FENCE with cause 6, or REJOIN. A command whose object is already so completes without effect; a second
one while one waits is BUSY, and so is a FENCE that a frozen arbiter cannot do (DEDUCED, log entry 33). -/
def twinServiceBody (s : State) (r : Req) : Ans :=
  let d : DieId := if bit (r.word 0) 0 then .b else .a
  let rejoin := bit (r.word 0) 1
  let start := fun (s1 : State) => Ans.accepted (s1.modTwin fun x => { x with service := some (r.who, s.nextLong r.who, d, rejoin) })
  if s.span then .badParam s
  else if rejoin then
    if s.dies.twin.state = .copy || s.dies.twin.state = .verify || s.dies.twin.service.isSome then .busy s
    else if !(s.die d).fenced then .ok s
    else start (s.modTwin fun x => { x with stayFenced := false })
  else if !(s.die d).fenced && (s.die d.other).fenced then .conflict s
  else if (s.die d).fenced then .ok s
  else if s.dies.twin.frozen || s.dies.twin.service.isSome then .busy s
  else start (fenceDie s d 6)
/-- TWIN_SERVICE (R281). -/
def execTwinService (r : Req) (s : State) : Host.Outcome State Fault Refusal := .next (jcs opTwinService twinServiceBody r s)

/-- TWIN_SERVICE_COMPLETE (R322, R323): a fence that stands; a rejoin that has ended, or TIMEOUT after the third failed
verification. (DEDUCED, log entry 33) -/
def execTwinServiceComplete (s : State) : Host.Outcome State Fault Refusal :=
  .next <|
    match s.dies.twin.service with
    | none => s
    | some (src, id, d, rejoin) =>
      let fin := fun (status : Nat) => finishLong (s.modTwin fun x => { x with service := none }) src id status
      if rejoin then (if !(s.die d).fenced then fin 0 else if s.dies.twin.stayFenced then fin 7 else s)
      else if (s.die d).fenced then fin 0 else s

/-! ### Die links (R17) -/

/-- A die link has failed (R17): of the hub, its die declares itself fatal; A-to-B, the shadow does, or in Span mode an event of
which the manual gives neither source nor code: a free code of E200 (DESIGN CHOICE, log entry 34). -/
def dieLinkFails (s : State) (link : Nat) : State :=
  if link = 0 then declareFatal (s.modTwin fun x => { x with linkA := false }) .a 2
  else if link = 1 then declareFatal (s.modTwin fun x => { x with linkB := false }) .b 2
  else
    let s1 := s.modTwin fun x => { x with linkAB := false }
    let s2 := ([DieId.a, DieId.b].filter s1.joining).foldl (fun s d => fenceDie s d 2) s1
    if s.span then (raise s2 200 (Config.freeNat s.free) (Config.freeWord s.free)).drawn
    else if s.dies.twin.state = .duo then declareFatal s2 s.lead.other 3
    else s2

/-- A die link has failed already. -/
def linkDead (s : State) (link : Nat) : Bool :=
  !(if link = 0 then s.dies.twin.linkA else if link = 1 then s.dies.twin.linkB else s.dies.twin.linkAB)

/-- DIE_LINK_POISON (R17, R268): single errors corrected since the row before are counted; a poisoned word is an error of the die that
receives it (the word's die, on A-to-B) and is sent again once; poisoned again, the link has failed. (DESIGN CHOICE, log entry 71) -/
def execDieLinkPoison (word : LinkWord) (again : Bool) (s : State) : Host.Outcome State Fault Refusal :=
  .next <|
    if linkDead s word.link then s
    else
      let s1 := s.modTwin fun x => { x with linkRetry := x.linkRetry + 1, linkFixed := x.linkFixed + BitVec.ofNat 32 word.fixed }
      let s2 := recordError s1 (if word.link = 0 then .a else if word.link = 1 then .b else word.die) .poison
      if again then dieLinkFails s2 word.link else s2

/-- DIE_LINK_RESTORED (R17, R277): A-to-B works again. -/
def execDieLinkRestored (s : State) : Host.Outcome State Fault Refusal := .next (s.modTwin fun x => { x with linkAB := true })

end Sys2Proof.Machine
end

