-- ==== Sys2Proof/Machine/Calib.lean ====
section
/-! DEFINITION. Calibration: windows, runs and their agreement, diode trims, DIAG_CAL_READ (R530 to R541). -/

namespace Sys2Proof.Machine

/-! ### Agreement of runs (R530, R531) -/

/-- A run's figure misses the minimum of R530, or the run failed. -/
def runFails (i : CalItem) (r : CalRun) : Bool :=
  r.failed || (match i with
    | .tileLane _ _ => decide (r.fig1 < 300) || decide (r.fig2 < 30)
    | .netLane _ _ => decide (r.fig1 < 300) || decide (r.fig2 < 30)
    | .memory _ _ => decide (r.values.getD 0 0 < 25) || decide (r.values.getD 1 0 < 25) || decide (r.values.getD 2 0 < 50)
    | .diode _ => decide (100 < r.fig1.natAbs)
    | .ptp _ _ => decide (200 < r.fig1.natAbs))

/-- Value `k` of two runs differs by at most `n`. -/
def near (a b : CalRun) (k n : Nat) : Bool := decide ((a.values.getD k 0 - b.values.getD k 0).natAbs ≤ n)
/-- The figures of two runs differ by this. -/
def figDiff (a b : CalRun) : Nat := (a.fig1 - b.fig1).natAbs

/-- Two runs agree (R530, R531): neither fails, and figures and values lie within the tolerance. Values of a lane are sender preset,
peaking in dB and tile preset; of a memory channel RD_M, WR_M, CA_M in ps; of a diode the offset in 0.01 °C; of PTP latency TX and RX
in 2^-16 ns. -/
def runsAgree (i : CalItem) (a b : CalRun) : Bool :=
  !runFails i a && !runFails i b && (match i with
    | .tileLane _ _ => decide (figDiff a b ≤ 50) && near a b 1 1 && near a b 2 0
    | .netLane _ _ => decide (figDiff a b ≤ 50) && near a b 1 1
    | .memory _ _ => decide (figDiff a b ≤ 8) && near a b 0 8 && near a b 1 8 && near a b 2 8
    | .diode _ => decide (figDiff a b ≤ 50) && near a b 0 50
    | .ptp _ _ => decide (figDiff a b ≤ 100) && near a b 0 65536 && near a b 1 65536)

/-- The agreeing pair of the runs (R531): of two runs those two, of three the pair whose figures differ least. -/
def agreeingPair (i : CalItem) (l : List CalRun) : Option (CalRun × CalRun) :=
  match l with
  | [a, b] => if runsAgree i a b then some (a, b) else none
  | [a, b, c] =>
    ([(a, b), (a, c), (b, c)].filter fun x => runsAgree i x.1 x.2).foldl (fun best x =>
      match best with
      | none => some x
      | some y => if figDiff x.1 x.2 < figDiff y.1 y.2 then some x else some y) none
  | _ => none

/-- The sender preset that follows from a peaking in dB (R535). -/
def presetOf (peaking : Int) : Int :=
  if peaking ≤ 2 then 0 else if peaking ≤ 5 then 1 else if peaking ≤ 8 then 2 else if peaking ≤ 10 then 4
  else if peaking ≤ 12 then 3 else if peaking ≤ 13 then 5 else if peaking ≤ 14 then 6 else 7

/-- The values applied from an agreeing pair (R531): means of continuous values, the lower peaking and what goes with it. -/
def pairValues (i : CalItem) (a b : CalRun) : List Int :=
  let v := fun (r : CalRun) (k : Nat) => r.values.getD k 0
  let mean := fun (k : Nat) => roundDivI (v a k + v b k) 2
  let weak := if v b 1 < v a 1 then b else a
  match i with
  | .tileLane _ _ => [presetOf (v weak 1), v weak 1, v weak 2]
  | .netLane _ _ => [v weak 0, v weak 1, 0]
  | .memory _ _ => [mean 0, mean 1, mean 2]
  | .diode _ => [mean 0]
  | .ptp _ _ => [mean 0, mean 1]

/-! ### Applying values (R532, R535, R537) -/

/-- The values of an item take effect (R532, R537). (DEDUCED, log entry 52) -/
def applyValues (s : State) (i : CalItem) (v : List Int) : State :=
  let n := fun (k : Nat) => (v.getD k 0).toNat
  match i with
  | .tileLane d p => setLane s d p v
  | .netLane _ _ => s
  | .memory d c => s.modChan d c fun x => { x with margins := (n 0, n 1, n 2), suspect := false, marked := false, drift := 0, adjusted := 0 }
  | .diode d =>
    if s.lowCanvas.isSome then s.modTherm d fun t => { t with trimNext := some (v.getD 0 0) }
    else s.modTherm d fun t => { t with trim := v.getD 0 0 }
  | .ptp d p =>
    let port := netPortNo d p
    if s.lowCanvas.isSome then s.modTime fun t => { t with latencyNext := t.latencyNext ++ [(port, (n 0, n 1))] }
    else s.modTime fun t => { t with latency := Tbl.set none t.latency port (some (n 0, n 1)) }

/-- What follows when no pair agrees (R532): the old values stay; where there are none, lanes take preset 2, 6 dB and tile preset 2, and
a memory channel fails training. -/
def keepOld (s : State) (i : CalItem) : State :=
  match i with
  | .tileLane d p => setLane (s.modCal i fun c => { c with values := if c.values.isEmpty then [2, 6, 2] else c.values }) d p (s.cal i).values
  | .netLane _ _ => if (s.cal i).values.isEmpty then s.modCal i fun c => { c with values := [2, 6, 0] } else s
  | .memory d c => s.modChan d c fun x => { x with suspect := true, failed := x.failed || (s.cal i).values.isEmpty }
  | _ => s

/-- The outcome of a calibration (R531, R532, R541): told at once, or at the close of its window. -/
def endCal (s : State) (i : CalItem) (runs : List CalRun) (pair : Option (CalRun × CalRun)) : State :=
  let code := if pair.isSome then 1 else 2
  let s1 := match pair with
    | some (a, b) =>
      let v := pairValues i a b
      applyValues (s.modCal i fun c =>
        { c with state := 1, fig1 := (a.fig1 + b.fig1) / 2, fig2 := (a.fig2 + b.fig2) / 2, values := v }) i v
    | none => keepOld (s.modCal i fun c => { c with state := 2, suspects := c.suspects + 1 }) i
  let inWindow := (s.cal i).window
  let s2 := s1.modCal i fun c =>
    { c with runs := runs.length, time := s.wall, cals := c.cals + 1, results := [], due := false, outcome := if inWindow then code else 0 }
  if inWindow then s2 else calEvent s2 i code

/-! ### When calibration runs (R533, R534) -/

/-- Every leg of a slot, session or audio part on a network port has its other leg up (R534). -/
def legsCovered (s : State) (port : Nat) : Bool :=
  let leg := port / 2
  let o := 1 - leg
  (s.frames.slots.all fun x => !x.2.started || !x.2.legEn leg || decide (x.2.legPort leg ≠ port) ||
    (x.2.legEn o && !(x.2.leg o).lost && s.netUp (x.2.legPort o))) &&
  (s.media.decs.all fun x => !x.2.running || !x.2.legOn leg || decide (x.2.legPort leg ≠ port) ||
    (x.2.legOn o && !x.2.legLost o && s.netUp (x.2.legPort o))) &&
  (s.media.saps.all fun x => !x.2.started || (List.range 2).all fun i => !x.2.legOn i leg || decide (x.2.legPort i leg ≠ port) ||
    (x.2.legOn i o && !Tbl.get false x.2.legLost (2 * i + o) && s.netUp (x.2.legPort i o)))

/-- Every segment of a loop is UP: both sender ports, and every tile says so in its last STATUS (R534). -/
def loopUp (s : State) (p : Nat) : Bool :=
  decide ((s.port p).rx = .up) && decide ((s.port (32 + p)).rx = .up) && (s.portTiles p).all fun t =>
    match (s.tile t).newest with
    | some x => bit (wordAt x.words 2) 6 && bit (wordAt x.words 2) 7
    | none => false

/-- A timing change is in progress on a canvas of the loop. -/
def loopChanging (s : State) (p : Nat) : Bool :=
  (below 4 fun c => (s.canvas c).change.isSome && (s.canvas c).committed.tileIds.any fun t => (s.portTiles p).contains t) ≠ []

/-- No window is open but one of the same network port (R534). -/
def noWindow (s : State) (i : CalItem) : Bool :=
  s.service.cal.all fun x => !x.2.window || (calNetPort i).isSome && decide (calNetPort x.1 = calNetPort i)

/-- A window of the item may open now (R480, R534, R538). (DEDUCED, log entry 52) -/
def mayOpen (s : State) (i : CalItem) : Bool :=
  let dark := decide (s.clocks.power = .deep) || decide (s.hub.stage = .linkBringUp)
  let twin := decide (s.hub.stage = .ready) && decide (s.dies.twin.state = .duo) && decide (s.firmware.mcStep = 0) && noWindow s i
  !s.dShed (calDie i) && (match i with
    | .tileLane d p => s.up d && decide (p < 32) &&
        (if s.span then dark || (s.cal i).due else twin && loopUp s p && !loopChanging s p)
    | .netLane d l => s.up d && decide (l < 8) &&
        (if s.span then dark else twin && legsCovered s (netPortNo d (l / 4)) && !bit (s.ptpW 0) (18 + d.num))
    | .ptp d p => s.up d && decide (p < 2) &&
        (if s.span then dark else twin && legsCovered s (netPortNo d p) && !bit (s.ptpW 0) (18 + d.num))
    | .memory d c =>
      match d with
      | .a => s.twin && twin && decide (s.lead = .b) && (s.chan .a c).marked
      | .b => s.twin && twin && decide (s.lead = .a) && (s.chan .b c).marked
      | .hub => false
    | .diode _ => false)

/-- The window of an item opens (R534, R535, R536): for a memory channel of a twin die the shadow is fenced with cause 6.
(DEDUCED, log entry 52) -/
def openWindow (s : State) (i : CalItem) : State :=
  let mark := fun (s : State) => s.modCal i fun c => { c with window := true, results := [], outcome := 0 }
  match i with
  | .memory .a _ => calEvent (mark (fenceDie s .a 6)) i 4
  | .memory .b _ => calEvent (mark (fenceDie s .b 6)) i 4
  | _ =>
    let s1 := calEvent (setPath (mark s) i true) i 4
    match calNetPort i with
    | some p => followGm s (setPortState s1 p 0)
    | none => s1

/-- A tile-link port that resumes recalibrates its hop delays (R535 step 5); a network port listens again. -/
def resumePath (s : State) (i : CalItem) : State :=
  match i with
  | .tileLane d p =>
    let port := diePortNo d p
    s.each (s.tilesAt port) fun s t => startHop s port (s.posOf t)
  | _ =>
    match calNetPort i with
    | some p => if s.netUp p then restartPort s p else s
    | none => s

/-- CALIBRATION_WINDOW (R533 to R536, R538): a window opens, where R534 lets it, or closes. -/
def execCalibrationWindow (item : CalItem) (opening : Bool) (s : State) : Host.Outcome State Fault Refusal :=
  .next <|
    if opening then
      if (s.cal item).window then s
      else if mayOpen s item then openWindow s item
      else if s.dShed (calDie item) then countShed s (calDie item)
      else s
    else if (s.cal item).window then resumePath (closeWindow s item) item else s

/-- A run of the item may take place now: in its window, in the training of its memory, or while its trim is due. -/
def mayRun (s : State) (i : CalItem) : Bool :=
  (s.cal i).window || (match i with
    | .memory d _ => decide (s.hub.stage = .memTrain) || decide (s.clocks.power = .deep) || (match d with
        | .a => !s.dies.a.running
        | .b => !s.dies.b.running
        | .hub => false)
    | .diode _ => (s.cal i).due || decide (s.hub.stage = .dieCheck)
    | _ => false)

/-- A run on a tile-link port sweeps the transmit preset of the adjacent tile by LINKSET (R535). (DEDUCED, log entry 52) -/
def sweep (s : State) (i : CalItem) : State :=
  match i with
  | .tileLane d p => s.each (List.range 8) fun s k => sendLinkset s d p k
  | _ => s

/-- CALIBRATION_RUN (R531, R532, R535): two runs that agree are used; else a third, and the agreeing pair whose figures differ least. -/
def execCalibrationRun (item : CalItem) (run : CalRun) (s : State) : Host.Outcome State Fault Refusal :=
  .next <|
    if !mayRun s item || s.service.keys.held then s
    else
      let s := sweep s item
      let l := (s.cal item).results ++ [run]
      let pair := agreeingPair item l
      if pair.isSome || 3 ≤ l.length then endCal s item l pair
      else s.modCal item fun c => { c with results := l }

/-- DIODE_TRIM (R533): every 60 min a trim falls due. -/
def execDiodeTrim (die : Die3) (s : State) : Host.Outcome State Fault Refusal :=
  .next (s.modCal (.diode die) fun c => { c with due := true, results := [] })

/-! ### DIAG_CAL_READ (R540) -/

/-- The item that a DIAG_CAL_READ names. -/
def reqItem (r : Req) : Option CalItem :=
  let w := r.word 0
  let n := fld w 15 8
  let die3 := fld w 5 4
  let twin : Option DieId := match die3 with
    | 0 => some .a | 1 => some .b | _ => none
  match fld w 3 0 with
  | 0 => if n < 32 then twin.map fun d => .tileLane d n else none
  | 1 => if n < 8 then twin.map fun d => .netLane d n else none
  | 2 =>
    match twin with
    | some d => if n < 32 then some (.memory d.die3 n) else none
    | none => if die3 = 2 && n < 8 then some (.memory .hub n) else none
  | 3 =>
    if n ≠ 0 then none
    else
      match twin with
      | some d => some (.diode d.die3)
      | none => if die3 = 2 then some (.diode .hub) else none
  | 4 => if n < 2 then twin.map fun d => .ptp d n else none
  | _ => none

/-- The VALUE word of an item (R540). -/
def calValue (i : CalItem) (v : List Int) : Word :=
  let n := fun (k : Nat) => (v.getD k 0).toNat
  match i with
  | .tileLane _ _ => put (n 0) 3 0 ||| put (n 1) 4 4 ||| put (n 2) 3 8
  | .netLane _ _ => put (n 0) 3 0 ||| put (n 1) 4 4 ||| put (n 2) 3 8
  | .memory _ _ => put (n 0) 8 0 ||| put (n 1) 8 8 ||| put (n 2) 8 16
  | .diode _ => ofInt (v.getD 0 0)
  | .ptp _ _ => put (n 0) 32 0 ||| put (n 1) 32 32

/-- DIAG_CAL_READ for the common checks (R540). -/
def opDiagCalRead : JcsOp := { opcode := 0x0B30 }
/-- DIAG_CAL_READ (R540). -/
def diagCalReadBody (s : State) (r : Req) : Ans :=
  match reqItem r with
  | none => .badParam s
  | some i =>
    let c := s.cal i
    .ok s [put c.state 2 0 ||| put c.runs 4 4 ||| ((ofInt c.fig1 &&& 0xFFFF#64) <<< 16) ||| put c.fig2 16 32, calValue i c.values,
      BitVec.ofNat 64 c.time, c.cals.setWidth 64 ||| (c.suspects.setWidth 64 <<< 32)]
/-- DIAG_CAL_READ (R540). -/
def execDiagCalRead (r : Req) (s : State) : Host.Outcome State Fault Refusal := .next (jcs opDiagCalRead diagCalReadBody r s)

end Sys2Proof.Machine
end

