-- ==== Sys2Proof/Machine/Boot.lean ====
section
/-! DEFINITION. Resets and bring-up: PKG_RST_N, power, supplies, the boot stages, safe halt (R22, R252, R283, R339, R367, R466, R495
to R504, R513, R543 to R549). -/

namespace Sys2Proof.Machine

/-! ### Resets and supplies (R495, R528, R545 to R549) -/

/-- PKG_RST_N (R495, R548): with a hub trip waiting for its release, the reset is performed at the release. -/
def execPkgRstN (s : State) : Host.Outcome State Fault Refusal :=
  .next (if !s.service.powered || s.thermH.tripped then s else packageReset s)

/-- POWER_ON (R495, R545): every supply is in range and PKG_RST_N is released. (DEDUCED, log entry 23) -/
def execPowerOn (s : State) : Host.Outcome State Fault Refusal :=
  .next <|
    if s.service.powered then s
    else packageReset (s.modService fun v => { v with powered := true, supplyOut := [], resetHeld := false })

/-- POWER_DOWN (R528, R546): every supply falls below its threshold; DONE, OTP_OFF, trips and REFCLK's state are lost.
(DESIGN CHOICE, log entry 17) (DEDUCED, log entry 23) -/
def execPowerDown (s : State) : Host.Outcome State Fault Refusal :=
  .next <|
    if !s.service.powered then s
    else
      let s1 := packageReset s
      { s1 with
        clocks := {}, thermA := {}, thermB := {},
        firmware := { s1.firmware with hubTripped := false },
        service := { keys := { s1.service.keys with done := false, otpOff := false, tap := 1 }, powered := false } }

/-- SUPPLY_OUT_OF_RANGE (R466, R547, R548): an engine rail as R466, another supply of a twin die fatal with CAUSE 0x5, a supply of the
hub or the island a package reset that is held. While a hub trip waits for its release, only the island's supplies reset.
(DEDUCED, log entry 23) -/
def execSupplyOutOfRange (x : Supply) (s : State) : Host.Outcome State Fault Refusal :=
  .next <|
    if !s.service.powered || s.service.supplyOut.contains x then s
    else
      let s1 := s.modService fun v => { v with supplyOut := v.supplyOut ++ [x] }
      match x, supplyDie x with
      | .vddpe d, _ =>
        if (s.therm d.die3).tripped || !(s.die d).running then s1
        else declareFatal ((raise s1 (statusSource d) 5 (put s1.freeWord.toNat 16 0)).drawn) d 5
      | _, some d => declareFatal s1 d 5
      | _, none =>
        if s.thermH.tripped && !islandSupply x then s1
        else
          let s2 := packageReset (s1.modService fun v => { v with resetHeld := true })
          if islandSupply x then s2.modFirmware fun f => { f with hubTripped := false } else s2

/-- SUPPLY_RESTORED (R547): the supply has been in range for 10 ms; the held reset is released once none of its kind is out.
(DEDUCED, log entry 23) -/
def execSupplyRestored (x : Supply) (s : State) : Host.Outcome State Fault Refusal :=
  .next <|
    let s1 := s.modService fun v => { v with supplyOut := v.supplyOut.filter fun y => y ≠ x }
    s1.modService fun v => { v with resetHeld := v.resetHeld && !s1.hubSupplied }

/-! ### Safe halt (R296, R498) -/

/-- The package enters safe halt with a HALT code: no twin die sends anything. -/
def haltPackage (s : State) (code : Nat) : State :=
  setStage ((roleChange (holdDie (holdDie s .a) .b) .halt).modHub fun h => { h with halt := BitVec.ofNat 4 code }) .halted

/-! ### The Primer (R496, R502, R513) -/

/-- A trial never survives a package reset (R502, R513): its slot becomes BAD. -/
def endTrial (s : State) : State :=
  match s.firmware.find .trial with
  | none => s
  | some b =>
    let v := ((s.firmware.image b).map fun x => x.version).getD 0
    s.modFirmware fun f => { f.setSlot b .bad with lostVer := some (v, 3) }

/-- The image in a slot passes its signature check, as the flash gives it now (R502). -/
def slotPasses (s : State) (r : BootResult) (b : Bool) : Bool :=
  (match s.firmware.image b with
    | some x => imagePasses s x
    | none => false) && (if b then r.sigOkB else r.sigOkA)

/-- A LOADED slot that passes. -/
def loadedPasses (s : State) (r : BootResult) (b : Bool) : Bool := decide (s.firmware.slot b = .loaded) && slotPasses s r b

/-- The slot that the Primer boots (R502), and whether it enters TRIAL: the CONFIRMED one, or else a LOADED one. (DEDUCED, log entry 18)
(DEDUCED, log entry 19) -/
def bootSlot (s : State) (r : BootResult) : Option (Bool × Bool) :=
  match s.firmware.find .confirmed with
  | some c => if slotPasses s r c then some (c, false) else if loadedPasses s r (!c) then some (!c, true) else none
  | none => if loadedPasses s r false then some (false, true) else if loadedPasses s r true then some (true, true) else none

/-- STAGE 2 ends (R295, R496, R502): an image runs, or HALT 1. (DEDUCED, log entry 19) -/
def bootImage (s : State) (r : BootResult) : State :=
  match bootSlot s r with
  | none => haltPackage s 1
  | some (b, trial) =>
    setStage (setRunning (if trial then s.modFirmware fun f => f.setSlot b .trial else s) b trial) .memTrain

/-! ### Settings areas (R348, R503, R504) -/

/-- The FORMATs of a settings write (R504): the running image's, and during a trial the CONFIRMED image's too. (DEDUCED, log entry 82) -/
def State.writeFormats (s : State) : List Nat :=
  let old := if (s.firmware.find .trial).isSome then (s.firmware.find .confirmed).bind s.firmware.image else none
  ((s.runImage.toList ++ old.toList).map fun x => x.format).dedup

/-- The records of a settings area as the package now holds them (R503). (DEDUCED, log entry 82) -/
def areaNow (s : State) (aseq : Nat) : SettingsArea :=
  let f := s.firmware
  { (if f.area0.aseq < f.area1.aseq then f.area1 else f.area0) with
    blank := false, valid := true, aseq := aseq, plt := s.plt.table,
    tileMap := s.links.tiles.filterMap fun x =>
      let m := match x.2.mapNext with
        | some y => y
        | none => x.2.map
      m.map fun m => (x.1, some (m.port, m.pos, m.serial)),
    portCfg := (List.range 64).filterMap fun p =>
      let v := (Tbl.get none s.links.portNext p).getD ((s.port p).rate, (s.port p).spread)
      if v = (1, 0) then none else some (p, v),
    timeMode := match s.time.mode with
      | .free => 0 | .ptp => 1 | .ref => 2 | .host => 3,
    timeSnap := s.time.snap, ptpWords := s.time.ptp, refWords := s.time.ref,
    formats := s.writeFormats }

/-- The highest ASEQ of the two areas. (DEDUCED, log entry 82) -/
def topAseq (f : Firmware) : Nat := max f.area0.aseq f.area1.aseq

/-- SETTINGS_AREA_WRITE (R348, R349): a due write of an area ends, checked or failed. (DEDUCED, log entry 82) -/
def execSettingsAreaWrite (area : Nat) (ok : Bool) (s : State) : Host.Outcome State Fault Refusal :=
  .next <|
    if s.plt.writesDue.head? ≠ some area then s
    else
      let s1 := s.modPlt fun p => { p with writesDue := p.writesDue.drop 1 }
      if ok then
        let a := areaNow s (topAseq s.firmware + 1)
        s1.modFirmware fun f => if area = 0 then { f with area0 := a } else { f with area1 := a }
      else raise s1 202 6 (put area 1 0)

/-! ### Training and die check (R451, R496, R497, R503) -/

/-- STAGE 3 ends (R296, R451): the memory sizes, HALT 4 for the hub's memory, HALT 2 for both dies'. (DEDUCED, log entry 20) -/
def bootTrain (s : State) (r : BootResult) : State :=
  let s1 := s.modHub fun h => { h with gibA := r.dieA.gib, gibB := r.dieB.gib, gibH := r.gibH }
  if !r.memH then haltPackage s1 4 else if !r.dieA.trained && !r.dieB.trained then haltPackage s1 2 else setStage s1 .dieCheck

/-- Clusters that fail the full BIST are retired (R497, R539); in each region the first serviceable cluster rests (R25).
(DEDUCED, log entry 25) -/
def bootRetire (s : State) (d : DieId) (failed : List Nat) : State :=
  let s1 := s.each (below 16 fun c => failed.contains c) fun s c => s.modCluster d c fun x => { x with retired := .boot, retTime := s.wall }
  s1.each (List.range 4) fun s r => s.modRegion d r fun x =>
    { x with resting := (List.range 4).find? fun q => !failed.contains (4 * r + q) }

/-- A twin die passes its die check (R432, R451, R464, R481, R497). -/
def diePasses (s : State) (d : DieId) (t : DieTest) : Bool :=
  t.trained && t.alike && decide (-12 ≤ t.voutExp) && decide (t.voutExp ≤ -9) && t.railOk && t.scrimBad.isEmpty && decide (t.badWords = 0) &&
    !(s.therm d.die3).tripped && s.dieSupplied d &&
    (List.range 4).all fun r => decide (2 ≤ (below 4 fun q => !t.failed.contains (4 * r + q)).length)

/-- At first start both areas are blank and receive the factory PLT (R339). -/
def firstStart (s : State) : State :=
  if s.firmware.area0.blank && s.firmware.area1.blank then
    let fresh := fun (n : Nat) => ({ blank := false, valid := true, aseq := n, formats := s.writeFormats } : SettingsArea)
    s.modFirmware fun f => { f with area0 := fresh 1, area1 := fresh 2 }
  else s

/-- The records of a valid area as the running image takes them (R503). -/
def State.readArea (s : State) (a : SettingsArea) : Option SettingsArea :=
  if a.valid then (s.runImage.bind a.formatFor).map a.asFormat else none

/-- The settings taken (R503): of the valid area with the higher ASEQ that holds them in a FORMAT the running image can read.
(DEDUCED, log entry 82) -/
def State.loadArea (s : State) : Option SettingsArea :=
  match s.readArea s.firmware.area0, s.readArea s.firmware.area1 with
  | some a, some b => some (if a.aseq < b.aseq then b else a)
  | some a, none => some a
  | none, b => b

/-- The settings take effect (R226, R244, R339, R503): the PLT, the tile map, the lane rates. (DEDUCED, log entry 82) -/
def loadSettings (s : State) (a : SettingsArea) : State :=
  let s1 := s.modPlt fun p => { p with table := a.plt, inForce := a.plt }
  let s2 := s1.each a.tileMap fun s x => s.modTile x.1 fun t => { t with map := x.2.map fun m => ⟨m.1, m.2.1, m.2.2⟩, mapNext := none }
  s2.each a.portCfg fun s x => s.modPort x.1 fun y => { y with rate := x.2.1, spread := x.2.2 }

/-- In Span mode a die that passed its check runs its own chains. -/
def startSpan (s : State) (d : DieId) (pass : Bool) : State := if pass then startDie s d .span 1 else s

/-- The package mode of the PLT, the arbiter's code, and the roles of the dies (R22, R252, R510). -/
def startRoles (s : State) (a b : Bool) : State :=
  let span := decide (fld (s.pltW 1 0 0) 1 0 = 2)
  let s1 := (s.modHub fun h => { h with mode := if span then .span else .twin }).modFirmware fun f =>
    { f with arbVer := (s.runImage.map fun x => x.arbiter).getD 0 }
  loadScrims (if span then roleChange (startSpan (startSpan s1 .a a) .b b) .span else startDies s1 a b 1)

/-- In Twin mode die B fails where its memory differs in size from die A's (R432). STAGE 4 ends once the first lane reference measurement is
complete (R462, R496): HALT 3 with no die, HALT 5 with no PLT. (DEDUCED, log entry 20) -/
def bootCheck (s : State) (r : BootResult) : State :=
  if !s.clocks.laneSeen then s
  else
    let s1 := firstStart (bootRetire (bootRetire s .a r.dieA.failed) .b r.dieB.failed)
    match s1.loadArea with
    | none => haltPackage s1 5
    | some x =>
      let s2 := loadSettings s1 x
      let a := diePasses s .a r.dieA
      let b := diePasses s .b r.dieB && (decide (fld (s2.pltW 1 0 0) 1 0 = 2) || decide (s.hub.gibB = s.hub.gibA))
      if !a && !b then haltPackage s1 3 else setStage (startRoles s2 a b) .linkBringUp

/-! ### STAGE 6 (R296, R326, R367, R488, R513, R519, R527) -/

/-- The servo mode and the reference settings stored in the settings areas (R367). -/
def startTime (s : State) : State :=
  match s.loadArea with
  | none => s
  | some a =>
    let mode : ServoMode := if a.timeMode = 0 then .free else if a.timeMode = 1 then .ptp else if a.timeMode = 2 then .ref else .host
    let w := wordAt a.refWords 0
    let s1 := s.modTime fun t =>
      { t with mode := mode, snap := a.timeSnap, ptp := a.ptpWords, ref := a.refWords
               refRate := if a.refWords.isEmpty then t.refRate else fld w 8 4
               ppsGranted := bit w 16 }
    let s2 := if mode = .ptp || mode = .ref then toRef s1 .acquire else s1
    s2.each (List.range 4) restartPort

/-- An activated image reaches STAGE 6: its trial of 10 min begins (R513, R519). -/
def startTrial (s : State) : State :=
  if s.hub.unconfirmed && s.firmware.trialAt.isNone then
    raise (s.modFirmware fun f => { f with trialAt := some s.uptime }) 220 3 (s.hub.fwVersion.setWidth 64)
  else s

/-- What the package tells at STAGE 6 of what went before: a trial that a package reset ended, a hub trip, a zeroised key store.
(DEDUCED, log entry 19) -/
def tellPast (s : State) : State :=
  let s1 := match s.firmware.lostVer with
    | some (v, cause) => raise (s.modFirmware fun f => { f with lostVer := none, fallbacks := f.fallbacks + 1 }) 220 5
        (v.setWidth 64 ||| put cause 2 32)
    | none => s
  let s2 := if s1.firmware.hubTripped then raise (s1.modFirmware fun f => { f with hubTripped := false }) 219 5 0 else s1
  if s2.service.keys.zeroed then
    raise (s2.modService fun v => { v with keys := { v.keys with zeroed := false } }) 221 0x10 0
  else s2

/-- A request that NSP held through STAGE 7 is submitted (R325). (DEDUCED, log entry 22) -/
def submitHeld (s : State) (n : Nat) : State :=
  let x := s.nsp n
  match x.frags.flatten with
  | [] => s
  | h :: ws =>
    if x.pendingReq then
      (s.modNsp n fun y => { y with frags := [] }).modHub fun k => { k with accepted := k.accepted ++ [(s.wall, ⟨64 + n, h, ws⟩)] }
    else s

/-- The change of microcode that the running image asks for in Twin mode (R511): with both dies in DUO the shadow is fenced, or waits
mute for a lead that has still to change; a joining die with other microcode restarts. R512's switch has its own command. -/
def startMicrocode (s : State) : State :=
  let mc := s.imageMicrocode
  let sh := s.lead.other
  if !s.twin || s.dies.twin.frozen then s
  else if s.dies.twin.state = .duo then
    if s.microcode sh ≠ mc then setMcStep (fenceDie s sh 6) (if s.microcode s.lead = mc then 0 else 1)
    else if s.microcode s.lead ≠ mc then setMcStep (s.modDie sh fun x => { x with mute := true }) 3
    else s
  else (([DieId.a, DieId.b].filter fun d => s.joining d && decide (s.microcode d ≠ mc)).foldl (fun s d => fenceDie s d 6) s)

/-- The entry to STAGE 6 (R294, R296, R326): long commands that ended in STAGE 7 complete. (DEDUCED, log entry 18) (DEDUCED, log entry 20) -/
def enterReady (s : State) : State :=
  let s1 := setStage (s.modHub fun h =>
    { h with bootMs := BitVec.ofNat 16 (s.uptime / 1000000), reached := true, owed := [] }) .ready
  let s2 := s1.each s.hub.owed fun s x => finishLong s x.1 x.2.1 x.2.2.1 x.2.2.2
  (startTrial s2).each [0, 1] submitHeld

/-! ### STAGE_CHANGE (R496) -/

/-- STAGE_CHANGE (R496 to R498, R502, R503, R510): the stage completes, or fails into STAGE 8. STAGE 0 waits for REFCLK, the supplies and
the key store's sequencer; STAGE 4 for the lane reference measurement. (DEDUCED, log entry 18) (DEDUCED, log entry 20) -/
def execStageChange (b : BootResult) (s : State) : Host.Outcome State Fault Refusal :=
  .next <|
    if s.hub.cpFailed || !s.service.powered || s.service.keys.held then s
    else match s.hub.stage with
    | .reset =>
      if s.clocks.refOk && s.clocks.pllH && !s.service.resetHeld && !s.thermH.tripped then
        ((setStage s .primer).emit (.pin "SVC_RST_N" true)).emit (.pin "OSPI_RESET_N" true)
      else s
    | .primer =>
      let s1 := endTrial (s.modFirmware fun f => f.readHeaders b)
      if (s1.firmware.find .confirmed).isNone && (s1.firmware.find .loaded).isNone then haltPackage s1 1 else setStage s1 .fwLoad
    | .fwLoad => bootImage s b
    | .memTrain => bootTrain s b
    | .dieCheck => bootCheck s b
    | .linkBringUp => tellPast (startTime (enterReady s))
    | .restarting => startMicrocode (enterReady s)
    | _ => s

end Sys2Proof.Machine
end

