-- ==== Sys2Proof/Machine/FwRows.lean ====
section
/-! DEFINITION. Firmware update: FW_LOAD, FW_ACTIVATE, FW_CONFIRM, FW_STATUS_READ, trial and fall-back, the tile firmware relay,
PKG_RESET and PKG_HALT (R501, R502, R509 to R519). -/

namespace Sys2Proof.Machine

/-! ### Images (R501, R502) -/

/-- The bytes [lo, lo + n) of an image as a number. -/
def imageField (l : List Byte) (lo n : Nat) : Nat := ofLeBytes ((l.drop lo).take n)

/-- What R502 asks of an image's key and signature: the digest of PUBKEY is the fuse digest of KEY_INDEX, that key is not revoked, and
SIGNATURE is valid over header bytes 0 to 135 and the body. (DESIGN CHOICE, log entry 11) -/
def imageSigned (l : List Byte) : Bool :=
  let key := imageField l 18 1
  let pub := (l.drop 32).take 97
  decide (key ≤ 3) && decide (Config.sha384 pub = Config.keyDigest key) && !Config.keyRevoked key &&
    Config.ecdsaP384 pub ((l.drop 136).take 96) (Config.sha384 (l.take 136 ++ l.drop 4096))

/-- The image whose bytes these are (R501), where MAGIC, HDR_VER and BODY_LEN are as R501 requires and the length is that of header and
body (R509). (DESIGN CHOICE, log entry 11) -/
def parseImage (l : List Byte) : Option Image :=
  let body := imageField l 8 4
  if 4096 ≤ l.length ∧ imageField l 0 4 = 0x4A415249 ∧ imageField l 4 2 = 1 ∧ 4096 + body = l.length ∧ body ≤ 16777216 - 4096 then
    some { version := BitVec.ofNat 32 (imageField l 12 4), svn := imageField l 16 2, format := imageField l 20 2,
           formatPrev := imageField l 22 2, signed := imageSigned l, microcode := Config.imageMicrocode l,
           arbiter := Config.imageArbiter l, length := l.length }
  else none

/-- The bytes of the staging buffer in hub memory (R507). -/
def stagingBytes : Nat := 33554432

/-! ### FW_LOAD (R509) -/

/-- A slot write or an activation is in progress. -/
def State.fwBusy (s : State) : Bool := s.firmware.job.isSome
/-- An image is in TRIAL. -/
def State.inTrial (s : State) : Bool := (s.firmware.find .trial).isSome

/-- FW_LOAD for the common checks (R320, R509). -/
def opFwLoad : JcsOp := { opcode := 0x0C01, long := true, service := true }
/-- FW_LOAD (R509): the slot is WRITING until the write ends. (DEDUCED, log entry 21) -/
def fwLoadBody (s : State) (r : Req) : Ans :=
  let b := bit (r.word 0) 0
  let length := fld (r.word 0) 63 32
  if length = 0 then .ok s
  else if length = 0xFFFFFFFF then .badLen s
  else if (s.hub.fwValid && decide (s.hub.fwSlotB = b)) || (s.inTrial && decide (s.firmware.slot b = .confirmed)) then .conflict s
  else if s.fwBusy || s.firmware.relay.isSome then .busy s
  else
    let image := (parseImage (memRead (s.nsp (r.src - 64)).staging 0 (min length stagingBytes))).filter (imagePasses s)
    if image.isNone then { Ans.badParam s with trunc := decide (stagingBytes < length) }
    else
      let s1 := s.modFirmware fun f => f.setSlot b .writing
      .accepted (s1.modFirmware fun f =>
        { f with imageA := if b then f.imageA else image, imageB := if b then image else f.imageB
                 job := some (.load r.who (s.nextLong r.who) b) })
/-- FW_LOAD (R509). (DEDUCED, log entry 18) -/
def execFwLoad (r : Req) (s : State) : Host.Outcome State Fault Refusal := .next (jcs opFwLoad fwLoadBody r s)

/-- FW_LOAD_COMPLETE (R509, R518): the slot has been written and read back; LOADED when the digests agree, BAD otherwise.
(DEDUCED, log entry 21) -/
def execFwLoadComplete (compareOk : Bool) (s : State) : Host.Outcome State Fault Refusal :=
  .next <|
    match s.firmware.job with
    | some (.load src id b) =>
      if s.hub.cpFailed then s
      else
        finishLong (s.modFirmware fun f => { f.setSlot b (if compareOk then .loaded else .bad) with job := none }) src id
          (if compareOk then 0 else 4)
    | _ => s

/-! ### FW_ACTIVATE (R510, R513) -/

/-- A change of microcode is in progress (R515). -/
def State.mcBusy (s : State) : Bool :=
  decide (s.firmware.mcStep ≠ 0) || [DieId.a, DieId.b].any fun d => (s.up d || s.joining d) && decide (s.microcode d ≠ s.imageMicrocode)

/-- The settings format of the target suits the running image (R510 check 5). (DEDUCED, log entry 82) -/
def settingsFit (s : State) (x : Image) : Bool :=
  match s.runImage with
  | some y => decide (x.formatPrev ≤ y.format) && decide (y.format ≤ x.format)
  | none => false

/-- FW_ACTIVATE for the common checks (R320, R510). -/
def opFwActivate : JcsOp := { opcode := 0x0C02, long := true, service := true }
/-- FW_ACTIVATE (R510): the control processor restarts into the target; the CONFIRMED slot during a trial is a fall-back.
(DEDUCED, log entry 21) -/
def fwActivateBody (s : State) (r : Req) : Ans :=
  let b := bit (r.word 0) 0
  let st := s.firmware.slot b
  let busy := s.fwBusy || ((List.range 4).any fun c => (s.canvas c).change.isSome) || decide (s.dies.twin.state = .copy) ||
    decide (s.dies.twin.state = .verify) || s.clocks.change.isSome
  if s.hub.stage ≠ .ready then .notReady s
  else if s.inTrial && decide (st ≠ .confirmed) then .conflict s
  else if !(decide (st = .loaded) || (s.inTrial && decide (st = .confirmed))) then .badParam s
  else if busy then .busy s
  else
    match s.firmware.image b with
    | none => .badParam s
    | some x =>
      if (st = .loaded && !settingsFit s x) || !imagePasses s x then .badParam s
      else
        let s1 := s.modFirmware fun f => { f with job := some (.activate r.who (s.nextLong r.who) b), activations := f.activations + 1 }
        if st = .confirmed then .accepted (beginFallBack s1 2)
        else .accepted (enterRestart (setRunning (s1.modFirmware fun f => { f.setSlot b .trial with trialAt := none }) b true))
/-- FW_ACTIVATE (R510). -/
def execFwActivate (r : Req) (s : State) : Host.Outcome State Fault Refusal := .next (jcs opFwActivate fwActivateBody r s)

/-- FW_ACTIVATE_COMPLETE (R510): the restart and any change of microcode have ended. The manual gives no status for an activation that
a fall-back undid: a free value (DESIGN CHOICE, log entry 41). -/
def execFwActivateComplete (s : State) : Host.Outcome State Fault Refusal :=
  .next <|
    match s.firmware.job with
    | some (.activate src id b) =>
      if s.hub.cpFailed || decide (s.hub.stage ≠ .ready) || s.mcBusy || s.firmware.fallBack.isSome then s
      else
        let s1 := s.modFirmware fun f => { f with job := none }
        if s.hub.fwSlotB = b then finishLong s1 src id 0 else (finishLong s1 src id (Config.freeNat s.free)).drawn
    | _ => s

/-! ### Trial and fall-back (R513) -/

/-- The trial falls back now, or after the step of a change of microcode in progress (R511 to R513). (DEDUCED, log entry 19) -/
def fallBackFor (s : State) (cause : Nat) : State :=
  if s.firmware.mcStep ≠ 0 || switchWaits s then s.modFirmware fun f => { f with fallBack := some (f.fallBack.getD cause) }
  else beginFallBack s cause

/-- A trial runs, and a CONFIRMED slot stands behind it. (DEDUCED, log entry 19) -/
def State.canFallBack (s : State) : Bool := s.firmware.trialAt.isSome && (s.firmware.find .confirmed).isSome

/-- The trial time left in ms (R513, R515). -/
def trialLeft (s : State) : Nat :=
  match s.firmware.trialAt with
  | some t => ceilDiv (t + 600000000000 - s.uptime) 1000000
  | none => 0

/-- TRIAL_EXPIRY (R513): 10 min after the entry to STAGE 6. (DEDUCED, log entry 19) -/
def execTrialExpiry (s : State) : Host.Outcome State Fault Refusal :=
  .next (if s.hub.cpFailed || decide (s.hub.stage ≠ .ready) || !s.canFallBack || decide (trialLeft s ≠ 0) then s else fallBackFor s 0)

/-- CP_WATCHDOG_EXPIRY (R33, R495, R513): a fall-back during a trial, otherwise the hub has failed. Before STAGE 2 no control processor
runs. (DEDUCED, log entry 19) -/
def execCpWatchdogExpiry (s : State) : Host.Outcome State Fault Refusal :=
  .next <|
    if s.hub.cpFailed || decide (s.hub.stage = .reset) || decide (s.hub.stage = .primer) then s
    else if s.canFallBack && decide (s.hub.stage ≠ .halted) then fallBackFor (dropRequests s) 1
    else failCp s

/-! ### FW_CONFIRM, FW_STATUS_READ (R514, R515) -/

/-- FW_CONFIRM for the common checks (R320, R514). -/
def opFwConfirm : JcsOp := { opcode := 0x0C03, service := true }
/-- FW_CONFIRM (R504, R514, R519): `fuseOk` says that a write of the security version fuse succeeds. -/
def fwConfirmBody (fuseOk : Bool) (s : State) (_ : Req) : Ans :=
  match s.firmware.find .trial with
  | none => .badParam s
  | some b =>
    if s.mcBusy then .busy s
    else
      let x := s.firmware.image b
      let svn := match x with
        | some y => y.svn
        | none => 0
      let version := match x with
        | some y => y.version
        | none => 0
      let keep := fun (l : List Nat) => l.filter fun n => x.any fun y => n = y.format
      let other := if s.firmware.slot (!b) = .confirmed then .loaded else s.firmware.slot (!b)
      let s1 := s.modFirmware fun f =>
        { (if b then f.header other .confirmed else f.header .confirmed other) with
          trialAt := none, fallBack := none
          area0 := { f.area0 with formats := keep f.area0.formats }, area1 := { f.area1 with formats := keep f.area1.formats } }
      let s2 := s1.modHub fun h => { h with unconfirmed := false }
      let s3 :=
        if svn ≤ s.firmware.svnFuse then s2
        else if fuseOk then s2.modFirmware fun f => { f with svnFuse := svn }
        else raise s2 220 7 0
      .ok (raise s3 220 4 (version.setWidth 64))
/-- FW_CONFIRM (R514). -/
def execFwConfirm (r : Req) (fuseOk : Bool) (s : State) : Host.Outcome State Fault Refusal := .next (jcs opFwConfirm (fwConfirmBody fuseOk) r s)

/-- FW_STATUS_READ for the common checks (R320, R515). -/
def opFwStatusRead : JcsOp := { opcode := 0x0C04, service := true, zeros := fun _ _ => 5 }
/-- FW_STATUS_READ (R515). (DEDUCED, log entry 21) -/
def fwStatusReadBody (s : State) (_ : Req) : Ans :=
  let f := s.firmware
  .ok s [put (slotCode f.stateA) 3 0 ||| put (slotCode f.stateB) 3 4 ||| putB s.hub.fwSlotB 8 ||| putB s.hub.unconfirmed 9 |||
      putB s.mcBusy 10 ||| put f.svnFuse 16 16,
    f.head.verA.setWidth 64 ||| (f.head.verB.setWidth 64 <<< 32), put (trialLeft s) 32 0 ||| put f.mcStep 4 32, f.arbVer.setWidth 64,
    f.activations.setWidth 64 ||| (f.fallbacks.setWidth 64 <<< 32)]
/-- FW_STATUS_READ (R515). -/
def execFwStatusRead (r : Req) (s : State) : Host.Outcome State Fault Refusal := .next (jcs opFwStatusRead fwStatusReadBody r s)

/-! ### TILE_FW_RELAY (R247, R517, R518) -/

/-- The tiles that a TILE_FW_RELAY names. -/
def relayTiles (r : Req) : List Nat := below 512 fun t => bit (r.word (2 + t / 64)) (t % 64)

/-- A tile can be relayed to: assigned, and its port UP. -/
def relayable (s : State) (t : Nat) : Bool :=
  (s.tile t).assigned && (s.portsTo t).any fun p => decide ((s.port p).rx = .up) || decide ((s.port p).rx = .upQuiet)

/-- The time that staging an image takes on a port, at 5 % of its data rate (R34, R247), in ns: for the most tiles of one port. -/
def stagingTime (s : State) (tiles : List Nat) (length : Nat) : Nat :=
  (s.portsOf tiles).foldl (fun m p =>
    let n := (tiles.filter fun t => s.portsOf [t] = [p]).length
    max m (n * length * 8 * 1000000000 * 20 * 66 * 72 / (laneBps (s.port p).rate * 64 * 64))) 0

/-- TILE_FW_RELAY for the common checks (R320, R517). -/
def opTileFwRelay : JcsOp := { opcode := 0x0C10, long := true, service := true }
/-- TILE_FW_RELAY (R517): a relay in progress is BUSY too (DEDUCED, log entry 42). -/
def tileFwRelayBody (s : State) (r : Req) : Ans :=
  let length := fld (r.word 0) 31 0
  let apply := bit (r.word 0) 32
  let tiles := relayTiles r
  let time := (r.word 1).toNat
  if length = 0 then .ok s
  else if length = 0xFFFFFFFF then .badLen s
  else if 33546240 < length then .badParam s
  else if !tiles.all (relayable s) then .conflict s
  else if apply && decide (time < s.reqTime + stagingTime s tiles length + 1000000000) then .badParam s
  else if s.fwBusy || s.firmware.relay.isSome then .busy s
  else
    let x : Relay :=
      { src := r.who, id := s.nextLong r.who, image := bytesWords (memRead (s.nsp (r.src - 64)).staging 0 length)
        applyTime := if apply then time else 0, waiting := tiles, tiles := tiles, failed := [] }
    .accepted ((s.portsOf tiles).foldl relayNext (s.modFirmware fun f => { f with relay := some x }))
/-- TILE_FW_RELAY (R517). -/
def execTileFwRelay (r : Req) (s : State) : Host.Outcome State Fault Refusal := .next (jcs opTileFwRelay tileFwRelayBody r s)

/-- TILE_FW_RELAY_COMPLETE (R245, R247, R517, R519): every tile has reported the new version, or those that have not have failed. Tiles
still to stage are staged first. -/
def execTileFwRelayComplete (s : State) : Host.Outcome State Fault Refusal :=
  .next <|
    match s.firmware.relay with
    | none => s
    | some x =>
      if s.hub.cpFailed then s
      else if !x.waiting.isEmpty then (s.portsOf x.waiting).foldl relayNext s
      else if (s.links.txns.any fun y => y.inProgress && decide (y.kind = .fwImage)) || (!x.tiles.isEmpty && decide (s.wall < x.applyTime)) then s
      else
        let failed := x.failed ++ x.tiles
        let s1 := s.modFirmware fun f => { f with relay := none }
        let s2 := s1.each failed fun s t => raise (tileEvent s t 6 (putB true 16)) 220 6 (put t 9 0)
        finishLong s2 x.src x.id (if failed.isEmpty then 0 else 8)

/-! ### PKG_RESET, PKG_HALT (R516) -/

/-- A request of this opcode is taken now and passes the checks of R317: the command acts. -/
def takes (op : JcsOp) (r : Req) (s : State) : Bool :=
  decide (r.opcode = op.opcode) && (match takeRequest s r with
    | some s1 => decide (r.len ≠ 0xFFFF) && entitled op s1 r
    | none => false)

/-- OK, with no payload and no effect of its own. -/
def okBody (s : State) (_ : Req) : Ans := .ok s

/-- PKG_RESET for the common checks (R320, R516). -/
def opPkgReset : JcsOp := { opcode := 0x0C20, service := true }
/-- PKG_RESET (R495, R516): the response, and 10 ms later the package reset, which falls with a clock tick (`idleTick`). -/
def execPkgReset (r : Req) (s : State) : Host.Outcome State Fault Refusal :=
  .next <|
    let s1 := jcs opPkgReset okBody r s
    if takes opPkgReset r s then s1.modHub fun h => { h with resetAt := some (s.uptime + 10000000) } else s1

/-- PKG_HALT for the common checks (R320, R516). -/
def opPkgHalt : JcsOp := { opcode := 0x0C21, service := true }
/-- PKG_HALT (R516): the response, then both dies stop and STAGE 8 with HALT 6. -/
def execPkgHalt (r : Req) (s : State) : Host.Outcome State Fault Refusal :=
  .next <|
    let s1 := jcs opPkgHalt okBody r s
    if takes opPkgHalt r s then haltPackage s1 6 else s1

end Sys2Proof.Machine
end

