-- ==== Sys2Proof/Machine/Host.lean ====
section
/-! DEFINITION. The host interface: SYS_INFO_READ, CMD_READ, SYS_NOP, unknown opcodes, mailbox and register writes, MSI-X,
resets and configuration requests (10, 11). -/

namespace Sys2Proof.Machine

/-! ### Commands (R324, R329) -/

/-- SYS_INFO_READ for the common checks (R329). -/
def opSysInfoRead : JcsOp := { opcode := 0x0101 }

/-- SYS_INFO_READ (R329). -/
def sysInfoReadBody (s : State) (_r : Req) : Ans :=
  .ok s [Config.packageSerial,
    put s.hub.gibA 8 0 ||| put s.hub.gibB 8 8 ||| put s.hub.gibH 8 16 ||| put s.shownMode 2 24 |||
      (s.hub.straps.setWidth 64 <<< 26),
    fwVersionWord s.hub, 1]

/-- SYS_INFO_READ (R329). -/
def execSysInfoRead (r : Req) (s : State) : Host.Outcome State Fault Refusal := .next (jcs opSysInfoRead sysInfoReadBody r s)

/-- CMD_READ for the common checks (R324). -/
def opCmdRead : JcsOp := { opcode := 0x0102 }

/-- CMD_READ (R314, R324): the latest of the sender's 16 most recent long commands with the TAG. -/
def cmdReadBody (s : State) (r : Req) : Ans :=
  match ((s.func r.who).longs.take 16).find? fun l => l.tag.toNat = fld (r.word 0) 15 0 with
  | none => .ok s [0, 0, 0]
  | some l =>
    .ok s [l.opcode.setWidth 64 ||| (l.status.setWidth 64 <<< 16) ||| putB l.trunc 24 ||| putB true 25 ||| putB l.done 26,
      BitVec.ofNat 64 l.accepted, BitVec.ofNat 64 l.completed]

/-- CMD_READ (R324). -/
def execCmdRead (r : Req) (s : State) : Host.Outcome State Fault Refusal := .next (jcs opCmdRead cmdReadBody r s)

/-- SYS_NOP for the common checks (R329). -/
def opSysNop : JcsOp := { opcode := 0x0103 }

/-- SYS_NOP (R329): the request's payload unchanged. -/
def sysNopBody (s : State) (r : Req) : Ans := .ok s r.words

/-- SYS_NOP (R329). -/
def execSysNop (r : Req) (s : State) : Host.Outcome State Fault Refusal := .next (jcs opSysNop sysNopBody r s)

/-- The opcodes of R328. -/
def knownOpcodes : List Nat :=
  [0x0101, 0x0102, 0x0103, 0x0110, 0x0111, 0x0140, 0x0141, 0x0142, 0x0201, 0x0202, 0x0203, 0x0204, 0x0205, 0x0210, 0x0211,
   0x0212, 0x0220, 0x0230, 0x0301, 0x0302, 0x0303, 0x0401, 0x0402, 0x0403, 0x0404, 0x0405, 0x0406, 0x0407] ++
  [0x0501, 0x0502, 0x0503, 0x0504, 0x0505, 0x0506, 0x0507, 0x0508, 0x0601, 0x0602, 0x0603, 0x0604, 0x0701, 0x0702, 0x0703,
   0x0704, 0x0801, 0x0802, 0x0803, 0x0804, 0x0805, 0x0806, 0x0820, 0x0821, 0x0822, 0x0823, 0x0824, 0x0825, 0x0826] ++
  [0x0901, 0x0902, 0x0903, 0x0904, 0x0905, 0x0A01, 0x0A02, 0x0A03, 0x0A10, 0x0A11, 0x0A12, 0x0A20, 0x0B01, 0x0B02, 0x0B03,
   0x0B10, 0x0B20, 0x0B30, 0x0B31, 0x0C01, 0x0C02, 0x0C03, 0x0C04, 0x0C10, 0x0C20, 0x0C21]

/-- The answer to an unknown opcode (R317 checks 1 to 3). -/
def unknownAnswer (s : State) (r : Req) : Ans :=
  if r.len = 0xFFFF then .badLen s else { Ans.badParam s with trunc := decide (511 < r.len) }

/-- UNKNOWN_OPCODE (R317, R328). -/
def execUnknownOpcode (r : Req) (s : State) : Host.Outcome State Fault Refusal :=
  .next <|
    if knownOpcodes.contains r.opcode then s
    else
      match takeRequest s r with
      | none => s
      | some s1 => giveAnswer r (unknownAnswer s1 r)

/-! ### Writes into BAR0 and BAR4 (R292, R299, R304, R309, R311) -/

/-- MBOX_SUBMIT (R299, R303): a write of `value` to HUB_MBOX_DOORBELL; without SUBMIT it does nothing. -/
def execMboxSubmit (f : Nat) (value : Word) (s : State) : Host.Outcome State Fault Refusal :=
  .next (if bit value 0 then mboxSubmit s f else s)

/-- REQUEST_MAILBOX_WRITE (R303, R304): a write into the request mailbox at BAR0 `offset`. -/
def execRequestMailboxWrite (f offset size : Nat) (value : Word) (s : State) : Host.Outcome State Fault Refusal :=
  .next (if 0x1000 ≤ offset ∧ offset < 0x2000 then mailboxWrite s f offset size value else s)

/-- MSIX_UNMASK (R309). -/
def execMsixUnmask (f : Nat) (vector : Option Nat) (s : State) : Host.Outcome State Fault Refusal :=
  .next (if s.inUse f then unmask s f vector else s)

/-- A doorbell write of BAR0 that arrives as a plain register write (R305): one access, which counts one violation at most (R351). -/
def ringWrite (s : State) (f offset size : Nat) (v : Word) : State :=
  let i := (offset - 0x4000) / 4
  let l := if size = 8 then [(i, v.setWidth 32), (i + 1, (v >>> 32).setWidth 32)] else [(i, v.setWidth 32)]
  if s.hub.stage ≠ .ready then s
  else
    let s1 := s.each (l.filter fun x => x.1 < s.ringCount f) fun s x => s.modRing (s.globalRing f x.1) fun r => ringRung r x.2
    if l.any fun x => decide (s.ringCount f ≤ x.1) then violate s1 f else s1

/-- A BAR0 offset of a register that only reads (R293). (DEDUCED, log entry 84) -/
def readOnly (offset : Nat) : Bool :=
  decide (offset < 0x20) || (0x108 ≤ offset && offset < 0x110) || (0x2000 ≤ offset && offset < 0x3000)

/-- REGISTER_WRITE (R8, R292, R293, R309, R311): a write of `size` bytes at `offset` of a BAR. (DEDUCED, log entry 84) -/
def execRegisterWrite (f bar offset size : Nat) (value : Word) (s : State) : Host.Outcome State Fault Refusal :=
  .next <|
    if !s.inUse f then s
    else if !sizeOk offset size then violate s f
    else if bar = 0 then
      if readOnly offset then s
      else if 0x100 ≤ offset ∧ offset < 0x108 then (if offset % 8 = 0 && bit value 0 then mboxSubmit s f else s)
      else if 0x1000 ≤ offset ∧ offset < 0x2000 then mailboxWrite s f offset size value
      else if 0x4000 ≤ offset ∧ offset < 0x8000 then ringWrite s f offset size value
      else violate s f
    else if bar = 4 then
      if offset < 0x400 then msixWrite s f offset size value
      else if 0x2000 ≤ offset ∧ offset < 0x2008 then s
      else violate s f
    else s

/-! ### Resets, links, configuration (R284, R286 to R290, R309, R310) -/

/-- FUNCTION_LEVEL_RESET (R290): of PF0 it resets every function of the link. -/
def execFunctionLevelReset (f : Nat) (s : State) : Host.Outcome State Fault Refusal :=
  .next <|
    if !s.inUse f then s
    else if f % 16 = 0 then resetLinkFunctions s (f / 16)
    else beginDue (resetFunction s f)

/-- LINK_RESET (R284): PERST asserted, link down or hot reset. -/
def execLinkReset (link : Nat) (perst : Bool) (s : State) : Host.Outcome State Fault Refusal :=
  .next ((resetLinkFunctions s link).modLink link fun x => { x with state := .down, perst := perst })

/-- LINK_TRAINING_START (R283, R286): PERST is released, REFCLK is stable and STAGE is at least 1. The table has no row for
the end of training: the link is up with it (DESIGN CHOICE, log entry 15). -/
def execLinkTrainingStart (link : Nat) (s : State) : Host.Outcome State Fault Refusal :=
  .next <|
    let s1 := s.modLink link fun x => { x with perst := false }
    if decide (link < linkCount s.hub.straps) && s.clocks.refOk && decide (s.hub.stage ≠ .reset) then
      s1.modLink link fun x => { x with state := .up }
    else s1

/-- A number rounded into a range. -/
def clampNat (lo hi v : Nat) : Nat := max lo (min hi v)

/-- A BAR's base as its register holds it: aligned to its size (R291). (PRESUMED, log entry 110) -/
def barBase (bar : Nat) (base : Word) : Word := base &&& ~~~BitVec.ofNat 64 (barSize bar - 1)

/-- CONFIGURATION_REQUEST (R286 to R289, R291, R309, R310): a configuration write, or a read that answers a field, whenever the link is up.
MSI-X causes of before it is enabled never fire (R309). (PRESUMED, log entry 110) -/
def execConfigurationRequest (f : Nat) (w : CfgWrite) (s : State) : Host.Outcome State Fault Refusal :=
  .next <|
    if (s.link (f / 16)).state ≠ .up then s
    else
      match w with
      | .read field => s.emit (.cfgData f (if s.inUse f then configField s f field else none))
      | .ariHierarchy on => if f % 16 = 0 then s.modLink (f / 16) fun x => { x with ari := on } else s
      | .aspmControl l1 => if s.inUse f then s.modFunc f fun x => { x with aspmL1 := l1 } else s
      | .barBase bar base =>
        if f % 16 = 0 && decide (barSize bar ≠ 0) then s.modFunc f fun x => { x with bars := Tbl.set 0 x.bars bar (barBase bar base) } else s
      | .vfBarBase bar base =>
        if f % 16 = 0 && decide (barSize bar ≠ 0) then
          s.modLink (f / 16) fun x => { x with vfBars := Tbl.set 0 x.vfBars bar (barBase bar base) }
        else s
      | .numVfs n => if f % 16 = 0 && !(s.link (f / 16)).vfOn then s.modLink (f / 16) fun x => { x with numVfs := min n 15 } else s
      | .vfEnable on => if f % 16 = 0 then s.modLink (f / 16) fun x => { x with vfOn := on } else s
      | .msixEnable on =>
        if s.inUse f then s.modFunc f fun x => { x with msixEnabled := on, msixPending := if x.msixEnabled then x.msixPending else [] } else s
      | .msixMask on =>
        if !s.inUse f then s
        else if on then s.modFunc f fun x => { x with msixMasked := true }
        else unmask s f none
      | .dState d3 => if s.inUse f then s.modFunc f fun x => { x with d3 := d3 } else s
      | .completionTimeout us => if s.inUse f then s.modFunc f fun x => { x with timeoutUs := us } else s
      | .maxPayload n => if s.inUse f then s.modFunc f fun x => { x with maxPayload := clampNat 128 512 n } else s
      | .maxRead n => if s.inUse f then s.modFunc f fun x => { x with maxRead := clampNat 128 4096 n } else s
      | .advisory => s

/-- HUB_BEAT (R296, R297): BEAT rises from STAGE 2 on, unless the control processor has failed. -/
def execHubBeat (s : State) : Host.Outcome State Fault Refusal :=
  .next <|
    if s.hub.cpFailed || decide (s.hub.stage = .reset) || decide (s.hub.stage = .primer) then s
    else s.modHub fun h => { h with beat := h.beat + 1 }

/-- CP_FAILURE (R33, R297). -/
def execCpFailure (s : State) : Host.Outcome State Fault Refusal := .next (failCp s)

end Sys2Proof.Machine
end

