-- ==== Sys2Proof/Machine/Thermal.lean ====
section
/-! DEFINITION. Temperature bands, the budget ladder, hardware trips and their commands (18). Temperatures are in 1/16 °C,
powers in 0.1 W. -/

namespace Sys2Proof.Machine

/-! ### Bands (R477 to R479, R493, R494) -/

/-- The band of a place in the order. -/
def bandOf (n : Nat) : Band := match n with
  | 0 => .cold | 1 => .norm | 2 => .warm | 3 => .hot | _ => .crit
/-- The hottest band whose boundary a reading reaches (R478). -/
def bandReached (t : Int) : Nat :=
  if 1680 ≤ t then 4 else if 1520 ≤ t then 3 else if 1360 ≤ t then 2 else if 0 ≤ t then 1 else 0
/-- A reading lies below the lower boundary of a band (R478). (DEDUCED, log entry 58) -/
def bandLeft (b : Nat) (t : Int) : Bool :=
  match b with
  | 1 => decide (t < -32) | 2 => decide (t < 1328) | 3 => decide (t < 1488) | 4 => decide (t < 1648) | _ => false

/-- The thermal event source of a twin die, E219 for the hub (R493, R494). -/
def thermSource (d : Die3) : Nat := match d with
  | .a => 257 | .b => 641 | .hub => 219

/-- A raw reading with the diode trim, an offset in 0.01 °C (R475, R530, R537). (DEDUCED, log entry 58) -/
def State.trimmed (s : State) (d : Die3) (raw : Int) : Int := raw + roundDivI (16 * (s.therm d).trim) 100
/-- The frame counter of a die's thermal events (R493): that of the lowest-numbered running canvas; 0 in the hub's (R494). -/
def thermFrame (s : State) (d : Die3) : Nat := if d = .hub then 0 else s.lowFrame

/-- A memory channel of a die reports refresh rate code 5 (R445, R478). -/
def memHot (s : State) (d : Die3) : Bool := d ≠ .hub && (List.range 32).any fun c => (s.chan d c).rate = 5

/-- The die enters band `b` (R478, R479, R493): counted, told, its preset set pending to the next flip boundary or applied
at once, its pause and target changed. -/
def enterBand (s : State) (d : Die3) (b : Band) : State :=
  let old := (s.therm d).band
  if b = old then s
  else
    let hotter := decide (bandCode old < bandCode b)
    let set := bandSet b
    let idle := s.lowCanvas.isNone
    let s1 := s.modTherm d fun x =>
      { x with band := b, towards := none, set := if idle then set else x.set,
               pause := if b = .crit then 255 else if b = .hot then x.pause else 0,
               hotIn := if b = .hot then x.hotIn + 1 else x.hotIn, critIn := if b = .crit then x.critIn + 1 else x.critIn }
    bandActs (raise s1 (thermSource d) 1 (put (bandCode b) 3 0 ||| putB hotter 3) (thermFrame s1 d)) d

/-- The band judged from a plausible reading (R478): CRIT on one sample, a hotter or cooler band on the second. (DEDUCED, log entry 58) -/
def judgeBand (s : State) (d : Die3) (t : Int) : State :=
  let x := s.therm d
  let cur := bandCode x.band
  let r := bandReached t
  let floor := if memHot s d then 3 else 0
  let want := if cur < r then r else if bandLeft cur t then max floor (cur - 1) else cur
  if r = 4 then enterBand s d .crit
  else if cur < floor then enterBand s d (bandOf floor)
  else if want = cur then s.modTherm d fun x => { x with towards := none }
  else
    match x.towards with
    | some b =>
      let both := if cur < want then min want (bandCode b) else want
      if (cur < want && cur < bandCode b) || (want < cur && bandCode b < cur) then enterBand s d (bandOf both)
      else s.modTherm d fun x => { x with towards := some (bandOf want) }
    | none => s.modTherm d fun x => { x with towards := some (bandOf want) }

/-- A reading is implausible (R477): outside −40 to 150 °C, or more than 20 °C from the same path's previous reading of at
most 1 ms ago. -/
def implausible (last : Option (Int × Nat)) (t : Int) (now : Nat) : Bool :=
  decide (t < -640) || decide (2400 < t) ||
    match last with
    | some (u, at_) => decide (now - at_ ≤ 1000000) && decide (320 < (t - u).natAbs)
    | none => false

/-- A reading of a path is checked for plausibility and, where the path judges, moves the band (R477, R478). -/
def takeReading (s : State) (d : Die3) (t : Int) (bad judges : Bool) : State :=
  if bad then
    let s1 := s.modTherm d fun x => { x with fault := true, okSince := none }
    enterBand (raise s1 (thermSource d) 4 (put (BitVec.ofInt 16 t).toNat 16 0) (thermFrame s d)) d .crit
  else
    let x := s.therm d
    if x.fault then
      match x.okSince with
      | none => s.modTherm d fun x => { x with okSince := some s.uptime }
      | some t0 =>
        if t0 + 10000000000 ≤ s.uptime then
          let s1 := s.modTherm d fun x => { x with fault := false, okSince := none }
          if judges then judgeBand s1 d t else s1
        else s
    else if judges then judgeBand s d t
    else s

/-- The hub reads a tripped twin die's diode through the second sense path (R475, R488): it looks for 85 °C alone.
(DEDUCED, log entry 58) -/
def readTripped (s : State) (d : Die3) (t : Int) : State :=
  s.modTherm d fun x => { x with coolSince := if t < 1360 then some (x.coolSince.getD s.uptime) else none }

/-- SLOW_ROUND_SAMPLE (R475 to R478): every 10 ms; it judges the band in COLD and NORM. `raw` is before the diode trim.
(DEDUCED, log entry 58) -/
def execSlowRoundSample (die : Die3) (raw : Int) (s : State) : Host.Outcome State Fault Refusal :=
  .next <|
    let reading := s.trimmed die raw
    if s.hub.cpFailed then s
    else if (s.therm die).tripped then readTripped s die reading
    else
      let x := s.therm die
      let bad := implausible x.lastSlow reading s.uptime
      let s1 := s.modTherm die fun x =>
        { x with now := reading, max := some (match x.max with
          | some m => max m reading
          | none => reading), lastSlow := some (reading, s.uptime) }
      takeReading s1 die reading bad (decide (bandCode x.band ≤ 1))

/-- The thermal pause of a throttle-path sample in HOT (R485). -/
def hotPause (t : Int) : Nat := min 255 (max 0 ((t - 1520) * 51 / 32)).toNat

/-- THROTTLE_SAMPLE (R476, R478, R485): the path is idle in COLD and NORM, and in a tripped die. -/
def execThrottleSample (die : Die3) (raw : Int) (s : State) : Host.Outcome State Fault Refusal :=
  .next <|
    let reading := s.trimmed die raw
    if s.hub.cpFailed || decide (bandCode (s.therm die).band ≤ 1) || (s.therm die).tripped then s
    else
      let bad := implausible (s.therm die).lastFast reading s.uptime
      let s1 := takeReading (s.modTherm die fun x => { x with lastFast := some (reading, s.uptime) }) die reading bad true
      if (s1.therm die).band = .hot && !bad then s1.modTherm die fun x => { x with pause := hotPause reading } else s1

/-! ### The budget ladder (R481 to R484, R494) -/

/-- BUDGET of the PLT in 0.1 W (R337). -/
def State.budgetLimit (s : State) : Nat := 10 * fld (s.pltW 1 0 0) 15 8
/-- P_MEAN: the mean of the last ten samples (R481), rounded down. -/
def State.pMean (s : State) : Nat := s.budget.hist.sum / max 1 s.budget.hist.length

/-- The rung that a climb from `r` reaches: rungs that would change nothing are passed (R483). (DEDUCED, log entry 58) -/
def climbTo (s : State) : Nat → Nat → Nat
  | 0, r => r
  | n + 1, r =>
    if 13 ≤ r then 13
    else if r + 1 < 13 && restriction s r .a = restriction s (r + 1) .a && restriction s r .b = restriction s (r + 1) .b &&
        shedAt s r .hub = shedAt s (r + 1) .hub then climbTo s n (r + 1)
    else r + 1

/-- One step of the ladder (R483). (DEDUCED, log entry 58) -/
def moveLadder (s : State) : State :=
  let b := s.budget
  let limit := s.budgetLimit
  let p := b.pA + b.pB + b.pHub
  if limit < p then
    let r := climbTo s 13 b.rung
    if r = b.rung then s
    else
      raise (s.modBudget fun b => { b with rung := r, climbAt := some s.uptime, climbs := b.climbs + BitVec.ofNat 32 (r - b.rung) })
        219 2 (put r 4 0 ||| putB true 4)
  else if decide (10 * b.hist.sum < 9 * limit * b.hist.length) && decide (0 < b.rung) &&
      (match b.climbAt with
        | some t => decide (t + 10000000 ≤ s.uptime)
        | none => true) then
    raise (s.modBudget fun b => { b with rung := b.rung - 1 }) 219 2 (put (b.rung - 1) 4 0)
  else s

/-- The power of a twin die in 0.1 W (R481): READ_VOUT × READ_IOUT of its engine rail, LINEAR11 being Y × 2^N with N in bits [15:11] and Y in
bits [10:0], both signed, and what the activity model adds. (DEDUCED, log entry 117) -/
def railPower (r : RailPower) : Nat :=
  let n := (r.iout.extractLsb' 11 5).toInt
  let y := (r.iout.extractLsb' 0 11).toInt
  let p := 10 * (r.vout.toNat : Int) * y
  (if 0 ≤ n then p * 2 ^ n.toNat / 4096 else p / (4096 * 2 ^ (-n).toNat)).toNat + r.model

/-- The time that passes is eligible time of a die (R524). -/
def eligible (s : State) (d : DieId) : Bool :=
  decide (s.clocks.power = .run) && decide (s.hub.stage = .ready) && !s.dShed d.die3 && decide ((s.therm d.die3).now < 1600)

/-- One millisecond of the time counters of R480, R491, R492 and R524. -/
def countMs (s : State) : State :=
  let o := s.oShed .a || s.oShed .b
  let d := s.dShed .a || s.dShed .b
  let s1 := s.modBudget fun b =>
    { b with oMs := if o then b.oMs + 1 else b.oMs, dMs := if d then b.dMs + 1 else b.dMs }
  let s2 := s1.each [Die3.a, Die3.b, Die3.hub] fun s x => s.modTherm x fun t =>
    { t with hotMs := if 3 ≤ bandCode t.band then t.hotMs + 1 else t.hotMs,
             shedMs := if s.dShed x then t.shedMs + 1 else t.shedMs }
  s2.each [DieId.a, DieId.b] fun s x =>
    let s := if eligible s x then s.modTherm x.die3 fun t => { t with eligMs := t.eligMs + 1 } else s
    let t := s.therm x.die3
    if decide (3600000 ≤ t.shedMs) && !t.shedTold then
      raise (s.modTherm x.die3 fun t => { t with shedTold := true }) (thermSource x.die3) 5 0 s.lowFrame
    else s

/-- BUDGET_TICK (R481 to R484, R494): package power is measured, the ladder moves, and targets follow. The firmware runs
the scheduler, so a failed control processor leaves the last rung (R489). (DEDUCED, log entry 117) -/
def execBudgetTick (railA railB : RailPower) (pHub : Nat) (s : State) : Host.Outcome State Fault Refusal :=
  .next <|
    if s.hub.cpFailed then s
    else
      let pA := railPower railA
      let pB := railPower railB
      let s1 := s.modBudget fun b => { b with pA := pA, pB := pB, pHub := pHub, hist := ((pA + pB + pHub) :: b.hist).take 10 }
      let above := decide (s1.budgetLimit * s1.budget.hist.length < s1.budget.hist.sum)
      let s2 := s1.modBudget fun b => { b with overMs := if above then b.overMs + 1 else 0 }
      let s3 := if s2.budget.overMs = 10 then raise s2 219 3 (put s2.pMean 16 0) else s2
      countMs (setTargets (moveLadder s3))

/-- SYS_POWER_READ for the common checks (R491). -/
def opSysPowerRead : JcsOp := { opcode := 0x0111 }
/-- SYS_POWER_READ (R491). -/
def sysPowerReadBody (s : State) (_r : Req) : Ans :=
  let b := s.budget
  .ok s [put (b.pA + b.pB + b.pHub) 16 0 ||| put s.pMean 16 16 ||| put (s.budgetLimit / 10) 8 32 ||| put b.rung 4 40 |||
      put s.clocks.opA.op 2 44 ||| put s.clocks.opB.op 2 46 ||| putB (s.oShed .a || s.oShed .b) 48 |||
      putB (s.dShed .a || s.dShed .b) 49 ||| put (budgetPause b.rung) 8 56,
    put b.pA 16 0 ||| put b.pB 16 16 ||| put b.pHub 16 32,
    b.repeats.setWidth 64 ||| (b.climbs.setWidth 64 <<< 32),
    b.dMs.setWidth 64 ||| (b.oMs.setWidth 64 <<< 32)]
/-- SYS_POWER_READ (R491). -/
def execSysPowerRead (r : Req) (s : State) : Host.Outcome State Fault Refusal := .next (jcs opSysPowerRead sysPowerReadBody r s)

/-- DIAG_THERMAL_READ for the common checks (R492). -/
def opDiagThermalRead : JcsOp := { opcode := 0x0B20 }
/-- DIAG_THERMAL_READ (R492). -/
def diagThermalReadBody (s : State) (r : Req) : Ans :=
  let read := fun (d : Die3) =>
    let x := s.therm d
    [put (BitVec.ofInt 16 x.now).toNat 16 0 ||| put (BitVec.ofInt 16 (x.max.getD x.now)).toNat 16 16 ||| put (bandCode x.band) 3 32 |||
        putB x.tripped 35 ||| putB x.fault 36 ||| put x.set 2 37 ||| put x.pause 8 40,
      x.hotIn.setWidth 64 ||| (x.critIn.setWidth 64 <<< 32), x.trips.setWidth 64 ||| (x.hotMs.setWidth 64 <<< 32)]
  match fld (r.word 0) 1 0 with
  | 0 => .ok s (read .a)
  | 1 => .ok s (read .b)
  | 2 => .ok s (read .hub)
  | _ => .badParam s
/-- DIAG_THERMAL_READ (R492). -/
def execDiagThermalRead (r : Req) (s : State) : Host.Outcome State Fault Refusal :=
  .next (jcs opDiagThermalRead diagThermalReadBody r s)

end Sys2Proof.Machine
end

