-- ==== Sys2Proof/Machine/Memory.lean ====
section
/-! DEFINITION. Memory channels: refresh, rate reports, tracking, errors, failure, patrol scrub and DIAG_MEM_READ
(R442 to R455). -/

namespace Sys2Proof.Machine

/-- The event source of a memory port (R454). -/
def memSource (d : Die3) (port : Nat) : Nat :=
  match d with
  | .a => 258 + port | .b => 642 + port | .hub => 218

/-- A memory event (R454): on the hub, data bit [63] is set for MH1. -/
def memEvent (s : State) (d : Die3) (ch code : Nat) (data : Word) : State :=
  raise s (memSource d (ch / 4)) code (data ||| putB (d = .hub && ch / 4 = 1) 63)

/-- The memory of a die is refreshed and read by its controllers: the die runs and the memory is not in self-refresh. -/
def memServed (s : State) (d : Die3) : Bool :=
  !(s.memMode d).asleep &&
    (match d with
      | .a => s.dies.a.running
      | .b => s.dies.b.running
      | .hub => !s.hub.cpFailed)

/-- A channel has failed (R449): event 0x08; a twin die declares itself fatal with CAUSE 0x8, the hub's processor halts. -/
def failChannel (s : State) (d : Die3) (ch cause : Nat) : State :=
  if (s.chan d ch).failed then s
  else
    let s1 := memEvent (s.modChan d ch fun x => { x with failed := true }) d ch 8 (put ch 2 0 ||| put cause 2 8)
    match d with
    | .a => declareFatal s1 .a 8
    | .b => declareFatal s1 .b 8
    | .hub => failCp s1

/-- The raw capacity of a die's memory in GiB; of a die whose memory has not been trained nothing is said, and the largest is taken.
(DESIGN CHOICE, log entry 94) -/
def State.rawGib (s : State) (d : Die3) : Nat :=
  let g := match d with
    | .a => s.hub.gibA
    | .b => s.hub.gibB
    | .hub => s.hub.gibH
  if g = 0 then (if d = .hub then 32 else 128) else g

/-- One thing a channel sees (R438 to R440, R450, R454): a request that the maps place elsewhere is not this channel's; a channel that has its
tracking pass still to make serves none; an RT request served late is counted, with event 0x04. -/
def memStep (die : Die3) (channel : Nat) (s : State) : MemStep → State
  | .arrive r =>
    let p := placeOf r.segment (s.rawGib die) (if die = .hub then 8 else 32) r.offset
    if p.1 = channel then s.modChan die channel fun x => x.arrive p.2 r else s
  | .slot now activate =>
    if s.awaitsTracking die channel then s else
    let y := (s.chan die channel).slot now activate
    let s1 := s.modChan die channel fun _ => y.1
    match y.2 with
    | some c =>
      memEvent (s1.modChan die channel fun x => { x with rtMiss := x.rtMiss + 1 }) die channel 4
        (put channel 2 0 ||| put (if c = .rtA then 0 else 1) 2 8)
    | none => s1

/-- A refresh interval falls due (R441 to R444): performed, or postponed while an RT request is queued; at 8 owed a forced burst pays
all at once. -/
def Chan.refresh (x : Chan) : Chan :=
  if !x.rtQueued then x.closeRows
  else
    let n := x.owed + 1
    let y := { x with owed := n, owedMax := max x.owedMax n, postponed := x.postponed + 1 }
    if 8 ≤ n then { y.closeRows with owed := 0, forced := x.forced + 1 } else y

/-- REFRESH_DUE (R439 to R444, R455): what the channel saw since its last interval, then the interval. (DEDUCED, log entries 59 and
100) -/
def execRefreshDue (die : Die3) (channel : Nat) (traffic : List MemStep) (s : State) : Host.Outcome State Fault Refusal :=
  .next (if !memServed s die then s else (traffic.foldl (memStep die channel) s).modChan die channel Chan.refresh)

/-- MR4_READ (R445, R478): a new refresh rate; at code 5, event 0x05, and a twin die is judged at least HOT. -/
def execMr4Read (die : Die3) (channel : Nat) (code : Nat) (s : State) : Host.Outcome State Fault Refusal :=
  .next <|
    if !memServed s die || decide (5 < code) then s
    else
      let old := (s.chan die channel).rate
      let s1 := s.modChan die channel fun x => { x with rate := code }
      if code = 5 && old ≠ 5 then
        let s2 := memEvent s1 die channel 5 (put channel 2 0)
        if die ≠ .hub && decide (bandCode (s2.therm die).band < 3) then enterBand s2 die .hot else s2
      else s1

/-- TRACKING_READ (R449, R450, R452): drift since training in ps. At 4 ps since the last adjustment new delays are applied in a
refresh issued at once; beyond 20 ps the channel is marked for recalibration; beyond 40 ps it has failed. -/
def execTrackingRead (die : Die3) (channel : Nat) (drift : Int) (s : State) : Host.Outcome State Fault Refusal :=
  .next <|
    if !memServed s die || (s.chan die channel).failed then s
    else
      let s0 := s.modClocks fun c => { c with memExits := c.memExits.map fun x => if x.1 = die then (x.1, channel :: x.2) else x }
      let s1 := s0.modChan die channel fun x =>
        let y := { x with drift := drift }
        if 4 ≤ (drift - x.adjusted).natAbs then { y.closeRows with adjusted := drift, tracks := x.tracks + 1, owed := x.owed - 1 } else y
      let s2 :=
        if decide (20 < drift.natAbs) && !(s1.chan die channel).marked then
          memEvent ((s1.modChan die channel fun x => { x with marked := true }).modCal (.memory die channel) fun c =>
            { c with state := 3, due := true }) die channel 9 (put channel 2 0)
        else s1
      if 40 < drift.natAbs then failChannel s2 die channel 2 else s2

/-- The data of events 0x01 to 0x03 and 0x07 (R454): `line` is the line address and segment of bits [39:6]. -/
def lineData (ch line : Nat) : Word := put ch 2 0 ||| put line 34 6

/-- At most one event per second for a port (R454). -/
def secondPassed (last : Option Nat) (now : Nat) : Bool :=
  match last with
  | some t => decide (t + 1000000000 ≤ now)
  | none => true

/-- A line is weak (R447): counted, and event 0x07. -/
def weakLine (s : State) (d : Die3) (ch line : Nat) : State :=
  if (s.chan d ch).weakLines.contains line then s
  else
    let p := ch / 4 * 4
    let s1 := s.modChan d ch fun x => { x with weakLines := line :: x.weakLines }
    if secondPassed (s1.chan d p).told7 s.uptime then
      memEvent (s1.modChan d p fun x => { x with told7 := some s.uptime }) d ch 7 (lineData ch line)
    else s1

/-- `n` words of a line were corrected (R447, R448): counted, told; a line corrected thrice within 1 h or in two consecutive patrol
passes is weak; 16 corrections within 1 h make the full pass hourly. -/
def singleError (s : State) (d : Die3) (ch line n : Nat) (patrol : Bool) : State :=
  let p := ch / 4 * 4
  let seen := fun (l : List Nat) => if l.contains line then l else line :: l
  let s1 := s.modChan d ch fun x =>
    let hits := (line, s.uptime, n) :: x.hits.filter fun h => decide (s.uptime ≤ h.2.1 + 3600000000000)
    { x with corrected := x.corrected + BitVec.ofNat 32 n, hits := hits,
             hourly := x.hourly || decide (16 ≤ (hits.map fun h => h.2.2).sum),
             passErrs := if x.fullOpen then x.passErrs + n else x.passErrs, recErrs := if x.recOpen then x.recErrs + n else x.recErrs,
             passLines := if patrol && x.fullOpen then seen x.passLines else x.passLines,
             recLines := if patrol && x.recOpen then seen x.recLines else x.recLines }
  let s2 :=
    if secondPassed (s1.chan d p).told1 s.uptime then
      memEvent (s1.modChan d p fun x => { x with told1 := some s.uptime }) d ch 1 (lineData ch line)
    else s1
  let x := s2.chan d ch
  let again := (x.fullOpen && x.lastLines.contains line) || (x.recOpen && x.lastRec.contains line)
  if decide (3 ≤ (x.hits.filter fun h => h.1 = line).length) || (patrol && again) then weakLine s2 d ch line else s2

/-- What the damaged data leads to (R447): a record line stays poisoned until repaired, lost data of S0 makes a twin die
fatal. Pixel data withholds its region when that region is computed. -/
def damage (s : State) (d : Die3) (what : MemData) : State :=
  match d, what with
  | .a, .record tile line => s.poisonRecord .a tile line
  | .b, .record tile line => s.poisonRecord .b tile line
  | .a, .s0 false => declareFatal s .a 8
  | .b, .s0 false => declareFatal s .b 8
  | _, _ => s

/-- A poisoned word is a recorded error of a twin die (R268). (DEDUCED, log entry 59) -/
def poisonError (s : State) (d : Die3) : State :=
  match d with
  | .a => recordError s .a .poison
  | .b => recordError s .b .poison
  | .hub => s

/-- A line is written back, corrected or with its poison (R447), unless a write to its block waits: the requester's write wins (R455). -/
def Chan.writeBack (x : Chan) (line : Nat) (r : LineRead) : Chan :=
  let waits := x.queued.any fun q => q.2.req.write.isSome && decide (q.2.req.block = line / 8)
  if (r.fixed = 0 && r.bad = 0) || waits then x.readCheck (line / 8) else (x.readCheck (line / 8)).setLine line r.back

/-- Words of a line are poisoned (R447, R454, R268): counted, told with `code`, and what the damaged data leads to. -/
def poisonLine (s : State) (d : Die3) (ch line n code : Nat) (what : MemData) : State :=
  damage (poisonError (memEvent (s.modChan d ch fun x => { x with poisoned := x.poisoned + BitVec.ofNat 32 n }) d ch code (lineData ch line)) d)
    d what

/-- MEMORY_READ_ERROR (R434 to R437, R447, R449): a requester or patrol scrub reads a line; the memory returns the line of the read's
source with bits flipped, and the device code judges it. (DEDUCED, log entry 59) (DEDUCED, log entry 100) -/
def execMemoryReadError (die : Die3) (channel : Nat) (line : Nat) (read : PinRead) (what : MemData) (patrol : Bool) (s : State) :
    Host.Outcome State Fault Refusal :=
  .next <|
    if !memServed s die then s
    else
      let r := judgeLine line ((s.chan die channel).returned read.source read.flips)
      let s1 := s.modChan die channel fun x => x.writeBack line r
      if r.stamp then
        let s2 := poisonLine (s1.modChan die channel fun x =>
          { x with stamps := x.stamps + 1, stampAt := s.uptime :: x.stampAt.filter fun t => decide (s.uptime ≤ t + 1000000) })
          die channel line r.bad 3 what
        if 4 < (s2.chan die channel).stampAt.length then failChannel s2 die channel 1 else s2
      else
        let s2 := if 0 < r.fixed then singleError s1 die channel line r.fixed patrol else s1
        if 0 < r.bad then poisonLine s2 die channel line r.bad 2 what else s2

/-- CHANNEL_NO_DATA (R449). -/
def execChannelNoData (die : Die3) (channel : Nat) (s : State) : Host.Outcome State Fault Refusal :=
  .next (if memServed s die then failChannel s die channel 0 else s)

/-! ### DIAG_MEM_READ (R453) -/

/-- The maps of segments S0 to S7 (R433): MAP1, MAP2 for S1 to S6, MAP3. -/
def mapsWord : Word := put 1 2 32 ||| orW ((List.range 6).map fun i => put 2 2 (2 * (i + 1) + 32)) ||| put 3 2 46

/-- DIAG_MEM_READ for the common checks (R453). -/
def opDiagMemRead : JcsOp := { opcode := 0x0B10 }
/-- DIAG_MEM_READ (R453). -/
def diagMemReadBody (s : State) (r : Req) : Ans :=
  let die := fld (r.word 0) 1 0
  let port := fld (r.word 0) 5 2
  let read := fun (d : Die3) =>
    let x := s.chan d (port * 4 + fld (r.word 0) 7 6)
    [x.corrected.setWidth 64 ||| (x.poisoned.setWidth 64 <<< 32), x.stamps.setWidth 64 ||| (x.rtMiss.setWidth 64 <<< 32),
      put x.owedMax 4 0 ||| put x.owed 4 4 ||| put x.rate 3 8 ||| (x.forced.setWidth 64 <<< 16) ||| (x.postponed.setWidth 64 <<< 32),
      put x.margins.1 8 0 ||| put x.margins.2.1 8 8 ||| put x.margins.2.2 8 16 ||| putB x.suspect 24 ||| putB x.failed 25 |||
        (x.tracks.setWidth 64 <<< 32),
      x.fullPasses.setWidth 64 ||| (x.recPasses.setWidth 64 <<< 32), put x.weakLines.length 32 0 ||| mapsWord]
  if die = 3 || (die = 2 && 1 < port) || 7 < port then .badParam s
  else .ok s (read (if die = 0 then .a else if die = 1 then .b else .hub))
/-- DIAG_MEM_READ (R453). -/
def execDiagMemRead (r : Req) (s : State) : Host.Outcome State Fault Refusal := .next (jcs opDiagMemRead diagMemReadBody r s)

end Sys2Proof.Machine
end

