-- ==== Sys2Proof/Machine/PltRows.lean ====
section
/-! DEFINITION. PLT_CONFIRM (R344, R345, R349, R553). -/

namespace Sys2Proof.Machine

/-- PLT_CONFIRM (R344, R345, R349): a confirmed change may let tiles in that were held back (R553). -/
def pltConfirmBody (s : State) (r : Req) : Ans :=
  match s.plt.proposal with
  | none => .badParam s
  | some p =>
    if fld (r.word 0) 15 0 ≠ p.pid.toNat then .badParam s
    else if p.proposer = r.who then .conflict s
    else if p.expiry < s.reqTime then { status := 7, state := lapseProposal s 0 }
    else
      let l := (parseEdits (fld (wordAt p.edits 0) 7 0) (p.edits.drop 1)).getD []
      let new := pltSet s.plt.table l
      let who := put r.who 7 24
      let s1 := s.modPlt fun t => { t with proposal := none }
      if !tableValid s new then { status := 4, state := raise s1 202 5 (p.pid.setWidth 64 ||| who) }
      else if !handsKept s new then .conflict s
      else .ok (raise (rejudge (applyConfirmed s1 l)) 202 2 (pidWord p.pid p.proposer ||| who)) [p.pid.setWidth 64]

/-- PLT_CONFIRM (R345). -/
def execPltConfirm (r : Req) (s : State) : Host.Outcome State Fault Refusal := .next (jcs opPltConfirm pltConfirmBody r s)

end Sys2Proof.Machine
end

