-- ==== Sys2Proof/Machine/Scrub.lean ====
section
/-! DEFINITION. Patrol scrub (R129, R448, R454, R480). -/

namespace Sys2Proof.Machine

/-- PATROL_SCRUB_PASS (R448, R454, R480): a full or a record pass starts or completes; while class D is shed none starts, and one under way
is paused.
(DESIGN CHOICE, log entry 91) -/
def execPatrolScrubPass (die : Die3) (channel : Nat) (records starting : Bool) (s : State) : Host.Outcome State Fault Refusal :=
  .next <|
    let x := s.chan die channel
    let isOpen := if records then x.recOpen else x.fullOpen
    if !memServed s die || isOpen = starting then s
    else if s.dShed die then countShed s die
    else if starting then
      s.modChan die channel fun x =>
        if records then { x with recOpen := true, recErrs := 0, recLines := [] } else { x with fullOpen := true, passErrs := 0, passLines := [] }
    else
      let n := if records then x.recErrs else x.passErrs
      let s1 := s.modChan die channel fun x =>
        if records then { x with recOpen := false, recPasses := x.recPasses + 1, lastRec := x.recLines, recLines := [] }
        else { x with fullOpen := false, fullPasses := x.fullPasses + 1, lastLines := x.passLines, passLines := [],
                      hourly := x.hourly && decide (n ≠ 0) }
      let s2 := match die with
        | .a => if records then patrolHashes s1 .a else s1
        | .b => if records then patrolHashes s1 .b else s1
        | .hub => s1
      memEvent s2 die channel 6 (putB records 0 ||| put n 32 16)

end Sys2Proof.Machine
end

