-- ==== Sys2Proof/Machine/Service.lean ====
section
/-! DEFINITION. The service port's sessions and messages, CLK_OBS, the test access port and the key store (R325, R344, R347, R470,
R505 to R508, R526 to R529). -/

namespace Sys2Proof.Machine

/-! ### Sessions (R505, R506) -/

/-- The service port is served (R325, R498): at STAGE 6, 7 and 8, while the control processor or the Primer runs.
(DEDUCED, log entry 22) -/
def State.nspServed (s : State) : Bool :=
  !s.hub.cpFailed && !s.service.keys.held &&
    (decide (s.hub.stage = .ready) || decide (s.hub.stage = .restarting) || decide (s.hub.stage = .halted))

/-- The peer's certificate is one that R506 accepts; none is while the fuse read path is disabled (R528). (DEDUCED, log entry 22) -/
def certOk (s : State) (c : Cert) : Bool :=
  !s.service.keys.otpOff && (match c with
    | .ownerAnchor k => decide (k < s.service.keys.anchors.length)
    | .serviceRoot => s.service.keys.anchors.isEmpty
    | .other => false)

/-- The session number that a new session takes: the one named when it is free, or else the other. (DEDUCED, log entry 22) -/
def freeSession (s : State) (n : Nat) : Nat := if (s.nsp n).isOpen then (if n = 0 then 1 else 0) else (if n = 0 then 0 else 1)

/-- NSP_HANDSHAKE (R506, R519): a session opens, or the handshake is refused. (DEDUCED, log entry 22) -/
def execNspHandshake (session : Nat) (c : Cert) (suiteOk : Bool) (s : State) : Host.Outcome State Fault Refusal :=
  .next <|
    let full := (s.nsp 0).isOpen && (s.nsp 1).isOpen
    if !s.nspServed then s
    else if full || !certOk s c || !suiteOk then raise s 220 8 (putB (!certOk s c) 0 ||| putB full 1)
    else
      let n := freeSession s session
      raise (s.modNsp n fun _ => { isOpen := true, lastAt := s.uptime }) 220 2 (put n 1 1)

/-- A session ends (R344, R347, R506, R507): its buffers are cleared, its requests are gone, and a proposal it made lapses.
(DEDUCED, log entry 22) -/
def closeSession (s : State) (n : Nat) : State :=
  if !(s.nsp n).isOpen then s
  else
    let s1 := (s.modNsp n fun _ => {}).modHub fun h => { h with accepted := h.accepted.filter fun x => x.2.src ≠ 64 + n }
    let s2 := match s1.plt.proposal with
      | some p => if p.session = some n then lapseProposal s1 1 else s1
      | none => s1
    beginDue (raise s2 220 2 (putB true 0 ||| put n 1 1))

/-- NSP_SESSION_TIMEOUT (R506): 30 s without a valid datagram. -/
def execNspSessionTimeout (session : Nat) (s : State) : Host.Outcome State Fault Refusal :=
  .next (if s.hub.cpFailed || decide (s.uptime < (s.nsp session).lastAt + 30000000000) then s else closeSession s session)
/-- NSP_SESSION_CLOSE (R506): the peer closes the session. -/
def execNspSessionClose (session : Nat) (s : State) : Host.Outcome State Fault Refusal :=
  .next (if s.hub.cpFailed then s else closeSession s session)

/-- A valid datagram of an open session arrives now. -/
def touch (s : State) (n : Nat) : State := s.modNsp n fun x => { x with lastAt := s.uptime }
/-- The session is open and the service port served. -/
def State.nspOpen (s : State) (n : Nat) : Bool := decide (n < 2) && s.nspServed && (s.nsp n).isOpen

/-- NSP_KEEPALIVE (R507). -/
def execNspKeepalive (session : Nat) (s : State) : Host.Outcome State Fault Refusal :=
  .next (if s.nspOpen session then touch s session else s)

/-! ### JCS requests (R507) -/

/-- A whole JCS request has arrived (R316, R325, R507): submitted, or held by NSP through STAGE 7. (DEDUCED, log entry 22) -/
def submitNsp (s : State) (n : Nat) (nseq : BitVec 16) (words : List Word) : State :=
  match words with
  | [] => s.modNsp n fun x => { x with frags := [] }
  | h :: ws =>
    let s1 := s.modNsp n fun x => { x with frags := [], pendingReq := true, nseq := nseq }
    if s.hub.stage = .restarting then s1.modNsp n fun x => { x with frags := [words] }
    else s1.modHub fun k => { k with accepted := k.accepted ++ [(s.wall, ⟨64 + n, h, ws⟩)] }

/-- A fragment of a JCS request (R507): in order and within 1 s of fragment 0, every one but the last of 1,288 bytes. One that repeats
fragment 0 discards the request; a fragment 0 of another NSEQ begins another. -/
def takeFragment (s : State) (n : Nat) (header : Word) (payload : List Word) : State :=
  let x := s.nsp n
  let frag := fld header 11 8
  let more := bit header 12
  let nseq : BitVec 16 := BitVec.ofNat 16 (fld header 31 16)
  let sized := decide (fld header 63 32 = 8 * payload.length) && decide (payload.length ≤ 161) && (!more || decide (payload.length = 161))
  let follows := (decide (frag = 0) && (x.frags.isEmpty || decide (x.fragSeq ≠ nseq))) ||
    (decide (frag = x.frags.length) && decide (frag < 4) && decide (x.fragSeq = nseq) && decide (s.uptime ≤ x.fragAt + 1000000000))
  let before := if frag = 0 then [] else x.frags
  if !sized || !follows then s.modNsp n fun y => { y with frags := [] }
  else if more then
    s.modNsp n fun y => { y with frags := before ++ [payload], fragSeq := nseq, fragAt := if frag = 0 then s.uptime else y.fragAt }
  else submitNsp s n nseq (before ++ [payload]).flatten

/-- NSP_JCS_REQUEST (R325, R507): an NSP message with its header; another TYPE is no JCS request. A second request while one is
outstanding is discarded. -/
def execNspJcsRequest (session : Nat) (header : Word) (payload : List Word) (s : State) : Host.Outcome State Fault Refusal :=
  .next <|
    if !s.nspOpen session || fld header 7 0 ≠ 1 then s
    else if (s.nsp session).pendingReq then touch s session
    else takeFragment (touch s session) session header payload

/-- NSP_REASSEMBLY_TIMEOUT (R507): 1 s after fragment 0 the fragments are not complete, and the request is discarded. -/
def execNspReassemblyTimeout (session : Nat) (s : State) : Host.Outcome State Fault Refusal :=
  .next (if (s.nsp session).pendingReq || decide (s.uptime ≤ (s.nsp session).fragAt + 1000000000) then s
    else s.modNsp session fun x => { x with frags := [] })

/-- NSP_DATA (R507): 1 to 1,024 bytes into the staging buffer; those past its end are discarded. -/
def execNspData (session offset : Nat) (bytes : List Byte) (s : State) : Host.Outcome State Fault Refusal :=
  .next <|
    if !s.nspOpen session || bytes.isEmpty || 1024 < bytes.length then s
    else (touch s session).modNsp session fun x => { x with staging := memWrite x.staging offset (bytes.take (stagingBytes - offset)) }

/-! ### Register access and CLK_OBS (R467, R468, R470, R508) -/

/-- The gates of a die, in the order of R468. (DESIGN CHOICE, log entry 24) -/
def dieGates (die : Nat) : List GateId :=
  let twin := fun (d : DieId) =>
    ((List.range 16).map fun c => GateId.cluster d c) ++ ((List.range 4).map fun r => GateId.regionDma d r) ++
      ((List.range 4).map fun r => GateId.scrim d r) ++ ((List.range 32).map fun p => GateId.port d p) ++
      ((List.range 2).map fun p => GateId.net d p) ++ (List.range 8).map fun p => GateId.mem d.die3 p
  if die = 1 then twin .a
  else if die = 2 then twin .b
  else [.mem .hub 0, .mem .hub 1, .codec] ++ (List.range 8).map fun n => GateId.sap n

/-- A gate's register (R467), with the enables that the firmware loads (R468). (DESIGN CHOICE, log entry 40) -/
def gateWord (s : State) (g : GateId) : Word :=
  let x := s.gate g
  putB (gateRuns s g .run) 0 ||| putB (gateRuns s g .sleep) 1 ||| putB (gateRuns s g .deep) 2 ||| putB (gateOpen s g) 3 |||
    putB x.pending 4 ||| (x.drops.setWidth 64 <<< 16)

/-- The register that the die register space holds at an address: its number, in the hub 0 for CLK_OBS and then the gates. The manual
does not give the addresses (DESIGN CHOICE, log entry 40). -/
def registerWord (s : State) (die addr : Nat) : Word :=
  let n := Config.registerIndex die addr
  if die = 0 ∧ n = 0 then s.clocks.obs
  else
    match (dieGates die)[n - 1]? with
    | some g => if n = 0 then Config.freeWord s.free else gateWord s g
    | none => Config.freeWord s.free

/-- The register response (R508), under the request's NSEQ (R507). -/
def nspRegister (s : State) (n : Nat) (nseq : BitVec 16) (status : Nat) (value : Word) : State :=
  nspSend s n 7 nseq [put status 8 0, value]

/-- NSP_REGISTER_READ (R508). (DESIGN CHOICE, log entry 40) -/
def execNspRegisterRead (session : Nat) (nseq : BitVec 16) (die addr : Nat) (s : State) : Host.Outcome State Fault Refusal :=
  .next <|
    if !s.nspOpen session then s
    else if 2 < die then nspRegister (touch s session) session nseq 4 0
    else (nspRegister (touch s session) session nseq 0 (registerWord s die addr)).drawn

/-- The frequency of an observed clock in kHz (R456, R458, R459, R463); the lane reference's is not stated. -/
def obsClock (s : State) (sel die : Nat) : Nat :=
  let pe := fun (d : DieId) => match (s.opState d).op with
    | 0 => 400000 | 1 => 800000 | 2 => 1200000 | _ => 1600000
  match sel with
  | 0 => 100000
  | 1 => if die = 1 then pe .a else if die = 2 then pe .b else 0
  | 2 => 800000 | 3 => 800000 | 4 => 800000 | 5 => 3200000 | 6 => 400000 | 7 => 400000
  | 8 => Config.laneReferenceKhz
  | 9 => 25000 | 10 => 1600000 | 11 => 1200000 | _ => 800000

/-- CLK_OBS after a write (R11, R470): fields with a reserved encoding stay, and so do SEL, DIE and DIV when the ball would carry more
than 200 MHz, also where EN is 0 and nothing leaves it. (DEDUCED, log entry 22) (DESIGN CHOICE, log entry 44)
(DESIGN CHOICE, log entry 105) -/
def obsAfter (s : State) (v : Word) : Word :=
  let old := s.clocks.obs
  let sel := if 13 ≤ fld v 3 0 then fld old 3 0 else fld v 3 0
  let die := if fld v 5 4 = 3 then fld old 5 4 else fld v 5 4
  let div := fld v 15 6
  let en := putB (bit v 16) 16
  if 200000 * (div + 1) < obsClock s sel die then (old &&& 0xFFFF#64) ||| en
  else put sel 4 0 ||| put die 2 4 ||| put div 10 6 ||| en

/-- NSP_REGISTER_WRITE (R470, R508): CLK_OBS alone, granted to the first session that asks until it lets go of the ball.
(DESIGN CHOICE, log entry 40) (DESIGN CHOICE, log entry 44) -/
def execNspRegisterWrite (session : Nat) (nseq : BitVec 16) (die addr : Nat) (value : Word) (s : State) : Host.Outcome State Fault Refusal :=
  .next <|
    if !s.nspOpen session then s
    else
      let s1 := touch s session
      if die ≠ 0 || Config.registerIndex 0 addr ≠ 0 then nspRegister s1 session nseq 4 0
      else if s.clocks.obsOwner.isSome && decide (s.clocks.obsOwner ≠ some session) then nspRegister s1 session nseq 2 s.clocks.obs
      else
        let w := obsAfter s value
        nspRegister (s1.modClocks fun c => { c with obs := w, obsOwner := if bit w 16 then some session else none }) session nseq 0 w

/-! ### Owner anchors (R506) -/

/-- ANCHOR (R506): one owner-anchor digest of SHA-384 is fused; there is room for four, and none is removed. -/
def execAnchor (session : Nat) (digest : List Byte) (s : State) : Host.Outcome State Fault Refusal :=
  .next <|
    if !s.nspOpen session then s
    else
      let s1 := touch s session
      if digest.length = 48 && decide (s.service.keys.anchors.length < 4) && !s.service.keys.otpOff then
        s1.modService fun v => { v with keys := { v.keys with anchors := v.keys.anchors ++ [digest] } }
      else s1

/-! ### The test access port (R526 to R529) -/

/-- The instruction register holds `code`, and the selected data register's value can be shifted out. (DEDUCED, log entry 45) -/
def selectTap (s : State) (code : BitVec 8) (register : BitVec 32) : State :=
  (s.modService fun v => { v with keys := { v.keys with tap := code } }).emit (.tap code register)

/-- The IDCODE register (R526). -/
def idcodeWord : BitVec 32 := 1#32 ||| (Config.jedecId.setWidth 32 <<< 1) ||| (0x6401#32 <<< 12)

/-- DONE and OTP_OFF are both set (R526). -/
def State.zeroised (s : State) : Bool := s.service.keys.done && s.service.keys.otpOff

/-- BYPASS is selected (R526). (DEDUCED, log entry 45) -/
def selectBypass (s : State) : State := selectTap s 0xFF 0

/-- An instruction that is there only after zeroisation; it acts as BYPASS before (R526). (DEDUCED, log entry 45) -/
def gatedTap (s : State) (code : BitVec 8) : State := if s.zeroised then selectTap s code 0 else selectBypass s

/-- IDCODE (R526). -/
def execIdcode (s : State) : Host.Outcome State Fault Refusal := .next (selectTap s 0x01 idcodeWord)
/-- SAMPLE/PRELOAD (R526, R529): it does not disturb the wall. -/
def execSamplePreload (s : State) : Host.Outcome State Fault Refusal := .next (selectTap s 0x02 0)
/-- KS_STATUS (R526): [0] DONE, [1] OTP_OFF. -/
def execKsStatus (s : State) : Host.Outcome State Fault Refusal :=
  .next (selectTap s 0x21 ((putB s.service.keys.done 0 ||| putB s.service.keys.otpOff 1).setWidth 32))
/-- EXTEST (R526). -/
def execExtest (s : State) : Host.Outcome State Fault Refusal := .next (gatedTap s 0x06)
/-- CLAMP (R526). -/
def execClamp (s : State) : Host.Outcome State Fault Refusal := .next (gatedTap s 0x07)
/-- HIGHZ (R526). -/
def execHighz (s : State) : Host.Outcome State Fault Refusal := .next (gatedTap s 0x08)
/-- SCAN_MODE (R526). -/
def execScanMode (s : State) : Host.Outcome State Fault Refusal := .next (gatedTap s 0x30)

/-- The codes of R526 that select another instruction than BYPASS in this state. (DEDUCED, log entry 45) -/
def tapCodes (s : State) : List (BitVec 8) :=
  [0x01, 0x02, 0x20, 0x21] ++ (if s.zeroised then [0x06, 0x07, 0x08, 0x30] else [])

/-- BYPASS (R526): 0xFF, and every unavailable or unknown code. A code that selects another instruction is not this row's.
(DEDUCED, log entry 45) -/
def execBypass (code : BitVec 8) (s : State) : Host.Outcome State Fault Refusal :=
  .next (if (tapCodes s).contains code then s else selectBypass s)

/-- KS_ZERO (R527, R538): the control processor, the arbiter and both dies are held in reset, the links go down, sessions and their keys
are gone, and DONE and OTP_OFF are set. The island records the event. (DEDUCED, log entry 23) -/
def execKsZero (s : State) : Host.Outcome State Fault Refusal :=
  .next <|
    let s1 := (holdDie (holdDie (failCp s) .a) .b).each (List.range 4) dropLink
    let s2 := s1.modHub fun h => { h with accepted := [] }
    selectTap (s2.modService fun v =>
      { v with nsp0 := {}, nsp1 := {}
               keys := { v.keys with done := true, otpOff := true, zeroed := true, held := true } }) 0x20 0

end Sys2Proof.Machine
end

