-- ==== Sys2Proof/Machine/TimingRows.lean ====
section
/-! DEFINITION. Reading flips and timing changes, check rectangles, and the end of a timing change (R215, R216, R219, R221,
R222, R224). -/

namespace Sys2Proof.Machine

/-- TIMING_FLIP_READ for the common checks (R221). -/
def opTimingFlipRead : JcsOp := { opcode := 0x0821, reach := canvasReach, zeros := fun _ _ => 5 }
/-- TIMING_FLIP_READ (R221). -/
def timingFlipReadBody (s : State) (r : Req) : Ans :=
  let c := s.canvas (reqCanvas r)
  .ok s [put c.frame 48 0, BitVec.ofNat 64 c.lastFlip, put c.lastFlipFrame 48 0, pair c.nRepeat c.nWithheld,
    if c.running then BitVec.ofNat 64 (wallOf (c.flipTime (c.frame + 1))) else 0]
/-- TIMING_FLIP_READ (R221). -/
def execTimingFlipRead (r : Req) (s : State) : Host.Outcome State Fault Refusal :=
  .next (jcs opTimingFlipRead timingFlipReadBody r s)

/-- TIMING_CHANGE_READ for the common checks (R221). -/
def opTimingChangeRead : JcsOp := { opcode := 0x0822, reach := canvasReach, zeros := fun _ _ => 9 }
/-- TIMING_CHANGE_READ (R221). (DEDUCED, log entry 87) -/
def timingChangeReadBody (s : State) (r : Req) : Ans :=
  let c := s.canvas (reqCanvas r)
  .ok s ((c.chStatus.setWidth 64 ||| putB c.change.isSome 8 ||| put c.chFailed.length 9 16) :: maskWords c.chFailed)
/-- TIMING_CHANGE_READ (R221). -/
def execTimingChangeRead (r : Req) (s : State) : Host.Outcome State Fault Refusal :=
  .next (jcs opTimingChangeRead timingChangeReadBody r s)

/-- TIMING_CHANGE_COMPLETE (R222 step 8): after F(M + 2). A change that a tile failed to confirm by F(M + 1) ends PARTIAL
(R224, R241). -/
def execTimingChangeComplete (canvas : Nat) (s : State) : Host.Outcome State Fault Refusal :=
  .next <|
    let x := s.canvas canvas
    match x.change with
    | some ch => if x.frame < ch.m + 2 then s else endChange s canvas (if x.chFailed.isEmpty then 0 else 8) (ch.m + 2) x.chFailed
    | none => s

/-! ### Check rectangles (R215, R221) -/

/-- CANVAS of a CHECK_SET. -/
def checkCanvas (r : Req) : Nat := fld (r.word 0) 7 6
/-- TILE of a CHECK_SET. -/
def checkTile (r : Req) : Nat := fld (r.word 0) 24 16
/-- CHECK_SET for the common checks (R215). -/
def opCheckSet : JcsOp :=
  { opcode := 0x0825, reach := fun s r => s.owns r.who 3 (checkCanvas r) && s.owns r.who 4 (checkTile r) }
/-- CHECK_SET (R215). -/
def checkSetBody (s : State) (r : Req) : Ans :=
  let c := checkCanvas r
  let mode := fld (r.word 0) 10 8
  let w := r.word 1
  let inside := match (s.canvas c).committed.place (checkTile r) with
    | some p => decide (fld w 9 0 + fld w 41 32 < p.tw) && decide (fld w 25 16 + fld w 57 48 < p.th)
    | none => false
  if !inside || decide (3 < mode) || ((mode = 2 || mode = 3) && decide (fld (r.word 3) 47 0 < (s.canvas c).frame + 2)) then .badParam s
  else
    .ok (s.modCanvas c fun x => { x with checks := Tbl.modify {} x.checks (fld (r.word 0) 5 0) fun k =>
      { words := (List.range 4).map r.word, misses := k.misses } })
/-- CHECK_SET (R215). -/
def execCheckSet (r : Req) (s : State) : Host.Outcome State Fault Refusal := .next (jcs opCheckSet checkSetBody r s)

/-- CHECK_READ for the common checks (R221). -/
def opCheckRead : JcsOp := { opcode := 0x0826, reach := canvasReach, zeros := fun _ _ => 3 }
/-- CHECK_READ (R221). -/
def checkReadBody (s : State) (r : Req) : Ans :=
  let k := Tbl.get {} (s.canvas (reqCanvas r)).checks (fld (r.word 0) 13 8)
  .ok s [pair k.valA k.valB, put k.frame 48 0 ||| putB k.matchA 48 ||| putB k.matchB 49, k.misses.setWidth 64]
/-- CHECK_READ (R221). -/
def execCheckRead (r : Req) (s : State) : Host.Outcome State Fault Refusal := .next (jcs opCheckRead checkReadBody r s)

end Sys2Proof.Machine
end

