-- ==== Sys2Proof/Machine/Violation.lean ====
section
/-! DEFINITION. PARTITION_VIOLATION_REPLY: the answer to a request that fails check 4 of R317 (R320). -/

namespace Sys2Proof.Machine

/-- What the common checks need to know of every opcode of R328. -/
def allOps : List JcsOp :=
  [opSysInfoRead, opCmdRead, opSysNop, opSysPower, opSysPowerRead, opTwinStatusRead, opTwinVoteRead, opTwinService,
    opPltRead, opPltPropose, opPltConfirm, opPltWithdraw, opPltProposalRead, opRingConfig, opRingStart, opRingStop,
    opEventRoute, opViolationRead, opSrcConfig, opSrcStart, opSrcStop] ++
  [opCanvasConfig, opCanvasTiles, opLayerConfig, opBlendTree, opCanvasCommit, opLutLoad, opMeshLoad, opTileMap,
    opTileScan, opTilePrefs, opTileCommit, opTileTxnRead, opTileRead, opChainReset, opPortConfig, opCorrCommit,
    opCorrHash, opCorrProbe, opCorrProbeRead, opSafeZoneRead, opSafeTileRead] ++
  [opSafeFlashRead, opSafeScrimRead, opTimeRead, opTimeServo, opTimeIncrement, opPtpConfig, opPtpStatusRead, opRefConfig,
    opCanvasTiming, opTimingFlipRead, opTimingChangeRead, opHopCal, opHopRead, opCheckSet, opCheckRead, opSapConfig,
    opSapStart, opSapStop, opSapMute, opSapStatusRead, opDecConfig] ++
  [opDecStart, opDecStop, opEncConfig, opEncStart, opEncStop, opVcxStatusRead, opDiagSlotRead, opDiagLayerRead,
    opDiagPortRead, opDiagMemRead, opDiagThermalRead, opDiagCalRead, opDiagBistRead, opFwLoad, opFwActivate, opFwConfirm,
    opFwStatusRead, opTileFwRelay, opPkgReset, opPkgHalt]

/-- The answer to a request that fails check 4 of R317 (R320): OK with zeros, counted; nothing for any other request. -/
def violationAnswer (op : JcsOp) (s : State) (r : Req) : Option Ans :=
  if r.len = 0xFFFF || (decide (s.hub.stage = .halted) && !haltServes op.opcode) || entitled op s r then none
  else some { status := 0, state := violate s r.who, payload := List.replicate (op.zeros s r) 0 }

/-- PARTITION_VIOLATION_REPLY (R317, R320). A request that passes check 4 is not this row's. -/
def execPartitionViolationReply (r : Req) (s : State) : Host.Outcome State Fault Refusal :=
  .next <|
    match allOps.find? fun op => decide (op.opcode = r.opcode), takeRequest s r with
    | some op, some s1 =>
      match violationAnswer op s1 r with
      | some a => giveAnswer r a
      | none => s
    | _, _ => s

end Sys2Proof.Machine
end

