-- ==== Sys2Proof/Machine/Dispatch.lean ====
section
/-! DEFINITION. The meaning of every command: one arm for each row of spec/opcode_table.json. -/

namespace Sys2Proof.Machine

def exec (i : Instr) (s : State) : Host.Outcome State Fault Refusal :=
  match i with
  | .sysInfoRead r => Sys2Proof.Machine.execSysInfoRead r s
  | .cmdRead r => Sys2Proof.Machine.execCmdRead r s
  | .sysNop r => Sys2Proof.Machine.execSysNop r s
  | .sysPower r => Sys2Proof.Machine.execSysPower r s
  | .sysPowerComplete => Sys2Proof.Machine.execSysPowerComplete s
  | .sysPowerRead r => Sys2Proof.Machine.execSysPowerRead r s
  | .twinStatusRead r => Sys2Proof.Machine.execTwinStatusRead r s
  | .twinVoteRead r => Sys2Proof.Machine.execTwinVoteRead r s
  | .twinService r => Sys2Proof.Machine.execTwinService r s
  | .twinServiceComplete => Sys2Proof.Machine.execTwinServiceComplete s
  | .pltRead r => Sys2Proof.Machine.execPltRead r s
  | .pltPropose r => Sys2Proof.Machine.execPltPropose r s
  | .pltConfirm r => Sys2Proof.Machine.execPltConfirm r s
  | .pltWithdraw r => Sys2Proof.Machine.execPltWithdraw r s
  | .pltProposalRead r => Sys2Proof.Machine.execPltProposalRead r s
  | .proposalExpiry => Sys2Proof.Machine.execProposalExpiry s
  | .settingsAreaWrite area ok => Sys2Proof.Machine.execSettingsAreaWrite area ok s
  | .ringConfig r => Sys2Proof.Machine.execRingConfig r s
  | .ringStart r => Sys2Proof.Machine.execRingStart r s
  | .ringStop r => Sys2Proof.Machine.execRingStop r s
  | .eventRoute r => Sys2Proof.Machine.execEventRoute r s
  | .violationRead r => Sys2Proof.Machine.execViolationRead r s
  | .srcConfig r => Sys2Proof.Machine.execSrcConfig r s
  | .srcStart r => Sys2Proof.Machine.execSrcStart r s
  | .srcStop r => Sys2Proof.Machine.execSrcStop r s
  | .canvasConfig r => Sys2Proof.Machine.execCanvasConfig r s
  | .canvasTiles r => Sys2Proof.Machine.execCanvasTiles r s
  | .layerConfig r => Sys2Proof.Machine.execLayerConfig r s
  | .blendTree r => Sys2Proof.Machine.execBlendTree r s
  | .canvasCommit r => Sys2Proof.Machine.execCanvasCommit r s
  | .timingChangeComplete canvas => Sys2Proof.Machine.execTimingChangeComplete canvas s
  | .lutLoad r => Sys2Proof.Machine.execLutLoad r s
  | .meshLoad r => Sys2Proof.Machine.execMeshLoad r s
  | .tableLoadComplete table pull => Sys2Proof.Machine.execTableLoadComplete table pull s
  | .tileMap r => Sys2Proof.Machine.execTileMap r s
  | .tileScan r => Sys2Proof.Machine.execTileScan r s
  | .tilePrefs r => Sys2Proof.Machine.execTilePrefs r s
  | .tileCommit r => Sys2Proof.Machine.execTileCommit r s
  | .tileTxnRead r => Sys2Proof.Machine.execTileTxnRead r s
  | .tileRead r => Sys2Proof.Machine.execTileRead r s
  | .chainReset r => Sys2Proof.Machine.execChainReset r s
  | .chainResetCommit port => Sys2Proof.Machine.execChainResetCommit port s
  | .portConfig r => Sys2Proof.Machine.execPortConfig r s
  | .corrCommit r => Sys2Proof.Machine.execCorrCommit r s
  | .corrHash r => Sys2Proof.Machine.execCorrHash r s
  | .corrProbe r => Sys2Proof.Machine.execCorrProbe r s
  | .corrProbeCapture f => Sys2Proof.Machine.execCorrProbeCapture f s
  | .corrProbeRead r => Sys2Proof.Machine.execCorrProbeRead r s
  | .safeZoneRead r => Sys2Proof.Machine.execSafeZoneRead r s
  | .safeTileRead r => Sys2Proof.Machine.execSafeTileRead r s
  | .safeFlashRead r => Sys2Proof.Machine.execSafeFlashRead r s
  | .safeScrimRead r => Sys2Proof.Machine.execSafeScrimRead r s
  | .timeRead r => Sys2Proof.Machine.execTimeRead r s
  | .timeServo r => Sys2Proof.Machine.execTimeServo r s
  | .timeIncrement r => Sys2Proof.Machine.execTimeIncrement r s
  | .ptpConfig r => Sys2Proof.Machine.execPtpConfig r s
  | .ptpStatusRead r => Sys2Proof.Machine.execPtpStatusRead r s
  | .refConfig r => Sys2Proof.Machine.execRefConfig r s
  | .canvasTiming r => Sys2Proof.Machine.execCanvasTiming r s
  | .timingFlipRead r => Sys2Proof.Machine.execTimingFlipRead r s
  | .timingChangeRead r => Sys2Proof.Machine.execTimingChangeRead r s
  | .hopCal r => Sys2Proof.Machine.execHopCal r s
  | .hopCalComplete port => Sys2Proof.Machine.execHopCalComplete port s
  | .hopRead r => Sys2Proof.Machine.execHopRead r s
  | .checkSet r => Sys2Proof.Machine.execCheckSet r s
  | .checkRead r => Sys2Proof.Machine.execCheckRead r s
  | .sapConfig r => Sys2Proof.Machine.execSapConfig r s
  | .sapStart r => Sys2Proof.Machine.execSapStart r s
  | .sapStop r => Sys2Proof.Machine.execSapStop r s
  | .sapMute r => Sys2Proof.Machine.execSapMute r s
  | .sapStatusRead r => Sys2Proof.Machine.execSapStatusRead r s
  | .decConfig r => Sys2Proof.Machine.execDecConfig r s
  | .decStart r => Sys2Proof.Machine.execDecStart r s
  | .decStop r => Sys2Proof.Machine.execDecStop r s
  | .encConfig r => Sys2Proof.Machine.execEncConfig r s
  | .encStart r => Sys2Proof.Machine.execEncStart r s
  | .encStop r => Sys2Proof.Machine.execEncStop r s
  | .vcxStatusRead r => Sys2Proof.Machine.execVcxStatusRead r s
  | .diagSlotRead r => Sys2Proof.Machine.execDiagSlotRead r s
  | .diagLayerRead r => Sys2Proof.Machine.execDiagLayerRead r s
  | .diagPortRead r => Sys2Proof.Machine.execDiagPortRead r s
  | .diagMemRead r => Sys2Proof.Machine.execDiagMemRead r s
  | .diagThermalRead r => Sys2Proof.Machine.execDiagThermalRead r s
  | .diagCalRead r => Sys2Proof.Machine.execDiagCalRead r s
  | .diagBistRead r => Sys2Proof.Machine.execDiagBistRead r s
  | .fwLoad r => Sys2Proof.Machine.execFwLoad r s
  | .fwLoadComplete compareOk => Sys2Proof.Machine.execFwLoadComplete compareOk s
  | .fwActivate r => Sys2Proof.Machine.execFwActivate r s
  | .fwActivateComplete => Sys2Proof.Machine.execFwActivateComplete s
  | .fwConfirm r fuseOk => Sys2Proof.Machine.execFwConfirm r fuseOk s
  | .fwStatusRead r => Sys2Proof.Machine.execFwStatusRead r s
  | .tileFwRelay r => Sys2Proof.Machine.execTileFwRelay r s
  | .tileFwRelayComplete => Sys2Proof.Machine.execTileFwRelayComplete s
  | .pkgReset r => Sys2Proof.Machine.execPkgReset r s
  | .pkgHalt r => Sys2Proof.Machine.execPkgHalt r s
  | .unknownOpcode r => Sys2Proof.Machine.execUnknownOpcode r s
  | .partitionViolationReply r => Sys2Proof.Machine.execPartitionViolationReply r s
  | .mboxSubmit f value => Sys2Proof.Machine.execMboxSubmit f value s
  | .requestMailboxWrite f offset size value => Sys2Proof.Machine.execRequestMailboxWrite f offset size value s
  | .ringDoorbell f index value => Sys2Proof.Machine.execRingDoorbell f index value s
  | .bar2Write f offset data poisoned => Sys2Proof.Machine.execBar2Write f offset data poisoned s
  | .bar2Read f offset length => Sys2Proof.Machine.execBar2Read f offset length s
  | .msixUnmask f vector => Sys2Proof.Machine.execMsixUnmask f vector s
  | .registerWrite f bar offset size value => Sys2Proof.Machine.execRegisterWrite f bar offset size value s
  | .functionLevelReset f => Sys2Proof.Machine.execFunctionLevelReset f s
  | .linkReset link perst => Sys2Proof.Machine.execLinkReset link perst s
  | .linkTrainingStart link => Sys2Proof.Machine.execLinkTrainingStart link s
  | .pullSegment ring d => Sys2Proof.Machine.execPullSegment ring d s
  | .pullSegmentDone slot bytes => Sys2Proof.Machine.execPullSegmentDone slot bytes s
  | .pullTimeout slot => Sys2Proof.Machine.execPullTimeout slot s
  | .submit ring d => Sys2Proof.Machine.execSubmit ring d s
  | .cancel ring d => Sys2Proof.Machine.execCancel ring d s
  | .pullBufferWaitEnd slot => Sys2Proof.Machine.execPullBufferWaitEnd slot s
  | .releasePosted slot buf => Sys2Proof.Machine.execReleasePosted slot buf s
  | .records ring d => Sys2Proof.Machine.execRecords ring d s
  | .tileBlock ring d => Sys2Proof.Machine.execTileBlock ring d s
  | .correctionLoadDone tile pull => Sys2Proof.Machine.execCorrectionLoadDone tile pull s
  | .encBuf ring d => Sys2Proof.Machine.execEncBuf ring d s
  | .play ring d pull => Sys2Proof.Machine.execPlay ring d pull s
  | .capture ring d => Sys2Proof.Machine.execCapture ring d s
  | .dtypeMismatch ring d => Sys2Proof.Machine.execDtypeMismatch ring d s
  | .descriptorFetch fetched => Sys2Proof.Machine.execDescriptorFetch fetched s
  | .ringWriteBack ring ok => Sys2Proof.Machine.execRingWriteBack ring ok s
  | .completionRoom ring => Sys2Proof.Machine.execCompletionRoom ring s
  | .eventDelivery => Sys2Proof.Machine.execEventDelivery s
  | .netPacket port p => Sys2Proof.Machine.execNetPacket port p s
  | .netFrameTimeout slot => Sys2Proof.Machine.execNetFrameTimeout slot s
  | .netLegLoss slot leg => Sys2Proof.Machine.execNetLegLoss slot leg s
  | .decodePacket port p => Sys2Proof.Machine.execDecodePacket port p s
  | .jitterWindowClose session => Sys2Proof.Machine.execJitterWindowClose session s
  | .decodeLegLoss session leg => Sys2Proof.Machine.execDecodeLegLoss session leg s
  | .pictureDecoded session p => Sys2Proof.Machine.execPictureDecoded session p s
  | .encodeCapture session => Sys2Proof.Machine.execEncodeCapture session s
  | .accessUnitDone session c => Sys2Proof.Machine.execAccessUnitDone session c s
  | .audioPacket port p => Sys2Proof.Machine.execAudioPacket port p s
  | .audioLegLoss sap part leg => Sys2Proof.Machine.execAudioLegLoss sap part leg s
  | .audioBlock sap input => Sys2Proof.Machine.execAudioBlock sap input s
  | .sapZeroCrossingChange sap channel => Sys2Proof.Machine.execSapZeroCrossingChange sap channel s
  | .awclkLoss => Sys2Proof.Machine.execAwclkLoss s
  | .awclkReturn => Sys2Proof.Machine.execAwclkReturn s
  | .selectionInstant canvas => Sys2Proof.Machine.execSelectionInstant canvas s
  | .frameOrderAckTimeout canvas => Sys2Proof.Machine.execFrameOrderAckTimeout canvas s
  | .engineWatchdogExpiry die engine => Sys2Proof.Machine.execEngineWatchdogExpiry die engine s
  | .regionComputed die tile region result => Sys2Proof.Machine.execRegionComputed die tile region result s
  | .regionReport tile region => Sys2Proof.Machine.execRegionReport tile region s
  | .replayResult die tile region crc cluster => Sys2Proof.Machine.execReplayResult die tile region crc cluster s
  | .regionSend port tile region underruns => Sys2Proof.Machine.execRegionSend port tile region underruns s
  | .frameVerdict canvas faults => Sys2Proof.Machine.execFrameVerdict canvas faults s
  | .scrimIdleLatentTest die region faults => Sys2Proof.Machine.execScrimIdleLatentTest die region faults s
  | .verdictTimeout die canvas => Sys2Proof.Machine.execVerdictTimeout die canvas s
  | .flipInstant canvas => Sys2Proof.Machine.execFlipInstant canvas s
  | .scrimTableCheck die table => Sys2Proof.Machine.execScrimTableCheck die table s
  | .restingRotation die region => Sys2Proof.Machine.execRestingRotation die region s
  | .loopTrimUpdate canvas => Sys2Proof.Machine.execLoopTrimUpdate canvas s
  | .echoReceived port fill codes => Sys2Proof.Machine.execEchoReceived port fill codes s
  | .statusReceived port fill codes => Sys2Proof.Machine.execStatusReceived port fill codes s
  | .pongReceived port fill codes t4 => Sys2Proof.Machine.execPongReceived port fill codes t4 s
  | .downstreamFrameDiscard port a => Sys2Proof.Machine.execDownstreamFrameDiscard port a s
  | .tileStatusTimeout tile => Sys2Proof.Machine.execTileStatusTimeout tile s
  | .timeSync port => Sys2Proof.Machine.execTimeSync port s
  | .keepalive port => Sys2Proof.Machine.execKeepalive port s
  | .hopCalPeriodic port pos => Sys2Proof.Machine.execHopCalPeriodic port pos s
  | .tileAssign port => Sys2Proof.Machine.execTileAssign port s
  | .stageResend xid port => Sys2Proof.Machine.execStageResend xid port s
  | .stageAckTimeout xid port => Sys2Proof.Machine.execStageAckTimeout xid port s
  | .commitRepeat xid port => Sys2Proof.Machine.execCommitRepeat xid port s
  | .driveRetry tile => Sys2Proof.Machine.execDriveRetry tile s
  | .linkSignalDetect port => Sys2Proof.Machine.execLinkSignalDetect port s
  | .linkBlockLock run => Sys2Proof.Machine.execLinkBlockLock run s
  | .linkLockTimeout port => Sys2Proof.Machine.execLinkLockTimeout port s
  | .linkUp port => Sys2Proof.Machine.execLinkUp port s
  | .linkDown loss => Sys2Proof.Machine.execLinkDown loss s
  | .linkQuiet port => Sys2Proof.Machine.execLinkQuiet port s
  | .quietSilenceTimeout port => Sys2Proof.Machine.execQuietSilenceTimeout port s
  | .heartbeatSend die => Sys2Proof.Machine.execHeartbeatSend die s
  | .heartbeatReceived die word => Sys2Proof.Machine.execHeartbeatReceived die word s
  | .heartbeatMiss die => Sys2Proof.Machine.execHeartbeatMiss die s
  | .fatalDeclaration die cause => Sys2Proof.Machine.execFatalDeclaration die cause s
  | .fence die cause => Sys2Proof.Machine.execFence die cause s
  | .arbiterCommand die word valid => Sys2Proof.Machine.execArbiterCommand die word valid s
  | .arbiterCommandMiss die => Sys2Proof.Machine.execArbiterCommandMiss die s
  | .arbiterFreeze => Sys2Proof.Machine.execArbiterFreeze s
  | .rejoinRelease die => Sys2Proof.Machine.execRejoinRelease die s
  | .stateCopyComplete die => Sys2Proof.Machine.execStateCopyComplete die s
  | .verificationFrame die digest => Sys2Proof.Machine.execVerificationFrame die digest s
  | .coldRebuild passA passB => Sys2Proof.Machine.execColdRebuild passA passB s
  | .inconclusiveLimit => Sys2Proof.Machine.execInconclusiveLimit s
  | .microcodeHandover => Sys2Proof.Machine.execMicrocodeHandover s
  | .microcodeSwitch canvas => Sys2Proof.Machine.execMicrocodeSwitch canvas s
  | .trialExpiry => Sys2Proof.Machine.execTrialExpiry s
  | .cpWatchdogExpiry => Sys2Proof.Machine.execCpWatchdogExpiry s
  | .cpFailure => Sys2Proof.Machine.execCpFailure s
  | .hubBeat => Sys2Proof.Machine.execHubBeat s
  | .refMeasurement m => Sys2Proof.Machine.execRefMeasurement m s
  | .refStop => Sys2Proof.Machine.execRefStop s
  | .slewEnd => Sys2Proof.Machine.execSlewEnd s
  | .timeStep => Sys2Proof.Machine.execTimeStep s
  | .rateMeasured code => Sys2Proof.Machine.execRateMeasured code s
  | .counterCopyCompare diffA diffB => Sys2Proof.Machine.execCounterCopyCompare diffA diffB s
  | .ptpMessageForward die msg twoStep residence => Sys2Proof.Machine.execPtpMessageForward die msg twoStep residence s
  | .ppsOutput => Sys2Proof.Machine.execPpsOutput s
  | .refreshDue die channel traffic => Sys2Proof.Machine.execRefreshDue die channel traffic s
  | .mr4Read die channel code => Sys2Proof.Machine.execMr4Read die channel code s
  | .trackingRead die channel drift => Sys2Proof.Machine.execTrackingRead die channel drift s
  | .memoryReadError die channel line read what patrol => Sys2Proof.Machine.execMemoryReadError die channel line read what patrol s
  | .channelNoData die channel => Sys2Proof.Machine.execChannelNoData die channel s
  | .patrolScrubPass die channel records starting => Sys2Proof.Machine.execPatrolScrubPass die channel records starting s
  | .recordRepair die tile line => Sys2Proof.Machine.execRecordRepair die tile line s
  | .hashRecompute tile => Sys2Proof.Machine.execHashRecompute tile s
  | .bistSliceStart die region vout temp => Sys2Proof.Machine.execBistSliceStart die region vout temp s
  | .bistSliceEnd die cluster completed signature => Sys2Proof.Machine.execBistSliceEnd die cluster completed signature s
  | .bistOverdue die cluster => Sys2Proof.Machine.execBistOverdue die cluster s
  | .calibrationWindow item opening => Sys2Proof.Machine.execCalibrationWindow item opening s
  | .calibrationRun item run => Sys2Proof.Machine.execCalibrationRun item run s
  | .diodeTrim die => Sys2Proof.Machine.execDiodeTrim die s
  | .slowRoundSample die reading => Sys2Proof.Machine.execSlowRoundSample die reading s
  | .throttleSample die reading => Sys2Proof.Machine.execThrottleSample die reading s
  | .budgetTick pA pB pHub => Sys2Proof.Machine.execBudgetTick pA pB pHub s
  | .opTransition die ack => Sys2Proof.Machine.execOpTransition die ack s
  | .opSettle die pg => Sys2Proof.Machine.execOpSettle die pg s
  | .regulatorMonitor die readVout => Sys2Proof.Machine.execRegulatorMonitor die readVout s
  | .vrPgLow die => Sys2Proof.Machine.execVrPgLow die s
  | .gateCloseRequest g => Sys2Proof.Machine.execGateCloseRequest g s
  | .gateCloseTimeout g => Sys2Proof.Machine.execGateCloseTimeout g s
  | .thermalTrip die => Sys2Proof.Machine.execThermalTrip die s
  | .tripRelease die => Sys2Proof.Machine.execTripRelease die s
  | .rootPllLockLoss die => Sys2Proof.Machine.execRootPllLockLoss die s
  | .hubPllLockLoss => Sys2Proof.Machine.execHubPllLockLoss s
  | .hubPllRelock => Sys2Proof.Machine.execHubPllRelock s
  | .refclkStable => Sys2Proof.Machine.execRefclkStable s
  | .refclkLoss => Sys2Proof.Machine.execRefclkLoss s
  | .laneReferenceMeasurement offset => Sys2Proof.Machine.execLaneReferenceMeasurement offset s
  | .pkgRstN => Sys2Proof.Machine.execPkgRstN s
  | .powerOn => Sys2Proof.Machine.execPowerOn s
  | .powerDown => Sys2Proof.Machine.execPowerDown s
  | .supplyOutOfRange x => Sys2Proof.Machine.execSupplyOutOfRange x s
  | .stageChange b => Sys2Proof.Machine.execStageChange b s
  | .nspHandshake session c suiteOk => Sys2Proof.Machine.execNspHandshake session c suiteOk s
  | .nspJcsRequest session header payload => Sys2Proof.Machine.execNspJcsRequest session header payload s
  | .nspReassemblyTimeout session => Sys2Proof.Machine.execNspReassemblyTimeout session s
  | .nspData session offset bytes => Sys2Proof.Machine.execNspData session offset bytes s
  | .nspRegisterRead session nseq die addr => Sys2Proof.Machine.execNspRegisterRead session nseq die addr s
  | .nspRegisterWrite session nseq die addr value => Sys2Proof.Machine.execNspRegisterWrite session nseq die addr value s
  | .nspKeepalive session => Sys2Proof.Machine.execNspKeepalive session s
  | .anchor session digest => Sys2Proof.Machine.execAnchor session digest s
  | .nspSessionTimeout session => Sys2Proof.Machine.execNspSessionTimeout session s
  | .idcode => Sys2Proof.Machine.execIdcode s
  | .samplePreload => Sys2Proof.Machine.execSamplePreload s
  | .ksZero => Sys2Proof.Machine.execKsZero s
  | .ksStatus => Sys2Proof.Machine.execKsStatus s
  | .extest => Sys2Proof.Machine.execExtest s
  | .clamp => Sys2Proof.Machine.execClamp s
  | .highz => Sys2Proof.Machine.execHighz s
  | .scanMode => Sys2Proof.Machine.execScanMode s
  | .bypass code => Sys2Proof.Machine.execBypass code s
  | .dieLinkPoison word again => Sys2Proof.Machine.execDieLinkPoison word again s
  | .dieLinkRestored => Sys2Proof.Machine.execDieLinkRestored s
  | .frameOrderAck canvas => Sys2Proof.Machine.execFrameOrderAck canvas s
  | .regionDmaFault die region => Sys2Proof.Machine.execRegionDmaFault die region s
  | .regionResetDone die region => Sys2Proof.Machine.execRegionResetDone die region s
  | .upstreamFrameInvalid port a => Sys2Proof.Machine.execUpstreamFrameInvalid port a s
  | .networkLinkUp port => Sys2Proof.Machine.execNetworkLinkUp port s
  | .networkLinkDown port => Sys2Proof.Machine.execNetworkLinkDown port s
  | .ptpAnnounceReceived x => Sys2Proof.Machine.execPtpAnnounceReceived x s
  | .ptpDelayResponse die resp => Sys2Proof.Machine.execPtpDelayResponse die resp s
  | .configurationRequest f w => Sys2Proof.Machine.execConfigurationRequest f w s
  | .nspSessionClose session => Sys2Proof.Machine.execNspSessionClose session s
  | .supplyRestored x => Sys2Proof.Machine.execSupplyRestored x s
  | .laneReferenceTrimStep => Sys2Proof.Machine.execLaneReferenceTrimStep s

end Sys2Proof.Machine
end

