-- ==== Sys2Proof/Machine/Tick.lean ====
section
/-! DEFINITION. One CLK_TIME tick, which a step on an empty queue takes (R365; DESIGN CHOICE, log entry 1). -/

namespace Sys2Proof.Machine

/-- A counter one tick later (R365): INC is in units of 2^-32 ns. (DESIGN CHOICE, log entry 1) -/
def tickCounter (c : BitVec 96) (inc : BitVec 40) : BitVec 96 := c + inc.setWidth 96

/-- What one tick adds: 4 × INC while the hub's root PLL is out of lock (R461), where CLK_TIME runs at a quarter of its rate. A die whose
own PLL is out of lock adds 4 × INC every fourth tick of the hub, so its copy keeps time (R460). (DESIGN CHOICE, log entry 1) -/
def State.tickInc (s : State) : BitVec 40 := if s.clocks.pllH then s.time.inc else 4 * s.time.inc

/-- The block behind a gate is idle: no BIST slice runs on its cluster, no REGION waits behind a Scrim checker (R468, R469, R525).
(DESIGN CHOICE, log entry 1) (DESIGN CHOICE, log entry 24) -/
def gateIdle (s : State) (g : GateId) : Bool :=
  match g with
  | .cluster d c => !((s.die d).cluster c).slice
  | .scrim d r => !regionWaits s d r
  | _ => true

/-- A gate whose close request waits closes when its block is idle (R469). (DESIGN CHOICE, log entry 1) -/
def closePending (s : State) (x : GateId × Gate) : GateId × Gate :=
  if x.2.pending && gateIdle s x.1 then (x.1, { x.2 with pending := false, isOpen := false }) else x

/-- The PPS output falls 10 ms after a whole second (R387). (DESIGN CHOICE, log entry 1) -/
def endPps (s : State) : State :=
  if s.time.ppsHigh && decide (10000000 ≤ s.wall % 1000000000) then
    (s.modTime fun t => { t with ppsHigh := false }).emit (.pin "PPS_OUT" false)
  else s

/-- CLK_TIME runs: REFCLK is stable, the supplies are there, and no hub trip has stopped the clocks (R456, R457, R487).
(DESIGN CHOICE, log entry 1) -/
def clockRuns (s : State) : Bool := s.clocks.refOk && s.service.powered && !s.thermH.tripped

/-- The package reset of PKG_RESET falls 10 ms after its response (R495, R516). (DESIGN CHOICE, log entry 1) -/
def dueReset (s : State) : State :=
  match s.hub.resetAt with
  | some t => if t ≤ s.uptime then packageReset s else s
  | none => s

/-- What a tile-link transmitter does of itself (R192, R193): an IDLE frame every 10 µs while its receiver is not UP, and in Sleep a QUIET
block after 4 µs with nothing to send. (DESIGN CHOICE, log entry 1) -/
def tickPort (s : State) (p : Nat) : State :=
  let x := s.port p
  if x.tx ≠ .on then s
  else if !x.isUp && decide (x.lastIdle + 10000 ≤ s.uptime) then emitIdle s p
  else if s.clocks.power = .sleep then enterQuiet s p
  else s

/-- The transmitters of the running dies, one by one. (DESIGN CHOICE, log entry 1) -/
def tickPorts (s : State) : State := s.each ((List.range 64).filter s.transmits) tickPort

/-- One CLK_TIME tick: the hub's counter and the copies of the dies that run add INC (R365, R368), and clock
gates that wait for idle close (R469). A PPS pulse ends 10 ms after its second (R387), the arbiter sends its TICK words (R258), transmitters
send what R192 and R193 ask for, and PKG_RESET takes effect. Without a clock
nothing happens. (DESIGN CHOICE, log entry 1) -/
def idleTick (s : State) : State :=
  if !clockRuns s then s
  else dueReset <| tickPorts <| tickCommands <| endPps <| (s.modTime fun t =>
    { t with
      counter := tickCounter t.counter s.tickInc
      copyA := if s.dies.a.stopped then t.copyA else tickCounter t.copyA s.tickInc
      copyB := if s.dies.b.stopped then t.copyB else tickCounter t.copyB s.tickInc }).modClocks fun c =>
    { c with gates := c.gates.map (closePending s) }

end Sys2Proof.Machine
end

