-- ==== Sys2Proof/WellFormed.lean ====
section
/-! DEFINITION. Well-formed commands: a JCS row's request carries the row's opcode (R328) from a sender that exists, and
identifiers lie in the ranges of R5. -/

namespace Sys2Proof

/-- The opcode of a JCS row and its request (R328); none for the other rows. -/
def Instr.jcs : Instr → Option (Nat × Req)
  | .sysInfoRead r => some (0x0101, r)
  | .cmdRead r => some (0x0102, r)
  | .sysNop r => some (0x0103, r)
  | .sysPower r => some (0x0110, r)
  | .sysPowerRead r => some (0x0111, r)
  | .twinStatusRead r => some (0x0140, r)
  | .twinVoteRead r => some (0x0141, r)
  | .twinService r => some (0x0142, r)
  | .pltRead r => some (0x0201, r)
  | .pltPropose r => some (0x0202, r)
  | .pltConfirm r => some (0x0203, r)
  | .pltWithdraw r => some (0x0204, r)
  | .pltProposalRead r => some (0x0205, r)
  | .ringConfig r => some (0x0210, r)
  | .ringStart r => some (0x0211, r)
  | .ringStop r => some (0x0212, r)
  | .eventRoute r => some (0x0220, r)
  | .violationRead r => some (0x0230, r)
  | .srcConfig r => some (0x0301, r)
  | .srcStart r => some (0x0302, r)
  | .srcStop r => some (0x0303, r)
  | .canvasConfig r => some (0x0401, r)
  | .canvasTiles r => some (0x0402, r)
  | .layerConfig r => some (0x0403, r)
  | .blendTree r => some (0x0404, r)
  | .canvasCommit r => some (0x0405, r)
  | .lutLoad r => some (0x0406, r)
  | .meshLoad r => some (0x0407, r)
  | .tileMap r => some (0x0501, r)
  | .tileScan r => some (0x0502, r)
  | .tilePrefs r => some (0x0503, r)
  | .tileCommit r => some (0x0504, r)
  | .tileTxnRead r => some (0x0505, r)
  | .tileRead r => some (0x0506, r)
  | .chainReset r => some (0x0507, r)
  | .portConfig r => some (0x0508, r)
  | .corrCommit r => some (0x0601, r)
  | .corrHash r => some (0x0602, r)
  | .corrProbe r => some (0x0603, r)
  | .corrProbeRead r => some (0x0604, r)
  | .safeZoneRead r => some (0x0701, r)
  | .safeTileRead r => some (0x0702, r)
  | .safeFlashRead r => some (0x0703, r)
  | .safeScrimRead r => some (0x0704, r)
  | .timeRead r => some (0x0801, r)
  | .timeServo r => some (0x0802, r)
  | .timeIncrement r => some (0x0803, r)
  | .ptpConfig r => some (0x0804, r)
  | .ptpStatusRead r => some (0x0805, r)
  | .refConfig r => some (0x0806, r)
  | .canvasTiming r => some (0x0820, r)
  | .timingFlipRead r => some (0x0821, r)
  | .timingChangeRead r => some (0x0822, r)
  | .hopCal r => some (0x0823, r)
  | .hopRead r => some (0x0824, r)
  | .checkSet r => some (0x0825, r)
  | .checkRead r => some (0x0826, r)
  | .sapConfig r => some (0x0901, r)
  | .sapStart r => some (0x0902, r)
  | .sapStop r => some (0x0903, r)
  | .sapMute r => some (0x0904, r)
  | .sapStatusRead r => some (0x0905, r)
  | .decConfig r => some (0x0A01, r)
  | .decStart r => some (0x0A02, r)
  | .decStop r => some (0x0A03, r)
  | .encConfig r => some (0x0A10, r)
  | .encStart r => some (0x0A11, r)
  | .encStop r => some (0x0A12, r)
  | .vcxStatusRead r => some (0x0A20, r)
  | .diagSlotRead r => some (0x0B01, r)
  | .diagLayerRead r => some (0x0B02, r)
  | .diagPortRead r => some (0x0B03, r)
  | .diagMemRead r => some (0x0B10, r)
  | .diagThermalRead r => some (0x0B20, r)
  | .diagCalRead r => some (0x0B30, r)
  | .diagBistRead r => some (0x0B31, r)
  | .fwLoad r => some (0x0C01, r)
  | .fwActivate r => some (0x0C02, r)
  | .fwConfirm r _ => some (0x0C03, r)
  | .fwStatusRead r => some (0x0C04, r)
  | .tileFwRelay r => some (0x0C10, r)
  | .pkgReset r => some (0x0C20, r)
  | .pkgHalt r => some (0x0C21, r)
  | .sysPowerComplete => none
  | .twinServiceComplete => none
  | .proposalExpiry => none
  | .settingsAreaWrite _ _ => none
  | .timingChangeComplete _ => none
  | .tableLoadComplete _ _ => none
  | .chainResetCommit _ => none
  | .corrProbeCapture _ => none
  | .hopCalComplete _ => none
  | .fwLoadComplete _ => none
  | .fwActivateComplete => none
  | .tileFwRelayComplete => none
  | .unknownOpcode _ => none
  | .partitionViolationReply _ => none
  | .mboxSubmit _ _ => none
  | .requestMailboxWrite _ _ _ _ => none
  | .ringDoorbell _ _ _ => none
  | .bar2Write _ _ _ _ => none
  | .bar2Read _ _ _ => none
  | .msixUnmask _ _ => none
  | .registerWrite _ _ _ _ _ => none
  | .functionLevelReset _ => none
  | .linkReset _ _ => none
  | .linkTrainingStart _ => none
  | .pullSegment _ _ => none
  | .pullSegmentDone _ _ => none
  | .pullTimeout _ => none
  | .submit _ _ => none
  | .cancel _ _ => none
  | .pullBufferWaitEnd _ => none
  | .releasePosted _ _ => none
  | .records _ _ => none
  | .tileBlock _ _ => none
  | .correctionLoadDone _ _ => none
  | .encBuf _ _ => none
  | .play _ _ _ => none
  | .capture _ _ => none
  | .dtypeMismatch _ _ => none
  | .descriptorFetch _ => none
  | .ringWriteBack _ _ => none
  | .completionRoom _ => none
  | .eventDelivery => none
  | .netPacket _ _ => none
  | .netFrameTimeout _ => none
  | .netLegLoss _ _ => none
  | .decodePacket _ _ => none
  | .jitterWindowClose _ => none
  | .decodeLegLoss _ _ => none
  | .pictureDecoded _ _ => none
  | .encodeCapture _ => none
  | .accessUnitDone _ _ => none
  | .audioPacket _ _ => none
  | .audioLegLoss _ _ _ => none
  | .audioBlock _ _ => none
  | .sapZeroCrossingChange _ _ => none
  | .awclkLoss => none
  | .awclkReturn => none
  | .selectionInstant _ => none
  | .frameOrderAckTimeout _ => none
  | .engineWatchdogExpiry _ _ => none
  | .regionComputed _ _ _ _ => none
  | .regionReport _ _ => none
  | .replayResult _ _ _ _ _ => none
  | .regionSend _ _ _ _ => none
  | .frameVerdict _ _ => none
  | .scrimIdleLatentTest _ _ _ => none
  | .verdictTimeout _ _ => none
  | .flipInstant _ => none
  | .scrimTableCheck _ _ => none
  | .restingRotation _ _ => none
  | .loopTrimUpdate _ => none
  | .echoReceived _ _ _ => none
  | .statusReceived _ _ _ => none
  | .pongReceived _ _ _ _ => none
  | .downstreamFrameDiscard _ _ => none
  | .tileStatusTimeout _ => none
  | .timeSync _ => none
  | .keepalive _ => none
  | .hopCalPeriodic _ _ => none
  | .tileAssign _ => none
  | .stageResend _ _ => none
  | .stageAckTimeout _ _ => none
  | .commitRepeat _ _ => none
  | .driveRetry _ => none
  | .linkSignalDetect _ => none
  | .linkBlockLock _ => none
  | .linkLockTimeout _ => none
  | .linkUp _ => none
  | .linkDown _ => none
  | .linkQuiet _ => none
  | .quietSilenceTimeout _ => none
  | .heartbeatSend _ => none
  | .heartbeatReceived _ _ => none
  | .heartbeatMiss _ => none
  | .fatalDeclaration _ _ => none
  | .fence _ _ => none
  | .arbiterCommand _ _ _ => none
  | .arbiterCommandMiss _ => none
  | .arbiterFreeze => none
  | .rejoinRelease _ => none
  | .stateCopyComplete _ => none
  | .verificationFrame _ _ => none
  | .coldRebuild _ _ => none
  | .inconclusiveLimit => none
  | .microcodeHandover => none
  | .microcodeSwitch _ => none
  | .trialExpiry => none
  | .cpWatchdogExpiry => none
  | .cpFailure => none
  | .hubBeat => none
  | .refMeasurement _ => none
  | .refStop => none
  | .slewEnd => none
  | .timeStep => none
  | .rateMeasured _ => none
  | .counterCopyCompare _ _ => none
  | .ptpMessageForward _ _ _ _ => none
  | .ppsOutput => none
  | .refreshDue _ _ _ => none
  | .mr4Read _ _ _ => none
  | .trackingRead _ _ _ => none
  | .memoryReadError _ _ _ _ _ _ => none
  | .channelNoData _ _ => none
  | .patrolScrubPass _ _ _ _ => none
  | .recordRepair _ _ _ => none
  | .hashRecompute _ => none
  | .bistSliceStart _ _ _ _ => none
  | .bistSliceEnd _ _ _ _ => none
  | .bistOverdue _ _ => none
  | .calibrationWindow _ _ => none
  | .calibrationRun _ _ => none
  | .diodeTrim _ => none
  | .slowRoundSample _ _ => none
  | .throttleSample _ _ => none
  | .budgetTick _ _ _ => none
  | .opTransition _ _ => none
  | .opSettle _ _ => none
  | .regulatorMonitor _ _ => none
  | .vrPgLow _ => none
  | .gateCloseRequest _ => none
  | .gateCloseTimeout _ => none
  | .thermalTrip _ => none
  | .tripRelease _ => none
  | .rootPllLockLoss _ => none
  | .hubPllLockLoss => none
  | .hubPllRelock => none
  | .refclkStable => none
  | .refclkLoss => none
  | .laneReferenceMeasurement _ => none
  | .pkgRstN => none
  | .powerOn => none
  | .powerDown => none
  | .supplyOutOfRange _ => none
  | .stageChange _ => none
  | .nspHandshake _ _ _ => none
  | .nspJcsRequest _ _ _ => none
  | .nspReassemblyTimeout _ => none
  | .nspData _ _ _ => none
  | .nspRegisterRead _ _ _ _ => none
  | .nspRegisterWrite _ _ _ _ _ => none
  | .nspKeepalive _ => none
  | .anchor _ _ => none
  | .nspSessionTimeout _ => none
  | .idcode => none
  | .samplePreload => none
  | .ksZero => none
  | .ksStatus => none
  | .extest => none
  | .clamp => none
  | .highz => none
  | .scanMode => none
  | .bypass _ => none
  | .dieLinkPoison _ _ => none
  | .dieLinkRestored => none
  | .frameOrderAck _ => none
  | .regionDmaFault _ _ => none
  | .regionResetDone _ _ => none
  | .upstreamFrameInvalid _ _ => none
  | .networkLinkUp _ => none
  | .networkLinkDown _ => none
  | .ptpAnnounceReceived _ => none
  | .ptpDelayResponse _ _ => none
  | .configurationRequest _ _ => none
  | .nspSessionClose _ => none
  | .supplyRestored _ => none
  | .laneReferenceTrimStep => none

/-- A request from a sender that exists, no longer than the mailbox (R293, R312). -/
def Req.wf (r : Req) : Bool := decide (r.src < 66) && decide (r.payload.length ≤ 511)

/-- A channel of a die's memory (R431). -/
def channelOk (die : Die3) (channel : Nat) : Bool := decide (channel < if die = .hub then 8 else 32)

/-- A memory request within a segment, of at most one block (R433, R434). -/
def MemStep.wf : MemStep → Bool
  | .arrive r => decide (r.segment < 8) && r.write.all fun l => decide (r.offset / 8 % 64 + l.length ≤ 64)
  | .slot _ _ => true

/-- The well-formed commands: the opcode in a JCS row's header is the row's, and every identifier is one of R5. -/
def Instr.wf : Instr → Bool
  | .sysInfoRead r => r.wf && decide (r.header.toNat % 65536 = 0x0101)
  | .cmdRead r => r.wf && decide (r.header.toNat % 65536 = 0x0102)
  | .sysNop r => r.wf && decide (r.header.toNat % 65536 = 0x0103)
  | .sysPower r => r.wf && decide (r.header.toNat % 65536 = 0x0110)
  | .sysPowerRead r => r.wf && decide (r.header.toNat % 65536 = 0x0111)
  | .twinStatusRead r => r.wf && decide (r.header.toNat % 65536 = 0x0140)
  | .twinVoteRead r => r.wf && decide (r.header.toNat % 65536 = 0x0141)
  | .twinService r => r.wf && decide (r.header.toNat % 65536 = 0x0142)
  | .pltRead r => r.wf && decide (r.header.toNat % 65536 = 0x0201)
  | .pltPropose r => r.wf && decide (r.header.toNat % 65536 = 0x0202)
  | .pltConfirm r => r.wf && decide (r.header.toNat % 65536 = 0x0203)
  | .pltWithdraw r => r.wf && decide (r.header.toNat % 65536 = 0x0204)
  | .pltProposalRead r => r.wf && decide (r.header.toNat % 65536 = 0x0205)
  | .ringConfig r => r.wf && decide (r.header.toNat % 65536 = 0x0210)
  | .ringStart r => r.wf && decide (r.header.toNat % 65536 = 0x0211)
  | .ringStop r => r.wf && decide (r.header.toNat % 65536 = 0x0212)
  | .eventRoute r => r.wf && decide (r.header.toNat % 65536 = 0x0220)
  | .violationRead r => r.wf && decide (r.header.toNat % 65536 = 0x0230)
  | .srcConfig r => r.wf && decide (r.header.toNat % 65536 = 0x0301)
  | .srcStart r => r.wf && decide (r.header.toNat % 65536 = 0x0302)
  | .srcStop r => r.wf && decide (r.header.toNat % 65536 = 0x0303)
  | .canvasConfig r => r.wf && decide (r.header.toNat % 65536 = 0x0401)
  | .canvasTiles r => r.wf && decide (r.header.toNat % 65536 = 0x0402)
  | .layerConfig r => r.wf && decide (r.header.toNat % 65536 = 0x0403)
  | .blendTree r => r.wf && decide (r.header.toNat % 65536 = 0x0404)
  | .canvasCommit r => r.wf && decide (r.header.toNat % 65536 = 0x0405)
  | .lutLoad r => r.wf && decide (r.header.toNat % 65536 = 0x0406)
  | .meshLoad r => r.wf && decide (r.header.toNat % 65536 = 0x0407)
  | .tileMap r => r.wf && decide (r.header.toNat % 65536 = 0x0501)
  | .tileScan r => r.wf && decide (r.header.toNat % 65536 = 0x0502)
  | .tilePrefs r => r.wf && decide (r.header.toNat % 65536 = 0x0503)
  | .tileCommit r => r.wf && decide (r.header.toNat % 65536 = 0x0504)
  | .tileTxnRead r => r.wf && decide (r.header.toNat % 65536 = 0x0505)
  | .tileRead r => r.wf && decide (r.header.toNat % 65536 = 0x0506)
  | .chainReset r => r.wf && decide (r.header.toNat % 65536 = 0x0507)
  | .portConfig r => r.wf && decide (r.header.toNat % 65536 = 0x0508)
  | .corrCommit r => r.wf && decide (r.header.toNat % 65536 = 0x0601)
  | .corrHash r => r.wf && decide (r.header.toNat % 65536 = 0x0602)
  | .corrProbe r => r.wf && decide (r.header.toNat % 65536 = 0x0603)
  | .corrProbeRead r => r.wf && decide (r.header.toNat % 65536 = 0x0604)
  | .safeZoneRead r => r.wf && decide (r.header.toNat % 65536 = 0x0701)
  | .safeTileRead r => r.wf && decide (r.header.toNat % 65536 = 0x0702)
  | .safeFlashRead r => r.wf && decide (r.header.toNat % 65536 = 0x0703)
  | .safeScrimRead r => r.wf && decide (r.header.toNat % 65536 = 0x0704)
  | .timeRead r => r.wf && decide (r.header.toNat % 65536 = 0x0801)
  | .timeServo r => r.wf && decide (r.header.toNat % 65536 = 0x0802)
  | .timeIncrement r => r.wf && decide (r.header.toNat % 65536 = 0x0803)
  | .ptpConfig r => r.wf && decide (r.header.toNat % 65536 = 0x0804)
  | .ptpStatusRead r => r.wf && decide (r.header.toNat % 65536 = 0x0805)
  | .refConfig r => r.wf && decide (r.header.toNat % 65536 = 0x0806)
  | .canvasTiming r => r.wf && decide (r.header.toNat % 65536 = 0x0820)
  | .timingFlipRead r => r.wf && decide (r.header.toNat % 65536 = 0x0821)
  | .timingChangeRead r => r.wf && decide (r.header.toNat % 65536 = 0x0822)
  | .hopCal r => r.wf && decide (r.header.toNat % 65536 = 0x0823)
  | .hopRead r => r.wf && decide (r.header.toNat % 65536 = 0x0824)
  | .checkSet r => r.wf && decide (r.header.toNat % 65536 = 0x0825)
  | .checkRead r => r.wf && decide (r.header.toNat % 65536 = 0x0826)
  | .sapConfig r => r.wf && decide (r.header.toNat % 65536 = 0x0901)
  | .sapStart r => r.wf && decide (r.header.toNat % 65536 = 0x0902)
  | .sapStop r => r.wf && decide (r.header.toNat % 65536 = 0x0903)
  | .sapMute r => r.wf && decide (r.header.toNat % 65536 = 0x0904)
  | .sapStatusRead r => r.wf && decide (r.header.toNat % 65536 = 0x0905)
  | .decConfig r => r.wf && decide (r.header.toNat % 65536 = 0x0A01)
  | .decStart r => r.wf && decide (r.header.toNat % 65536 = 0x0A02)
  | .decStop r => r.wf && decide (r.header.toNat % 65536 = 0x0A03)
  | .encConfig r => r.wf && decide (r.header.toNat % 65536 = 0x0A10)
  | .encStart r => r.wf && decide (r.header.toNat % 65536 = 0x0A11)
  | .encStop r => r.wf && decide (r.header.toNat % 65536 = 0x0A12)
  | .vcxStatusRead r => r.wf && decide (r.header.toNat % 65536 = 0x0A20)
  | .diagSlotRead r => r.wf && decide (r.header.toNat % 65536 = 0x0B01)
  | .diagLayerRead r => r.wf && decide (r.header.toNat % 65536 = 0x0B02)
  | .diagPortRead r => r.wf && decide (r.header.toNat % 65536 = 0x0B03)
  | .diagMemRead r => r.wf && decide (r.header.toNat % 65536 = 0x0B10)
  | .diagThermalRead r => r.wf && decide (r.header.toNat % 65536 = 0x0B20)
  | .diagCalRead r => r.wf && decide (r.header.toNat % 65536 = 0x0B30)
  | .diagBistRead r => r.wf && decide (r.header.toNat % 65536 = 0x0B31)
  | .fwLoad r => r.wf && decide (r.header.toNat % 65536 = 0x0C01)
  | .fwActivate r => r.wf && decide (r.header.toNat % 65536 = 0x0C02)
  | .fwConfirm r _ => r.wf && decide (r.header.toNat % 65536 = 0x0C03)
  | .fwStatusRead r => r.wf && decide (r.header.toNat % 65536 = 0x0C04)
  | .tileFwRelay r => r.wf && decide (r.header.toNat % 65536 = 0x0C10)
  | .pkgReset r => r.wf && decide (r.header.toNat % 65536 = 0x0C20)
  | .pkgHalt r => r.wf && decide (r.header.toNat % 65536 = 0x0C21)
  | .sysPowerComplete => true
  | .twinServiceComplete => true
  | .proposalExpiry => true
  | .settingsAreaWrite area _ => decide (area < 2)
  | .timingChangeComplete canvas => decide (canvas < 4)
  | .tableLoadComplete _ _ => true
  | .chainResetCommit port => decide (port < 64)
  | .corrProbeCapture f => decide (f < 64)
  | .hopCalComplete port => decide (port < 64)
  | .fwLoadComplete _ => true
  | .fwActivateComplete => true
  | .tileFwRelayComplete => true
  | .unknownOpcode r => r.wf
  | .partitionViolationReply r => r.wf
  | .mboxSubmit f _ => decide (f < 64)
  | .requestMailboxWrite f _ _ _ => decide (f < 64)
  | .ringDoorbell f i _ => decide (f < 64) && decide (i < 4096)
  | .bar2Write f _ _ _ => decide (f < 64)
  | .bar2Read f _ _ => decide (f < 64)
  | .msixUnmask f _ => decide (f < 64)
  | .registerWrite f _ _ _ _ => decide (f < 64)
  | .functionLevelReset f => decide (f < 64)
  | .linkReset link _ => decide (link < 4)
  | .linkTrainingStart link => decide (link < 4)
  | .pullSegment ring _ => decide (ring < 262144)
  | .pullSegmentDone slot _ => decide (slot < 32)
  | .pullTimeout slot => decide (slot < 32)
  | .submit ring _ => decide (ring < 262144)
  | .cancel ring _ => decide (ring < 262144)
  | .pullBufferWaitEnd slot => decide (slot < 32)
  | .releasePosted slot buf => decide (slot < 32) && decide (buf < 8)
  | .records ring _ => decide (ring < 262144)
  | .tileBlock ring _ => decide (ring < 262144)
  | .correctionLoadDone tile _ => decide (tile < 512)
  | .encBuf ring _ => decide (ring < 262144)
  | .play ring _ _ => decide (ring < 262144)
  | .capture ring _ => decide (ring < 262144)
  | .dtypeMismatch ring _ => decide (ring < 262144)
  | .descriptorFetch _ => true
  | .ringWriteBack ring _ => decide (ring < 262144)
  | .completionRoom ring => decide (ring < 262144)
  | .eventDelivery => true
  | .netPacket port _ => decide (port < 4)
  | .netFrameTimeout slot => decide (slot < 32)
  | .netLegLoss slot leg => decide (slot < 32) && decide (leg < 2)
  | .decodePacket port _ => decide (port < 4)
  | .jitterWindowClose session => decide (session < 4)
  | .decodeLegLoss session leg => decide (session < 4) && decide (leg < 2)
  | .pictureDecoded session _ => decide (session < 4)
  | .encodeCapture session => decide (session < 2)
  | .accessUnitDone session _ => decide (session < 2)
  | .audioPacket port _ => decide (port < 4)
  | .audioLegLoss sap part leg => decide (sap < 8) && decide (part < 2) && decide (leg < 2)
  | .audioBlock sap _ => decide (sap < 8)
  | .sapZeroCrossingChange sap channel => decide (sap < 8) && decide (channel < 16)
  | .awclkLoss => true
  | .awclkReturn => true
  | .selectionInstant canvas => decide (canvas < 4)
  | .frameOrderAckTimeout canvas => decide (canvas < 4)
  | .engineWatchdogExpiry _ engine => decide (engine < 128)
  | .regionComputed _ tile region _ => decide (tile < 512) && decide (region < 256)
  | .regionReport tile region => decide (tile < 512) && decide (region < 256)
  | .replayResult _ tile region _ cluster => decide (tile < 512) && decide (region < 256) && decide (cluster < 16)
  | .regionSend port tile region _ => decide (port < 64) && decide (tile < 512) && decide (region < 256)
  | .frameVerdict canvas _ => decide (canvas < 4)
  | .scrimIdleLatentTest _ region _ => decide (region < 4)
  | .verdictTimeout _ canvas => decide (canvas < 4)
  | .flipInstant canvas => decide (canvas < 4)
  | .scrimTableCheck _ table => decide (table.region < 4)
  | .restingRotation _ region => decide (region < 4)
  | .loopTrimUpdate canvas => decide (canvas < 4)
  | .echoReceived port _ _ => decide (port < 64)
  | .statusReceived port _ _ => decide (port < 64)
  | .pongReceived port _ _ _ => decide (port < 64)
  | .downstreamFrameDiscard port _ => decide (port < 64)
  | .tileStatusTimeout tile => decide (tile < 512)
  | .timeSync port => decide (port < 64)
  | .keepalive port => decide (port < 64)
  | .hopCalPeriodic port pos => decide (port < 64) && decide (pos < 17)
  | .tileAssign port => decide (port < 64)
  | .stageResend xid port => decide (xid < 65536) && decide (port < 64)
  | .stageAckTimeout xid port => decide (xid < 65536) && decide (port < 64)
  | .commitRepeat xid port => decide (xid < 65536) && decide (port < 64)
  | .driveRetry tile => decide (tile < 512)
  | .linkSignalDetect port => decide (port < 64)
  | .linkBlockLock run => decide (run.port < 64)
  | .linkLockTimeout port => decide (port < 64)
  | .linkUp port => decide (port < 64)
  | .linkDown loss => decide (loss.port < 64)
  | .linkQuiet port => decide (port < 64)
  | .quietSilenceTimeout port => decide (port < 64)
  | .heartbeatSend _ => true
  | .heartbeatReceived _ _ => true
  | .heartbeatMiss _ => true
  | .fatalDeclaration _ _ => true
  | .fence _ _ => true
  | .arbiterCommand _ _ _ => true
  | .arbiterCommandMiss _ => true
  | .arbiterFreeze => true
  | .rejoinRelease _ => true
  | .stateCopyComplete _ => true
  | .verificationFrame _ _ => true
  | .coldRebuild _ _ => true
  | .inconclusiveLimit => true
  | .microcodeHandover => true
  | .microcodeSwitch canvas => decide (canvas < 4)
  | .trialExpiry => true
  | .cpWatchdogExpiry => true
  | .cpFailure => true
  | .hubBeat => true
  | .refMeasurement _ => true
  | .refStop => true
  | .slewEnd => true
  | .timeStep => true
  | .rateMeasured code => decide (code < 32)
  | .counterCopyCompare _ _ => true
  | .ptpMessageForward _ _ _ _ => true
  | .ppsOutput => true
  | .refreshDue die channel traffic => channelOk die channel && traffic.all MemStep.wf
  | .mr4Read die channel _ => channelOk die channel
  | .trackingRead die channel _ => channelOk die channel
  | .memoryReadError die channel line read _ _ => channelOk die channel && decide (line < 2 ^ 34) && decide (read.source < 2 ^ 34) &&
      decide (read.flips.length = 8)
  | .channelNoData die channel => channelOk die channel
  | .patrolScrubPass die channel _ _ => channelOk die channel
  | .recordRepair _ tile _ => decide (tile < 512)
  | .hashRecompute tile => decide (tile < 512)
  | .bistSliceStart _ region _ _ => decide (region < 4)
  | .bistSliceEnd _ cluster _ _ => decide (cluster < 16)
  | .bistOverdue _ cluster => decide (cluster < 16)
  | .calibrationWindow _ _ => true
  | .calibrationRun _ _ => true
  | .diodeTrim _ => true
  | .slowRoundSample _ _ => true
  | .throttleSample _ _ => true
  | .budgetTick _ _ _ => true
  | .opTransition _ _ => true
  | .opSettle _ _ => true
  | .regulatorMonitor _ _ => true
  | .vrPgLow _ => true
  | .gateCloseRequest _ => true
  | .gateCloseTimeout _ => true
  | .thermalTrip _ => true
  | .tripRelease _ => true
  | .rootPllLockLoss _ => true
  | .hubPllLockLoss => true
  | .hubPllRelock => true
  | .refclkStable => true
  | .refclkLoss => true
  | .laneReferenceMeasurement _ => true
  | .pkgRstN => true
  | .powerOn => true
  | .powerDown => true
  | .supplyOutOfRange _ => true
  | .stageChange _ => true
  | .nspHandshake session _ _ => decide (session < 2)
  | .nspJcsRequest session _ _ => decide (session < 2)
  | .nspReassemblyTimeout session => decide (session < 2)
  | .nspData session _ _ => decide (session < 2)
  | .nspRegisterRead session _ _ _ => decide (session < 2)
  | .nspRegisterWrite session _ _ _ _ => decide (session < 2)
  | .nspKeepalive session => decide (session < 2)
  | .anchor session _ => decide (session < 2)
  | .nspSessionTimeout session => decide (session < 2)
  | .idcode => true
  | .samplePreload => true
  | .ksZero => true
  | .ksStatus => true
  | .extest => true
  | .clamp => true
  | .highz => true
  | .scanMode => true
  | .bypass _ => true
  | .dieLinkPoison word _ => decide (word.link < 3)
  | .dieLinkRestored => true
  | .frameOrderAck canvas => decide (canvas < 4)
  | .regionDmaFault _ region => decide (region < 4)
  | .regionResetDone _ region => decide (region < 4)
  | .upstreamFrameInvalid port _ => decide (port < 64)
  | .networkLinkUp port => decide (port < 4)
  | .networkLinkDown port => decide (port < 4)
  | .ptpAnnounceReceived _ => true
  | .ptpDelayResponse _ _ => true
  | .configurationRequest f _ => decide (f < 64)
  | .nspSessionClose session => decide (session < 2)
  | .supplyRestored _ => true
  | .laneReferenceTrimStep => true

end Sys2Proof
end

