-- ==== Sys2Proof/Safety.lean ====
section
/-! DEFINITION. What counts as a safe run, and the terms the statements use: a request that is served, where the common
checks of R317 turn one away, and the descriptor a ring gives. -/

namespace Sys2Proof.Machine

/-- The step at `s` answers a next state, not a fault or a refusal. -/
def Advances (s : State) : Prop := ∃ t, step s = .next t

/-- The TRUNC flag that R317 gives a request of more than 511 words. -/
def cut (r : Req) : Bool := decide (511 < r.len)

/-- Request `r` carries the opcode of `op`, is taken in state `s` (which leaves `s1`), and passes the common checks 1 to 5
of R317 there: a LEN that is not all ones, a STAGE that serves the opcode (R325), a sender entitled to it and its resources
(R320, R328), and for a long command fewer than 16 in flight (R321). -/
structure Served (op : JcsOp) (r : Req) (s s1 : State) : Prop where
  opcode   : r.opcode = op.opcode
  taken    : takeRequest s r = some s1
  len      : r.len ≠ 0xFFFF
  halted   : s1.hub.stage = .halted → haltServes op.opcode = true
  entitled : entitled op s1 r = true
  room     : op.long = true → inFlight (s1.func r.who) < 16

/-- The state with the response to `r` posted and the request ended: a restart that waited for the last answer begins (R326). -/
def replied (s : State) (r : Req) (status : Nat) (trunc : Bool) (payload : List Word) : State :=
  endRequest (respond s r status trunc payload)

/-- The state with the response OK to `r` posted and its payload. -/
def okTo (s : State) (r : Req) (payload : List Word) : State := replied s r 0 (cut r) payload

/-- The state with the long command `r` recorded and its response ACCEPTED posted (R319, R321). -/
def acceptedTo (s : State) (r : Req) (canvas : Option Nat) : State :=
  replied (startLong s r (cut r) canvas) r 1 (cut r) []

/-- What the common checks know of the opcode of a JCS row (R328), and the row's request. -/
def commonOf (i : Instr) : Option (JcsOp × Req) :=
  match i.jcs with
  | some (n, r) =>
    match allOps.find? fun op => decide (op.opcode = n) with
    | some op => some (op, r)
    | none => none
  | none => none

/-! ### What a command may change -/

/-- The parts of the state, but for the queue. -/
inductive Part where
  | hub | plt | queues | frames | links | dies | time | media | clocks | therm | budget | firmware | service | out | free
  deriving DecidableEq, Repr

/-- Every part, the model's own two last. -/
def allParts : List Part :=
  [.hub, .plt, .queues, .frames, .links, .dies, .time, .media, .clocks, .therm, .budget, .firmware, .service, .out, .free]

/-- From `s` to `t` the queue and every part that `l` does not list are unchanged. -/
structure Same (l : List Part) (s t : State) : Prop where
  pending  : t.pending = s.pending
  hub      : .hub ∉ l → t.hub = s.hub
  plt      : .plt ∉ l → t.plt = s.plt
  queues   : .queues ∉ l → t.queues = s.queues
  frames   : .frames ∉ l → t.frames = s.frames
  links    : .links ∉ l → t.links = s.links
  dies     : .dies ∉ l → t.dies = s.dies
  time     : .time ∉ l → t.time = s.time
  media    : .media ∉ l → t.media = s.media
  clocks   : .clocks ∉ l → t.clocks = s.clocks
  therm    : .therm ∉ l → t.thermA = s.thermA ∧ t.thermB = s.thermB ∧ t.thermH = s.thermH
  budget   : .budget ∉ l → t.budget = s.budget
  firmware : .firmware ∉ l → t.firmware = s.firmware
  service  : .service ∉ l → t.service = s.service
  out      : .out ∉ l → t.out = s.out
  free     : .free ∉ l → t.free = s.free

/-- The parts that a command may change, by what its rules name: a request changes its sender's mailbox and emits its response;
an event is queued for its routes; a fence takes ports, memory, clocks and votes with it. -/
def touches (i : Instr) : List Part :=
  match i with
  | .mboxSubmit .. | .requestMailboxWrite .. | .linkTrainingStart .. | .hubBeat =>
    [.hub]
  | .awclkReturn =>
    [.media]
  | .restingRotation .. | .arbiterCommandMiss .. | .dieLinkRestored | .regionDmaFault .. | .regionResetDone .. =>
    [.dies]
  | .downstreamFrameDiscard .. | .linkSignalDetect .. | .linkBlockLock .. | .linkQuiet .. | .upstreamFrameInvalid .. =>
    [.links]
  | .slewEnd | .counterCopyCompare .. | .ptpDelayResponse .. =>
    [.time]
  | .hashRecompute .. =>
    [.frames]
  | .diodeTrim .. | .nspReassemblyTimeout .. | .nspData .. | .nspKeepalive .. | .anchor .. | .supplyRestored .. =>
    [.service]
  | .gateCloseRequest .. | .laneReferenceTrimStep =>
    [.clocks]
  | .proposalExpiry =>
    [.plt, .queues]
  | .corrProbeCapture .. | .ringDoorbell .. =>
    [.hub, .queues]
  | .bar2Read .. | .msixUnmask .. | .configurationRequest .. =>
    [.hub, .out]
  | .descriptorFetch .. =>
    [.queues, .out]
  | .netPacket .. | .netFrameTimeout .. | .netLegLoss .. | .scrimTableCheck .. | .recordRepair .. =>
    [.queues, .frames]
  | .decodeLegLoss .. | .encodeCapture .. | .audioPacket .. | .audioLegLoss .. | .awclkLoss =>
    [.queues, .media]
  | .frameOrderAckTimeout .. | .heartbeatSend .. | .fatalDeclaration .. =>
    [.dies, .out]
  | .tileStatusTimeout .. | .linkLockTimeout .. =>
    [.queues, .links]
  | .arbiterFreeze =>
    [.queues, .dies]
  | .refStop | .networkLinkDown .. | .ptpAnnounceReceived .. =>
    [.queues, .time]
  | .ptpMessageForward .. | .ppsOutput =>
    [.time, .out]
  | .refreshDue .. | .gateCloseTimeout .. | .laneReferenceMeasurement .. =>
    [.queues, .clocks]
  | .nspHandshake .. =>
    [.queues, .service]
  | .nspJcsRequest .. =>
    [.hub, .service]
  | .idcode | .samplePreload | .ksStatus | .extest | .clamp | .highz | .scanMode | .bypass .. =>
    [.service, .out]
  | .twinServiceComplete =>
    [.hub, .queues, .dies]
  | .settingsAreaWrite .. =>
    [.plt, .queues, .firmware]
  | .tableLoadComplete .. =>
    [.hub, .queues, .frames]
  | .hopCalComplete .. =>
    [.hub, .queues, .links]
  | .fwLoadComplete .. =>
    [.hub, .queues, .firmware]
  | .bar2Write .. =>
    [.hub, .frames, .out]
  | .registerWrite .. | .ringWriteBack .. =>
    [.hub, .queues, .out]
  | .pullSegmentDone .. | .pullTimeout .. | .pullBufferWaitEnd .. | .releasePosted .. | .correctionLoadDone ..
  | .dtypeMismatch .. | .completionRoom .. =>
    [.queues, .frames, .out]
  | .eventDelivery =>
    [.queues, .service, .out]
  | .decodePacket .. | .jitterWindowClose .. | .pictureDecoded .. =>
    [.queues, .frames, .media]
  | .engineWatchdogExpiry .. =>
    [.links, .dies, .out]
  | .loopTrimUpdate .. =>
    [.queues, .frames, .free]
  | .timeSync .. | .keepalive .. | .hopCalPeriodic .. | .stageResend .. =>
    [.links, .out, .free]
  | .stateCopyComplete .. =>
    [.queues, .frames, .dies]
  | .bistSliceStart .. =>
    [.dies, .clocks, .therm]
  | .bistOverdue .. =>
    [.queues, .dies, .clocks]
  | .nspRegisterRead .. =>
    [.service, .out, .free]
  | .nspRegisterWrite .. =>
    [.clocks, .service, .out]
  | .frameOrderAck .. =>
    [.frames, .dies, .free]
  | .networkLinkUp .. =>
    [.queues, .time, .service]
  | .timingChangeComplete .. =>
    [.hub, .queues, .frames, .time]
  | .fwActivateComplete =>
    [.hub, .queues, .firmware, .free]
  | .pullSegment .. | .submit .. | .cancel .. | .records .. | .tileBlock .. =>
    [.hub, .queues, .frames, .out]
  | .accessUnitDone .. | .audioBlock .. | .sapZeroCrossingChange .. =>
    [.queues, .frames, .media, .out]
  | .regionReport .. =>
    [.queues, .frames, .links, .dies]
  | .driveRetry .. =>
    [.plt, .links, .out, .free]
  | .cpFailure =>
    [.hub, .plt, .time, .media]
  | .mr4Read .. | .slowRoundSample .. | .throttleSample .. =>
    [.queues, .dies, .clocks, .therm]
  | .patrolScrubPass .. =>
    [.queues, .frames, .clocks, .therm]
  | .budgetTick .. =>
    [.queues, .clocks, .therm, .budget]
  | .regulatorMonitor .. | .rootPllLockLoss .. =>
    [.queues, .dies, .clocks, .out]
  | .vrPgLow .. =>
    [.queues, .dies, .out, .free]
  | .sysInfoRead .. | .cmdRead .. | .sysNop .. | .sysPowerRead .. | .twinStatusRead .. | .twinVoteRead .. | .pltRead ..
  | .pltPropose .. | .pltWithdraw .. | .pltProposalRead .. | .ringStart .. | .ringStop .. | .eventRoute .. | .violationRead ..
  | .tileTxnRead .. | .tileRead .. | .corrHash .. | .corrProbe .. | .corrProbeRead .. | .safeZoneRead .. | .safeTileRead ..
  | .safeFlashRead .. | .safeScrimRead .. | .timeRead .. | .ptpStatusRead .. | .timingFlipRead .. | .timingChangeRead ..
  | .hopRead .. | .checkRead .. | .sapStatusRead .. | .vcxStatusRead .. | .diagSlotRead .. | .diagLayerRead ..
  | .diagPortRead .. | .diagMemRead .. | .diagThermalRead .. | .diagCalRead .. | .diagBistRead .. | .fwStatusRead ..
  | .pkgReset .. | .unknownOpcode .. | .partitionViolationReply .. | .nspSessionTimeout .. | .nspSessionClose .. =>
    [.hub, .plt, .queues, .service, .out]
  | .encBuf .. | .capture .. =>
    [.hub, .queues, .frames, .media, .out]
  | .regionSend .. =>
    [.queues, .frames, .links, .out, .free]
  | .scrimIdleLatentTest .. =>
    [.queues, .frames, .links, .dies, .out]
  | .verdictTimeout .. =>
    [.frames, .links, .dies, .out, .free]
  | .tileAssign .. =>
    [.hub, .queues, .links, .out, .free]
  | .opTransition .. | .opSettle .. =>
    [.queues, .dies, .clocks, .out, .free]
  | .hubPllLockLoss =>
    [.hub, .plt, .time, .media, .clocks]
  | .ringConfig .. | .srcConfig .. | .srcStart .. | .srcStop .. | .canvasConfig .. | .canvasTiles .. | .layerConfig ..
  | .blendTree .. | .lutLoad .. | .meshLoad .. | .tileScan .. | .corrCommit .. | .canvasTiming .. | .checkSet .. =>
    [.hub, .plt, .queues, .frames, .service, .out]
  | .tileMap .. | .tilePrefs .. | .portConfig .. =>
    [.hub, .plt, .queues, .links, .service, .out]
  | .timeServo .. | .ptpConfig .. | .refConfig .. =>
    [.hub, .plt, .queues, .time, .service, .out]
  | .sapConfig .. | .sapStart .. | .sapMute .. | .decConfig .. | .decStart .. | .encStart .. | .encStop .. =>
    [.hub, .plt, .queues, .media, .service, .out]
  | .fwLoad .. | .fwConfirm .. =>
    [.hub, .plt, .queues, .firmware, .service, .out]
  | .tileFwRelayComplete =>
    [.hub, .queues, .links, .firmware, .out, .free]
  | .play .. =>
    [.hub, .queues, .frames, .media, .out, .free]
  | .replayResult .. | .frameVerdict .. =>
    [.queues, .frames, .links, .dies, .out, .free]
  | .pongReceived .. =>
    [.hub, .queues, .frames, .links, .out, .free]
  | .linkUp .. =>
    [.queues, .frames, .links, .service, .out, .free]
  | .timeStep =>
    [.hub, .queues, .frames, .links, .time, .media]
  | .rateMeasured .. =>
    [.queues, .frames, .links, .time, .out, .free]
  | .bistSliceEnd .. =>
    [.queues, .frames, .links, .dies, .clocks, .out]
  | .hubPllRelock =>
    [.hub, .plt, .queues, .clocks, .service, .out]
  | .sysPowerComplete =>
    [.hub, .queues, .frames, .links, .clocks, .out, .free]
  | .tileCommit .. | .hopCal .. =>
    [.hub, .plt, .queues, .links, .service, .out, .free]
  | .chainResetCommit .. =>
    [.hub, .plt, .queues, .frames, .links, .out, .free]
  | .sapStop .. | .decStop .. | .functionLevelReset .. | .linkReset .. =>
    [.hub, .plt, .queues, .frames, .media, .service, .out]
  | .encConfig .. =>
    [.hub, .plt, .queues, .media, .service, .out, .free]
  | .regionComputed .. =>
    [.hub, .queues, .frames, .links, .dies, .out, .free]
  | .statusReceived .. =>
    [.hub, .queues, .frames, .links, .firmware, .out, .free]
  | .commitRepeat .. =>
    [.hub, .plt, .queues, .links, .firmware, .out, .free]
  | .linkDown .. | .quietSilenceTimeout .. =>
    [.queues, .frames, .links, .time, .service, .out, .free]
  | .refMeasurement .. =>
    [.hub, .queues, .frames, .links, .time, .media, .out]
  | .sysPower .. =>
    [.hub, .plt, .queues, .links, .clocks, .service, .out, .free]
  | .pltConfirm .. | .canvasCommit .. =>
    [.hub, .plt, .queues, .frames, .links, .service, .out, .free]
  | .tileFwRelay .. =>
    [.hub, .plt, .queues, .links, .firmware, .service, .out, .free]
  | .echoReceived .. =>
    [.hub, .plt, .queues, .frames, .links, .firmware, .out, .free]
  | .channelNoData .. =>
    [.hub, .plt, .queues, .dies, .time, .media, .clocks, .out]
  | .calibrationRun .. =>
    [.queues, .links, .time, .clocks, .therm, .service, .out, .free]
  | .timeIncrement .. =>
    [.hub, .plt, .queues, .frames, .links, .time, .media, .service, .out]
  | .stageAckTimeout .. =>
    [.hub, .plt, .queues, .frames, .links, .time, .firmware, .out, .free]
  | .trackingRead .. =>
    [.hub, .plt, .queues, .dies, .time, .media, .clocks, .service, .out]
  | .memoryReadError .. =>
    [.hub, .plt, .queues, .frames, .dies, .time, .media, .clocks, .out]
  | .thermalTrip .. =>
    [.hub, .plt, .queues, .dies, .time, .media, .therm, .firmware, .service]
  | .chainReset .. | .fwActivate .. | .microcodeSwitch .. | .trialExpiry =>
    [.hub, .plt, .queues, .frames, .links, .time, .firmware, .service, .out, .free]
  | .selectionInstant .. | .arbiterCommand .. =>
    [.hub, .plt, .queues, .frames, .links, .dies, .time, .firmware, .out, .free]
  | .heartbeatReceived .. | .heartbeatMiss .. | .fence .. | .inconclusiveLimit | .dieLinkPoison .. =>
    [.queues, .frames, .links, .dies, .time, .clocks, .firmware, .service, .out, .free]
  | .pkgHalt .. =>
    [.hub, .plt, .queues, .frames, .links, .dies, .time, .clocks, .service, .out, .free]
  | .cpWatchdogExpiry =>
    [.hub, .plt, .queues, .frames, .links, .time, .media, .firmware, .service, .out, .free]
  | .calibrationWindow .. =>
    [.queues, .frames, .links, .dies, .time, .clocks, .therm, .firmware, .service, .out, .free]
  | .twinService .. | .rejoinRelease .. | .verificationFrame .. | .coldRebuild .. | .microcodeHandover | .stageChange .. =>
    [.hub, .plt, .queues, .frames, .links, .dies, .time, .clocks, .firmware, .service, .out, .free]
  | .ksZero =>
    [.hub, .plt, .queues, .frames, .links, .dies, .time, .media, .clocks, .service, .out, .free]
  | .flipInstant .. =>
    [.hub, .plt, .queues, .frames, .links, .dies, .time, .media, .therm, .firmware, .service, .out, .free]
  | .refclkLoss =>
    [.hub, .plt, .queues, .frames, .links, .dies, .time, .media, .clocks, .firmware, .service, .out, .free]
  | .tripRelease .. | .refclkStable | .pkgRstN | .powerOn | .powerDown =>
    allParts.take 14
  | .supplyOutOfRange .. =>
    [.hub, .plt, .queues, .frames, .links, .dies, .time, .media, .clocks, .therm, .budget, .firmware, .service, .out, .free]

/-! ### Invariants -/

/-- The contents of the source buffers of a die are in canonical form (R42). -/
def bufsWf (m : Tbl (Tbl Byte)) : Bool := Tbl.wf [] m && m.all fun x => Tbl.wf 0 x.2

/-- What every step keeps: canonical buffers in both dies, at most four owner anchors of 48 bytes each (R506). -/
structure Inv (s : State) : Prop where
  bufsA   : bufsWf s.frames.memA = true
  bufsB   : bufsWf s.frames.memB = true
  count   : s.service.keys.anchors.length ≤ 4
  digests : ∀ a ∈ s.service.keys.anchors, a.length = 48

end Sys2Proof.Machine
end

