-- ==== Sys2Proof/Certificates/Slice0/Obligations.lean ====
section
/-! DEFINITION. The statements for the provers. `Served`, `okTo`, `acceptedTo`, `commonOf` and `cut` stand in Safety.lean. -/

open Sys2Proof Sys2Proof.Machine

/-! ### The queue and the reset state -/

/-- A step takes the command at the front of the queue and runs it on the state with the queue's rest. -/
def Obligations.StepRunsFront : Prop :=
  ∀ (s : State) (c : Instr) (rest : List Instr), s.pending = c :: rest → step s = exec c { s with pending := rest }

/-- A step on an empty queue passes one tick (the model's choice, log entry 1): a next state, whose queue is empty. -/
def Obligations.StepTicksWhenIdle : Prop :=
  ∀ s : State, s.pending = [] → step s = .next (idleTick s)

/-! ### The common checks of a JCS request (R317, R320, R321, R325) -/

/-- R317 for every JCS row: the first check that fails decides the response. LEN = 0xFFFF gives BADLEN; in STAGE 8 an opcode
outside the list of R325 gives NOTREADY; a sender not entitled, or a resource outside its partition, gives OK with zeros, no
effect but one more violation; a long command of a sender with 16 in flight gives BUSY. A request that carries another row's
opcode, or that cannot be taken now (log entry 2), changes nothing. -/
def Obligations.CommonChecks : Prop :=
  (∀ (i : Instr) (op : JcsOp) (r : Req) (s s1 : State),
     commonOf i = some (op, r) → r.opcode = op.opcode → takeRequest s r = some s1 →
     (r.len = 0xFFFF → exec i s = .next (replied s1 r 3 false [])) ∧
     (r.len ≠ 0xFFFF → s1.hub.stage = .halted → haltServes op.opcode = false →
       exec i s = .next (replied s1 r 5 (cut r) [])) ∧
     (r.len ≠ 0xFFFF → (s1.hub.stage = .halted → haltServes op.opcode = true) → entitled op s1 r = false →
       exec i s = .next (replied (violate s1 r.who) r 0 false (List.replicate (op.zeros s1 r) 0 |>.take 511))) ∧
     (r.len ≠ 0xFFFF → (s1.hub.stage = .halted → haltServes op.opcode = true) → entitled op s1 r = true → op.long = true →
       16 ≤ inFlight (s1.func r.who) → exec i s = .next (replied s1 r 2 (cut r) []))) ∧
  (∀ (i : Instr) (op : JcsOp) (r : Req) (s : State), commonOf i = some (op, r) →
     (r.opcode ≠ op.opcode ∨ takeRequest s r = none) → exec i s = .next s)

/-- UNKNOWN_OPCODE: an opcode outside the table of R328 gives BADPARAM after the LEN checks (R317 checks 1 to 3);
PARTITION_VIOLATION_REPLY: a request that check 4 refuses gives OK with zeros and counts (R320). The model's choices it rests on:
log entry 2. -/
def Obligations.UnknownAndRefused : Prop :=
  ∀ (r : Req) (s s1 : State), takeRequest s r = some s1 → r.len ≠ 0xFFFF →
    (knownOpcodes.contains r.opcode = false → exec (.unknownOpcode r) s = .next (replied s1 r 4 (cut r) [])) ∧
    (∀ op ∈ allOps, r.opcode = op.opcode → (s1.hub.stage = .halted → haltServes op.opcode = true) →
      entitled op s1 r = false →
      exec (.partitionViolationReply r) s =
        .next (replied (violate s1 r.who) r 0 false (List.replicate (op.zeros s1 r) 0 |>.take 511)))

/-! ### Host commands and the mailbox -/

/-- R329: SYS_INFO_READ answers serial, memory sizes, MODE and BIF, the firmware word and JCS version 1; SYS_NOP returns its
payload with status OK and has no other effect. -/
def Obligations.InfoAndNop : Prop :=
  ∀ (r : Req) (s s1 : State),
    (Served opSysInfoRead r s s1 → exec (.sysInfoRead r) s = .next (okTo s1 r
      [Config.packageSerial,
       put s1.hub.gibA 8 0 ||| put s1.hub.gibB 8 8 ||| put s1.hub.gibH 8 16 |||
         put (if s1.hub.reached then (match s1.hub.mode with | .unknown => 0 | .twin => 1 | .span => 2) else 0) 2 24 ||| put s1.hub.straps.toNat 2 26,
       fwVersionWord s1.hub, 1])) ∧
    (Served opSysNop r s s1 → exec (.sysNop r) s = .next (okTo s1 r r.words))

/-- CMD_READ (R314, R324): the latest accepted of the sender's 16 most recent long commands with the TAG, its opcode, status,
TRUNC, FOUND, DONE and its two times; three zero words where none has the TAG. The request mailbox (R303, R304): a SUBMIT at STAGE
6 of a mailbox that is not BUSY accepts the request that stands in it and makes it BUSY; while BUSY, a SUBMIT or a write sets DROP
and changes nothing else; a write of 4 or 8 bytes is stored. -/
def Obligations.MailboxAndCmdRead : Prop :=
  (∀ (r : Req) (s s1 : State), Served opCmdRead r s s1 →
     (∀ l : LongCmd, (((s1.func r.who).longs.take 16).find? fun l => l.tag.toNat = fld (r.word 0) 15 0) = some l →
       exec (.cmdRead r) s = .next (okTo s1 r
         [put l.opcode.toNat 16 0 ||| put l.status.toNat 8 16 ||| putB l.trunc 24 ||| putB true 25 ||| putB l.done 26,
          BitVec.ofNat 64 l.accepted, BitVec.ofNat 64 l.completed])) ∧
     ((∀ l ∈ (s1.func r.who).longs.take 16, l.tag.toNat ≠ fld (r.word 0) 15 0) →
       exec (.cmdRead r) s = .next (okTo s1 r [0, 0, 0]))) ∧
  (∀ (s : State) (f : Nat) (value : Word), s.inUse f = true → s.hub.stage = .ready → s.hub.cpFailed = false →
     (bit value 0 = true → (s.func f).mbox ≠ .busy → exec (.mboxSubmit f value) s =
       .next ((s.modHub fun h => { h with accepted := h.accepted ++ [(s.wall, mailboxRequest f (s.func f))] }).modFunc f
         fun x => { x with mbox := .busy, drop := false })) ∧
     (bit value 0 = true → (s.func f).mbox = .busy →
       exec (.mboxSubmit f value) s = .next (s.modFunc f fun x => { x with drop := true })) ∧
     (∀ offset size, 0x1000 ≤ offset → offset < 0x2000 → (size = 4 ∨ size = 8) → offset % size = 0 →
       ((s.func f).mbox = .busy →
         exec (.requestMailboxWrite f offset size value) s = .next (s.modFunc f fun x => { x with drop := true })) ∧
       ((s.func f).mbox ≠ .busy → ∃ t, exec (.requestMailboxWrite f offset size value) s = .next t ∧
         Tbl.get 0 (t.func f).reqMem ((offset - 0x1000) / 8) =
           (if size = 8 then value
            else if offset % 8 = 0 then (Tbl.get 0 (s.func f).reqMem ((offset - 0x1000) / 8) &&& 0xFFFFFFFF00000000#64) ||| (value &&& 0xFFFFFFFF#64)
            else (Tbl.get 0 (s.func f).reqMem ((offset - 0x1000) / 8) &&& 0xFFFFFFFF#64) ||| (value <<< 32)) ∧
         (∀ j, j ≠ (offset - 0x1000) / 8 → Tbl.get 0 (t.func f).reqMem j = Tbl.get 0 (s.func f).reqMem j) ∧
         (∀ g, g ≠ f → t.func g = s.func g))))

/-- VIOLATION_READ (R352): the service port gets 32 words, word i with the counter of function 2i in its low and of function 2i +
1 in its high half; a PCI Express function gets OK with an all-zero payload. -/
def Obligations.ViolationRead : Prop :=
  ∀ (r : Req) (s s1 : State), r.opcode = 0x0230 → takeRequest s r = some s1 → r.len ≠ 0xFFFF → s1.hub.stage ≠ .halted →
    (64 ≤ r.who → exec (.violationRead r) s = .next (okTo s1 r ((List.range 32).map fun i =>
      put (s1.func (2 * i)).violations.toNat 32 0 ||| put (s1.func (2 * i + 1)).violations.toNat 32 32))) ∧
    (r.who < 64 → exec (.violationRead r) s = .next (replied (violate s1 r.who) r 0 false (List.replicate 32 0)))

/-! ### The Partition and Limits Table -/

/-- PLT_READ (R341): the entries from INDEX on, as many as COUNT, the section and 511 words allow; a principal reads every word of
the confirmed table, another function zeros for an entry it may not read. SETTINGS_AREA_WRITE (R348, R503): the write that is due
stores the confirmed table in its area under the next ASEQ and leaves the other area; one that fails its check raises E202 code
0x06 and stores nothing. PLT_PROPOSE (R343, R344): with no proposal pending and well-formed edits, the proposal is recorded with
an expiry 30 s ahead, E202 code 0x01 raised and STAGED answered with PID and EXPIRY; no limit changes. PLT_CONFIRM (R344, R345):
another principal's confirmation within 30 s of a table that is valid and takes no resource in use away applies the change, ends
the proposal and raises E202 code 0x02; the proposer's own gives CONFLICT; a late one TIMEOUT, and the proposal lapses; an invalid
table BADPARAM with E202 code 0x05. PLT_WITHDRAW, PLT_PROPOSAL_READ and PROPOSAL_EXPIRY (R346, R347): the proposer withdraws its
proposal (E202 code 0x04); a principal reads the pending proposal, or one zero word; once its expiry has passed, with no request
of before it waiting, it lapses (E202 code 0x03), and not before. The model's choices it rests on: log entries 2, 74, 82. -/
def Obligations.PltTable : Prop :=
  (∀ (r : Req) (s s1 : State) (sec i count n : Nat), Served opPltRead r s s1 →
     sec = fld (r.word 0) 7 0 → i = fld (r.word 0) 25 16 → count = fld (r.word 0) 41 32 → pltWords sec ≠ 0 →
     n = min count (min (pltEntries sec - i) (511 / pltWords sec)) →
     exec (.pltRead r) s = .next (replied s1 r 0 (decide (n < count) || cut r)
       ((List.range n).flatMap fun k => (List.range (pltWords sec)).map fun j =>
         if s1.principal r.who || pltReadable s1 r.who sec (i + k) then pltGet s1.plt.table sec (i + k) j else 0))) ∧
  (∀ (s : State) (area : Nat), area ≤ 1 → s.plt.writesDue.head? = some area →
     (∃ t, exec (.settingsAreaWrite area true) s = .next t ∧ t.plt.writesDue = s.plt.writesDue.drop 1 ∧
       (let f := t.firmware
        let a := if area = 0 then f.area0 else f.area1
        let b := if area = 0 then f.area1 else f.area0
        a.valid = true ∧ a.blank = false ∧ a.plt = s.plt.table ∧
        a.aseq = max s.firmware.area0.aseq s.firmware.area1.aseq + 1 ∧
        b = (if area = 0 then s.firmware.area1 else s.firmware.area0))) ∧
     (exec (.settingsAreaWrite area false) s =
       .next (raise (s.modPlt fun p => { p with writesDue := p.writesDue.drop 1 }) 202 6 (put area 1 0)))) ∧
  (∀ (r : Req) (s s1 : State) (pid : BitVec 16) (w : Word), Served opPltPropose r s s1 → s1.plt.proposal = none →
     fld (r.word 0) 7 0 ≠ 0 → r.len ≤ 508 → (parseEdits (fld (r.word 0) 7 0) (r.words.drop 1)).isSome →
     pid = Config.firstPid + BitVec.ofNat 16 s1.plt.recorded → w = put pid.toNat 16 0 ||| put r.who 7 16 →
     ∃ p : Proposal, p.pid = pid ∧ p.proposer = r.who ∧ p.edits = r.words ∧ p.expiry = s1.reqTime + 30000000000 ∧
       exec (.pltPropose r) s = .next (replied (raise (s1.modPlt fun t =>
         { t with proposal := some p, recorded := t.recorded + 1 }) 202 1 w) r 9 false [w, BitVec.ofNat 64 p.expiry])) ∧
  (∀ (r : Req) (s s1 : State) (p : Proposal) (l : List (Nat × Word)), Served opPltConfirm r s s1 → s1.plt.proposal = some p →
     fld (r.word 0) 15 0 = p.pid.toNat → l = (parseEdits (fld (wordAt p.edits 0) 7 0) (p.edits.drop 1)).getD [] →
     (p.proposer = r.who → exec (.pltConfirm r) s = .next (replied s1 r 6 (cut r) [])) ∧
     (p.proposer ≠ r.who → p.expiry < s1.reqTime →
       exec (.pltConfirm r) s = .next (replied (raise (s1.modPlt fun t => { t with proposal := none }) 202 3
         (put p.pid.toNat 16 0)) r 7 (cut r) [])) ∧
     (p.proposer ≠ r.who → s1.reqTime ≤ p.expiry → tableValid s1 (pltSet s1.plt.table l) = false →
       exec (.pltConfirm r) s = .next (replied (raise (s1.modPlt fun t => { t with proposal := none }) 202 5
         (put p.pid.toNat 16 0 ||| put r.who 7 24)) r 4 (cut r) [])) ∧
     (p.proposer ≠ r.who → s1.reqTime ≤ p.expiry → tableValid s1 (pltSet s1.plt.table l) = true →
       handsKept s1 (pltSet s1.plt.table l) = false → exec (.pltConfirm r) s = .next (replied s1 r 6 (cut r) [])) ∧
     (p.proposer ≠ r.who → s1.reqTime ≤ p.expiry → tableValid s1 (pltSet s1.plt.table l) = true →
       handsKept s1 (pltSet s1.plt.table l) = true →
       exec (.pltConfirm r) s = .next (okTo (raise (rejudge (applyConfirmed (s1.modPlt fun t => { t with proposal := none }) l)) 202 2
         (put p.pid.toNat 16 0 ||| put p.proposer 7 16 ||| put r.who 7 24)) r [put p.pid.toNat 16 0]))) ∧
  (∀ (r : Req) (s s1 : State) (p : Proposal),
     (Served opPltWithdraw r s s1 → s1.plt.proposal = some p → fld (r.word 0) 15 0 = p.pid.toNat → p.proposer = r.who →
       exec (.pltWithdraw r) s = .next (okTo (raise (s1.modPlt fun t => { t with proposal := none }) 202 4
         (put p.pid.toNat 16 0)) r [])) ∧
     (Served opPltProposalRead r s s1 → s1.plt.proposal = some p → p.edits.length ≤ 508 →
       exec (.pltProposalRead r) s = .next (okTo s1 r ([put p.pid.toNat 16 0 ||| put p.proposer 7 16 ||| putB true 23,
         BitVec.ofNat 64 p.time, BitVec.ofNat 64 p.expiry] ++ p.edits))) ∧
     (Served opPltProposalRead r s s1 → s1.plt.proposal = none → exec (.pltProposalRead r) s = .next (okTo s1 r [0])) ∧
     (s.plt.proposal = some p → p.expiry < s.wall → (∀ x ∈ s.hub.accepted, s.serves x.2 = true → p.expiry < x.1) →
       exec .proposalExpiry s = .next (raise (s.modPlt fun t => { t with proposal := none }) 202 3 (put p.pid.toNat 16 0))) ∧
     (s.plt.proposal = some p → s.wall ≤ p.expiry → exec .proposalExpiry s = .next s))

/-! ### Rings, completions, events -/

/-- RING_CONFIG (R355, R359): a ring that is not RUNNING or in ERROR becomes STOPPED with the request's TYPE, size, base,
write-back address, vector and COMPLETION ring (one of the same function), and counts from 0; every other ring is unchanged but
for what dropping its held completions frees. RING_START and RING_STOP (R359, R360): a STOPPED ring becomes RUNNING (a descriptor
ring only beside a RUNNING COMPLETION ring, else NOTREADY); a RUNNING ring, or one in ERROR, becomes STOPPED and its count and
ERROR are answered. RING_DOORBELL (R305, R356, R359) at STAGE 6 to a RUNNING ring of the function's run: a descriptor ring takes
the value as its producer count, or goes to ERROR when that runs more than its size past the consumer count; the other rings take
it as their consumer count unless it passes the producer count. A doorbell beyond the run only counts a violation. The model's
choices it rests on: log entry 13. -/
def Obligations.Rings : Prop :=
  (∀ (r : Req) (s s1 : State) (g : Nat), Served opRingConfig r s s1 → g = s1.ringBase r.who + fld (r.word 0) 11 0 →
     1 ≤ fld (r.word 0) 15 12 → fld (r.word 0) 15 12 ≤ 6 → 4 ≤ fld (r.word 0) 20 16 → fld (r.word 0) 20 16 ≤ 16 →
     fld (r.word 1) 11 0 = 0 → fld (r.word 2) 2 0 = 0 →
     (descriptorType (fld (r.word 0) 15 12) = true →
       fld (r.word 0) 43 32 < s1.ringCount r.who ∧ fld (r.word 3) 6 0 = 0 ∧
       (s1.ring (s1.ringBase r.who + fld (r.word 0) 43 32)).type = 3 ∧
       (s1.ring (s1.ringBase r.who + fld (r.word 0) 43 32)).state ≠ .unconfigured ∧
       (s1.ring (s1.ringBase r.who + fld (r.word 0) 43 32)).owner = ringFunc s1 r.who g) →
     (fld (r.word 3) 6 0 ≠ 0 → fld (r.word 3) 6 0 < s1.msixCount r.who) →
     ((s1.ring g).state = .unconfigured ∨ (s1.ring g).state = .stopped) →
     ∃ s2, exec (.ringConfig r) s = .next (okTo s2 r []) ∧ (∀ j, j ≠ g → s2.ring j = s1.ring j) ∧
       (s2.ring g).state = .stopped ∧ (s2.ring g).type = fld (r.word 0) 15 12 ∧ (s2.ring g).log2size = fld (r.word 0) 20 16 ∧
       (s2.ring g).base = r.word 1 ∧ (s2.ring g).wb = r.word 2 ∧ (s2.ring g).vector = fld (r.word 3) 6 0 ∧
       (s2.ring g).prod = 0 ∧ (s2.ring g).cons = 0 ∧ (s2.ring g).held = [] ∧
       (descriptorType (fld (r.word 0) 15 12) = true → (s2.ring g).cring = s1.ringBase r.who + fld (r.word 0) 43 32)) ∧
  (∀ (r : Req) (s s1 : State) (g : Nat), g = s1.ringBase r.who + fld (r.word 0) 11 0 →
     (Served opRingStart r s s1 → (s1.ring g).state = .stopped →
       (descriptorType (s1.ring g).type = true → (s1.ring (s1.ring g).cring).state = .running) →
       exec (.ringStart r) s = .next (okTo (s1.modRing g fun x => { x with state := .running }) r [])) ∧
     (Served opRingStart r s s1 → (s1.ring g).state = .stopped → descriptorType (s1.ring g).type = true →
       (s1.ring (s1.ring g).cring).state ≠ .running → exec (.ringStart r) s = .next (replied s1 r 5 (cut r) [])) ∧
     (Served opRingStop r s s1 → ((s1.ring g).state = .running ∨ (s1.ring g).state = .error) →
       ¬((s1.ring g).type = 3 ∧ ringFed s1 g = true) →
       exec (.ringStop r) s = .next (okTo (s1.modRing g fun x => { x with state := .stopped }) r
         [put (s1.ring g).count.toNat 32 0 ||| putB (decide ((s1.ring g).state = .error)) 32])) ∧
     (Served opRingStop r s s1 → (s1.ring g).state = .running → (s1.ring g).type = 3 → ringFed s1 g = true →
       exec (.ringStop r) s = .next (replied s1 r 2 (cut r) []))) ∧
  (∀ (s : State) (f i : Nat) (v : BitVec 32), s.inUse f = true → s.hub.stage = .ready →
     (s.ringCount f ≤ i → exec (.ringDoorbell f i v) s = .next (violate s f)) ∧
     (i < s.ringCount f → (s.ring (s.ringBase f + i)).state = .running →
       ∃ t, exec (.ringDoorbell f i v) s = .next t ∧ (∀ j, j ≠ s.ringBase f + i → t.ring j = s.ring j) ∧
         (let x := s.ring (s.ringBase f + i)
          let y := t.ring (s.ringBase f + i)
          (descriptorType x.type = true → (v - x.cons).toNat ≤ 2 ^ x.log2size → y = { x with prod := v }) ∧
          (descriptorType x.type = true → 2 ^ x.log2size < (v - x.cons).toNat → y = { x with state := .error, wbDue := true }) ∧
          (descriptorType x.type = false → (v - x.cons).toNat ≤ (x.prod - x.cons).toNat → y = { x with cons := v }) ∧
          (descriptorType x.type = false → (x.prod - x.cons).toNat < (v - x.cons).toNat → y = x))))

/-- DESCRIPTOR_FETCH, RING_WRITE_BACK, COMPLETION_ROOM and DTYPE_MISMATCH (R354, R356 to R359): the next ring of the round robin
reads its descriptor at its consumer count, which advances; a failed read or write-back gives ERROR; the count is written back
with ERROR in bit 63; a held completion is posted once there is room; a foreign DTYPE takes its place in the order of its ring's
descriptors and completes with BADPARAM. The model's choices it rests on: log entries 2, 3, 76, 115. -/
def Obligations.QueueManager : Prop :=
  ∀ (s s1 : State) (g n : Nat) (d : Desc) (h : Held) (rest : List Held),
    (nextFetch s = some g → ∃ t, exec (.descriptorFetch (some d)) s = .next t ∧ (t.ring g).cons = (s.ring g).cons + 1 ∧
      (t.ring g).wbDue = true ∧ (t.ring g).fetched = (s.ring g).fetched ++ [⟨(s.ring g).cring, (s.ring (s.ring g).cring).gen, d⟩] ∧
      t.queues.lastRing = g ∧ (∀ j, j ≠ g → t.ring j = s.ring j) ∧
      t.out = .hostRead (s.ring g).owner ((s.ring g).base + BitVec.ofNat 64 (32 * ((s.ring g).cons.toNat % 2 ^ (s.ring g).log2size))) 32 :: s.out) ∧
    (nextFetch s = some g → ∃ t, exec (.descriptorFetch none) s = .next t ∧ (t.ring g).state = .error ∧
      (t.ring g).cons = (s.ring g).cons) ∧
    (s.hub.cpFailed = false → (s.ring g).wbDue = true → (s.ring g).state ≠ .unconfigured → descriptorType (s.ring g).type = true →
      exec (.ringWriteBack g true) s = .next ((s.emit (.writeBack g (s.ring g).wb
        (put (s.ring g).cons.toNat 32 0 ||| putB (decide ((s.ring g).state = .error)) 63))).modRing g fun x =>
        { x with wbDue := false, vectors := [] })) ∧
    (s.hub.cpFailed = false → (s.ring g).wbDue = true → (s.ring g).state = .running →
      exec (.ringWriteBack g false) s = .next (s.modRing g fun x => { x with state := .error, wbDue := true })) ∧
    ((s.ring g).held = h :: rest → (s.ring g).hasRoom = true → s.hub.cpFailed = false →
      exec (.completionRoom g) s = .next (writeCompletion (s.modRing g fun x => { x with held := rest }) g h)) ∧
    (dtypeFits (s.ring g).type (fld d.w0 7 0) = false → ringWaits s g = false → takeOrdered s g d = some (s1, n) →
      exec (.dtypeMismatch g d) s = .next (finishOrdered s1 g n ⟨put 4 8 8, 0, 0, d.w3⟩))

/-- EVENT_ROUTE (R363): the sender's route of the source is replaced (ENABLE) or removed, other functions' routes stay, and the
source's latest record and count are answered. EVENT_DELIVERY (R362, R364): the oldest routed record is written into its EVENT
ring when that has room, under the next RSEQ and with LOST as it stood, and its write-back falls due; when the ring is full the
record is dropped, RSEQ still counts and LOST is set. The model's choices it rests on: log entries 3, 13. -/
def Obligations.Events : Prop :=
  (∀ (r : Req) (s s1 : State) (src g f : Nat), Served opEventRoute r s s1 → src = fld (r.word 0) 9 0 →
     g = s1.ringBase r.who + fld (r.word 0) 27 16 → f = (if r.who < 64 then r.who else (s1.ring g).owner) →
     (bit (r.word 0) 39 = true → (s1.ring g).type = 4 → (s1.ring g).state ≠ .unconfigured → (s1.ring g).owner = f →
       (fld (r.word 0) 38 32 = 0 ∨ fld (r.word 0) 38 32 < s1.msixCount f) →
       exec (.eventRoute r) s = .next (okTo (s1.modEvent src fun e =>
         { e with routes := (e.routes.filter fun x => x.func != f) ++ [⟨f, g, fld (r.word 0) 38 32⟩] }) r
           (routeWords (s1.event src)))) ∧
     (bit (r.word 0) 39 = false →
       exec (.eventRoute r) s = .next (okTo (s1.modEvent src fun e =>
         { e with routes := e.routes.filter fun x => x.func != f }) r (routeWords (s1.event src))))) ∧
  (∀ (s : State) (e : EvRec) (x : Route) (rest : List (EvRec × Route)), s.hub.cpFailed = false → s.hub.stage ≠ .restarting →
     s.queues.deliver = (e, x) :: rest → x.func < 64 → (s.ring x.ring).type = 4 → (s.ring x.ring).state ≠ .unconfigured →
     ((s.ring x.ring).hasRoom = false → exec .eventDelivery s =
       .next ((s.modQueues fun q => { q with deliver := rest }).modRing x.ring fun y => { y with rseq := y.rseq + 1, lost := true })) ∧
     ((s.ring x.ring).hasRoom = true → ∃ t, exec .eventDelivery s = .next t ∧ t.queues.deliver = rest ∧
       (t.ring x.ring).rseq = (s.ring x.ring).rseq + 1 ∧ (t.ring x.ring).lost = false ∧
       (t.ring x.ring).prod = (s.ring x.ring).prod + 1 ∧ (t.ring x.ring).wbDue = true ∧
       Out.eventRecord x.ring ((s.ring x.ring).prod.toNat % 2 ^ (s.ring x.ring).log2size)
         ⟨put e.source 10 0 ||| put e.code.toNat 8 16 ||| putB (s.ring x.ring).lost 24 ||| put ((s.ring x.ring).rseq + 1).toNat 32 32,
          BitVec.ofNat 64 e.time, put e.frame.toNat 48 0, e.data⟩ ∈ t.out))

/-! ### Functions, links, MSI-X, resets -/

/-- Writes and configuration of functions (R8, R286 to R289, R291 to R293, R309): a BAR0 write of no valid size counts a violation
and does nothing else; a read-only register ignores a write; an MSI-X vector that is unmasked fires once when it was pending; a
read of a configuration field answers it; NumVFs, ARI Capable Hierarchy, the ASPM control, the BARs, MSI-X Enable and the D-state
follow their configuration writes, and causes from before MSI-X Enable are not kept. REGISTER_WRITE completes for every form (R8,
R292, R293, R303, R309, R311, R354): it is the SUBMIT, the mailbox write or the doorbell that its offset in BAR0 names, a write of
the function's MSI-X table in BAR4, or a partition violation outside the maps. Resets of the host side (R284, R286, R290, R304,
R321): a function-level reset empties the mailbox, the MSI-X table and the list of long commands and keeps the violation counter;
a link reset takes the link down with NumVFs 0; training brings an active link up once REFCLK is stable and STAGE is at least 1.
HUB_BEAT and CP_FAILURE (R33, R296, R297, R430): BEAT counts from STAGE 2 on; when the control processor fails it stops for good,
HUB_STATUS keeps its last value, the pending proposal and a pending step of wall time are gone and every codec session stops. The
model's choices it rests on: log entries 3, 13, 15, 17, 84, 89, 110. -/
def Obligations.HostInterface : Prop :=
  (∀ (s : State) (f : Nat), s.inUse f = true → (s.link (f / 16)).state = .up →
     (∀ bar offset size value, (bar = 0 ∨ bar = 4) → ¬((size = 4 ∨ size = 8) ∧ offset % size = 0) →
       exec (.registerWrite f bar offset size value) s = .next (violate s f)) ∧
     (∀ offset size value, (size = 4 ∨ size = 8) → offset % size = 0 → offset < 0x20 →
       exec (.registerWrite f 0 offset size value) s = .next s) ∧
     (∀ v, (s.func f).msixEnabled = true → (s.func f).msixMasked = false → s.hub.cpFailed = false → v < s.msixCount f →
       (∀ u, Tbl.get false (s.func f).msixPending u = decide (u = v)) →
       ∃ t, exec (.msixUnmask f (some v)) s = .next t ∧ (Tbl.get {} (t.func f).msixTable v).masked = false ∧
         Tbl.get false (t.func f).msixPending v = false ∧
         t.out = .msix f v (Tbl.get {} (s.func f).msixTable v).addr (Tbl.get {} (s.func f).msixTable v).data :: s.out) ∧
     (∀ n, f % 16 = 0 → (s.link (f / 16)).vfOn = false → exec (.configurationRequest f (.numVfs n)) s =
       .next (s.modLink (f / 16) fun x => { x with numVfs := min n 15 })) ∧
     (∀ field, exec (.configurationRequest f (.read field)) s = .next (s.emit (.cfgData f (configField s f field)))) ∧
     (∀ on, f % 16 = 0 → exec (.configurationRequest f (.ariHierarchy on)) s =
       .next (s.modLink (f / 16) fun x => { x with ari := on })) ∧
     (∀ l1, exec (.configurationRequest f (.aspmControl l1)) s = .next (s.modFunc f fun x => { x with aspmL1 := l1 })) ∧
     (∀ bar base, f % 16 = 0 → (bar = 0 ∨ bar = 2 ∨ bar = 4) → ∃ t, exec (.configurationRequest f (.barBase bar base)) s = .next t ∧
       t.barOf f bar = base &&& ~~~BitVec.ofNat 64 ((if bar = 0 then 65536 else if bar = 2 then 68719476736 else 16384) - 1)) ∧
     (∀ on, exec (.configurationRequest f (.msixEnable on)) s = .next (s.modFunc f fun x =>
       { x with msixEnabled := on, msixPending := if x.msixEnabled then x.msixPending else [] })) ∧
     (∀ d3, exec (.configurationRequest f (.dState d3)) s = .next (s.modFunc f fun x => { x with d3 := d3 }))) ∧
  (∀ (s : State) (f size : Nat) (value : Word), s.inUse f = true →
     (∀ offset, 0x100 ≤ offset → offset < 0x108 → (size = 4 ∨ size = 8) → offset % size = 0 →
       ∃ t, exec (.registerWrite f 0 offset size value) s = .next t ∧ (bit value 0 = true → offset = 0x100 → s.hub.stage = .ready →
         s.hub.cpFailed = false → (s.func f).mbox ≠ .busy → (t.func f).mbox = .busy ∧ (t.func f).drop = false ∧
         t.hub.accepted = s.hub.accepted ++ [(s.wall, mailboxRequest f (s.func f))]) ∧ (bit value 0 = false → t = s)) ∧
     (∀ offset, 0x1000 ≤ offset → offset < 0x2000 → (size = 4 ∨ size = 8) → offset % size = 0 →
       ∃ t, exec (.registerWrite f 0 offset size value) s = .next t ∧ (s.hub.stage = .ready →
         ((s.func f).mbox = .busy → t = s.modFunc f fun x => { x with drop := true }) ∧
         ((s.func f).mbox ≠ .busy → t = s.modFunc f fun x =>
           { x with reqMem := Tbl.modify 0 x.reqMem ((offset - 0x1000) / 8) fun w => mergeWord w offset size value })) ∧
         (s.hub.stage ≠ .ready → t = s)) ∧
     (∀ i, i < 4096 → s.hub.stage = .ready →
       (i < s.ringCount f → ∃ t, exec (.registerWrite f 0 (0x4000 + 4 * i) 4 value) s = .next t ∧
         t.ring (s.globalRing f i) = ringRung (s.ring (s.globalRing f i)) (value.setWidth 32) ∧
         ∀ j, j ≠ s.globalRing f i → t.ring j = s.ring j) ∧
       (s.ringCount f ≤ i → exec (.registerWrite f 0 (0x4000 + 4 * i) 4 value) s = .next (violate s f)) ∧
       (s.ringCount f ≤ i → i % 2 = 0 → exec (.registerWrite f 0 (0x4000 + 4 * i) 8 value) s = .next (violate s f))) ∧
     (∀ v, v < 64 →
       (∃ t, exec (.registerWrite f 4 (16 * v) 8 value) s = .next t ∧ Tbl.get {} (t.func f).msixTable v =
         { Tbl.get {} (s.func f).msixTable v with addr := value }) ∧
       (∃ t, exec (.registerWrite f 4 (16 * v + 8) 8 value) s = .next t ∧ Tbl.get {} (t.func f).msixTable v =
         { Tbl.get {} (s.func f).msixTable v with data := value.setWidth 32, masked := bit value 32 } ∧
         ∀ u, u ≠ v → Tbl.get {} (t.func f).msixTable u = Tbl.get {} (s.func f).msixTable u)) ∧
     (∀ offset, (size = 4 ∨ size = 8) → offset % size = 0 →
       (0x20 ≤ offset → offset < 0x100 ∨ 0x110 ≤ offset ∧ offset < 0x1000 ∨ 0x3000 ≤ offset ∧ offset < 0x4000 ∨ 0x8000 ≤ offset →
         exec (.registerWrite f 0 offset size value) s = .next (violate s f)) ∧
       (0x400 ≤ offset → offset < 0x2000 ∨ 0x2008 ≤ offset →
         exec (.registerWrite f 4 offset size value) s = .next (violate s f)))) ∧
  (∀ (s : State) (f l : Nat) (perst : Bool),
     (f < 64 → f % 16 ≠ 0 → s.inUse f = true → ∃ t, exec (.functionLevelReset f) s = .next t ∧ (t.func f).mbox = .idle ∧
       (t.func f).msixTable = [] ∧ (t.func f).msixEnabled = false ∧ (t.func f).longs = [] ∧
       (t.func f).violations = (s.func f).violations ∧ (∀ q ∈ t.hub.accepted, q.2.src ≠ f)) ∧
     (l < 4 → ∃ t, exec (.linkReset l perst) s = .next t ∧ (t.link l).state = .down ∧ (t.link l).perst = perst ∧
       (t.link l).numVfs = 0 ∧ (t.link l).vfOn = false ∧ (∀ k, k ≠ l → t.link k = s.link k)) ∧
     (l < linkCount s.hub.straps → s.clocks.refOk = true → s.hub.stage ≠ .reset →
       ∃ t, exec (.linkTrainingStart l) s = .next t ∧ (t.link l).state = .up ∧ (t.link l).perst = false ∧
         (∀ k, k ≠ l → t.link k = s.link k))) ∧
  (∀ s : State,
     (s.hub.cpFailed = false → s.hub.stage ≠ .reset → s.hub.stage ≠ .primer →
       exec .hubBeat s = .next (s.modHub fun h => { h with beat := h.beat + 1 })) ∧
     (∃ t, exec .cpFailure s = .next t ∧ t.hub = { s.hub with cpFailed := true, lastStatus := some (hubStatusWord s) } ∧
       t.plt.proposal = none ∧ t.time.step = none ∧
       (∀ x ∈ t.media.decs, x.2.running = false) ∧ (∀ x ∈ t.media.encs, x.2.running = false) ∧
       exec .hubBeat t = .next t))

/-! ### Source slots -/

/-- SRC_CONFIG (R42, R68, R70, R306): a slot that is not started and meets the limits takes the request's six words, its buffers
are FREE and zero in both dies (those an open vote still reads keep their content until it ends, R270), no other slot changes, and
the answer gives the BAR2 offset of each buffer (zeros for another kind). SRC_START and SRC_STOP (R69, R70, R330): a configured
slot that fits starts with frame numbers from 0; a started slot stops with no frame open; stopping a stopped slot is OK with no
effect. The model's choices it rests on: log entries 14, 76, 97. -/
def Obligations.SourceCommands : Prop :=
  (∀ (r : Req) (s s1 : State) (k : Nat) (x : Slot) (offs : List Nat), Served opSrcConfig r s s1 → k = fld (r.word 0) 4 0 →
     x = { cfg := (List.range 6).map r.word, owner := s1.ownerOf 6 k, late := (s1.slot k).late,
           bufs := (voteBufs s1 k).foldl (fun m b => Tbl.set {} m b { (s1.slot k).buf b with old := true, zeroDue := true }) [] } →
     (s1.slot k).started = false →
     slotLimits x = true → poolFits s1 k x = true → decodeFits s1 k x = true → ingestFits [(k, x)] = true →
     (x.kind = 2 → bar2Alloc x.buffers (bar2Span x.bufBytes) (bar2Used s1 x.owner k) = some offs) → (x.kind ≠ 2 → offs = []) →
     ∃ s2, exec (.srcConfig r) s = .next (okTo s2 r ((List.range 8).map fun i => BitVec.ofNat 64 (offs.getD i 0))) ∧
       s2.slot k = { x with bar2 := offs } ∧ (∀ j, j ≠ k → s2.slot j = s1.slot j) ∧
       (∀ d b, b < 8 → b ∉ voteBufs s1 k → s2.bufMem d k b = []) ∧ (∀ d j b, b < 8 → j ≠ k → s2.bufMem d j b = s1.bufMem d j b)) ∧
  (∀ (r : Req) (s s1 : State) (k : Nat), k = fld (r.word 0) 4 0 →
     (Served opSrcStart r s s1 → (s1.slot k).kind ≠ 0 → (s1.slot k).started = false → slotLimits (s1.slot k) = true →
       poolFits s1 k (s1.slot k) = true →
       ingestFits ((k, s1.slot k) :: s1.frames.slots.filter fun y => y.1 ≠ k && y.2.started) = true →
       ∃ s2, exec (.srcStart r) s = .next (okTo s2 r []) ∧ (s2.slot k).started = true ∧ (s2.slot k).frames = 0 ∧
         (s2.slot k).cfg = (s1.slot k).cfg ∧ (s2.slot k).bufs = (s1.slot k).bufs ∧ (∀ j, j ≠ k → s2.slot j = s1.slot j)) ∧
     (Served opSrcStart r s s1 → ((s1.slot k).kind = 0 ∨ (s1.slot k).started = true) →
       exec (.srcStart r) s = .next (replied s1 r 4 (cut r) [])) ∧
     (Served opSrcStop r s s1 → (s1.slot k).started = true →
       ∃ s2, exec (.srcStop r) s = .next (okTo s2 r []) ∧ (s2.slot k).started = false ∧ (s2.slot k).net = none ∧
         (s2.slot k).pullOpen = none ∧ (s2.slot k).pullSegs = [] ∧ (∀ j, j ≠ k → s2.slot j = s1.slot j)) ∧
     (Served opSrcStop r s s1 → (s1.slot k).started = false → exec (.srcStop r) s = .next (okTo s1 r [])))

/-- PULL_SEGMENT (R50 to R52): a segment of the owner's started PULL slot that continues its open pull before its LAST, or begins
one while a buffer is FREE, reads LENGTH bytes of host memory, cut at the end of the buffer and split at the Max Read Request Size
(R310); a first segment without a FREE or READY buffer waits, and every later segment of the slot with it; a foreign slot gives OK
with CTYPE PULLED where LAST is set and else SEGMENT, changes nothing and counts a violation. The end of a pull (R44, R49, R50,
R55, R310): a segment's bytes go into the open buffer of both mirrored dies and the last segment makes it READY; a timeout frees
the buffer and counts an incomplete frame; a waiting pull proceeds when a buffer is FREE. SUBMIT, CANCEL and RELEASE_POSTED (R44,
R53 to R55, R358): the owner submits a FILLING buffer of its started BAR2 slot, which takes the next frame number; or cancels it,
which frees it and counts an incomplete frame; a buffer in RELEASED has its RELEASE completed. The model's choices it rests on:
log entries 2, 3, 43, 74, 76, 118. -/
def Obligations.PullSlots : Prop :=
  (∀ (s s1 : State) (ring t k n : Nat) (d : Desc), takeSource s ring d 1 = some (s1, t) → k = fld d.w0 20 16 →
     n = fld d.w0 63 32 →
     (s1.owns (s1.ring ring).owner 6 k = false →
       exec (.pullSegment ring d) s = .next (finishOrdered (violate s1 (s1.ring ring).owner) ring t
         (srcCompletion (violate s1 (s1.ring ring).owner) (pullCtype d) 0 k (fld d.w0 23 21) false false 0 d.w3))) ∧
     (s1.owns (s1.ring ring).owner 6 k = true → n ≠ 0 → n ≠ 0xFFFFFFFF → (s1.slot k).kind = 1 → (s1.slot k).started = true →
       (s1.slot k).pullWait = none →
       ((bit d.w0 8 = false → (s1.slot k).pullOpen.isSome → (∀ g ∈ (s1.slot k).pullSegs, bit g.desc.w0 9 = false) →
         ∃ u, exec (.pullSegment ring d) s = .next u ∧
           (let l := if (s1.slot k).bufBytes < fld d.w2 31 0 + n then (s1.slot k).bufBytes - fld d.w2 31 0 else n
            let m := max 1 (min 4096 (s1.func (s1.slot k).owner).maxRead)
            u.out = ((List.range (ceilDiv l m)).map fun i =>
              Out.hostRead (s1.slot k).owner (d.w1 + BitVec.ofNat 64 (i * m)) (min m (l - i * m))).reverse ++ s1.out) ∧
           (u.slot k).pullOpen = (s1.slot k).pullOpen) ∧
        (bit d.w0 8 = true → (s1.slot k).pullOpen = none → ∀ b, (s1.slot k).bufIds.find? (fun b => ((s1.slot k).buf b).state = .free) = some b →
           ∃ u, exec (.pullSegment ring d) s = .next u ∧ (u.slot k).pullOpen = some b ∧ ((u.slot k).buf b).state = .filling) ∧
        (bit d.w0 8 = true → (s1.slot k).pullOpen = none →
           (∀ b ∈ (s1.slot k).bufIds, ((s1.slot k).buf b).state ≠ .free ∧ ((s1.slot k).buf b).state ≠ .ready) →
           ∃ u, exec (.pullSegment ring d) s = .next u ∧ (u.slot k).pullWait.isSome ∧ u.frames.memA = s1.frames.memA)))) ∧
  (∀ (s : State) (k b : Nat) (p : PullSeg) (rest : List PullSeg) (bytes : List Byte),
     ((s.slot k).pullOpen = some b → (s.slot k).pullSegs = p :: rest → s.hub.cpFailed = false → bit p.desc.w0 9 = false →
       exec (.pullSegmentDone k bytes) s = .next (finishOrdered ((writeBoth s k b (fld p.desc.w2 31 0) (bytes.take p.len)).modSlot k
         fun x => { x with pullSegs := rest }) p.ring p.ticket (srcCompletion s 5 0 k b p.trunc false 0 p.desc.w3))) ∧
     ((s.slot k).pullOpen = some b → (s.slot k).pullSegs = p :: rest → s.hub.cpFailed = false → bit p.desc.w0 9 = true →
       ∃ t, exec (.pullSegmentDone k bytes) s = .next t ∧ (t.slot k).pullOpen = none ∧ (t.slot k).pullSegs = rest ∧
         (t.slot k).frames = (s.slot k).frames + 1 ∧ ((t.slot k).buf b).frame = (s.slot k).frames + 1) ∧
     ((s.slot k).pullOpen = some b → (s.slot k).pullSegs = p :: rest → s.hub.cpFailed = false →
       ∃ t, exec (.pullTimeout k) s = .next t ∧ (t.slot k).pullOpen = none ∧ (t.slot k).pullSegs = [] ∧
         (t.slot k).buf b = {} ∧ (t.slot k).nIncomplete = (s.slot k).nIncomplete + 1) ∧
     ((s.slot k).pullWait = some p → s.hub.cpFailed = false → (s.slot k).bufIds.find? (fun b => ((s.slot k).buf b).state = .free) = some b →
       ∃ t, exec (.pullBufferWaitEnd k) s = .next t ∧ (t.slot k).pullOpen = some b ∧ (t.slot k).pullWait = none ∧
         (t.slot k).pullSegs = (s.slot k).pullSegs ++ [p] ∧ ((t.slot k).buf b).state = .filling)) ∧
  (∀ (s s1 : State) (ring t k b : Nat) (d : Desc), k = fld d.w0 20 16 → b = fld d.w0 23 21 →
     (takeSource s ring d 2 = some (s1, t) → s1.owns (s1.ring ring).owner 6 k = true → fld d.w0 63 32 ≠ 0 →
       fld d.w0 63 32 ≠ 0xFFFFFFFF → (s1.slot k).kind = 2 → (s1.slot k).started = true → b < (s1.slot k).buffers →
       ((s1.slot k).buf b).state = .filling →
       ∃ u, exec (.submit ring d) s = .next u ∧ (u.slot k).frames = (s1.slot k).frames + 1 ∧
         ((u.slot k).buf b).frame = (s1.slot k).frames + 1 ∧ (u.slot k).feedRing = some (s1.feedOf ring)) ∧
     (takeSource s ring d 3 = some (s1, t) → s1.owns (s1.ring ring).owner 6 k = true → (s1.slot k).kind = 2 →
       (s1.slot k).started = true → b < (s1.slot k).buffers → ((s1.slot k).buf b).state = .filling →
       ∃ u, exec (.cancel ring d) s = .next u ∧ (u.slot k).buf b = {} ∧
         (u.slot k).nIncomplete = (s1.slot k).nIncomplete + 1) ∧
     (∀ feed, ((s.slot k).buf b).state = .released → ((s.slot k).buf b).reported = false → (s.slot k).feedRing = some feed →
       s.hub.cpFailed = false → exec (.releasePosted k b) s = .next (complete (s.modSlot k fun x => x.modBuf b fun y => { y with reported := true })
         feed.1 feed.2 (srcCompletion s 3 0 k b false ((s.slot k).buf b).dropped ((s.slot k).buf b).frame 0) (some (k, b)))))

/-- BAR2 (R44, R48, R306 to R308): a write inside a FREE or FILLING buffer of the function's slot puts its bytes there in each
mirrored die and nowhere else, and the buffer fills; a write anywhere else, or longer than the Max Payload Size, only counts a
violation; a read answers the content and changes no buffer. ST 2110-20 (R57, R58, R61): 10 ms after its first marker the open
frame of a NET slot is judged and closed; an enabled leg of a started slot without packets is lost, outside a planned window of
its port; a packet for no started slot, or on a port that does not receive, changes nothing, and one for a slot's leg counts as
received. The model's choices it rests on: log entries 3, 48, 74, 77. -/
def Obligations.Bar2AndNet : Prop :=
  (∀ (s : State) (f offset k b a : Nat) (data : List Byte), s.inUse f = true →
     (bar2Find s f offset = some (k, b, a) → s.hub.cpFailed = false → data.length ≤ (s.func f).maxPayload →
       (((s.slot k).buf b).state = .free ∨ ((s.slot k).buf b).state = .filling) →
       ∃ t, exec (.bar2Write f offset data false) s = .next t ∧ ((t.slot k).buf b).state = .filling ∧
         (∀ d i, s.mirrored d = true → i < data.length → a + i < (s.slot k).bufBytes →
           Tbl.get 0 (t.bufMem d k b) (a + i) = data.getD i 0) ∧
         (∀ d i, (i < a ∨ a + data.length ≤ i) → Tbl.get 0 (t.bufMem d k b) i = Tbl.get 0 (s.bufMem d k b) i) ∧
         (∀ d j c, bufKey j c ≠ bufKey k b → t.bufMem d j c = s.bufMem d j c)) ∧
     ((bar2Find s f offset = none ∨ (s.func f).maxPayload < data.length) →
       exec (.bar2Write f offset data false) s = .next (violate s f)) ∧
     (∀ n, bar2Find s f offset = some (k, b, a) → n ≤ (s.func f).maxRead → exec (.bar2Read f offset n) s =
       .next (s.emit (.barRead f (memRead (s.bufMem (if s.dies.a.fenced then .b else .a) k b) a n))))) ∧
  (∀ (s : State) (k leg port : Nat) (n : NetFrame) (p : NetPkt),
     ((s.slot k).net = some n → n.markerAt.isSome → ∃ t, exec (.netFrameTimeout k) s = .next t ∧ (t.slot k).net = none ∧
       (∃ j, (t.slot k).judged.head? = some j ∧ j.ts = n.ts)) ∧
     (leg < 2 → (s.slot k).started = true → (s.slot k).legEn leg = true → ((s.slot k).leg leg).lost = false →
       Tbl.get false s.time.netWindow ((s.slot k).legPort leg) = false → (s.slot k).net = none → exec (.netLegLoss k leg) s =
         .next (raise (s.modSlot k fun x => x.modLeg leg fun l => { l with lost := true }) (64 + k) 4 (put leg 1 0))) ∧
     (leg < 2 → netReceives s port = true → packetLegs s port p = [(k, leg)] → ∃ t, exec (.netPacket port p) s = .next t ∧
       ((t.slot k).leg leg).received = ((s.slot k).leg leg).received + 1 ∧ ((t.slot k).leg leg).lost = false) ∧
     ((netReceives s port = false ∨ packetLegs s port p = []) → exec (.netPacket port p) s = .next s))

/-! ### Canvases, layers, tables -/

/-- The staging commands (R73, R74, R79, R91, R99, R208, R231): each stores its words in the staged configuration alone; a
CANVAS_TILES or BLEND_TREE count that passes the payload is cut, with TRUNC (R318). The model's choices it rests on: log entries
53, 105. -/
def Obligations.Staging : Prop :=
  ∀ (r : Req) (s s1 : State) (c n : Nat), c = fld (r.word 0) 1 0 →
    (Served opCanvasConfig r s s1 → exec (.canvasConfig r) s =
      .next (okTo (s1.modCanvas c fun x => { x with staged := { x.staged with cfg := (List.range 4).map r.word } }) r [])) ∧
    (Served opCanvasTiles r s s1 → fld (r.word 0) 15 8 ≠ 0 → n = min (fld (r.word 0) 15 8) ((min r.len 511 - 1) / 2) →
      ∀ l, l = (List.range n).map (fun i => (⟨r.word (1 + 2 * i), r.word (2 + 2 * i)⟩ : Placement)) →
      exec (.canvasTiles r) s = .next (replied
        (modStaged s1 c fun y => { y with tiles := l.foldl addPlacement (if bit (r.word 0) 16 then y.tiles else []) })
        r 0 (decide (n < fld (r.word 0) 15 8) || cut r) [])) ∧
    (Served opLayerConfig r s s1 → exec (.layerConfig r) s = .next (okTo (s1.modLayer (fld (r.word 0) 3 0) fun l =>
      { l with staged := ⟨r.word 0, r.word 1, r.word 2, r.word 3⟩, owner := r.who }) r [])) ∧
    (Served opBlendTree r s s1 → fld (r.word 0) 5 2 ≠ 0 → fld (r.word 0) 5 2 ≤ 8 * (min r.len 511 - 1) →
      ∃ s2, exec (.blendTree r) s = .next (okTo s2 r []) ∧
        (s2.canvas c).staged.blendProg = (List.range (fld (r.word 0) 5 2)).map (fun i =>
          fld (r.word (1 + i / 8)) (i % 8 * 8 + 7) (i % 8 * 8)) ∧
        (s2.canvas c).committed = (s1.canvas c).committed ∧ (∀ j, j ≠ c → s2.canvas j = s1.canvas j)) ∧
    (Served opCanvasTiming r s s1 → exec (.canvasTiming r) s =
      .next (okTo (s1.modCanvas c fun x => { x with staged := { x.staged with timing := (List.range 4).map r.word } }) r [])) ∧
    (Served opTileScan r s s1 → exec (.tileScan r) s = .next (okTo (s1.modFrames fun f =>
      { f with stagedScan := Tbl.set 0 f.stagedScan (fld (r.word 0) 8 0) (r.word 1) }) r []))

/-- LUT_LOAD and MESH_LOAD (R97, R318, R332): with a table size, a length and no pending commit that is to activate the table, the
load is ACCEPTED, its read of host memory goes out, cut at the table's end with TRUNC and split at the Max Read Request Size
(R310), and the inactive bank is no longer loaded; the active bank is untouched. TABLE_LOAD_COMPLETE (R95, R97, R310): the bytes
pulled go into the inactive bank, which is then loaded, and the command ends OK; a failed pull ends with TIMEOUT and a mesh point
out of range with BADPARAM, the banks unchanged. The model's choices it rests on: log entries 3, 64, 77. -/
def Obligations.TableLoads : Prop :=
  (∀ (r : Req) (s s1 : State) (t : TableId) (n size : Nat) (i : Instr),
     ((Served opLutLoad r s s1 ∧ i = .lutLoad r ∧ t = lutTable r) ∨
       (Served opMeshLoad r s s1 ∧ i = .meshLoad r ∧ t = .mesh (fld (r.word 0) 9 8))) →
     n = fld (r.word 2) 31 0 → size = tableSize s1 t → n ≠ 0 → n ≠ 0xFFFFFFFF → size ≠ 0 → tablePending s1 t = false →
     ∃ s2, exec i s = .next (replied (startLong s2 r (decide (size < n) || cut r) (some (tableCanvas s1 t))) r 1
         (decide (size < n) || cut r) []) ∧
       (let m := max 1 (min 4096 (s1.func r.who).maxRead)
        ∀ k, k < ceilDiv (min n size) m →
          Out.hostRead r.who (r.word 1 + BitVec.ofNat 64 (k * m)) (min m (min n size - k * m)) ∈ s2.out) ∧ (s2.table t).load.isSome ∧
            (s2.table t).active1 = (s1.table t).active1 ∧
       (s2.table t).bank0 = (s1.table t).bank0 ∧ (s2.table t).bank1 = (s1.table t).bank1 ∧
       (s2.table t).loaded0 = ((s1.table t).loaded0 && !(s1.table t).active1) ∧
       (s2.table t).loaded1 = ((s1.table t).loaded1 && (s1.table t).active1)) ∧
  (∀ (s : State) (t : TableId) (l : LutLoad) (bytes : List Byte), (s.table t).load = some l → s.hub.cpFailed = false →
     (∀ v ∈ s.dies.twin.votes, v.ended = true ∨ v.canvas ≠ tableCanvas s t) →
     (exec (.tableLoadComplete t .failed) s = .next (finishLong (s.modTable t fun b => { b with load := none }) l.src l.id 7)) ∧
     ((∀ c, t ≠ .mesh c) ∨ meshInRange (bytes.take l.length) = true →
       exec (.tableLoadComplete t (.data bytes)) s = .next (finishLong ((s.modTable t fun b => { b with load := none }).modTable t
         fun b => if b.active1 then { b with bank0 := memWrite b.bank0 0 (bytes.take l.length), loaded0 := true }
                  else { b with bank1 := memWrite b.bank1 0 (bytes.take l.length), loaded1 := true }) l.src l.id 0)) ∧
     (∀ c, t = .mesh c → meshInRange (bytes.take l.length) = false →
       exec (.tableLoadComplete t (.data bytes)) s = .next (finishLong (s.modTable t fun b => { b with load := none }) l.src l.id 4)))

/-- CANVAS_COMMIT (R99 to R101, R222, R225, R313, R331, R518) in POWER state RUN with no timing change in progress: the first
check of R101 that fails gives its status and no effect; with CHECK the frame is answered and nothing changes; an ordinary commit
is accepted for the first frame whose selection is at least 1 ms ahead; a timing change is long, and pending for the frame whose
selection is at least 10 ms ahead; it gives BUSY in steps 1 to 4 of a change of microcode (R518). The model's choices it rests on:
log entries 54, 111, 125. -/
def Obligations.CanvasCommit : Prop :=
  ∀ (r : Req) (s s1 : State) (c : Nat) (cfg : CanvasCfg), Served opCanvasCommit r s s1 → c = fld (r.word 0) 1 0 →
    cfg = stagedCfg s1 c → s1.clocks.power = .run →
    ((s1.canvas c).change.isSome → exec (.canvasCommit r) s = .next (replied s1 r 2 (cut r) [])) ∧
    ((s1.canvas c).change = none → ¬((s1.canvas c).running = true ∧ isTimingChange (s1.canvas c).committed cfg = true) →
      (∀ status words, commitFails s1 c cfg = some (status, words) →
        exec (.canvasCommit r) s = .next (replied s1 r status (cut r) words)) ∧
      (commitFails s1 c cfg = none → ∀ n, n = (if (s1.canvas c).running then (s1.canvas c).firstFrame (s1.reqTime + 1000000)
          else cfg.startFrame (s1.reqTime + 1000000)) →
        (r.check = true → exec (.canvasCommit r) s = .next (okTo s1 r [put n 48 0])) ∧
        (r.check = false → ∃ s2, exec (.canvasCommit r) s = .next (okTo s2 r [put n 48 0]) ∧
          (s2.canvas c).pending = some ⟨n, cfg⟩ ∧ (s2.canvas c).committed = (s1.canvas c).committed))) ∧
    ((s1.canvas c).change = none → (s1.canvas c).running = true → isTimingChange (s1.canvas c).committed cfg = true →
      commitFails s1 c cfg = none → s1.mcMoves = true → exec (.canvasCommit r) s = .next (replied s1 r 2 (cut r) [])) ∧
    ((s1.canvas c).change = none → (s1.canvas c).running = true → isTimingChange (s1.canvas c).committed cfg = true →
      commitFails s1 c cfg = none → r.check = false → inFlight (s1.func r.who) < 16 → s1.time.step = none → s1.mcMoves = false →
      (∀ t ∈ cfg.tileIds, s1.txnOn t = none) →
      ∃ s2 ch, exec (.canvasCommit r) s = .next (replied (startLong s2 r (cut r) (some c)) r 1 (cut r) []) ∧
        (s2.canvas c).change = some ch ∧ ch.cfg = cfg ∧ ch.src = r.who ∧ ch.id = s1.nextLong r.who ∧
        ch.m = (s1.canvas c).firstFrame (s1.reqTime + 10000000) - 1 ∧ (s2.canvas c).committed = (s1.canvas c).committed)

/-! ### Tiles and their transactions -/

/-- TILE_MAP, TILE_PREFS and PORT_CONFIG (R226, R236, R244, R348). TILE_MAP of an existing port: an entry whose port and position
no other tile holds, and that takes no placed tile away or elsewhere, waits for the next chain reset and falls due in the settings
areas; else the answer is CONFLICT. TILE_PREFS stages every set of values in range; else BADPARAM. PORT_CONFIG of an existing
port: a rate and a spread that its tiles support and the load of its canvases fits waits for the next chain reset, and the
settings in force are answered; else BADPARAM. TILE_COMMIT and CHAIN_RESET (R239, R240, R242, R246, R553). TILE_COMMIT in RUN, no
named tile being in a transaction or on a canvas whose timing changes, is ACCEPTED and takes every named tile with staged
preferences that is not held back into a PREFS transaction; with CHECK it answers the same and does nothing; with nothing staged,
OK and nothing; with such a tile, BUSY. CHAIN_RESET of an existing port is ACCEPTED and recorded; of another port BADPARAM. The
model's choices it rests on: log entry 60. -/
def Obligations.TileSettings : Prop :=
  (∀ (r : Req) (s s1 : State) (t port pos rate spread : Nat) (e : Option MapEntry),
     (Served opTileMap r s s1 → t = fld (r.word 0) 8 0 → port = fld (r.word 0) 14 9 → pos = fld (r.word 0) 18 15 →
       s1.portOk port = true → (s1.span = true → pos ≤ 7) →
       e = (if bit (r.word 0) 19 then some ⟨port, pos, r.word 1⟩ else none) →
       ((e.isSome → ∀ k m, k < 512 → k ≠ t → (s1.tile k).mapLater = some m → ¬(m.port = port ∧ m.pos = pos)) →
         (placedAny s1 t = true → ∀ a, (s1.tile t).mapLater = some a → ∃ b, e = some b ∧ a.port = b.port ∧ a.pos = b.pos) →
         exec (.tileMap r) s = .next (okTo (settingsDue (s1.modTile t fun x => { x with mapNext := some e })) r [])) ∧
       (e.isSome → (∃ k m, k < 512 ∧ k ≠ t ∧ (s1.tile k).mapLater = some m ∧ m.port = port ∧ m.pos = pos) →
         exec (.tileMap r) s = .next (replied s1 r 6 (cut r) []))) ∧
     (Served opTilePrefs r s s1 →
       (200 ≤ fld (r.word 1) 10 0 → fld (r.word 1) 10 0 ≤ 2000 → fld (r.word 1) 27 12 ≤ 10000 → fld (r.word 1) 43 28 ≤ 10000 →
         exec (.tilePrefs r) s = .next (okTo (s1.modTile (fld (r.word 0) 8 0) fun x =>
           { x with prefsNext := some (r.word 1 &&& 0x00000FFFFFFFF7FF#64) }) r [])) ∧
       ((fld (r.word 1) 10 0 < 200 ∨ 2000 < fld (r.word 1) 10 0 ∨ 10000 < fld (r.word 1) 27 12 ∨ 10000 < fld (r.word 1) 43 28) →
         exec (.tilePrefs r) s = .next (replied s1 r 4 (cut r) []))) ∧
     (Served opPortConfig r s s1 → port = fld (r.word 0) 5 0 → rate = fld (r.word 0) 7 6 → spread = fld (r.word 0) 13 8 →
       (s1.portOk port = true → rate ≠ 3 → spread ≤ 50 →
         (rate = 2 → ∀ t ∈ s1.portTiles port, ∀ w, (s1.tile t).caps = some w → w.toNat.testBit 2 = true) →
         (spread ≠ 0 → ∀ t ∈ s1.portTiles port, ∀ w, (s1.tile t).caps = some w → w.toNat.testBit 3 = true) →
         loadFits (((List.range 4).map fun c => portLoad s1 port (s1.canvas c).committed).sum) (laneBps rate) = true →
         ∃ s2, exec (.portConfig r) s = .next (okTo s2 r [put port 6 0 ||| put (s1.port port).rate 2 6 ||| put (s1.port port).spread 6 8]) ∧
           (∀ p ∈ s1.portsFor port, Tbl.get none s2.links.portNext p = some (rate, spread)) ∧
           (∀ p, p ∉ s1.portsFor port → Tbl.get none s2.links.portNext p = Tbl.get none s1.links.portNext p) ∧
           s2.links.ports = s1.links.ports ∧ s2.plt.writesDue = (s1.plt.writesDue ++ [0, 1]).dedup) ∧
       ((s1.portOk port = false ∨ rate = 3 ∨ 50 < spread) → exec (.portConfig r) s = .next (replied s1 r 4 (cut r) [])))) ∧
  (∀ (r : Req) (s s1 : State) (port : Nat),
     (Served opTileCommit r s s1 → s1.clocks.power = .run →
       ((∀ t ∈ commitTiles r, s1.txnOn t = none ∧ ∀ c, s1.canvasOf t = some c → (s1.canvas c).change = none) →
         ((∀ t ∈ commitTiles r, (s1.tile t).prefsNext = none) → exec (.tileCommit r) s = .next (okTo s1 r [])) ∧
         (r.check = true → exec (.tileCommit r) s = .next (replied s1 r
           (if ∃ t ∈ commitTiles r, (s1.tile t).prefsNext.isSome ∧ (s1.tile t).held = none then 1 else 0) (cut r) [])) ∧
         (r.check = false → (∃ t ∈ commitTiles r, (s1.tile t).prefsNext.isSome ∧ (s1.tile t).held = none) →
           ∃ s2, exec (.tileCommit r) s = .next (acceptedTo s2 r none) ∧
             ∀ t ∈ commitTiles r, (s1.tile t).prefsNext.isSome → (s1.tile t).held = none →
               ∃ x ∈ s2.links.txns, t ∈ x.tiles ∧ x.kind = .prefs ∧ x.inProgress = true ∧ x.src = r.who ∧
                 x.id = some (s1.nextLong r.who))) ∧
       ((∃ t ∈ commitTiles r, (s1.txnOn t).isSome) → exec (.tileCommit r) s = .next (replied s1 r 2 (cut r) []))) ∧
     (Served opTileCommit r s s1 → s1.clocks.power ≠ .run → exec (.tileCommit r) s = .next (replied s1 r 5 (cut r) [])) ∧
     (Served opChainReset r s s1 → port = fld (r.word 0) 5 0 →
       (s1.portOk port = true → ∃ s2, exec (.chainReset r) s = .next (acceptedTo s2 r none) ∧
         ∃ j ∈ s2.links.chains, j.port = port ∧ j.committed = false ∧ j.src = r.who ∧ j.id = s1.nextLong r.who) ∧
       (s1.portOk port = false → exec (.chainReset r) s = .next (replied s1 r 4 (cut r) []))))

/-- TILE_TXN_READ, TILE_READ and DIAG_PORT_READ (R243, R250, R334): the last transaction that included the tile, its last STATUS
with its age in ms, and the counters and states of a port. TIMING_FLIP_READ, TIMING_CHANGE_READ, CHECK_READ and HOP_READ (R215,
R221). CHECK_SET, HOP_CAL and the ends of a timing change and of a hop calibration (R215, R221, R222, R224). The model's choices
it rests on: log entries 87, 116. -/
def Obligations.TileReadsAndTiming : Prop :=
  (∀ (r : Req) (s s1 : State) (x : Txn) (y : StatusRec) (t : Nat), t = fld (r.word 0) 8 0 →
     (Served opTileTxnRead r s s1 → s1.links.txns.find? (fun x => x.tiles.contains t) = some x →
       exec (.tileTxnRead r) s = .next (okTo s1 r ([put x.status.toNat 8 0 ||| putB x.inProgress 8 ||| putB x.aborted 9 |||
         put x.failed.length 10 16 ||| put x.xid.toNat 16 32, put x.frame 48 0] ++ maskWords x.failed))) ∧
     (Served opTileTxnRead r s s1 → s1.links.txns.find? (fun x => x.tiles.contains t) = none →
       exec (.tileTxnRead r) s = .next (okTo s1 r (List.replicate 10 0))) ∧
     (Served opTileRead r s s1 → (s1.tile t).newest = some y →
       exec (.tileRead r) s = .next (okTo s1 r ((List.range 6).map (fun i => wordAt y.words i) ++
         [put y.frame 48 0 ||| put (min 65535 ((s1.uptime - y.at_) / 1000000)) 16 48]))) ∧
     (Served opTileRead r s s1 → (s1.tile t).statusA = none → (s1.tile t).statusB = none →
       exec (.tileRead r) s = .next (okTo s1 r (List.replicate 7 0))) ∧
     (Served opDiagPortRead r s s1 → ∀ p, p = s1.port (fld (r.word 0) 5 0) →
       exec (.diagPortRead r) s = .next (okTo s1 r
         [pair p.nInvalid p.nCorrected, pair p.nUncorr p.nOrigin, pair p.nStale p.nLateEcho, pair p.nUnderrun p.nMismatch,
          pair p.nRegions p.nFlips,
          put (match p.rx with | .down => 0 | .locking => 1 | .aligned => 2 | .up => 3 | .upQuiet => 4) 3 0 |||
            put (match p.tx with | .on => 0 | .quiet => 1 | .off => 2) 2 3 ||| putB p.rxSleep 5 ||| put p.preset 3 8 |||
            put p.ctle 4 12 ||| put p.rate 2 16]))) ∧
  (∀ (r : Req) (s s1 : State) (c : Canvas) (k : Check) (t p pos : Nat), c = s1.canvas (fld (r.word 0) 1 0) →
     (Served opTimingFlipRead r s s1 → exec (.timingFlipRead r) s = .next (okTo s1 r
       [put c.frame 48 0, BitVec.ofNat 64 c.lastFlip, put c.lastFlipFrame 48 0, pair c.nRepeat c.nWithheld,
        if c.running then BitVec.ofNat 64 (c.flipTime (c.frame + 1)).toNat else 0])) ∧
     (Served opTimingChangeRead r s s1 → exec (.timingChangeRead r) s = .next (okTo s1 r
       ((put c.chStatus.toNat 8 0 ||| putB c.change.isSome 8 ||| put c.chFailed.length 9 16) :: maskWords c.chFailed))) ∧
     (Served opCheckRead r s s1 → k = Tbl.get {} c.checks (fld (r.word 0) 13 8) → exec (.checkRead r) s = .next (okTo s1 r
       [pair k.valA k.valB, put k.frame 48 0 ||| putB k.matchA 48 ||| putB k.matchB 49, put k.misses.toNat 32 0])) ∧
     (Served opHopRead r s s1 → p = fld (r.word 0) 5 0 → pos = fld (r.word 0) 11 8 →
       ((s1.tilesAt p).find? fun t => s1.posOf t = pos) = some t →
       (s1.owns r.who 4 t = true → exec (.hopRead r) s = .next (okTo s1 r [put t 9 0 ||| putB (s1.hop p pos).suspect 9,
         BitVec.ofNat 64 (s1.hop p pos).linkdly, put (s1.hop p pos).spread 32 0, BitVec.ofNat 64 (s1.hop p pos).time])) ∧
       (s1.owns r.who 4 t = false → exec (.hopRead r) s = .next (okTo s1 r [0, 0, 0, 0])))) ∧
  (∀ (r : Req) (s s1 : State) (c port : Nat) (p : Placement) (ch : TimingChange),
     (Served opCheckSet r s s1 → c = fld (r.word 0) 7 6 → (s1.canvas c).committed.place (fld (r.word 0) 24 16) = some p →
       fld (r.word 1) 9 0 + fld (r.word 1) 41 32 < p.tw → fld (r.word 1) 25 16 + fld (r.word 1) 57 48 < p.th →
       fld (r.word 0) 10 8 ≤ 3 → (2 ≤ fld (r.word 0) 10 8 → (s1.canvas c).frame + 2 ≤ fld (r.word 3) 47 0) →
       ∀ g : Check → Check, (∀ k, g k = { words := (List.range 4).map r.word, misses := k.misses }) →
       exec (.checkSet r) s = .next (okTo (s1.modCanvas c fun x =>
         { x with checks := Tbl.modify {} x.checks (fld (r.word 0) 5 0) g }) r [])) ∧
     (Served opHopCal r s s1 → port = fld (r.word 0) 5 0 →
       ∃ s2, exec (.hopCal r) s = .next (acceptedTo s2 r none) ∧
         s2.links.hopJobs = s1.links.hopJobs ++ [⟨r.who, s1.nextLong r.who, port⟩]) ∧
     ((∃ j ∈ s.links.hopJobs, j.port = port) → ∃ t, exec (.hopCalComplete port) s = .next t ∧
       (∀ j ∈ t.links.hopJobs, j.port ≠ port)) ∧
     ((∃ t ∈ s.tilesAt port, s.posOf t = c) → exec (.hopCalPeriodic port c) s = .next (startHop s port c)) ∧
     ((s.canvas c).change = some ch → ch.m + 2 ≤ (s.canvas c).frame →
       exec (.timingChangeComplete c) s =
         .next (endChange s c (if (s.canvas c).chFailed.isEmpty then 0 else 8) (ch.m + 2) (s.canvas c).chFailed)))

/-- The time-driven steps of chain resets and transactions (R224, R227, R234, R240, R241, R245, R246): COMMIT of a chain reset
leaves every tile of the port unassigned and its STATUS forgotten; assignment pings every mapped tile; an unacknowledged tile is
staged once more, and at the limit the transaction fails, but for a chain reset; a COMMIT is repeated to the tiles that have not
answered, and one without a frame is closed after 100 ms; a waiting DRIVE transaction starts again; a silent tile raises event
0x02 once. The model's choices it rests on: log entries 17, 27, 43, 75, 116. -/
def Obligations.TransactionSteps : Prop :=
  ∀ (s : State) (port xid t : Nat) (x : Txn) (j : ChainJob),
    ((s.links.chains.find? fun j => j.port = port && !j.committed) = some j →
      ∃ u, exec (.chainResetCommit port) s = .next u ∧
        (∀ k m, k < 512 → (s.tile k).map = some m → m.port = port → (u.tile k).assigned = false ∧ (u.tile k).statusA = none ∧
          (u.tile k).statusB = none) ∧
        (∀ q ∈ u.links.chains, q.port = port → q.committed = true)) ∧
    (∃ u, exec (.tileAssign port) s = .next u ∧
      ((∀ j ∈ s.links.chains, j.port ≠ port) → ∀ k ∈ s.portTiles port, (u.tile k).assigning = true)) ∧
    (s.txnAt xid port = some x → x.committed = false → x.resent = false →
      ∃ u, exec (.stageResend xid port) s = .next u ∧ ∃ y ∈ u.links.txns, y.xid = x.xid ∧ y.resent = true) ∧
    (s.txnAt xid port = some x → x.committed = false → x.kind ≠ .reset →
      exec (.stageAckTimeout xid port) s = .next (failTxn s x (x.tiles.filter fun t => !x.acked.contains t))) ∧
    (s.txnAt xid port = some x → (x.committed = true ∨ x.kind = .reset) → exec (.stageAckTimeout xid port) s = .next s) ∧
    ((s.links.txns.find? fun x => decide (x.xid.toNat = xid) && (s.portsOf x.tiles).contains port) = some x →
      x.committed = true → x.kind ≠ .reset → x.inProgress = true → (x.frame ≠ 0 ∨ s.uptime < x.stagedAt + 100000000) →
      exec (.commitRepeat xid port) s = .next (s.each (x.tiles.filter fun t => !x.done.contains t) fun s t => sendCommit s x t)) ∧
    ((s.links.txns.find? fun x => decide (x.xid.toNat = xid) && (s.portsOf x.tiles).contains port) = some x →
      x.committed = true → x.kind ≠ .reset → x.inProgress = true → x.frame = 0 → x.applyTime ≤ s.wall → x.stagedAt + 100000000 ≤ s.uptime →
      exec (.commitRepeat xid port) s = .next (closeTxn s x)) ∧
    ((s.tile t).driveWait = true → (s.tile t).assigned = true → s.txnOn t = none →
      exec (.driveRetry t) s = .next (startDrive s t)) ∧
    ((s.tile t).assigned = true → (s.tile t).quietSent = false →
      exec (.tileStatusTimeout t) s = .next (tileEvent (s.modTile t fun x => { x with quietSent := true }) t 2)) ∧
    ((s.tile t).assigned = true → (s.tile t).quietSent = true → exec (.tileStatusTimeout t) s = .next s)

/-! ### Tile links -/

/-- The receive states of a segment end (R161, R192, R193, R195) at a port of a die that runs: signal, block lock by 64 valid
headers, UP with event 0x01, QUIET and back, lock timeout with event 0x03, and the falls to DOWN, by loss of the signal or by 16
invalid headers among 64; every other state keeps the port as it is. TIME_SYNC, KEEPALIVE and PONG_RECEIVED (R167, R179, R183,
R184, R190, R194, R204, R205): SYNC carries the wall time in a TIME frame by BCAST, with no spread in force; KEEPALIVE leaves with
no payload; from a transmitter in QUIET both leave behind its wake, which ends QUIET; a PONG that agrees with the first run of its
hop within 0.5 ns sets LINKDLY to the mean of the two. Upstream frames (R162, R166, R168, R173, R189, R217, R249) as the code
words of their blocks: those without a valid frame and those with ORIGIN 0 to 2 are counted and nothing else, whichever row brings
them; a stale UCNT is counted and nothing else; a fresh one is kept; an echo with the sent CRC confirms the region and its send of
the frame before; a STATUS of an assigned tile is kept as the copy of the die that received it, with its time. The model's choices
it rests on: log entries 26, 43, 61, 63, 78, 116. -/
def Obligations.TileLinks : Prop :=
  (∀ (s : State) (p : Nat) (signal : Bool) (headers : List Bool), s.alive p = true →
     ((s.port p).rx = .down → exec (.linkSignalDetect p) s = .next (s.modPort p fun x => { x with rx := .locking })) ∧
     (lockFound headers = true → (s.port p).rx = .locking →
       exec (.linkBlockLock ⟨p, headers⟩) s = .next (s.modPort p fun x => { x with rx := .aligned })) ∧
     (lockFound headers = true → (s.port p).rx = .upQuiet →
       exec (.linkBlockLock ⟨p, headers⟩) s = .next (s.modPort p fun x => { x with rx := .up, rxSleep := false })) ∧
     (lockFound headers = false → exec (.linkBlockLock ⟨p, headers⟩) s = .next s) ∧
     ((s.port p).rx = .locking → exec (.linkLockTimeout p) s =
       .next (raise (s.modPort p fun x => { x with rx := .down }) (portSource p) 3 0)) ∧
     ((s.port p).rx = .aligned → ∃ t, exec (.linkUp p) s = .next t ∧ (t.port p).rx = .up ∧
       (s.hub.cpFailed = false → (t.event (portSource p)).count = (s.event (portSource p)).count + 1)) ∧
     ((s.port p).rx = .up → exec (.linkQuiet p) s = .next (s.modPort p fun x => { x with rx := .upQuiet, rxSleep := true })) ∧
     ((s.port p).rx = .up → (signal = false ∨ lockLost headers = true) →
       ∃ t, exec (.linkDown ⟨p, signal, headers⟩) s = .next t ∧ (t.port p).rx = .down ∧
         (s.hub.cpFailed = false → (t.event (portSource p)).count = (s.event (portSource p)).count + 1)) ∧
     ((s.port p).rx = .upQuiet → exec (.linkDown ⟨p, signal, headers⟩) s = .next s) ∧
     ((s.port p).rx = .upQuiet → ∃ t, exec (.quietSilenceTimeout p) s = .next t ∧ (t.port p).rx = .down)) ∧
  (∀ (s : State) (p t : Nat) (b : Arrival) (f : Frame) (t4 a d : Int),
     (s.transmits p = true → (s.port p).tx = .on → (s.port p).spread = 0 → exec (.timeSync p) s =
       .next ((emitFrame s p (portHeader s p 3 true 6) 0 [0, BitVec.ofNat 64 s.wall, 0, 0, 0, 0]).modPort p
         fun y => { y with lastSync := s.uptime })) ∧
     (s.transmits p = true → (s.port p).tx = .on → exec (.keepalive p) s = .next (emitFrame s p (portHeader s p 9 false 0) 0 [])) ∧
     (s.transmits p = true → ∃ u, exec (.timeSync p) s = .next u ∧ (u.port p).tx = .on ∧ (u.port p).lastSync = s.uptime ∧
       (u.port p).lastSent = s.uptime) ∧
     (s.transmits p = true → ∃ u, exec (.keepalive p) s = .next u ∧ (u.port p).tx = .on ∧ (u.port p).lastSent = s.uptime) ∧
     (s.hears p = true → frameOf b = some f → f.origin = 3 → f.type = 3 → fld (wordAt f.payload 0) 3 0 = 2 →
       s.tileAway p (fld (wordAt f.payload 0) 11 8) = some t →
       (s.hop p (s.posOf t)).sentAt = some (wordAt f.payload 1).toNat → (s.hop p (s.posOf t)).due = true →
       (s.hop p (s.posOf t)).runs = [a] →
       d = roundDivI (t4 - (wordAt f.payload 1).toNat * 65536 - (wordAt f.payload 3).toNat - (wordAt f.payload 2).toNat) 2 →
       (a - d).natAbs ≤ 32768 →
       ∃ u, exec (.pongReceived p b.fill b.codes t4) s = .next u ∧ (u.hop p (s.posOf t)).linkdly = (roundDivI (a + d) 2).toNat ∧
         (u.hop p (s.posOf t)).suspect = false ∧ (u.hop p (s.posOf t)).due = false)) ∧
  (∀ (s s1 : State) (p : Nat) (a : Arrival) (f : Frame) (w : Word) (x : SentRegion) (i : Instr), s.hears p = true →
     s1 = (s.modPort p fun y => { y with nReserved := y.nReserved + BitVec.ofNat 32 (a.fill.countP fun t => !knownControl t),
                                         nCorrected := y.nCorrected + BitVec.ofNat 32 (fixedWords a) }) →
     (i = .upstreamFrameInvalid p a ∨ i = .downstreamFrameDiscard p a ∨ i = .echoReceived p a.fill a.codes ∨
         i = .statusReceived p a.fill a.codes ∨ ∃ t4, i = .pongReceived p a.fill a.codes t4) →
     (frameOf a = none → exec i s =
       .next (s1.modPort p fun y => { y with nInvalid := y.nInvalid + 1, nUncorr := y.nUncorr + BitVec.ofNat 32 (badWords a) })) ∧
     (frameOf a = some f → f.origin ≤ 2 → exec i s = .next (s1.modPort p fun y => { y with nOrigin := y.nOrigin + 1 })) ∧
     (frameOf a = some f → f.origin = 3 → (∀ u, Tbl.get none (s.port p).ucnt f.tile = some u → newer f.ucnt u = false) →
       (Tbl.get none (s.port p).ucnt f.tile).isSome →
       (f.type = 8 → exec (.echoReceived p a.fill a.codes) s = .next (s1.modPort p fun y => { y with nStale := y.nStale + 1 })) ∧
       (f.type = 7 → exec (.statusReceived p a.fill a.codes) s = .next (s1.modPort p fun y => { y with nStale := y.nStale + 1 }))) ∧
     (frameOf a = some f → f.origin = 3 → (∀ u, Tbl.get none (s.port p).ucnt f.tile = some u → newer f.ucnt u = true) →
       (f.type = 8 → f.payload = [w] → fld w 49 48 = 0 →
         ((s.port p).sent.find? fun z => z.tile = f.tile && z.region = fld w 47 32 && z.frame % 2 ^ 24 = f.frame24) = some x →
         x.crc = BitVec.ofNat 32 (fld w 31 0) →
         ∃ t, exec (.echoReceived p a.fill a.codes) s = .next t ∧ Tbl.get none (t.port p).ucnt f.tile = some f.ucnt ∧
           ∀ z ∈ (t.port p).sent, z.tile = f.tile → z.region = fld w 47 32 → z.frame = x.frame ∨ z.frame + 1 = x.frame →
             z.confirmed = true) ∧
       (f.type = 7 → (s.tile f.tile).assigned = true → ∃ t y, exec (.statusReceived p a.fill a.codes) s = .next t ∧
         (match portDie p with
           | .a => (t.tile f.tile).statusA
           | .b => (t.tile f.tile).statusB) = some y ∧ y.words = f.payload ∧ y.at_ = s.uptime)))

/-! ### The line code -/

/-- The code words and frames of a tile link (R162 to R166, R213): a word without an error decodes as itself, one flipped bit of
its 72 is corrected and two are uncorrectable; a group keeps each code word at its place; a frame that is sent is the frame
received, while every word has at most one flipped bit, and one with an inverted trailer is invalid. The model's choices it rests
on: log entry 78. -/
def Obligations.LineCode : Prop :=
  (∀ w : Word, decodeCode (codeOf w) = .clean w) ∧
  (∀ (w : Word) (i : Nat) (x : Code), i < 72 →
    x = (if i < 64 then ⟨w ^^^ BitVec.ofNat 64 (2 ^ i), checkByte w⟩ else ⟨w, checkByte w ^^^ BitVec.ofNat 8 (2 ^ (i - 64))⟩) →
    decodeCode x = .fixed w ∧
    ∀ (j : Nat) (y : Code), j < 72 → j ≠ i →
      y = (if j < 64 then ⟨x.data ^^^ BitVec.ofNat 64 (2 ^ j), x.check⟩ else ⟨x.data, x.check ^^^ BitVec.ofNat 8 (2 ^ (j - 64))⟩) →
      decodeCode y = .bad) ∧
  (∀ (g : List Code) (j : Nat) (c : Code), g[j]? = some c →
    groupString g / 2 ^ (72 * j) % 2 ^ 72 = c.data.toNat + c.check.toNat * 2 ^ 64) ∧
  (∀ (h0 h1 : Word) (payload : List Word) (a : Arrival), fld h0 63 48 = payload.length → lenLegal (fld h0 3 0) payload.length = true →
    (decodedOf a).map Decoded.word = (frameWords h0 h1 payload false).map some → frameOf a = some ⟨h0, h1, payload⟩) ∧
  ∀ (h0 h1 : Word) (payload : List Word) (fill : List Byte), fld h0 63 48 = payload.length →
    frameOf ⟨fill, (frameWords h0 h1 payload true).map codeOf⟩ = none

/-! ### Lamp correction -/

/-- RECORDS and TILE_BLOCK (R122 to R124): a load into a tile of the owner, aligned and with room, puts the tile in STAGING, is
read from host memory cut at the end of the array and split at the Max Read Request Size, and leaves the active banks as they are;
a foreign tile only counts a violation; a tile with a pending switch gives BUSY. CORRECTION_LOAD_DONE (R122, R124, R125, R310):
the oldest load of a STAGING tile writes its bytes into the inactive bank of the dies that hold the tile, and into nothing else; a
failed read completes with TIMEOUT and writes nothing. The model's choices it rests on: log entries 2, 3, 28, 76, 126. -/
def Obligations.CorrectionLoads : Prop :=
  (∀ (s s1 : State) (g k t n : Nat) (d : Desc) (records : Bool) (x : CanvasCfg × Placement) (i : Instr),
     (i = .records g d ∧ records = true ∨ i = .tileBlock g d ∧ records = false) → fld d.w0 7 0 = (if records then 0x10 else 0x11) →
     (s.ring g).type = 2 → s.hub.cpFailed = false → t = fld d.w0 24 16 → bankNeeded s t = false → n = fld d.w0 63 32 →
     takeOrdered s g d = some (s1, k) →
     (s1.owns (s1.ring g).owner 4 t = false → exec i s =
       .next (finishOrdered (violate s1 (s1.ring g).owner) g k (corrCompletion (violate s1 (s1.ring g).owner) d 0 false 0))) ∧
     (s1.owns (s1.ring g).owner 4 t = true → n ≠ 0 → n ≠ 0xFFFFFFFF → corrCfg s1 t = some x →
       (∀ c f, (s1.corr t).state = .pending c f → exec i s = .next (finishOrdered s1 g k (corrCompletion s1 d 2 false 0))) ∧
       ((∀ c f, (s1.corr t).state ≠ .pending c f) → fld d.w2 31 0 % (if records then x.1.recSize else 2) = 0 →
         n % (if records then x.1.recSize else 2) = 0 → fld d.w2 31 0 < corrRoom records x →
         ∃ u, exec i s = .next u ∧ (u.corr t).state = .staging ∧ (∀ e, (u.corr t).active e = (s1.corr t).active e) ∧
           (u.corr t).loads = (s1.corr t).loads ++ [⟨g, k, d, min n (corrRoom records x - fld d.w2 31 0),
             decide (corrRoom records x - fld d.w2 31 0 < n), x.1.recSize, x.2.tw * x.2.th * x.1.recSize⟩] ∧
           (let l := min n (corrRoom records x - fld d.w2 31 0)
            let m := max 1 (min 4096 (s1.func (s1.ring g).owner).maxRead)
            u.out = ((List.range (ceilDiv l m)).map fun j =>
              Out.hostRead (s1.ring g).owner (d.w1 + BitVec.ofNat 64 (j * m)) (min m (l - j * m))).reverse ++ s1.out)))) ∧
  (∀ (s : State) (t : Nat) (l : CorrLoad) (rest : List CorrLoad) (bytes : List Byte),
     (s.corr t).loads = l :: rest → bankNeeded s t = false → s.hub.cpFailed = false →
     ((s.corr t).state = .staging → ∃ u, exec (.correctionLoadDone t (.data bytes)) s = .next u ∧
       (u.corr t).loads = rest ∧ (∀ e, (u.corr t).active e = (s.corr t).active e) ∧
       (∀ e ∈ corrDies s t, (u.corr t).idle e =
         corrWrite ((s.corr t).idle e) (fld l.desc.w0 7 0 = 0x10) l.recSize l.arrSize (fld l.desc.w2 31 0) (bytes.take l.len)) ∧
       (∀ e, e ∉ corrDies s t → (u.corr t).idle e = (s.corr t).idle e)) ∧
     (∃ u, exec (.correctionLoadDone t .failed) s = .next u ∧ (u.corr t).loads = rest ∧
       (∀ e, (u.corr t).active e = (s.corr t).active e ∧ (u.corr t).idle e = (s.corr t).idle e)))

/-- CORR_COMMIT (R122, R126, R127) in POWER state RUN: the STAGING tiles placed by then on a running canvas become PENDING for the
first frame whose selection is 1 ms ahead, on the new grid past the repeat of a timing change; those of a canvas that is not
running switch at once with N = 0, where the model takes the staged list of a canvas that has none committed; with DISCARD the
tiles are CLEAN again; a bad block gives BADPARAM with its tile; CHECK changes nothing. Outside RUN the answer is NOTREADY.
CORR_HASH, CORR_PROBE, CORR_PROBE_READ and CORR_PROBE_CAPTURE (R126, R129, R130): the hashes and bank states of a tile; a probe of
a pixel of a placed tile is ACCEPTED and recorded after those in flight, one outside the tile gives BADPARAM and one of a tile on
no canvas NOTREADY; the capture taken last is read by its sender alone, as zeros before one is taken; a probe whose region was
computed ends with the stages taken then and VALID 1, and one whose frame came without its region with VALID 0. RECORD_REPAIR and
HASH_RECOMPUTE (R129, R131): a poisoned line of a die's active bank is written again from the twin die's bank where that die is up
and its line is good, else from the hub's master copy, and is no longer poisoned; the hashes are the CRC-32C of the records and of
the block of the active bank, and valid. The model's choices it rests on: log entries 29, 35, 68, 77, 85, 98, 125. -/
def Obligations.CorrectionCommands : Prop :=
  (∀ (r : Req) (s s1 : State) (c first n : Nat) (cfg : CanvasCfg) (l : List Nat), Served opCorrCommit r s s1 → c = fld (r.word 0) 1 0 →
     (s1.clocks.power ≠ .run → exec (.corrCommit r) s = .next (replied s1 r 5 (cut r) [])) ∧
     (s1.clocks.power = .run → first = (s1.canvas c).firstFrame (s1.reqTime + 1000000) →
       n = (match (s1.canvas c).change with
         | some ch => if first ≤ ch.m then first
             else max (ch.m + 2) ((s1.canvas c).afterChange.firstFrame (s1.reqTime + 1000000))
         | none => first) →
       cfg = (if (s1.canvas c).running then cfgAt s1 c n else idleCfg (s1.canvas c)) →
       l = cfg.tileIds.filter (fun t => decide ((s1.corr t).state = .staging) &&
         ((s1.canvas c).running || (s1.canvasOf t).all fun k => k = c)) →
       (bit (r.word 0) 8 = true → r.check = false → ∃ s2, exec (.corrCommit r) s = .next (okTo s2 r [0, put l.length 10 0]) ∧
         (∀ t ∈ l, (s2.corr t).state = .clean) ∧ (∀ t, t ∉ l → s2.corr t = s1.corr t)) ∧
       (∀ t, bit (r.word 0) 8 = false → (l.find? fun t => !((s1.corr t).idle (corrDie s1 t)).blockOk cfg.np) = some t →
         exec (.corrCommit r) s = .next (replied s1 r 4 (cut r) [0, put t 9 16 ||| putB true 25])) ∧
       (bit (r.word 0) 8 = false → (∀ t ∈ l, ((s1.corr t).idle (corrDie s1 t)).blockOk cfg.np = true) →
         (r.check = true → exec (.corrCommit r) s =
           .next (okTo s1 r [put (if (s1.canvas c).running then n else 0) 48 0, put l.length 10 0])) ∧
         ((s1.canvas c).running = true → r.check = false →
           ∃ s2, exec (.corrCommit r) s = .next (okTo s2 r [put n 48 0, put l.length 10 0]) ∧
             (∀ t ∈ l, (s2.corr t).state = .pending c n) ∧ (∀ t, t ∉ l → s2.corr t = s1.corr t)) ∧
         ((s1.canvas c).running = false → r.check = false →
           ∃ s2, exec (.corrCommit r) s = .next (okTo s2 r [0, put l.length 10 0]) ∧
             (∀ t ∈ l, (s2.corr t).state = .clean ∧ (s2.corr t).since = 0) ∧
             (l.Nodup → ∀ t ∈ l, (s2.corr t).active1 = !(s1.corr t).active1) ∧ (∀ t, t ∉ l → s2.corr t = s1.corr t))))) ∧
  (∀ (r : Req) (s s1 : State) (t c : Nat) (p : Placement) (x : Corr), t = fld (r.word 0) 8 0 →
     (Served opCorrHash r s s1 → x = s1.corr t → exec (.corrHash r) s = .next (okTo s1 r
       [put (if noHash s1 t then 0 else x.recHash.toNat) 32 0 ||| putB (x.hvalid && !noHash s1 t) 32 ||| putB x.active1 33 |||
          put (match x.state with | .clean => 0 | .staging => 1 | .pending _ _ => 2) 2 34,
        put (if noHash s1 t then 0 else x.blkHash.toNat) 32 0, put x.since 48 0])) ∧
     (Served opCorrProbe r s s1 →
       (s1.canvasOf t = some c → s1.placement t = some p → fld (r.word 0) 25 16 < p.tw → fld (r.word 0) 41 32 < p.th →
         ∀ q : Probe, q = { id := s1.nextLong r.who, canvas := c, tile := t, u := fld (r.word 0) 25 16, v := fld (r.word 0) 41 32,
                            die := if bit (r.word 0) 48 then .b else .a, frame := fld (r.word 1) 47 0 } →
         exec (.corrProbe r) s = .next (acceptedTo (s1.modFunc r.who fun f => { f with probes := f.probes ++ [q] }) r (some c))) ∧
       (s1.canvasOf t = some c → s1.placement t = some p → (p.tw ≤ fld (r.word 0) 25 16 ∨ p.th ≤ fld (r.word 0) 41 32) →
         exec (.corrProbe r) s = .next (replied s1 r 4 (cut r) [])) ∧
       (s1.canvasOf t = none → exec (.corrProbe r) s = .next (replied s1 r 5 (cut r) []))) ∧
     (Served opCorrProbeRead r s s1 →
       (∀ w, (s1.func r.who).capture = some w → w.length = 12 → exec (.corrProbeRead r) s = .next (okTo s1 r w)) ∧
       ((s1.func r.who).capture = none → exec (.corrProbeRead r) s = .next (okTo s1 r (List.replicate 12 0)))) ∧
     (∀ f q, (s.func f).probes = [q] →
       (∀ n words, q.taken = some (n, words) →
         exec (.corrProbeCapture f) s = .next (endProbe s f ((s.canvasOf q.tile).getD q.canvas) n q words true)) ∧
       (q.taken = none → q.frame ≠ 0 → q.frame ≤ (s.canvas q.canvas).frame →
         exec (.corrProbeCapture f) s = .next (endProbe s f q.canvas q.frame q (put q.frame 48 0 :: List.replicate 11 0) false)) ∧
       (q.taken = none → q.frame = 0 → exec (.corrProbeCapture f) s = .next s))) ∧
  (∀ (s : State) (d : DieId) (t line : Nat) (x : Corr) (twin : Bool), x = s.corr t →
     twin = (s.twin && s.up d.other && !(x.poison d.other).contains line) →
     (line ∈ x.poison d → (twin = true ∨ s.hub.cpFailed = false) → ∃ u, exec (.recordRepair d t line) s = .next u ∧
       line ∉ (u.corr t).poison d ∧ (u.corr t).active d = repairLine (x.active d) (if twin then x.active d.other else x.master) line ∧
       (u.corr t).side d.other = x.side d.other) ∧
     (noHash s t = false → exec (.hashRecompute t) s = .next (s.modCorr t fun y =>
       { y with recHash := crc32c (recordBytes s t (y.active (corrDie s t))),
                blkHash := crc32c (memRead (y.active (corrDie s t)).block 0 2120), hvalid := true })) ∧
     (noHash s t = true → exec (.hashRecompute t) s = .next (s.modCorr t fun y =>
       { y with recHash := 0, blkHash := 0, hvalid := false })))

/-! ### Power and photosafety -/

/-- The SAFE reads (R153): a zone's scale and sums, a tile's factor, prediction, measurement and blocks, a canvas's flash windows,
a Scrim checker's counters; none changes anything. LOOP_TRIM_UPDATE and SCRIM_TABLE_CHECK (R140, R148, R154): after an update
every tile's trim lies within 1.0 to 1.5 and has moved by at most +0.10 or −0.02; a table that agrees with the arbiter's CRC and
the committed limits leaves the checker as it is, another, or one with an upset word, blocks it with event 0x07. The model's
choices it rests on: log entries 32, 65, 66, 69, 125. -/
def Obligations.SafetyReadsAndTrims : Prop :=
  (∀ (r : Req) (s s1 : State) (z : Zone) (x : SafeTile) (k' : Tracker) (f : Flash) (k : Scrim) (t c : Nat),
     (Served opSafeZoneRead r s s1 → z = s1.zone (fld (r.word 0) 5 0) → exec (.safeZoneRead r) s = .next (okTo s1 r
       [put z.frame 48 0 ||| put (z.g.getD 0) 16 48, put z.pred 32 0 ||| put z.measured 32 32,
        put z.scrimSum 32 0 ||| put z.withheld.toNat 16 32 ||| put z.hard.toNat 16 48])) ∧
     (Served opSafeTileRead r s s1 → t = fld (r.word 0) 8 0 → x = s1.safe t → k' = (x.view (s1.sumDie t)).trk →
       exec (.safeTileRead r) s = .next (okTo s1 r
         [put x.frame 48 0 ||| put (x.trim * x.derate / 16384) 16 48, put x.pred 32 0 ||| put x.measured 32 32,
          put k'.y 24 0 ||| putB k'.red 24 ||| putB (k'.dir = .rising) 25 ||| put k'.ext 24 40,
          put (match s1.canvasOf t with | some c => s1.cap c t | none => 0) 16 0 |||
            put (min 3 (match s1.sumDie t with | .a => x.blocksA | .b => x.blocksB)) 2 16 ||| putB x.dust 18 |||
            put x.total.toNat 32 32])) ∧
     (Served opSafeFlashRead r s s1 → c = fld (r.word 0) 1 0 → f = s1.flash c → exec (.safeFlashRead r) s = .next (okTo s1 r
       [put f.frame 48 0 ||| putB f.armed 48 ||| putB f.redArmed 49 |||
          put (min 15 (windowCount (s1.canvas c).committed (f.view s1.lead).rises)) 4 52 |||
          put (min 15 (windowCount (s1.canvas c).committed (f.view s1.lead).reds)) 4 56,
        put f.limited.toNat 32 0 ||| put f.armedFrames.toNat 32 32])) ∧
     (Served opSafeScrimRead r s s1 → k = s1.scrim (if bit (r.word 0) 8 then .b else .a) (fld (r.word 0) 1 0) →
       exec (.safeScrimRead r) s = .next (okTo s1 r
         [put k.capBlocks.toNat 32 0 ||| put k.flashBlocks.toNat 32 32, put k.powerFails.toNat 32 0 ||| put k.latentRun.toNat 32 32,
          put k.latentFail.toNat 32 0 ||| put k.dustEntries.toNat 32 32]))) ∧
  (∀ (s : State) (c r : Nat) (d : DieId),
     ((s.canvas c).running = true → s.computing ≠ [] → (s.canvas c).committed.tileIds.Nodup →
       ∃ t, exec (.loopTrimUpdate c) s = .next t ∧ ∀ k ∈ (s.canvas c).committed.tileIds,
         (s.safe k).statusI ≠ [] → 16384 ≤ (s.safe k).trim → (s.safe k).trim ≤ 24576 →
         16384 ≤ (t.safe k).trim ∧ (t.safe k).trim ≤ 24576 ∧ (t.safe k).trim ≤ (s.safe k).trim + 1638 ∧
         (s.safe k).trim ≤ (t.safe k).trim + 327) ∧
     ((s.die d).running = true → scrimAgrees s d r = true → exec (.scrimTableCheck d ⟨r, none⟩) s = .next s) ∧
     ((s.die d).running = true → rawCrc (s.scrim d r).raw ≠ (s.scrim d r).arbCrc → exec (.scrimTableCheck d ⟨r, none⟩) s =
       .next (raise (s.modScrim d r fun y => { y with blocked := true }) (regionSource d r) 7 0)) ∧
     (∀ k v, (s.die d).running = true → scrimAgrees (upsetScrim s d r k v) d r = false →
       ∃ t, exec (.scrimTableCheck d ⟨r, some (k, v)⟩) s = .next t ∧ (t.scrim d r).blocked = true))

/-! ### Frames: selection, regions, votes, flips -/

/-- SELECTION_INSTANT, FRAME_ORDER_ACK and FRAME_ORDER_ACK_TIMEOUT (R20, R197): a running canvas whose next frame is to be
selected goes on to it; the shadow's acknowledgement is noted and lets the frame's stripes go to their scalers; without one the
order is resent once, and then the shadow is reported. Regions (R24, R29, R30, R105, R149, R180, R217, R265): a region that is due
is computed and checked by Scrim, its result recorded under the frame; one under a poisoned record has outcome 1, one that is not
finished outcome 4; a region whose turn has come leaves its port, with underruns or without; an engine's watchdog is recorded as
an error; a DMA fault resets its region, whose output stays blocked until a latent test passes; a test that fails resets its
region. The model's choices it rests on: log entries 5, 31, 43, 56, 81, 88, 90. -/
def Obligations.OrdersAndRegions : Prop :=
  (∀ (s : State) (c : Nat),
     ((s.canvas c).running = true → (s.canvas c).next = (s.canvas c).frame + 1 → exec (.selectionInstant c) s = .next (select s c)) ∧
     ((s.canvas c).running = true → (s.canvas c).next ≠ (s.canvas c).frame + 1 → exec (.selectionInstant c) s = .next s) ∧
     ((s.canvas c).running = false → (s.canvas c).pending = none → exec (.selectionInstant c) s = .next s) ∧
     (s.twin = true → s.up s.lead = true → s.up s.lead.other = true → ∀ o, (s.canvas c).order = some o →
       (o.acked = false → exec (.frameOrderAck c) s =
         .next (placeStripes (s.modCanvas c fun x => { x with order := some { o with acked := true } }) c)) ∧
       (o.acked = true → exec (.frameOrderAck c) s = .next s) ∧
       (o.acked = false → (s.die s.lead).fenceReq = false → exec (.frameOrderAckTimeout c) s =
         .next (sendHeartbeat (s.modDie s.lead fun x => { x with fenceReq := true }) s.lead)) ∧
       (o.acked = true → exec (.frameOrderAckTimeout c) s = .next s))) ∧
  (∀ (s : State) (d : DieId) (t i c port engine region : Nat) (o : FrameOrder) (p : Placement) (r : RegionRes)
     (under : List (Nat × Nat)) (faults : ScrimFaults),
     (regionDue s d t i = some (c, o, p) →
       exec (.regionComputed d t i .good) s =
         .next (computeRegion (soilCluster s d (pickCluster s d (s.regionOf t))) d c p o i none none).drawn) ∧
     (regionDue s d t i = some (c, o, p) → recordBad s d c p i = true → ∃ u x, exec (.regionComputed d t i .good) s = .next u ∧
       u.result d t i = some x ∧ x.frame = o.frame ∧ x.outcome = 1) ∧
     (regionDue s d t i = some (c, o, p) → ∃ u x, exec (.regionComputed d t i .unfinished) s = .next u ∧
       u.result d t i = some x ∧ x.frame = o.frame ∧ x.outcome = 4) ∧
     (s.canvasOf t = some c → (s.canvas c).order = some o → (s.canvas c).committed.place t = some p → s.result (portDie port) t i = some r →
       (s.canvas c).flipSent = false → inTime s c o.frame = true → readyToSend s (portDie port) o.frame t i = true → port ∈ s.portsTo t →
         s.canSend (portDie port) port = true →
       (s.port port).tx = .on → noSend s (portDie port) t = false → turnToSend s port c o.frame t i = true →
       ∃ u, exec (.regionSend port t i under) s = .next u ∧ (u.port port).nRegions = (s.port port).nRegions + 1 ∧
         ∃ x ∈ (u.port port).sent, x.tile = p.tile ∧ x.region = i ∧ x.frame = o.frame ∧ x.confirmed = false) ∧
     ((s.die d).running = true → engine < 128 → (s.die d).serviceable (engine / 8) = true →
       Tbl.get none (s.die d).engineErr engine = none → exec (.engineWatchdogExpiry d engine) s =
         .next (recordError (s.modDie d fun x => { x with engineErr := Tbl.set none x.engineErr engine (some 0) }) d .watchdog)) ∧
     ((s.die d).running = true → ((s.die d).region region).lost = false → exec (.regionDmaFault d region) s =
       .next (s.modRegion d region fun x => { x with resetting := true, blocked := true })) ∧
     (((s.die d).region region).resetting = true → exec (.regionResetDone d region) s =
       .next (s.modRegion d region fun x => { x with resetting := false, again := x.latent })) ∧
     ((s.die d).running = true → (scrimServes s d region = false ∨ s.clocks.power ≠ .run) →
       (latentOk (s.scrim d region).lane faults = true → ((s.die d).region region).blocked = false →
         exec (.scrimIdleLatentTest d region faults) s =
           .next (s.modScrim d region fun y => { y with lane := (y.lane + 1) % 64, latentRun := y.latentRun + 1 })) ∧
       (latentOk (s.scrim d region).lane faults = true → ((s.die d).region region).resetting = false →
         ((s.die d).region region).lost = false → ∃ u, exec (.scrimIdleLatentTest d region faults) s = .next u ∧
           ((u.die d).region region).blocked = false) ∧
       (latentOk (s.scrim d region).lane faults = false → ((s.die d).region region).lost = false →
         ((s.die d).region region).again = false → ∃ u, exec (.scrimIdleLatentTest d region faults) s = .next u ∧
           ((u.die d).region region).resetting = true ∧ ((u.die d).region region).blocked = true ∧
           (u.scrim d region).latentFail = (s.scrim d region).latentFail + 1)))

/-- Reports and votes (R265 to R270) in Twin mode with both dies up and the same microcode: equal CRCs of two complete regions
start no vote, different ones start one with E201 code 0x01; a replay's CRC is entered in its vote, which is then decided; where
no cluster can replay the vote is deferred. FRAME_VERDICT, VERDICT_TIMEOUT and FLIP_INSTANT (R143, R197, R203, R222, R486): a
frame that is next to flip gets its verdicts once; a frame with late work ends as a repeat; 20 µs after its verdict a lone die
sends the FLIP, which a step of wall time just before F(N) withholds; at F(N) the canvas's frame becomes N. The model's choices it
rests on: log entries 5, 43, 44, 66, 68, 88, 106, 112. -/
def Obligations.VerdictsAndFlips : Prop :=
  (∀ (s : State) (t i c : Nat) (o : FrameOrder) (a b : RegionRes) (v w : Vote) (crc : BitVec 32) (k : Nat), s.twin = true →
     s.up .a = true → s.up .b = true →
     (s.canvasOf t = some c → (s.canvas c).order = some o → s.result .a t i = some a → s.result .b t i = some b →
       a.frame = o.frame → b.frame = o.frame → a.reported = false → a.outcome = 0 → b.outcome = 0 → s.sameMicrocode = true →
       (a.crc = b.crc → ∃ u, exec (.regionReport t i) s = .next u ∧ u.dies = s.dies ∧ u.queues = s.queues ∧
         u.result .a t i = some { a with reported := true } ∧ u.result .b t i = some { b with reported := true }) ∧
       (a.crc ≠ b.crc → ∃ u w, exec (.regionReport t i) s = .next u ∧ w ∈ u.dies.twin.votes ∧ w.tile = t ∧ w.region = i ∧
         w.frame = o.frame ∧ w.a0 = a.crc ∧ w.b0 = b.crc ∧ u.dies.twin.mismatches = s.dies.twin.mismatches + 1)) ∧
     ((s.dies.twin.votes.find? fun v => v.tile = t && v.region = i && !v.ended && !v.tie) = some v → v.a1 = none →
       (replayOn s .a v = some k → w = { v with a1 := some (some crc), repA := some k } →
         exec (.replayResult .a t i (some crc) k) s = .next (decideVote ((soilCluster s .a k).modVote v fun _ => w) w).drawn) ∧
       (replayOn s .a v = none → exec (.replayResult .a t i (some crc) k) s = .next (endVote s v 7 0 none)))) ∧
  (∀ (s : State) (c : Nat) (o : FrameOrder) (ok : List (DieId × Nat × ScrimFaults)) (d : DieId),
     ((s.canvas c).order = some o → (s.canvas c).running = true → (s.canvas c).flipSent = false → (s.canvas c).withheld = false →
       o.frame = (s.canvas c).frame + 1 → s.computing ≠ [] → (c, o.frame) ∉ s.dies.twin.verdictWait →
       framePhase s c o.frame ≠ .silent → o.acked = true → (sendsLeft s o = false ∨ inTime s c o.frame = false) →
       (o.isRepeat = true → exec (.frameVerdict c ok) s = .next (endRepeat (frameLatents s c o ok) c o.frame)) ∧
       (o.isRepeat = false → workLate (frameLatents s c o ok) o = true →
         exec (.frameVerdict c ok) s = .next (endLate (frameLatents s c o ok) c o.frame)) ∧
       (o.isRepeat = false → workLate (frameLatents s c o ok) o = false →
         exec (.frameVerdict c ok) s = .next (endFrame (frameLatents s c o ok) c o))) ∧
     (s.up d = true → s.up d.other = false → (c, (s.canvas c).frame + 1) ∈ s.dies.twin.verdictWait →
       (stepBlocks s c ((s.canvas c).frame + 1) = false → ∃ t, exec (.verdictTimeout d c) s = .next t ∧ (t.canvas c).flipSent = true ∧
         (t.canvas c).lastFlipFrame = (s.canvas c).frame + 1) ∧
       (stepBlocks s c ((s.canvas c).frame + 1) = true → ∃ t, exec (.verdictTimeout d c) s = .next t ∧ (t.canvas c).withheld = true ∧
         (t.canvas c).flipSent = (s.canvas c).flipSent)) ∧
     ((s.canvas c).running = true → (s.canvas c).next = (s.canvas c).frame + 2 → (s.canvas c).change = none →
       (s.canvas c).mcFrame = none → ∃ t, exec (.flipInstant c) s = .next t ∧ (t.canvas c).frame = (s.canvas c).frame + 1) ∧
     ((s.canvas c).next ≠ (s.canvas c).frame + 2 → exec (.flipInstant c) s = .next s))

/-! ### Power modes, clocks, temperature -/

/-- SYS_POWER and SYS_POWER_COMPLETE (R450, R471, R472, R518): the mode in force is answered OK with no effect; another one is
ACCEPTED and recorded with its instant, and from Sleep opens the gates and wakes the transmitters; DeepSleep to Sleep and a
reserved code give BADPARAM; a change in progress, or one of microcode in its steps 1 to 4, gives BUSY; once the last frames have
flipped the mode, its memories and its gates are reached. The model's choices it rests on: log entries 17, 23. -/
def Obligations.PowerModes : Prop :=
  ∀ (r : Req) (s s1 s2 : State) (m : PwrMode) (p : PwrChange),
    (Served opSysPower r s s1 → fld (r.word 0) 1 0 ≠ 3 → s1.clocks.change = none →
      m = (if fld (r.word 0) 1 0 = 0 then .run else if fld (r.word 0) 1 0 = 1 then .sleep else .deep) →
      (m = s1.clocks.power → exec (.sysPower r) s = .next (okTo s1 r [])) ∧
      (m ≠ s1.clocks.power → ¬(s1.clocks.power = .deep ∧ m = .sleep) → s1.mcMoves = true →
        exec (.sysPower r) s = .next (replied s1 r 2 (cut r) [])) ∧
      (m ≠ s1.clocks.power → ¬(s1.clocks.power = .deep ∧ m = .sleep) → s1.mcMoves = false →
        (m = .run ∨ (s1.dies.twin.state ≠ .copy ∧ s1.dies.twin.state ≠ .verify ∧ ∀ c, c < 4 → (s1.canvas c).change = none)) →
        s2 = s1.modClocks (fun c => { c with change := some ⟨r.who, s1.nextLong r.who, m, s1.reqTime⟩ }) →
        exec (.sysPower r) s = .next (acceptedTo
          (if s1.clocks.power = .sleep then setTransmitters (setGates s2 .run) false else s2) r none)) ∧
      (s1.clocks.power = .deep → m = .sleep → exec (.sysPower r) s = .next (replied s1 r 4 (cut r) []))) ∧
    (Served opSysPower r s s1 → fld (r.word 0) 1 0 = 3 → exec (.sysPower r) s = .next (replied s1 r 4 (cut r) [])) ∧
    (Served opSysPower r s s1 → fld (r.word 0) 1 0 ≠ 3 → s1.clocks.change.isSome →
      exec (.sysPower r) s = .next (replied s1 r 2 (cut r) [])) ∧
    (s.clocks.change = some p → (s.clocks.power = .deep ∨ powerFramesDone s p = true) →
      ∃ u, exec .sysPowerComplete s = .next u ∧ u.clocks.power = p.mode ∧ u.clocks.change = none ∧
        u.clocks.memH = (match p.mode with
          | .run => .active | .sleep => .powerDown | .deep => .partialArray) ∧
        (∀ d c, c < 16 → (u.gate (.cluster d c)).isOpen = decide (p.mode = .run)) ∧
        (p.mode = .deep → u.frames.memA = [] ∧ u.frames.memB = []))

/-- SYS_POWER_READ (R491): every sender is entitled to it; it answers power, budget, rung, operating points, shed states and the
four counters, which a package reset clears. -/
def Obligations.PowerRead : Prop :=
  ∀ (r : Req) (s s1 : State) (b : Budget), entitled opSysPowerRead s1 r = true ∧
    (Served opSysPowerRead r s s1 → b = s1.budget → exec (.sysPowerRead r) s = .next (okTo s1 r
      [put (b.pA + b.pB + b.pHub) 16 0 ||| put s1.pMean 16 16 ||| put (s1.budgetLimit / 10) 8 32 ||| put b.rung 4 40 |||
         put s1.clocks.opA.op 2 44 ||| put s1.clocks.opB.op 2 46 ||| putB (s1.oShed .a || s1.oShed .b) 48 |||
         putB (s1.dShed .a || s1.dShed .b) 49 ||| put (budgetPause b.rung) 8 56,
       put b.pA 16 0 ||| put b.pB 16 16 ||| put b.pHub 16 32, pair b.repeats b.climbs, pair b.dMs b.oMs])) ∧
    (packageReset s).budget.repeats = 0 ∧ (packageReset s).budget.climbs = 0 ∧ (packageReset s).budget.dMs = 0 ∧
    (packageReset s).budget.oMs = 0

/-- References and root PLLs (R456, R457, R460 to R462): a stable REFCLK starts the PLLs, after a loss with a package reset; its
loss stops all three and drops the links; a die's PLL loss makes it fatal with CAUSE 1 and its memory refresh itself; the hub's
stops the control processor, which restarts through STAGE 7 when the PLL is back within 10 ms, and stays failed when it is back
later or had failed before; a lane reference change above 5 ppm is trimmed by at most 1 ppm a step. Clock gates (R469): a request
to close an open gate waits for idle, no sooner than 10 µs after a dropped one; after its timeout the gate stays open and the drop
is counted. The model's choices it rests on: log entries 17, 23, 116. -/
def Obligations.ClocksAndGates : Prop :=
  (∀ (s : State) (d : DieId) (t : Nat) (offset : Int),
     (∀ s1, s1 = (if s.clocks.refLost then packageReset s else s) → exec .refclkStable s =
       .next (s1.modClocks fun c => { c with refOk := true, refLost := false, pllA := true, pllB := true, pllH := true })) ∧
     (s.clocks.refOk = true → ∃ u, exec .refclkLoss s = .next u ∧ u.clocks.refOk = false ∧ u.clocks.refLost = true ∧
       u.clocks.pllA = false ∧ u.clocks.pllB = false ∧ u.clocks.pllH = false ∧ ∀ l, l < 4 → (u.link l).state = .down) ∧
     (s.pll d = true → (s.die d).running = true → (s.die d).fatal = false →
       ∃ u, exec (.rootPllLockLoss d) s = .next u ∧ u.pll d = false ∧ (u.die d).fatal = true ∧ (u.die d).cause = 1 ∧
         u.memMode d.die3 = .selfRefresh ∧ (u.opState d).change = none) ∧
     (s.clocks.pllH = true → ∃ u, exec .hubPllLockLoss s = .next u ∧ u.hub.cpFailed = true ∧ u.clocks.pllH = false ∧
       u.clocks.memH = .selfRefresh ∧
       u.clocks.hubLostAt = if s.hub.cpFailed then none else some s.uptime) ∧
     (s.clocks.pllH = false → (s.clocks.hubLostAt = none ∨ ∃ t, s.clocks.hubLostAt = some t ∧ t + 10000000 < s.uptime) →
       ∃ u, exec .hubPllRelock s = .next u ∧ u.hub = s.hub ∧ u.clocks.pllH = true ∧ u.clocks.memH = .active) ∧
     (s.clocks.pllH = false → s.clocks.hubLostAt = some t → s.uptime ≤ t + 10000000 → s.hub.stage ≠ .halted →
       ∃ u, exec .hubPllRelock s = .next u ∧ u.hub.cpFailed = false ∧ u.hub.stage = .restarting ∧ u.clocks.pllH = true ∧
         u.clocks.memH = .active ∧ u.clocks.hubLostAt = none) ∧
     (s.clocks.refOk = true → (offset - s.clocks.offset).natAbs ≤ 5000 →
       exec (.laneReferenceMeasurement offset) s = .next (s.modClocks fun c => { c with laneSeen := true })) ∧
     (s.clocks.refOk = true → 5000 < (offset - s.clocks.offset).natAbs →
       ∃ u, exec (.laneReferenceMeasurement offset) s = .next u ∧ u.clocks.laneSeen = true ∧
         u.clocks.offset = s.clocks.offset + max (-1000) (min 1000 (offset - s.clocks.offset)) ∧
         u.clocks.offset + u.clocks.trim = offset) ∧
     (exec .laneReferenceTrimStep s = .next (s.modClocks fun c =>
       { c with offset := c.offset + max (-1000) (min 1000 c.trim), trim := c.trim - max (-1000) (min 1000 c.trim) }))) ∧
  (∀ (s : State) (g : GateId),
     ((s.gate g).isOpen = true → (s.gate g).pending = false → (s.gate g).retryAt ≤ s.uptime →
       exec (.gateCloseRequest g) s = .next (s.modGate g fun x => { x with pending := true })) ∧
     ((s.gate g).pending = true → ∃ u, exec (.gateCloseTimeout g) s = .next u ∧ (u.gate g).pending = false ∧
       (u.gate g).isOpen = (s.gate g).isOpen ∧ (u.gate g).drops = (s.gate g).drops + 1 ∧ (u.gate g).retryAt = s.uptime + 10000))

/-- Operating points (R463, R465, R466, R525): a transition up waits for the regulator and an idle cluster, one down lowers the
frequency first and aborts the slices; the settle wait ends it, or retries it once; a supply voltage more than 5 % off, or VR_PG
low outside a transition, makes the die fatal with CAUSE 5. The model's choices it rests on: log entries 57, 116. -/
def Obligations.OperatingPoints : Prop :=
  ∀ (s : State) (d : DieId) (ack pg : Bool) (x : OpState) (c : OpChange) (v : Nat), x = s.opState d →
    ((s.die d).running = true → x.change = none → x.since + 1000000 ≤ s.uptime → x.op < x.target →
      (∀ k, k < 16 → ((s.die d).cluster k).slice = false) →
      exec (.opTransition d ack) s = .next (s.modOp d fun o =>
        { o with change := some ⟨x.target, true, !ack, s.uptime, ack⟩ })) ∧
    ((s.die d).running = true → x.change = none → x.since + 1000000 ≤ s.uptime → x.target < x.op →
      ∃ u, exec (.opTransition d ack) s = .next u ∧ (u.opState d).op = x.target ∧
        (u.opState d).change = some ⟨x.target, false, false, s.uptime, true⟩ ∧ ∀ k, k < 16 → ((u.die d).cluster k).slice = false) ∧
    ((s.die d).running = true → x.change = some c → c.settling = false →
      exec (.opTransition d true) s = .next (s.modOp d fun o => { o with change := some { c with settling := true } })) ∧
    (x.change = some c → c.settling = true → c.up = false ∨ (c.target ≤ x.target ∧ pg = true) →
      ∃ u, exec (.opSettle d pg) s = .next u ∧ (u.opState d).op = c.target ∧ (u.opState d).change = none ∧
        (u.opState d).since = s.uptime) ∧
    (x.change = some c → c.settling = true → c.up = true → c.target ≤ x.target → c.retried = false →
      exec (.opSettle d false) s = .next (s.modOp d fun o => { o with change := some { c with retried := true, settling := false } })) ∧
    ((s.die d).running = true → x.change = none → (s.die d).fatal = false → ∀ w : Int, w = opMv x.op * 4096 →
      (100 * (((v * 1000 : Nat) : Int) - w).natAbs ≤ 5 * w → exec (.regulatorMonitor d v) s =
        .next (s.modOp d fun o => { o with vout := some (v : Int) })) ∧
      (5 * w < 100 * (((v * 1000 : Nat) : Int) - w).natAbs →
        ∃ u, exec (.regulatorMonitor d v) s = .next u ∧ (u.die d).fatal = true ∧ (u.die d).cause = 5)) ∧
    ((s.die d).running = true → x.change = none → (s.die d).fatal = false → (s.therm d.die3).tripped = false →
      ∃ u, exec (.vrPgLow d) s = .next u ∧ (u.die d).fatal = true ∧ (u.die d).cause = 5)

/-- Temperature and the budget (R476 to R478, R481, R485, R487, R488): a slow sample, corrected by the diode's trim, is kept, and
an implausible one enters CRIT with SENSOR_FAULT; a throttle sample counts only from WARM upwards; a tripped die is only watched
for its release; a budget tick measures the package power; a trip stops its die (the hub's both dies), and its release, for a die
after 10 s below 85 °C, restarts the die at OP2. The model's choices it rests on: log entries 17, 58, 116, 117. -/
def Obligations.Temperature : Prop :=
  ∀ (s : State) (x : Die3) (d : DieId) (t y : Int) (rA rB : RailPower) (pH : Nat), y = s.trimmed x t →
    (s.hub.cpFailed = false → (s.therm x).tripped = false → ∃ u, exec (.slowRoundSample x t) s = .next u ∧ (u.therm x).now = y ∧
      (u.therm x).lastSlow = some (y, s.uptime) ∧
      (implausible (s.therm x).lastSlow y s.uptime = true → (u.therm x).fault = true ∧ (u.therm x).band = .crit)) ∧
    (s.hub.cpFailed = false → (s.therm x).tripped = true → exec (.slowRoundSample x t) s = .next (s.modTherm x fun z =>
      { z with coolSince := if y < 1360 then some (z.coolSince.getD s.uptime) else none })) ∧
    (s.hub.cpFailed = false → (s.therm x).tripped = false → 2 ≤ bandCode (s.therm x).band →
      ∃ u, exec (.throttleSample x t) s = .next u ∧ (u.therm x).lastFast = some (y, s.uptime)) ∧
    (bandCode (s.therm x).band ≤ 1 → exec (.throttleSample x t) s = .next s) ∧
    (s.hub.cpFailed = false → ∃ u, exec (.budgetTick rA rB pH) s = .next u ∧ u.budget.pA = railPower rA ∧ u.budget.pB = railPower rB ∧
      u.budget.pHub = pH ∧ u.budget.hist = ((railPower rA + railPower rB + pH) :: s.budget.hist).take 10) ∧
    ((s.therm d.die3).tripped = false → ∃ u, exec (.thermalTrip d.die3) s = .next u ∧ (u.therm d.die3).tripped = true ∧
      (u.die d).running = false ∧ (u.therm d.die3).trips = (s.therm d.die3).trips + 1) ∧
    (s.thermH.tripped = false → ∃ u, exec (.thermalTrip .hub) s = .next u ∧ u.thermH.tripped = true ∧ u.hub.cpFailed = true ∧
      u.dies.a.running = false ∧ u.dies.b.running = false ∧ u.service.tripPinA = true ∧ u.service.tripPinB = true) ∧
    ((s.therm d.die3).tripped = true → s.hub.cpFailed = false → s.cooled d.die3 = true → ∃ u, exec (.tripRelease d.die3) s = .next u ∧
      (u.therm d.die3).tripped = false ∧ (u.opState d).op = 2) ∧
    (s.cooled d.die3 = false → exec (.tripRelease d.die3) s = .next s) ∧
    (s.thermH.tripped = true → ∃ u, exec (.tripRelease .hub) s = .next u ∧ u.thermH.tripped = false ∧ u.hub.stage = .reset)

/-! ### Diagnostic reads -/

/-- DIAG_SLOT_READ, DIAG_LAYER_READ, DIAG_THERMAL_READ, DIAG_BIST_READ and DIAG_CAL_READ (R333, R492, R539, R540): the counters,
states and times of what is named. DIAG_MEM_READ (R453): the channel's counters, debts, margins, passes and weak lines; a die or
port that is not there is BADPARAM. TWIN_STATUS_READ and TWIN_VOTE_READ (R281): the arbiter's state, epoch, fences and counters,
and a tile's last vote. The model's choices it rests on: log entries 25, 56, 86. -/
def Obligations.DiagnosticReads : Prop :=
  (∀ (r : Req) (s s1 : State),
     (Served opDiagSlotRead r s s1 → ∀ x n, x = s1.slot (fld (r.word 0) 4 0) →
       n = (match x.newest with
         | some b => (x.buf b).frame
         | none => 0) →
       exec (.diagSlotRead r) s = .next (okTo s1 r
         [pair x.nReady x.nDropped, pair x.nIncomplete x.nLate, pair x.nTrunc x.nConcealed, pair x.legA.received x.legA.dup,
          pair x.legA.late x.legB.received, pair x.legB.dup x.legB.late, put n 48 0 ||| putB x.late 48 ||| putB x.started 49,
          pair x.legA.malformed x.legB.malformed])) ∧
     (Served opDiagLayerRead r s s1 → ∀ l x d, l = fld (r.word 0) 3 0 → x = s1.layer l →
       d = Tbl.get x.staged (s1.canvas x.canvas).committed.layers l →
       exec (.diagLayerRead r) s = .next (okTo s1 r
         [pair x.nRepeat x.nTransp,
          put (match x.state with | .disabled => 0 | .absent => 1 | .showing => 2 | .repeating _ => 3 | .transparent => 4) 3 0 |||
            put (match x.state with | .repeating k => k | _ => 0) 8 8 ||| put d.lSlot 5 16,
          put x.changedAt 48 0])) ∧
     (Served opDiagThermalRead r s s1 → ∀ d, (fld (r.word 0) 1 0 = 0 ∧ d = .a ∨ fld (r.word 0) 1 0 = 1 ∧ d = .b ∨
         fld (r.word 0) 1 0 = 2 ∧ d = .hub) → ∀ x, x = s1.therm d →
       exec (.diagThermalRead r) s = .next (okTo s1 r
         [put (BitVec.ofInt 16 x.now).toNat 16 0 ||| put (BitVec.ofInt 16 (x.max.getD x.now)).toNat 16 16 |||
            put (bandCode x.band) 3 32 ||| putB x.tripped 35 ||| putB x.fault 36 ||| put x.set 2 37 ||| put x.pause 8 40,
          pair x.hotIn x.critIn, pair x.trips x.hotMs])) ∧
     (Served opDiagBistRead r s s1 → ∀ d c x st, d = (if bit (r.word 0) 0 then .b else .a) → c = fld (r.word 0) 11 8 →
       x = (s1.die d).cluster c →
       st = (if x.retired ≠ .no then 3 else if x.spare || replaying s1 d c then 2
         else if (s1.die d).restingCluster (c / 4) = some c then 1 else 0) →
       exec (.diagBistRead r) s = .next (okTo s1 r
         [put st 2 0 ||| putB (x.retired = .boot) 4 ||| put (retiredCode x.retired) 3 8 ||| put x.next 9 16 |||
            (x.passed.setWidth 64 <<< 32),
          pair x.skipped x.aborted, x.sets.setWidth 64 ||| put x.failSlice 9 32, BitVec.ofNat 64 x.setTime, BitVec.ofNat 64 x.retTime])) ∧
     (Served opDiagCalRead r s s1 → ∀ i c, reqItem r = some i → c = s1.cal i →
       exec (.diagCalRead r) s = .next (okTo s1 r
         [put c.state 2 0 ||| put c.runs 4 4 ||| ((ofInt c.fig1 &&& 0xFFFF#64) <<< 16) ||| put c.fig2 16 32, calValue i c.values,
          BitVec.ofNat 64 c.time, pair c.cals c.suspects])) ∧
     (Served opDiagCalRead r s s1 → reqItem r = none → exec (.diagCalRead r) s = .next (replied s1 r 4 (cut r) []))) ∧
  (∀ (r : Req) (s s1 : State) (die port ch : Nat) (d : Die3) (x : Chan), Served opDiagMemRead r s s1 →
     die = fld (r.word 0) 1 0 → port = fld (r.word 0) 5 2 → ch = port * 4 + fld (r.word 0) 7 6 →
     ((die = 3 ∨ die = 2 ∧ 1 < port ∨ 7 < port) → exec (.diagMemRead r) s = .next (replied s1 r 4 (cut r) [])) ∧
     ((die = 0 ∧ d = .a ∨ die = 1 ∧ d = .b ∨ die = 2 ∧ d = .hub ∧ port ≤ 1) → port ≤ 7 → x = s1.chan d ch →
       exec (.diagMemRead r) s = .next (okTo s1 r
         [pair x.corrected x.poisoned, pair x.stamps x.rtMiss,
          put x.owedMax 4 0 ||| put x.owed 4 4 ||| put x.rate 3 8 ||| (x.forced.setWidth 64 <<< 16) ||| (x.postponed.setWidth 64 <<< 32),
          put x.margins.1 8 0 ||| put x.margins.2.1 8 8 ||| put x.margins.2.2 8 16 ||| putB x.suspect 24 ||| putB x.failed 25 |||
            (x.tracks.setWidth 64 <<< 32),
          pair x.fullPasses x.recPasses, put x.weakLines.length 32 0 ||| mapsWord]))) ∧
  (∀ (r : Req) (s s1 : State) (t : Twin) (x : Tile),
     (Served opTwinStatusRead r s s1 → t = s1.dies.twin → exec (.twinStatusRead r) s = .next (okTo s1 r
       [put (arbCode s1) 4 0 ||| putB (!t.frozen && decide (s1.dies.a.missedCmd < 3) && decide (s1.dies.b.missedCmd < 3)) 4 |||
          (t.epoch.setWidth 64 <<< 8) ||| putB s1.dies.a.fenced 16 ||| putB s1.dies.b.fenced 17 |||
          putB (s1.twin && decide (s1.lead = .b)) 18 ||| put t.causeA 4 24 ||| put t.causeB 4 28 ||| put t.failedVer 2 32 |||
          put t.verified 5 36,
        put t.roleFrame 48 0, BitVec.ofNat 64 t.roleTime, pair t.fences t.promotions,
        retiredMask s1.dies.a ||| (retiredMask s1.dies.b <<< 16), pair t.mismatches t.inconclusive])) ∧
     (Served opTwinVoteRead r s s1 → x = s1.tile (fld (r.word 0) 8 0) → exec (.twinVoteRead r) s = .next (okTo s1 r
       ((List.range 4).map (wordAt (x.vote.getD [])) ++ [pair x.mismatches x.holds]))))

/-! ### The twin dies and the arbiter -/

/-- Heartbeats (R255 to R257, R277): a running die's word leaves with the next HSEQ; a valid word clears the misses; FATAL fences
the die with cause 2, or 4 for the loser of a tie-break, the lead's FENCE_REQ the other with cause 3, the third miss with cause 1;
a promotion that is owed is made on the first word of a complete die with a role; a fatal declaration is made once, with its
CAUSE. The arbiter's command words, CMD in [3:0] and EPOCH in [15:8] (R253, R254, R258, R263): PROMOTE makes an unfenced shadow
the lead under the new epoch; SHADOW gives a role to a die that has none; a fenced die told to rejoin is incomplete; a die that
runs on alone needs no acknowledgement of the orders it wrote; a word with an error counts as missed; after three misses a die
reports an arbiter fault and keeps its role. The model's choices it rests on: log entries 43, 71. -/
def Obligations.ArbiterAndHeartbeats : Prop :=
  (∀ (s : State) (d : DieId) (w : Word) (h : BitVec 8) (cause : Nat),
     ((s.die d).running = true → ∃ u, exec (.heartbeatSend d) s = .next u ∧ (u.die d).hseq = (s.die d).hseq + 1 ∧
       u.out = .heartbeat d (heartbeatWord u d) :: s.out) ∧
     (s.watched d = true → h = BitVec.ofNat 8 (fld w 7 0) → h = (s.dies.twin.beats d).2 + 1 →
       ∀ s1, s1 = s.modTwin (fun x => x.setBeats d 0 h) →
       (bit w 18 = true → exec (.heartbeatReceived d w) s = .next (fenceDie s1 d (if fld w 23 20 = 6 then 4 else 2))) ∧
       (bit w 18 = false → bit w 24 = true → s.twin = true → fld w 17 16 = 1 → s.lead = d →
         exec (.heartbeatReceived d w) s = .next (fenceDie s1 d.other 3)) ∧
       (bit w 18 = false → bit w 24 = false → s.dies.twin.owed = false → exec (.heartbeatReceived d w) s = .next s1) ∧
       (bit w 18 = false → bit w 24 = false → s.dies.twin.owed = true → s.up d = true → s.dies.twin.frozen = false →
         bit w 19 = false → fld w 17 16 ≠ 0 → exec (.heartbeatReceived d w) s = .next (promoteDie s1 d))) ∧
     (s.watched d = true → BitVec.ofNat 8 (fld w 7 0) ≠ (s.dies.twin.beats d).2 + 1 → exec (.heartbeatReceived d w) s = .next s) ∧
     (s.watched d = true → ∀ n s1, n = (s.dies.twin.beats d).1 →
       s1 = s.modTwin (fun x => x.setBeats d (min 3 (n + 1)) (s.dies.twin.beats d).2) →
       (n < 2 → exec (.heartbeatMiss d) s = .next s1) ∧ (2 ≤ n → exec (.heartbeatMiss d) s = .next (fenceDie s1 d 1))) ∧
     ((s.die d).running = true → (s.die d).fatal = false → ∃ u, exec (.fatalDeclaration d cause) s = .next u ∧
       (u.die d).fatal = true ∧ (u.die d).cause = cause ∧ (u.die d).hseq = (s.die d).hseq + 1) ∧
     ((s.die d).fatal = true → exec (.fatalDeclaration d cause) s = .next s)) ∧
  (∀ (s : State) (d : DieId) (w : Word) (e : BitVec 8) (x : Die), x = s.die d → x.running = true → e = BitVec.ofNat 8 (fld w 15 8) →
     (fld w 3 0 = 1 → x.fenced = false → s.span = false → x.role = .shadow → x.incomplete = false →
       ∃ u, exec (.arbiterCommand d w true) s = .next u ∧ (u.die d).role = .lead ∧ (u.die d).epoch = e ∧ (u.die d).missedCmd = 0 ∧
         (u.die d.other).role = (s.die d.other).role ∧ (u.die d.other).epoch = (s.die d.other).epoch ∧
         (u.die d.other).fenced = (s.die d.other).fenced) ∧
     (fld w 3 0 = 2 → x.fenced = false → x.role = .none → ∃ u, exec (.arbiterCommand d w true) s = .next u ∧
       (u.die d).role = (if s.span then .span else .shadow) ∧ (u.die d).epoch = (if s.span then x.epoch + 1 else e)) ∧
     (fld w 3 0 = 3 → x.fenced = true → ∃ u, exec (.arbiterCommand d w true) s = .next u ∧ (u.die d).incomplete = true) ∧
     (fld w 3 0 = 4 → x.fenced = false → s.up d.other = false → ∃ u, exec (.arbiterCommand d w true) s = .next u ∧ (u.die d).fenceReq = false ∧
       ∀ c, c < 4 → (u.canvas c).order = (s.canvas c).order.map fun o => { o with acked := o.acked || decide (o.writtenBy = d) }) ∧
     (exec (.arbiterCommand d w false) s = .next (s.modDie d fun y => { y with missedCmd := min 3 (y.missedCmd + 1) })) ∧
     (exec (.arbiterCommandMiss d) s = .next (s.modDie d fun x => { x with missedCmd := 3 })))

/-- FENCE (R259, R261, R263, R276): an unfenced die is fenced with its cause and its ports are off. In DUO its twin runs on alone,
and when the lead was fenced the epoch and the count of promotions rise, or the promotion is owed while the twin has no role or is
incomplete; a fault with the other die already out takes both to OUT. A frozen arbiter, and a fence that stands, do nothing.
ARBITER_FREEZE (R260) freezes it once. The model's choices it rests on: log entries 70, 86. -/
def Obligations.Fences : Prop :=
  ∀ (s : State) (d : DieId) (cause : Nat) (fit : Bool),
    fit = (!(s.die d.other).incomplete && decide ((s.die d.other).role ≠ .none)) →
    (s.dies.twin.frozen = true → exec (.fence d cause) s = .next s) ∧
    ((s.die d).fenced = true → (s.die d).running = false → exec (.fence d cause) s = .next s) ∧
    (s.dies.twin.frozen = false → (s.die d).fenced = false → s.span = false → s.dies.twin.state = .duo →
      ∃ u, exec (.fence d cause) s = .next u ∧ (u.die d).fenced = true ∧ (u.die d).running = false ∧ u.dies.twin.state = .solo ∧
        u.dies.twin.fences = s.dies.twin.fences + 1 ∧ u.die d.other = s.die d.other ∧
        (∀ p, p < 32 → (u.port (diePortNo d p)).tx = .off ∧ (u.port (diePortNo d p)).rx = .down) ∧
        u.dies.twin.epoch = (if s.lead = d ∧ fit = true then s.dies.twin.epoch + 1 else s.dies.twin.epoch) ∧
        u.dies.twin.promotions = (if s.lead = d ∧ fit = true then s.dies.twin.promotions + 1 else s.dies.twin.promotions) ∧
        (s.lead = d → fit = false → u.dies.twin.owed = true)) ∧
    (s.dies.twin.frozen = false → (s.die d).fenced = false → s.span = false →
      s.dies.twin.state = .solo ∨ s.dies.twin.state = .copy ∨ s.dies.twin.state = .verify →
      ∃ u, exec (.fence d cause) s = .next u ∧ u.dies.twin.state = .out ∧ u.dies.a.fenced = true ∧ u.dies.b.fenced = true) ∧
    (s.dies.twin.frozen = false → ∃ u, exec .arbiterFreeze s = .next u ∧ u.dies.twin.frozen = true) ∧
    (s.dies.twin.frozen = true → exec .arbiterFreeze s = .next s)

/-- Rejoin and verification (R273 to R275, R280, R282): a released die runs behind its fence while the other copies its state:
every buffer of a slot in Twin mode; once the correction hashes agree, 16 frames in a row, each counted once, whose digests and
reports agree admit it, and a difference starts the count over, with event 0x05. Cold rebuild, the vote limit and the microcode
handover (R252, R272, R276, R296, R511, R512): a rebuild that both dies pass starts A as lead and B as shadow with empty buffers
under the next epoch; with neither the package halts with HALT 7; eight inconclusive votes within 1,024 frames fence the shadow
with cause 7; at the handover the lead is fenced with cause 6; with no canvas running a switch takes place at once. The model's
choices it rests on: log entries 30, 56, 70, 95, 113. -/
def Obligations.RejoinAndRebuild : Prop :=
  (∀ (s : State) (d : DieId),
     (canRelease s d = true → lostRegion s d = false → s.span = false →
       ∃ u, exec (.rejoinRelease d) s = .next u ∧ (u.die d).running = true ∧ (u.die d).fenced = true ∧ (u.die d).incomplete = true ∧
         u.dies.twin.k0 = snapshotFrame s ∧ (s.firmware.mcStep = 0 → u.dies.twin.state = .copy)) ∧
     (s.joining d = true → s.dies.twin.state = .copy → s.dies.twin.frozen = false → copyReached s = true → s.dShed .a = false →
       s.dShed .b = false →
       ∃ u, exec (.stateCopyComplete d) s = .next u ∧
         (hashesAgree (copyState s d) d = true → u.dies.twin.state = .verify ∧ u.dies.twin.verified = 0) ∧
         (hashesAgree (copyState s d) d = false → u.dies.twin.state = .copy) ∧
         (s.span = false → ∀ k b, k ∈ s.frames.slots.map Prod.fst → b < 8 →
           u.bufMem d k b = s.bufMem d.other k b ∧ u.bufMem d.other k b = s.bufMem d.other k b)) ∧
     (s.joining d = true → s.dies.twin.state = .verify → s.dies.twin.frozen = false →
       ∀ n v, n = s.lowCanvas.map (fun _ => productionFrame s) →
       v = (if n = s.dies.twin.verFrame.map (· + 1) then s.dies.twin.verified else 0) →
       (n.isSome → n = s.dies.twin.verFrame → ∀ digest, exec (.verificationFrame d digest) s = .next s) ∧
       (¬(n.isSome ∧ n = s.dies.twin.verFrame) →
       (verified s d = true → v < 15 → exec (.verificationFrame d (verifyDigest s)) s =
         .next (s.modTwin fun x => { x with verified := v + 1, verFrame := n })) ∧
       (verified s d = true → 15 ≤ v → s.firmware.fallBack = none →
         ∃ u, exec (.verificationFrame d (verifyDigest s)) s = .next u ∧ (u.die d).fenced = false ∧ u.dies.twin.verified = 0 ∧
           u.dies.twin.state = (if s.span then .span else .duo)) ∧
       (∀ digest, digest ≠ verifyDigest s ∨ verified s d = false → s.dies.twin.failedVer < 2 →
         ∃ u, exec (.verificationFrame d digest) s = .next u ∧ u.dies.twin.verified = 0 ∧
         u.dies.twin.failedVer = s.dies.twin.failedVer + 1 ∧ (u.die d).fenced = true ∧ u.dies.twin.state = .verify) ∧
       (∀ digest, digest ≠ verifyDigest s ∨ verified s d = false → 2 ≤ s.dies.twin.failedVer →
         ∃ u, exec (.verificationFrame d digest) s = .next u ∧ u.dies.twin.stayFenced = true ∧
         (u.die d).running = false ∧ (u.die d).fenced = true)))) ∧
  (∀ (s : State) (m : DieId) (c : Nat) (a b : Nat),
     (s.dies.twin.state = .out → s.hub.cpFailed = false → s.dies.twin.frozen = false → lostRegion s .a = false →
       lostRegion s .b = false → s.firmware.fallBack = none → ∃ u, exec (.coldRebuild true true) s = .next u ∧ u.dies.twin.state = .duo ∧
         u.dies.a.role = .lead ∧ u.dies.b.role = .shadow ∧ u.dies.a.fenced = false ∧ u.dies.b.fenced = false ∧
         u.dies.twin.epoch = s.dies.twin.epoch + 1 ∧ u.frames.memA = [] ∧ u.frames.memB = []) ∧
     (s.dies.twin.state = .out → s.hub.cpFailed = false → s.dies.twin.frozen = false →
       ∃ u, exec (.coldRebuild false false) s = .next u ∧ u.hub.stage = .halted ∧ u.hub.halt = 7) ∧
     (s.dies.twin.state = .duo → s.dies.twin.inconFrames[0]? = some a → s.dies.twin.inconFrames[7]? = some b → a < b + 1024 →
       s.dies.twin.frozen = false → s.span = false → (s.die s.lead.other).fenced = false →
       ∃ u, exec .inconclusiveLimit s = .next u ∧ (u.die s.lead.other).fenced = true ∧ u.dies.twin.inconFrames = [] ∧
         u.dies.twin.state = .solo) ∧
     (m = s.lead.other → s.dies.twin.state = .duo → (s.die m).mute = true → s.firmware.mcStep = 3 → s.dies.twin.frozen = false →
       s.hub.cpFailed = false → s.span = false → (s.die s.lead).fenced = false → s.firmware.fallBack = none →
       ∃ u, exec .microcodeHandover s = .next u ∧ (u.die s.lead).fenced = true ∧ (u.die m).mute = false ∧ u.firmware.mcStep = 5) ∧
     (switchWaits s = true → (∀ k, k < 4 → (s.canvas k).running = false) → s.firmware.fallBack = none →
       ∃ u, exec (.microcodeSwitch c) s = .next u ∧ ∀ d, s.up d = true → u.microcode d = s.imageMicrocode) ∧
     (switchWaits s = true → c < 4 → (s.canvas c).running = true →
       (∀ k, k < 4 → (s.canvas k).mcFrame = none ∧ (s.canvas k).mcNew = false) →
       ∃ u, exec (.microcodeSwitch c) s = .next u ∧ ∀ k, k < 4 → (s.canvas k).running = true →
         (u.canvas k).mcFrame = some ((s.canvas k).firstFrame (s.wall + 10000000))))

/-- TWIN_SERVICE and its end, and the die links (R17, R281, R322, R323): in Twin mode a FENCE of a die whose twin is not fenced is
ACCEPTED and done with cause 6, a REJOIN of a fenced die is ACCEPTED and waits; the command ends with the fence, the admission or
the third failed verification. A poisoned word of a die link is sent again and recorded as an error, with the words corrected
before it; a link whose word is poisoned again has failed. The model's choices it rests on: log entries 33, 56, 71. -/
def Obligations.TwinService : Prop :=
  ∀ (r : Req) (s s1 : State) (d : DieId) (src id : Nat) (rejoin : Bool),
    (Served opTwinService r s s1 → d = (if bit (r.word 0) 0 then .b else .a) → s1.span = false → s1.dies.twin.service = none →
      (bit (r.word 0) 1 = false → (s1.die d).fenced = false → (s1.die d.other).fenced = false → s1.dies.twin.frozen = false →
        ∃ s2, exec (.twinService r) s = .next (acceptedTo s2 r none) ∧ (s2.die d).fenced = true ∧
          s2.dies.twin.service = some (r.who, s1.nextLong r.who, d, false)) ∧
      (bit (r.word 0) 1 = true → (s1.die d).fenced = true → s1.dies.twin.state ≠ .copy → s1.dies.twin.state ≠ .verify →
        ∃ s2, exec (.twinService r) s = .next (acceptedTo s2 r none) ∧ s2.dies.twin.stayFenced = false ∧
          s2.dies.twin.service = some (r.who, s1.nextLong r.who, d, true))) ∧
    (s.dies.twin.service = some (src, id, d, rejoin) → ∀ s2, s2 = s.modTwin (fun x => { x with service := none }) →
      (rejoin = false → (s.die d).fenced = true → exec .twinServiceComplete s = .next (finishLong s2 src id 0)) ∧
      (rejoin = true → (s.die d).fenced = false → exec .twinServiceComplete s = .next (finishLong s2 src id 0)) ∧
      (rejoin = true → (s.die d).fenced = true → s.dies.twin.stayFenced = true →
        exec .twinServiceComplete s = .next (finishLong s2 src id 7))) ∧
    (∀ link e n, linkDead s link = false → exec (.dieLinkPoison ⟨link, e, n⟩ false) s = .next (recordError
      (s.modTwin fun x => { x with linkRetry := x.linkRetry + 1, linkFixed := x.linkFixed + BitVec.ofNat 32 n })
      (if link = 0 then .a else if link = 1 then .b else e) .poison)) ∧
    (∀ e n, s.dies.twin.linkA = true → s.dies.a.running = true → s.dies.a.fatal = false →
      ∃ u, exec (.dieLinkPoison ⟨0, e, n⟩ true) s = .next u ∧ u.dies.twin.linkA = false ∧ u.dies.a.fatal = true ∧ u.dies.a.cause = 2) ∧
    (∀ link e n, linkDead s link = true → exec (.dieLinkPoison ⟨link, e, n⟩ true) s = .next s) ∧
    (exec .dieLinkRestored s = .next (s.modTwin fun x => { x with linkAB := true }))

/-! ### Memory, self-test, calibration -/

/-- Refresh, rate reports, tracking and patrol scrub (R441 to R445, R448, R449, R452): after the traffic of its interval a refresh
is performed, its rows closed, or, behind queued RT requests, postponed, the eighth owed forcing a burst; a rate is kept, code 5
told once and a twin die then at least HOT; drift is adjusted from 4 ps, marked beyond 20 ps, fatal to the channel beyond 40 ps; a
pass starts and completes, or is counted as shed. MEMORY_READ_ERROR (R435 to R437, R447 to R449): the line that the channel
returned is judged under its stamp; words with single errors are corrected and counted, and the others poisoned and counted; a
stamp mismatch poisons all eight and counts, and the fifth within 1 ms fails the channel; poisoned data of segment 0 makes a twin
die fatal with CAUSE 8, a record line of a die's active bank is poisoned. The model's choices it rests on: log entries 58, 59, 91,
100, 116. -/
def Obligations.Memory : Prop :=
  (∀ (s : State) (d : Die3) (ch code : Nat) (drift : Int) (x : Chan) (traffic : List MemStep) (y : Chan), memServed s d = true → x = s.chan d ch →
     (y = (traffic.foldl (memStep d ch) s).chan d ch → ∃ u, exec (.refreshDue d ch traffic) s = .next u ∧
       (y.rtQueued = false → u.chan d ch = y.closeRows) ∧
       (y.rtQueued = true → y.owed < 7 →
         u.chan d ch = { y with owed := y.owed + 1, owedMax := max y.owedMax (y.owed + 1), postponed := y.postponed + 1 }) ∧
       (y.rtQueued = true → 7 ≤ y.owed → (u.chan d ch).owed = 0 ∧ (u.chan d ch).postponed = y.postponed + 1 ∧
         (u.chan d ch).forced = y.forced + 1 ∧ (u.chan d ch).banks = y.closeRows.banks)) ∧
     (code ≤ 5 → ∃ u, exec (.mr4Read d ch code) s = .next u ∧ (u.chan d ch).rate = code ∧
       (code = 5 → x.rate ≠ 5 → d ≠ .hub → 3 ≤ bandCode (u.therm d).band)) ∧
     (x.failed = false → drift.natAbs ≤ 20 → ∃ u, exec (.trackingRead d ch drift) s = .next u ∧ (u.chan d ch).drift = drift ∧
       (u.chan d ch).failed = false ∧ (u.chan d ch).marked = x.marked ∧
       (u.chan d ch).tracks = (if 4 ≤ (drift - x.adjusted).natAbs then x.tracks + 1 else x.tracks)) ∧
     (x.failed = false → 20 < drift.natAbs → drift.natAbs ≤ 40 →
       ∃ u, exec (.trackingRead d ch drift) s = .next u ∧ (u.chan d ch).marked = true ∧ (u.chan d ch).failed = false) ∧
     (x.failed = false → 40 < drift.natAbs → ∃ u, exec (.trackingRead d ch drift) s = .next u ∧ (u.chan d ch).failed = true) ∧
     (x.failed = false → ∃ u, exec (.channelNoData d ch) s = .next u ∧ (u.chan d ch).failed = true) ∧
     (s.dShed d = true → exec (.patrolScrubPass d ch false (!x.fullOpen)) s = .next (countShed s d)) ∧
     (x.fullOpen = false → s.dShed d = false → exec (.patrolScrubPass d ch false true) s =
       .next (s.modChan d ch fun x => { x with fullOpen := true, passErrs := 0, passLines := [] })) ∧
     (x.fullOpen = true → s.dShed d = false → ∃ u, exec (.patrolScrubPass d ch false false) s = .next u ∧ (u.chan d ch).fullOpen = false ∧
       (u.chan d ch).fullPasses = x.fullPasses + 1 ∧ (u.chan d ch).lastLines = x.passLines)) ∧
  (∀ (s : State) (d : Die3) (t : DieId) (ch line source : Nat) (flips : List Code) (what : MemData) (patrol : Bool) (tile n : Nat)
     (r : LineRead), memServed s d = true → r = judgeLine line ((s.chan d ch).returned source flips) →
     (∃ u, exec (.memoryReadError d ch line ⟨source, flips⟩ what patrol) s = .next u ∧
       (u.chan d ch).corrected = (s.chan d ch).corrected + BitVec.ofNat 32 r.fixed ∧
       (u.chan d ch).poisoned = (s.chan d ch).poisoned + BitVec.ofNat 32 r.bad ∧
       (u.chan d ch).stamps = (if r.stamp then (s.chan d ch).stamps + 1 else (s.chan d ch).stamps) ∧
       (r.stamp = true → 4 ≤ ((s.chan d ch).stampAt.filter fun t => decide (s.uptime ≤ t + 1000000)).length →
         (u.chan d ch).failed = true)) ∧
     (r.stamp = true → r.fixed = 0 ∧ r.bad = 8) ∧
     (d = t.die3 → 0 < r.bad → (s.die t).fatal = false → (s.die t).running = true →
       ∃ u, exec (.memoryReadError d ch line ⟨source, flips⟩ (.s0 false) patrol) s = .next u ∧ (u.die t).fatal = true ∧
         (u.die t).cause = 8) ∧
     (d = t.die3 → 0 < r.bad → ∃ u, exec (.memoryReadError d ch line ⟨source, flips⟩ (.record tile n) patrol) s = .next u ∧
       n ∈ (u.corr tile).poison t))

/-- The device code, the address maps and the queues of a memory channel (R434 to R440): a word stored reads back at its line, one
from a poisoned source is uncorrectable; a line stored under another stamp is a mismatch where the stamps' difference has a
syndrome, which one, two or an odd number of bits always have; no two units of a segment share a channel and an index in it; a
bank never queues more than 8 requests, nor more than 6 that are not RT; an urgent request that can proceed is served first. The
model's choices it rests on: log entry 100. -/
def Obligations.MemoryCode : Prop :=
  (∀ (line : Nat) (w : Word), decodeAt line (storedCode line w false) = .clean w ∧ decodeAt line (storedCode line w true) = .bad) ∧
  (∀ (line other : Nat) (l : List Word), l.length = 8 →
    judgeLine line (l.map fun w => storedCode other w false) =
      (if checkByte (stampWord line ^^^ stampWord other) = 0 then ⟨0, 0, false, l.map fun w => storedCode line w false⟩
        else ⟨0, 8, true, l.map fun w => storedCode line w true⟩)) ∧
  (∀ (w : Word) (k : Nat), k = (List.range 64).countP (bit w) → (k = 2 ∨ k % 2 = 1) → checkByte w ≠ 0) ∧
  (∀ seg gib ch o q : Nat, (ch = 8 ∨ ch = 32) → o < 512 * (16 * unitsPerBank gib ch) * ch → q < 512 * (16 * unitsPerBank gib ch) * ch →
    (mapPlace (segmentMap seg) gib ch o).1 < ch ∧ mapBank (segmentMap seg) gib ch (mapPlace (segmentMap seg) gib ch o).2 < 16 ∧
    (mapPlace (segmentMap seg) gib ch o = mapPlace (segmentMap seg) gib ch q →
      if segmentMap seg = 2 then o / 2048 = q / 2048 else o / 512 = q / 512)) ∧
  (∀ (x : Chan) (b k : Nat) (r : MemReq),
    ((x.bank b).queue.length ≤ 8 → ((x.arrive k r).bank b).queue.length ≤ 8) ∧
    ((x.bank b).queue.countP (fun q => !q.req.cls.rt) ≤ 6 → ((x.arrive k r).bank b).queue.countP (fun q => !q.req.cls.rt) ≤ 6)) ∧
  ∀ (x : Chan) (now b : Nat) (q : Queued) (act : Bool), x.urgent now = some (b, q) → (x.bank b).free q = true →
    ((x.bank b).hits q = true ∨ act = true) → (x.slot now act).1 = x.serve b q

/-- BIST and the resting rotation (R25, R521 to R525): a slice runs on the region's resting cluster where R522 allows it, every 20
ms of the region, and is skipped and counted elsewhere; one that ends with the signature of the build advances the set, which
slice 383 completes; another signature retires the cluster; a set 45 minutes of eligible time late holds the die at OP2; the
resting role moves to the next serviceable cluster. The model's choices it rests on: log entries 56, 116. -/
def Obligations.Bist : Prop :=
  ∀ (s : State) (d : DieId) (r c q k : Nat) (v t : Int) (g : Word) (x : Cluster), x = (s.die d).cluster c →
    (s.hub.cpFailed = false → s.up d = true → sliceTurn s d r = true → (s.die d).restingCluster r = some c →
      ∃ u, exec (.bistSliceStart d r v t) s = .next u ∧ ((u.die d).region r).sliceAt = some s.uptime ∧ (u.opState d).vout = some v ∧
        ((u.die d).cluster c).slice = (sliceMay s d r c v t || x.slice) ∧
        ((u.die d).cluster c).skipped = (if sliceMay s d r c v t then x.skipped else x.skipped + 1)) ∧
    (sliceTurn s d r = false → exec (.bistSliceStart d r v t) s = .next s) ∧
    (x.slice = true → g = Config.bistSignature s.hub.fwVersion x.next →
      ∃ u, exec (.bistSliceEnd d c true g) s = .next u ∧ ((u.die d).cluster c).passed = x.passed + 1 ∧
      ((u.die d).cluster c).next = (x.next + 1) % 384 ∧ ((u.die d).cluster c).slice = false ∧
      ((u.die d).cluster c).sets = (if x.next = 383 then x.sets + 1 else x.sets)) ∧
    (x.slice = true → ∃ u, exec (.bistSliceEnd d c false g) s = .next u ∧ ((u.die d).cluster c).aborted = x.aborted + 1 ∧
      ((u.die d).cluster c).next = x.next ∧ ((u.die d).cluster c).slice = false) ∧
    (x.slice = true → (s.die d).serviceable c = true → c < 16 → g ≠ Config.bistSignature s.hub.fwVersion x.next →
      ∃ u, exec (.bistSliceEnd d c true g) s = .next u ∧ ((u.die d).cluster c).retired = .bist ∧
        ((u.die d).cluster c).failSlice = x.next) ∧
    ((s.die d).serviceable c = true → c < 16 → ∃ u, exec (.bistOverdue d c) s = .next u ∧
      ((u.die d).cluster c).late45 = (x.late45 || decide (x.setElig + 2700000 ≤ (s.therm d.die3).eligMs)) ∧
      (x.setElig + 2700000 ≤ (s.therm d.die3).eligMs → u.bistHolds d = true)) ∧
    (s.up d = true → (s.lowCanvas = none ∧ ((s.die d).region r).movedAt + 10000000000 ≤ s.uptime ∨
        s.lowCanvas.isSome ∧ 1024 ≤ ((s.die d).region r).flips) →
      ((s.die d).region r).resting = some q → nextResting s d r q = some k →
      ∃ u, exec (.restingRotation d r) s = .next u ∧ ((u.die d).region r).resting = some k ∧ ((u.die d).region r).movedAt = s.uptime ∧
        ((u.die d).region r).flips = 0)

/-- Calibration (R531 to R535): a window opens where R534 lets it, or is counted as shed, and closes; a run is kept until two
agree or three were made; two that agree end the calibration with state 1, their means in force and one more counted. A diode trim
falls due. The model's choices it rests on: log entries 52, 58. -/
def Obligations.Calibration : Prop :=
  ∀ (s : State) (i : CalItem) (run : CalRun) (d : Die3) (p : CalRun × CalRun) (l : List CalRun),
    ((s.cal i).window = false → mayOpen s i = true → ∃ u, exec (.calibrationWindow i true) s = .next u ∧ (u.cal i).window = true ∧
      (u.cal i).results = []) ∧
    ((s.cal i).window = false → mayOpen s i = false → s.dShed (calDie i) = true →
      exec (.calibrationWindow i true) s = .next (countShed s (calDie i))) ∧
    ((s.cal i).window = true → ∃ u, exec (.calibrationWindow i false) s = .next u ∧ (u.cal i).window = false) ∧
    (mayRun s i = true → s.service.keys.held = false → l = (s.cal i).results ++ [run] →
      (agreeingPair i l = none → l.length < 3 → exec (.calibrationRun i run) s = .next ((sweep s i).modCal i fun c => { c with results := l })) ∧
      (agreeingPair i l = some p → ∃ u, exec (.calibrationRun i run) s = .next u ∧ (u.cal i).state = 1 ∧
        (u.cal i).values = pairValues i p.1 p.2 ∧ (u.cal i).cals = (s.cal i).cals + 1 ∧ (u.cal i).runs = l.length ∧
        (u.cal i).time = s.wall ∧ (u.cal i).results = []) ∧
      (agreeingPair i l = none → 3 ≤ l.length → ∃ u, exec (.calibrationRun i run) s = .next u ∧ (u.cal i).state = 2 ∧
        (u.cal i).suspects = (s.cal i).suspects + 1)) ∧
    (exec (.diodeTrim d) s = .next (s.modCal (.diode d) fun c => { c with due := true, results := [] }))

/-! ### Wall time, references, network ports -/

/-- The TIME, PTP and REF commands (R366, R369 to R371, R382, R383, R385, R387, R388): what each stores, checks and answers. The
model's choices it rests on: log entries 10, 72, 73, 87. -/
def Obligations.TimeCommands : Prop :=
  ∀ (r : Req) (s s1 : State) (t : Time) (inc : BitVec 40) (mode : ServoMode) (o : OrdClock) (d : DieId) (delta : Int), t = s1.time →
    (Served opTimeRead r s s1 → exec (.timeRead r) s = .next (okTo s1 r
      [BitVec.ofNat 64 s1.wall, put t.counter.toNat 32 0, t.inc.setWidth 64,
       put (match t.mode with | .free => 0 | .ptp => 1 | .ref => 2 | .host => 3) 2 0 |||
         put (match t.state with
           | .none => 0 | .acquire => 1 | .locked => 2 | .holdover => 3 | .realign => 4 | .measure => 5) 3 4 |||
         putB t.snap 7 ||| putB t.step.isSome 8,
       put (min 0xFFFFFFFF (((s1.wall : Int) - t.since).toNat / 1000000)) 32 0 ||| (t.steps.setWidth 64 <<< 32), ofInt t.offset,
       pair t.glitches t.realigns, t.copyFix.setWidth 64])) ∧
    (Served opTimeServo r s s1 → fld (r.word 0) 1 0 = 3 →
      ∃ s2, exec (.timeServo r) s = .next (okTo s2 r []) ∧ s2.time.mode = .host ∧ s2.time.state = .none ∧ s2.time.inc = t.inc ∧
        s2.time.snap = bit (r.word 0) 2) ∧
    (Served opTimeServo r s s1 → fld (r.word 0) 1 0 = 0 → inc = BitVec.ofNat 40 (fld (r.word 1) 39 0) →
      (inc ≠ 0 → incOk inc = false → exec (.timeServo r) s = .next (replied s1 r 4 (cut r) [])) ∧
      (inc = 0 ∨ incOk inc = true → ∃ s2, exec (.timeServo r) s = .next (okTo s2 r []) ∧ s2.time.mode = .free ∧
        s2.time.inc = (if inc = 0 then t.inc else inc) ∧ s2.time.state = .none)) ∧
    (Served opTimeServo r s s1 → (fld (r.word 0) 1 0 = 1 ∧ mode = .ptp ∨ fld (r.word 0) 1 0 = 2 ∧ mode = .ref) →
      ∃ s2, exec (.timeServo r) s = .next (okTo s2 r []) ∧ s2.time.mode = mode ∧ s2.time.inc = t.inc ∧
        (t.mode ≠ mode ∨ t.state = .measure →
          s2.time.state = .acquire ∧ s2.time.holdInc = (if t.slewing then t.holdInc else t.inc) ∧ s2.time.following = none) ∧
        (t.mode = mode → t.state ≠ .measure → s2.time.state = t.state)) ∧
    (Served opTimeIncrement r s s1 → inc = BitVec.ofNat 40 (fld (r.word 0) 39 0) →
      (t.mode ≠ .host → exec (.timeIncrement r) s = .next (replied s1 r 6 (cut r) [])) ∧
      (t.mode = .host → incOk inc = false → exec (.timeIncrement r) s = .next (replied s1 r 4 (cut r) [])) ∧
      (t.mode = .host → incOk inc = true → (bit (r.word 0) 40 = false ∨ (r.word 1 = 0 ∧ t.step = none)) →
        exec (.timeIncrement r) s = .next (okTo (s1.modTime fun t => { t with inc := inc }) r [])) ∧
      (t.mode = .host → incOk inc = true → bit (r.word 0) 40 = true → t.step.isSome = true →
        exec (.timeIncrement r) s = .next (replied s1 r 2 (cut r) [])) ∧
      (t.mode = .host → incOk inc = true → bit (r.word 0) 40 = true → t.step = none → delta = (r.word 1).toInt → delta ≠ 0 →
        ∃ s2, exec (.timeIncrement r) s = .next (okTo s2 r []) ∧ s2.time.inc = inc ∧
          (s1.lowCanvas = none → s2.time.steps = t.steps + 1 ∧ s2.time.counter = t.counter + (BitVec.ofInt 96 delta <<< 32)) ∧
          (s1.lowCanvas ≠ none → s2.time.step.map (fun x => x.1) = some delta ∧ s2.time.counter = t.counter))) ∧
    (Served opPtpConfig r s s1 → fld (r.word 0) 1 0 ≤ 1 → glitchField (r.word 0) = true →
      (bit (r.word 0) 20 = true → fld (r.word 0) 1 0 = 0) →
      ∃ s2, exec (.ptpConfig r) s = .next (okTo s2 r []) ∧ s2.time.ptp = (List.range 3).map r.word ∧ s2.time.ref = t.ref ∧
        s2.time.inc = t.inc) ∧
    (Served opPtpConfig r s s1 → (2 ≤ fld (r.word 0) 1 0 ∨ glitchField (r.word 0) = false) →
      exec (.ptpConfig r) s = .next (replied s1 r 4 (cut r) [])) ∧
    (Served opPtpStatusRead r s s1 → d = s1.ocUsed.getD .a → o = s1.oc d →
      ∃ w0 w2, exec (.ptpStatusRead r) s = .next (okTo s1 r
        [w0, o.gmId, w2, ofInt o.mpd, ofInt o.ofm, pair t.syncs t.tcMsgs,
         put (s1.netLatency (d.num * 2 + (if o.using1 then 1 else 0))).1 32 0 |||
           put (s1.netLatency (d.num * 2 + (if o.using1 then 1 else 0))).2 32 32, t.smTlv]) ∧
        fld w0 17 16 = (match s1.ocUsed with
          | some d => d.num
          | none => 3) ∧ fld w2 63 32 = o.steps.toNat) ∧
    (Served opRefConfig r s s1 → refFieldsOk r = true → (bit (r.word 0) 16 = true → (s1.sap 7).state = .stopped) →
      ∃ s2, exec (.refConfig r) s = .next (okTo s2 r []) ∧ s2.time.ref = (List.range 2).map r.word ∧
        s2.time.refRate = fld (r.word 0) 8 4 ∧ s2.time.ppsGranted = bit (r.word 0) 16 ∧
        (t.mode = .ref → s2.time.state = .acquire) ∧ (t.mode ≠ .ref → s2.time.state = t.state)) ∧
    (Served opRefConfig r s s1 → refFieldsOk r = false → exec (.refConfig r) s = .next (replied s1 r 4 (cut r) [])) ∧
    (Served opRefConfig r s s1 → refFieldsOk r = true → bit (r.word 0) 16 = true → (s1.sap 7).state ≠ .stopped →
      exec (.refConfig r) s = .next (replied s1 r 2 (cut r) []))

/-- The references at work (R365, R368, R370, R372 to R376, R381, R384, R386): a Sync of the master in use is stamped with the
die's copy and the port's receive latency and gives the offset, its exchange kept for the Delay_Resp; one of another domain does
nothing; an edge at REF_IN is stamped with the pin delay taken off and becomes the last edge; a stopped reference leads to
HOLDOVER on the increment of R376; a slew ends while the servo runs; a step moves every counter by Δ, or waits for a timing change
under way; eight steady intervals end MEASURE, with no canvas to follow in ACQUIRE with REF_RATE at the rate, at a rate that
cannot be followed in HOLDOVER, and scattered ones start the measurement again; a counter copy more than 0.5 ns off the hub's is
set to it. Network ports (R372, R378 to R380, R387, R389): a transparent clock adds its residence to a Sync or Delay_Req, or, for
a two-step Sync, to the matching Follow_Up, and passes other messages as they are; an Announce of the port's domain is kept, and
one that ranks before the other port's makes its sender the master; a Delay_Resp of the domain gives the path delay of its
exchange; a granted PPS output rises; links go up and down with their events and their ordinary clocks. The model's choices it
rests on: log entries 3, 63, 72, 73, 106, 108, 116. -/
def Obligations.ReferencesAndNetworkPorts : Prop :=
  (∀ (s : State) (m : SyncMsg) (o : OrdClock) (port age code : Nat) (t t1 t2 delta : Int) (ts : Nat) (a b : Int),
     (o = s.oc m.die → port = m.die.num * 2 + m.port % 2 → t1 = m.origin + m.correction →
       t2 = stampOf (s.copyOf m.die) m.age - ((s.netLatency port).2 : Int) → ∃ u, exec (.refMeasurement (.sync m)) s = .next u ∧
       (s.ocOn m.die = true → s.netUp port = true → m.domain.toNat = fld (s.ptpW 0) 15 8 → o.master = m.sender →
         ((if m.port % 2 = 0 then o.port0 else o.port1) = 8 ∨ (if m.port % 2 = 0 then o.port0 else o.port1) = 9) →
         u.time.syncs = s.time.syncs + 1 ∧ (u.oc m.die).ofm = t2 - t1 - o.mpd ∧
         (u.oc m.die).exchange = some (t1, t2, stampOf (s.copyOf m.die) 0 + ((s.netLatency port).1 : Int))) ∧
       (m.domain.toNat ≠ fld (s.ptpW 0) 15 8 → u = s)) ∧
     (t = stampOf s.time.counter age - (Config.pinDelay : Int) → ∃ u, exec (.refMeasurement (.edge age)) s = .next u ∧
       ((s.refMode = 1 ∨ s.refMode = 2) → s.servoRuns = true → s.time.mode ≠ .ref →
         u.time.lastEdge = some t ∧ (s.servoOn = false → u.time.offset = edgeOffset s t))) ∧
     (∃ u, exec (.refMeasurement (.gate code)) s = .next u ∧ (s.tenMhz = false → u = s)) ∧
     (s.servoOn = true → s.servoRuns = true → s.time.state ≠ .holdover →
       ∃ u, exec .refStop s = .next u ∧ u.time.state = .holdover ∧ u.time.inc = s.time.holdInc ∧ u.time.slewing = false) ∧
     (s.time.slewing = true → s.servoRuns = true → s.slewDone = true →
       ∃ u, exec .slewEnd s = .next u ∧ u.time.slewing = false ∧ u.time.state = s.time.state ∧ u.time.holdInc = u.time.inc) ∧
     (s.servoRuns = false → exec .slewEnd s = .next s) ∧
     (s.time.step = some (delta, ts) → ∃ u, exec .timeStep s = .next u ∧
       (s.stepDelayed = false → u.time.step = none ∧ u.time.steps = s.time.steps + 1 ∧
         u.time.counter = s.time.counter + (BitVec.ofInt 96 delta <<< 32)) ∧
       (s.stepDelayed = true → s.lowCanvas ≠ none → u.time.step.map (fun x => x.1) = some delta ∧ u.time.counter = s.time.counter)) ∧
     (s.time.state = .measure → s.servoRuns = true → 8 ≤ s.time.intervals.length → s.time.following = none → code = s.measuredCode →
       ∃ u, exec (.rateMeasured s.measuredCode) s = .next u ∧
         (s.steady = false → u.time.state = .measure ∧ u.time.intervals = []) ∧
         (s.steady = true → canFollow s code = false → u.time.state = .holdover ∧ u.time.inc = s.time.inc) ∧
         (s.steady = true → canFollow s code = true → followers s = [] →
           (∀ c ch, c < 4 → (s.canvas c).change = some ch → ch.follow = false) → u.time.state = .acquire ∧ u.time.refRate = code)) ∧
     ∃ u, exec (.counterCopyCompare a b) s = .next u ∧
       u.time.copyA = (if s.dies.a.stopped then s.time.copyA
         else if 2147483648 < (s.time.copyA + BitVec.ofInt 96 a - s.time.counter).toInt.natAbs then s.time.counter
         else s.time.copyA + BitVec.ofInt 96 a) ∧
       u.time.copyB = (if s.dies.b.stopped then s.time.copyB
         else if 2147483648 < (s.time.copyB + BitVec.ofInt 96 b - s.time.counter).toInt.natAbs then s.time.counter
         else s.time.copyB + BitVec.ofInt 96 b)) ∧
  (∀ (s : State) (d : DieId) (x : Announce) (m : PtpMsg) (two : Bool) (resp : DelayResp) (port q residence : Nat) (t1 t2 t3 : Int)
     (k : DieId × Word × BitVec 16 × Nat),
     (s.up d = true → bit (s.ptpW 0) (18 + d.num) = true → s.netUp (d.num * 2) = true → s.netUp (d.num * 2 + 1) = true →
       q = d.num * 2 + 1 - m.port % 2 →
       ((m.kind = 1 ∨ m.kind = 0 ∧ two = false) → exec (.ptpMessageForward d m two residence) s =
         .next ((s.emit (.ptp q { m with correction := m.correction + residence } true)).modTime fun t => { t with tcMsgs := t.tcMsgs + 1 })) ∧
       (m.kind = 0 → two = true → ∃ u, exec (.ptpMessageForward d m two residence) s = .next u ∧ u.out = .ptp q m false :: s.out ∧
         (d, m.source, m.seq, residence) ∈ u.time.tcSyncs) ∧
       (m.kind = 2 → s.time.tcSyncs.find? (syncPassed d m) = some k → ∃ u, exec (.ptpMessageForward d m two residence) s = .next u ∧
         u.out = .ptp q { m with correction := m.correction + k.2.2.2 } true :: s.out ∧ ∀ y ∈ u.time.tcSyncs, syncPassed d m y = false) ∧
       (2 < m.kind → exec (.ptpMessageForward d m two residence) s = .next (s.emit (.ptp q m false)))) ∧
     (s.ocOn x.die = true → s.netUp (x.die.num * 2 + x.port % 2) = true → x.domain.toNat = fld (s.ptpW 0) 15 8 →
       s.keepsAnnounce x = false → ∃ u, exec (.ptpAnnounceReceived x) s = .next u ∧
         (u.oc x.die).foreign (x.port % 2) = some (x, s.uptime) ∧ u.time.smTlv = x.smTlv.getD s.time.smTlv ∧
         ((∀ y, s.freshAnnounce (x.die.num * 2 + 1 - x.port % 2) = some y → announceRank x < announceRank y) →
           (u.oc x.die).gmId = x.gmId ∧ (u.oc x.die).master = x.sender ∧ (u.oc x.die).prio1 = x.prio1 ∧ (u.oc x.die).steps = x.steps ∧
           (u.oc x.die).using1 = decide (x.port % 2 = 1) ∧
           ((if x.port % 2 = 0 then (u.oc x.die).port0 else (u.oc x.die).port1) = 8 ∨
             (if x.port % 2 = 0 then (u.oc x.die).port0 else (u.oc x.die).port1) = 9))) ∧
     (x.domain.toNat ≠ fld (s.ptpW 0) 15 8 → exec (.ptpAnnounceReceived x) s = .next s) ∧
     (s.ocOn d = true → (s.oc d).exchange = some (t1, t2, t3) → resp.domain.toNat = fld (s.ptpW 0) 15 8 →
       (resp.unicast = true → bit (s.ptpW 0) 20 = true) → exec (.ptpDelayResponse d resp) s =
         .next (s.modOc d fun o => { o with mpd := (t2 - t1 + (resp.receipt - resp.correction - t3)) / 2, exchange := none })) ∧
     ((s.oc d).exchange = none → exec (.ptpDelayResponse d resp) s = .next s) ∧
     (s.time.ppsGranted = true → exec .ppsOutput s =
       .next ((s.modTime fun t => { t with ppsHigh := true }).emit (.pin "PPS_OUT" true))) ∧
     (s.time.ppsGranted = false → exec .ppsOutput s = .next s) ∧
     (s.up (netDie port) = true → Tbl.get false s.time.netUp port = false →
       ∃ u, exec (.networkLinkUp port) s = .next u ∧ Tbl.get false u.time.netUp port = true ∧
         (u.cal (.ptp (netDie port) (port % 2))).due = true) ∧
     (s.up (netDie port) = true → Tbl.get false s.time.netUp port = true →
       ∃ u, exec (.networkLinkDown port) s = .next u ∧ Tbl.get false u.time.netUp port = false ∧
         (port < 4 → (if port % 2 = 0 then (u.oc (netDie port)).port0 else (u.oc (netDie port)).port1) = 0)))

/-! ### Serial audio ports -/

/-- The SAP commands (R398, R403 to R405, R407): a block of settings without a reserved code is stored and the counters cleared
while the port is stopped; a start within the limits, by the port's owner, begins muted; a stop mutes, and ends once wholly muted;
host mutes are kept; the status words. The model's choices it rests on: log entry 13. -/
def Obligations.AudioCommands : Prop :=
  ∀ (r : Req) (s s1 : State) (n : Nat) (p x : Sap), n = fld (r.word 0) 2 0 → p = s1.sap n →
    (Served opSapConfig r s s1 → x = { cfg := (List.range 10).map r.word, owner := s1.ownerOf 7 n } →
      (p.started = true → exec (.sapConfig r) s = .next (replied s1 r 2 (cut r) [])) ∧
      (p.started = false → x.codesOk = true → exec (.sapConfig r) s = .next (okTo (s1.modSap n fun _ => x) r [])) ∧
      (p.started = false → x.codesOk = false → exec (.sapConfig r) s = .next (replied s1 r 4 (cut r) []))) ∧
    (Served opSapStart r s s1 → (p.started = true ∨ p.cfg = [] ∨ p.fieldsOk = false) →
      exec (.sapStart r) s = .next (replied s1 r 4 (cut r) [])) ∧
    (Served opSapStart r s s1 → p.started = false → p.cfg ≠ [] → p.fieldsOk = true →
      (r.who < 64 → (p.input = false → p.align = 1 → s1.owns r.who 5 p.layer = true) ∧
        (p.input = true ∨ p.net = false → p.ring < s1.ringCount r.who)) →
      (n = 7 → s1.time.ppsGranted = false) →
      (p.aw = true → ∀ y ∈ s1.media.saps, y.2.started = true → y.2.aw = true → y.2.awRate = p.awRate) →
      flowsWith s1 n 0 ≤ 16 → flowsWith s1 n 1 ≤ 16 →
      ∃ s2, exec (.sapStart r) s = .next (okTo s2 r []) ∧ (s2.sap n).state = (if p.input then .running else .starting) ∧
        (s2.sap n).muted = 0xFFFF#16 ∧ (s2.sap n).held = [] ∧ (s2.sap n).cfg = p.cfg) ∧
    (Served opSapStop r s s1 → p.started = false → exec (.sapStop r) s = .next (okTo s1 r [])) ∧
    (Served opSapStop r s s1 → p.started = true → ∃ s2, exec (.sapStop r) s = .next (okTo s2 r []) ∧
      ((s2.sap n).stopping = true ∨ (s2.sap n).state = .stopped)) ∧
    (Served opSapMute r s s1 → ∀ m, m = BitVec.ofNat 16 (fld (r.word 0) 31 16) →
      ∃ s2, exec (.sapMute r) s = .next (okTo s2 r []) ∧ (s2.sap n).muted = p.muted ∧
        (s2.sap n).hostMute = (if bit (r.word 0) 3 then p.hostMute ||| m else p.hostMute &&& ~~~m) ∧
        ∀ k, k ≠ n → s2.sap k = s1.sap k) ∧
    (Served opSapStatusRead r s s1 → exec (.sapStatusRead r) s = .next (okTo s1 r
      [put p.stateCode 4 0 ||| putB p.awUsed 4 ||| putB s1.media.awPresent 5 ||| (p.muted.setWidth 64 <<< 16), ofInt p.delay,
       pair p.nDropped p.nRepeated, pair p.nStarve p.nRealign, pair p.nLate p.nCapDrop, BitVec.ofNat 64 p.stamp, pair p.nLegA p.nLegB,
       p.nAwLoss.setWidth 64]))

/-- PLAY and CAPTURE (R401, R402): a descriptor of another type is not run; a refused one completes with its status; a buffer
whose play time lies within 100 ms is read as far as its samples play within 100 ms and at most 100 ms are held, and stays with
the port until all are; one whose time is not known or lies later, or that stands behind a buffer still being read, waits; a
failed read completes with TIMEOUT; a capture buffer waits at the port. Audio at work (R57, R261, R394, R395, R398, R400, R406): a
packet is counted on its leg and, where the legs merge, its number kept; a leg loss is told once; a block is stamped with its
start, and the next follows on the system counter, starts at the pulse of AWCLK, or, while a port slews to AWCLK, at most 100 ppm
from its own time; a port whose delay is not known plays zeros; a channel takes its pending change at its zero crossing; the loss
of AWCLK moves its ports to the system counter, and at its return they slew. The model's choices it rests on: log entries 2, 3, 5,
35, 36, 37, 47, 48, 114. -/
def Obligations.AudioRingsAndEvents : Prop :=
  (∀ (s s1 : State) (ring cr gen n st base k t c : Nat) (d : Desc) (bytes : List Byte) (p : Sap) (x : PlayBuf) (capture : Bool),
     takeTyped s ring d 6 (if capture then 0x31 else 0x30) = some (s1, cr, gen) → s.hub.cpFailed = false → n = audioSap d → p = s.sap n →
     (∀ pull, dtypeOf d ≠ 0x30 → exec (.play ring d pull) s = .next s) ∧ (dtypeOf d ≠ 0x31 → exec (.capture ring d) s = .next s) ∧
     (capture = false → ∀ pull, audioRefused s ring d false = some st → exec (.play ring d pull) s =
       .next (complete (if s.owns (s.ring ring).owner 7 n then s1 else violate s1 (s.ring ring).owner) cr gen
         (sapCompletion 0x30 st n false 0 0 d.w3))) ∧
     (capture = false → ∀ pull, audioRefused s ring d false = none → playMedia s p d = (base, k) →
       (p.delayKnown = false ∨ p.reading ≠ none ∨ ((s.wall : Int) + 100000000 < ((base + p.span k : Nat) : Int) + p.delay)) →
       exec (.play ring d pull) s = .next s) ∧
     (capture = false → audioRefused s ring d false = none → playMedia s p d = (base, k) → p.delayKnown = true → p.reading = none →
       ((base + p.span k : Nat) : Int) + p.delay = t → t ≤ s.wall + 100000000 →
       exec (.play ring d .failed) s = .next (complete s1.drawn cr gen (sapCompletion 0x30 7 n false t 0 d.w3)) ∧
       (x = ⟨cr, gen, (s.ring ring).owner, d, base, k, 0, slotWords bytes, t, false⟩ → c = x.readable p s.wall →
         ∃ u, exec (.play ring d (.data bytes)) s = .next u ∧ (u.sap n).nextMedia = some (base, k + 64 * audioBlocks d) ∧
           (u.sap n).held = p.held ++ (List.range c).map (x.sample p) ∧ (u.sap n).held.length ≤ max p.held.length (p.fs / 10) ∧
           (u.sap n).reading.map (fun b => b.done) = (if c < 64 * audioBlocks d then some c else none))) ∧
     (capture = true → audioRefused s ring d true = some st → exec (.capture ring d) s =
       .next (complete (if s.owns (s.ring ring).owner 7 n then s1 else violate s1 (s.ring ring).owner) cr gen
         (sapCompletion 0x31 st n false 0 0 d.w3))) ∧
     (capture = true → audioRefused s ring d true = none → exec (.capture ring d) s =
       .next (s1.modSap n fun p => { p with capBufs := p.capBufs ++ [⟨cr, gen, (s.ring ring).owner, d, 0, 0, false⟩] }))) ∧
  (∀ (s : State) (n i leg ch port : Nat) (k : AudioPkt) (p q : Sap) (c : ChanChange) (w : List (BitVec 32)), p = s.sap n →
     (s.netUp port = false → exec (.audioPacket port k) s = .next s) ∧
     (s.netUp port = true → ∃ u, exec (.audioPacket port k) s = .next u ∧
       (audioLegs s port k = [(n, i, leg)] → (u.sap n).nLegA = (if leg = 0 then p.nLegA + 1 else p.nLegA) ∧
         (u.sap n).nLegB = (if leg = 1 then p.nLegB + 1 else p.nLegB) ∧
         (legMerges s p i leg = true → k.seq ∈ Tbl.get [] (u.sap n).seen i) ∧
         Tbl.get false (u.sap n).legLost (2 * i + leg) = false)) ∧
     (p.started = true → p.legOn i leg = true → Tbl.get false p.legLost (2 * i + leg) = false →
       Tbl.get false s.time.netWindow (p.legPort i leg) = false →
       ∃ u, exec (.audioLegLoss n i leg) s = .next u ∧ Tbl.get false (u.sap n).legLost (2 * i + leg) = true) ∧
     (p.started = true → s.clocks.power ≠ .deep →
       q = (if p.aw then p else { p with block := max p.block (s.wall * p.fs / 64000000000 - 1) }) →
       ∃ u, exec (.audioBlock n w) s = .next u ∧
         (u.sap n).stamp = q.blockStart ∧
         (q.input = true → p.stopping = false → q.slewing = false → q.awUsed = false → (u.sap n).block = q.block + 1) ∧
         (q.input = true → p.stopping = false → q.slewing = false → q.awUsed = true → (u.sap n).base = s.wall ∧ (u.sap n).block = 0) ∧
         (q.input = true → p.stopping = false → q.slewing = true → (u.sap n).block = 0 ∧
           (((u.sap n).base : Int) - { q with block := q.block + 1 }.blockStart).natAbs ≤ 6400000 / p.fs) ∧
         (p.input = false → p.state = .starting → p.delayKnown = false → p.stopping = false → p.reading = none → (u.sap n).held = p.held ∧
           ∃ ws, Out.sample n p.frame ws ∈ u.out ∧ ws.length = 64 * p.slots ∧ ∀ x ∈ ws, x = 0)) ∧
     (∃ u, exec (.sapZeroCrossingChange n ch) s = .next u ∧
       (Tbl.get none p.changes ch = some c → p.changeDue ch = true → p.stopping = false → u = s.modSap n fun p => p.take ch c) ∧
       (p.changeDue ch = false → u = s)) ∧
     (s.media.awPresent = true → ∃ u, exec .awclkLoss s = .next u ∧ u.media.awPresent = false ∧
       (p.started = true → (p.awUsed = true ∨ p.slewing = true) →
         (u.sap n).awUsed = false ∧ (u.sap n).slewing = false ∧ (u.sap n).nAwLoss = p.nAwLoss + 1)) ∧
     (s.media.awPresent = false → ∃ u, exec .awclkReturn s = .next u ∧ u.media.awPresent = true ∧
       (p.started = true → p.aw = true → p.awUsed = false → (u.sap n).slewing = true ∧ (u.sap n).awUsed = false)))

/-! ### Codec -/

/-- The decode commands (R409, R417, R429): settings within R417 are stored while the session is stopped; a start within the
budgets begins an empty session, one beyond them is BUSY and answers what is needed and free; a stop ends it. VCX_STATUS_READ
gives its state and counters. The encode commands (R409, R423, R425, R428, R429): settings are stored and MIN_BUF answered; a
start within the budget begins a session with QP 32; a stop ends it once the access unit in progress is complete; the status
words. The model's choices it rests on: log entries 5, 13, 39, 51. -/
def Obligations.CodecCommands : Prop :=
  (∀ (r : Req) (s s1 : State) (k : Nat) (x : Dec), k = fld (r.word 0) 1 0 →
     (Served opDecConfig r s s1 → (s1.dec k).running = false → x = { cfg := (List.range 5).map r.word, owner := s1.ownerOf 8 k } →
       (x.fieldsOk = true → exec (.decConfig r) s = .next (okTo (s1.modDec k fun _ => x) r [])) ∧
       (x.fieldsOk = false → exec (.decConfig r) s = .next (replied s1 r 4 (cut r) []))) ∧
     (Served opDecStart r s s1 → x = s1.dec k → x.running = false → x.cfg ≠ [] →
       ((decUsed s1 k + x.charge ≤ 1990656000 * 8008 ∧ decBits s1 k + x.maxBr ≤ 800) →
         ∃ s2, exec (.decStart r) s = .next (okTo s2 r []) ∧ (s2.dec k).running = true ∧ (s2.dec k).pictures = 0 ∧
           (s2.dec k).cfg = x.cfg) ∧
       (1990656000 * 8008 < decUsed s1 k + x.charge ∨ 800 < decBits s1 k + x.maxBr → exec (.decStart r) s =
         .next (replied s1 r 2 (cut r) [budgetWord x.charge (decUsed s1 k) 1990656000 8008]))) ∧
     (Served opDecStop r s s1 → (s1.dec k).running = false → exec (.decStop r) s = .next (okTo s1 r [])) ∧
     (Served opDecStop r s s1 → (s1.dec k).running = true → ∃ s2, exec (.decStop r) s = .next (okTo s2 r []) ∧
       (s2.dec k).running = false ∧ (s2.dec k).pool = [] ∧ (s2.dec k).stream = [] ∧ (s2.dec k).cfg = (s1.dec k).cfg) ∧
     (Served opVcxStatusRead r s s1 → fld (r.word 0) 2 0 = k → x = s1.dec k → ∀ up : Nat → Bool,
       (∀ leg, up leg = (x.running && x.legOn leg && !x.legLost leg && s1.netUp (x.legPort leg))) →
       exec (.vcxStatusRead r) s = .next (okTo s1 r
         [put (if !x.running then 0 else if x.concealing then 2 else 1) 2 0 ||| putB (up 0) 2 ||| putB (up 1) 3,
          pair x.nOut x.nConcealed, pair x.nLost x.nDup, pair x.nNotOut x.nRecover]))) ∧
  (∀ (r : Req) (s s1 : State) (k : Nat) (x : EncSt), k = fld (r.word 0) 0 0 →
     (Served opEncConfig r s s1 → (s1.enc k).running = false →
       x = { cfg := (List.range 4).map r.word, owner := s1.ownerOf 8 (4 + k) } →
       (x.codesOk = true → ∃ w, exec (.encConfig r) s = .next (okTo (s1.modEnc k fun _ => x).drawn r [w]) ∧
         ((encCanvas s1 x).isSet = true → w = put (encMinBuf s1 x) 32 0)) ∧
       (x.codesOk = false → exec (.encConfig r) s = .next (replied s1 r 4 (cut r) []))) ∧
     (Served opEncConfig r s s1 → (s1.enc k).running = true → exec (.encConfig r) s = .next (replied s1 r 2 (cut r) [])) ∧
     (Served opEncStart r s s1 → x = s1.enc k → x.running = false → x.cfg ≠ [] → encFieldsOk s1 x = true →
       (r.who < 64 → s1.owns r.who 3 x.canvas = true ∧ x.ring < s1.ringCount r.who) →
       (s1.ring (s1.globalRing r.who x.ring)).type = 5 → (s1.ring (s1.globalRing r.who x.ring)).state = .running →
       encUsed s1 k + encCharge s1 x ≤ 497664000 * 840840 →
       ∃ s2, exec (.encStart r) s = .next (okTo s2 r []) ∧ (s2.enc k).running = true ∧ (s2.enc k).qpPic = 32 ∧
         (s2.enc k).caps = [] ∧ (s2.enc k).cfg = x.cfg) ∧
     (Served opEncStop r s s1 → (s1.enc k).running = false → exec (.encStop r) s = .next (okTo s1 r [])) ∧
     (Served opEncStop r s s1 → (s1.enc k).running = true → (s1.enc k).caps = [] →
       exec (.encStop r) s = .next (okTo (endEncode s1 k) r [])) ∧
     (Served opEncStop r s s1 → (s1.enc k).running = true → (s1.enc k).caps ≠ [] →
       exec (.encStop r) s = .next (okTo (s1.modEnc k fun x => { x with stopping := true }) r [])) ∧
     (Served opVcxStatusRead r s s1 → (fld (r.word 0) 2 0 = 4 ∨ fld (r.word 0) 2 0 = 5) → x = s1.enc (fld (r.word 0) 2 0 - 4) →
       exec (.vcxStatusRead r) s = .next (okTo s1 r
         [putB x.running 0 ||| put x.qpPic 8 24 ||| put x.band 16 32 ||| put x.cycleLen 16 48, pair x.nAu x.nDropped,
          pair x.nSkipRows x.nPostpone, pair x.nAllSkip x.nLongCycle])))

/-- Decoding (R411 to R415, R430): the first packet of a session joins its stream; what the jitter window misses is given up and
the packets behind it follow; a leg loss is kept; a picture whose SPS breaks R412 is not output, with event 0x05, one within the
limits fills its pool buffer. Encoding (R418, R420, R422 to R427): a host buffer takes the oldest access unit held, or waits; a
picture is captured at the frames of DIV while there is room, and dropped with its count otherwise; a coded picture is counted,
its access unit goes to the oldest buffer waiting or is held, and it becomes the reference. The model's choices it rests on: log
entries 2, 48, 49, 50, 51, 98, 116. -/
def Obligations.CodecEvents : Prop :=
  (∀ (s : State) (k leg port b : Nat) (p : RtpPkt) (q : BitVec 16) (t : Nat) (pic : Picture) (x : Dec) (rest : List (Nat × RtpPkt)),
     x = s.dec k →
     (∃ u, exec (.decodePacket port p) s = .next u ∧ (s.netUp port = false → u = s) ∧
       (s.netUp port = true → decLegs s port p = [(k, leg)] → x.legLost leg = false → x.nextSeq = none → isPaci p = false →
         s.hub.stage ≠ .restarting → (u.dec k).nextSeq = some (p.seq + 1) ∧ (u.dec k).stream = x.stream ++ [(s.uptime, p)])) ∧
     (x.nextSeq = some q → x.window = (t, p) :: rest → p.seq ≠ q → ∃ u, exec (.jitterWindowClose k) s = .next u ∧
       (u.dec k).window.length ≤ rest.length ∧
       (u.dec k).missed = (((List.range (p.seq - q).toNat).map fun i => q + BitVec.ofNat 16 i).reverse ++ x.missed).take 256) ∧
     (x.running = true → x.legOn leg = true → x.legLost leg = false → Tbl.get false s.time.netWindow (x.legPort leg) = false →
       ∃ u, exec (.decodeLegLoss k leg) s = .next u ∧ (u.dec k).legLost leg = true) ∧
     (x.running = true → s.hub.cpFailed = false → s.hub.stage ≠ .restarting → ∃ u, exec (.pictureDecoded k pic) s = .next u ∧
       (usePackets x.stream = [] → (x.where' fun y => decide (y.mark = .decoding)) = [b] →
         (x.limitBroken pic ≠ 0 → (u.dec k).nNotOut = x.nNotOut + 1 ∧ (u.dec k).poolBuf b = {} ∧ (u.dec k).broken = true) ∧
         (x.limitBroken pic = 0 → (x.broken = true → pic.irap = true) → (u.dec k).broken = false ∧
           ((u.dec k).poolBuf b).poc = pic.poc ∧ ((u.dec k).poolBuf b).mark = (if pic.long then .long else .short) ∧
           ((u.dec k).poolBuf b).width = pic.width ∧ ((u.dec k).poolBuf b).height = pic.height)))) ∧
  (∀ (s s1 : State) (ring cr gen k : Nat) (d : Desc) (au : AccessUnit) (rest : List AccessUnit) (x : EncSt) (c : Cap) (caps : List Cap)
     (rows : CodedRows),
     (takeTyped s ring d 5 0x20 = some (s1, cr, gen) → s.hub.cpFailed = false → k = fld d.w0 8 8 → x = s.enc k →
       s.owns (s.ring ring).owner 8 (4 + k) = true → fld d.w0 63 32 ≠ 0 → fld d.w0 63 32 ≠ 0xFFFFFFFF → x.cfg ≠ [] →
       s.globalRing (s.ring ring).owner x.ring = ring → encMinBuf s x ≤ fld d.w0 63 32 →
       (x.held = au :: rest → exec (.encBuf ring d) s =
         .next (giveUnit (s1.modEnc k fun x => { x with held := rest }) ⟨cr, gen, (s.ring ring).owner, d⟩ au)) ∧
       (x.held = [] → exec (.encBuf ring d) s =
         .next (s1.modEnc k fun x => { x with bufs := x.bufs ++ [⟨cr, gen, (s.ring ring).owner, d⟩] }))) ∧
     (x = s.enc k → x.running = true → x.stopping = false → (s.canvas x.canvas).running = true →
       (s.canvas x.canvas).frame % x.div = 0 → x.prev ≠ some (s.canvas x.canvas).frame →
       (∀ c ∈ x.caps, c.frame ≠ (s.canvas x.canvas).frame) →
       ((x.bufs ≠ [] ∨ x.held.length + x.caps.length < 8) → ∃ u e, exec (.encodeCapture k) s = .next u ∧
         (u.enc k).caps = x.caps ++ [e] ∧ e.frame = (s.canvas x.canvas).frame) ∧
       (x.bufs = [] → 8 ≤ x.held.length + x.caps.length → ∃ u, exec (.encodeCapture k) s = .next u ∧
         (u.enc k).nDropped = x.nDropped + 1 ∧ (u.enc k).caps = x.caps)) ∧
     (x = s.enc k → x.caps = c :: caps → x.running = true → s.hub.cpFailed = false → s.hub.stage ≠ .restarting →
       ∃ u, exec (.accessUnitDone k rows) s = .next u ∧ (u.enc k).nAu = x.nAu + 1 ∧ (u.enc k).bufs = x.bufs.drop 1 ∧
         (u.enc k).prev = some c.frame ∧ (u.enc k).caps = caps ∧
         (x.bufs = [] → ∃ y, (u.enc k).held = x.held ++ [y]) ∧ (x.bufs ≠ [] → (u.enc k).held = x.held)))

/-! ### Resets, supplies, bring-up -/

/-- PKG_RST_N, power and supplies (R466, R495, R528, R545 to R548): a package reset, unless a hub trip waits for its release;
power-on resets and power-down loses DONE, OTP_OFF and the trips; a hub supply out of range holds the package in reset, one of a
twin die makes it fatal with CAUSE 5; the last supply restored releases the held reset. The model's choices it rests on: log
entries 17, 23. -/
def Obligations.ResetsAndSupplies : Prop :=
  ∀ (s : State) (d : DieId) (x : Supply),
    (s.service.powered = true → s.thermH.tripped = false → exec .pkgRstN s = .next (packageReset s)) ∧
    (s.service.powered = true → s.thermH.tripped = true → exec .pkgRstN s = .next s) ∧
    (s.service.powered = false → ∃ u, exec .powerOn s = .next u ∧ u.service.powered = true ∧ u.service.supplyOut = [] ∧
      u.hub.stage = .reset ∧ u.service.keys.anchors = s.service.keys.anchors) ∧
    (s.service.powered = true → ∃ u, exec .powerDown s = .next u ∧ u.service.powered = false ∧ u.service.keys.done = false ∧
      u.service.keys.otpOff = false ∧ u.service.keys.anchors = s.service.keys.anchors ∧ u.thermA.tripped = false ∧
      u.thermB.tripped = false ∧ u.thermH.tripped = false ∧ u.clocks.refOk = false ∧ u.firmware.svnFuse = s.firmware.svnFuse ∧
      u.firmware.stateA = s.firmware.stateA ∧ u.firmware.stateB = s.firmware.stateB) ∧
    (s.service.powered = true → s.service.supplyOut.contains x = false →
      ∃ u, exec (.supplyOutOfRange x) s = .next u ∧ x ∈ u.service.supplyOut ∧
        (supplyDie x = none → (s.thermH.tripped = false ∨ islandSupply x = true) → u.hub.stage = .reset ∧ u.service.resetHeld = true) ∧
        (supplyDie x = none → s.thermH.tripped = true → islandSupply x = false → u.hub = s.hub) ∧
        (supplyDie x = some d → (s.die d).running = true → (s.die d).fatal = false → (x = .vddpe d → (s.therm d.die3).tripped = false) →
          (u.die d).fatal = true ∧ (u.die d).cause = 5)) ∧
    (∃ u, exec (.supplyRestored x) s = .next u ∧ x ∉ u.service.supplyOut ∧
      (u.service.resetHeld = true → s.service.resetHeld = true) ∧
      ((∀ y ∈ s.service.supplyOut, y = x) → u.service.resetHeld = false))

/-- The boot stages (R496 to R498, R502, R503, R509, R295, R296): STAGE 0 waits for REFCLK; STAGE 1 reads the two header copies,
makes a slot found in TRIAL BAD, and halts with HALT 1 when no slot is CONFIRMED or LOADED; STAGE 2 runs the CONFIRMED image that
passes, a LOADED one otherwise, which enters TRIAL; STAGE 3 halts with HALT 4 without hub memory and HALT 2 without die memory;
STAGE 4 waits for the lane reference, halts with HALT 5 without a settings area it can read and HALT 3 when no die passes; STAGES
5 and 7 lead to STAGE 6, the first at a time BOOT_MS after the package reset. The header that STAGE 1 keeps must have room for the
next HSEQ. The model's choices it rests on: log entries 3, 17, 18, 20, 21, 25, 74, 82, 116. -/
def Obligations.BootStages : Prop :=
  ∀ (s : State) (b : BootResult) (f : Firmware), f = s.firmware.readHeaders b → s.hub.cpFailed = false → s.service.powered = true →
    s.service.keys.held = false →
    (s.hub.stage = .reset → s.clocks.refOk = true → s.clocks.pllH = true → s.service.resetHeld = false → s.thermH.tripped = false →
      ∃ u, exec (.stageChange b) s = .next u ∧ u.hub.stage = .primer ∧ Out.pin "SVC_RST_N" true ∈ u.out) ∧
    (s.hub.stage = .reset → s.clocks.refOk = false → exec (.stageChange b) s = .next s) ∧
    (s.hub.stage = .primer → f.head.hseq ≠ 0xFFFFFFFF → ∃ u, exec (.stageChange b) s = .next u ∧
      (∀ k, f.slot k ≠ .trial → u.firmware.slot k = f.slot k) ∧
      (∀ k, f.find .trial = some k → u.firmware.slot k = .bad) ∧
      (f.find .confirmed = none → f.find .loaded = none → u.hub.stage = .halted ∧ u.hub.halt = 1) ∧
      (f.find .confirmed ≠ none ∨ f.find .loaded ≠ none → u.hub.stage = .fwLoad)) ∧
    (∀ c, s.hub.stage = .fwLoad → s.firmware.find .confirmed = some c → s.firmware.head.hseq ≠ 0xFFFFFFFF →
      ∃ u, exec (.stageChange b) s = .next u ∧
        (slotPasses s b c = true → u.hub.stage = .memTrain ∧ u.hub.fwValid = true ∧ u.hub.fwSlotB = c ∧ u.hub.unconfirmed = false ∧
          u.firmware = s.firmware) ∧
        (slotPasses s b c = false → s.firmware.slot (!c) = .loaded → slotPasses s b (!c) = true → u.hub.stage = .memTrain ∧
          u.hub.fwSlotB = !c ∧ u.hub.unconfirmed = true ∧ u.firmware.slot (!c) = .trial ∧ u.firmware.slot c = .confirmed) ∧
        (slotPasses s b c = false → (s.firmware.slot (!c) ≠ .loaded ∨ slotPasses s b (!c) = false) →
          u.hub.stage = .halted ∧ u.hub.halt = 1)) ∧
    (s.hub.stage = .memTrain → ∃ u, exec (.stageChange b) s = .next u ∧
      (b.memH = false → u.hub.stage = .halted ∧ u.hub.halt = 4) ∧
      (b.memH = true → b.dieA.trained = false → b.dieB.trained = false → u.hub.stage = .halted ∧ u.hub.halt = 2) ∧
      (b.memH = true → (b.dieA.trained = true ∨ b.dieB.trained = true) → u.hub.stage = .dieCheck ∧ u.hub.gibA = b.dieA.gib ∧
        u.hub.gibB = b.dieB.gib ∧
        u.hub.gibH = b.gibH)) ∧
    (s.hub.stage = .dieCheck → s.clocks.laneSeen = false → exec (.stageChange b) s = .next s) ∧
    (∀ s1, s.hub.stage = .dieCheck → s.clocks.laneSeen = true →
      s1 = firstStart (bootRetire (bootRetire s .a b.dieA.failed) .b b.dieB.failed) → ∃ u, exec (.stageChange b) s = .next u ∧
      (s1.loadArea = none → u.hub.stage = .halted ∧ u.hub.halt = 5) ∧
      (s1.loadArea ≠ none → diePasses s .a b.dieA = false → diePasses s .b b.dieB = false → u.hub.stage = .halted ∧ u.hub.halt = 3) ∧
      (s1.loadArea ≠ none → diePasses s .a b.dieA = true → u.hub.stage = .linkBringUp)) ∧
    (s.hub.stage = .linkBringUp → ∃ u, exec (.stageChange b) s = .next u ∧ u.hub.stage = .ready ∧
      u.hub.bootMs = BitVec.ofNat 16 (s.uptime / 1000000)) ∧
    (s.hub.stage = .restarting → ∃ u, exec (.stageChange b) s = .next u ∧ u.hub.stage = .ready)

/-! ### Firmware update -/

/-- The firmware commands (R504, R509, R510, R513 to R516, R517): a load that parses and passes makes its slot WRITING and ends
LOADED or BAD; an activation restarts, once every accepted request has its answer, into the image as a trial, or falls back to the
CONFIRMED one; a confirmation makes the trial slot CONFIRMED and raises the fuse, never lowers it; PKG_RESET falls due 10 ms later
and PKG_HALT halts with HALT 6. Where a header is written, the copy in use must have room for the next HSEQ. The model's choices
it rests on: log entries 11, 18, 21, 41, 74, 77, 82, 116. -/
def Obligations.FirmwareCommands : Prop :=
  ∀ (r : Req) (s s1 : State) (b ok : Bool) (src id : Nat) (x : Image) (f : Firmware),
    (Served opFwLoad r s s1 → b = bit (r.word 0) 0 → fld (r.word 0) 63 32 ≠ 0 → fld (r.word 0) 63 32 ≠ 0xFFFFFFFF →
      fld (r.word 0) 63 32 ≤ stagingBytes → (s1.hub.fwValid = true → s1.hub.fwSlotB ≠ b) →
      (s1.inTrial = true → s1.firmware.slot b ≠ .confirmed) → s1.fwBusy = false → s1.firmware.relay = none →
      s1.firmware.head.hseq ≠ 0xFFFFFFFF →
      parseImage (memRead (s1.nsp (r.src - 64)).staging 0 (fld (r.word 0) 63 32)) = some x → imagePasses s1 x = true →
      ∃ s2, exec (.fwLoad r) s = .next (acceptedTo s2 r none) ∧ s2.firmware.slot b = .writing ∧ s2.firmware.image b = some x ∧
        s2.firmware.slot (!b) = s1.firmware.slot (!b) ∧ s2.firmware.head.hseq = s1.firmware.head.hseq + 1) ∧
    (s.firmware.job = some (.load src id b) → s.hub.cpFailed = false →
      exec (.fwLoadComplete ok) s = .next (finishLong (s.modFirmware fun f =>
        { f.setSlot b (if ok then .loaded else .bad) with job := none }) src id (if ok then 0 else 4))) ∧
    (Served opFwActivate r s s1 → b = bit (r.word 0) 0 → s1.hub.stage = .ready → s1.firmware.head.hseq ≠ 0xFFFFFFFF →
      s1.fwBusy = false → (∀ c, c < 4 → (s1.canvas c).change = none) → s1.dies.twin.state ≠ .copy → s1.dies.twin.state ≠ .verify →
      s1.clocks.change = none → s1.firmware.image b = some x → imagePasses s1 x = true →
      (s1.firmware.slot b = .loaded ∧ s1.inTrial = false ∧ settingsFit s1 x = true) ∨
        (s1.firmware.find .confirmed = some b ∧ s1.inTrial = true) →
      ∃ s2 u, exec (.fwActivate r) s = .next u ∧ u = acceptedTo s2 r none ∧ (s1.nextRequest = none → u.hub.stage = .restarting) ∧
        (s1.nextRequest ≠ none → u.hub.restartDue = true) ∧ s2.hub.fwSlotB = b ∧
        s2.hub.unconfirmed = decide (s1.firmware.slot b = .loaded) ∧ s2.firmware.activations = s1.firmware.activations + 1 ∧
        (s1.firmware.slot b = .loaded → s2.firmware.slot b = .trial)) ∧
    (s.firmware.job = some (.activate src id b) → s.hub.cpFailed = false → s.hub.stage = .ready → s.mcBusy = false →
      s.firmware.fallBack = none → s.hub.fwSlotB = b →
      exec .fwActivateComplete s = .next (finishLong (s.modFirmware fun f => { f with job := none }) src id 0)) ∧
    (Served opFwConfirm r s s1 → s1.firmware.find .trial = none → exec (.fwConfirm r ok) s = .next (replied s1 r 4 (cut r) [])) ∧
    (Served opFwConfirm r s s1 → s1.firmware.find .trial ≠ none → s1.mcBusy = true →
      exec (.fwConfirm r ok) s = .next (replied s1 r 2 (cut r) [])) ∧
    (Served opFwConfirm r s s1 → s1.firmware.find .trial = some b → s1.firmware.image b = some x → s1.mcBusy = false →
      s1.firmware.head.hseq ≠ 0xFFFFFFFF →
      ∃ s2, exec (.fwConfirm r ok) s = .next (okTo s2 r []) ∧ s2.firmware.slot b = .confirmed ∧ s2.firmware.trialAt = none ∧
        s2.hub.unconfirmed = false ∧
        s2.firmware.svnFuse = (if ok then max s1.firmware.svnFuse x.svn else s1.firmware.svnFuse) ∧
        (s1.firmware.slot (!b) = .confirmed → s2.firmware.slot (!b) = .loaded)) ∧
    (Served opFwStatusRead r s s1 → f = s1.firmware → exec (.fwStatusRead r) s = .next (okTo s1 r
      [put (slotCode f.stateA) 3 0 ||| put (slotCode f.stateB) 3 4 ||| putB s1.hub.fwSlotB 8 ||| putB s1.hub.unconfirmed 9 |||
         putB s1.mcBusy 10 ||| put f.svnFuse 16 16,
       pair f.head.verA f.head.verB,
       put (trialLeft s1) 32 0 ||| put f.mcStep 4 32, f.arbVer.setWidth 64, pair f.activations f.fallbacks])) ∧
    (Served opPkgReset r s s1 → exec (.pkgReset r) s =
      .next ((okTo s1 r []).modHub fun h => { h with resetAt := some (s.uptime + 10000000) })) ∧
    (Served opPkgHalt r s s1 → ∃ u, exec (.pkgHalt r) s = .next u ∧ u.hub.stage = .halted ∧ u.hub.halt = 6 ∧
      u.dies.a.running = false ∧ u.dies.b.running = false)

/-- Trial, watchdog and relay (R33, R326, R513, R517): a trial not confirmed within 10 minutes, or whose watchdog expires, makes
its slot BAD and falls back to the CONFIRMED slot through STAGE 7, once a change of microcode under way has ended and, unless the
control processor hung, the accepted requests have their answers; a watchdog outside a trial fails the hub; a relay to tiles that
can be reached is ACCEPTED and ends OK or PARTIAL. The model's choices it rests on: log entries 19, 42, 74, 109. -/
def Obligations.TrialAndRelay : Prop :=
  ∀ (r : Req) (s s1 : State) (c : Bool) (rel : Relay) (n : Nat),
    (s.hub.cpFailed = false → s.hub.stage = .ready → s.firmware.trialAt.isSome = true → s.firmware.find .confirmed = some c →
      (s.firmware.mcStep ≠ 0 ∨ switchWaits s = true) → s.firmware.fallBack = none →
      (trialLeft s = 0 → exec .trialExpiry s = .next (s.modFirmware fun f => { f with fallBack := some 0 })) ∧
      exec .cpWatchdogExpiry s = .next ((dropRequests s).modFirmware fun f => { f with fallBack := some 1 })) ∧
    (trialLeft s ≠ 0 → exec .trialExpiry s = .next s) ∧
    (s.hub.cpFailed = false → s.hub.stage = .ready → s.firmware.trialAt.isSome = true → s.firmware.find .confirmed = some c →
      s.firmware.mcStep = 0 → switchWaits s = false → s.hub.fwSlotB = !c → s.firmware.head.hseq ≠ 0xFFFFFFFF →
      (trialLeft s = 0 → ∃ u, exec .trialExpiry s = .next u ∧
        (s.hub.reqAt = none → s.nextRequest = none → u.hub.stage = .restarting) ∧
        (s.nextRequest ≠ none → u.hub.restartDue = true) ∧ u.firmware.slot (!c) = .bad ∧ u.firmware.slot c = .confirmed ∧
        u.hub.fwSlotB = c ∧ u.hub.unconfirmed = false ∧ u.firmware.fallbacks = s.firmware.fallbacks + 1) ∧
      ∃ u, exec .cpWatchdogExpiry s = .next u ∧ u.hub.accepted = [] ∧ (s.hub.reqAt = none → u.hub.stage = .restarting) ∧
        u.firmware.slot (!c) = .bad ∧ u.hub.fwSlotB = c) ∧
    (s.hub.cpFailed = false → s.hub.stage = .ready → s.firmware.trialAt = none → exec .cpWatchdogExpiry s = .next (failCp s)) ∧
    (Served opTileFwRelay r s s1 → n = fld (r.word 0) 31 0 → n ≠ 0 → n ≤ 33546240 →
      (bit (r.word 0) 32 = true → s1.reqTime + stagingTime s1 (relayTiles r) n + 1000000000 ≤ (r.word 1).toNat) →
      (relayTiles r).all (relayable s1) = true → s1.fwBusy = false → s1.firmware.relay = none →
      ∃ s2 y, exec (.tileFwRelay r) s = .next (acceptedTo s2 r none) ∧ s2.firmware.relay = some y ∧ y.src = r.who ∧
        y.id = s1.nextLong r.who ∧
        y.applyTime = (if bit (r.word 0) 32 then (r.word 1).toNat else 0)) ∧
    (Served opTileFwRelay r s s1 → n = fld (r.word 0) 31 0 → n ≠ 0 → n ≤ 33546240 → (relayTiles r).all (relayable s1) = false →
      exec (.tileFwRelay r) s = .next (replied s1 r 6 (cut r) [])) ∧
    (s.firmware.relay = some rel → s.hub.cpFailed = false → rel.waiting = [] → rel.tiles = [] → rel.failed = [] →
      (∀ y ∈ s.links.txns, y.inProgress = true → y.kind ≠ .fwImage) →
      exec .tileFwRelayComplete s = .next (finishLong (s.modFirmware fun f => { f with relay := none }) rel.src rel.id 0))

/-! ### The service port, the key store, the test access port -/

/-- Sessions and messages of the service port (R505 to R507): a handshake with an accepted certificate opens the free session; a
valid datagram keeps it alive; a whole JCS request is submitted at STAGE 6 or 8; parts not completed within 1 s are dropped; data
go to the staging buffer; a session that is silent for 30 s or closed ends and clears its buffers and requests. Register access
and owner anchors (R467, R470, R506, R508): a die that is not there is BADPARAM; a write reaches CLK_OBS alone, for the first
session that asks, and reserved encodings keep their fields; an anchor of 48 bytes is fused while there is room for four. The
model's choices it rests on: log entries 5, 22, 40, 44, 77, 105, 116. -/
def Obligations.ServicePort : Prop :=
  (∀ (s : State) (n offset : Nat) (c : Cert) (h w : Word) (ws : List Word) (bytes : List Byte),
     (s.nspServed = true → ((s.nsp 0).isOpen = false ∨ (s.nsp 1).isOpen = false) → certOk s c = true →
       ∃ u, exec (.nspHandshake n c true) s = .next u ∧ (s.nsp (freeSession s n)).isOpen = false ∧
         (u.nsp (freeSession s n)).isOpen = true ∧ (u.nsp (freeSession s n)).lastAt = s.uptime) ∧
     (∀ suite, s.nspServed = true → (certOk s c = false ∨ suite = false ∨ ((s.nsp 0).isOpen = true ∧ (s.nsp 1).isOpen = true)) →
       ∃ u, exec (.nspHandshake n c suite) s = .next u ∧ u.service = s.service) ∧
     (s.nspOpen n = true → exec (.nspKeepalive n) s = .next (s.modNsp n fun x => { x with lastAt := s.uptime })) ∧
     (s.nspOpen n = true → fld h 7 0 = 1 → fld h 11 8 = 0 → bit h 12 = false → (s.nsp n).pendingReq = false → ws.length ≤ 160 →
       fld h 63 32 = 8 * (ws.length + 1) → ((s.nsp n).frags = [] ∨ (s.nsp n).fragSeq ≠ BitVec.ofNat 16 (fld h 31 16)) →
       s.hub.stage ≠ .restarting → ∃ u, exec (.nspJcsRequest n h (w :: ws)) s = .next u ∧
         u.hub.accepted = s.hub.accepted ++ [(s.wall, ⟨64 + n, w, ws⟩)] ∧
         (u.nsp n).pendingReq = true ∧ (u.nsp n).nseq = BitVec.ofNat 16 (fld h 31 16)) ∧
     (s.nspOpen n = true → fld h 7 0 = 1 → fld h 11 8 = 0 → bit h 12 = true → (s.nsp n).pendingReq = false → ws.length = 161 →
       fld h 63 32 = 1288 → ((s.nsp n).frags = [] ∨ (s.nsp n).fragSeq ≠ BitVec.ofNat 16 (fld h 31 16)) →
         ∃ u, exec (.nspJcsRequest n h ws) s = .next u ∧ (u.nsp n).frags = [ws] ∧ (u.nsp n).pendingReq = false ∧
         u.hub = s.hub) ∧
     (s.nspOpen n = true → fld h 7 0 = 1 → (s.nsp n).pendingReq = true →
       exec (.nspJcsRequest n h ws) s = .next (s.modNsp n fun x => { x with lastAt := s.uptime })) ∧
     ((s.nsp n).pendingReq = false → (s.nsp n).fragAt + 1000000000 < s.uptime →
       exec (.nspReassemblyTimeout n) s = .next (s.modNsp n fun x => { x with frags := [] })) ∧
     (s.uptime ≤ (s.nsp n).fragAt + 1000000000 → exec (.nspReassemblyTimeout n) s = .next s) ∧
     (s.uptime < (s.nsp n).lastAt + 30000000000 → exec (.nspSessionTimeout n) s = .next s) ∧
     (s.nspOpen n = true → bytes ≠ [] → bytes.length ≤ 1024 → ∃ u, exec (.nspData n offset bytes) s = .next u ∧
       (u.nsp n).staging = memWrite (s.nsp n).staging offset (bytes.take (stagingBytes - offset)) ∧ (u.nsp n).lastAt = s.uptime) ∧
     ((s.nsp n).isOpen = true → s.hub.cpFailed = false → n < 2 →
       ((s.nsp n).lastAt + 30000000000 ≤ s.uptime →
         ∃ u, exec (.nspSessionTimeout n) s = .next u ∧ u.nsp n = {} ∧ ∀ q ∈ u.hub.accepted, q.2.src ≠ 64 + n) ∧
       ∃ u, exec (.nspSessionClose n) s = .next u ∧ u.nsp n = {} ∧ ∀ q ∈ u.hub.accepted, q.2.src ≠ 64 + n)) ∧
  (∀ (s s1 : State) (n die addr : Nat) (q : BitVec 16) (v : Word) (l : List Byte), s.nspOpen n = true →
     s1 = s.modNsp n (fun x => { x with lastAt := s.uptime }) →
     (2 < die → exec (.nspRegisterRead n q die addr) s = .next (nspRegister s1 n q 4 0)) ∧
     (die ≤ 2 → exec (.nspRegisterRead n q die addr) s = .next (nspRegister s1 n q 0 (registerWord s die addr)).drawn) ∧
     (die ≠ 0 ∨ Config.registerIndex 0 addr ≠ 0 → exec (.nspRegisterWrite n q die addr v) s = .next (nspRegister s1 n q 4 0)) ∧
     (∀ m, Config.registerIndex 0 addr = 0 → s.clocks.obsOwner = some m → m ≠ n →
       exec (.nspRegisterWrite n q 0 addr v) s = .next (nspRegister s1 n q 2 s.clocks.obs)) ∧
     (Config.registerIndex 0 addr = 0 → s.clocks.obsOwner = none ∨ s.clocks.obsOwner = some n →
       ∃ u, exec (.nspRegisterWrite n q 0 addr v) s = .next u ∧ u.clocks.obs = obsAfter s v ∧
         u.clocks.obsOwner = (if bit (obsAfter s v) 16 then some n else none)) ∧
     (l.length = 48 → s.service.keys.anchors.length < 4 → s.service.keys.otpOff = false →
       ∃ u, exec (.anchor n l) s = .next u ∧ u.service.keys.anchors = s.service.keys.anchors ++ [l] ∧ u.nsp n = s1.nsp n) ∧
     (l.length ≠ 48 ∨ 4 ≤ s.service.keys.anchors.length ∨ s.service.keys.otpOff = true → exec (.anchor n l) s = .next s1))

/-- The test access port and the key store (R526 to R528): each available instruction is selected and its data register shifted
out; EXTEST, CLAMP, HIGHZ and SCAN_MODE act as BYPASS until DONE and OTP_OFF are both set, and so does every other code; KS_ZERO
sets both, holds the dies and the control processor, and ends every session. The model's choices it rests on: log entries 3, 23,
45. -/
def Obligations.TestAccess : Prop :=
  ∀ (s : State) (c code : BitVec 8) (i : Instr) (reg : BitVec 32),
    ((i = .idcode ∧ code = 0x01 ∧ reg = 1#32 ||| (Config.jedecId.setWidth 32 <<< 1) ||| (0x6401#32 <<< 12)) ∨
      (i = .samplePreload ∧ code = 0x02 ∧ reg = 0) ∨
      (i = .ksStatus ∧ code = 0x21 ∧
        reg = (putB s.service.keys.done 0 ||| putB s.service.keys.otpOff 1).setWidth 32) ∨
      ((i = .extest ∧ code = 0x06 ∨ i = .clamp ∧ code = 0x07 ∨ i = .highz ∧ code = 0x08 ∨ i = .scanMode ∧ code = 0x30) ∧ reg = 0 ∧
        s.service.keys.done = true ∧ s.service.keys.otpOff = true) ∨
      ((i = .extest ∨ i = .clamp ∨ i = .highz ∨ i = .scanMode) ∧ code = 0xFF ∧ reg = 0 ∧
        (s.service.keys.done = false ∨ s.service.keys.otpOff = false)) ∨
      (i = .bypass c ∧ code = 0xFF ∧ reg = 0 ∧ c ∉ tapCodes s) →
      exec i s = .next ((s.modService fun v => { v with keys := { v.keys with tap := code } }).emit (.tap code reg))) ∧
    (∃ u, exec .ksZero s = .next u ∧ u.service.keys.done = true ∧ u.service.keys.otpOff = true ∧ u.service.keys.held = true ∧
      u.service.keys.anchors = s.service.keys.anchors ∧ u.hub.cpFailed = true ∧ u.hub.accepted = [] ∧ u.dies.a.running = false ∧
      u.dies.b.running = false ∧ (u.nsp 0).isOpen = false ∧ (u.nsp 1).isOpen = false ∧ ∀ l, l < 4 → (u.link l).state = .down)

/-! ### The whole machine -/

/-- Package reset (R28, R30, R79, R97, R108, R355, R379, R383): STAGE 0 of an unknown mode, nothing queued, every buffer, table
bank and record zero, no ring configured, every layer disabled with EN 0 and REPEAT 4, the counter at 0 with the increment of 10
ns, every segment down and untrained; and what the invariant asks holds of it. Which values the spec does not state are the
model's (log entry 3 and the rows of the reset values). The model's choices it rests on: log entry 17. -/
def Obligations.ResetState : Prop :=
  Machine.Inv State.reset ∧ State.reset.pending = [] ∧ State.reset.hub.stage = .reset ∧ State.reset.hub.halt = 0 ∧
  State.reset.hub.mode = .unknown ∧ State.reset.time.counter = 0 ∧ State.reset.time.inc = 0x280000000#40 ∧
  (∀ g, (State.reset.ring g).state = .unconfigured) ∧
  (∀ l, (State.reset.layer l).state = .disabled ∧ (State.reset.layer l).staged.w0 = 0x0000000400000000#64) ∧
  (∀ c, (State.reset.canvas c).running = false) ∧
  (∀ t, (State.reset.corr t).sideA = {} ∧ (State.reset.corr t).sideB = {} ∧ (State.reset.corr t).state = .clean) ∧
  (∀ x, (State.reset.table x).bank0 = [] ∧ (State.reset.table x).bank1 = []) ∧
  State.reset.frames.memA = [] ∧ State.reset.frames.memB = [] ∧
  (∀ p, (State.reset.port p).rx = .down) ∧ (∀ w, State.reset.func w = {}) ∧ (∀ t, (State.reset.tile t).assigned = false)

/-- No command ends a run: in every state every command of the table has a next state (the spec stops none). -/
def Obligations.EveryCommandCompletes : Prop :=
  ∀ (i : Instr) (s : State), ∃ t, exec i s = .next t

/-- A command leaves the queue of waiting commands, and a step takes exactly its front. -/
def Obligations.QueueKept : Prop :=
  ∀ (s t : State), (∀ i, exec i s = .next t → t.pending = s.pending) ∧ (step s = .next t → t.pending = s.pending.drop 1)

/-- The frame of every command: every part of the state that `touches` does not name for it is unchanged, and so is the queue. -/
def Obligations.FrameOfEveryCommand : Prop :=
  ∀ (i : Instr) (s t : State), exec i s = .next t → Same (touches i) s t

/-- What every step keeps (R42, R506): both dies' buffers in canonical form, at most four owner anchors, each of 48 bytes. -/
def Obligations.InvariantKept : Prop :=
  ∀ s t : State, Machine.Inv s → step s = .next t → Machine.Inv t

/-- The one-way stores (R506, R514): a step removes or changes no owner anchor and adds one only by ANCHOR; the security fuse
never falls, and only FW_CONFIRM raises it. -/
def Obligations.SecurityKept : Prop :=
  ∀ (i : Instr) (s t : State),
    (step s = .next t → s.service.keys.anchors <+: t.service.keys.anchors ∧ s.firmware.svnFuse ≤ t.firmware.svnFuse) ∧
    (exec i s = .next t → (∀ n d, i ≠ .anchor n d) → t.service.keys.anchors = s.service.keys.anchors) ∧
    (exec i s = .next t → (∀ r ok, i ≠ .fwConfirm r ok) → t.firmware.svnFuse = s.firmware.svnFuse)
end

