-- ==== Sys2Proof/Laws/Bits.lean ====
section
/-! SUPPORT. Words made of fields. -/

namespace Sys2Proof.Machine

/-- A register shifted into place is its value put into its bits. -/
theorem setWidth_shiftLeft {n : Nat} (x : BitVec n) (lo : Nat) (h : n ≤ 64) :
    x.setWidth 64 <<< lo = put x.toNat n lo := by
  apply BitVec.eq_of_toNat_eq
  have h1 : x.toNat < 2 ^ 64 := Nat.lt_of_lt_of_le x.isLt (Nat.pow_le_pow_right (by omega) h)
  simp only [put, BitVec.toNat_shiftLeft, BitVec.toNat_setWidth, BitVec.toNat_ofNat, Nat.mod_eq_of_lt h1, Nat.mod_eq_of_lt x.isLt]

/-- A register in the low bits of a word. -/
theorem setWidth_eq_put {n : Nat} (x : BitVec n) (h : n ≤ 64) : x.setWidth 64 = put x.toNat n 0 := by
  rw [← setWidth_shiftLeft x 0 h, BitVec.shiftLeft_zero]

end Sys2Proof.Machine
end

