-- ==== Sys2Proof/Laws/Tbl.lean ====
section
/-! SUPPORT. Laws of the sparse tables: reading after writing, and that every operation on a table and on device memory keeps the
canonical form. -/

namespace Sys2Proof.Tbl

variable {α : Type} [DecidableEq α]

omit [DecidableEq α] in
theorem get_erase (d : α) (t : Tbl α) (k j : Nat) : get d (erase t k) j = if j = k then d else get d t j := by
  induction t with
  | nil => simp [get, erase]
  | cons x t ih =>
    obtain ⟨i, v⟩ := x
    by_cases h : k = i
    · subst h
      rw [erase, if_pos rfl, ih, get]
      by_cases h2 : j = k <;> simp [h2]
    · by_cases h2 : j = i
      · subst h2
        have h3 : ¬ j = k := fun e => h e.symm
        simp [erase, get, h, h3]
      · simp [erase, get, h, h2, ih]

omit [DecidableEq α] in
theorem get_insert (d : α) (t : Tbl α) (k : Nat) (v : α) (j : Nat) (h : get d t k = d ∨ j ≠ k) (hk : ∀ x ∈ t, x.1 ≠ k) :
    get d (insert t k v) j = if j = k then v else get d t j := by
  induction t with
  | nil => simp [get, insert]
  | cons x t ih =>
    obtain ⟨i, w⟩ := x
    have hi : i ≠ k := hk (i, w) (by simp)
    have ht : ∀ x ∈ t, x.1 ≠ k := fun x hx => hk x (by simp [hx])
    have hg : get d t k = d ∨ j ≠ k := by
      rcases h with h | h
      · left; simpa [get, Ne.symm hi] using h
      · right; exact h
    by_cases h1 : k < i
    · simp [insert, h1, get]
    · by_cases h2 : j = i
      · subst h2; simp [insert, h1, get, hi]
      · simp [insert, h1, get, h2, ih hg ht]

omit [DecidableEq α] in
theorem not_mem_erase (t : Tbl α) (k : Nat) : ∀ x ∈ erase t k, x.1 ≠ k := by
  induction t with
  | nil => simp [erase]
  | cons x t ih =>
    obtain ⟨i, v⟩ := x
    by_cases h : k = i
    · simpa [erase, h] using fun a b hx => h ▸ ih (a, b) (by simpa [h] using hx)
    · intro y hy
      simp only [erase, if_neg h, List.mem_cons] at hy
      rcases hy with rfl | hy
      · exact fun e => h e.symm
      · exact ih y hy

/-- Reading a key after a write. -/
theorem get_set (d : α) (t : Tbl α) (k : Nat) (v : α) (j : Nat) : get d (set d t k v) j = if j = k then v else get d t j := by
  by_cases hv : v = d
  · subst hv; simp only [set, if_pos, get_erase]
  · rw [set, if_neg hv, get_insert d _ k v j (by left; simp [get_erase]) (not_mem_erase t k), get_erase]
    by_cases h : j = k <;> simp [h]

@[simp] theorem get_set_self (d : α) (t : Tbl α) (k : Nat) (v : α) : get d (set d t k v) k = v := by simp [get_set]
theorem get_set_ne (d : α) (t : Tbl α) {k j : Nat} (v : α) (h : j ≠ k) : get d (set d t k v) j = get d t j := by simp [get_set, h]
/-- Reading a key after a change at a key. -/
theorem get_modify (d : α) (t : Tbl α) (k : Nat) (f : α → α) (j : Nat) :
    get d (modify d t k f) j = if j = k then f (get d t k) else get d t j := get_set d t k _ j
@[simp] theorem get_modify_self (d : α) (t : Tbl α) (k : Nat) (f : α → α) : get d (modify d t k f) k = f (get d t k) := by
  simp [modify]
theorem get_modify_ne (d : α) (t : Tbl α) {k j : Nat} (f : α → α) (h : j ≠ k) : get d (modify d t k f) j = get d t j := by
  simp [modify, get_set, h]

omit [DecidableEq α] in
theorem above_of_lt {k j : Nat} (t : Tbl α) (h : above j t = true) (hk : k ≤ j) : above k t = true := by
  induction t with
  | nil => rfl
  | cons x t ih =>
    obtain ⟨i, v⟩ := x
    simp only [above, Bool.and_eq_true, decide_eq_true_eq] at h ⊢
    exact ⟨by omega, ih h.2⟩

omit [DecidableEq α] in
theorem above_erase {j : Nat} (t : Tbl α) (k : Nat) (h : above j t = true) : above j (erase t k) = true := by
  induction t with
  | nil => rfl
  | cons x t ih =>
    obtain ⟨i, v⟩ := x
    simp only [above, Bool.and_eq_true, decide_eq_true_eq] at h
    by_cases e : k = i
    · rw [erase, if_pos e]; exact ih h.2
    · simp [erase, e, above, h.1, ih h.2]

theorem wf_erase (d : α) (t : Tbl α) (k : Nat) (h : wf d t = true) : wf d (erase t k) = true := by
  induction t with
  | nil => rfl
  | cons x t ih =>
    obtain ⟨i, v⟩ := x
    simp only [wf, Bool.and_eq_true, decide_eq_true_eq] at h
    by_cases e : k = i
    · rw [erase, if_pos e]; exact ih h.2
    · simp only [erase, if_neg e, wf, Bool.and_eq_true, decide_eq_true_eq]
      exact ⟨⟨above_erase t k h.1.1, h.1.2⟩, ih h.2⟩

omit [DecidableEq α] in
theorem above_insert {j : Nat} (t : Tbl α) (k : Nat) (v : α) (h : above j t = true) (hk : j < k) : above j (insert t k v) = true := by
  induction t with
  | nil => simp [insert, above, hk]
  | cons x t ih =>
    obtain ⟨i, w⟩ := x
    simp only [above, Bool.and_eq_true, decide_eq_true_eq] at h
    by_cases e : k < i
    · simp [insert, e, above, h.1, h.2, hk]
    · simp [insert, e, above, h.1, ih h.2]

theorem wf_insert (d : α) (t : Tbl α) (k : Nat) (v : α) (h : wf d t = true) (hk : ∀ x ∈ t, x.1 ≠ k) (hv : v ≠ d) :
    wf d (insert t k v) = true := by
  induction t with
  | nil => simp [insert, wf, above, hv]
  | cons x t ih =>
    obtain ⟨i, w⟩ := x
    simp only [wf, Bool.and_eq_true, decide_eq_true_eq] at h
    have hi : i ≠ k := hk (i, w) (by simp)
    by_cases e : k < i
    · simp [insert, e, wf, above, h.1.1, h.1.2, h.2, hv, above_of_lt t h.1.1 (Nat.le_of_lt e)]
    · have := ih h.2 fun x hx => hk x (by simp [hx])
      simp [insert, e, wf, this, h.1.2, above_insert t k v h.1.1 (by omega)]

/-- A write keeps the canonical form. -/
theorem wf_set (d : α) (t : Tbl α) (k : Nat) (v : α) (h : wf d t = true) : wf d (set d t k v) = true := by
  by_cases hv : v = d
  · simp [set, hv, wf_erase d t k h]
  · simp [set, hv, wf_insert d _ k v (wf_erase d t k h) (not_mem_erase t k) hv]

theorem wf_modify (d : α) (t : Tbl α) (k : Nat) (f : α → α) (h : wf d t = true) : wf d (modify d t k f) = true :=
  wf_set d t k _ h

omit [DecidableEq α] in
/-- Dropping entries keeps what lies above a key. -/
theorem above_filter {j : Nat} (p : Nat × α → Bool) (t : Tbl α) (h : above j t = true) : above j (t.filter p) = true := by
  induction t with
  | nil => rfl
  | cons x t ih =>
    obtain ⟨i, w⟩ := x
    rw [above, Bool.and_eq_true] at h
    rw [List.filter_cons]
    split
    · rw [above, Bool.and_eq_true]; exact ⟨h.1, ih h.2⟩
    · exact ih h.2

/-- Dropping entries keeps the canonical form. -/
theorem wf_filter (d : α) (p : Nat × α → Bool) (t : Tbl α) (h : wf d t = true) : wf d (t.filter p) = true := by
  induction t with
  | nil => rfl
  | cons x t ih =>
    obtain ⟨i, w⟩ := x
    rw [wf, Bool.and_eq_true, Bool.and_eq_true] at h
    rw [List.filter_cons]
    split
    · rw [wf, Bool.and_eq_true, Bool.and_eq_true]; exact ⟨⟨above_filter p t h.1.1, h.1.2⟩, ih h.2⟩
    · exact ih h.2

/-- The empty table is in canonical form. -/
theorem wf_nil (d : α) : wf d ([] : Tbl α) = true := rfl

end Sys2Proof.Tbl

namespace Sys2Proof.Machine

/-- A write of bytes keeps the canonical form of a memory. -/
theorem memWrite_wf (m : Tbl Byte) (addr : Nat) (l : List Byte) (h : Tbl.wf 0 m = true) : Tbl.wf 0 (memWrite m addr l) = true := by
  induction l generalizing m addr with
  | nil => exact h
  | cons b t ih => exact ih _ _ (Tbl.wf_set 0 m addr b h)

/-- A byte outside the written run reads as before. -/
theorem memWrite_get_ne (m : Tbl Byte) (addr : Nat) (l : List Byte) (a : Nat) (h : a < addr ∨ addr + l.length ≤ a) :
    Tbl.get 0 (memWrite m addr l) a = Tbl.get 0 m a := by
  induction l generalizing m addr with
  | nil => rfl
  | cons b t ih =>
    simp only [List.length_cons] at h
    rw [memWrite, ih _ _ (by omega), Tbl.get_set_ne _ _ _ (by omega)]

/-- A byte of the written run reads as written. -/
theorem memWrite_get (m : Tbl Byte) (addr : Nat) (l : List Byte) (i : Nat) (h : i < l.length) :
    Tbl.get 0 (memWrite m addr l) (addr + i) = l[i] := by
  induction l generalizing m addr i with
  | nil => simp at h
  | cons b t ih =>
    cases i with
    | zero => rw [memWrite, memWrite_get_ne _ _ _ _ (by omega)]; simp
    | succ i =>
      have := ih (Tbl.set 0 m addr b) (addr + 1) i (by simpa using h)
      simpa [memWrite, Nat.add_assoc, Nat.add_comm 1 i] using this

end Sys2Proof.Machine
end

