-- ==== Sys2Proof/Laws/Does.lean ====
section
/-! SUPPORT. What an operation can change: the parts of the state it leaves, the owner anchors, the security fuse, and the
canonical form of the buffers; how such facts compose. -/

namespace Sys2Proof.Machine

/-- From `s` to `t` only the parts in `l` change, no anchor and no fuse among them, and the buffers stay canonical. -/
structure Does (l : List Part) (s t : State) : Prop where
  same    : Same l s t
  anchors : t.service.keys.anchors = s.service.keys.anchors
  fuse    : t.firmware.svnFuse = s.firmware.svnFuse
  bufsA   : bufsWf s.frames.memA = true → bufsWf s.frames.memB = true → bufsWf t.frames.memA = true
  bufsB   : bufsWf s.frames.memA = true → bufsWf s.frames.memB = true → bufsWf t.frames.memB = true

theorem Same.refl (l : List Part) (s : State) : Same l s s := by constructor <;> simp

theorem Same.trans {l : List Part} {s t u : State} (a : Same l s t) (b : Same l t u) : Same l s u where
  pending := b.pending.trans a.pending
  hub h := (b.hub h).trans (a.hub h)
  plt h := (b.plt h).trans (a.plt h)
  queues h := (b.queues h).trans (a.queues h)
  frames h := (b.frames h).trans (a.frames h)
  links h := (b.links h).trans (a.links h)
  dies h := (b.dies h).trans (a.dies h)
  time h := (b.time h).trans (a.time h)
  media h := (b.media h).trans (a.media h)
  clocks h := (b.clocks h).trans (a.clocks h)
  therm h := by rw [(b.therm h).1, (b.therm h).2.1, (b.therm h).2.2]; exact a.therm h
  budget h := (b.budget h).trans (a.budget h)
  firmware h := (b.firmware h).trans (a.firmware h)
  service h := (b.service h).trans (a.service h)
  out h := (b.out h).trans (a.out h)
  free h := (b.free h).trans (a.free h)

theorem Same.mono {l l' : List Part} {s t : State} (a : Same l s t) (h : (l.all fun p => l'.contains p) = true) : Same l' s t := by
  have h' : ∀ p, p ∉ l' → p ∉ l := fun p hp hl => hp (by simpa using List.all_eq_true.mp h p hl)
  exact ⟨a.pending, fun q => a.hub (h' _ q), fun q => a.plt (h' _ q), fun q => a.queues (h' _ q), fun q => a.frames (h' _ q),
    fun q => a.links (h' _ q), fun q => a.dies (h' _ q), fun q => a.time (h' _ q), fun q => a.media (h' _ q),
    fun q => a.clocks (h' _ q), fun q => a.therm (h' _ q), fun q => a.budget (h' _ q), fun q => a.firmware (h' _ q),
    fun q => a.service (h' _ q), fun q => a.out (h' _ q), fun q => a.free (h' _ q)⟩

theorem Does.refl (l : List Part) (s : State) : Does l s s := ⟨Same.refl l s, rfl, rfl, fun a _ => a, fun _ b => b⟩

theorem Does.trans {l : List Part} {s t u : State} (a : Does l s t) (b : Does l t u) : Does l s u :=
  ⟨a.same.trans b.same, b.anchors.trans a.anchors, b.fuse.trans a.fuse, fun x y => b.bufsA (a.bufsA x y) (a.bufsB x y),
    fun x y => b.bufsB (a.bufsA x y) (a.bufsB x y)⟩

theorem Does.mono {l l' : List Part} {s t : State} (a : Does l s t) (h : (l.all fun p => l'.contains p) = true) : Does l' s t :=
  ⟨a.same.mono h, a.anchors, a.fuse, a.bufsA, a.bufsB⟩

/-- After `t`, an operation on it that does no more. -/
theorem Does.next {l l' : List Part} {s t u : State} (b : Does l t u) (h : (l.all fun p => l'.contains p) = true) (a : Does l' s t) :
    Does l' s u := a.trans (b.mono h)

theorem foldl_does {α : Type} {l : List Part} {f : State → α → State} (hf : ∀ s x, Does l s (f s x)) (xs : List α) (s : State) :
    Does l s (xs.foldl f s) := by
  induction xs generalizing s with
  | nil => exact Does.refl l s
  | cons x xs ih => exact (hf s x).trans (ih (f s x))

theorem each_does {α : Type} {l : List Part} {f : State → α → State} (hf : ∀ s x, Does l s (f s x)) (s : State) (xs : List α) :
    Does l s (s.each xs f) := foldl_does hf xs s

/-- Going on through a list of elements after `t`. -/
theorem Does.each {α : Type} {l : List Part} {s t : State} {f : State → α → State} {xs : List α} (hf : ∀ s x, Does l s (f s x))
    (a : Does l s t) : Does l s (t.each xs f) := a.trans (each_does hf t xs)

/-- Going on through a fold after `t`. -/
theorem Does.foldl {α : Type} {l : List Part} {s t : State} {f : State → α → State} {xs : List α} (hf : ∀ s x, Does l s (f s x))
    (a : Does l s t) : Does l s (xs.foldl f t) := a.trans (foldl_does hf xs t)

/-- Going on through a fold that keeps more than the state. -/
theorem Does.foldlFst {α β : Type} {l : List Part} {s : State} {f : State × β → α → State × β} {xs : List α} {a : State × β}
    (hf : ∀ a x, Does l a.1 (f a x).1) (h : Does l s a.1) : Does l s (xs.foldl f a).1 := by
  induction xs generalizing a with
  | nil => exact h
  | cons x xs ih => exact ih (h.trans (hf a x))

theorem State.modHub_does (s : State) (f : Hub → Hub) : Does [.hub] s (s.modHub f) := by
  refine ⟨?_, rfl, rfl, fun a _ => a, fun _ b => b⟩; constructor <;> simp [State.modHub]
theorem State.modPlt_does (s : State) (f : PltState → PltState) : Does [.plt] s (s.modPlt f) := by
  refine ⟨?_, rfl, rfl, fun a _ => a, fun _ b => b⟩; constructor <;> simp [State.modPlt]
theorem State.modQueues_does (s : State) (f : Queues → Queues) : Does [.queues] s (s.modQueues f) := by
  refine ⟨?_, rfl, rfl, fun a _ => a, fun _ b => b⟩; constructor <;> simp [State.modQueues]
theorem State.modLinks_does (s : State) (f : Links → Links) : Does [.links] s (s.modLinks f) := by
  refine ⟨?_, rfl, rfl, fun a _ => a, fun _ b => b⟩; constructor <;> simp [State.modLinks]
theorem State.modDies_does (s : State) (f : Dies → Dies) : Does [.dies] s (s.modDies f) := by
  refine ⟨?_, rfl, rfl, fun a _ => a, fun _ b => b⟩; constructor <;> simp [State.modDies]
theorem State.modTime_does (s : State) (f : Time → Time) : Does [.time] s (s.modTime f) := by
  refine ⟨?_, rfl, rfl, fun a _ => a, fun _ b => b⟩; constructor <;> simp [State.modTime]
theorem State.modMedia_does (s : State) (f : Media → Media) : Does [.media] s (s.modMedia f) := by
  refine ⟨?_, rfl, rfl, fun a _ => a, fun _ b => b⟩; constructor <;> simp [State.modMedia]
theorem State.modClocks_does (s : State) (f : Clocks → Clocks) : Does [.clocks] s (s.modClocks f) := by
  refine ⟨?_, rfl, rfl, fun a _ => a, fun _ b => b⟩; constructor <;> simp [State.modClocks]
theorem State.modTherm_does (s : State) (d : Die3) (f : Therm → Therm) : Does [.therm] s (s.modTherm d f) := by
  cases d <;> (refine ⟨?_, rfl, rfl, fun a _ => a, fun _ b => b⟩; constructor <;> simp [State.modTherm])
theorem State.modBudget_does (s : State) (f : Budget → Budget) : Does [.budget] s (s.modBudget f) := by
  refine ⟨?_, rfl, rfl, fun a _ => a, fun _ b => b⟩; constructor <;> simp [State.modBudget]
theorem State.emit_does (s : State) (o : Out) : Does [.out] s (s.emit o) := by
  refine ⟨?_, rfl, rfl, fun a _ => a, fun _ b => b⟩; constructor <;> simp [State.emit]
theorem State.drawn_does (s : State) : Does [.free] s s.drawn := by
  refine ⟨?_, rfl, rfl, fun a _ => a, fun _ b => b⟩; constructor <;> simp [State.drawn]

/-- Changes of the frames part that leave the buffers. -/
theorem State.modFrames_does (s : State) (f : Frames → Frames) (hf : ∀ x, (f x).memA = x.memA ∧ (f x).memB = x.memB) :
    Does [.frames] s (s.modFrames f) := by
  refine ⟨?_, rfl, rfl, fun a _ => ?_, fun _ b => ?_⟩
  · constructor <;> simp [State.modFrames]
  · simpa [State.modFrames, hf] using a
  · simpa [State.modFrames, hf] using b
/-- Changes of the frames part that keep the buffers canonical. -/
theorem State.modFrames_bufs (s : State) (f : Frames → Frames)
    (hf : ∀ x, bufsWf x.memA = true → bufsWf x.memB = true → bufsWf (f x).memA = true ∧ bufsWf (f x).memB = true) :
    Does [.frames] s (s.modFrames f) := by
  refine ⟨?_, rfl, rfl, fun a b => (hf _ a b).1, fun a b => (hf _ a b).2⟩
  constructor <;> simp [State.modFrames]
/-- Changes of the service part that leave the anchors. -/
theorem State.modService_does (s : State) (f : Service → Service) (hf : ∀ x, (f x).keys.anchors = x.keys.anchors) :
    Does [.service] s (s.modService f) := by
  refine ⟨?_, hf _, rfl, fun a _ => a, fun _ b => b⟩; constructor <;> simp [State.modService]
/-- Changes of the firmware part that leave the fuse. -/
theorem State.modFirmware_does (s : State) (f : Firmware → Firmware) (hf : ∀ x, (f x).svnFuse = x.svnFuse) :
    Does [.firmware] s (s.modFirmware f) := by
  refine ⟨?_, rfl, hf _, fun a _ => a, fun _ b => b⟩; constructor <;> simp [State.modFirmware]

/-- A header write leaves the fuse. -/
theorem setSlot_fuse (f : Firmware) (b : Bool) (x : SlotState) : (f.setSlot b x).svnFuse = f.svnFuse := by
  unfold Firmware.setSlot Firmware.header
  dsimp only
  repeat' split
  all_goals rfl

/-- What every entry of a table satisfies survives writing an entry that satisfies it. -/
theorem all_set {α : Type} [DecidableEq α] (p : α → Bool) (d : α) (m : Tbl α) (k : Nat) (v : α) (h : (m.all fun x => p x.2) = true)
    (hv : p v = true) : ((Tbl.set d m k v).all fun x => p x.2) = true := by
  have he : ((Tbl.erase m k).all fun x => p x.2) = true := by
    induction m with
    | nil => rfl
    | cons x t ih =>
      obtain ⟨i, w⟩ := x
      rw [List.all_cons, Bool.and_eq_true] at h
      by_cases e : k = i
      · rw [Tbl.erase, if_pos e]; exact ih h.2
      · rw [Tbl.erase, if_neg e, List.all_cons, Bool.and_eq_true]; exact ⟨h.1, ih h.2⟩
  have hi : ∀ t : Tbl α, (t.all fun x => p x.2) = true → ((Tbl.insert t k v).all fun x => p x.2) = true := by
    intro t ht
    induction t with
    | nil => simp [Tbl.insert, hv]
    | cons x t ih =>
      obtain ⟨i, w⟩ := x
      rw [List.all_cons, Bool.and_eq_true] at ht
      by_cases e : k < i
      · rw [Tbl.insert, if_pos e]; simp only [List.all_cons, Bool.and_eq_true]; exact ⟨hv, ht⟩
      · rw [Tbl.insert, if_neg e, List.all_cons, Bool.and_eq_true]; exact ⟨ht.1, ih ht.2⟩
  unfold Tbl.set
  split
  · exact he
  · exact hi _ he

/-- The value a table gives for a key satisfies what its entries and the default do. -/
theorem all_get {α : Type} (p : α → Bool) (d : α) (m : Tbl α) (k : Nat) (h : (m.all fun x => p x.2) = true) (hd : p d = true) :
    p (Tbl.get d m k) = true := by
  induction m with
  | nil => exact hd
  | cons x t ih =>
    obtain ⟨i, w⟩ := x
    rw [List.all_cons, Bool.and_eq_true] at h
    rw [Tbl.get]
    split
    · exact h.1
    · exact ih h.2

/-- Writing one buffer with a canonical memory keeps the buffers canonical. -/
theorem bufsWf_set {m : Tbl (Tbl Byte)} (k : Nat) (v : Tbl Byte) (h : bufsWf m = true) (hv : Tbl.wf 0 v = true) :
    bufsWf (Tbl.set [] m k v) = true := by
  rw [bufsWf, Bool.and_eq_true] at h ⊢
  exact ⟨Tbl.wf_set _ _ _ _ h.1, all_set _ _ _ _ _ h.2 hv⟩

/-- Changing one buffer keeps the buffers canonical. -/
theorem bufsWf_modify {m : Tbl (Tbl Byte)} (k : Nat) (f : Tbl Byte → Tbl Byte) (h : bufsWf m = true)
    (hf : ∀ x, Tbl.wf 0 x = true → Tbl.wf 0 (f x) = true) : bufsWf (Tbl.modify [] m k f) = true := by
  rw [bufsWf, Bool.and_eq_true] at h
  exact bufsWf_set k _ (by rw [bufsWf, Bool.and_eq_true]; exact h) (hf _ (all_get _ _ _ _ h.2 rfl))

/-- Dropping whole buffers keeps the others canonical. -/
theorem bufsWf_filter {m : Tbl (Tbl Byte)} (p : Nat × Tbl Byte → Bool) (h : bufsWf m = true) : bufsWf (m.filter p) = true := by
  rw [bufsWf, Bool.and_eq_true] at h ⊢
  refine ⟨Tbl.wf_filter _ p m h.1, ?_⟩
  simp only [List.all_eq_true] at h ⊢
  exact fun x hx => h.2 x (List.mem_filter.mp hx).1

end Sys2Proof.Machine
end

