-- ==== Sys2Proof/Laws/DoesCore.lean ====
section
/-! SUPPORT. What each operation can change, one lemma an operation: the registers, queues, mailboxes and the partition table. -/

set_option maxRecDepth 4000
set_option linter.unreachableTactic false
set_option linter.unusedTactic false

namespace Sys2Proof.Machine

theorem State.modFunc_does (s : State) (f : ℕ) (g : Func → Func) : Does [.hub] s (State.modFunc s f g) := by
  unfold State.modFunc
  repeat' first
    | with_reducible apply Does.refl | with_reducible apply Does.next (State.modHub_does _ _) | exact rfl | dsimp only

theorem State.modLink_does (s : State) (l : ℕ) (g : HostLink → HostLink) : Does [.hub] s (State.modLink s l g) := by
  unfold State.modLink
  repeat' first
    | with_reducible apply Does.refl | with_reducible apply Does.next (State.modHub_does _ _) | exact rfl | dsimp only

theorem State.modRing_does (s : State) (r : ℕ) (g : Ring → Ring) : Does [.queues] s (State.modRing s r g) := by
  unfold State.modRing
  repeat' first
    | with_reducible apply Does.refl | with_reducible apply Does.next (State.modQueues_does _ _) | exact rfl | dsimp only

theorem State.modEvent_does (s : State) (e : ℕ) (g : EvSrc → EvSrc) : Does [.queues] s (State.modEvent s e g) := by
  unfold State.modEvent
  repeat' first
    | with_reducible apply Does.refl | with_reducible apply Does.next (State.modQueues_does _ _) | exact rfl | dsimp only

theorem State.modSlot_does (s : State) (k : ℕ) (g : Slot → Slot) : Does [.frames] s (State.modSlot s k g) := by
  unfold State.modSlot
  repeat' first
    | with_reducible apply Does.refl | with_reducible apply Does.next (State.modFrames_does _ _ ?_) | exact rfl
    | exact fun _ => ⟨rfl, rfl⟩ | dsimp only

theorem State.modCanvas_does (s : State) (c : ℕ) (g : Canvas → Canvas) : Does [.frames] s (State.modCanvas s c g) := by
  unfold State.modCanvas
  repeat' first
    | with_reducible apply Does.refl | with_reducible apply Does.next (State.modFrames_does _ _ ?_) | exact rfl
    | exact fun _ => ⟨rfl, rfl⟩ | dsimp only

theorem State.modLayer_does (s : State) (l : ℕ) (g : Layer → Layer) : Does [.frames] s (State.modLayer s l g) := by
  unfold State.modLayer
  repeat' first
    | with_reducible apply Does.refl | with_reducible apply Does.next (State.modFrames_does _ _ ?_) | exact rfl
    | exact fun _ => ⟨rfl, rfl⟩ | dsimp only

theorem State.modCorr_does (s : State) (t : ℕ) (g : Corr → Corr) : Does [.frames] s (State.modCorr s t g) := by
  unfold State.modCorr
  repeat' first
    | with_reducible apply Does.refl | with_reducible apply Does.next (State.modFrames_does _ _ ?_) | exact rfl
    | exact fun _ => ⟨rfl, rfl⟩ | dsimp only

theorem State.modSafe_does (s : State) (t : ℕ) (g : SafeTile → SafeTile) : Does [.frames] s (State.modSafe s t g) := by
  unfold State.modSafe
  repeat' first
    | with_reducible apply Does.refl | with_reducible apply Does.next (State.modFrames_does _ _ ?_) | exact rfl
    | exact fun _ => ⟨rfl, rfl⟩ | dsimp only

theorem State.modZone_does (s : State) (z : ℕ) (g : Zone → Zone) : Does [.frames] s (State.modZone s z g) := by
  unfold State.modZone
  repeat' first
    | with_reducible apply Does.refl | with_reducible apply Does.next (State.modFrames_does _ _ ?_) | exact rfl
    | exact fun _ => ⟨rfl, rfl⟩ | dsimp only

theorem State.modFlash_does (s : State) (c : ℕ) (g : Flash → Flash) : Does [.frames] s (State.modFlash s c g) := by
  unfold State.modFlash
  repeat' first
    | with_reducible apply Does.refl | with_reducible apply Does.next (State.modFrames_does _ _ ?_) | exact rfl
    | exact fun _ => ⟨rfl, rfl⟩ | dsimp only

theorem State.modScrim_does (s : State) (d : DieId) (r : ℕ) (g : Scrim → Scrim) : Does [.frames] s (State.modScrim s d r g) := by
  unfold State.modScrim
  repeat' first
    | with_reducible apply Does.refl | with_reducible apply Does.next (State.modFrames_does _ _ ?_) | exact rfl
    | exact fun _ => ⟨rfl, rfl⟩ | dsimp only

theorem State.modTable_does (s : State) (t : TableId) (f : LutBanks → LutBanks) : Does [.frames] s (State.modTable s t f) := by
  unfold State.modTable
  repeat' first
    | with_reducible apply Does.refl | with_reducible apply Does.next (State.modFrames_does _ _ ?_) | exact rfl
    | exact fun _ => ⟨rfl, rfl⟩ | split | dsimp only

theorem State.modPort_does (s : State) (p : ℕ) (g : Port → Port) : Does [.links] s (State.modPort s p g) := by
  unfold State.modPort
  repeat' first
    | with_reducible apply Does.refl | with_reducible apply Does.next (State.modLinks_does _ _) | exact rfl | dsimp only

theorem State.modTile_does (s : State) (t : ℕ) (g : Tile → Tile) : Does [.links] s (State.modTile s t g) := by
  unfold State.modTile
  repeat' first
    | with_reducible apply Does.refl | with_reducible apply Does.next (State.modLinks_does _ _) | exact rfl | dsimp only

theorem State.modHop_does (s : State) (p : ℕ) (pos : ℕ) (g : Hop → Hop) : Does [.links] s (State.modHop s p pos g) := by
  unfold State.modHop
  repeat' first
    | with_reducible apply Does.refl | with_reducible apply Does.next (State.modLinks_does _ _) | exact rfl | dsimp only

theorem State.modDie_does (s : State) (d : DieId) (g : Die → Die) : Does [.dies] s (State.modDie s d g) := by
  unfold State.modDie
  repeat' first
    | with_reducible apply Does.refl | with_reducible apply Does.next (State.modDies_does _ _) | exact rfl | split | dsimp only

theorem State.modTwin_does (s : State) (g : Twin → Twin) : Does [.dies] s (State.modTwin s g) := by
  unfold State.modTwin
  repeat' first
    | with_reducible apply Does.refl | with_reducible apply Does.next (State.modDies_does _ _) | exact rfl | dsimp only

theorem State.modCluster_does (s : State) (d : DieId) (c : ℕ) (g : Cluster → Cluster) : Does [.dies] s (State.modCluster s d c g) := by
  unfold State.modCluster
  repeat' first
    | with_reducible apply Does.refl | with_reducible apply Does.next (State.modDie_does _ _ _) | exact rfl | dsimp only

theorem State.modRegion_does (s : State) (d : DieId) (r : ℕ) (g : Region → Region) : Does [.dies] s (State.modRegion s d r g) := by
  unfold State.modRegion
  repeat' first
    | with_reducible apply Does.refl | with_reducible apply Does.next (State.modDie_does _ _ _) | exact rfl | dsimp only

theorem State.poisonRecord_does (s : State) (d : DieId) (t : ℕ) (line : ℕ) : Does [.frames] s (State.poisonRecord s d t line) := by
  unfold State.poisonRecord
  repeat' first
    | with_reducible apply Does.refl | with_reducible apply Does.next (State.modCorr_does _ _ _) | exact rfl | split | dsimp only

theorem State.modSap_does (s : State) (n : ℕ) (g : Sap → Sap) : Does [.media] s (State.modSap s n g) := by
  unfold State.modSap
  repeat' first
    | with_reducible apply Does.refl | with_reducible apply Does.next (State.modMedia_does _ _) | exact rfl | dsimp only

theorem State.modDec_does (s : State) (n : ℕ) (g : Dec → Dec) : Does [.media] s (State.modDec s n g) := by
  unfold State.modDec
  repeat' first
    | with_reducible apply Does.refl | with_reducible apply Does.next (State.modMedia_does _ _) | exact rfl | dsimp only

theorem State.modEnc_does (s : State) (n : ℕ) (g : EncSt → EncSt) : Does [.media] s (State.modEnc s n g) := by
  unfold State.modEnc
  repeat' first
    | with_reducible apply Does.refl | with_reducible apply Does.next (State.modMedia_does _ _) | exact rfl | dsimp only

theorem State.modChan_does (s : State) (d : Die3) (ch : ℕ) (g : Chan → Chan) : Does [.clocks] s (State.modChan s d ch g) := by
  unfold State.modChan
  repeat' first
    | with_reducible apply Does.refl | with_reducible apply Does.next (State.modClocks_does _ _) | exact rfl | dsimp only

theorem State.modOp_does (s : State) (d : DieId) (g : OpState → OpState) : Does [.clocks] s (State.modOp s d g) := by
  unfold State.modOp
  repeat' first
    | with_reducible apply Does.refl | with_reducible apply Does.next (State.modClocks_does _ _) | exact rfl | split | dsimp only

theorem State.modGate_does (s : State) (g : GateId) (f : Gate → Gate) : Does [.clocks] s (State.modGate s g f) := by
  unfold State.modGate
  repeat' first
    | with_reducible apply Does.refl | with_reducible apply Does.next (State.modClocks_does _ _) | exact rfl | dsimp only

theorem State.modCal_does (s : State) (i : CalItem) (f : CalSt → CalSt) : Does [.service] s (State.modCal s i f) := by
  unfold State.modCal
  repeat' first
    | with_reducible apply Does.refl | with_reducible apply Does.next (State.modService_does _ _ ?_) | exact rfl
    | exact fun _ => rfl | dsimp only

theorem State.modNsp_does (s : State) (n : ℕ) (f : Nsp → Nsp) : Does [.service] s (State.modNsp s n f) := by
  unfold State.modNsp
  repeat' first
    | with_reducible apply Does.refl | with_reducible apply Does.next (State.modService_does _ _ ?_) | exact rfl
    | exact fun _ => rfl | split | dsimp only

theorem State.setCopy_does (s : State) (d : DieId) (v : BitVec 96) : Does [.time] s (State.setCopy s d v) := by
  unfold State.setCopy
  repeat' first
    | with_reducible apply Does.refl | with_reducible apply Does.next (State.modTime_does _ _) | exact rfl | split | dsimp only

theorem signal_does (s : State) (f : ℕ) (v : ℕ) : Does [.hub, .out] s (signal s f v) := by
  unfold signal
  repeat' first
    | with_reducible apply Does.refl | with_reducible apply Does.next (State.emit_does _ _)
    | with_reducible apply Does.next (State.modFunc_does _ _ _) | exact rfl | split | dsimp only

theorem signalStage_does (s : State) : Does [.hub, .out] s (signalStage s) := by
  unfold signalStage
  repeat' first
    | with_reducible apply Does.refl | with_reducible apply Does.next (signal_does _ _ _) | with_reducible apply Does.each
    | exact rfl | intro _ _ | dsimp only

theorem setStage_does (s : State) (g : Stage) : Does [.hub, .out] s (setStage s g) := by
  unfold setStage
  repeat' first
    | with_reducible apply Does.refl | with_reducible apply Does.next (State.modHub_does _ _)
    | with_reducible apply Does.next (signalStage_does _) | exact rfl | split | dsimp only

theorem raise_does (s : State) (src : ℕ) (code : ℕ) (data : Word) (frame : optParam ℕ 0) (atQ : optParam (Option ℕ) none) : Does [.queues] s (raise s src code data frame atQ) := by
  unfold raise
  repeat' first
    | with_reducible apply Does.refl | with_reducible apply Does.next (State.modEvent_does _ _ _)
    | with_reducible apply Does.next (State.modQueues_does _ _) | exact rfl | split | dsimp only

theorem freeReleased_does (s : State) (release : Option (ℕ × ℕ)) : Does [.frames] s (freeReleased s release) := by
  unfold freeReleased
  repeat' first
    | with_reducible apply Does.refl | with_reducible apply Does.next (State.modSlot_does _ _ _) | exact rfl | split | dsimp only

theorem writeCompletion_does (s : State) (cr : ℕ) (h : Held) : Does [.queues, .frames, .out] s (writeCompletion s cr h) := by
  unfold writeCompletion
  repeat' first
    | with_reducible apply Does.refl | with_reducible apply Does.next (State.emit_does _ _)
    | with_reducible apply Does.next (State.modRing_does _ _ _) | with_reducible apply Does.next (freeReleased_does _ _)
    | exact rfl | dsimp only

theorem complete_does (s : State) (cr : ℕ) (gen : ℕ) (words : Desc) (release : optParam (Option (ℕ × ℕ)) none) : Does [.queues, .frames, .out] s (complete s cr gen words release) := by
  unfold complete
  repeat' first
    | with_reducible apply Does.refl | with_reducible apply Does.next (State.modRing_does _ _ _)
    | with_reducible apply Does.next (freeReleased_does _ _) | with_reducible apply Does.next (writeCompletion_does _ _ _)
    | exact rfl | split | dsimp only

theorem dropHeld_does (s : State) (cr : ℕ) : Does [.queues, .frames] s (dropHeld s cr) := by
  unfold dropHeld
  repeat' first
    | with_reducible apply Does.refl | with_reducible apply Does.next (State.modRing_does _ _ _)
    | with_reducible apply Does.next (freeReleased_does _ _) | with_reducible apply Does.foldl
    | with_reducible apply Does.foldlFst | exact rfl | intro _ _ | dsimp only

theorem fetchDesc_does (s : State) (g : ℕ) (fetched : Option Desc) : Does [.queues, .out] s (fetchDesc s g fetched) := by
  unfold fetchDesc
  repeat' first
    | with_reducible apply Does.refl | with_reducible apply Does.next (State.emit_does _ _)
    | with_reducible apply Does.next (State.modQueues_does _ _) | with_reducible apply Does.next (State.modRing_does _ _ _)
    | exact rfl | split | dsimp only

theorem takeDesc_does {s : State} {g : Nat} {d : Desc} {t : State} {x y : Nat} (h : takeDesc s g d = some (t, x, y)) :
    Does [.queues, .out] s t := by
  have h0 : Does [.queues, .out] s
      (if (s.ring g).fetched.isEmpty && decide (nextFetch s = some g) then fetchDesc s g (some d) else s) := by
    split
    · exact fetchDesc_does _ _ _
    · exact Does.refl _ _
  unfold takeDesc at h
  extract_lets s0 at h
  split at h
  · split at h
    · cases h; exact h0.trans ((State.modRing_does s0 _ _).mono rfl)
    · cases h
  · cases h

theorem takeOrdered_does {s : State} {g : Nat} {d : Desc} {t : State} {x : Nat} (h : takeOrdered s g d = some (t, x)) :
    Does [.queues, .out] s t := by
  unfold takeOrdered at h
  split at h
  · cases h
  · rename_i e
    cases h
    exact (takeDesc_does e).trans ((State.modRing_does _ _ _).mono rfl)

theorem flushOrder_does (g : Nat) (l : List Ordered) (s : State) : Does [.queues, .frames, .out] s (flushOrder g l s) := by
  induction l generalizing s with
  | nil => exact (State.modRing_does _ _ _).mono rfl
  | cons x rest ih =>
    unfold flushOrder
    split
    · exact (complete_does _ _ _ _ _).trans (ih _)
    · exact (State.modRing_does _ _ _).mono rfl

theorem finishOrdered_does (s : State) (g : ℕ) (t : ℕ) (words : Desc) : Does [.queues, .frames, .out] s (finishOrdered s g t words) := by
  unfold finishOrdered
  repeat' first
    | with_reducible apply Does.refl | with_reducible apply Does.next (flushOrder_does _ _ _) | exact rfl | split | dsimp only

theorem violate_does (s : State) (who : ℕ) : Does [.hub] s (violate s who) := by
  unfold violate
  repeat' first
    | with_reducible apply Does.refl | with_reducible apply Does.next (State.modFunc_does _ _ _) | exact rfl | split | dsimp only

theorem lapseProposal_does (s : State) (cause : ℕ) : Does [.plt, .queues] s (lapseProposal s cause) := by
  unfold lapseProposal
  repeat' first
    | with_reducible apply Does.refl | with_reducible apply Does.next (State.modPlt_does _ _)
    | with_reducible apply Does.next (raise_does _ _ _ _ _ _) | exact rfl | split | dsimp only

theorem readHost_does (s : State) (f : ℕ) (addr : Word) (length : ℕ) : Does [.out] s (readHost s f addr length) := by
  unfold readHost
  repeat' first
    | with_reducible apply Does.refl | with_reducible apply Does.next (State.emit_does _ _) | with_reducible apply Does.each
    | exact rfl | intro _ _ | dsimp only

theorem nspSend_does (s : State) (n : ℕ) (type : ℕ) (nseq : BitVec 16) (words : List Word) : Does [.out] s (nspSend s n type nseq words) := by
  unfold nspSend
  repeat' first
    | with_reducible apply Does.refl | with_reducible apply Does.next (State.emit_does _ _) | with_reducible apply Does.each
    | exact rfl | intro _ _ | split | dsimp only

theorem nspOwn_does (s : State) (n : ℕ) (type : ℕ) (words : List Word) : Does [.service, .out] s (nspOwn s n type words) := by
  unfold nspOwn
  repeat' first
    | with_reducible apply Does.refl | with_reducible apply Does.next (State.modNsp_does _ _ _)
    | with_reducible apply Does.next (nspSend_does _ _ _ _ _) | exact rfl | dsimp only

theorem respond_does (s : State) (r : Req) (status : ℕ) (trunc : Bool) (payload : List Word) : Does [.hub, .service, .out] s (respond s r status trunc payload) := by
  unfold respond
  repeat' first
    | with_reducible apply Does.refl | with_reducible apply Does.next (State.modFunc_does _ _ _)
    | with_reducible apply Does.next (State.modNsp_does _ _ _) | with_reducible apply Does.next (nspSend_does _ _ _ _ _)
    | with_reducible apply Does.next (signal_does _ _ _) | exact rfl | split | dsimp only

theorem startLong_does (s : State) (r : Req) (trunc : Bool) (canvas : Option ℕ) : Does [.hub] s (startLong s r trunc canvas) := by
  unfold startLong
  repeat' first
    | with_reducible apply Does.refl | with_reducible apply Does.next (State.modFunc_does _ _ _) | exact rfl | dsimp only

theorem finishLong_does (s : State) (who : ℕ) (id : ℕ) (status : ℕ) (trunc : optParam Bool false) : Does [.hub, .queues] s (finishLong s who id status trunc) := by
  unfold finishLong
  repeat' first
    | with_reducible apply Does.refl | with_reducible apply Does.next (State.modFunc_does _ _ _)
    | with_reducible apply Does.next (State.modHub_does _ _) | with_reducible apply Does.next (raise_does _ _ _ _ _ _) | exact rfl
    | split | dsimp only

theorem takeRequest_does {s : State} {r : Req} {t : State} (h : takeRequest s r = some t) : Does [.hub] s t := by
  unfold takeRequest at h
  split at h
  · cases h
  · split at h
    · split at h
      · cases h; exact State.modHub_does _ _
      · cases h
    · dsimp only at h
      split at h
      · split at h
        · cases h
        · injection h with h; subst h; exact (State.modHub_does _ _).trans (State.modFunc_does _ _ _)
      · injection h with h; subst h; exact State.modHub_does _ _

theorem answer_does {l : List Part} (op : JcsOp) {body : State → Req → Ans} (s : State) (r : Req) (hl : Part.hub ∈ l)
    (hb : Does l s (body s r).state) : Does l s (answer op body s r).state := by
  have hv : Does l s (violate s r.who) := (violate_does s r.who).mono (by simp [hl])
  unfold answer
  split
  · exact Does.refl _ _
  · split
    · exact Does.refl _ _
    · split
      · exact hv
      · split
        · exact Does.refl _ _
        · exact hb

theorem dropRequests_does (s : State) : Does [.hub, .service] s (dropRequests s) := by
  unfold dropRequests
  repeat' first
    | with_reducible apply Does.refl | with_reducible apply Does.next (State.modFunc_does _ _ _)
    | with_reducible apply Does.next (State.modHub_does _ _) | with_reducible apply Does.next (State.modNsp_does _ _ _)
    | with_reducible apply Does.each | exact rfl | intro _ _ | split | dsimp only

theorem beginRestart_does (s : State) : Does [.hub, .plt, .queues, .service, .out] s (beginRestart s) := by
  unfold beginRestart
  repeat' first
    | with_reducible apply Does.refl | with_reducible apply Does.next (State.modHub_does _ _)
    | with_reducible apply Does.next (dropRequests_does _) | with_reducible apply Does.next (lapseProposal_does _ _)
    | with_reducible apply Does.next (setStage_does _ _) | exact rfl | dsimp only

theorem beginDue_does (s : State) : Does [.hub, .plt, .queues, .service, .out] s (beginDue s) := by
  unfold beginDue
  repeat' first
    | with_reducible apply Does.refl | with_reducible apply Does.next (beginRestart_does _) | exact rfl | split | dsimp only

theorem endRequest_does (s : State) : Does [.hub, .plt, .queues, .service, .out] s (endRequest s) := by
  unfold endRequest
  repeat' first
    | with_reducible apply Does.refl | with_reducible apply Does.next (State.modHub_does _ _)
    | with_reducible apply Does.next (beginDue_does _) | exact rfl | dsimp only

theorem ringConfigBody_does (s : State) (r : Req) : Does [.queues, .frames] s (ringConfigBody s r).state := by
  unfold ringConfigBody
  repeat' first
    | with_reducible apply Does.refl | with_reducible apply Does.next (State.modRing_does _ _ _)
    | with_reducible apply Does.next (dropHeld_does _ _)
    | dsimp only [Ans.ok, Ans.busy, Ans.badLen, Ans.badParam, Ans.notReady, Ans.conflict, Ans.accepted] | exact rfl | split
    | dsimp only

theorem ringStartBody_does (s : State) (r : Req) : Does [.queues] s (ringStartBody s r).state := by
  unfold ringStartBody
  repeat' first
    | with_reducible apply Does.refl | with_reducible apply Does.next (State.modRing_does _ _ _)
    | dsimp only [Ans.ok, Ans.busy, Ans.badLen, Ans.badParam, Ans.notReady, Ans.conflict, Ans.accepted] | exact rfl | split
    | dsimp only

theorem ringStopBody_does (s : State) (r : Req) : Does [.queues] s (ringStopBody s r).state := by
  unfold ringStopBody
  repeat' first
    | with_reducible apply Does.refl | with_reducible apply Does.next (State.modRing_does _ _ _)
    | dsimp only [Ans.ok, Ans.busy, Ans.badLen, Ans.badParam, Ans.notReady, Ans.conflict, Ans.accepted] | exact rfl | split
    | dsimp only

theorem writeBack_does (s : State) (g : ℕ) : Does [.hub, .queues, .out] s (writeBack s g) := by
  unfold writeBack
  repeat' first
    | with_reducible apply Does.refl | with_reducible apply Does.next (State.emit_does _ _)
    | with_reducible apply Does.next (State.modRing_does _ _ _) | with_reducible apply Does.next (signal_does _ _ _)
    | with_reducible apply Does.each | exact rfl | intro _ _ | split | dsimp only

theorem takeTyped_does {s : State} {g : Nat} {d : Desc} {a b : Nat} {t : State} {x y : Nat} (h : takeTyped s g d a b = some (t, x, y)) :
    Does [.queues, .out] s t := by
  unfold takeTyped at h
  split at h
  · exact takeDesc_does h
  · cases h

theorem deliverOne_does (s : State) (e : EvRec) (t : Route) : Does [.queues, .service, .out] s (deliverOne s e t) := by
  unfold deliverOne
  repeat' first
    | with_reducible apply Does.refl | with_reducible apply Does.next (State.emit_does _ _)
    | with_reducible apply Does.next (State.modRing_does _ _ _) | with_reducible apply Does.next (nspOwn_does _ _ _ _) | exact rfl
    | split | dsimp only

theorem eventRouteBody_does (s : State) (r : Req) : Does [.queues] s (eventRouteBody s r).state := by
  unfold eventRouteBody
  repeat' first
    | with_reducible apply Does.refl | with_reducible apply Does.next (State.modEvent_does _ _ _)
    | dsimp only [Ans.ok, Ans.busy, Ans.badLen, Ans.badParam, Ans.notReady, Ans.conflict, Ans.accepted] | exact rfl | split
    | dsimp only

theorem violationReadBody_does (s : State) (a1 : Req) : Does [] s (violationReadBody s a1).state := by
  unfold violationReadBody
  repeat' first
    | with_reducible apply Does.refl
    | dsimp only [Ans.ok, Ans.busy, Ans.badLen, Ans.badParam, Ans.notReady, Ans.conflict, Ans.accepted] | dsimp only

theorem enablePorts_does (s : State) (d : DieId) : Does [.links] s (enablePorts s d) := by
  unfold enablePorts
  repeat' first
    | with_reducible apply Does.refl | with_reducible apply Does.next (State.modPort_does _ _ _) | with_reducible apply Does.each
    | exact rfl | intro _ _ | dsimp only

theorem markRegion_does (s : State) (c : ℕ) (t : ℕ) (r : ℕ) (n : ℕ) : Does [.frames] s (markRegion s c t r n) := by
  unfold markRegion
  repeat' first
    | with_reducible apply Does.refl | with_reducible apply Does.next (State.modCanvas_does _ _ _) | exact rfl | split
    | dsimp only

theorem markCanvas_does (s : State) (c : ℕ) (n : ℕ) : Does [.frames] s (markCanvas s c n) := by
  unfold markCanvas
  repeat' first
    | with_reducible apply Does.refl | with_reducible apply Does.next (State.modCanvas_does _ _ _) | exact rfl | split
    | dsimp only

theorem markTile_does (s : State) (t : ℕ) : Does [.frames] s (markTile s t) := by
  unfold markTile
  repeat' first
    | with_reducible apply Does.refl | with_reducible apply Does.next (markRegion_does _ _ _ _ _) | exact rfl | split | dsimp only

theorem checkScrim_does (s : State) (d : DieId) (r : ℕ) : Does [.queues, .frames] s (checkScrim s d r) := by
  unfold checkScrim
  repeat' first
    | with_reducible apply Does.refl | with_reducible apply Does.next (State.modScrim_does _ _ _ _)
    | with_reducible apply Does.next (raise_does _ _ _ _ _ _) | exact rfl | split | dsimp only

theorem loadScrim_does (s : State) (d : DieId) (r : ℕ) : Does [.queues, .frames] s (loadScrim s d r) := by
  unfold loadScrim
  repeat' first
    | with_reducible apply Does.refl | with_reducible apply Does.next (State.modScrim_does _ _ _ _)
    | with_reducible apply Does.next (checkScrim_does _ _ _) | with_reducible apply Does.foldl
    | with_reducible apply Does.foldlFst | exact rfl | intro _ _ | dsimp only

theorem loadScrims_does (s : State) : Does [.queues, .frames] s (loadScrims s) := by
  unfold loadScrims
  repeat' first
    | with_reducible apply Does.refl | with_reducible apply Does.next (loadScrim_does _ _ _) | with_reducible apply Does.each
    | exact rfl | intro _ _ | dsimp only

theorem upsetScrim_does (s : State) (d : DieId) (r : ℕ) (k : ℕ) (v : Word) : Does [.frames] s (upsetScrim s d r k v) := by
  unfold upsetScrim
  repeat' first
    | with_reducible apply Does.refl | with_reducible apply Does.next (State.modScrim_does _ _ _ _) | exact rfl | split
    | dsimp only

theorem putLine_does (s : State) (p : ℕ) (blocks : List Block) : Does [.out, .free] s (putLine s p blocks) := by
  unfold putLine
  repeat' first
    | with_reducible apply Does.refl | with_reducible apply Does.next (State.drawn_does _)
    | with_reducible apply Does.next (State.emit_does _ _) | exact rfl | dsimp only

theorem State.modChans_does (s : State) (d : Die3) (g : Chan → Chan) : Does [.clocks] s (State.modChans s d g) := by
  unfold State.modChans
  repeat' first
    | with_reducible apply Does.refl | with_reducible apply Does.next (State.modClocks_does _ _) | with_reducible apply Does.foldl
    | with_reducible apply Does.foldlFst | exact rfl | intro _ _ | split | dsimp only

theorem State.setMem_does (s : State) (d : Die3) (m : MemMode) : Does [.clocks] s (State.setMem s d m) := by
  unfold State.setMem
  repeat' first
    | with_reducible apply Does.refl | with_reducible apply Does.next (State.modChans_does _ _ _)
    | with_reducible apply Does.next (State.modClocks_does _ _) | exact rfl | split | dsimp only

theorem emitFrame_does (s : State) (p : ℕ) (h0 : Word) (h1 : Word) (payload : List Word) (inverted : optParam Bool false) : Does [.links, .out, .free] s (emitFrame s p h0 h1 payload inverted) := by
  unfold emitFrame
  repeat' first
    | with_reducible apply Does.refl | with_reducible apply Does.next (State.modPort_does _ _ _)
    | with_reducible apply Does.next (putLine_does _ _ _) | exact rfl | dsimp only

theorem emitIdle_does (s : State) (p : ℕ) : Does [.links, .out, .free] s (emitIdle s p) := by
  unfold emitIdle
  repeat' first
    | with_reducible apply Does.refl | with_reducible apply Does.next (State.modPort_does _ _ _)
    | with_reducible apply Does.next (emitFrame_does _ _ _ _ _ _) | exact rfl | dsimp only

theorem emitTime_does (s : State) (p : ℕ) (word0 : ℕ) (arg : Word) (tile : ℕ) (bcast : Bool) : Does [.links, .out, .free] s (emitTime s p word0 arg tile bcast) := by
  unfold emitTime
  repeat' first
    | with_reducible apply Does.refl | with_reducible apply Does.next (State.drawn_does _)
    | with_reducible apply Does.next (State.modPort_does _ _ _) | with_reducible apply Does.next (emitFrame_does _ _ _ _ _ _)
    | exact rfl | split | dsimp only

theorem wake_does (s : State) (p : ℕ) (sync : Bool) : Does [.links, .out, .free] s (wake s p sync) := by
  unfold wake
  repeat' first
    | with_reducible apply Does.refl | with_reducible apply Does.next (State.modPort_does _ _ _)
    | with_reducible apply Does.next (emitIdle_does _ _) | with_reducible apply Does.next (emitTime_does _ _ _ _ _ _)
    | with_reducible apply Does.next (putLine_does _ _ _) | exact rfl | split | dsimp only

theorem enterQuiet_does (s : State) (p : ℕ) : Does [.links, .out, .free] s (enterQuiet s p) := by
  unfold enterQuiet
  repeat' first
    | with_reducible apply Does.refl | with_reducible apply Does.next (State.modPort_does _ _ _)
    | with_reducible apply Does.next (putLine_does _ _ _) | exact rfl | split | dsimp only

theorem sendFrame_does (s : State) (d : DieId) (p : ℕ) (h0 : Word) (h1 : Word) (payload : List Word) (ok : optParam Bool true) : Does [.links, .out, .free] s (sendFrame s d p h0 h1 payload ok) := by
  unfold sendFrame
  repeat' first
    | with_reducible apply Does.refl | with_reducible apply Does.next (emitFrame_does _ _ _ _ _ _)
    | with_reducible apply Does.next (wake_does _ _ _) | exact rfl | split | dsimp only

theorem sendTime_does (s : State) (p : ℕ) (word0 : ℕ) (arg : Word) (tile : ℕ) (bcast : Bool) : Does [.links, .out, .free] s (sendTime s p word0 arg tile bcast) := by
  unfold sendTime
  repeat' first
    | with_reducible apply Does.refl | with_reducible apply Does.next (emitTime_does _ _ _ _ _ _)
    | with_reducible apply Does.next (wake_does _ _ _) | exact rfl | split | dsimp only

theorem countMgmt_does (s : State) (port : ℕ) : Does [.links] s (countMgmt s port) := by
  unfold countMgmt
  repeat' first
    | with_reducible apply Does.refl | with_reducible apply Does.next (State.modPort_does _ _ _) | exact rfl | dsimp only

theorem sendMgmt_does (s : State) (t : ℕ) (type : ℕ) (payload : List Word) (relayed : optParam Bool false) : Does [.links, .out, .free] s (sendMgmt s t type payload relayed) := by
  unfold sendMgmt
  repeat' first
    | with_reducible apply Does.refl | with_reducible apply Does.next (State.modTile_does _ _ _)
    | with_reducible apply Does.next (countMgmt_does _ _) | with_reducible apply Does.next (sendFrame_does _ _ _ _ _ _ _)
    | with_reducible apply Does.each | exact rfl | intro _ _ | split | dsimp only

theorem sendMgmtAll_does (s : State) (port : ℕ) (type : ℕ) (payload : List Word) : Does [.links, .out, .free] s (sendMgmtAll s port type payload) := by
  unfold sendMgmtAll
  repeat' first
    | with_reducible apply Does.refl | with_reducible apply Does.next (State.modTile_does _ _ _)
    | with_reducible apply Does.next (countMgmt_does _ _) | with_reducible apply Does.next (sendFrame_does _ _ _ _ _ _ _)
    | with_reducible apply Does.each | exact rfl | intro _ _ | dsimp only

theorem sendStage_does (s : State) (x : Txn) (t : ℕ) : Does [.links, .out, .free] s (sendStage s x t) := by
  unfold sendStage
  repeat' first
    | with_reducible apply Does.refl | with_reducible apply Does.next (sendMgmt_does _ _ _ _ _) | with_reducible apply Does.foldl
    | with_reducible apply Does.foldlFst | exact rfl | intro _ _ | split | dsimp only

theorem sendCommit_does (s : State) (x : Txn) (t : ℕ) : Does [.links, .out, .free] s (sendCommit s x t) := by
  unfold sendCommit
  repeat' first
    | with_reducible apply Does.refl | with_reducible apply Does.next (sendMgmt_does _ _ _ _ _) | exact rfl | dsimp only

theorem sendAbort_does (s : State) (x : Txn) (t : ℕ) : Does [.links, .out, .free] s (sendAbort s x t) := by
  unfold sendAbort
  repeat' first
    | with_reducible apply Does.refl | with_reducible apply Does.next (sendMgmt_does _ _ _ _ _) | exact rfl | dsimp only

theorem sendAll_does {l : List Part} (s : State) (x : Txn) {one all : State → Nat → State} (h1 : ∀ s n, Does l s (one s n))
    (h2 : ∀ s n, Does l s (all s n)) : Does l s (sendAll s x one all) := by
  unfold sendAll
  repeat' first
    | with_reducible apply Does.refl
    | with_reducible apply Does.next (h1 _ _)
    | with_reducible apply Does.next (h2 _ _)
    | with_reducible apply Does.each
    | with_reducible apply Does.foldl
    | simp
    | intro _ _
    | split
    | dsimp only

theorem sendStages_does (s : State) (x : Txn) : Does [.links, .out, .free] s (sendStages s x) := by
  unfold sendStages
  apply sendAll_does <;> intro s n
  all_goals repeat' first
    | with_reducible apply Does.refl
    | with_reducible apply Does.next (sendMgmtAll_does _ _ _ _)
    | with_reducible apply Does.next (sendStage_does _ _ _)
    | with_reducible apply Does.each
    | with_reducible apply Does.foldl
    | with_reducible apply Does.foldlFst
    | exact rfl
    | exact fun _ => ⟨rfl, rfl⟩
    | exact fun _ => rfl
    | exact fun _ => setSlot_fuse _ _ _
    | intro _ _
    | split
    | dsimp only

theorem sendCommits_does (s : State) (x : Txn) : Does [.links, .out, .free] s (sendCommits s x) := by
  unfold sendCommits
  apply sendAll_does <;> intro s n
  all_goals repeat' first
    | with_reducible apply Does.refl
    | with_reducible apply Does.next (sendCommit_does _ _ _)
    | with_reducible apply Does.next (sendMgmtAll_does _ _ _ _)
    | with_reducible apply Does.each
    | with_reducible apply Does.foldl
    | with_reducible apply Does.foldlFst
    | exact rfl
    | exact fun _ => ⟨rfl, rfl⟩
    | exact fun _ => rfl
    | exact fun _ => setSlot_fuse _ _ _
    | intro _ _
    | split
    | dsimp only

theorem sendAborts_does (s : State) (x : Txn) : Does [.links, .out, .free] s (sendAborts s x) := by
  unfold sendAborts
  apply sendAll_does <;> intro s n
  all_goals repeat' first
    | with_reducible apply Does.refl
    | with_reducible apply Does.next (sendAbort_does _ _ _)
    | with_reducible apply Does.next (sendMgmtAll_does _ _ _ _)
    | with_reducible apply Does.each
    | with_reducible apply Does.foldl
    | with_reducible apply Does.foldlFst
    | exact rfl
    | exact fun _ => ⟨rfl, rfl⟩
    | exact fun _ => rfl
    | exact fun _ => setSlot_fuse _ _ _
    | intro _ _
    | split
    | dsimp only

theorem State.modTxn_does (s : State) (p : Txn → Bool) (f : Txn → Txn) : Does [.links] s (State.modTxn s p f) := by
  unfold State.modTxn
  repeat' first
    | with_reducible apply Does.refl | with_reducible apply Does.next (State.modLinks_does _ _) | exact rfl | split | dsimp only

theorem startTxn_does (s : State) (kind : TxnKind) (canvas : Option ℕ) (src : ℕ) (id : Option ℕ) (tiles : List ℕ) (data : List (ℕ × ℕ × List Word)) (frame : ℕ) (applyTime : ℕ) : Does [.links, .out, .free] s (startTxn s kind canvas src id tiles data frame applyTime) := by
  unfold startTxn
  repeat' first
    | with_reducible apply Does.refl | with_reducible apply Does.next (State.modLinks_does _ _)
    | with_reducible apply Does.next (State.modPort_does _ _ _) | with_reducible apply Does.next (sendStages_does _ _)
    | with_reducible apply Does.each | with_reducible apply Does.foldl | with_reducible apply Does.foldlFst | exact rfl
    | intro _ _ | dsimp only

theorem endTxn_does (s : State) (x : Txn) (failed : List ℕ) (aborted : Bool) : Does [.hub, .queues, .links] s (endTxn s x failed aborted) := by
  unfold endTxn
  repeat' first
    | with_reducible apply Does.refl | with_reducible apply Does.next (State.modTxn_does _ _ _)
    | with_reducible apply Does.next (finishLong_does _ _ _ _ _) | with_reducible apply Does.next (raise_does _ _ _ _ _ _)
    | exact rfl | split | dsimp only

theorem abortTxn_does (s : State) (x : Txn) (failed : List ℕ) : Does [.hub, .queues, .links, .out, .free] s (abortTxn s x failed) := by
  unfold abortTxn
  repeat' first
    | with_reducible apply Does.refl | with_reducible apply Does.next (endTxn_does _ _ _ _)
    | with_reducible apply Does.next (sendAborts_does _ _) | exact rfl | dsimp only

theorem repeatTxns_does (s : State) : Does [.links, .out, .free] s (repeatTxns s) := by
  unfold repeatTxns
  repeat' first
    | with_reducible apply Does.refl | with_reducible apply Does.next (sendCommits_does _ _)
    | with_reducible apply Does.next (sendStages_does _ _) | with_reducible apply Does.each | exact rfl | intro _ _ | split
    | dsimp only

theorem pltReadBody_does (s : State) (r : Req) : Does [] s (pltReadBody s r).state := by
  unfold pltReadBody
  repeat' first
    | with_reducible apply Does.refl
    | dsimp only [Ans.ok, Ans.busy, Ans.badLen, Ans.badParam, Ans.notReady, Ans.conflict, Ans.accepted] | split | dsimp only

theorem pltProposeBody_does (s : State) (r : Req) : Does [.plt, .queues] s (pltProposeBody s r).state := by
  unfold pltProposeBody
  repeat' first
    | with_reducible apply Does.refl | with_reducible apply Does.next (State.modPlt_does _ _)
    | with_reducible apply Does.next (raise_does _ _ _ _ _ _)
    | dsimp only [Ans.ok, Ans.busy, Ans.badLen, Ans.badParam, Ans.notReady, Ans.conflict, Ans.accepted] | exact rfl | split
    | dsimp only

theorem putInForce_does (s : State) (l : List (ℕ × Word)) : Does [.plt, .queues, .frames] s (putInForce s l) := by
  unfold putInForce
  repeat' first
    | with_reducible apply Does.refl | with_reducible apply Does.next (State.modPlt_does _ _)
    | with_reducible apply Does.next (State.modZone_does _ _ _) | with_reducible apply Does.next (loadScrims_does _)
    | with_reducible apply Does.each | exact rfl | intro _ _ | split | dsimp only

theorem applyOn_does (s : State) (c : ℕ) (t : ℕ) (l : List (ℕ × Word)) : Does [.plt, .queues, .frames] s (applyOn s c t l) := by
  unfold applyOn
  repeat' first
    | with_reducible apply Does.refl | with_reducible apply Does.next (State.modPlt_does _ _)
    | with_reducible apply Does.next (putInForce_does _ _) | exact rfl | split | dsimp only

theorem applyZone_does (s : State) (old : Plt) (l : List (ℕ × Word)) (z : ℕ) : Does [.plt, .queues, .frames] s (applyZone s old l z) := by
  unfold applyZone
  repeat' first
    | with_reducible apply Does.refl | with_reducible apply Does.next (applyOn_does _ _ _ _) | exact rfl | split | dsimp only

theorem carryWaits_does (s : State) (t : ℕ) (v : Bool) : Does [.plt] s (carryWaits s t v) := by
  unfold carryWaits
  repeat' first
    | with_reducible apply Does.refl | with_reducible apply Does.next (State.modPlt_does _ _) | exact rfl | split | dsimp only

theorem startDrive_does (s : State) (t : ℕ) : Does [.plt, .links, .out, .free] s (startDrive s t) := by
  unfold startDrive
  repeat' first
    | with_reducible apply Does.refl | with_reducible apply Does.next (State.modTile_does _ _ _)
    | with_reducible apply Does.next (carryWaits_does _ _ _) | with_reducible apply Does.next (startTxn_does _ _ _ _ _ _ _ _ _)
    | exact rfl | split | dsimp only

theorem applyTile_does (s : State) (old : Plt) (new : Plt) (l : List (ℕ × Word)) (t : ℕ) : Does [.plt, .queues, .frames, .links, .out, .free] s (applyTile s old new l t) := by
  unfold applyTile
  repeat' first
    | with_reducible apply Does.refl | with_reducible apply Does.next (State.modPlt_does _ _)
    | with_reducible apply Does.next (State.modTile_does _ _ _) | with_reducible apply Does.next (applyOn_does _ _ _ _)
    | with_reducible apply Does.next (putInForce_does _ _) | with_reducible apply Does.next (startDrive_does _ _) | exact rfl
    | split | dsimp only

theorem settingsDue_does (s : State) : Does [.plt] s (settingsDue s) := by
  unfold settingsDue
  repeat' first
    | with_reducible apply Does.refl | with_reducible apply Does.next (State.modPlt_does _ _) | exact rfl | dsimp only

theorem applyConfirmed_does (s : State) (l : List (ℕ × Word)) : Does [.plt, .queues, .frames, .links, .out, .free] s (applyConfirmed s l) := by
  unfold applyConfirmed
  repeat' first
    | with_reducible apply Does.refl | with_reducible apply Does.next (State.modEvent_does _ _ _)
    | with_reducible apply Does.next (State.modPlt_does _ _) | with_reducible apply Does.next (applyOn_does _ _ _ _)
    | with_reducible apply Does.next (applyTile_does _ _ _ _ _) | with_reducible apply Does.next (applyZone_does _ _ _ _)
    | with_reducible apply Does.next (settingsDue_does _) | with_reducible apply Does.each | exact rfl | intro _ _ | dsimp only

theorem pltWithdrawBody_does (s : State) (r : Req) : Does [.plt, .queues] s (pltWithdrawBody s r).state := by
  unfold pltWithdrawBody
  repeat' first
    | with_reducible apply Does.refl | with_reducible apply Does.next (State.modPlt_does _ _)
    | with_reducible apply Does.next (raise_does _ _ _ _ _ _)
    | dsimp only [Ans.ok, Ans.busy, Ans.badLen, Ans.badParam, Ans.notReady, Ans.conflict, Ans.accepted] | exact rfl | split
    | dsimp only

theorem pltProposalReadBody_does (s : State) (a1 : Req) : Does [] s (pltProposalReadBody s a1).state := by
  unfold pltProposalReadBody
  repeat' first
    | with_reducible apply Does.refl
    | dsimp only [Ans.ok, Ans.busy, Ans.badLen, Ans.badParam, Ans.notReady, Ans.conflict, Ans.accepted] | split | dsimp only

end Sys2Proof.Machine
end

