-- ==== Sys2Proof/Laws/DoesHost.lean ====
section
/-! SUPPORT. What each operation can change, one lemma an operation: buffers, the host interface, layers and canvas changes. -/

set_option maxRecDepth 4000
set_option linter.unreachableTactic false
set_option linter.unusedTactic false

namespace Sys2Proof.Machine

theorem writeDie_does (s : State) (d : DieId) (k b addr : Nat) (bytes : List Byte) : Does [.frames] s (writeDie s d k b addr bytes) := by
  refine State.modFrames_bufs _ _ fun x ha hb => ?_
  have hf : ∀ m, Tbl.wf 0 m = true → Tbl.wf 0 (memWrite m addr bytes) = true := fun m hm => memWrite_wf m addr bytes hm
  cases d
  · exact ⟨bufsWf_modify _ _ ha hf, hb⟩
  · exact ⟨ha, bufsWf_modify _ _ hb hf⟩

theorem writeBoth_does (s : State) (k : ℕ) (b : ℕ) (addr : ℕ) (bytes : List Byte) : Does [.frames] s (writeBoth s k b addr bytes) := by
  unfold writeBoth
  repeat' first
    | with_reducible apply Does.refl | with_reducible apply Does.next (writeDie_does _ _ _ _ _ _) | exact rfl | split | dsimp only

theorem forgetBufs_does (s : State) (k : ℕ) (l : List ℕ) : Does [.frames] s (forgetBufs s k l) := by
  unfold forgetBufs
  repeat' first
    | with_reducible apply Does.refl | with_reducible apply Does.next (State.modLayer_does _ _ _) | with_reducible apply Does.each
    | exact rfl | intro _ _ | split | dsimp only

theorem zeroBuffers_does (s : State) (k : Nat) (l : List Nat) : Does [.frames] s (zeroBuffers s k l) := by
  refine (forgetBufs_does s k l).trans (State.modFrames_bufs _ _ fun x ha hb => ?_)
  have hc : ∀ (l : List Nat) (m : Tbl (Tbl Byte)), bufsWf m = true → bufsWf (l.foldl (fun m b => Tbl.set [] m (bufKey k b) []) m) = true := by
    intro l
    induction l with
    | nil => exact fun m h => h
    | cons b l ih => exact fun m h => ih _ (bufsWf_set _ _ h rfl)
  exact ⟨hc _ _ ha, hc _ _ hb⟩

theorem slotEvent_does (s : State) (k : ℕ) (code : ℕ) (data : optParam Word 0) : Does [.queues] s (slotEvent s k code data) := by
  unfold slotEvent
  repeat' first
    | with_reducible apply Does.refl | with_reducible apply Does.next (raise_does _ _ _ _ _ _) | exact rfl | dsimp only

theorem bufReady_does (s : State) (k : ℕ) (b : ℕ) (concealed : optParam Bool false) (media : optParam ℕ 0) : Does [.queues, .frames] s (bufReady s k b concealed media) := by
  unfold bufReady
  repeat' first
    | with_reducible apply Does.refl | with_reducible apply Does.next (State.modSlot_does _ _ _)
    | with_reducible apply Does.next (slotEvent_does _ _ _ _) | exact rfl | split | dsimp only

theorem freeTarget_does {s : State} {k : Nat} {t : State} {x : Nat} (h : freeTarget s k = some (t, x)) : Does [.queues, .frames] s t := by
  unfold freeTarget at h
  dsimp only at h
  split at h
  · cases h; exact Does.refl _ _
  · split at h
    · cases h
    · cases h
      exact ((State.modSlot_does _ _ _).mono rfl).trans ((slotEvent_does _ _ _ _).mono rfl)

theorem startFilling_does (s : State) (k : ℕ) (b : ℕ) : Does [.frames] s (startFilling s k b) := by
  unfold startFilling
  repeat' first
    | with_reducible apply Does.refl | with_reducible apply Does.next (State.modSlot_does _ _ _)
    | with_reducible apply Does.next (forgetBufs_does _ _ _) | exact rfl | dsimp only

theorem endUse_does (s : State) (k b c n : Nat) : Does [.frames] s (endUse s k b c n) := by
  unfold endUse
  extract_lets s1
  have h1 : Does [.frames] s s1 := State.modSlot_does _ _ _
  split
  · exact h1.trans (zeroBuffers_does _ _ _)
  · exact h1

theorem endUses_does (s : State) (c : ℕ) (n : ℕ) : Does [.frames] s (endUses s c n) := by
  unfold endUses
  repeat' first
    | with_reducible apply Does.refl | with_reducible apply Does.next (endUse_does _ _ _ _ _) | with_reducible apply Does.each
    | exact rfl | intro _ _ | dsimp only

theorem cancelPulls_does (s : State) (k : ℕ) : Does [.queues, .frames, .out] s (cancelPulls s k) := by
  unfold cancelPulls
  repeat' first
    | with_reducible apply Does.refl | with_reducible apply Does.next (State.modSlot_does _ _ _)
    | with_reducible apply Does.next (finishOrdered_does _ _ _ _) | with_reducible apply Does.each | exact rfl | intro _ _
    | dsimp only

theorem reportLegs_does (s : State) (on : ℕ → Bool) (port : ℕ → ℕ) (leg : ℕ → Word) (filters : Word) (join : Bool) : Does [.out] s (reportLegs s on port leg filters join) := by
  unfold reportLegs
  repeat' first
    | with_reducible apply Does.refl | with_reducible apply Does.next (State.emit_does _ _) | with_reducible apply Does.each
    | exact rfl | intro _ _ | dsimp only

theorem reportGroups_does (s : State) (k : ℕ) (join : Bool) : Does [.out] s (reportGroups s k join) := by
  unfold reportGroups
  repeat' first
    | with_reducible apply Does.refl | with_reducible apply Does.next (reportLegs_does _ _ _ _ _ _) | exact rfl | dsimp only

theorem stopSlot_does (s : State) (k : ℕ) : Does [.queues, .frames, .out] s (stopSlot s k) := by
  unfold stopSlot
  repeat' first
    | with_reducible apply Does.refl | with_reducible apply Does.next (State.modSlot_does _ _ _)
    | with_reducible apply Does.next (cancelPulls_does _ _) | with_reducible apply Does.next (reportGroups_does _ _ _)
    | with_reducible apply Does.foldl | with_reducible apply Does.foldlFst | exact rfl | intro _ _ | dsimp only

theorem dropReleases_does (s : State) (k : ℕ) : Does [.queues] s (dropReleases s k) := by
  unfold dropReleases
  repeat' first
    | with_reducible apply Does.refl | with_reducible apply Does.next (State.modQueues_does _ _) | exact rfl | dsimp only

theorem srcConfigBody_does (s : State) (r : Req) : Does [.queues, .frames] s (srcConfigBody s r).state := by
  unfold srcConfigBody
  extract_lets k owner kept x
  split
  · exact Does.refl _ _
  · split
    · exact Does.refl _ _
    · split
      · exact Does.refl _ _
      · exact (((dropReleases_does s k).mono rfl).trans ((zeroBuffers_does _ _ _).mono rfl)).trans ((State.modSlot_does _ _ _).mono rfl)

theorem srcStartBody_does (s : State) (r : Req) : Does [.frames, .out] s (srcStartBody s r).state := by
  unfold srcStartBody
  repeat' first
    | with_reducible apply Does.refl | with_reducible apply Does.next (State.modSlot_does _ _ _)
    | with_reducible apply Does.next (reportGroups_does _ _ _)
    | dsimp only [Ans.ok, Ans.busy, Ans.badLen, Ans.badParam, Ans.notReady, Ans.conflict, Ans.accepted] | exact rfl | split
    | dsimp only

theorem srcStopBody_does (s : State) (r : Req) : Does [.queues, .frames, .out] s (srcStopBody s r).state := by
  unfold srcStopBody
  repeat' first
    | with_reducible apply Does.refl | with_reducible apply Does.next (stopSlot_does _ _)
    | dsimp only [Ans.ok, Ans.busy, Ans.badLen, Ans.badParam, Ans.notReady, Ans.conflict, Ans.accepted] | exact rfl | split
    | dsimp only

theorem diagSlotReadBody_does (s : State) (r : Req) : Does [] s (diagSlotReadBody s r).state := by
  unfold diagSlotReadBody
  repeat' first
    | with_reducible apply Does.refl
    | dsimp only [Ans.ok, Ans.busy, Ans.badLen, Ans.badParam, Ans.notReady, Ans.conflict, Ans.accepted] | split | dsimp only

theorem takeSource_does {s : State} {g : Nat} {d : Desc} {k : Nat} {t : State} {x : Nat} (h : takeSource s g d k = some (t, x)) :
    Does [.queues, .out] s t := by
  unfold takeSource at h
  split at h
  · cases h
  · exact takeOrdered_does h

theorem endSource_does (s : State) (g : ℕ) (t : ℕ) (d : Desc) (ctype : ℕ) (status : ℕ) (trunc : optParam Bool false) (frame : optParam ℕ 0) : Does [.queues, .frames, .out] s (endSource s g t d ctype status trunc frame) := by
  unfold endSource
  repeat' first
    | with_reducible apply Does.refl | with_reducible apply Does.next (finishOrdered_does _ _ _ _) | exact rfl | dsimp only

theorem startPull_does (s : State) (k : ℕ) (p : PullSeg) : Does [.frames, .out] s (startPull s k p) := by
  unfold startPull
  repeat' first
    | with_reducible apply Does.refl | with_reducible apply Does.next (State.modSlot_does _ _ _)
    | with_reducible apply Does.next (readHost_does _ _ _ _) | exact rfl | split | dsimp only

theorem openPull_does (s : State) (k : ℕ) (p : PullSeg) : Does [.queues, .frames, .out] s (openPull s k p) := by
  unfold openPull
  repeat' first
    | with_reducible apply Does.refl | with_reducible apply Does.next (State.modSlot_does _ _ _)
    | with_reducible apply Does.next (startFilling_does _ _ _) | with_reducible apply Does.next (startPull_does _ _ _)
    | refine Does.next (freeTarget_does (by assumption)) rfl ?_ | exact rfl | split | dsimp only

theorem abandon_does (s : State) (k : ℕ) (b : ℕ) : Does [.frames] s (abandon s k b) := by
  unfold abandon
  repeat' first
    | with_reducible apply Does.refl | with_reducible apply Does.next (State.modSlot_does _ _ _) | exact rfl | dsimp only

theorem judgeNet_does (s : State) (k : ℕ) : Does [.queues, .frames] s (judgeNet s k) := by
  unfold judgeNet
  repeat' first
    | with_reducible apply Does.refl | with_reducible apply Does.next (State.modSlot_does _ _ _)
    | with_reducible apply Does.next (abandon_does _ _ _) | with_reducible apply Does.next (bufReady_does _ _ _ _ _)
    | with_reducible apply Does.next (slotEvent_does _ _ _ _) | exact rfl | split | dsimp only

theorem judgeIfIn_does (s : State) (k : ℕ) : Does [.queues, .frames] s (judgeIfIn s k) := by
  unfold judgeIfIn
  repeat' first
    | with_reducible apply Does.refl | with_reducible apply Does.next (judgeNet_does _ _) | exact rfl | split | dsimp only

theorem openNet_does (s : State) (k : ℕ) (ts : BitVec 32) : Does [.queues, .frames] s (openNet s k ts) := by
  unfold openNet
  repeat' first
    | with_reducible apply Does.refl | with_reducible apply Does.next (State.modSlot_does _ _ _)
    | with_reducible apply Does.next (startFilling_does _ _ _) | refine Does.next (freeTarget_does (by assumption)) rfl ?_
    | exact rfl | split | dsimp only

theorem mergeDie_does (s : State) (d : DieId) (k : ℕ) (b : ℕ) (p : NetPkt) : Does [.frames] s (mergeDie s d k b p) := by
  unfold mergeDie
  repeat' first
    | with_reducible apply Does.refl | with_reducible apply Does.next (State.modSlot_does _ _ _)
    | with_reducible apply Does.next (writeDie_does _ _ _ _ _ _) | with_reducible apply Does.each | exact rfl | intro _ _ | split
    | dsimp only

theorem mergePacket_does (s : State) (k : ℕ) (leg : ℕ) (p : NetPkt) : Does [.queues, .frames] s (mergePacket s k leg p) := by
  unfold mergePacket
  repeat' first
    | with_reducible apply Does.refl | with_reducible apply Does.next (State.modSlot_does _ _ _)
    | with_reducible apply Does.next (judgeIfIn_does _ _) | with_reducible apply Does.next (mergeDie_does _ _ _ _ _) | exact rfl
    | split | dsimp only

theorem frameFor_does (s : State) (k : ℕ) (ts : BitVec 32) : Does [.queues, .frames] s (frameFor s k ts) := by
  unfold frameFor
  repeat' first
    | with_reducible apply Does.refl | with_reducible apply Does.next (State.modSlot_does _ _ _)
    | with_reducible apply Does.next (judgeNet_does _ _) | with_reducible apply Does.next (openNet_does _ _ _) | exact rfl | split
    | dsimp only

theorem slotPacket_does (s : State) (k : ℕ) (leg : ℕ) (p : NetPkt) : Does [.queues, .frames] s (slotPacket s k leg p) := by
  unfold slotPacket
  repeat' first
    | with_reducible apply Does.refl | with_reducible apply Does.next (State.modSlot_does _ _ _)
    | with_reducible apply Does.next (frameFor_does _ _ _) | with_reducible apply Does.next (mergePacket_does _ _ _ _)
    | with_reducible apply Does.next (slotEvent_does _ _ _ _) | exact rfl | split | dsimp only

theorem mboxSubmit_does (s : State) (f : ℕ) : Does [.hub] s (mboxSubmit s f) := by
  unfold mboxSubmit
  repeat' first
    | with_reducible apply Does.refl | with_reducible apply Does.next (State.modFunc_does _ _ _)
    | with_reducible apply Does.next (State.modHub_does _ _) | exact rfl | split | dsimp only

theorem mailboxWrite_does (s : State) (f : ℕ) (offset : ℕ) (size : ℕ) (v : Word) : Does [.hub] s (mailboxWrite s f offset size v) := by
  unfold mailboxWrite
  repeat' first
    | with_reducible apply Does.refl | with_reducible apply Does.next (State.modFunc_does _ _ _)
    | with_reducible apply Does.next (violate_does _ _) | exact rfl | split | dsimp only

theorem firePending_does (s : State) (f : ℕ) : Does [.hub, .out] s (firePending s f) := by
  unfold firePending
  repeat' first
    | with_reducible apply Does.refl | with_reducible apply Does.next (State.emit_does _ _)
    | with_reducible apply Does.next (State.modFunc_does _ _ _) | with_reducible apply Does.each | exact rfl | intro _ _ | split
    | dsimp only

theorem unmask_does (s : State) (f : ℕ) (vector : Option ℕ) : Does [.hub, .out] s (unmask s f vector) := by
  unfold unmask
  repeat' first
    | with_reducible apply Does.refl | with_reducible apply Does.next (State.modFunc_does _ _ _)
    | with_reducible apply Does.next (firePending_does _ _) | exact rfl | split | dsimp only

theorem msixWrite_does (s : State) (f : ℕ) (offset : ℕ) (size : ℕ) (v : Word) : Does [.hub, .out] s (msixWrite s f offset size v) := by
  unfold msixWrite
  repeat' first
    | with_reducible apply Does.refl | with_reducible apply Does.next (State.modFunc_does _ _ _)
    | with_reducible apply Does.next (firePending_does _ _) | exact rfl | split | dsimp only

theorem registerRead_fst (s : State) (f : ℕ) (bar : ℕ) (offset : ℕ) (size : ℕ) : Does [.hub] s (registerRead s f bar offset size).1 := by
  unfold registerRead
  repeat' first
    | with_reducible apply Does.refl | with_reducible apply Does.next (violate_does _ _) | exact rfl | split | dsimp only
theorem registerRead_does {s : State} {f : ℕ} {bar : ℕ} {offset : ℕ} {size : ℕ} {t : State} {x : Word} (he : registerRead s f bar offset size = (t, x)) : Does [.hub] s t := by
  have := registerRead_fst s f bar offset size
  rw [he] at this; exact this

theorem resetRings_does (s : State) (f : ℕ) : Does [.queues, .frames] s (resetRings s f) := by
  unfold resetRings
  repeat' first
    | with_reducible apply Does.refl | with_reducible apply Does.next (State.modRing_does _ _ _)
    | with_reducible apply Does.next (dropHeld_does _ _) | with_reducible apply Does.each | exact rfl | intro _ _ | dsimp only

theorem resetFunction_does (s : State) (f : ℕ) : Does [.hub, .plt, .queues, .frames, .media, .out] s (resetFunction s f) := by
  unfold resetFunction
  repeat' first
    | with_reducible apply Does.refl | with_reducible apply Does.next (State.modFunc_does _ _ _)
    | with_reducible apply Does.next (State.modHub_does _ _) | with_reducible apply Does.next (State.modMedia_does _ _)
    | with_reducible apply Does.next (lapseProposal_does _ _) | with_reducible apply Does.next (resetRings_does _ _)
    | with_reducible apply Does.next (stopSlot_does _ _) | with_reducible apply Does.each | exact rfl | intro _ _ | split
    | dsimp only

theorem resetLinkFunctions_does (s : State) (l : ℕ) : Does [.hub, .plt, .queues, .frames, .media, .service, .out] s (resetLinkFunctions s l) := by
  unfold resetLinkFunctions
  repeat' first
    | with_reducible apply Does.refl | with_reducible apply Does.next (State.modLink_does _ _ _)
    | with_reducible apply Does.next (beginDue_does _) | with_reducible apply Does.next (resetFunction_does _ _)
    | with_reducible apply Does.each | exact rfl | intro _ _ | dsimp only

theorem stopCodec_does (s : State) : Does [.media] s (stopCodec s) := by
  unfold stopCodec
  repeat' first
    | with_reducible apply Does.refl | with_reducible apply Does.next (State.modMedia_does _ _) | exact rfl | dsimp only

theorem failCp_does (s : State) : Does [.hub, .plt, .time, .media] s (failCp s) := by
  unfold failCp
  repeat' first
    | with_reducible apply Does.refl | with_reducible apply Does.next (State.modHub_does _ _)
    | with_reducible apply Does.next (State.modPlt_does _ _) | with_reducible apply Does.next (State.modTime_does _ _)
    | with_reducible apply Does.next (stopCodec_does _) | exact rfl | dsimp only

theorem sysInfoReadBody_does (s : State) (a1 : Req) : Does [] s (sysInfoReadBody s a1).state := by
  unfold sysInfoReadBody
  repeat' first
    | with_reducible apply Does.refl
    | dsimp only [Ans.ok, Ans.busy, Ans.badLen, Ans.badParam, Ans.notReady, Ans.conflict, Ans.accepted] | dsimp only

theorem cmdReadBody_does (s : State) (r : Req) : Does [] s (cmdReadBody s r).state := by
  unfold cmdReadBody
  repeat' first
    | with_reducible apply Does.refl
    | dsimp only [Ans.ok, Ans.busy, Ans.badLen, Ans.badParam, Ans.notReady, Ans.conflict, Ans.accepted] | split | dsimp only

theorem sysNopBody_does (s : State) (r : Req) : Does [] s (sysNopBody s r).state := by
  unfold sysNopBody
  repeat' first
    | with_reducible apply Does.refl
    | dsimp only [Ans.ok, Ans.busy, Ans.badLen, Ans.badParam, Ans.notReady, Ans.conflict, Ans.accepted] | dsimp only

theorem unknownAnswer_does (s : State) (r : Req) : Does [] s (unknownAnswer s r).state := by
  unfold unknownAnswer
  repeat' first
    | with_reducible apply Does.refl
    | dsimp only [Ans.ok, Ans.busy, Ans.badLen, Ans.badParam, Ans.notReady, Ans.conflict, Ans.accepted] | split | dsimp only

theorem ringWrite_does (s : State) (f : ℕ) (offset : ℕ) (size : ℕ) (v : Word) : Does [.hub, .queues] s (ringWrite s f offset size v) := by
  unfold ringWrite
  repeat' first
    | with_reducible apply Does.refl | with_reducible apply Does.next (State.modRing_does _ _ _)
    | with_reducible apply Does.next (violate_does _ _) | with_reducible apply Does.each | exact rfl | intro _ _ | split
    | dsimp only

theorem modStaged_does (s : State) (c : ℕ) (f : CanvasCfg → CanvasCfg) : Does [.frames] s (modStaged s c f) := by
  unfold modStaged
  repeat' first
    | with_reducible apply Does.refl | with_reducible apply Does.next (State.modCanvas_does _ _ _) | exact rfl | dsimp only

theorem canvasConfigBody_does (s : State) (r : Req) : Does [.frames] s (canvasConfigBody s r).state := by
  unfold canvasConfigBody
  repeat' first
    | with_reducible apply Does.refl | with_reducible apply Does.next (modStaged_does _ _ _)
    | dsimp only [Ans.ok, Ans.busy, Ans.badLen, Ans.badParam, Ans.notReady, Ans.conflict, Ans.accepted] | exact rfl | dsimp only

theorem canvasTilesBody_does (s : State) (r : Req) : Does [.frames] s (canvasTilesBody s r).state := by
  unfold canvasTilesBody
  repeat' first
    | with_reducible apply Does.refl | with_reducible apply Does.next (modStaged_does _ _ _) | with_reducible apply Does.foldl
    | with_reducible apply Does.foldlFst
    | dsimp only [Ans.ok, Ans.busy, Ans.badLen, Ans.badParam, Ans.notReady, Ans.conflict, Ans.accepted] | exact rfl | intro _ _
    | split | dsimp only

theorem layerConfigBody_does (s : State) (r : Req) : Does [.frames] s (layerConfigBody s r).state := by
  unfold layerConfigBody
  repeat' first
    | with_reducible apply Does.refl | with_reducible apply Does.next (State.modLayer_does _ _ _)
    | dsimp only [Ans.ok, Ans.busy, Ans.badLen, Ans.badParam, Ans.notReady, Ans.conflict, Ans.accepted] | exact rfl | dsimp only

theorem blendTreeBody_does (s : State) (r : Req) : Does [.frames] s (blendTreeBody s r).state := by
  unfold blendTreeBody
  repeat' first
    | with_reducible apply Does.refl | with_reducible apply Does.next (modStaged_does _ _ _)
    | dsimp only [Ans.ok, Ans.busy, Ans.badLen, Ans.badParam, Ans.notReady, Ans.conflict, Ans.accepted] | exact rfl | split
    | dsimp only

theorem canvasTimingBody_does (s : State) (r : Req) : Does [.frames] s (canvasTimingBody s r).state := by
  unfold canvasTimingBody
  repeat' first
    | with_reducible apply Does.refl | with_reducible apply Does.next (modStaged_does _ _ _)
    | dsimp only [Ans.ok, Ans.busy, Ans.badLen, Ans.badParam, Ans.notReady, Ans.conflict, Ans.accepted] | exact rfl | dsimp only

theorem tileScanBody_does (s : State) (r : Req) : Does [.frames] s (tileScanBody s r).state := by
  unfold tileScanBody
  repeat' first
    | with_reducible apply Does.refl | with_reducible apply Does.next (State.modFrames_does _ _ ?_)
    | dsimp only [Ans.ok, Ans.busy, Ans.badLen, Ans.badParam, Ans.notReady, Ans.conflict, Ans.accepted] | exact rfl
    | exact fun _ => ⟨rfl, rfl⟩ | dsimp only

theorem dueTables_does (s : State) (c : ℕ) (change : Bool) : Does [.frames] s (dueTables s c change) := by
  unfold dueTables
  repeat' first
    | with_reducible apply Does.refl | with_reducible apply Does.next (State.modTable_does _ _ _) | with_reducible apply Does.each
    | exact rfl | intro _ _ | split | dsimp only

theorem undueTables_does (s : State) (c : ℕ) : Does [.frames] s (undueTables s c) := by
  unfold undueTables
  repeat' first
    | with_reducible apply Does.refl | with_reducible apply Does.next (State.modTable_does _ _ _) | with_reducible apply Does.each
    | exact rfl | intro _ _ | split | dsimp only

theorem flipTables_does (s : State) (c : ℕ) (change : Bool) : Does [.frames] s (flipTables s c change) := by
  unfold flipTables
  repeat' first
    | with_reducible apply Does.refl | with_reducible apply Does.next (State.modTable_does _ _ _) | with_reducible apply Does.each
    | exact rfl | intro _ _ | split | dsimp only

theorem startChange_does (s : State) (c : ℕ) (cfg : CanvasCfg) (src : ℕ) (id : ℕ) (follow : optParam Bool false) : Does [.frames, .links, .out, .free] s (startChange s c cfg src id follow) := by
  unfold startChange
  repeat' first
    | with_reducible apply Does.refl | with_reducible apply Does.next (State.modCanvas_does _ _ _)
    | with_reducible apply Does.next (dueTables_does _ _ _) | with_reducible apply Does.next (startTxn_does _ _ _ _ _ _ _ _ _)
    | exact rfl | split | dsimp only

theorem acceptCommit_does (s : State) (c : ℕ) (cfg : CanvasCfg) (n : ℕ) : Does [.frames, .links, .out, .free] s (acceptCommit s c cfg n) := by
  unfold acceptCommit
  repeat' first
    | with_reducible apply Does.refl | with_reducible apply Does.next (State.modCanvas_does _ _ _)
    | with_reducible apply Does.next (dueTables_does _ _ _) | with_reducible apply Does.next (startTxn_does _ _ _ _ _ _ _ _ _)
    | exact rfl | split | dsimp only

theorem canvasCommitBody_does (s : State) (r : Req) : Does [.frames, .links, .out, .free] s (canvasCommitBody s r).state := by
  unfold canvasCommitBody
  repeat' first
    | with_reducible apply Does.refl | with_reducible apply Does.next (acceptCommit_does _ _ _ _)
    | with_reducible apply Does.next (startChange_does _ _ _ _ _ _)
    | dsimp only [Ans.ok, Ans.busy, Ans.badLen, Ans.badParam, Ans.notReady, Ans.conflict, Ans.accepted] | exact rfl | split
    | dsimp only

end Sys2Proof.Machine
end

