-- ==== Sys2Proof/Laws/DoesPower.lean ====
section
/-! SUPPORT. What each operation can change, one lemma an operation: firmware, fences, power, heat and memory. -/

set_option maxRecDepth 4000
set_option linter.unreachableTactic false
set_option linter.unusedTactic false

namespace Sys2Proof.Machine

theorem calEvent_does (s : State) (i : CalItem) (code : ℕ) : Does [.queues] s (calEvent s i code) := by
  unfold calEvent
  repeat' first
    | with_reducible apply Does.refl | with_reducible apply Does.next (raise_does _ _ _ _ _ _) | exact rfl | dsimp only

theorem setPath_does (s : State) (i : CalItem) (out : Bool) : Does [.queues, .frames, .links, .time] s (setPath s i out) := by
  unfold setPath
  repeat' first
    | with_reducible apply Does.refl | with_reducible apply Does.next (State.modPort_does _ _ _)
    | with_reducible apply Does.next (State.modTime_does _ _) | with_reducible apply Does.next (judgeIfIn_does _ _)
    | with_reducible apply Does.each | exact rfl | intro _ _ | split | dsimp only

theorem sendLinkset_does (s : State) (d : DieId) (p : ℕ) (preset : ℕ) : Does [.links, .out, .free] s (sendLinkset s d p preset) := by
  unfold sendLinkset
  repeat' first
    | with_reducible apply Does.refl | with_reducible apply Does.next (sendTime_does _ _ _ _ _ _) | exact rfl | split | dsimp only

theorem setLane_does (s : State) (d : DieId) (p : ℕ) (v : List ℤ) : Does [.links, .out, .free] s (setLane s d p v) := by
  unfold setLane
  repeat' first
    | with_reducible apply Does.refl | with_reducible apply Does.next (State.modPort_does _ _ _)
    | with_reducible apply Does.next (sendLinkset_does _ _ _ _) | exact rfl | split | dsimp only

theorem closeWindow_does (s : State) (i : CalItem) : Does [.queues, .frames, .links, .time, .service, .out, .free] s (closeWindow s i) := by
  unfold closeWindow
  repeat' first
    | with_reducible apply Does.refl | with_reducible apply Does.next (State.modCal_does _ _ _)
    | with_reducible apply Does.next (calEvent_does _ _ _) | with_reducible apply Does.next (setLane_does _ _ _ _)
    | with_reducible apply Does.next (setPath_does _ _ _) | exact rfl | split | dsimp only

theorem closeWindows_does (s : State) (p : CalItem → Bool) : Does [.queues, .frames, .links, .time, .service, .out, .free] s (closeWindows s p) := by
  unfold closeWindows
  repeat' first
    | with_reducible apply Does.refl | with_reducible apply Does.next (closeWindow_does _ _) | with_reducible apply Does.each
    | exact rfl | intro _ _ | dsimp only

theorem setRunning_does (s : State) (b : Bool) (trial : Bool) : Does [.hub] s (setRunning s b trial) := by
  unfold setRunning
  repeat' first
    | with_reducible apply Does.refl | with_reducible apply Does.next (State.modHub_does _ _) | exact rfl | dsimp only

theorem setMcStep_does (s : State) (n : ℕ) : Does [.firmware] s (setMcStep s n) := by
  unfold setMcStep
  repeat' first
    | with_reducible apply Does.refl | with_reducible apply Does.next (State.modFirmware_does _ _ ?_) | exact rfl
    | exact fun _ => rfl | dsimp only

theorem enterRestart_does (s : State) : Does [.hub, .plt, .queues, .frames, .links, .time, .service, .out, .free] s (enterRestart s) := by
  unfold enterRestart
  repeat' first
    | with_reducible apply Does.refl | with_reducible apply Does.next (State.modHub_does _ _)
    | with_reducible apply Does.next (beginRestart_does _) | with_reducible apply Does.next (closeWindows_does _ _) | exact rfl
    | split | dsimp only

theorem beginFallBack_does (s : State) (cause : ℕ) : Does [.hub, .plt, .queues, .frames, .links, .time, .firmware, .service, .out, .free] s (beginFallBack s cause) := by
  unfold beginFallBack
  repeat' first
    | with_reducible apply Does.refl | with_reducible apply Does.next (State.modFirmware_does _ _ ?_)
    | with_reducible apply Does.next (enterRestart_does _) | with_reducible apply Does.next (raise_does _ _ _ _ _ _)
    | with_reducible apply Does.next (setRunning_does _ _ _) | exact rfl | exact fun _ => rfl | exact fun _ => setSlot_fuse _ _ _
    | split | dsimp only

theorem fallBackDue_does (s : State) : Does [.hub, .plt, .queues, .frames, .links, .time, .firmware, .service, .out, .free] s (fallBackDue s) := by
  unfold fallBackDue
  repeat' first
    | with_reducible apply Does.refl | with_reducible apply Does.next (beginFallBack_does _ _) | exact rfl | split | dsimp only

theorem toRef_does (s : State) (st : RefState) : Does [.time] s (toRef s st) := by
  unfold toRef
  repeat' first
    | with_reducible apply Does.refl | with_reducible apply Does.next (State.modTime_does _ _) | exact rfl | split | dsimp only

theorem timeEvent_does (s : State) (code : ℕ) (data : Word) : Does [.queues] s (timeEvent s code data) := by
  unfold timeEvent
  repeat' first
    | with_reducible apply Does.refl | with_reducible apply Does.next (raise_does _ _ _ _ _ _) | exact rfl | dsimp only

theorem endFollow_does (s : State) (ok : Bool) : Does [.queues, .time] s (endFollow s ok) := by
  unfold endFollow
  repeat' first
    | with_reducible apply Does.refl | with_reducible apply Does.next (State.modTime_does _ _)
    | with_reducible apply Does.next (timeEvent_does _ _ _) | with_reducible apply Does.next (toRef_does _ _) | exact rfl | split
    | dsimp only

theorem State.modOc_does (s : State) (d : DieId) (f : OrdClock → OrdClock) : Does [.time] s (State.modOc s d f) := by
  unfold State.modOc
  repeat' first
    | with_reducible apply Does.refl | with_reducible apply Does.next (State.modTime_does _ _) | exact rfl | split | dsimp only

theorem setPortState_does (s : State) (port : ℕ) (v : BitVec 4) : Does [.queues, .time] s (setPortState s port v) := by
  unfold setPortState
  repeat' first
    | with_reducible apply Does.refl | with_reducible apply Does.next (State.modOc_does _ _ _)
    | with_reducible apply Does.next (raise_does _ _ _ _ _ _) | exact rfl | split | dsimp only

theorem followGm_does (before : State) (s : State) : Does [.queues, .time] s (followGm before s) := by
  unfold followGm
  repeat' first
    | with_reducible apply Does.refl | with_reducible apply Does.next (State.modTime_does _ _)
    | with_reducible apply Does.next (timeEvent_does _ _ _) | with_reducible apply Does.next (toRef_does _ _) | exact rfl | split
    | dsimp only

theorem restartPort_does (s : State) (port : ℕ) : Does [.queues, .time] s (restartPort s port) := by
  unfold restartPort
  repeat' first
    | with_reducible apply Does.refl | with_reducible apply Does.next (State.modOc_does _ _ _)
    | with_reducible apply Does.next (setPortState_does _ _ _) | exact rfl | split | dsimp only

theorem selectMaster_does (s : State) (d : DieId) : Does [.queues, .time] s (selectMaster s d) := by
  unfold selectMaster
  repeat' first
    | with_reducible apply Does.refl | with_reducible apply Does.next (State.modOc_does _ _ _)
    | with_reducible apply Does.next (setPortState_does _ _ _) | exact rfl | split | dsimp only

theorem recordError_does (s : State) (d : DieId) (k : ErrKind) : Does [.dies] s (recordError s d k) := by
  unfold recordError
  repeat' first
    | with_reducible apply Does.refl | with_reducible apply Does.next (State.modDie_does _ _ _) | exact rfl | dsimp only

theorem sendHeartbeat_does (s : State) (d : DieId) : Does [.dies, .out] s (sendHeartbeat s d) := by
  unfold sendHeartbeat
  repeat' first
    | with_reducible apply Does.refl | with_reducible apply Does.next (State.emit_does _ _)
    | with_reducible apply Does.next (State.modDie_does _ _ _) | exact rfl | dsimp only

theorem declareFatal_does (s : State) (d : DieId) (cause : ℕ) : Does [.dies, .out] s (declareFatal s d cause) := by
  unfold declareFatal
  repeat' first
    | with_reducible apply Does.refl | with_reducible apply Does.next (State.modDie_does _ _ _)
    | with_reducible apply Does.next (sendHeartbeat_does _ _) | exact rfl | split | dsimp only

theorem loseRegion_does (s : State) (d : DieId) (r : ℕ) : Does [.links, .dies, .out] s (loseRegion s d r) := by
  unfold loseRegion
  repeat' first
    | with_reducible apply Does.refl | with_reducible apply Does.next (State.modPort_does _ _ _)
    | with_reducible apply Does.next (State.modRegion_does _ _ _ _) | with_reducible apply Does.next (declareFatal_does _ _ _)
    | with_reducible apply Does.each | exact rfl | intro _ _ | split | dsimp only

theorem abortSlice_does (s : State) (d : DieId) (c : ℕ) : Does [.dies] s (abortSlice s d c) := by
  unfold abortSlice
  repeat' first
    | with_reducible apply Does.refl | with_reducible apply Does.next (State.modCluster_does _ _ _ _) | exact rfl | split
    | dsimp only

theorem scrubCluster_does (s : State) (d : DieId) (c : ℕ) : Does [.dies] s (scrubCluster s d c) := by
  unfold scrubCluster
  repeat' first
    | with_reducible apply Does.refl | with_reducible apply Does.next (State.modCluster_does _ _ _ _) | exact rfl | dsimp only

theorem soilCluster_does (s : State) (d : DieId) (c : ℕ) : Does [.dies] s (soilCluster s d c) := by
  unfold soilCluster
  repeat' first
    | with_reducible apply Does.refl | with_reducible apply Does.next (State.modCluster_does _ _ _ _) | exact rfl | dsimp only

theorem abortSlices_does (s : State) (d : DieId) : Does [.dies] s (abortSlices s d) := by
  unfold abortSlices
  repeat' first
    | with_reducible apply Does.refl | with_reducible apply Does.next (abortSlice_does _ _ _) | with_reducible apply Does.each
    | exact rfl | intro _ _ | dsimp only

theorem retireCluster_does (s : State) (d : DieId) (c : ℕ) (why : Retired) : Does [.links, .dies, .out] s (retireCluster s d c why) := by
  unfold retireCluster
  repeat' first
    | with_reducible apply Does.refl | with_reducible apply Does.next (State.modCluster_does _ _ _ _)
    | with_reducible apply Does.next (State.modRegion_does _ _ _ _) | with_reducible apply Does.next (abortSlice_does _ _ _)
    | with_reducible apply Does.next (loseRegion_does _ _ _) | with_reducible apply Does.next (recordError_does _ _ _)
    | with_reducible apply Does.next (scrubCluster_does _ _ _) | exact rfl | split | dsimp only

theorem State.modResults_does (s : State) (d : DieId) (f : Tbl (Option RegionRes) → Tbl (Option RegionRes)) : Does [.frames] s (State.modResults s d f) := by
  unfold State.modResults
  repeat' first
    | with_reducible apply Does.refl | with_reducible apply Does.next (State.modFrames_does _ _ ?_) | exact rfl
    | exact fun _ => ⟨rfl, rfl⟩ | split | dsimp only

theorem State.setResult_does (s : State) (d : DieId) (tile : ℕ) (region : ℕ) (r : RegionRes) : Does [.frames] s (State.setResult s d tile region r) := by
  unfold State.setResult
  repeat' first
    | with_reducible apply Does.refl | with_reducible apply Does.next (State.modResults_does _ _ _) | exact rfl | dsimp only

theorem abandonVotes_does (s : State) : Does [.frames, .links, .dies] s (abandonVotes s) := by
  unfold abandonVotes
  repeat' first
    | with_reducible apply Does.refl | with_reducible apply Does.next (State.modTile_does _ _ _)
    | with_reducible apply Does.next (State.modTwin_does _ _) | with_reducible apply Does.next (endUses_does _ _ _)
    | with_reducible apply Does.each | exact rfl | intro _ _ | dsimp only

theorem setMemory_does (s : State) (d : DieId) (m : MemMode) : Does [.clocks] s (setMemory s d m) := by
  unfold setMemory
  repeat' first
    | with_reducible apply Does.refl | with_reducible apply Does.next (State.setMem_does _ _ _) | exact rfl | dsimp only

theorem holdDie_does (s : State) (d : DieId) : Does [.queues, .frames, .links, .dies, .time, .clocks, .service, .out, .free] s (holdDie s d) := by
  unfold holdDie
  repeat' first
    | with_reducible apply Does.refl | with_reducible apply Does.next (State.modDie_does _ _ _)
    | with_reducible apply Does.next (State.modOp_does _ _ _) | with_reducible apply Does.next (State.modPort_does _ _ _)
    | with_reducible apply Does.next (State.modResults_does _ _ _) | with_reducible apply Does.next (State.modTime_does _ _)
    | with_reducible apply Does.next (State.modTwin_does _ _) | with_reducible apply Does.next (abandonVotes_does _)
    | with_reducible apply Does.next (closeWindows_does _ _) | with_reducible apply Does.next (followGm_does _ _)
    | with_reducible apply Does.next (judgeIfIn_does _ _) | with_reducible apply Does.next (setMemory_does _ _ _)
    | with_reducible apply Does.each | with_reducible apply Does.foldl | with_reducible apply Does.foldlFst | exact rfl
    | intro _ _ | split | dsimp only

theorem sendCommand_does (s : State) (d : DieId) (cmd : ℕ) : Does [.out] s (sendCommand s d cmd) := by
  unfold sendCommand
  repeat' first
    | with_reducible apply Does.refl | with_reducible apply Does.next (State.emit_does _ _) | exact rfl | dsimp only

theorem tickCommands_does (s : State) : Does [.dies, .out] s (tickCommands s) := by
  unfold tickCommands
  repeat' first
    | with_reducible apply Does.refl | with_reducible apply Does.next (State.modTwin_does _ _)
    | with_reducible apply Does.next (sendCommand_does _ _ _) | exact rfl | split | dsimp only

theorem roleChange_does (s : State) (st : ArbState) : Does [.dies] s (roleChange s st) := by
  unfold roleChange
  repeat' first
    | with_reducible apply Does.refl | with_reducible apply Does.next (State.modTwin_does _ _) | exact rfl | dsimp only

theorem setCause_does (s : State) (d : DieId) (cause : ℕ) : Does [.dies] s (setCause s d cause) := by
  unfold setCause
  repeat' first
    | with_reducible apply Does.refl | with_reducible apply Does.next (State.modTwin_does _ _) | exact rfl | split | dsimp only

theorem goOut_does (s : State) (d : DieId) : Does [.queues, .frames, .links, .dies, .time, .clocks, .service, .out, .free] s (goOut s d) := by
  unfold goOut
  repeat' first
    | with_reducible apply Does.refl | with_reducible apply Does.next (holdDie_does _ _)
    | with_reducible apply Does.next (raise_does _ _ _ _ _ _) | with_reducible apply Does.next (roleChange_does _ _) | exact rfl
    | dsimp only

theorem undoPromotion_does (s : State) (taken : Bool) : Does [.dies] s (undoPromotion s taken) := by
  unfold undoPromotion
  repeat' first
    | with_reducible apply Does.refl | with_reducible apply Does.next (State.modTwin_does _ _) | exact rfl | split | dsimp only

theorem promoteDie_does (s : State) (d : DieId) : Does [.dies, .out] s (promoteDie s d) := by
  unfold promoteDie
  repeat' first
    | with_reducible apply Does.refl | with_reducible apply Does.next (State.modTwin_does _ _)
    | with_reducible apply Does.next (sendCommand_does _ _ _) | exact rfl | dsimp only

theorem succeed_does (s : State) (d : DieId) : Does [.dies, .out] s (succeed s d) := by
  unfold succeed
  repeat' first
    | with_reducible apply Does.refl | with_reducible apply Does.next (State.modTwin_does _ _)
    | with_reducible apply Does.next (promoteDie_does _ _) | exact rfl | split | dsimp only

theorem fenceDie_does (s : State) (d : DieId) (cause : ℕ) : Does [.queues, .frames, .links, .dies, .time, .clocks, .firmware, .service, .out, .free] s (fenceDie s d cause) := by
  unfold fenceDie
  repeat' first
    | with_reducible apply Does.refl | with_reducible apply Does.next (State.modTwin_does _ _)
    | with_reducible apply Does.next (goOut_does _ _) | with_reducible apply Does.next (holdDie_does _ _)
    | with_reducible apply Does.next (raise_does _ _ _ _ _ _) | with_reducible apply Does.next (roleChange_does _ _)
    | with_reducible apply Does.next (sendCommand_does _ _ _) | with_reducible apply Does.next (setCause_does _ _ _)
    | with_reducible apply Does.next (setMcStep_does _ _) | with_reducible apply Does.next (succeed_does _ _)
    | with_reducible apply Does.next (undoPromotion_does _ _) | exact rfl | split | dsimp only

theorem countShed_does (s : State) (d : Die3) : Does [.therm] s (countShed s d) := by
  unfold countShed
  repeat' first
    | with_reducible apply Does.refl | with_reducible apply Does.next (State.modTherm_does _ _ _) | exact rfl | dsimp only

theorem setTargets_does (s : State) : Does [.clocks] s (setTargets s) := by
  unfold setTargets
  repeat' first
    | with_reducible apply Does.refl | with_reducible apply Does.next (State.modOp_does _ _ _) | exact rfl | dsimp only

theorem bandActs_does (s : State) (d : Die3) : Does [.dies, .clocks] s (bandActs s d) := by
  unfold bandActs
  repeat' first
    | with_reducible apply Does.refl | with_reducible apply Does.next (abortSlices_does _ _)
    | with_reducible apply Does.next (setTargets_does _) | exact rfl | split | dsimp only

theorem enterBand_does (s : State) (d : Die3) (b : Band) : Does [.queues, .dies, .clocks, .therm] s (enterBand s d b) := by
  unfold enterBand
  repeat' first
    | with_reducible apply Does.refl | with_reducible apply Does.next (State.modTherm_does _ _ _)
    | with_reducible apply Does.next (bandActs_does _ _) | with_reducible apply Does.next (raise_does _ _ _ _ _ _) | exact rfl
    | split | dsimp only

theorem judgeBand_does (s : State) (d : Die3) (t : ℤ) : Does [.queues, .dies, .clocks, .therm] s (judgeBand s d t) := by
  unfold judgeBand
  repeat' first
    | with_reducible apply Does.refl | with_reducible apply Does.next (State.modTherm_does _ _ _)
    | with_reducible apply Does.next (enterBand_does _ _ _) | exact rfl | split | dsimp only

theorem takeReading_does (s : State) (d : Die3) (t : ℤ) (bad : Bool) (judges : Bool) : Does [.queues, .dies, .clocks, .therm] s (takeReading s d t bad judges) := by
  unfold takeReading
  repeat' first
    | with_reducible apply Does.refl | with_reducible apply Does.next (State.modTherm_does _ _ _)
    | with_reducible apply Does.next (enterBand_does _ _ _) | with_reducible apply Does.next (judgeBand_does _ _ _)
    | with_reducible apply Does.next (raise_does _ _ _ _ _ _) | exact rfl | split | dsimp only

theorem readTripped_does (s : State) (d : Die3) (t : ℤ) : Does [.therm] s (readTripped s d t) := by
  unfold readTripped
  repeat' first
    | with_reducible apply Does.refl | with_reducible apply Does.next (State.modTherm_does _ _ _) | exact rfl | split | dsimp only

theorem moveLadder_does (s : State) : Does [.queues, .budget] s (moveLadder s) := by
  unfold moveLadder
  repeat' first
    | with_reducible apply Does.refl | with_reducible apply Does.next (State.modBudget_does _ _)
    | with_reducible apply Does.next (raise_does _ _ _ _ _ _) | exact rfl | split | dsimp only

theorem countMs_does (s : State) : Does [.queues, .therm, .budget] s (countMs s) := by
  unfold countMs
  repeat' first
    | with_reducible apply Does.refl | with_reducible apply Does.next (State.modBudget_does _ _)
    | with_reducible apply Does.next (State.modTherm_does _ _ _) | with_reducible apply Does.next (raise_does _ _ _ _ _ _)
    | with_reducible apply Does.each | exact rfl | intro _ _ | split | dsimp only

theorem sysPowerReadBody_does (s : State) (a1 : Req) : Does [] s (sysPowerReadBody s a1).state := by
  unfold sysPowerReadBody
  repeat' first
    | with_reducible apply Does.refl
    | dsimp only [Ans.ok, Ans.busy, Ans.badLen, Ans.badParam, Ans.notReady, Ans.conflict, Ans.accepted] | dsimp only

theorem diagThermalReadBody_does (s : State) (r : Req) : Does [] s (diagThermalReadBody s r).state := by
  unfold diagThermalReadBody
  repeat' first
    | with_reducible apply Does.refl
    | dsimp only [Ans.ok, Ans.busy, Ans.badLen, Ans.badParam, Ans.notReady, Ans.conflict, Ans.accepted] | split | dsimp only

theorem packageReset_does (s : State) : Does (allParts.take 14) s (packageReset s) := by
  refine ⟨?_, rfl, rfl, fun _ _ => rfl, fun _ _ => rfl⟩
  constructor <;> first | exact fun _ => rfl | rfl | exact fun h => absurd (by decide) h

theorem fenceBoth_does (s : State) (cause : ℕ) : Does [.queues, .frames, .links, .dies, .time, .clocks, .firmware, .service, .out, .free] s (fenceBoth s cause) := by
  unfold fenceBoth
  repeat' first
    | with_reducible apply Does.refl | with_reducible apply Does.next (State.modTwin_does _ _)
    | with_reducible apply Does.next (fenceDie_does _ _ _) | with_reducible apply Does.next (goOut_does _ _)
    | with_reducible apply Does.next (holdDie_does _ _) | with_reducible apply Does.next (raise_does _ _ _ _ _ _)
    | with_reducible apply Does.next (setCause_does _ _ _) | exact rfl | split | dsimp only

theorem setPll_does (s : State) (d : DieId) (v : Bool) : Does [.clocks] s (setPll s d v) := by
  unfold setPll
  repeat' first
    | with_reducible apply Does.refl | with_reducible apply Does.next (State.modClocks_does _ _) | exact rfl | split | dsimp only

theorem dropLink_does (s : State) (l : ℕ) : Does [.hub, .plt, .queues, .frames, .media, .service, .out] s (dropLink s l) := by
  unfold dropLink
  repeat' first
    | with_reducible apply Does.refl | with_reducible apply Does.next (State.modLink_does _ _ _)
    | with_reducible apply Does.next (resetLinkFunctions_does _ _) | exact rfl | dsimp only

theorem trimStep_does (s : State) : Does [.clocks] s (trimStep s) := by
  unfold trimStep
  repeat' first
    | with_reducible apply Does.refl | with_reducible apply Does.next (State.modClocks_does _ _) | exact rfl | dsimp only

theorem opFailed_does (s : State) (d : DieId) (target : ℕ) (why : ℕ) : Does [.queues, .dies, .clocks, .out, .free] s (opFailed s d target why) := by
  unfold opFailed
  repeat' first
    | with_reducible apply Does.refl | with_reducible apply Does.next (State.drawn_does _)
    | with_reducible apply Does.next (State.modOp_does _ _ _) | with_reducible apply Does.next (declareFatal_does _ _ _)
    | with_reducible apply Does.next (raise_does _ _ _ _ _ _) | exact rfl | split | dsimp only

theorem opDone_does (s : State) (d : DieId) (x : OpChange) : Does [.queues, .clocks] s (opDone s d x) := by
  unfold opDone
  repeat' first
    | with_reducible apply Does.refl | with_reducible apply Does.next (State.modOp_does _ _ _)
    | with_reducible apply Does.next (raise_does _ _ _ _ _ _) | exact rfl | dsimp only

theorem setGates_does (s : State) (m : PwrMode) : Does [.clocks] s (setGates s m) := by
  unfold setGates
  repeat' first
    | with_reducible apply Does.refl | with_reducible apply Does.next (State.modGate_does _ _ _) | with_reducible apply Does.each
    | exact rfl | intro _ _ | dsimp only

theorem setMemories_does (s : State) (m : MemMode) : Does [.clocks] s (setMemories s m) := by
  unfold setMemories
  repeat' first
    | with_reducible apply Does.refl | with_reducible apply Does.next (State.setMem_does _ _ _)
    | with_reducible apply Does.next (setMemory_does _ _ _) | with_reducible apply Does.foldl | with_reducible apply Does.foldlFst
    | exact rfl | intro _ _ | dsimp only

theorem setTransmitters_does (s : State) (quiet : Bool) : Does [.links, .out, .free] s (setTransmitters s quiet) := by
  unfold setTransmitters
  repeat' first
    | with_reducible apply Does.refl | with_reducible apply Does.next (enterQuiet_does _ _)
    | with_reducible apply Does.next (wake_does _ _ _) | with_reducible apply Does.each | exact rfl | intro _ _ | split
    | dsimp only

theorem sysPowerBody_does (s : State) (r : Req) : Does [.links, .clocks, .out, .free] s (sysPowerBody s r).state := by
  unfold sysPowerBody
  repeat' first
    | with_reducible apply Does.refl | with_reducible apply Does.next (State.modClocks_does _ _)
    | with_reducible apply Does.next (setGates_does _ _) | with_reducible apply Does.next (setTransmitters_does _ _)
    | dsimp only [Ans.ok, Ans.busy, Ans.badLen, Ans.badParam, Ans.notReady, Ans.conflict, Ans.accepted] | exact rfl | split
    | dsimp only

theorem reachMode_does (s : State) (m : PwrMode) : Does [.queues, .frames, .links, .clocks, .out, .free] s (reachMode s m) := by
  unfold reachMode
  repeat' first
    | with_reducible apply Does.refl
    | with_reducible apply Does.next (State.modClocks_does _ _)
    | with_reducible apply Does.next (State.modLayer_does _ _ _)
    | with_reducible apply Does.next (markCanvas_does _ _ _)
    | with_reducible apply Does.next (setGates_does _ _)
    | with_reducible apply Does.next (setMemories_does _ _)
    | with_reducible apply Does.next (setTransmitters_does _ _)
    | with_reducible apply Does.next (stopSlot_does _ _)
    | with_reducible apply Does.each
    | with_reducible apply Does.foldl
    | with_reducible apply Does.foldlFst
    | with_reducible apply Does.next (State.modFrames_bufs _ _ ?_)
    | exact fun _ _ _ => ⟨rfl, rfl⟩
    | exact rfl
    | exact fun _ => ⟨rfl, rfl⟩
    | exact fun _ => rfl
    | exact fun _ => setSlot_fuse _ _ _
    | intro _ _
    | split
    | dsimp only

theorem setTripPin_does (s : State) (d : Die3) (low : Bool) : Does [.service] s (setTripPin s d low) := by
  unfold setTripPin
  repeat' first
    | with_reducible apply Does.refl | with_reducible apply Does.next (State.modService_does _ _ ?_) | exact rfl
    | exact fun _ => rfl | split | dsimp only

theorem tripDie_does (s : State) (d : Die3) : Does [.therm, .service] s (tripDie s d) := by
  unfold tripDie
  repeat' first
    | with_reducible apply Does.refl | with_reducible apply Does.next (State.modTherm_does _ _ _)
    | with_reducible apply Does.next (setTripPin_does _ _ _) | exact rfl | dsimp only

theorem endPps_does (s : State) : Does [.time, .out] s (endPps s) := by
  unfold endPps
  repeat' first
    | with_reducible apply Does.refl | with_reducible apply Does.next (State.emit_does _ _)
    | with_reducible apply Does.next (State.modTime_does _ _) | exact rfl | split | dsimp only

theorem dueReset_does (s : State) : Does [.hub, .plt, .queues, .frames, .links, .dies, .time, .media, .clocks, .therm, .budget, .firmware, .service, .out] s (dueReset s) := by
  unfold dueReset
  repeat' first
    | with_reducible apply Does.refl | with_reducible apply Does.next (packageReset_does _) | exact rfl | split | dsimp only

theorem tickPort_does (s : State) (p : ℕ) : Does [.links, .out, .free] s (tickPort s p) := by
  unfold tickPort
  repeat' first
    | with_reducible apply Does.refl | with_reducible apply Does.next (emitIdle_does _ _)
    | with_reducible apply Does.next (enterQuiet_does _ _) | exact rfl | split | dsimp only

theorem tickPorts_does (s : State) : Does [.links, .out, .free] s (tickPorts s) := by
  unfold tickPorts
  repeat' first
    | with_reducible apply Does.refl | with_reducible apply Does.next (tickPort_does _ _) | with_reducible apply Does.each
    | exact rfl | intro _ _ | dsimp only

theorem idleTick_does (s : State) : Does [.hub, .plt, .queues, .frames, .links, .dies, .time, .media, .clocks, .therm, .budget, .firmware, .service, .out, .free] s (idleTick s) := by
  unfold idleTick
  repeat' first
    | with_reducible apply Does.refl | with_reducible apply Does.next (State.modClocks_does _ _)
    | with_reducible apply Does.next (State.modTime_does _ _) | with_reducible apply Does.next (dueReset_does _)
    | with_reducible apply Does.next (endPps_does _) | with_reducible apply Does.next (tickCommands_does _)
    | with_reducible apply Does.next (tickPorts_does _) | exact rfl | split | dsimp only

theorem memEvent_does (s : State) (d : Die3) (ch : ℕ) (code : ℕ) (data : Word) : Does [.queues] s (memEvent s d ch code data) := by
  unfold memEvent
  repeat' first
    | with_reducible apply Does.refl | with_reducible apply Does.next (raise_does _ _ _ _ _ _) | exact rfl | dsimp only

theorem failChannel_does (s : State) (d : Die3) (ch : ℕ) (cause : ℕ) : Does [.hub, .plt, .queues, .dies, .time, .media, .clocks, .out] s (failChannel s d ch cause) := by
  unfold failChannel
  repeat' first
    | with_reducible apply Does.refl | with_reducible apply Does.next (State.modChan_does _ _ _ _)
    | with_reducible apply Does.next (declareFatal_does _ _ _) | with_reducible apply Does.next (failCp_does _)
    | with_reducible apply Does.next (memEvent_does _ _ _ _ _) | exact rfl | split | dsimp only

theorem memStep_does (die : Die3) (channel : ℕ) (s : State) (aQ_QQ_internalQ_hygQ0 : MemStep) : Does [.queues, .clocks] s (memStep die channel s aQ_QQ_internalQ_hygQ0) := by
  unfold memStep
  repeat' first
    | with_reducible apply Does.refl | with_reducible apply Does.next (State.modChan_does _ _ _ _)
    | with_reducible apply Does.next (memEvent_does _ _ _ _ _) | exact rfl | split | dsimp only

theorem weakLine_does (s : State) (d : Die3) (ch : ℕ) (line : ℕ) : Does [.queues, .clocks] s (weakLine s d ch line) := by
  unfold weakLine
  repeat' first
    | with_reducible apply Does.refl | with_reducible apply Does.next (State.modChan_does _ _ _ _)
    | with_reducible apply Does.next (memEvent_does _ _ _ _ _) | exact rfl | split | dsimp only

theorem singleError_does (s : State) (d : Die3) (ch : ℕ) (line : ℕ) (n : ℕ) (patrol : Bool) : Does [.queues, .clocks] s (singleError s d ch line n patrol) := by
  unfold singleError
  repeat' first
    | with_reducible apply Does.refl | with_reducible apply Does.next (State.modChan_does _ _ _ _)
    | with_reducible apply Does.next (memEvent_does _ _ _ _ _) | with_reducible apply Does.next (weakLine_does _ _ _ _)
    | exact rfl | split | dsimp only

theorem damage_does (s : State) (d : Die3) (what : MemData) : Does [.frames, .dies, .out] s (damage s d what) := by
  unfold damage
  repeat' first
    | with_reducible apply Does.refl | with_reducible apply Does.next (State.poisonRecord_does _ _ _ _)
    | with_reducible apply Does.next (declareFatal_does _ _ _) | exact rfl | split | dsimp only

theorem poisonError_does (s : State) (d : Die3) : Does [.dies] s (poisonError s d) := by
  unfold poisonError
  repeat' first
    | with_reducible apply Does.refl | with_reducible apply Does.next (recordError_does _ _ _) | exact rfl | split | dsimp only

theorem poisonLine_does (s : State) (d : Die3) (ch : ℕ) (line : ℕ) (n : ℕ) (code : ℕ) (what : MemData) : Does [.queues, .frames, .dies, .clocks, .out] s (poisonLine s d ch line n code what) := by
  unfold poisonLine
  repeat' first
    | with_reducible apply Does.refl | with_reducible apply Does.next (State.modChan_does _ _ _ _)
    | with_reducible apply Does.next (damage_does _ _ _) | with_reducible apply Does.next (memEvent_does _ _ _ _ _)
    | with_reducible apply Does.next (poisonError_does _ _) | exact rfl | dsimp only

theorem diagMemReadBody_does (s : State) (r : Req) : Does [] s (diagMemReadBody s r).state := by
  unfold diagMemReadBody
  repeat' first
    | with_reducible apply Does.refl
    | dsimp only [Ans.ok, Ans.busy, Ans.badLen, Ans.badParam, Ans.notReady, Ans.conflict, Ans.accepted] | split | dsimp only

end Sys2Proof.Machine
end

