-- ==== Sys2Proof/Laws/DoesLinks.lean ====
section
/-! SUPPORT. What each operation can change, one lemma an operation: votes, tests, tile transactions and tile links. -/

set_option maxRecDepth 4000
set_option linter.unreachableTactic false
set_option linter.unusedTactic false

namespace Sys2Proof.Machine

theorem State.modVote_does (s : State) (v : Vote) (f : Vote → Vote) : Does [.dies] s (State.modVote s v f) := by
  unfold State.modVote
  repeat' first
    | with_reducible apply Does.refl | with_reducible apply Does.next (State.modTwin_does _ _) | exact rfl | split | dsimp only

theorem endVote_does (s : State) (v : Vote) (outcome : ℕ) (cluster : ℕ) (trusted : Option (BitVec 32)) : Does [.queues, .frames, .links, .dies] s (endVote s v outcome cluster trusted) := by
  unfold endVote
  repeat' first
    | with_reducible apply Does.refl | with_reducible apply Does.next (State.modTile_does _ _ _)
    | with_reducible apply Does.next (State.modVote_does _ _ _) | with_reducible apply Does.next (endUses_does _ _ _)
    | with_reducible apply Does.next (raise_does _ _ _ _ _ _) | exact rfl | split | dsimp only

theorem loseTie_does (s : State) (v : Vote) (d : DieId) : Does [.queues, .frames, .links, .dies, .out] s (loseTie s v d) := by
  unfold loseTie
  repeat' first
    | with_reducible apply Does.refl | with_reducible apply Does.next (declareFatal_does _ _ _)
    | with_reducible apply Does.next (endVote_does _ _ _ _ _) | exact rfl | split | dsimp only

theorem inconclusive_does (s : State) (v : Vote) : Does [.queues, .frames, .links, .dies] s (inconclusive s v) := by
  unfold inconclusive
  repeat' first
    | with_reducible apply Does.refl | with_reducible apply Does.next (State.modTwin_does _ _)
    | with_reducible apply Does.next (endVote_does _ _ _ _ _) | exact rfl | dsimp only

theorem tieBreak_does (s : State) (v : Vote) : Does [.queues, .frames, .links, .dies, .out] s (tieBreak s v) := by
  unfold tieBreak
  repeat' first
    | with_reducible apply Does.refl | with_reducible apply Does.next (State.modCluster_does _ _ _ _)
    | with_reducible apply Does.next (State.modVote_does _ _ _) | with_reducible apply Does.next (inconclusive_does _ _)
    | with_reducible apply Does.next (loseTie_does _ _ _) | exact rfl | split | dsimp only

theorem settleTie_does (s : State) (v : Vote) : Does [.queues, .frames, .links, .dies, .out] s (settleTie s v) := by
  unfold settleTie
  repeat' first
    | with_reducible apply Does.refl | with_reducible apply Does.next (inconclusive_does _ _)
    | with_reducible apply Does.next (loseTie_does _ _ _) | exact rfl | split | dsimp only

theorem decideVote_does (s : State) (v : Vote) : Does [.queues, .frames, .links, .dies, .out] s (decideVote s v) := by
  unfold decideVote
  repeat' first
    | with_reducible apply Does.refl | with_reducible apply Does.next (endVote_does _ _ _ _ _)
    | with_reducible apply Does.next (retireCluster_does _ _ _ _) | with_reducible apply Does.next (tieBreak_does _ _) | exact rfl
    | split | dsimp only

theorem tieResult_does (s : State) (d : DieId) (c : ℕ) (result : Option Bool) : Does [.queues, .frames, .links, .dies, .out] s (tieResult s d c result) := by
  unfold tieResult
  repeat' first
    | with_reducible apply Does.refl | with_reducible apply Does.next (State.modVote_does _ _ _)
    | with_reducible apply Does.next (settleTie_does _ _) | exact rfl | split | dsimp only

theorem slicePassed_does (s : State) (d : DieId) (c : ℕ) : Does [.queues, .dies, .clocks] s (slicePassed s d c) := by
  unfold slicePassed
  repeat' first
    | with_reducible apply Does.refl | with_reducible apply Does.next (State.modCluster_does _ _ _ _)
    | with_reducible apply Does.next (raise_does _ _ _ _ _ _) | with_reducible apply Does.next (setTargets_does _) | exact rfl
    | split | dsimp only

theorem diagBistReadBody_does (s : State) (r : Req) : Does [] s (diagBistReadBody s r).state := by
  unfold diagBistReadBody
  repeat' first
    | with_reducible apply Does.refl
    | dsimp only [Ans.ok, Ans.busy, Ans.badLen, Ans.badParam, Ans.notReady, Ans.conflict, Ans.accepted] | split | dsimp only

theorem tileEvent_does (s : State) (t : ℕ) (code : ℕ) (rest : optParam Word 0) : Does [.queues] s (tileEvent s t code rest) := by
  unfold tileEvent
  repeat' first
    | with_reducible apply Does.refl | with_reducible apply Does.next (raise_does _ _ _ _ _ _) | exact rfl | dsimp only

theorem startWaiting_does (s : State) (tiles : List ℕ) : Does [.plt, .links, .out, .free] s (startWaiting s tiles) := by
  unfold startWaiting
  repeat' first
    | with_reducible apply Does.refl | with_reducible apply Does.next (startDrive_does _ _) | with_reducible apply Does.each
    | exact rfl | intro _ _ | dsimp only

theorem stageIdle_does (s : State) (t : ℕ) : Does [.links, .out, .free] s (stageIdle s t) := by
  unfold stageIdle
  repeat' first
    | with_reducible apply Does.refl | with_reducible apply Does.next (startTxn_does _ _ _ _ _ _ _ _ _) | exact rfl | split
    | dsimp only

theorem afterTxn_does (s : State) (x : Txn) (tiles : List ℕ) : Does [.plt, .links, .out, .free] s (afterTxn s x tiles) := by
  unfold afterTxn
  repeat' first
    | with_reducible apply Does.refl | with_reducible apply Does.next (stageIdle_does _ _)
    | with_reducible apply Does.next (startWaiting_does _ _) | with_reducible apply Does.each | exact rfl | intro _ _ | split
    | dsimp only

theorem waitsInForce_does (s : State) (t : ℕ) (p : PltWait → Bool) : Does [.plt, .queues, .frames] s (waitsInForce s t p) := by
  unfold waitsInForce
  repeat' first
    | with_reducible apply Does.refl | with_reducible apply Does.next (State.modPlt_does _ _)
    | with_reducible apply Does.next (putInForce_does _ _) | with_reducible apply Does.each | exact rfl | intro _ _ | dsimp only

theorem driveInForce_does (s : State) (t : ℕ) : Does [.plt, .queues, .frames] s (driveInForce s t) := by
  unfold driveInForce
  repeat' first
    | with_reducible apply Does.refl | with_reducible apply Does.next (waitsInForce_does _ _ _) | exact rfl | dsimp only

theorem endChange_does (s : State) (c : ℕ) (status : ℕ) (newFrame : ℕ) (failed : List ℕ) : Does [.hub, .queues, .frames, .time] s (endChange s c status newFrame failed) := by
  unfold endChange
  repeat' first
    | with_reducible apply Does.refl | with_reducible apply Does.next (State.modCanvas_does _ _ _)
    | with_reducible apply Does.next (endFollow_does _ _) | with_reducible apply Does.next (finishLong_does _ _ _ _ _)
    | with_reducible apply Does.next (raise_does _ _ _ _ _ _) | with_reducible apply Does.next (undueTables_does _ _) | exact rfl
    | split | dsimp only

theorem relayDrop_does (s : State) (tiles : List ℕ) : Does [.firmware] s (relayDrop s tiles) := by
  unfold relayDrop
  repeat' first
    | with_reducible apply Does.refl | with_reducible apply Does.next (State.modFirmware_does _ _ ?_) | exact rfl
    | exact fun _ => rfl | dsimp only

theorem relayNext_does (s : State) (port : ℕ) : Does [.links, .firmware, .out, .free] s (relayNext s port) := by
  unfold relayNext
  repeat' first
    | with_reducible apply Does.refl | with_reducible apply Does.next (State.modFirmware_does _ _ ?_)
    | with_reducible apply Does.next (startTxn_does _ _ _ _ _ _ _ _ _) | exact rfl | exact fun _ => rfl | split | dsimp only

theorem relayGoesOn_does (s : State) (x : Txn) (failed : List ℕ) : Does [.links, .firmware, .out, .free] s (relayGoesOn s x failed) := by
  unfold relayGoesOn
  repeat' first
    | with_reducible apply Does.refl | with_reducible apply Does.next (relayDrop_does _ _)
    | with_reducible apply Does.next (relayNext_does _ _) | with_reducible apply Does.foldl | with_reducible apply Does.foldlFst
    | exact rfl | intro _ _ | split | dsimp only

theorem failTxn_does (s : State) (x : Txn) (failed : List ℕ) : Does [.hub, .plt, .queues, .frames, .links, .time, .firmware, .out, .free] s (failTxn s x failed) := by
  unfold failTxn
  repeat' first
    | with_reducible apply Does.refl | with_reducible apply Does.next (State.modTile_does _ _ _)
    | with_reducible apply Does.next (abortTxn_does _ _ _) | with_reducible apply Does.next (afterTxn_does _ _ _)
    | with_reducible apply Does.next (carryWaits_does _ _ _) | with_reducible apply Does.next (endChange_does _ _ _ _ _)
    | with_reducible apply Does.next (relayGoesOn_does _ _ _) | with_reducible apply Does.next (tileEvent_does _ _ _ _)
    | with_reducible apply Does.each | exact rfl | intro _ _ | split | dsimp only

theorem closeTxn_does (s : State) (x : Txn) : Does [.hub, .plt, .queues, .links, .firmware, .out, .free] s (closeTxn s x) := by
  unfold closeTxn
  repeat' first
    | with_reducible apply Does.refl | with_reducible apply Does.next (State.modTile_does _ _ _)
    | with_reducible apply Does.next (afterTxn_does _ _ _) | with_reducible apply Does.next (endTxn_does _ _ _ _)
    | with_reducible apply Does.next (relayGoesOn_does _ _ _) | with_reducible apply Does.each | exact rfl | intro _ _ | split
    | dsimp only

theorem commitTxn_does (s : State) (x : Txn) : Does [.plt, .queues, .frames, .links, .out, .free] s (commitTxn s x) := by
  unfold commitTxn
  repeat' first
    | with_reducible apply Does.refl | with_reducible apply Does.next (State.modTxn_does _ _ _)
    | with_reducible apply Does.next (driveInForce_does _ _) | with_reducible apply Does.next (sendCommits_does _ _)
    | with_reducible apply Does.each | exact rfl | intro _ _ | split | dsimp only

theorem applyBlocks_does (s : State) (x : Txn) (t : ℕ) : Does [.links] s (applyBlocks s x t) := by
  unfold applyBlocks
  repeat' first
    | with_reducible apply Does.refl | with_reducible apply Does.next (State.modTile_does _ _ _) | with_reducible apply Does.each
    | exact rfl | intro _ _ | split | dsimp only

theorem sendPing_does (s : State) (p : ℕ) (pos : ℕ) : Does [.links, .out, .free] s (sendPing s p pos) := by
  unfold sendPing
  repeat' first
    | with_reducible apply Does.refl | with_reducible apply Does.next (sendTime_does _ _ _ _ _ _) | exact rfl | dsimp only

theorem startHop_does (s : State) (p : ℕ) (pos : ℕ) : Does [.links, .out, .free] s (startHop s p pos) := by
  unfold startHop
  repeat' first
    | with_reducible apply Does.refl | with_reducible apply Does.next (State.modHop_does _ _ _ _)
    | with_reducible apply Does.next (sendPing_does _ _ _) | exact rfl | dsimp only

theorem startHops_does (s : State) (t : ℕ) : Does [.links, .out, .free] s (startHops s t) := by
  unfold startHops
  repeat' first
    | with_reducible apply Does.refl | with_reducible apply Does.next (startHop_does _ _ _) | with_reducible apply Does.each
    | exact rfl | intro _ _ | dsimp only

theorem holdBack_does (s : State) (t : ℕ) (cause : ℕ) : Does [.queues, .links] s (holdBack s t cause) := by
  unfold holdBack
  repeat' first
    | with_reducible apply Does.refl | with_reducible apply Does.next (State.modTile_does _ _ _)
    | with_reducible apply Does.next (tileEvent_does _ _ _ _) | exact rfl | split | dsimp only

theorem assignTile_does (s : State) (t : ℕ) : Does [.frames, .links, .out, .free] s (assignTile s t) := by
  unfold assignTile
  repeat' first
    | with_reducible apply Does.refl | with_reducible apply Does.next (State.modTile_does _ _ _)
    | with_reducible apply Does.next (markTile_does _ _) | with_reducible apply Does.next (sendTime_does _ _ _ _ _ _) | exact rfl
    | split | dsimp only

theorem configureTile_does (s : State) (t : ℕ) : Does [.frames, .links, .out, .free] s (configureTile s t) := by
  unfold configureTile
  repeat' first
    | with_reducible apply Does.refl | with_reducible apply Does.next (State.modTile_does _ _ _)
    | with_reducible apply Does.next (markTile_does _ _) | with_reducible apply Does.next (startTxn_does _ _ _ _ _ _ _ _ _)
    | exact rfl | split | dsimp only

theorem rejudge_does (s : State) : Does [.frames, .links, .out, .free] s (rejudge s) := by
  unfold rejudge
  repeat' first
    | with_reducible apply Does.refl | with_reducible apply Does.next (assignTile_does _ _)
    | with_reducible apply Does.next (configureTile_does _ _) | with_reducible apply Does.next (startHops_does _ _)
    | with_reducible apply Does.each | exact rfl | intro _ _ | split | dsimp only

theorem endChain_does (s : State) (j : ChainJob) : Does [.hub, .queues, .links] s (endChain s j) := by
  unfold endChain
  repeat' first
    | with_reducible apply Does.refl | with_reducible apply Does.next (State.modLinks_does _ _)
    | with_reducible apply Does.next (finishLong_does _ _ _ _ _) | with_reducible apply Does.next (raise_does _ _ _ _ _ _)
    | exact rfl | split | dsimp only

theorem settleChain_does (s : State) (port : ℕ) : Does [.hub, .queues, .links] s (settleChain s port) := by
  unfold settleChain
  repeat' first
    | with_reducible apply Does.refl | with_reducible apply Does.next (endChain_does _ _) | exact rfl | split | dsimp only

theorem pltConfirmBody_does (s : State) (r : Req) : Does [.plt, .queues, .frames, .links, .out, .free] s (pltConfirmBody s r).state := by
  unfold pltConfirmBody
  repeat' first
    | with_reducible apply Does.refl | with_reducible apply Does.next (State.modPlt_does _ _)
    | with_reducible apply Does.next (applyConfirmed_does _ _) | with_reducible apply Does.next (lapseProposal_does _ _)
    | with_reducible apply Does.next (raise_does _ _ _ _ _ _) | with_reducible apply Does.next (rejudge_does _)
    | dsimp only [Ans.ok, Ans.busy, Ans.badLen, Ans.badParam, Ans.notReady, Ans.conflict, Ans.accepted] | exact rfl | split
    | dsimp only

theorem tileMapBody_does (s : State) (r : Req) : Does [.plt, .links] s (tileMapBody s r).state := by
  unfold tileMapBody
  repeat' first
    | with_reducible apply Does.refl | with_reducible apply Does.next (State.modTile_does _ _ _)
    | with_reducible apply Does.next (settingsDue_does _)
    | dsimp only [Ans.ok, Ans.busy, Ans.badLen, Ans.badParam, Ans.notReady, Ans.conflict, Ans.accepted] | exact rfl | split
    | dsimp only

theorem tilePrefsBody_does (s : State) (r : Req) : Does [.links] s (tilePrefsBody s r).state := by
  unfold tilePrefsBody
  repeat' first
    | with_reducible apply Does.refl | with_reducible apply Does.next (State.modTile_does _ _ _)
    | dsimp only [Ans.ok, Ans.busy, Ans.badLen, Ans.badParam, Ans.notReady, Ans.conflict, Ans.accepted] | exact rfl | split
    | dsimp only

theorem startPrefs_does (s : State) (src : ℕ) (id : ℕ) (tiles : List ℕ) (c : Option ℕ) : Does [.links, .out, .free] s (startPrefs s src id tiles c) := by
  unfold startPrefs
  repeat' first
    | with_reducible apply Does.refl | with_reducible apply Does.next (startTxn_does _ _ _ _ _ _ _ _ _) | exact rfl | split
    | dsimp only

theorem heldPrefs_does (s : State) (tiles : List ℕ) : Does [.links] s (heldPrefs s tiles) := by
  unfold heldPrefs
  repeat' first
    | with_reducible apply Does.refl | with_reducible apply Does.next (State.modTile_does _ _ _) | with_reducible apply Does.each
    | exact rfl | intro _ _ | dsimp only

theorem tileCommitBody_does (s : State) (r : Req) : Does [.links, .out, .free] s (tileCommitBody s r).state := by
  unfold tileCommitBody
  repeat' first
    | with_reducible apply Does.refl | with_reducible apply Does.next (heldPrefs_does _ _)
    | with_reducible apply Does.next (startPrefs_does _ _ _ _ _) | with_reducible apply Does.foldl
    | with_reducible apply Does.foldlFst
    | dsimp only [Ans.ok, Ans.busy, Ans.badLen, Ans.badParam, Ans.notReady, Ans.conflict, Ans.accepted] | exact rfl | intro _ _
    | split | dsimp only

theorem tileTxnReadBody_does (s : State) (r : Req) : Does [] s (tileTxnReadBody s r).state := by
  unfold tileTxnReadBody
  repeat' first
    | with_reducible apply Does.refl
    | dsimp only [Ans.ok, Ans.busy, Ans.badLen, Ans.badParam, Ans.notReady, Ans.conflict, Ans.accepted] | split | dsimp only

theorem tileReadBody_does (s : State) (r : Req) : Does [] s (tileReadBody s r).state := by
  unfold tileReadBody
  repeat' first
    | with_reducible apply Does.refl
    | dsimp only [Ans.ok, Ans.busy, Ans.badLen, Ans.badParam, Ans.notReady, Ans.conflict, Ans.accepted] | split | dsimp only

theorem portConfigBody_does (s : State) (r : Req) : Does [.plt, .links] s (portConfigBody s r).state := by
  unfold portConfigBody
  repeat' first
    | with_reducible apply Does.refl | with_reducible apply Does.next (State.modLinks_does _ _)
    | with_reducible apply Does.next (settingsDue_does _) | with_reducible apply Does.each
    | dsimp only [Ans.ok, Ans.busy, Ans.badLen, Ans.badParam, Ans.notReady, Ans.conflict, Ans.accepted] | exact rfl | intro _ _
    | split | dsimp only

theorem cutTxn_does (s : State) (x : Txn) (port : ℕ) : Does [.hub, .plt, .queues, .frames, .links, .time, .out, .free] s (cutTxn s x port) := by
  unfold cutTxn
  repeat' first
    | with_reducible apply Does.refl | with_reducible apply Does.next (abortTxn_does _ _ _)
    | with_reducible apply Does.next (afterTxn_does _ _ _) | with_reducible apply Does.next (endChange_does _ _ _ _ _)
    | with_reducible apply Does.next (endTxn_does _ _ _ _) | exact rfl | split | dsimp only

theorem chainResetBody_does (s : State) (r : Req) : Does [.hub, .plt, .queues, .frames, .links, .time, .firmware, .out, .free] s (chainResetBody s r).state := by
  unfold chainResetBody
  repeat' first
    | with_reducible apply Does.refl | with_reducible apply Does.next (State.modLinks_does _ _)
    | with_reducible apply Does.next (State.modPort_does _ _ _) | with_reducible apply Does.next (cutTxn_does _ _ _)
    | with_reducible apply Does.next (finishLong_does _ _ _ _ _) | with_reducible apply Does.next (relayDrop_does _ _)
    | with_reducible apply Does.next (sendMgmtAll_does _ _ _ _) | with_reducible apply Does.next (startTxn_does _ _ _ _ _ _ _ _ _)
    | with_reducible apply Does.each | with_reducible apply Does.foldl | with_reducible apply Does.foldlFst
    | dsimp only [Ans.ok, Ans.busy, Ans.badLen, Ans.badParam, Ans.notReady, Ans.conflict, Ans.accepted] | exact rfl | intro _ _
    | split | dsimp only

theorem takeMap_does (s : State) (port : ℕ) : Does [.plt, .queues, .frames, .links] s (takeMap s port) := by
  unfold takeMap
  repeat' first
    | with_reducible apply Does.refl | with_reducible apply Does.next (State.modLinks_does _ _)
    | with_reducible apply Does.next (State.modPort_does _ _ _) | with_reducible apply Does.next (State.modTile_does _ _ _)
    | with_reducible apply Does.next (loadScrims_does _) | with_reducible apply Does.next (waitsInForce_does _ _ _)
    | with_reducible apply Does.each | exact rfl | intro _ _ | split | dsimp only

theorem diagPortReadBody_does (s : State) (r : Req) : Does [] s (diagPortReadBody s r).state := by
  unfold diagPortReadBody
  repeat' first
    | with_reducible apply Does.refl
    | dsimp only [Ans.ok, Ans.busy, Ans.badLen, Ans.badParam, Ans.notReady, Ans.conflict, Ans.accepted] | split | dsimp only

theorem hear_fst (s : State) (p : ℕ) (a : Arrival) : Does [.links] s (hear s p a).1 := by
  unfold hear
  repeat' first
    | with_reducible apply Does.refl | with_reducible apply Does.next (State.modPort_does _ _ _) | exact rfl | split | dsimp only
theorem hear_does {s : State} {p : ℕ} {a : Arrival} {t : State} {x : Option Frame} (he : hear s p a = (t, x)) : Does [.links] s t := by
  have := hear_fst s p a
  rw [he] at this; exact this

theorem takeUcnt_fst (s : State) (p : ℕ) (h : Frame) : Does [.links] s (takeUcnt s p h).1 := by
  unfold takeUcnt
  repeat' first
    | with_reducible apply Does.refl | with_reducible apply Does.next (State.modPort_does _ _ _) | exact rfl | split | dsimp only
theorem takeUcnt_does {s : State} {p : ℕ} {h : Frame} {t : State} {x : Bool} (he : takeUcnt s p h = (t, x)) : Does [.links] s t := by
  have := takeUcnt_fst s p h
  rw [he] at this; exact this

theorem echoRegion_does (s : State) (p : ℕ) (tile : ℕ) (frame24 : ℕ) (region : ℕ) (crc : BitVec 32) : Does [.queues, .frames, .links] s (echoRegion s p tile frame24 region crc) := by
  unfold echoRegion
  repeat' first
    | with_reducible apply Does.refl | with_reducible apply Does.next (State.modPort_does _ _ _)
    | with_reducible apply Does.next (State.modResults_does _ _ _) | with_reducible apply Does.next (raise_does _ _ _ _ _ _)
    | exact rfl | split | dsimp only

theorem ackStage_does (s : State) (x : Txn) (t : ℕ) (crc : BitVec 32) : Does [.plt, .queues, .frames, .links, .out, .free] s (ackStage s x t crc) := by
  unfold ackStage
  repeat' first
    | with_reducible apply Does.refl | with_reducible apply Does.next (State.modTxn_does _ _ _)
    | with_reducible apply Does.next (commitTxn_does _ _) | with_reducible apply Does.next (sendCommit_does _ _ _)
    | with_reducible apply Does.next (sendStage_does _ _ _) | exact rfl | split | dsimp only

theorem takeResult_does (s : State) (x : Txn) (t : ℕ) (result : ℕ) : Does [.hub, .plt, .queues, .frames, .links, .firmware, .out, .free] s (takeResult s x t result) := by
  unfold takeResult
  repeat' first
    | with_reducible apply Does.refl | with_reducible apply Does.next (State.modTile_does _ _ _)
    | with_reducible apply Does.next (State.modTxn_does _ _ _) | with_reducible apply Does.next (applyBlocks_does _ _ _)
    | with_reducible apply Does.next (closeTxn_does _ _) | with_reducible apply Does.next (markTile_does _ _)
    | with_reducible apply Does.next (sendStage_does _ _ _) | exact rfl | split | dsimp only

theorem echoEntry_does (s : State) (p : ℕ) (tile : ℕ) (frame24 : ℕ) (w : Word) : Does [.hub, .plt, .queues, .frames, .links, .firmware, .out, .free] s (echoEntry s p tile frame24 w) := by
  unfold echoEntry
  repeat' first
    | with_reducible apply Does.refl | with_reducible apply Does.next (ackStage_does _ _ _ _)
    | with_reducible apply Does.next (echoRegion_does _ _ _ _ _ _) | with_reducible apply Does.next (takeResult_does _ _ _ _)
    | exact rfl | split | dsimp only

theorem takeEcho_does (s : State) (port : ℕ) (f : Frame) : Does [.hub, .plt, .queues, .frames, .links, .firmware, .out, .free] s (takeEcho s port f) := by
  unfold takeEcho
  repeat' first
    | with_reducible apply Does.refl | with_reducible apply Does.next (echoEntry_does _ _ _ _ _)
    | with_reducible apply Does.next (takeUcnt_fst _ _ _) | refine Does.next (takeUcnt_does (by assumption)) rfl ?_
    | with_reducible apply Does.each | exact rfl | intro _ _ | split | dsimp only

theorem takeVersion_does (s : State) (t : ℕ) (ver : BitVec 32) : Does [.queues, .links, .firmware] s (takeVersion s t ver) := by
  unfold takeVersion
  repeat' first
    | with_reducible apply Does.refl | with_reducible apply Does.next (State.modFirmware_does _ _ ?_)
    | with_reducible apply Does.next (State.modTile_does _ _ _) | with_reducible apply Does.next (tileEvent_does _ _ _ _)
    | exact rfl | exact fun _ => rfl | split | dsimp only

theorem gather_does (s : State) (t : ℕ) (words : List Word) : Does [.frames] s (gather s t words) := by
  unfold gather
  repeat' first
    | with_reducible apply Does.refl | with_reducible apply Does.next (State.modSafe_does _ _ _) | exact rfl | dsimp only

theorem statusEvents_does (s : State) (t : ℕ) (old : Option StatusRec) (words : List Word) : Does [.queues, .links] s (statusEvents s t old words) := by
  unfold statusEvents
  repeat' first
    | with_reducible apply Does.refl | with_reducible apply Does.next (State.modTile_does _ _ _)
    | with_reducible apply Does.next (tileEvent_does _ _ _ _) | exact rfl | split | dsimp only

theorem segmentUp_does (s : State) (port : ℕ) : Does [.frames, .links, .out, .free] s (segmentUp s port) := by
  unfold segmentUp
  repeat' first
    | with_reducible apply Does.refl | with_reducible apply Does.next (markTile_does _ _)
    | with_reducible apply Does.next (startHops_does _ _) | with_reducible apply Does.each | exact rfl | intro _ _ | dsimp only

theorem judgeStatus_does (s : State) (t : ℕ) : Does [.queues, .frames, .links, .out, .free] s (judgeStatus s t) := by
  unfold judgeStatus
  repeat' first
    | with_reducible apply Does.refl | with_reducible apply Does.next (State.modTile_does _ _ _)
    | with_reducible apply Does.next (configureTile_does _ _) | with_reducible apply Does.next (holdBack_does _ _ _) | exact rfl
    | split | dsimp only

theorem takeStatus_does (s : State) (port : ℕ) (h : Frame) : Does [.hub, .queues, .frames, .links, .firmware, .out, .free] s (takeStatus s port h) := by
  unfold takeStatus
  repeat' first
    | with_reducible apply Does.refl | with_reducible apply Does.next (State.modTile_does _ _ _)
    | with_reducible apply Does.next (gather_does _ _ _) | with_reducible apply Does.next (judgeStatus_does _ _)
    | with_reducible apply Does.next (segmentUp_does _ _) | with_reducible apply Does.next (settleChain_does _ _)
    | with_reducible apply Does.next (statusEvents_does _ _ _ _) | with_reducible apply Does.next (takeUcnt_fst _ _ _)
    | with_reducible apply Does.next (takeVersion_does _ _ _) | refine Does.next (takeUcnt_does (by assumption)) rfl ?_
    | exact rfl | split | dsimp only

theorem sendSet_does (s : State) (p : ℕ) (pos : ℕ) : Does [.links, .out, .free] s (sendSet s p pos) := by
  unfold sendSet
  repeat' first
    | with_reducible apply Does.refl | with_reducible apply Does.next (State.modHop_does _ _ _ _)
    | with_reducible apply Does.next (sendTime_does _ _ _ _ _ _) | exact rfl | split | dsimp only

theorem endHop_does (s : State) (p : ℕ) (pos : ℕ) (pair : Option (ℤ × ℤ)) : Does [.links, .out, .free] s (endHop s p pos pair) := by
  unfold endHop
  repeat' first
    | with_reducible apply Does.refl | with_reducible apply Does.next (State.modHop_does _ _ _ _)
    | with_reducible apply Does.next (sendSet_does _ _ _) | exact rfl | split | dsimp only

theorem hopRun_does (s : State) (p : ℕ) (pos : ℕ) (words : List Word) (t4 : ℤ) : Does [.links, .out, .free] s (hopRun s p pos words t4) := by
  unfold hopRun
  repeat' first
    | with_reducible apply Does.refl | with_reducible apply Does.next (State.modHop_does _ _ _ _)
    | with_reducible apply Does.next (endHop_does _ _ _ _) | with_reducible apply Does.next (sendPing_does _ _ _) | exact rfl
    | split | dsimp only

theorem pongAssign_does (s : State) (t : ℕ) (caps : Word) (serial : Word) : Does [.queues, .frames, .links, .out, .free] s (pongAssign s t caps serial) := by
  unfold pongAssign
  repeat' first
    | with_reducible apply Does.refl | with_reducible apply Does.next (State.modPort_does _ _ _)
    | with_reducible apply Does.next (State.modTile_does _ _ _) | with_reducible apply Does.next (assignTile_does _ _)
    | with_reducible apply Does.next (holdBack_does _ _ _) | with_reducible apply Does.next (tileEvent_does _ _ _ _)
    | with_reducible apply Does.each | exact rfl | intro _ _ | split | dsimp only

theorem takePong_does (s : State) (port : ℕ) (words : List Word) (t4 : ℤ) : Does [.hub, .queues, .frames, .links, .out, .free] s (takePong s port words t4) := by
  unfold takePong
  repeat' first
    | with_reducible apply Does.refl | with_reducible apply Does.next (hopRun_does _ _ _ _ _)
    | with_reducible apply Does.next (pongAssign_does _ _ _ _) | with_reducible apply Does.next (settleChain_does _ _)
    | with_reducible apply Does.next (startHops_does _ _) | exact rfl | split | dsimp only

theorem closeLoop_does (s : State) (p : ℕ) : Does [.queues, .frames, .links, .time, .service, .out, .free] s (closeLoop s p) := by
  unfold closeLoop
  repeat' first
    | with_reducible apply Does.refl | with_reducible apply Does.next (closeWindows_does _ _) | exact rfl | split | dsimp only

theorem linkFalls_does (s : State) (port : ℕ) : Does [.queues, .frames, .links, .time, .service, .out, .free] s (linkFalls s port) := by
  unfold linkFalls
  repeat' first
    | with_reducible apply Does.refl | with_reducible apply Does.next (State.modPort_does _ _ _)
    | with_reducible apply Does.next (closeLoop_does _ _) | with_reducible apply Does.next (raise_does _ _ _ _ _ _)
    | with_reducible apply Does.next (wake_does _ _ _) | exact rfl | split | dsimp only

theorem hopCalBody_does (s : State) (r : Req) : Does [.links, .out, .free] s (hopCalBody s r).state := by
  unfold hopCalBody
  repeat' first
    | with_reducible apply Does.refl | with_reducible apply Does.next (State.modLinks_does _ _)
    | with_reducible apply Does.next (startHop_does _ _ _) | with_reducible apply Does.each
    | dsimp only [Ans.ok, Ans.busy, Ans.badLen, Ans.badParam, Ans.notReady, Ans.conflict, Ans.accepted] | exact rfl | intro _ _
    | dsimp only

theorem hopReadBody_does (s : State) (r : Req) : Does [] s (hopReadBody s r).state := by
  unfold hopReadBody
  repeat' first
    | with_reducible apply Does.refl
    | dsimp only [Ans.ok, Ans.busy, Ans.badLen, Ans.badParam, Ans.notReady, Ans.conflict, Ans.accepted] | split | dsimp only

theorem timingFlipReadBody_does (s : State) (r : Req) : Does [] s (timingFlipReadBody s r).state := by
  unfold timingFlipReadBody
  repeat' first
    | with_reducible apply Does.refl
    | dsimp only [Ans.ok, Ans.busy, Ans.badLen, Ans.badParam, Ans.notReady, Ans.conflict, Ans.accepted] | split | dsimp only

theorem timingChangeReadBody_does (s : State) (r : Req) : Does [] s (timingChangeReadBody s r).state := by
  unfold timingChangeReadBody
  repeat' first
    | with_reducible apply Does.refl
    | dsimp only [Ans.ok, Ans.busy, Ans.badLen, Ans.badParam, Ans.notReady, Ans.conflict, Ans.accepted] | dsimp only

theorem checkSetBody_does (s : State) (r : Req) : Does [.frames] s (checkSetBody s r).state := by
  unfold checkSetBody
  repeat' first
    | with_reducible apply Does.refl | with_reducible apply Does.next (State.modCanvas_does _ _ _)
    | dsimp only [Ans.ok, Ans.busy, Ans.badLen, Ans.badParam, Ans.notReady, Ans.conflict, Ans.accepted] | exact rfl | split
    | dsimp only

theorem checkReadBody_does (s : State) (r : Req) : Does [] s (checkReadBody s r).state := by
  unfold checkReadBody
  repeat' first
    | with_reducible apply Does.refl
    | dsimp only [Ans.ok, Ans.busy, Ans.badLen, Ans.badParam, Ans.notReady, Ans.conflict, Ans.accepted] | split | dsimp only

end Sys2Proof.Machine
end

