-- ==== Sys2Proof/Laws/DoesFrames.lean ====
section
/-! SUPPORT. What each operation can change, one lemma an operation: pulling, correction, frames and flips. -/

set_option maxRecDepth 4000
set_option linter.unreachableTactic false
set_option linter.unusedTactic false

namespace Sys2Proof.Machine

theorem switchBank_does (s : State) (t : ℕ) (n : ℕ) : Does [.frames] s (switchBank s t n) := by
  unfold switchBank
  repeat' first
    | with_reducible apply Does.refl | with_reducible apply Does.next (State.modCorr_does _ _ _)
    | with_reducible apply Does.next (markTile_does _ _) | exact rfl | split | dsimp only

theorem tellMismatch_does (s : State) (c : ℕ) (t : ℕ) (n : ℕ) : Does [.queues, .frames] s (tellMismatch s c t n) := by
  unfold tellMismatch
  repeat' first
    | with_reducible apply Does.refl | with_reducible apply Does.next (State.modCorr_does _ _ _)
    | with_reducible apply Does.next (raise_does _ _ _ _ _ _) | exact rfl | split | dsimp only

theorem leavePending_does (s : State) (c : ℕ) (gone : List ℕ) : Does [.frames] s (leavePending s c gone) := by
  unfold leavePending
  repeat' first
    | with_reducible apply Does.refl | with_reducible apply Does.next (State.modCorr_does _ _ _) | with_reducible apply Does.each
    | exact rfl | intro _ _ | split | dsimp only

theorem switchDue_does (s : State) (c : ℕ) (n : ℕ) : Does [.queues, .frames] s (switchDue s c n) := by
  unfold switchDue
  repeat' first
    | with_reducible apply Does.refl | with_reducible apply Does.next (leavePending_does _ _ _)
    | with_reducible apply Does.next (raise_does _ _ _ _ _ _) | with_reducible apply Does.next (switchBank_does _ _ _)
    | with_reducible apply Does.next (tellMismatch_does _ _ _ _) | with_reducible apply Does.each | exact rfl | intro _ _ | split
    | dsimp only

theorem hashTile_does (s : State) (d : DieId) (t : ℕ) : Does [.frames] s (hashTile s d t) := by
  unfold hashTile
  repeat' first
    | with_reducible apply Does.refl | with_reducible apply Does.next (State.modCorr_does _ _ _) | exact rfl | split | dsimp only

theorem patrolHashes_does (s : State) (d : DieId) : Does [.frames] s (patrolHashes s d) := by
  unfold patrolHashes
  repeat' first
    | with_reducible apply Does.refl | with_reducible apply Does.next (State.modCorr_does _ _ _)
    | with_reducible apply Does.next (hashTile_does _ _ _) | with_reducible apply Does.each | exact rfl | intro _ _ | dsimp only

theorem landLoad_does (s : State) (t : ℕ) (l : CorrLoad) (bytes : List Byte) : Does [.frames] s (landLoad s t l bytes) := by
  unfold landLoad
  repeat' first
    | with_reducible apply Does.refl | with_reducible apply Does.next (State.modCorr_does _ _ _) | with_reducible apply Does.foldl
    | with_reducible apply Does.foldlFst | exact rfl | intro _ _ | dsimp only

theorem corrDescriptor_does (s : State) (g : ℕ) (d : Desc) (records : Bool) : Does [.hub, .queues, .frames, .out] s (corrDescriptor s g d records) := by
  unfold corrDescriptor
  repeat' first
    | with_reducible apply Does.refl | with_reducible apply Does.next (State.modCorr_does _ _ _)
    | with_reducible apply Does.next (finishOrdered_does _ _ _ _) | with_reducible apply Does.next (landLoad_does _ _ _ _)
    | with_reducible apply Does.next (readHost_does _ _ _ _) | with_reducible apply Does.next (violate_does _ _)
    | refine Does.next (takeOrdered_does (by assumption)) rfl ?_ | with_reducible apply Does.foldl
    | with_reducible apply Does.foldlFst | exact rfl | intro _ _ | split | dsimp only

theorem corrCommitBody_does (s : State) (r : Req) : Does [.queues, .frames] s (corrCommitBody s r).state := by
  unfold corrCommitBody
  repeat' first
    | with_reducible apply Does.refl | with_reducible apply Does.next (State.modCorr_does _ _ _)
    | with_reducible apply Does.next (raise_does _ _ _ _ _ _) | with_reducible apply Does.next (switchBank_does _ _ _)
    | with_reducible apply Does.each
    | dsimp only [Ans.ok, Ans.busy, Ans.badLen, Ans.badParam, Ans.notReady, Ans.conflict, Ans.accepted] | exact rfl | intro _ _
    | split | dsimp only

theorem corrHashBody_does (s : State) (r : Req) : Does [] s (corrHashBody s r).state := by
  unfold corrHashBody
  repeat' first
    | with_reducible apply Does.refl
    | dsimp only [Ans.ok, Ans.busy, Ans.badLen, Ans.badParam, Ans.notReady, Ans.conflict, Ans.accepted] | split | dsimp only

theorem corrProbeBody_does (s : State) (r : Req) : Does [.hub] s (corrProbeBody s r).state := by
  unfold corrProbeBody
  repeat' first
    | with_reducible apply Does.refl | with_reducible apply Does.next (State.modFunc_does _ _ _)
    | dsimp only [Ans.ok, Ans.busy, Ans.badLen, Ans.badParam, Ans.notReady, Ans.conflict, Ans.accepted] | exact rfl | split
    | dsimp only

theorem corrProbeReadBody_does (s : State) (r : Req) : Does [] s (corrProbeReadBody s r).state := by
  unfold corrProbeReadBody
  repeat' first
    | with_reducible apply Does.refl
    | dsimp only [Ans.ok, Ans.busy, Ans.badLen, Ans.badParam, Ans.notReady, Ans.conflict, Ans.accepted] | dsimp only

theorem tableLoad_does (s : State) (r : Req) (t : TableId) : Does [.hub, .queues, .frames, .out] s (tableLoad s r t).state := by
  unfold tableLoad
  repeat' first
    | with_reducible apply Does.refl | with_reducible apply Does.next (State.modTable_does _ _ _)
    | with_reducible apply Does.next (finishLong_does _ _ _ _ _) | with_reducible apply Does.next (readHost_does _ _ _ _)
    | dsimp only [Ans.ok, Ans.busy, Ans.badLen, Ans.badParam, Ans.notReady, Ans.conflict, Ans.accepted] | exact rfl | split
    | dsimp only

theorem lutLoadBody_does (s : State) (r : Req) : Does [.hub, .queues, .frames, .out] s (lutLoadBody s r).state := by
  unfold lutLoadBody
  repeat' first
    | with_reducible apply Does.refl | with_reducible apply Does.next (tableLoad_does _ _ _)
    | dsimp only [Ans.ok, Ans.busy, Ans.badLen, Ans.badParam, Ans.notReady, Ans.conflict, Ans.accepted] | exact rfl | dsimp only

theorem meshLoadBody_does (s : State) (r : Req) : Does [.hub, .queues, .frames, .out] s (meshLoadBody s r).state := by
  unfold meshLoadBody
  repeat' first
    | with_reducible apply Does.refl | with_reducible apply Does.next (tableLoad_does _ _ _)
    | dsimp only [Ans.ok, Ans.busy, Ans.badLen, Ans.badParam, Ans.notReady, Ans.conflict, Ans.accepted] | exact rfl | dsimp only

theorem diagLayerReadBody_does (s : State) (r : Req) : Does [] s (diagLayerReadBody s r).state := by
  unfold diagLayerReadBody
  repeat' first
    | with_reducible apply Does.refl
    | dsimp only [Ans.ok, Ans.busy, Ans.badLen, Ans.badParam, Ans.notReady, Ans.conflict, Ans.accepted] | split | dsimp only

theorem takeLayers_does (s : State) (c : ℕ) (cfg : CanvasCfg) (n : ℕ) : Does [.frames] s (takeLayers s c cfg n) := by
  unfold takeLayers
  repeat' first
    | with_reducible apply Does.refl | with_reducible apply Does.next (State.modLayer_does _ _ _) | with_reducible apply Does.each
    | exact rfl | intro _ _ | split | dsimp only

theorem tellUndriven_does (s : State) (c : ℕ) (n : ℕ) : Does [.queues] s (tellUndriven s c n) := by
  unfold tellUndriven
  repeat' first
    | with_reducible apply Does.refl | with_reducible apply Does.next (raise_does _ _ _ _ _ _) | with_reducible apply Does.each
    | exact rfl | intro _ _ | dsimp only

theorem freshTiles_does (s : State) (c : ℕ) (old : CanvasCfg) (new : CanvasCfg) : Does [.frames] s (freshTiles s c old new) := by
  unfold freshTiles
  repeat' first
    | with_reducible apply Does.refl | with_reducible apply Does.next (State.modSafe_does _ _ _) | with_reducible apply Does.each
    | exact rfl | intro _ _ | dsimp only

theorem takeCfg_does (s : State) (c : ℕ) (cfg : CanvasCfg) (n : ℕ) (change : Bool) : Does [.queues, .frames, .links, .out, .free] s (takeCfg s c cfg n change) := by
  unfold takeCfg
  repeat' first
    | with_reducible apply Does.refl | with_reducible apply Does.next (State.modCanvas_does _ _ _)
    | with_reducible apply Does.next (flipTables_does _ _ _) | with_reducible apply Does.next (freshTiles_does _ _ _ _)
    | with_reducible apply Does.next (leavePending_does _ _ _) | with_reducible apply Does.next (markCanvas_does _ _ _)
    | with_reducible apply Does.next (rejudge_does _) | with_reducible apply Does.next (takeLayers_does _ _ _ _)
    | with_reducible apply Does.next (tellUndriven_does _ _ _) | exact rfl | dsimp only

theorem startCanvas_does (s : State) (c : ℕ) (p : PendingCommit) : Does [.queues, .frames, .links, .out, .free] s (startCanvas s c p) := by
  unfold startCanvas
  repeat' first
    | with_reducible apply Does.refl | with_reducible apply Does.next (State.modCanvas_does _ _ _)
    | with_reducible apply Does.next (State.modZone_does _ _ _) | with_reducible apply Does.next (takeCfg_does _ _ _ _ _)
    | with_reducible apply Does.each | exact rfl | intro _ _ | dsimp only

theorem markWords_does (s : State) (c : ℕ) (n : ℕ) (l : List (ℕ × Word)) : Does [.frames] s (markWords s c n l) := by
  unfold markWords
  repeat' first
    | with_reducible apply Does.refl | with_reducible apply Does.next (markCanvas_does _ _ _)
    | with_reducible apply Does.next (markRegion_does _ _ _ _ _) | with_reducible apply Does.foldl
    | with_reducible apply Does.foldlFst | exact rfl | intro _ _ | split | dsimp only

theorem takeWaits_does (s : State) (c : ℕ) (n : ℕ) : Does [.plt, .queues, .frames] s (takeWaits s c n) := by
  unfold takeWaits
  repeat' first
    | with_reducible apply Does.refl | with_reducible apply Does.next (State.modPlt_does _ _)
    | with_reducible apply Does.next (driveInForce_does _ _) | with_reducible apply Does.next (markRegion_does _ _ _ _ _)
    | with_reducible apply Does.next (markWords_does _ _ _ _) | with_reducible apply Does.next (putInForce_does _ _)
    | with_reducible apply Does.foldl | with_reducible apply Does.foldlFst | exact rfl | intro _ _ | dsimp only

theorem judgeLate_does (s : State) (c : ℕ) (t : ℤ) : Does [.queues, .frames] s (judgeLate s c t) := by
  unfold judgeLate
  repeat' first
    | with_reducible apply Does.refl | with_reducible apply Does.next (State.modSlot_does _ _ _)
    | with_reducible apply Does.next (slotEvent_does _ _ _ _) | with_reducible apply Does.each | exact rfl | intro _ _ | split
    | dsimp only

theorem useBuf_does (s : State) (k : ℕ) (b : ℕ) (c : ℕ) (n : ℕ) : Does [.frames] s (useBuf s k b c n) := by
  unfold useBuf
  repeat' first
    | with_reducible apply Does.refl | with_reducible apply Does.next (State.modSlot_does _ _ _) | exact rfl | dsimp only

theorem useAgain_does (s : State) (k : ℕ) (b : ℕ) (frame : ℕ) (c : ℕ) (n : ℕ) : Does [.frames] s (useAgain s k b frame c n) := by
  unfold useAgain
  repeat' first
    | with_reducible apply Does.refl | with_reducible apply Does.next (State.modSlot_does _ _ _) | exact rfl | dsimp only

theorem toLayer_does (s : State) (l : ℕ) (n : ℕ) (st : LayerState) (code : Option ℕ) : Does [.queues, .frames] s (toLayer s l n st code) := by
  unfold toLayer
  repeat' first
    | with_reducible apply Does.refl | with_reducible apply Does.next (State.modLayer_does _ _ _)
    | with_reducible apply Does.next (raise_does _ _ _ _ _ _) | exact rfl | split | dsimp only

theorem chooseLayer_fst (s : State) (c : ℕ) (n : ℕ) (l : ℕ) (d : Desc) : Does [.queues, .frames] s (chooseLayer s c n l d).1 := by
  unfold chooseLayer
  repeat' first
    | with_reducible apply Does.refl | with_reducible apply Does.next (State.modLayer_does _ _ _)
    | with_reducible apply Does.next (raise_does _ _ _ _ _ _) | with_reducible apply Does.next (toLayer_does _ _ _ _ _)
    | with_reducible apply Does.next (useAgain_does _ _ _ _ _ _) | with_reducible apply Does.next (useBuf_does _ _ _ _ _)
    | exact rfl | split | dsimp only
theorem chooseLayer_does {s : State} {c : ℕ} {n : ℕ} {l : ℕ} {d : Desc} {t : State} {x : Choice} (he : chooseLayer s c n l d = (t, x)) : Does [.queues, .frames] s t := by
  have := chooseLayer_fst s c n l d
  rw [he] at this; exact this

theorem chooseLayers_fst (s : State) (c : ℕ) (n : ℕ) : Does [.queues, .frames] s (chooseLayers s c n).1 := by
  unfold chooseLayers
  repeat' first
    | with_reducible apply Does.refl | with_reducible apply Does.next (chooseLayer_fst _ _ _ _ _)
    | refine Does.next (chooseLayer_does (by assumption)) rfl ?_ | with_reducible apply Does.foldl
    | with_reducible apply Does.foldlFst | exact rfl | intro _ _ | dsimp only
theorem chooseLayers_does {s : State} {c : ℕ} {n : ℕ} {t : State} {x : List Choice} (he : chooseLayers s c n = (t, x)) : Does [.queues, .frames] s t := by
  have := chooseLayers_fst s c n
  rw [he] at this; exact this

theorem chooseApart_fst (s : State) (c : ℕ) (n : ℕ) (x : Choice) : Does [.frames, .free] s (chooseApart s c n x).1 := by
  unfold chooseApart
  repeat' first
    | with_reducible apply Does.refl | with_reducible apply Does.next (State.drawn_does _)
    | with_reducible apply Does.next (useBuf_does _ _ _ _ _) | with_reducible apply Does.foldl
    | with_reducible apply Does.foldlFst | exact rfl | intro _ _ | split | dsimp only
theorem chooseApart_does {s : State} {c : ℕ} {n : ℕ} {x : Choice} {t : State} {out : Choice} (he : chooseApart s c n x = (t, out)) : Does [.frames, .free] s t := by
  have := chooseApart_fst s c n x
  rw [he] at this; exact this

theorem choicesApart_fst (s : State) (c n : Nat) (l : List Choice) : Does [.frames, .free] s (choicesApart s c n l).1 := by
  have h : ∀ (l : List Choice) (a : State × List Choice), Does [.frames, .free] a.1
      (l.foldl (fun (a : State × List Choice) x => ((chooseApart a.1 c n x).1, a.2 ++ [(chooseApart a.1 c n x).2])) a).1 := by
    intro l
    induction l with
    | nil => exact fun a => Does.refl _ _
    | cons x l ih => exact fun a => (chooseApart_fst a.1 c n x).trans (ih (_, _))
  unfold choicesApart
  split
  · exact h l (s, [])
  · exact Does.refl _ _

theorem choicesApart_does {s : State} {c : ℕ} {n : ℕ} {l : List Choice} {t : State} {x : Option (List Choice)} (he : choicesApart s c n l = (t, x)) : Does [.frames, .free] s t := by
  have := choicesApart_fst s c n l
  rw [he] at this; exact this

theorem placeStripes_does (s : State) (c : ℕ) : Does [.frames, .dies, .free] s (placeStripes s c) := by
  unfold placeStripes
  repeat' first
    | with_reducible apply Does.refl | with_reducible apply Does.next (State.drawn_does _)
    | with_reducible apply Does.next (State.modCanvas_does _ _ _) | with_reducible apply Does.next (soilCluster_does _ _ _)
    | with_reducible apply Does.each | exact rfl | intro _ _ | split | dsimp only

theorem scaleZones_fst (s : State) (c : ℕ) (n : ℕ) (withheld : Bool) : Does [.queues, .frames, .dies] s (scaleZones s c n withheld).1 := by
  unfold scaleZones
  repeat' first
    | with_reducible apply Does.refl | with_reducible apply Does.next (State.modZone_does _ _ _)
    | with_reducible apply Does.next (markRegion_does _ _ _ _ _) | with_reducible apply Does.next (raise_does _ _ _ _ _ _)
    | with_reducible apply Does.next (recordError_does _ _ _) | with_reducible apply Does.foldl
    | with_reducible apply Does.foldlFst | exact rfl | intro _ _ | split | dsimp only
theorem scaleZones_does {s : State} {c : ℕ} {n : ℕ} {withheld : Bool} {t : State} {x : List (ℕ × ℕ) × List (ℕ × ℕ)} (he : scaleZones s c n withheld = (t, x)) : Does [.queues, .frames, .dies] s t := by
  have := scaleZones_fst s c n withheld
  rw [he] at this; exact this

theorem armCanvas_does (s : State) (c : ℕ) (n : ℕ) : Does [.queues, .frames, .dies] s (armCanvas s c n) := by
  unfold armCanvas
  repeat' first
    | with_reducible apply Does.refl | with_reducible apply Does.next (State.modFlash_does _ _ _)
    | with_reducible apply Does.next (raise_does _ _ _ _ _ _) | with_reducible apply Does.next (recordError_does _ _ _)
    | with_reducible apply Does.foldl | with_reducible apply Does.foldlFst | exact rfl | intro _ _ | split | dsimp only

theorem dropMarks_does (s : State) (c : ℕ) (n : ℕ) : Does [.frames] s (dropMarks s c n) := by
  unfold dropMarks
  repeat' first
    | with_reducible apply Does.refl | with_reducible apply Does.next (State.modCanvas_does _ _ _) | exact rfl | dsimp only

theorem beginFrame_does (s : State) (c : ℕ) (n : ℕ) (o : Option FrameOrder) : Does [.frames] s (beginFrame s c n o) := by
  unfold beginFrame
  repeat' first
    | with_reducible apply Does.refl | with_reducible apply Does.next (State.modCanvas_does _ _ _) | exact rfl | dsimp only

theorem failLate_does (s : State) (c : ℕ) (n : ℕ) : Does [.hub, .plt, .queues, .frames, .links, .time, .firmware, .out, .free] s (failLate s c n) := by
  unfold failLate
  repeat' first
    | with_reducible apply Does.refl | with_reducible apply Does.next (failTxn_does _ _ _) | with_reducible apply Does.foldl
    | with_reducible apply Does.foldlFst | exact rfl | intro _ _ | dsimp only

theorem enterFrame_fst (s : State) (c : ℕ) (n : ℕ) : Does [.plt, .queues, .frames, .links, .out, .free] s (enterFrame s c n).1 := by
  unfold enterFrame
  repeat' first
    | with_reducible apply Does.refl | with_reducible apply Does.next (State.modCanvas_does _ _ _)
    | with_reducible apply Does.next (switchDue_does _ _ _) | with_reducible apply Does.next (takeCfg_does _ _ _ _ _)
    | with_reducible apply Does.next (takeWaits_does _ _ _) | exact rfl | split | dsimp only
theorem enterFrame_does {s : State} {c : ℕ} {n : ℕ} {t : State} {x : List ℕ} (he : enterFrame s c n = (t, x)) : Does [.plt, .queues, .frames, .links, .out, .free] s t := by
  have := enterFrame_fst s c n
  rw [he] at this; exact this

theorem selectFrame_does (s : State) (c : ℕ) (n : ℕ) (dark : Bool) : Does [.plt, .queues, .frames, .links, .dies, .out, .free] s (selectFrame s c n dark) := by
  unfold selectFrame
  repeat' first
    | with_reducible apply Does.refl | with_reducible apply Does.next (State.modCanvas_does _ _ _)
    | with_reducible apply Does.next (armCanvas_does _ _ _) | with_reducible apply Does.next (beginFrame_does _ _ _ _)
    | with_reducible apply Does.next (choicesApart_fst _ _ _ _) | with_reducible apply Does.next (chooseLayers_fst _ _ _)
    | with_reducible apply Does.next (dropMarks_does _ _ _) | with_reducible apply Does.next (enterFrame_fst _ _ _)
    | with_reducible apply Does.next (judgeLate_does _ _ _) | with_reducible apply Does.next (markCanvas_does _ _ _)
    | with_reducible apply Does.next (placeStripes_does _ _) | with_reducible apply Does.next (scaleZones_fst _ _ _ _)
    | refine Does.next (choicesApart_does (by assumption)) rfl ?_ | refine Does.next (chooseLayers_does (by assumption)) rfl ?_
    | refine Does.next (enterFrame_does (by assumption)) rfl ?_ | refine Does.next (scaleZones_does (by assumption)) rfl ?_
    | with_reducible apply Does.foldl | with_reducible apply Does.foldlFst | exact rfl | intro _ _ | split | dsimp only

theorem silentFrame_does (s : State) (c : ℕ) (n : ℕ) : Does [.plt, .queues, .frames, .links, .dies, .out, .free] s (silentFrame s c n) := by
  unfold silentFrame
  repeat' first
    | with_reducible apply Does.refl | with_reducible apply Does.next (State.modCanvas_does _ _ _)
    | with_reducible apply Does.next (State.modZone_does _ _ _) | with_reducible apply Does.next (armCanvas_does _ _ _)
    | with_reducible apply Does.next (beginFrame_does _ _ _ _) | with_reducible apply Does.next (enterFrame_fst _ _ _)
    | with_reducible apply Does.next (markCanvas_does _ _ _) | refine Does.next (enterFrame_does (by assumption)) rfl ?_
    | with_reducible apply Does.each | exact rfl | intro _ _ | split | dsimp only

theorem repeatFrame_does (s : State) (c : ℕ) (n : ℕ) : Does [.plt, .queues, .frames, .links, .dies, .out, .free] s (repeatFrame s c n) := by
  unfold repeatFrame
  repeat' first
    | with_reducible apply Does.refl | with_reducible apply Does.next (armCanvas_does _ _ _)
    | with_reducible apply Does.next (beginFrame_does _ _ _ _) | with_reducible apply Does.next (enterFrame_fst _ _ _)
    | with_reducible apply Does.next (scaleZones_fst _ _ _ _) | refine Does.next (enterFrame_does (by assumption)) rfl ?_
    | refine Does.next (scaleZones_does (by assumption)) rfl ?_ | exact rfl | split | dsimp only

theorem select_does (s : State) (c : ℕ) : Does [.hub, .plt, .queues, .frames, .links, .dies, .time, .firmware, .out, .free] s (select s c) := by
  unfold select
  repeat' first
    | with_reducible apply Does.refl | with_reducible apply Does.next (State.modCanvas_does _ _ _)
    | with_reducible apply Does.next (beginFrame_does _ _ _ _) | with_reducible apply Does.next (failLate_does _ _ _)
    | with_reducible apply Does.next (markCanvas_does _ _ _) | with_reducible apply Does.next (repeatFrame_does _ _ _)
    | with_reducible apply Does.next (selectFrame_does _ _ _ _) | with_reducible apply Does.next (silentFrame_does _ _ _)
    | exact rfl | split | dsimp only

theorem ackOrder_does (s : State) (c : ℕ) : Does [.frames, .dies, .free] s (ackOrder s c) := by
  unfold ackOrder
  repeat' first
    | with_reducible apply Does.refl | with_reducible apply Does.next (State.modCanvas_does _ _ _)
    | with_reducible apply Does.next (placeStripes_does _ _) | exact rfl | split | dsimp only

theorem rewriteOrder_does (s : State) (c : ℕ) (o : FrameOrder) (d : DieId) : Does [.queues, .frames, .dies, .free] s (rewriteOrder s c o d) := by
  unfold rewriteOrder
  repeat' first
    | with_reducible apply Does.refl | with_reducible apply Does.next (State.modCanvas_does _ _ _)
    | with_reducible apply Does.next (State.modLayer_does _ _ _) | with_reducible apply Does.next (chooseLayers_fst _ _ _)
    | with_reducible apply Does.next (endUses_does _ _ _) | with_reducible apply Does.next (placeStripes_does _ _)
    | refine Does.next (chooseLayers_does (by assumption)) rfl ?_ | with_reducible apply Does.foldl
    | with_reducible apply Does.foldlFst | exact rfl | intro _ _ | split | dsimp only

theorem takeOrders_does (s : State) (d : DieId) : Does [.hub, .plt, .queues, .frames, .links, .dies, .time, .firmware, .out, .free] s (takeOrders s d) := by
  unfold takeOrders
  repeat' first
    | with_reducible apply Does.refl | with_reducible apply Does.next (State.modCanvas_does _ _ _)
    | with_reducible apply Does.next (ackOrder_does _ _) | with_reducible apply Does.next (rewriteOrder_does _ _ _ _)
    | with_reducible apply Does.next (select_does _ _) | with_reducible apply Does.each | exact rfl | intro _ _ | split
    | dsimp only

theorem blockRegion_does (s : State) (d : DieId) (t : ℕ) (i : ℕ) (n : ℕ) (b : ScrimBlock) : Does [.queues, .frames] s (blockRegion s d t i n b) := by
  unfold blockRegion
  repeat' first
    | with_reducible apply Does.refl | with_reducible apply Does.next (State.modScrim_does _ _ _ _)
    | with_reducible apply Does.next (raise_does _ _ _ _ _ _) | exact rfl | split | dsimp only

theorem sendReport_does (s : State) (d : DieId) (t : ℕ) (i : ℕ) (n : ℕ) (outcome : ℕ) (crc : BitVec 32) : Does [.out] s (sendReport s d t i n outcome crc) := by
  unfold sendReport
  repeat' first
    | with_reducible apply Does.refl | with_reducible apply Does.next (State.emit_does _ _) | exact rfl | split | dsimp only

theorem endRegion_does (s : State) (d : DieId) (t : ℕ) (i : ℕ) (n : ℕ) (outcome : ℕ) (cluster : ℕ) (crc : BitVec 32) (lamps : List (BitVec 16)) (demand : List ℕ) (limited : ℕ) : Does [.frames, .out] s (endRegion s d t i n outcome cluster crc lamps demand limited) := by
  unfold endRegion
  repeat' first
    | with_reducible apply Does.refl | with_reducible apply Does.next (State.setResult_does _ _ _ _ _)
    | with_reducible apply Does.next (sendReport_does _ _ _ _ _ _ _) | exact rfl | split | dsimp only

theorem captureProbes_does (s : State) (d : DieId) (c : ℕ) (pl : Placement) (i : ℕ) (n : ℕ) (np : ℕ) (st : List Stages) (lamps : List (BitVec 16)) : Does [.hub] s (captureProbes s d c pl i n np st lamps) := by
  unfold captureProbes
  repeat' first
    | with_reducible apply Does.refl | with_reducible apply Does.next (State.modFunc_does _ _ _) | with_reducible apply Does.each
    | exact rfl | intro _ _ | dsimp only

theorem computeRegion_does (s : State) (d : DieId) (c : ℕ) (p : Placement) (o : FrameOrder) (i : ℕ) (fault : Option (List (BitVec 16))) (sums : Option (List ℕ)) : Does [.hub, .queues, .frames, .dies, .out] s (computeRegion s d c p o i fault sums) := by
  unfold computeRegion
  repeat' first
    | with_reducible apply Does.refl | with_reducible apply Does.next (blockRegion_does _ _ _ _ _ _)
    | with_reducible apply Does.next (captureProbes_does _ _ _ _ _ _ _ _ _)
    | with_reducible apply Does.next (endRegion_does _ _ _ _ _ _ _ _ _ _ _)
    | with_reducible apply Does.next (recordError_does _ _ _) | with_reducible apply Does.foldl
    | with_reducible apply Does.foldlFst | exact rfl | intro _ _ | split | dsimp only

theorem clearForReplay_does (s : State) (d : DieId) (r : ℕ) : Does [.dies] s (clearForReplay s d r) := by
  unfold clearForReplay
  repeat' first
    | with_reducible apply Does.refl | with_reducible apply Does.next (abortSlice_does _ _ _) | exact rfl | split | dsimp only

theorem deferVote_does (s : State) (v : Vote) : Does [.queues, .frames, .links, .dies] s (deferVote s v) := by
  unfold deferVote
  repeat' first
    | with_reducible apply Does.refl | with_reducible apply Does.next (endVote_does _ _ _ _ _) | exact rfl | dsimp only

theorem startVote_does (s : State) (c : ℕ) (t : ℕ) (i : ℕ) (n : ℕ) (a : RegionRes) (b : RegionRes) : Does [.queues, .frames, .links, .dies] s (startVote s c t i n a b) := by
  unfold startVote
  repeat' first
    | with_reducible apply Does.refl | with_reducible apply Does.next (State.modTile_does _ _ _)
    | with_reducible apply Does.next (State.modTwin_does _ _) | with_reducible apply Does.next (clearForReplay_does _ _ _)
    | with_reducible apply Does.next (deferVote_does _ _) | with_reducible apply Does.next (raise_does _ _ _ _ _ _) | exact rfl
    | split | dsimp only

theorem compareReports_does (s : State) (c : ℕ) (t : ℕ) (i : ℕ) (n : ℕ) (a : RegionRes) (b : RegionRes) : Does [.queues, .frames, .links, .dies] s (compareReports s c t i n a b) := by
  unfold compareReports
  repeat' first
    | with_reducible apply Does.refl | with_reducible apply Does.next (recordError_does _ _ _)
    | with_reducible apply Does.next (startVote_does _ _ _ _ _ _ _) | exact rfl | split | dsimp only

theorem sendRegion_does (s : State) (p : ℕ) (c : ℕ) (o : FrameOrder) (pl : Placement) (i : ℕ) (r : RegionRes) (under : List (ℕ × ℕ)) : Does [.queues, .frames, .links, .out, .free] s (sendRegion s p c o pl i r under) := by
  unfold sendRegion
  repeat' first
    | with_reducible apply Does.refl | with_reducible apply Does.next (State.modPort_does _ _ _)
    | with_reducible apply Does.next (State.setResult_does _ _ _ _ _) | with_reducible apply Does.next (markRegion_does _ _ _ _ _)
    | with_reducible apply Does.next (raise_does _ _ _ _ _ _) | with_reducible apply Does.next (sendFrame_does _ _ _ _ _ _ _)
    | with_reducible apply Does.next (sendReport_does _ _ _ _ _ _ _) | exact rfl | split | dsimp only

theorem endProbe_does (s : State) (f : ℕ) (c : ℕ) (n : ℕ) (p : Probe) (words : List Word) (valid : Bool) : Does [.hub, .queues] s (endProbe s f c n p words valid) := by
  unfold endProbe
  repeat' first
    | with_reducible apply Does.refl | with_reducible apply Does.next (State.modFunc_does _ _ _)
    | with_reducible apply Does.next (finishLong_does _ _ _ _ _) | with_reducible apply Does.next (raise_does _ _ _ _ _ _)
    | exact rfl | dsimp only

theorem takeProbe_does (f : ℕ) (s : State) (p : Probe) : Does [.hub, .queues] s (takeProbe f s p) := by
  unfold takeProbe
  repeat' first
    | with_reducible apply Does.refl | with_reducible apply Does.next (endProbe_does _ _ _ _ _ _ _) | exact rfl | split
    | dsimp only

theorem startRegionReset_does (s : State) (d : DieId) (r : ℕ) (latent : Bool) : Does [.dies] s (startRegionReset s d r latent) := by
  unfold startRegionReset
  repeat' first
    | with_reducible apply Does.refl | with_reducible apply Does.next (State.modRegion_does _ _ _ _) | exact rfl | dsimp only

theorem latentTest_does (s : State) (d : DieId) (r : ℕ) (ok : Bool) : Does [.queues, .frames, .links, .dies, .out] s (latentTest s d r ok) := by
  unfold latentTest
  repeat' first
    | with_reducible apply Does.refl | with_reducible apply Does.next (State.modRegion_does _ _ _ _)
    | with_reducible apply Does.next (State.modScrim_does _ _ _ _) | with_reducible apply Does.next (loseRegion_does _ _ _)
    | with_reducible apply Does.next (raise_does _ _ _ _ _ _) | with_reducible apply Does.next (recordError_does _ _ _)
    | with_reducible apply Does.next (startRegionReset_does _ _ _ _) | exact rfl | split | dsimp only

theorem markUnblocked_does (s : State) (d : DieId) (r : ℕ) : Does [.frames] s (markUnblocked s d r) := by
  unfold markUnblocked
  repeat' first
    | with_reducible apply Does.refl | with_reducible apply Does.next (markRegion_does _ _ _ _ _) | with_reducible apply Does.each
    | exact rfl | intro _ _ | split | dsimp only

theorem sapEvent_does (s : State) (n : ℕ) (code : ℕ) (data : optParam Word 0) : Does [.queues] s (sapEvent s n code data) := by
  unfold sapEvent
  repeat' first
    | with_reducible apply Does.refl | with_reducible apply Does.next (raise_does _ _ _ _ _ _) | exact rfl | dsimp only

theorem stepSaps_does (s : State) (delta : ℤ) : Does [.media] s (stepSaps s delta) := by
  unfold stepSaps
  repeat' first
    | with_reducible apply Does.refl | with_reducible apply Does.next (State.modMedia_does _ _) | exact rfl | split | dsimp only

theorem showLayer_does (s : State) (l : ℕ) (slot : ℕ) (frame : ℕ) (diff : ℤ) : Does [.media] s (showLayer s l slot frame diff) := by
  unfold showLayer
  repeat' first
    | with_reducible apply Does.refl | with_reducible apply Does.next (State.modMedia_does _ _) | exact rfl | split | dsimp only

theorem showLayers_does (s : State) (o : FrameOrder) (f : ℤ) : Does [.media] s (showLayers s o f) := by
  unfold showLayers
  repeat' first
    | with_reducible apply Does.refl | with_reducible apply Does.next (showLayer_does _ _ _ _ _) | with_reducible apply Does.each
    | exact rfl | intro _ _ | split | dsimp only

theorem givePlay_does (s : State) (n : ℕ) (b : PlayBuf) : Does [.queues, .frames, .out] s (givePlay s n b) := by
  unfold givePlay
  repeat' first
    | with_reducible apply Does.refl | with_reducible apply Does.next (complete_does _ _ _ _ _) | exact rfl | dsimp only

theorem reportSap_does (s : State) (n : ℕ) (join : Bool) : Does [.out] s (reportSap s n join) := by
  unfold reportSap
  repeat' first
    | with_reducible apply Does.refl | with_reducible apply Does.next (reportLegs_does _ _ _ _ _ _)
    | with_reducible apply Does.each | exact rfl | intro _ _ | dsimp only

theorem endStop_does (s : State) (n : ℕ) : Does [.queues, .frames, .media, .out] s (endStop s n) := by
  unfold endStop
  repeat' first
    | with_reducible apply Does.refl | with_reducible apply Does.next (State.modSap_does _ _ _)
    | with_reducible apply Does.next (complete_does _ _ _ _ _) | with_reducible apply Does.next (givePlay_does _ _ _)
    | with_reducible apply Does.next (reportSap_does _ _ _) | with_reducible apply Does.next (sapEvent_does _ _ _ _)
    | with_reducible apply Does.each | exact rfl | intro _ _ | split | dsimp only

theorem voidReports_does (s : State) (d : DieId) (r : ℕ) (n : ℕ) (o : FrameOrder) : Does [.frames] s (voidReports s d r n o) := by
  unfold voidReports
  repeat' first
    | with_reducible apply Does.refl | with_reducible apply Does.next (State.setResult_does _ _ _ _ _)
    | with_reducible apply Does.each | exact rfl | intro _ _ | split | dsimp only

theorem frameLatent_does (s : State) (c : ℕ) (o : FrameOrder) (d : DieId) (r : ℕ) (ok : Bool) : Does [.queues, .frames, .links, .dies, .out] s (frameLatent s c o d r ok) := by
  unfold frameLatent
  repeat' first
    | with_reducible apply Does.refl | with_reducible apply Does.next (State.modCanvas_does _ _ _)
    | with_reducible apply Does.next (latentTest_does _ _ _ _) | with_reducible apply Does.next (markRegion_does _ _ _ _ _)
    | with_reducible apply Does.next (markUnblocked_does _ _ _) | with_reducible apply Does.next (voidReports_does _ _ _ _ _)
    | with_reducible apply Does.each | exact rfl | intro _ _ | split | dsimp only

theorem frameLatents_does (s : State) (c : ℕ) (o : FrameOrder) (l : List (DieId × ℕ × ScrimFaults)) : Does [.queues, .frames, .links, .dies, .out] s (frameLatents s c o l) := by
  unfold frameLatents
  repeat' first
    | with_reducible apply Does.refl | with_reducible apply Does.next (frameLatent_does _ _ _ _ _ _)
    | with_reducible apply Does.foldl | with_reducible apply Does.foldlFst | exact rfl | intro _ _ | split | dsimp only

theorem endTile_fst (s : State) (c : ℕ) (n : ℕ) (p : Placement) : Does [.frames] s (endTile s c n p).1 := by
  unfold endTile
  repeat' first
    | with_reducible apply Does.refl | with_reducible apply Does.next (State.modSafe_does _ _ _) | with_reducible apply Does.each
    | exact rfl | intro _ _ | dsimp only
theorem endTile_does {s : State} {c : ℕ} {n : ℕ} {p : Placement} {t : State} {x : List (DieId × ℕ × Rises)} (he : endTile s c n p = (t, x)) : Does [.frames] s t := by
  have := endTile_fst s c n p
  rw [he] at this; exact this

theorem pushRises_does (s : State) (c : ℕ) (l : List (DieId × ℕ × Rises)) (d : DieId) : Does [.frames] s (pushRises s c l d) := by
  unfold pushRises
  repeat' first
    | with_reducible apply Does.refl | with_reducible apply Does.next (State.modFlash_does _ _ _) | exact rfl | dsimp only

theorem pushFrame_does (s : State) (c : ℕ) (l : List (DieId × ℕ × Rises)) : Does [.frames] s (pushFrame s c l) := by
  unfold pushFrame
  repeat' first
    | with_reducible apply Does.refl | with_reducible apply Does.next (State.modCanvas_does _ _ _)
    | with_reducible apply Does.next (pushRises_does _ _ _ _) | with_reducible apply Does.each | exact rfl | intro _ _
    | dsimp only

theorem endTiles_does (s : State) (c : ℕ) (n : ℕ) : Does [.frames] s (endTiles s c n) := by
  unfold endTiles
  repeat' first
    | with_reducible apply Does.refl | with_reducible apply Does.next (State.modFlash_does _ _ _)
    | with_reducible apply Does.next (endTile_fst _ _ _ _) | with_reducible apply Does.next (pushFrame_does _ _ _)
    | refine Does.next (endTile_does (by assumption)) rfl ?_ | with_reducible apply Does.foldl
    | with_reducible apply Does.foldlFst | exact rfl | intro _ _ | split | dsimp only

theorem judgeZone_fst (s : State) (c : ℕ) (n : ℕ) (z : ℕ) : Does [.queues, .frames] s (judgeZone s c n z).1 := by
  unfold judgeZone
  repeat' first
    | with_reducible apply Does.refl | with_reducible apply Does.next (State.modScrim_does _ _ _ _)
    | with_reducible apply Does.next (State.modZone_does _ _ _) | with_reducible apply Does.next (raise_does _ _ _ _ _ _)
    | with_reducible apply Does.foldl | with_reducible apply Does.foldlFst | exact rfl | intro _ _ | split | dsimp only
theorem judgeZone_does {s : State} {c : ℕ} {n : ℕ} {z : ℕ} {t : State} {x : Bool} (he : judgeZone s c n z = (t, x)) : Does [.queues, .frames] s t := by
  have := judgeZone_fst s c n z
  rw [he] at this; exact this

theorem countBlocks_does (s : State) (c : ℕ) (n : ℕ) (patch : List (ℕ × ℕ)) (judged : Bool) (t : ℕ) : Does [.queues, .frames, .dies] s (countBlocks s c n patch judged t) := by
  unfold countBlocks
  repeat' first
    | with_reducible apply Does.refl | with_reducible apply Does.next (State.modSafe_does _ _ _)
    | with_reducible apply Does.next (State.modScrim_does _ _ _ _) | with_reducible apply Does.next (markRegion_does _ _ _ _ _)
    | with_reducible apply Does.next (raise_does _ _ _ _ _ _) | with_reducible apply Does.next (recordError_does _ _ _)
    | with_reducible apply Does.foldl | with_reducible apply Does.foldlFst | exact rfl | intro _ _ | split | dsimp only

theorem countUnderrun_does (s : State) (n : ℕ) (patch : List (ℕ × ℕ)) (t : ℕ) : Does [.links] s (countUnderrun s n patch t) := by
  unfold countUnderrun
  repeat' first
    | with_reducible apply Does.refl | with_reducible apply Does.next (State.modTile_does _ _ _) | exact rfl | split | dsimp only

theorem countTiles_does (s : State) (c : ℕ) (n : ℕ) (judged : Bool) : Does [.queues, .frames, .links, .dies] s (countTiles s c n judged) := by
  unfold countTiles
  repeat' first
    | with_reducible apply Does.refl | with_reducible apply Does.next (countBlocks_does _ _ _ _ _ _)
    | with_reducible apply Does.next (countUnderrun_does _ _ _ _) | with_reducible apply Does.each | exact rfl | intro _ _
    | dsimp only

theorem markUnsent_does (s : State) (c : ℕ) (n : ℕ) (o : FrameOrder) : Does [.frames] s (markUnsent s c n o) := by
  unfold markUnsent
  repeat' first
    | with_reducible apply Does.refl | with_reducible apply Does.next (markRegion_does _ _ _ _ _) | with_reducible apply Does.each
    | exact rfl | intro _ _ | dsimp only

theorem runCheck_does (s : State) (c n k : Nat) (x : Check) : Does [.queues, .frames] s (runCheck s c n k x) := by
  have h : ∀ (b : Bool) (s0 s : State) (d : Word), Does [.queues, .frames] s0 s →
      Does [.queues, .frames] s0 (if b then raise s (112 + c) 3 d n else s) := by
    intro b s0 s d hs
    cases b
    · exact hs
    · exact hs.trans ((raise_does _ _ _ _ _ _).mono rfl)
  unfold runCheck
  extract_lets
  split
  · exact Does.refl _ _
  · extract_lets
    exact h _ _ _ _ (h _ _ _ _ ((State.modCanvas_does _ _ _).mono rfl))

theorem runChecks_does (s : State) (c : ℕ) (n : ℕ) : Does [.queues, .frames] s (runChecks s c n) := by
  unfold runChecks
  repeat' first
    | with_reducible apply Does.refl | with_reducible apply Does.next (runCheck_does _ _ _ _ _) | with_reducible apply Does.foldl
    | with_reducible apply Does.foldlFst | exact rfl | intro _ _ | dsimp only

theorem sendFlip_does (s : State) (c : ℕ) (n : ℕ) (tiles : List ℕ) : Does [.frames, .links, .out, .free] s (sendFlip s c n tiles) := by
  unfold sendFlip
  repeat' first
    | with_reducible apply Does.refl | with_reducible apply Does.next (State.modCanvas_does _ _ _)
    | with_reducible apply Does.next (State.modPort_does _ _ _) | with_reducible apply Does.next (sendFrame_does _ _ _ _ _ _ _)
    | with_reducible apply Does.each | exact rfl | intro _ _ | split | dsimp only

theorem recordUnders_does (s : State) (o : FrameOrder) : Does [.dies] s (recordUnders s o) := by
  unfold recordUnders
  repeat' first
    | with_reducible apply Does.refl | with_reducible apply Does.next (recordError_does _ _ _) | with_reducible apply Does.each
    | exact rfl | intro _ _ | split | dsimp only

theorem setMasks_does (s : State) (c : ℕ) (fmask : List ℕ) (dmask : List ℕ) : Does [.frames] s (setMasks s c fmask dmask) := by
  unfold setMasks
  repeat' first
    | with_reducible apply Does.refl | with_reducible apply Does.next (State.modCanvas_does _ _ _) | exact rfl | dsimp only

theorem tellHeld_does (s : State) (t : ℕ) (n : ℕ) : Does [.queues, .links, .dies] s (tellHeld s t n) := by
  unfold tellHeld
  repeat' first
    | with_reducible apply Does.refl | with_reducible apply Does.next (State.modTile_does _ _ _)
    | with_reducible apply Does.next (State.modTwin_does _ _) | with_reducible apply Does.next (raise_does _ _ _ _ _ _)
    | exact rfl | split | dsimp only

theorem leaveFlip_does (s : State) (c : ℕ) (n : ℕ) (tiles : List ℕ) : Does [.frames, .links, .out, .free] s (leaveFlip s c n tiles) := by
  unfold leaveFlip
  repeat' first
    | with_reducible apply Does.refl | with_reducible apply Does.next (State.modCanvas_does _ _ _)
    | with_reducible apply Does.next (markCanvas_does _ _ _) | with_reducible apply Does.next (sendFlip_does _ _ _ _) | exact rfl
    | split | dsimp only

theorem flipOrWait_does (s : State) (c : ℕ) (n : ℕ) (tiles : List ℕ) : Does [.frames, .links, .dies, .out, .free] s (flipOrWait s c n tiles) := by
  unfold flipOrWait
  repeat' first
    | with_reducible apply Does.refl | with_reducible apply Does.next (State.modTwin_does _ _)
    | with_reducible apply Does.next (leaveFlip_does _ _ _ _) | exact rfl | split | dsimp only

theorem endRepeat_does (s : State) (c : ℕ) (n : ℕ) : Does [.queues, .frames, .links, .dies, .out, .free] s (endRepeat s c n) := by
  unfold endRepeat
  repeat' first
    | with_reducible apply Does.refl | with_reducible apply Does.next (countTiles_does _ _ _ _)
    | with_reducible apply Does.next (endTiles_does _ _ _) | with_reducible apply Does.next (flipOrWait_does _ _ _ _)
    | with_reducible apply Does.next (runChecks_does _ _ _) | with_reducible apply Does.next (setMasks_does _ _ _ _) | exact rfl
    | split | dsimp only

theorem endLate_does (s : State) (c : ℕ) (n : ℕ) : Does [.queues, .frames, .links, .dies, .out, .free] s (endLate s c n) := by
  unfold endLate
  repeat' first
    | with_reducible apply Does.refl | with_reducible apply Does.next (State.modCanvas_does _ _ _)
    | with_reducible apply Does.next (countTiles_does _ _ _ _) | with_reducible apply Does.next (endTiles_does _ _ _)
    | with_reducible apply Does.next (flipOrWait_does _ _ _ _) | with_reducible apply Does.next (markCanvas_does _ _ _)
    | with_reducible apply Does.next (raise_does _ _ _ _ _ _) | with_reducible apply Does.next (runChecks_does _ _ _)
    | with_reducible apply Does.next (setMasks_does _ _ _ _) | exact rfl | dsimp only

theorem keepPred_does (s : State) (flipped : List ℕ) (t : ℕ) : Does [.frames] s (keepPred s flipped t) := by
  unfold keepPred
  repeat' first
    | with_reducible apply Does.refl | with_reducible apply Does.next (State.modSafe_does _ _ _) | exact rfl | split | dsimp only

theorem endFrame_does (s : State) (c : ℕ) (o : FrameOrder) : Does [.queues, .frames, .links, .dies, .out, .free] s (endFrame s c o) := by
  unfold endFrame
  repeat' first
    | with_reducible apply Does.refl | with_reducible apply Does.next (State.modCanvas_does _ _ _)
    | with_reducible apply Does.next (countTiles_does _ _ _ _) | with_reducible apply Does.next (endTiles_does _ _ _)
    | with_reducible apply Does.next (flipOrWait_does _ _ _ _) | with_reducible apply Does.next (judgeZone_fst _ _ _ _)
    | with_reducible apply Does.next (markCanvas_does _ _ _) | with_reducible apply Does.next (markRegion_does _ _ _ _ _)
    | with_reducible apply Does.next (markUnsent_does _ _ _ _) | with_reducible apply Does.next (recordUnders_does _ _)
    | with_reducible apply Does.next (runChecks_does _ _ _) | with_reducible apply Does.next (setMasks_does _ _ _ _)
    | with_reducible apply Does.next (tellHeld_does _ _ _) | refine Does.next (judgeZone_does (by assumption)) rfl ?_
    | with_reducible apply Does.foldl | with_reducible apply Does.foldlFst | exact rfl | intro _ _ | split | dsimp only

theorem judgeSilence_does (s : State) (p : ℕ) (t : ℕ) (missing : Option Bool) : Does [.queues, .links] s (judgeSilence s p t missing) := by
  unfold judgeSilence
  repeat' first
    | with_reducible apply Does.refl | with_reducible apply Does.next (State.modPort_does _ _ _)
    | with_reducible apply Does.next (raise_does _ _ _ _ _ _) | exact rfl | split | dsimp only

theorem markEchoes_does (s : State) (c : ℕ) (m : ℕ) (n : ℕ) : Does [.frames] s (markEchoes s c m n) := by
  unfold markEchoes
  repeat' first
    | with_reducible apply Does.refl | with_reducible apply Does.next (markRegion_does _ _ _ _ _) | with_reducible apply Does.each
    | exact rfl | intro _ _ | split | dsimp only

theorem judgeEchoes_does (s : State) (c : ℕ) (n : ℕ) : Does [.queues, .frames, .links] s (judgeEchoes s c n) := by
  unfold judgeEchoes
  repeat' first
    | with_reducible apply Does.refl | with_reducible apply Does.next (State.modPort_does _ _ _)
    | with_reducible apply Does.next (judgeSilence_does _ _ _ _) | with_reducible apply Does.next (markEchoes_does _ _ _ _)
    | with_reducible apply Does.each | exact rfl | intro _ _ | split | dsimp only

theorem reanchor_does (s : State) (c : ℕ) (ch : TimingChange) : Does [.queues, .frames, .links, .out, .free] s (reanchor s c ch) := by
  unfold reanchor
  repeat' first
    | with_reducible apply Does.refl | with_reducible apply Does.next (State.modCanvas_does _ _ _)
    | with_reducible apply Does.next (flipTables_does _ _ _) | with_reducible apply Does.next (takeCfg_does _ _ _ _ _) | exact rfl
    | split | dsimp only

theorem closeTxns_does (s : State) (c : ℕ) (n : ℕ) : Does [.hub, .plt, .queues, .links, .firmware, .out, .free] s (closeTxns s c n) := by
  unfold closeTxns
  repeat' first
    | with_reducible apply Does.refl | with_reducible apply Does.next (closeTxn_does _ _) | with_reducible apply Does.foldl
    | with_reducible apply Does.foldlFst | exact rfl | intro _ _ | dsimp only

theorem takeTrims_does (s : State) : Does [.time, .therm] s (takeTrims s) := by
  unfold takeTrims
  repeat' first
    | with_reducible apply Does.refl | with_reducible apply Does.next (State.modTherm_does _ _ _)
    | with_reducible apply Does.next (State.modTime_does _ _) | with_reducible apply Does.foldl
    | with_reducible apply Does.foldlFst | exact rfl | intro _ _ | dsimp only

theorem flipDone_does (s : State) (c : ℕ) (n : ℕ) (cv : Canvas) : Does [.queues] s (flipDone s c n cv) := by
  unfold flipDone
  repeat' first
    | with_reducible apply Does.refl | with_reducible apply Does.next (raise_does _ _ _ _ _ _) | exact rfl | split | dsimp only

theorem endSwitch_does (s : State) (c : ℕ) (n : ℕ) : Does [.hub, .plt, .queues, .frames, .links, .time, .firmware, .service, .out, .free] s (endSwitch s c n) := by
  unfold endSwitch
  repeat' first
    | with_reducible apply Does.refl | with_reducible apply Does.next (State.modCanvas_does _ _ _)
    | with_reducible apply Does.next (State.modFirmware_does _ _ ?_) | with_reducible apply Does.next (fallBackDue_does _)
    | with_reducible apply Does.each | exact rfl | exact fun _ => rfl | intro _ _ | split | dsimp only

theorem countFlip_does (s : State) : Does [.dies] s (countFlip s) := by
  unfold countFlip
  repeat' first
    | with_reducible apply Does.refl | with_reducible apply Does.next (State.modDie_does _ _ _)
    | with_reducible apply Does.next (State.modRegion_does _ _ _ _) | with_reducible apply Does.each | exact rfl | intro _ _
    | dsimp only

theorem tallyMissed_does (s : State) (c : ℕ) (n : ℕ) : Does [.queues, .frames, .links, .dies] s (tallyMissed s c n) := by
  unfold tallyMissed
  repeat' first
    | with_reducible apply Does.refl | with_reducible apply Does.next (countTiles_does _ _ _ _)
    | with_reducible apply Does.next (pushFrame_does _ _ _) | with_reducible apply Does.next (runChecks_does _ _ _) | exact rfl
    | split | dsimp only

theorem flip_does (s : State) (c n : Nat) : Does [.hub, .plt, .queues, .frames, .links, .dies, .time, .media, .therm, .firmware, .service, .out, .free] s (flip s c n) := by
  unfold flip
  extract_lets cv0 missed s0 cv flipped s1 s1' s2 s3 s4 s5 s6 hops s7
  have d0 : Does [.hub, .plt, .queues, .frames, .links, .dies, .time, .media, .therm, .firmware, .service, .out, .free] s s0 := (State.modCanvas_does _ _ _).mono rfl
  have d1 : Does [.hub, .plt, .queues, .frames, .links, .dies, .time, .media, .therm, .firmware, .service, .out, .free] s s1 :=
    ((d0.trans (each_does (fun _ _ => (keepPred_does _ _ _).mono rfl) _ _)).trans ((tallyMissed_does _ _ _).mono rfl)).trans
      ((State.modCanvas_does _ _ _).mono rfl)
  have d1' : Does [.hub, .plt, .queues, .frames, .links, .dies, .time, .media, .therm, .firmware, .service, .out, .free] s s1' := by
    simp only [s1']; split
    · exact d1.trans ((markCanvas_does _ _ _).mono rfl)
    · exact d1
  have d2 : Does [.hub, .plt, .queues, .frames, .links, .dies, .time, .media, .therm, .firmware, .service, .out, .free] s s2 := by
    simp only [s2]; split
    · refine Does.trans ?_ ((judgeEchoes_does _ _ _).mono rfl)
      split
      · exact d1'
      · exact d1'.trans ((showLayers_does _ _ _).mono rfl)
    · exact d1'.trans ((judgeEchoes_does _ _ _).mono rfl)
  have d3 : Does [.hub, .plt, .queues, .frames, .links, .dies, .time, .media, .therm, .firmware, .service, .out, .free] s s3 := by
    simp only [s3]; split
    · split
      · exact d2.trans ((reanchor_does _ _ _).mono rfl)
      · exact d2
    · exact d2
  have d4 : Does [.hub, .plt, .queues, .frames, .links, .dies, .time, .media, .therm, .firmware, .service, .out, .free] s s4 := d3.trans ((closeTxns_does _ _ _).mono rfl)
  have d5 : Does [.hub, .plt, .queues, .frames, .links, .dies, .time, .media, .therm, .firmware, .service, .out, .free] s s5 := by
    simp only [s5]; split
    · exact d4
    · exact d4.trans ((endUses_does _ _ _).mono rfl)
  have d6 : Does [.hub, .plt, .queues, .frames, .links, .dies, .time, .media, .therm, .firmware, .service, .out, .free] s s6 := (d5.trans ((flipDone_does _ _ _ _).mono rfl)).trans ((endSwitch_does _ _ _).mono rfl)
  have d7 : Does [.hub, .plt, .queues, .frames, .links, .dies, .time, .media, .therm, .firmware, .service, .out, .free] s s7 := d6.trans (each_does (fun _ _ => (sendSet_does _ _ _).mono rfl) _ _)
  split
  · exact (d7.trans ((takeTrims_does _).mono rfl)).trans ((countFlip_does _).mono rfl)
  · exact d7

theorem trimTile_does (s : State) (t : ℕ) : Does [.frames, .free] s (trimTile s t) := by
  unfold trimTile
  repeat' first
    | with_reducible apply Does.refl | with_reducible apply Does.next (State.drawn_does _)
    | with_reducible apply Does.next (State.modSafe_does _ _ _) | exact rfl | split | dsimp only

theorem trimZone_does (s : State) (c : ℕ) (z : ℕ) (before : List (ℕ × ℕ)) : Does [.queues, .frames] s (trimZone s c z before) := by
  unfold trimZone
  repeat' first
    | with_reducible apply Does.refl | with_reducible apply Does.next (State.modZone_does _ _ _)
    | with_reducible apply Does.next (raise_does _ _ _ _ _ _) | with_reducible apply Does.foldl
    | with_reducible apply Does.foldlFst | exact rfl | intro _ _ | split | dsimp only

theorem safeZoneReadBody_does (s : State) (r : Req) : Does [] s (safeZoneReadBody s r).state := by
  unfold safeZoneReadBody
  repeat' first
    | with_reducible apply Does.refl
    | dsimp only [Ans.ok, Ans.busy, Ans.badLen, Ans.badParam, Ans.notReady, Ans.conflict, Ans.accepted] | dsimp only

theorem safeTileReadBody_does (s : State) (r : Req) : Does [] s (safeTileReadBody s r).state := by
  unfold safeTileReadBody
  repeat' first
    | with_reducible apply Does.refl
    | dsimp only [Ans.ok, Ans.busy, Ans.badLen, Ans.badParam, Ans.notReady, Ans.conflict, Ans.accepted] | split | dsimp only

theorem safeFlashReadBody_does (s : State) (r : Req) : Does [] s (safeFlashReadBody s r).state := by
  unfold safeFlashReadBody
  repeat' first
    | with_reducible apply Does.refl
    | dsimp only [Ans.ok, Ans.busy, Ans.badLen, Ans.badParam, Ans.notReady, Ans.conflict, Ans.accepted] | dsimp only

theorem safeScrimReadBody_does (s : State) (r : Req) : Does [] s (safeScrimReadBody s r).state := by
  unfold safeScrimReadBody
  repeat' first
    | with_reducible apply Does.refl
    | dsimp only [Ans.ok, Ans.busy, Ans.badLen, Ans.badParam, Ans.notReady, Ans.conflict, Ans.accepted] | split | dsimp only

end Sys2Proof.Machine
end

