-- ==== Sys2Proof/Laws/DoesRest.lean ====
section
/-! SUPPORT. What each operation can change, one lemma an operation: time, audio, codecs, calibration, boot, firmware and service. -/

set_option maxRecDepth 4000
set_option linter.unreachableTactic false
set_option linter.unusedTactic false

namespace Sys2Proof.Machine

theorem stepNow_does (s : State) (delta : ℤ) : Does [.hub, .queues, .frames, .links, .time, .media] s (stepNow s delta) := by
  unfold stepNow
  repeat' first
    | with_reducible apply Does.refl | with_reducible apply Does.next (State.modCanvas_does _ _ _)
    | with_reducible apply Does.next (State.modHub_does _ _) | with_reducible apply Does.next (State.modLinks_does _ _)
    | with_reducible apply Does.next (State.modTime_does _ _) | with_reducible apply Does.next (stepSaps_does _ _)
    | with_reducible apply Does.next (timeEvent_does _ _ _) | with_reducible apply Does.each | exact rfl | intro _ _ | split
    | dsimp only

theorem scheduleStep_does (s : State) (delta : ℤ) : Does [.hub, .queues, .frames, .links, .time, .media] s (scheduleStep s delta) := by
  unfold scheduleStep
  repeat' first
    | with_reducible apply Does.refl | with_reducible apply Does.next (State.modTime_does _ _)
    | with_reducible apply Does.next (stepNow_does _ _) | exact rfl | split | dsimp only

theorem servo_does (s : State) (offset : ℤ) : Does [.time] s (servo s offset) := by
  unfold servo
  repeat' first
    | with_reducible apply Does.refl | with_reducible apply Does.next (State.modTime_does _ _) | exact rfl | split | dsimp only

theorem realign_does (s : State) (offset : ℤ) : Does [.hub, .queues, .frames, .links, .time, .media] s (realign s offset) := by
  unfold realign
  repeat' first
    | with_reducible apply Does.refl | with_reducible apply Does.next (State.modTime_does _ _)
    | with_reducible apply Does.next (scheduleStep_does _ _) | with_reducible apply Does.next (timeEvent_does _ _ _)
    | with_reducible apply Does.next (toRef_does _ _) | exact rfl | split | dsimp only

theorem holdover_does (s : State) (rate : Bool) : Does [.queues, .time] s (holdover s rate) := by
  unfold holdover
  repeat' first
    | with_reducible apply Does.refl | with_reducible apply Does.next (State.modTime_does _ _)
    | with_reducible apply Does.next (timeEvent_does _ _ _) | with_reducible apply Does.next (toRef_does _ _) | exact rfl | split
    | dsimp only

theorem lock_does (s : State) : Does [.queues, .time] s (lock s) := by
  unfold lock
  repeat' first
    | with_reducible apply Does.refl | with_reducible apply Does.next (timeEvent_does _ _ _)
    | with_reducible apply Does.next (toRef_does _ _) | exact rfl | dsimp only

theorem countGood_does (s : State) (ok : Bool) : Does [.queues, .time] s (countGood s ok) := by
  unfold countGood
  repeat' first
    | with_reducible apply Does.refl | with_reducible apply Does.next (State.modTime_does _ _)
    | with_reducible apply Does.next (lock_does _) | exact rfl | split | dsimp only

theorem steer_does (s : State) (offset : ℤ) (glitch : Bool) : Does [.time] s (steer s offset glitch) := by
  unfold steer
  repeat' first
    | with_reducible apply Does.refl | with_reducible apply Does.next (servo_does _ _) | exact rfl | split | dsimp only

theorem useMeasurement_does (s : State) (offset : ℤ) (glitch : Bool) (onTime : Bool) : Does [.hub, .queues, .frames, .links, .time, .media] s (useMeasurement s offset glitch onTime) := by
  unfold useMeasurement
  repeat' first
    | with_reducible apply Does.refl | with_reducible apply Does.next (State.modTime_does _ _)
    | with_reducible apply Does.next (countGood_does _ _) | with_reducible apply Does.next (realign_does _ _)
    | with_reducible apply Does.next (steer_does _ _ _) | with_reducible apply Does.next (stepNow_does _ _)
    | with_reducible apply Does.next (timeEvent_does _ _ _) | with_reducible apply Does.next (toRef_does _ _) | exact rfl | split
    | dsimp only

theorem useGlitch_does (s : State) (offset : ℤ) (onTime : Bool) : Does [.hub, .queues, .frames, .links, .time, .media] s (useGlitch s offset onTime) := by
  unfold useGlitch
  repeat' first
    | with_reducible apply Does.refl | with_reducible apply Does.next (State.modTime_does _ _)
    | with_reducible apply Does.next (holdover_does _ _) | with_reducible apply Does.next (realign_does _ _) | exact rfl | split
    | dsimp only

theorem measurement_does (s : State) (offset : ℤ) (glitch : Bool) (onTime : Bool) : Does [.hub, .queues, .frames, .links, .time, .media] s (measurement s offset glitch onTime) := by
  unfold measurement
  repeat' first
    | with_reducible apply Does.refl | with_reducible apply Does.next (useGlitch_does _ _ _)
    | with_reducible apply Does.next (useMeasurement_does _ _ _ _) | exact rfl | split | dsimp only

theorem ownOrders_does (s : State) (d : DieId) : Does [.frames, .dies, .free] s (ownOrders s d) := by
  unfold ownOrders
  repeat' first
    | with_reducible apply Does.refl | with_reducible apply Does.next (ackOrder_does _ _) | with_reducible apply Does.each
    | exact rfl | intro _ _ | split | dsimp only

theorem promote_does (s : State) (d : DieId) (epoch : BitVec 8) : Does [.hub, .plt, .queues, .frames, .links, .dies, .time, .firmware, .out, .free] s (promote s d epoch) := by
  unfold promote
  repeat' first
    | with_reducible apply Does.refl | with_reducible apply Does.next (State.modDie_does _ _ _)
    | with_reducible apply Does.next (raise_does _ _ _ _ _ _) | with_reducible apply Does.next (repeatTxns_does _)
    | with_reducible apply Does.next (takeOrders_does _ _) | exact rfl | dsimp only

theorem becomeShadow_does (s : State) (d : DieId) (epoch : BitVec 8) : Does [.queues, .dies] s (becomeShadow s d epoch) := by
  unfold becomeShadow
  repeat' first
    | with_reducible apply Does.refl | with_reducible apply Does.next (State.modDie_does _ _ _)
    | with_reducible apply Does.next (raise_does _ _ _ _ _ _) | exact rfl | split | dsimp only

theorem setMicrocode_does (s : State) (d : DieId) (mc : Word) : Does [.firmware] s (setMicrocode s d mc) := by
  unfold setMicrocode
  repeat' first
    | with_reducible apply Does.refl | with_reducible apply Does.next (State.modFirmware_does _ _ ?_) | exact rfl
    | exact fun _ => rfl | split | dsimp only

theorem admitDie_does (s : State) (d : DieId) : Does [.hub, .plt, .queues, .frames, .links, .dies, .time, .clocks, .firmware, .service, .out, .free] s (admitDie s d) := by
  unfold admitDie
  repeat' first
    | with_reducible apply Does.refl | with_reducible apply Does.next (State.modDie_does _ _ _)
    | with_reducible apply Does.next (State.modTwin_does _ _) | with_reducible apply Does.next (enablePorts_does _ _)
    | with_reducible apply Does.next (fallBackDue_does _) | with_reducible apply Does.next (restartPort_does _ _)
    | with_reducible apply Does.next (roleChange_does _ _) | with_reducible apply Does.next (sendCommand_does _ _ _)
    | with_reducible apply Does.next (setCause_does _ _ _) | with_reducible apply Does.next (setMcStep_does _ _)
    | with_reducible apply Does.next (setMemory_does _ _ _) | with_reducible apply Does.foldl | with_reducible apply Does.foldlFst
    | exact rfl | intro _ _ | split | dsimp only

theorem copyState_does (s : State) (d : DieId) : Does [.queues, .frames] s (copyState s d) := by
  unfold copyState
  repeat' first
    | with_reducible apply Does.refl
    | with_reducible apply Does.next (loadScrim_does _ _ _)
    | with_reducible apply Does.each
    | with_reducible apply Does.foldl
    | with_reducible apply Does.foldlFst
    | with_reducible apply Does.next (State.modFrames_bufs _ _ ?_)
    | exact fun h => ⟨bufsWf_filter _ h, h⟩
    | exact fun _ => ⟨by assumption, bufsWf_filter _ (by assumption)⟩
    | exact fun _ => ⟨by assumption, by assumption⟩
    | exact rfl
    | exact fun _ => ⟨rfl, rfl⟩
    | exact fun _ => rfl
    | exact fun _ => setSlot_fuse _ _ _
    | intro _ _
    | split
    | dsimp only

theorem failVerification_does (s : State) (d : DieId) : Does [.hub, .plt, .queues, .frames, .links, .dies, .time, .clocks, .firmware, .service, .out, .free] s (failVerification s d) := by
  unfold failVerification
  repeat' first
    | with_reducible apply Does.refl | with_reducible apply Does.next (State.modTwin_does _ _)
    | with_reducible apply Does.next (fallBackDue_does _) | with_reducible apply Does.next (holdDie_does _ _)
    | with_reducible apply Does.next (setCause_does _ _ _) | with_reducible apply Does.next (setMcStep_does _ _) | exact rfl
    | split | dsimp only

theorem coldSlot_does (s : State) (k : ℕ) : Does [.queues, .frames, .out] s (coldSlot s k) := by
  unfold coldSlot
  repeat' first
    | with_reducible apply Does.refl | with_reducible apply Does.next (State.modSlot_does _ _ _)
    | with_reducible apply Does.next (cancelPulls_does _ _) | with_reducible apply Does.foldl | with_reducible apply Does.foldlFst
    | exact rfl | intro _ _ | split | dsimp only

theorem coldCanvas_does (s : State) (c : ℕ) : Does [.hub, .queues, .frames] s (coldCanvas s c) := by
  unfold coldCanvas
  repeat' first
    | with_reducible apply Does.refl | with_reducible apply Does.next (State.modCanvas_does _ _ _)
    | with_reducible apply Does.next (State.modLayer_does _ _ _) | with_reducible apply Does.next (finishLong_does _ _ _ _ _)
    | with_reducible apply Does.each | exact rfl | intro _ _ | split | dsimp only

theorem coldState_does (s : State) : Does [.hub, .queues, .frames, .links, .out] s (coldState s) := by
  unfold coldState
  repeat' first
    | with_reducible apply Does.refl
    | with_reducible apply Does.next (State.modLayer_does _ _ _)
    | with_reducible apply Does.next (State.modTable_does _ _ _)
    | with_reducible apply Does.next (State.modTile_does _ _ _)
    | with_reducible apply Does.next (coldCanvas_does _ _)
    | with_reducible apply Does.next (coldSlot_does _ _)
    | with_reducible apply Does.each
    | with_reducible apply Does.foldl
    | with_reducible apply Does.foldlFst
    | with_reducible apply Does.next (State.modFrames_bufs _ _ ?_)
    | exact fun _ _ _ => ⟨rfl, rfl⟩
    | exact rfl
    | exact fun _ => ⟨rfl, rfl⟩
    | exact fun _ => rfl
    | exact fun _ => setSlot_fuse _ _ _
    | intro _ _
    | split
    | dsimp only

theorem startDie_does (s : State) (d : DieId) (role : Role) (epoch : BitVec 8) : Does [.queues, .links, .dies, .time, .clocks, .firmware] s (startDie s d role epoch) := by
  unfold startDie
  repeat' first
    | with_reducible apply Does.refl | with_reducible apply Does.next (State.modDie_does _ _ _)
    | with_reducible apply Does.next (State.modTwin_does _ _) | with_reducible apply Does.next (State.setCopy_does _ _ _)
    | with_reducible apply Does.next (enablePorts_does _ _) | with_reducible apply Does.next (raise_does _ _ _ _ _ _)
    | with_reducible apply Does.next (restartPort_does _ _) | with_reducible apply Does.next (setCause_does _ _ _)
    | with_reducible apply Does.next (setMemory_does _ _ _) | with_reducible apply Does.next (setMicrocode_does _ _ _)
    | with_reducible apply Does.next (setPll_does _ _ _) | with_reducible apply Does.foldl | with_reducible apply Does.foldlFst
    | exact rfl | intro _ _ | split | dsimp only

theorem startDies_does (s : State) (passA : Bool) (passB : Bool) (epoch : BitVec 8) : Does [.queues, .links, .dies, .time, .clocks, .firmware] s (startDies s passA passB epoch) := by
  unfold startDies
  repeat' first
    | with_reducible apply Does.refl | with_reducible apply Does.next (State.modTwin_does _ _)
    | with_reducible apply Does.next (roleChange_does _ _) | with_reducible apply Does.next (startDie_does _ _ _ _) | exact rfl
    | split | dsimp only

theorem twinStatusReadBody_does (s : State) (xQ_QQSys2ProofQMachineQTwinRowsQ4061654384Q_hygCtxQ_hygQ3 : Req) : Does [] s (twinStatusReadBody s xQ_QQSys2ProofQMachineQTwinRowsQ4061654384Q_hygCtxQ_hygQ3).state := by
  unfold twinStatusReadBody
  repeat' first
    | with_reducible apply Does.refl
    | dsimp only [Ans.ok, Ans.busy, Ans.badLen, Ans.badParam, Ans.notReady, Ans.conflict, Ans.accepted] | split | dsimp only

theorem twinVoteReadBody_does (s : State) (r : Req) : Does [] s (twinVoteReadBody s r).state := by
  unfold twinVoteReadBody
  repeat' first
    | with_reducible apply Does.refl
    | dsimp only [Ans.ok, Ans.busy, Ans.badLen, Ans.badParam, Ans.notReady, Ans.conflict, Ans.accepted] | split | dsimp only

theorem twinServiceBody_does (s : State) (r : Req) : Does [.queues, .frames, .links, .dies, .time, .clocks, .firmware, .service, .out, .free] s (twinServiceBody s r).state := by
  unfold twinServiceBody
  repeat' first
    | with_reducible apply Does.refl | with_reducible apply Does.next (State.modTwin_does _ _)
    | with_reducible apply Does.next (fenceDie_does _ _ _)
    | dsimp only [Ans.ok, Ans.busy, Ans.badLen, Ans.badParam, Ans.notReady, Ans.conflict, Ans.accepted] | exact rfl | split
    | dsimp only

theorem dieLinkFails_does (s : State) (link : ℕ) : Does [.queues, .frames, .links, .dies, .time, .clocks, .firmware, .service, .out, .free] s (dieLinkFails s link) := by
  unfold dieLinkFails
  repeat' first
    | with_reducible apply Does.refl | with_reducible apply Does.next (State.drawn_does _)
    | with_reducible apply Does.next (State.modTwin_does _ _) | with_reducible apply Does.next (declareFatal_does _ _ _)
    | with_reducible apply Does.next (fenceDie_does _ _ _) | with_reducible apply Does.next (raise_does _ _ _ _ _ _)
    | with_reducible apply Does.foldl | with_reducible apply Does.foldlFst | exact rfl | intro _ _ | split | dsimp only

theorem timeReadBody_does (s : State) (xQ_QQSys2ProofQMachineQTimeRowsQ1447031826Q_hygCtxQ_hygQ3 : Req) : Does [] s (timeReadBody s xQ_QQSys2ProofQMachineQTimeRowsQ1447031826Q_hygCtxQ_hygQ3).state := by
  unfold timeReadBody
  repeat' first
    | with_reducible apply Does.refl
    | dsimp only [Ans.ok, Ans.busy, Ans.badLen, Ans.badParam, Ans.notReady, Ans.conflict, Ans.accepted] | dsimp only

theorem timeServoBody_does (s : State) (r : Req) : Does [.plt, .time] s (timeServoBody s r).state := by
  unfold timeServoBody
  repeat' first
    | with_reducible apply Does.refl | with_reducible apply Does.next (State.modTime_does _ _)
    | with_reducible apply Does.next (settingsDue_does _) | with_reducible apply Does.next (toRef_does _ _)
    | dsimp only [Ans.ok, Ans.busy, Ans.badLen, Ans.badParam, Ans.notReady, Ans.conflict, Ans.accepted] | exact rfl | split
    | dsimp only

theorem timeIncrementBody_does (s : State) (r : Req) : Does [.hub, .queues, .frames, .links, .time, .media] s (timeIncrementBody s r).state := by
  unfold timeIncrementBody
  repeat' first
    | with_reducible apply Does.refl | with_reducible apply Does.next (State.modTime_does _ _)
    | with_reducible apply Does.next (scheduleStep_does _ _)
    | dsimp only [Ans.ok, Ans.busy, Ans.badLen, Ans.badParam, Ans.notReady, Ans.conflict, Ans.accepted] | exact rfl | split
    | dsimp only

theorem ptpConfigBody_does (s : State) (r : Req) : Does [.plt, .queues, .time] s (ptpConfigBody s r).state := by
  unfold ptpConfigBody
  repeat' first
    | with_reducible apply Does.refl | with_reducible apply Does.next (State.modTime_does _ _)
    | with_reducible apply Does.next (restartPort_does _ _) | with_reducible apply Does.next (settingsDue_does _)
    | with_reducible apply Does.each
    | dsimp only [Ans.ok, Ans.busy, Ans.badLen, Ans.badParam, Ans.notReady, Ans.conflict, Ans.accepted] | exact rfl | intro _ _
    | split | dsimp only

theorem ptpStatusReadBody_does (s : State) (xQ_QQSys2ProofQMachineQTimeRowsQ589678086Q_hygCtxQ_hygQ3 : Req) : Does [] s (ptpStatusReadBody s xQ_QQSys2ProofQMachineQTimeRowsQ589678086Q_hygCtxQ_hygQ3).state := by
  unfold ptpStatusReadBody
  repeat' first
    | with_reducible apply Does.refl
    | dsimp only [Ans.ok, Ans.busy, Ans.badLen, Ans.badParam, Ans.notReady, Ans.conflict, Ans.accepted] | split | dsimp only

theorem refConfigBody_does (s : State) (r : Req) : Does [.plt, .time, .out] s (refConfigBody s r).state := by
  unfold refConfigBody
  repeat' first
    | with_reducible apply Does.refl | with_reducible apply Does.next (State.emit_does _ _)
    | with_reducible apply Does.next (State.modTime_does _ _) | with_reducible apply Does.next (settingsDue_does _)
    | with_reducible apply Does.next (toRef_does _ _)
    | dsimp only [Ans.ok, Ans.busy, Ans.badLen, Ans.badParam, Ans.notReady, Ans.conflict, Ans.accepted] | exact rfl | split
    | dsimp only

theorem keepOffset_does (s : State) (offset : ℤ) (mode : ServoMode) : Does [.time] s (keepOffset s offset mode) := by
  unfold keepOffset
  repeat' first
    | with_reducible apply Does.refl | with_reducible apply Does.next (State.modTime_does _ _) | exact rfl | split | dsimp only

theorem sendDelayReq_does (s : State) (port : ℕ) : Does [.out] s (sendDelayReq s port) := by
  unfold sendDelayReq
  repeat' first
    | with_reducible apply Does.refl | with_reducible apply Does.next (State.emit_does _ _) | exact rfl | split | dsimp only

theorem measureSync_does (s : State) (m : SyncMsg) : Does [.hub, .queues, .frames, .links, .time, .media, .out] s (measureSync s m) := by
  unfold measureSync
  repeat' first
    | with_reducible apply Does.refl | with_reducible apply Does.next (State.modOc_does _ _ _)
    | with_reducible apply Does.next (State.modTime_does _ _) | with_reducible apply Does.next (followGm_does _ _)
    | with_reducible apply Does.next (keepOffset_does _ _ _) | with_reducible apply Does.next (measurement_does _ _ _ _)
    | with_reducible apply Does.next (sendDelayReq_does _ _) | with_reducible apply Does.next (setPortState_does _ _ _)
    | exact rfl | split | dsimp only

theorem measureEdge_does (s : State) (age : ℕ) : Does [.hub, .queues, .frames, .links, .time, .media] s (measureEdge s age) := by
  unfold measureEdge
  repeat' first
    | with_reducible apply Does.refl | with_reducible apply Does.next (State.modTime_does _ _)
    | with_reducible apply Does.next (keepOffset_does _ _ _) | with_reducible apply Does.next (measurement_does _ _ _ _)
    | exact rfl | split | dsimp only

theorem measureGate_does (s : State) (count : ℕ) : Does [.hub, .queues, .frames, .links, .time, .media] s (measureGate s count) := by
  unfold measureGate
  repeat' first
    | with_reducible apply Does.refl | with_reducible apply Does.next (measurement_does _ _ _ _) | exact rfl | split | dsimp only

theorem passPtp_does (s : State) (d : DieId) (m : PtpMsg) (add : Option ℕ) : Does [.time, .out] s (passPtp s d m add) := by
  unfold passPtp
  repeat' first
    | with_reducible apply Does.refl | with_reducible apply Does.next (State.emit_does _ _)
    | with_reducible apply Does.next (State.modTime_does _ _) | exact rfl | split | dsimp only

theorem sapConfigBody_does (s : State) (r : Req) : Does [.media] s (sapConfigBody s r).state := by
  unfold sapConfigBody
  repeat' first
    | with_reducible apply Does.refl | with_reducible apply Does.next (State.modSap_does _ _ _)
    | dsimp only [Ans.ok, Ans.busy, Ans.badLen, Ans.badParam, Ans.notReady, Ans.conflict, Ans.accepted] | exact rfl | split
    | dsimp only

theorem sapStartBody_does (s : State) (r : Req) : Does [.hub, .queues, .media, .out] s (sapStartBody s r).state := by
  unfold sapStartBody
  repeat' first
    | with_reducible apply Does.refl | with_reducible apply Does.next (State.modSap_does _ _ _)
    | with_reducible apply Does.next (reportSap_does _ _ _) | with_reducible apply Does.next (sapEvent_does _ _ _ _)
    | with_reducible apply Does.next (violate_does _ _)
    | dsimp only [Ans.ok, Ans.busy, Ans.badLen, Ans.badParam, Ans.notReady, Ans.conflict, Ans.accepted] | exact rfl | split
    | dsimp only

theorem sapStopBody_does (s : State) (r : Req) : Does [.queues, .frames, .media, .out] s (sapStopBody s r).state := by
  unfold sapStopBody
  repeat' first
    | with_reducible apply Does.refl | with_reducible apply Does.next (State.modSap_does _ _ _)
    | with_reducible apply Does.next (endStop_does _ _)
    | dsimp only [Ans.ok, Ans.busy, Ans.badLen, Ans.badParam, Ans.notReady, Ans.conflict, Ans.accepted] | exact rfl | split
    | dsimp only

theorem sapMuteBody_does (s : State) (r : Req) : Does [.media] s (sapMuteBody s r).state := by
  unfold sapMuteBody
  repeat' first
    | with_reducible apply Does.refl | with_reducible apply Does.next (State.modSap_does _ _ _) | with_reducible apply Does.foldl
    | with_reducible apply Does.foldlFst
    | dsimp only [Ans.ok, Ans.busy, Ans.badLen, Ans.badParam, Ans.notReady, Ans.conflict, Ans.accepted] | exact rfl | intro _ _
    | split | dsimp only

theorem sapStatusReadBody_does (s : State) (r : Req) : Does [] s (sapStatusReadBody s r).state := by
  unfold sapStatusReadBody
  repeat' first
    | with_reducible apply Does.refl
    | dsimp only [Ans.ok, Ans.busy, Ans.badLen, Ans.badParam, Ans.notReady, Ans.conflict, Ans.accepted] | dsimp only

theorem readAhead_does (s : State) (n : ℕ) : Does [.queues, .frames, .media, .out] s (readAhead s n) := by
  unfold readAhead
  repeat' first
    | with_reducible apply Does.refl | with_reducible apply Does.next (State.modSap_does _ _ _)
    | with_reducible apply Does.next (givePlay_does _ _ _) | with_reducible apply Does.next (readHost_does _ _ _ _) | exact rfl
    | split | dsimp only

theorem sapPacket_does (s : State) (n : ℕ) (i : ℕ) (leg : ℕ) (k : AudioPkt) : Does [.queues, .media] s (sapPacket s n i leg k) := by
  unfold sapPacket
  repeat' first
    | with_reducible apply Does.refl | with_reducible apply Does.next (State.modSap_does _ _ _)
    | with_reducible apply Does.next (sapEvent_does _ _ _ _) | with_reducible apply Does.foldl
    | with_reducible apply Does.foldlFst | exact rfl | intro _ _ | split | dsimp only

theorem playBlock_does (s : State) (n : ℕ) (t : ℕ) : Does [.queues, .frames, .media, .out] s (playBlock s n t) := by
  unfold playBlock
  repeat' first
    | with_reducible apply Does.refl | with_reducible apply Does.next (State.emit_does _ _)
    | with_reducible apply Does.next (State.modSap_does _ _ _) | with_reducible apply Does.next (endStop_does _ _)
    | with_reducible apply Does.next (sapEvent_does _ _ _ _) | with_reducible apply Does.foldl
    | with_reducible apply Does.foldlFst | exact rfl | intro _ _ | dsimp only

theorem captureBlock_does (s : State) (n : ℕ) (t : ℕ) (input : List (BitVec 32)) : Does [.queues, .frames, .media, .out] s (captureBlock s n t input) := by
  unfold captureBlock
  repeat' first
    | with_reducible apply Does.refl | with_reducible apply Does.next (State.emit_does _ _)
    | with_reducible apply Does.next (State.modSap_does _ _ _) | with_reducible apply Does.next (complete_does _ _ _ _ _)
    | with_reducible apply Does.next (endStop_does _ _) | with_reducible apply Does.next (sapEvent_does _ _ _ _) | exact rfl
    | split | dsimp only

theorem slewBlock_does (s : State) (n : ℕ) (t : ℕ) : Does [.queues, .media] s (slewBlock s n t) := by
  unfold slewBlock
  repeat' first
    | with_reducible apply Does.refl | with_reducible apply Does.next (State.modSap_does _ _ _)
    | with_reducible apply Does.next (sapEvent_does _ _ _ _) | exact rfl | split | dsimp only

theorem decEvent_does (s : State) (k : ℕ) (code : ℕ) (data : optParam Word 0) : Does [.queues] s (decEvent s k code data) := by
  unfold decEvent
  repeat' first
    | with_reducible apply Does.refl | with_reducible apply Does.next (raise_does _ _ _ _ _ _) | exact rfl | dsimp only

theorem encEvent_does (s : State) (k : ℕ) (code : ℕ) (frame : ℕ) : Does [.queues] s (encEvent s k code frame) := by
  unfold encEvent
  repeat' first
    | with_reducible apply Does.refl | with_reducible apply Does.next (raise_does _ _ _ _ _ _) | exact rfl | dsimp only

theorem outputPicture_does (s : State) (k : ℕ) (b : ℕ) : Does [.queues, .frames, .media] s (outputPicture s k b) := by
  unfold outputPicture
  repeat' first
    | with_reducible apply Does.refl | with_reducible apply Does.next (State.modDec_does _ _ _)
    | with_reducible apply Does.next (bufReady_does _ _ _ _ _) | with_reducible apply Does.next (decEvent_does _ _ _ _)
    | with_reducible apply Does.next (startFilling_does _ _ _) | with_reducible apply Does.next (writeBoth_does _ _ _ _ _)
    | refine Does.next (freeTarget_does (by assumption)) rfl ?_ | with_reducible apply Does.foldl
    | with_reducible apply Does.foldlFst | exact rfl | intro _ _ | split | dsimp only

theorem bump_does (k : Nat) (more : Dec → Bool) (n : Nat) (s : State) : Does [.queues, .frames, .media] s (bump k more n s) := by
  induction n generalizing s with
  | zero => exact Does.refl _ _
  | succ n ih =>
    unfold bump
    dsimp only
    split
    · exact Does.refl _ _
    · split
      · exact (outputPicture_does _ _ _).trans (ih _)
      · exact Does.refl _ _

theorem beginPicture_does (s : State) (k : ℕ) : Does [.queues, .frames, .media] s (beginPicture s k) := by
  unfold beginPicture
  repeat' first
    | with_reducible apply Does.refl | with_reducible apply Does.next (State.modDec_does _ _ _)
    | with_reducible apply Does.next (outputPicture_does _ _ _) | exact rfl | split | dsimp only

theorem decConfigBody_does (s : State) (r : Req) : Does [.media] s (decConfigBody s r).state := by
  unfold decConfigBody
  repeat' first
    | with_reducible apply Does.refl | with_reducible apply Does.next (State.modDec_does _ _ _)
    | dsimp only [Ans.ok, Ans.busy, Ans.badLen, Ans.badParam, Ans.notReady, Ans.conflict, Ans.accepted] | exact rfl | split
    | dsimp only

theorem reportDec_does (s : State) (k : ℕ) (join : Bool) : Does [.out] s (reportDec s k join) := by
  unfold reportDec
  repeat' first
    | with_reducible apply Does.refl | with_reducible apply Does.next (reportLegs_does _ _ _ _ _ _) | exact rfl | dsimp only

theorem decStartBody_does (s : State) (r : Req) : Does [.queues, .media, .out] s (decStartBody s r).state := by
  unfold decStartBody
  repeat' first
    | with_reducible apply Does.refl | with_reducible apply Does.next (State.modDec_does _ _ _)
    | with_reducible apply Does.next (decEvent_does _ _ _ _) | with_reducible apply Does.next (reportDec_does _ _ _)
    | dsimp only [Ans.ok, Ans.busy, Ans.badLen, Ans.badParam, Ans.notReady, Ans.conflict, Ans.accepted] | exact rfl | split
    | dsimp only

theorem cancelFilling_does (s : State) (j : ℕ) : Does [.frames] s (cancelFilling s j) := by
  unfold cancelFilling
  repeat' first
    | with_reducible apply Does.refl | with_reducible apply Does.next (State.modSlot_does _ _ _) | with_reducible apply Does.foldl
    | with_reducible apply Does.foldlFst | exact rfl | intro _ _ | split | dsimp only

theorem decStopBody_does (s : State) (r : Req) : Does [.queues, .frames, .media, .out] s (decStopBody s r).state := by
  unfold decStopBody
  repeat' first
    | with_reducible apply Does.refl | with_reducible apply Does.next (State.modDec_does _ _ _)
    | with_reducible apply Does.next (cancelFilling_does _ _) | with_reducible apply Does.next (decEvent_does _ _ _ _)
    | with_reducible apply Does.next (reportDec_does _ _ _)
    | dsimp only [Ans.ok, Ans.busy, Ans.badLen, Ans.badParam, Ans.notReady, Ans.conflict, Ans.accepted] | exact rfl | split
    | dsimp only

theorem deliverPkt_does (s : State) (k : ℕ) (p : RtpPkt) : Does [.queues, .frames, .media] s (deliverPkt s k p) := by
  unfold deliverPkt
  repeat' first
    | with_reducible apply Does.refl | with_reducible apply Does.next (State.modDec_does _ _ _)
    | with_reducible apply Does.next (beginPicture_does _ _) | exact rfl | split | dsimp only

theorem drainWindow_does (k n : Nat) (s : State) : Does [.queues, .frames, .media] s (drainWindow k n s) := by
  induction n generalizing s with
  | zero => exact Does.refl _ _
  | succ n ih =>
    unfold drainWindow
    split
    · split
      · exact (((State.modDec_does _ _ _).mono rfl).trans ((deliverPkt_does _ _ _).mono rfl)).trans (ih _)
      · exact Does.refl _ _
    · exact Does.refl _ _

theorem orderPkt_does (s : State) (k : ℕ) (p : RtpPkt) : Does [.queues, .frames, .media] s (orderPkt s k p) := by
  unfold orderPkt
  repeat' first
    | with_reducible apply Does.refl | with_reducible apply Does.next (State.modDec_does _ _ _)
    | with_reducible apply Does.next (deliverPkt_does _ _ _) | with_reducible apply Does.next (drainWindow_does _ _ _) | exact rfl
    | split | dsimp only

theorem decPacket_does (s : State) (k : ℕ) (leg : ℕ) (p : RtpPkt) : Does [.queues, .frames, .media] s (decPacket s k leg p) := by
  unfold decPacket
  repeat' first
    | with_reducible apply Does.refl | with_reducible apply Does.next (State.modDec_does _ _ _)
    | with_reducible apply Does.next (decEvent_does _ _ _ _) | with_reducible apply Does.next (orderPkt_does _ _ _) | exact rfl
    | split | dsimp only

theorem completePicture_does (s : State) (k : ℕ) (b : ℕ) (p : Picture) : Does [.queues, .frames, .media] s (completePicture s k b p) := by
  unfold completePicture
  repeat' first
    | with_reducible apply Does.refl | with_reducible apply Does.next (State.modDec_does _ _ _)
    | with_reducible apply Does.next (bump_does _ _ _ _) | with_reducible apply Does.next (decEvent_does _ _ _ _)
    | with_reducible apply Does.foldl | with_reducible apply Does.foldlFst | exact rfl | intro _ _ | split | dsimp only

theorem encConfigBody_does (s : State) (r : Req) : Does [.media, .free] s (encConfigBody s r).state := by
  unfold encConfigBody
  repeat' first
    | with_reducible apply Does.refl | with_reducible apply Does.next (State.drawn_does _)
    | with_reducible apply Does.next (State.modEnc_does _ _ _)
    | dsimp only [Ans.ok, Ans.busy, Ans.badLen, Ans.badParam, Ans.notReady, Ans.conflict, Ans.accepted] | exact rfl | split
    | dsimp only

theorem encStartBody_does (s : State) (r : Req) : Does [.hub, .queues, .media] s (encStartBody s r).state := by
  unfold encStartBody
  repeat' first
    | with_reducible apply Does.refl | with_reducible apply Does.next (State.modEnc_does _ _ _)
    | with_reducible apply Does.next (encEvent_does _ _ _ _) | with_reducible apply Does.next (violate_does _ _)
    | dsimp only [Ans.ok, Ans.busy, Ans.badLen, Ans.badParam, Ans.notReady, Ans.conflict, Ans.accepted] | exact rfl | split
    | dsimp only

theorem endEncode_does (s : State) (k : ℕ) : Does [.queues, .media] s (endEncode s k) := by
  unfold endEncode
  repeat' first
    | with_reducible apply Does.refl | with_reducible apply Does.next (State.modEnc_does _ _ _)
    | with_reducible apply Does.next (encEvent_does _ _ _ _) | exact rfl | dsimp only

theorem encStopBody_does (s : State) (r : Req) : Does [.queues, .media] s (encStopBody s r).state := by
  unfold encStopBody
  repeat' first
    | with_reducible apply Does.refl | with_reducible apply Does.next (State.modEnc_does _ _ _)
    | with_reducible apply Does.next (endEncode_does _ _)
    | dsimp only [Ans.ok, Ans.busy, Ans.badLen, Ans.badParam, Ans.notReady, Ans.conflict, Ans.accepted] | exact rfl | split
    | dsimp only

theorem vcxStatusReadBody_does (s : State) (r : Req) : Does [] s (vcxStatusReadBody s r).state := by
  unfold vcxStatusReadBody
  repeat' first
    | with_reducible apply Does.refl
    | dsimp only [Ans.ok, Ans.busy, Ans.badLen, Ans.badParam, Ans.notReady, Ans.conflict, Ans.accepted] | split | dsimp only

theorem giveUnit_does (s : State) (b : EncBuf) (au : AccessUnit) : Does [.queues, .frames, .out] s (giveUnit s b au) := by
  unfold giveUnit
  repeat' first
    | with_reducible apply Does.refl | with_reducible apply Does.next (State.emit_does _ _)
    | with_reducible apply Does.next (complete_does _ _ _ _ _) | exact rfl | dsimp only

theorem applyValues_does (s : State) (i : CalItem) (v : List ℤ) : Does [.links, .time, .clocks, .therm, .out, .free] s (applyValues s i v) := by
  unfold applyValues
  repeat' first
    | with_reducible apply Does.refl | with_reducible apply Does.next (State.modChan_does _ _ _ _)
    | with_reducible apply Does.next (State.modTherm_does _ _ _) | with_reducible apply Does.next (State.modTime_does _ _)
    | with_reducible apply Does.next (setLane_does _ _ _ _) | exact rfl | split | dsimp only

theorem keepOld_does (s : State) (i : CalItem) : Does [.links, .clocks, .service, .out, .free] s (keepOld s i) := by
  unfold keepOld
  repeat' first
    | with_reducible apply Does.refl | with_reducible apply Does.next (State.modCal_does _ _ _)
    | with_reducible apply Does.next (State.modChan_does _ _ _ _) | with_reducible apply Does.next (setLane_does _ _ _ _)
    | exact rfl | split | dsimp only

theorem endCal_does (s : State) (i : CalItem) (runs : List CalRun) (pair : Option (CalRun × CalRun)) : Does [.queues, .links, .time, .clocks, .therm, .service, .out, .free] s (endCal s i runs pair) := by
  unfold endCal
  repeat' first
    | with_reducible apply Does.refl | with_reducible apply Does.next (State.modCal_does _ _ _)
    | with_reducible apply Does.next (applyValues_does _ _ _) | with_reducible apply Does.next (calEvent_does _ _ _)
    | with_reducible apply Does.next (keepOld_does _ _) | exact rfl | split | dsimp only

theorem openWindow_does (s : State) (i : CalItem) : Does [.queues, .frames, .links, .dies, .time, .clocks, .firmware, .service, .out, .free] s (openWindow s i) := by
  unfold openWindow
  repeat' first
    | with_reducible apply Does.refl | with_reducible apply Does.next (State.modCal_does _ _ _)
    | with_reducible apply Does.next (calEvent_does _ _ _) | with_reducible apply Does.next (fenceDie_does _ _ _)
    | with_reducible apply Does.next (followGm_does _ _) | with_reducible apply Does.next (setPath_does _ _ _)
    | with_reducible apply Does.next (setPortState_does _ _ _) | exact rfl | split | dsimp only

theorem resumePath_does (s : State) (i : CalItem) : Does [.queues, .links, .time, .out, .free] s (resumePath s i) := by
  unfold resumePath
  repeat' first
    | with_reducible apply Does.refl | with_reducible apply Does.next (restartPort_does _ _)
    | with_reducible apply Does.next (startHop_does _ _ _) | with_reducible apply Does.each | exact rfl | intro _ _ | split
    | dsimp only

theorem sweep_does (s : State) (i : CalItem) : Does [.links, .out, .free] s (sweep s i) := by
  unfold sweep
  repeat' first
    | with_reducible apply Does.refl | with_reducible apply Does.next (sendLinkset_does _ _ _ _) | with_reducible apply Does.each
    | exact rfl | intro _ _ | split | dsimp only

theorem diagCalReadBody_does (s : State) (r : Req) : Does [] s (diagCalReadBody s r).state := by
  unfold diagCalReadBody
  repeat' first
    | with_reducible apply Does.refl
    | dsimp only [Ans.ok, Ans.busy, Ans.badLen, Ans.badParam, Ans.notReady, Ans.conflict, Ans.accepted] | split | dsimp only

theorem haltPackage_does (s : State) (code : ℕ) : Does [.hub, .queues, .frames, .links, .dies, .time, .clocks, .service, .out, .free] s (haltPackage s code) := by
  unfold haltPackage
  repeat' first
    | with_reducible apply Does.refl | with_reducible apply Does.next (State.modHub_does _ _)
    | with_reducible apply Does.next (holdDie_does _ _) | with_reducible apply Does.next (roleChange_does _ _)
    | with_reducible apply Does.next (setStage_does _ _) | exact rfl | dsimp only

theorem endTrial_does (s : State) : Does [.firmware] s (endTrial s) := by
  unfold endTrial
  repeat' first
    | with_reducible apply Does.refl | with_reducible apply Does.next (State.modFirmware_does _ _ ?_) | exact rfl
    | exact fun _ => rfl | exact fun _ => setSlot_fuse _ _ _ | split | dsimp only

theorem bootImage_does (s : State) (r : BootResult) : Does [.hub, .queues, .frames, .links, .dies, .time, .clocks, .firmware, .service, .out, .free] s (bootImage s r) := by
  unfold bootImage
  repeat' first
    | with_reducible apply Does.refl | with_reducible apply Does.next (State.modFirmware_does _ _ ?_)
    | with_reducible apply Does.next (haltPackage_does _ _) | with_reducible apply Does.next (setRunning_does _ _ _)
    | with_reducible apply Does.next (setStage_does _ _) | exact rfl | exact fun _ => rfl | exact fun _ => setSlot_fuse _ _ _
    | split | dsimp only

theorem bootTrain_does (s : State) (r : BootResult) : Does [.hub, .queues, .frames, .links, .dies, .time, .clocks, .service, .out, .free] s (bootTrain s r) := by
  unfold bootTrain
  repeat' first
    | with_reducible apply Does.refl | with_reducible apply Does.next (State.modHub_does _ _)
    | with_reducible apply Does.next (haltPackage_does _ _) | with_reducible apply Does.next (setStage_does _ _) | exact rfl
    | split | dsimp only

theorem bootRetire_does (s : State) (d : DieId) (failed : List ℕ) : Does [.dies] s (bootRetire s d failed) := by
  unfold bootRetire
  repeat' first
    | with_reducible apply Does.refl | with_reducible apply Does.next (State.modCluster_does _ _ _ _)
    | with_reducible apply Does.next (State.modRegion_does _ _ _ _) | with_reducible apply Does.each | exact rfl | intro _ _
    | dsimp only

theorem firstStart_does (s : State) : Does [.firmware] s (firstStart s) := by
  unfold firstStart
  repeat' first
    | with_reducible apply Does.refl | with_reducible apply Does.next (State.modFirmware_does _ _ ?_) | exact rfl
    | exact fun _ => rfl | split | dsimp only

theorem loadSettings_does (s : State) (a : SettingsArea) : Does [.plt, .links] s (loadSettings s a) := by
  unfold loadSettings
  repeat' first
    | with_reducible apply Does.refl | with_reducible apply Does.next (State.modPlt_does _ _)
    | with_reducible apply Does.next (State.modPort_does _ _ _) | with_reducible apply Does.next (State.modTile_does _ _ _)
    | with_reducible apply Does.each | exact rfl | intro _ _ | dsimp only

theorem startSpan_does (s : State) (d : DieId) (pass : Bool) : Does [.queues, .links, .dies, .time, .clocks, .firmware] s (startSpan s d pass) := by
  unfold startSpan
  repeat' first
    | with_reducible apply Does.refl | with_reducible apply Does.next (startDie_does _ _ _ _) | exact rfl | split | dsimp only

theorem startRoles_does (s : State) (a : Bool) (b : Bool) : Does [.hub, .queues, .frames, .links, .dies, .time, .clocks, .firmware] s (startRoles s a b) := by
  unfold startRoles
  repeat' first
    | with_reducible apply Does.refl | with_reducible apply Does.next (State.modFirmware_does _ _ ?_)
    | with_reducible apply Does.next (State.modHub_does _ _) | with_reducible apply Does.next (loadScrims_does _)
    | with_reducible apply Does.next (roleChange_does _ _) | with_reducible apply Does.next (startDies_does _ _ _ _)
    | with_reducible apply Does.next (startSpan_does _ _ _) | exact rfl | exact fun _ => rfl | split | dsimp only

theorem bootCheck_does (s : State) (r : BootResult) : Does [.hub, .plt, .queues, .frames, .links, .dies, .time, .clocks, .firmware, .service, .out, .free] s (bootCheck s r) := by
  unfold bootCheck
  repeat' first
    | with_reducible apply Does.refl | with_reducible apply Does.next (bootRetire_does _ _ _)
    | with_reducible apply Does.next (firstStart_does _) | with_reducible apply Does.next (haltPackage_does _ _)
    | with_reducible apply Does.next (loadSettings_does _ _) | with_reducible apply Does.next (setStage_does _ _)
    | with_reducible apply Does.next (startRoles_does _ _ _) | exact rfl | split | dsimp only

theorem startTime_does (s : State) : Does [.queues, .time] s (startTime s) := by
  unfold startTime
  repeat' first
    | with_reducible apply Does.refl | with_reducible apply Does.next (State.modTime_does _ _)
    | with_reducible apply Does.next (restartPort_does _ _) | with_reducible apply Does.next (toRef_does _ _)
    | with_reducible apply Does.each | exact rfl | intro _ _ | split | dsimp only

theorem startTrial_does (s : State) : Does [.queues, .firmware] s (startTrial s) := by
  unfold startTrial
  repeat' first
    | with_reducible apply Does.refl | with_reducible apply Does.next (State.modFirmware_does _ _ ?_)
    | with_reducible apply Does.next (raise_does _ _ _ _ _ _) | exact rfl | exact fun _ => rfl | split | dsimp only

theorem tellPast_does (s : State) : Does [.queues, .firmware, .service] s (tellPast s) := by
  unfold tellPast
  repeat' first
    | with_reducible apply Does.refl | with_reducible apply Does.next (State.modFirmware_does _ _ ?_)
    | with_reducible apply Does.next (State.modService_does _ _ ?_) | with_reducible apply Does.next (raise_does _ _ _ _ _ _)
    | exact rfl | exact fun _ => rfl | split | dsimp only

theorem submitHeld_does (s : State) (n : ℕ) : Does [.hub, .service] s (submitHeld s n) := by
  unfold submitHeld
  repeat' first
    | with_reducible apply Does.refl | with_reducible apply Does.next (State.modHub_does _ _)
    | with_reducible apply Does.next (State.modNsp_does _ _ _) | exact rfl | split | dsimp only

theorem startMicrocode_does (s : State) : Does [.queues, .frames, .links, .dies, .time, .clocks, .firmware, .service, .out, .free] s (startMicrocode s) := by
  unfold startMicrocode
  repeat' first
    | with_reducible apply Does.refl | with_reducible apply Does.next (State.modDie_does _ _ _)
    | with_reducible apply Does.next (fenceDie_does _ _ _) | with_reducible apply Does.next (setMcStep_does _ _)
    | with_reducible apply Does.foldl | with_reducible apply Does.foldlFst | exact rfl | intro _ _ | split | dsimp only

theorem enterReady_does (s : State) : Does [.hub, .queues, .firmware, .service, .out] s (enterReady s) := by
  unfold enterReady
  repeat' first
    | with_reducible apply Does.refl | with_reducible apply Does.next (State.modHub_does _ _)
    | with_reducible apply Does.next (finishLong_does _ _ _ _ _) | with_reducible apply Does.next (setStage_does _ _)
    | with_reducible apply Does.next (startTrial_does _) | with_reducible apply Does.next (submitHeld_does _ _)
    | with_reducible apply Does.each | exact rfl | intro _ _ | dsimp only

theorem fwLoadBody_does (s : State) (r : Req) : Does [.firmware] s (fwLoadBody s r).state := by
  unfold fwLoadBody
  repeat' first
    | with_reducible apply Does.refl | with_reducible apply Does.next (State.modFirmware_does _ _ ?_)
    | dsimp only [Ans.ok, Ans.busy, Ans.badLen, Ans.badParam, Ans.notReady, Ans.conflict, Ans.accepted] | exact rfl
    | exact fun _ => rfl | exact fun _ => setSlot_fuse _ _ _ | split | dsimp only

theorem fwActivateBody_does (s : State) (r : Req) : Does [.hub, .plt, .queues, .frames, .links, .time, .firmware, .service, .out, .free] s (fwActivateBody s r).state := by
  unfold fwActivateBody
  repeat' first
    | with_reducible apply Does.refl | with_reducible apply Does.next (State.modFirmware_does _ _ ?_)
    | with_reducible apply Does.next (beginFallBack_does _ _) | with_reducible apply Does.next (enterRestart_does _)
    | with_reducible apply Does.next (setRunning_does _ _ _)
    | dsimp only [Ans.ok, Ans.busy, Ans.badLen, Ans.badParam, Ans.notReady, Ans.conflict, Ans.accepted] | exact rfl
    | exact fun _ => rfl | exact fun _ => setSlot_fuse _ _ _ | split | dsimp only

theorem fallBackFor_does (s : State) (cause : ℕ) : Does [.hub, .plt, .queues, .frames, .links, .time, .firmware, .service, .out, .free] s (fallBackFor s cause) := by
  unfold fallBackFor
  repeat' first
    | with_reducible apply Does.refl | with_reducible apply Does.next (State.modFirmware_does _ _ ?_)
    | with_reducible apply Does.next (beginFallBack_does _ _) | exact rfl | exact fun _ => rfl | split | dsimp only



theorem fwStatusReadBody_does (s : State) (xQ_QQSys2ProofQMachineQFwRowsQ4185151650Q_hygCtxQ_hygQ3 : Req) : Does [] s (fwStatusReadBody s xQ_QQSys2ProofQMachineQFwRowsQ4185151650Q_hygCtxQ_hygQ3).state := by
  unfold fwStatusReadBody
  repeat' first
    | with_reducible apply Does.refl
    | dsimp only [Ans.ok, Ans.busy, Ans.badLen, Ans.badParam, Ans.notReady, Ans.conflict, Ans.accepted] | dsimp only

theorem tileFwRelayBody_does (s : State) (r : Req) : Does [.links, .firmware, .out, .free] s (tileFwRelayBody s r).state := by
  unfold tileFwRelayBody
  repeat' first
    | with_reducible apply Does.refl | with_reducible apply Does.next (State.modFirmware_does _ _ ?_)
    | with_reducible apply Does.next (relayNext_does _ _) | with_reducible apply Does.foldl | with_reducible apply Does.foldlFst
    | dsimp only [Ans.ok, Ans.busy, Ans.badLen, Ans.badParam, Ans.notReady, Ans.conflict, Ans.accepted] | exact rfl
    | exact fun _ => rfl | intro _ _ | split | dsimp only

theorem okBody_does (s : State) (xQ_QQSys2ProofQMachineQFwRowsQ1023623311Q_hygCtxQ_hygQ3 : Req) : Does [] s (okBody s xQ_QQSys2ProofQMachineQFwRowsQ1023623311Q_hygCtxQ_hygQ3).state := by
  unfold okBody
  repeat' first
    | with_reducible apply Does.refl
    | dsimp only [Ans.ok, Ans.busy, Ans.badLen, Ans.badParam, Ans.notReady, Ans.conflict, Ans.accepted] | dsimp only

theorem closeSession_does (s : State) (n : ℕ) : Does [.hub, .plt, .queues, .service, .out] s (closeSession s n) := by
  unfold closeSession
  repeat' first
    | with_reducible apply Does.refl | with_reducible apply Does.next (State.modHub_does _ _)
    | with_reducible apply Does.next (State.modNsp_does _ _ _) | with_reducible apply Does.next (beginDue_does _)
    | with_reducible apply Does.next (lapseProposal_does _ _) | with_reducible apply Does.next (raise_does _ _ _ _ _ _)
    | exact rfl | split | dsimp only

theorem touch_does (s : State) (n : ℕ) : Does [.service] s (touch s n) := by
  unfold touch
  repeat' first
    | with_reducible apply Does.refl | with_reducible apply Does.next (State.modNsp_does _ _ _) | exact rfl | dsimp only

theorem submitNsp_does (s : State) (n : ℕ) (nseq : BitVec 16) (words : List Word) : Does [.hub, .service] s (submitNsp s n nseq words) := by
  unfold submitNsp
  repeat' first
    | with_reducible apply Does.refl | with_reducible apply Does.next (State.modHub_does _ _)
    | with_reducible apply Does.next (State.modNsp_does _ _ _) | exact rfl | split | dsimp only

theorem takeFragment_does (s : State) (n : ℕ) (header : Word) (payload : List Word) : Does [.hub, .service] s (takeFragment s n header payload) := by
  unfold takeFragment
  repeat' first
    | with_reducible apply Does.refl | with_reducible apply Does.next (State.modNsp_does _ _ _)
    | with_reducible apply Does.next (submitNsp_does _ _ _ _) | exact rfl | split | dsimp only

theorem nspRegister_does (s : State) (n : ℕ) (nseq : BitVec 16) (status : ℕ) (value : Word) : Does [.out] s (nspRegister s n nseq status value) := by
  unfold nspRegister
  repeat' first
    | with_reducible apply Does.refl | with_reducible apply Does.next (nspSend_does _ _ _ _ _) | exact rfl | dsimp only

theorem selectTap_does (s : State) (code : BitVec 8) (register : BitVec 32) : Does [.service, .out] s (selectTap s code register) := by
  unfold selectTap
  repeat' first
    | with_reducible apply Does.refl | with_reducible apply Does.next (State.emit_does _ _)
    | with_reducible apply Does.next (State.modService_does _ _ ?_) | exact rfl | exact fun _ => rfl | dsimp only

theorem selectBypass_does (s : State) : Does [.service, .out] s (selectBypass s) := by
  unfold selectBypass
  repeat' first
    | with_reducible apply Does.refl | with_reducible apply Does.next (selectTap_does _ _ _) | exact rfl | dsimp only

theorem gatedTap_does (s : State) (code : BitVec 8) : Does [.service, .out] s (gatedTap s code) := by
  unfold gatedTap
  repeat' first
    | with_reducible apply Does.refl | with_reducible apply Does.next (selectBypass_does _)
    | with_reducible apply Does.next (selectTap_does _ _ _) | exact rfl | split | dsimp only

theorem replied_does (s : State) (r : Req) (status : ℕ) (trunc : Bool) (payload : List Word) : Does [.hub, .plt, .queues, .service, .out] s (replied s r status trunc payload) := by
  unfold replied
  repeat' first
    | with_reducible apply Does.refl | with_reducible apply Does.next (endRequest_does _)
    | with_reducible apply Does.next (respond_does _ _ _ _ _) | with_reducible apply Does.foldl
    | with_reducible apply Does.foldlFst | exact rfl | intro _ _ | split | dsimp only

theorem okTo_does (s : State) (r : Req) (payload : List Word) : Does [.hub, .plt, .queues, .service, .out] s (okTo s r payload) := by
  unfold okTo
  repeat' first
    | with_reducible apply Does.refl | with_reducible apply Does.next (replied_does _ _ _ _ _) | with_reducible apply Does.foldl
    | with_reducible apply Does.foldlFst | exact rfl | intro _ _ | split | dsimp only

theorem acceptedTo_does (s : State) (r : Req) (canvas : Option ℕ) : Does [.hub, .plt, .queues, .service, .out] s (acceptedTo s r canvas) := by
  unfold acceptedTo
  repeat' first
    | with_reducible apply Does.refl | with_reducible apply Does.next (replied_does _ _ _ _ _)
    | with_reducible apply Does.next (startLong_does _ _ _ _) | with_reducible apply Does.foldl
    | with_reducible apply Does.foldlFst | exact rfl | intro _ _ | split | dsimp only

/-- An answer given changes what its state changed, the sender's queue, session and port, and what a restart that begins changes. -/
theorem giveAnswer_does {l : List Part} {s : State} (r : Req) (a : Ans) (h : Does l s a.state)
    (hl : ([Part.hub, .plt, .queues, .service, .out].all fun p => l.contains p) = true) : Does l s (giveAnswer r a) := by
  have hm : ∀ {l' : List Part}, (l'.all fun p => [Part.hub, .plt, .queues, .service, .out].contains p) = true →
      (l'.all fun p => l.contains p) = true := by
    intro l' h'
    simp only [List.all_eq_true] at h' hl ⊢
    exact fun p hp => hl p (by simpa using h' p hp)
  have hr : ∀ t, Does l s t → Does l s (endRequest (respond t r a.status a.trunc (a.payload.take 511))) := fun t ht =>
    (ht.trans ((respond_does _ _ _ _ _).mono (hm rfl))).trans ((endRequest_does _).mono (hm rfl))
  unfold giveAnswer
  split
  · exact hr _ (h.trans ((startLong_does _ _ _ _).mono (hm rfl)))
  · exact hr _ h

/-- A request changes what its command's own rules change, and its sender's queue, session and port. -/
theorem jcs_does {l : List Part} {op : JcsOp} {body : State → Req → Ans} (hb : ∀ s r, Does l s (body s r).state)
    (r : Req) (s : State) : Does (.hub :: .plt :: .queues :: .service :: .out :: l) s (jcs op body r s) := by
  have hm : ∀ x ∈ l, x ∈ Part.hub :: .plt :: .queues :: .service :: .out :: l := by intro x hx; simp [hx]
  have hb' : ∀ s r, Does (.hub :: .plt :: .queues :: .service :: .out :: l) s (body s r).state := fun s r =>
    (hb s r).mono (by simp only [List.all_eq_true, List.contains_eq_mem, decide_eq_true_eq]; exact hm)
  unfold jcs
  split
  · exact Does.refl _ _
  · split
    · exact Does.refl _ _
    · rename_i s1 h1
      have h0 : Does (.hub :: .plt :: .queues :: .service :: .out :: l) s s1 := (takeRequest_does h1).mono (by simp)
      exact h0.trans (giveAnswer_does r _ (answer_does op s1 r (by simp) (hb' _ _)) (by simp))

end Sys2Proof.Machine
end

