-- ==== Sys2Proof/Laws/Firmware.lean ====
section
/-! SUPPORT. What writing a slot state to the flash header leaves (R500): two copies of the header stand in flash, and a write
replaces the older one, so the newer one that is read back is the one just written. -/

namespace Sys2Proof.Machine

/-- A header write is read back: unless HSEQ is at its last value, the copy just written is the head. -/
theorem Firmware.header_state (f : Firmware) (a b : SlotState) (h : f.head.hseq ≠ 0xFFFFFFFF) :
    (f.header a b).head.stateA = a ∧ (f.header a b).head.stateB = b := by
  have flip : ∀ x y : BitVec 32, x < y → ¬ y < x := by intro x y hxy; bv_omega
  unfold Firmware.head at h
  simp only [Firmware.header, Firmware.head]
  split at h
  · rename_i h0
    have h1 : f.hdr1.hseq < f.hdr1.hseq + 1 := by bv_omega
    simp only [h0, flip _ _ h0, flip _ _ h1, if_true, if_false, and_self]
  · rename_i h0
    have h2 : f.hdr0.hseq < f.hdr0.hseq + 1 := by bv_omega
    by_cases h1 : f.hdr1.hseq < f.hdr0.hseq
    · simp only [h0, h1, h2, if_true, if_false, and_self]
    · have h3 : f.hdr0.hseq = f.hdr1.hseq := by bv_omega
      have h4 : ¬ f.hdr0.hseq + 1 < f.hdr1.hseq := by bv_omega
      simp only [h0, h1, h4, if_false, and_self]

/-- A slot written is read back, and the other slot keeps its state. -/
theorem Firmware.setSlot_slot (f : Firmware) (k j : Bool) (x : SlotState) (h : f.head.hseq ≠ 0xFFFFFFFF) :
    (f.setSlot k x).slot j = if j = k then x else f.slot j := by
  cases k <;> cases j <;>
    simp [Firmware.setSlot, Firmware.slot, Firmware.stateA, Firmware.stateB, Firmware.header_state f _ _ h]

end Sys2Proof.Machine
end

