-- ==== Sys2Proof/Laws/Jcs.lean ====
section
/-! SUPPORT. What a JCS request does, once and for all: the answer to a served request, and the answers of the common checks
that turn one away (R317). -/

namespace Sys2Proof.Machine

variable {op : JcsOp} {r : Req} {s s1 s2 : State} {body : State → Req → Ans}

/-- A served request gets its body's answer, with TRUNC set when the request was cut. -/
theorem jcs_served (h : Served op r s s1) (body : State → Req → Ans) :
    jcs op body r s = giveAnswer r { body s1 r with trunc := (body s1 r).trunc || cut r } := by
  obtain ⟨h1, h2, h3, h4, h5, h6⟩ := h
  have h7 : (decide (s1.hub.stage = .halted) && !haltServes op.opcode) = false := by
    by_cases h : s1.hub.stage = .halted
    · simp [h, h4 h]
    · simp [h]
  have h8 : (op.long && decide (16 ≤ inFlight (s1.func r.who))) = false := by
    cases hl : op.long with
    | false => rfl
    | true => have := h6 hl; simp; omega
  simp only [jcs, h1, ne_eq, not_true_eq_false, if_false, h2, answer, h3, h5, h7, h8, Bool.not_true, cut]
  simp

/-- A served request whose body answers OK has the response OK posted. -/
theorem jcs_ok {p : List Word} (h : Served op r s s1) (hb : body s1 r = .ok s2 p) (hp : p.length ≤ 511) :
    jcs op body r s = okTo s2 r p := by
  simp [jcs_served h, hb, giveAnswer, Ans.ok, okTo, replied, List.take_of_length_le hp]

/-- A served long command whose body accepts it is recorded, and has the response ACCEPTED posted. -/
theorem jcs_accepted {c : Option Nat} (h : Served op r s s1) (hb : body s1 r = .accepted s2 false c) :
    jcs op body r s = acceptedTo s2 r c := by
  simp [jcs_served h, hb, giveAnswer, Ans.accepted, acceptedTo, replied]

/-- A served request whose body refuses it with a status other than ACCEPTED has that response posted on the body's state. -/
theorem jcs_answered {a : Ans} (h : Served op r s s1) (hb : body s1 r = a) (ha : a.status ≠ 1) (hp : a.payload.length ≤ 511) :
    jcs op body r s = replied a.state r a.status (a.trunc || cut r) a.payload := by
  simp [jcs_served h, hb, giveAnswer, replied, ha, List.take_of_length_le hp]

/-- A request that is not the row's, or cannot be taken, leaves the state. -/
theorem jcs_untaken (h : r.opcode ≠ op.opcode ∨ takeRequest s r = none) : jcs op body r s = s := by
  unfold jcs
  by_cases h1 : r.opcode = op.opcode
  · cases h with
    | inl h => exact absurd h1 h
    | inr h => simp [h1, h]
  · simp [h1]

/-- LEN = 0xFFFF gives BADLEN. -/
theorem jcs_badLen (h1 : r.opcode = op.opcode) (h2 : takeRequest s r = some s1) (h3 : r.len = 0xFFFF) :
    jcs op body r s = replied s1 r 3 false [] := by
  simp [jcs, h1, h2, answer, h3, giveAnswer, replied, Ans.badLen]

/-- In safe halt the service port answers an opcode outside the list of R325 with NOTREADY. -/
theorem jcs_halted (h1 : r.opcode = op.opcode) (h2 : takeRequest s r = some s1) (h3 : r.len ≠ 0xFFFF)
    (h4 : s1.hub.stage = .halted) (h5 : haltServes op.opcode = false) :
    jcs op body r s = replied s1 r 5 (cut r) [] := by
  simp [jcs, h1, h2, answer, h3, h4, h5, giveAnswer, replied, Ans.notReady, cut]

/-- A request that check 4 refuses completes OK with zeros, and is counted (R320). -/
theorem jcs_violation (h1 : r.opcode = op.opcode) (h2 : takeRequest s r = some s1) (h3 : r.len ≠ 0xFFFF)
    (h4 : s1.hub.stage = .halted → haltServes op.opcode = true) (h5 : entitled op s1 r = false) :
    jcs op body r s = replied (violate s1 r.who) r 0 false ((List.replicate (op.zeros s1 r) 0).take 511) := by
  have h7 : (decide (s1.hub.stage = .halted) && !haltServes op.opcode) = false := by
    by_cases h : s1.hub.stage = .halted
    · simp [h, h4 h]
    · simp [h]
  simp only [jcs, h1, ne_eq, not_true_eq_false, if_false, h2, answer, h3, h5, h7]
  simp [giveAnswer, replied]

/-- A long command of a sender with 16 in flight gives BUSY (R321). -/
theorem jcs_longLimit (h1 : r.opcode = op.opcode) (h2 : takeRequest s r = some s1) (h3 : r.len ≠ 0xFFFF)
    (h4 : s1.hub.stage = .halted → haltServes op.opcode = true) (h5 : entitled op s1 r = true) (h6 : op.long = true)
    (h7 : 16 ≤ inFlight (s1.func r.who)) :
    jcs op body r s = replied s1 r 2 (cut r) [] := by
  have h8 : (decide (s1.hub.stage = .halted) && !haltServes op.opcode) = false := by
    by_cases h : s1.hub.stage = .halted
    · simp [h, h4 h]
    · simp [h]
  simp only [jcs, h1, ne_eq, not_true_eq_false, if_false, h2, answer, h3, h5, h6, h7, h8]
  simp [giveAnswer, Ans.busy, replied, cut]

end Sys2Proof.Machine
end

