-- ==== Sys2Proof/Laws/PerInstr.lean ====
section
/-! SUPPORT. The family Head of statements about the syntax of every command: a well-formed request carries its row's opcode. -/

namespace Sys2Proof.Laws.Head

/-- A well-formed command that is a JCS request has the opcode of its row in bits 15 to 0 of its header word (R315, R328). -/
def Statement (i : Instr) : Prop :=
  ∀ op r, i.jcs = some (op, r) → i.wf = true → r.header.toNat % 65536 = op

theorem of_none {i : Instr} (h : i.jcs = none) : Statement i := by
  intro op r hj; rw [h] at hj; cases hj

theorem of_jcs {i : Instr} {op : Nat} {q : Req} (h : i.jcs = some (op, q))
    (hw : i.wf = (q.wf && decide (q.header.toNat % 65536 = op))) : Statement i := by
  intro o r hj hi; rw [h] at hj; simp_all

theorem sysInfoRead (q : Req) : Statement (.sysInfoRead q) := of_jcs rfl rfl

theorem cmdRead (q : Req) : Statement (.cmdRead q) := of_jcs rfl rfl

theorem sysNop (q : Req) : Statement (.sysNop q) := of_jcs rfl rfl

theorem sysPower (q : Req) : Statement (.sysPower q) := of_jcs rfl rfl

theorem sysPowerComplete : Statement .sysPowerComplete := of_none rfl

theorem sysPowerRead (q : Req) : Statement (.sysPowerRead q) := of_jcs rfl rfl

theorem twinStatusRead (q : Req) : Statement (.twinStatusRead q) := of_jcs rfl rfl

theorem twinVoteRead (q : Req) : Statement (.twinVoteRead q) := of_jcs rfl rfl

theorem twinService (q : Req) : Statement (.twinService q) := of_jcs rfl rfl

theorem twinServiceComplete : Statement .twinServiceComplete := of_none rfl

theorem pltRead (q : Req) : Statement (.pltRead q) := of_jcs rfl rfl

theorem pltPropose (q : Req) : Statement (.pltPropose q) := of_jcs rfl rfl

theorem pltConfirm (q : Req) : Statement (.pltConfirm q) := of_jcs rfl rfl

theorem pltWithdraw (q : Req) : Statement (.pltWithdraw q) := of_jcs rfl rfl

theorem pltProposalRead (q : Req) : Statement (.pltProposalRead q) := of_jcs rfl rfl

theorem proposalExpiry : Statement .proposalExpiry := of_none rfl

theorem settingsAreaWrite : ∀ x0 x1, Statement (.settingsAreaWrite x0 x1) := fun _ _ => of_none rfl

theorem ringConfig (q : Req) : Statement (.ringConfig q) := of_jcs rfl rfl

theorem ringStart (q : Req) : Statement (.ringStart q) := of_jcs rfl rfl

theorem ringStop (q : Req) : Statement (.ringStop q) := of_jcs rfl rfl

theorem eventRoute (q : Req) : Statement (.eventRoute q) := of_jcs rfl rfl

theorem violationRead (q : Req) : Statement (.violationRead q) := of_jcs rfl rfl

theorem srcConfig (q : Req) : Statement (.srcConfig q) := of_jcs rfl rfl

theorem srcStart (q : Req) : Statement (.srcStart q) := of_jcs rfl rfl

theorem srcStop (q : Req) : Statement (.srcStop q) := of_jcs rfl rfl

theorem canvasConfig (q : Req) : Statement (.canvasConfig q) := of_jcs rfl rfl

theorem canvasTiles (q : Req) : Statement (.canvasTiles q) := of_jcs rfl rfl

theorem layerConfig (q : Req) : Statement (.layerConfig q) := of_jcs rfl rfl

theorem blendTree (q : Req) : Statement (.blendTree q) := of_jcs rfl rfl

theorem canvasCommit (q : Req) : Statement (.canvasCommit q) := of_jcs rfl rfl

theorem timingChangeComplete : ∀ x0, Statement (.timingChangeComplete x0) := fun _ => of_none rfl

theorem lutLoad (q : Req) : Statement (.lutLoad q) := of_jcs rfl rfl

theorem meshLoad (q : Req) : Statement (.meshLoad q) := of_jcs rfl rfl

theorem tableLoadComplete : ∀ x0 x1, Statement (.tableLoadComplete x0 x1) := fun _ _ => of_none rfl

theorem tileMap (q : Req) : Statement (.tileMap q) := of_jcs rfl rfl

theorem tileScan (q : Req) : Statement (.tileScan q) := of_jcs rfl rfl

theorem tilePrefs (q : Req) : Statement (.tilePrefs q) := of_jcs rfl rfl

theorem tileCommit (q : Req) : Statement (.tileCommit q) := of_jcs rfl rfl

theorem tileTxnRead (q : Req) : Statement (.tileTxnRead q) := of_jcs rfl rfl

theorem tileRead (q : Req) : Statement (.tileRead q) := of_jcs rfl rfl

theorem chainReset (q : Req) : Statement (.chainReset q) := of_jcs rfl rfl

theorem chainResetCommit : ∀ x0, Statement (.chainResetCommit x0) := fun _ => of_none rfl

theorem portConfig (q : Req) : Statement (.portConfig q) := of_jcs rfl rfl

theorem corrCommit (q : Req) : Statement (.corrCommit q) := of_jcs rfl rfl

theorem corrHash (q : Req) : Statement (.corrHash q) := of_jcs rfl rfl

theorem corrProbe (q : Req) : Statement (.corrProbe q) := of_jcs rfl rfl

theorem corrProbeCapture : ∀ x0, Statement (.corrProbeCapture x0) := fun _ => of_none rfl

theorem corrProbeRead (q : Req) : Statement (.corrProbeRead q) := of_jcs rfl rfl

theorem safeZoneRead (q : Req) : Statement (.safeZoneRead q) := of_jcs rfl rfl

theorem safeTileRead (q : Req) : Statement (.safeTileRead q) := of_jcs rfl rfl

theorem safeFlashRead (q : Req) : Statement (.safeFlashRead q) := of_jcs rfl rfl

theorem safeScrimRead (q : Req) : Statement (.safeScrimRead q) := of_jcs rfl rfl

theorem timeRead (q : Req) : Statement (.timeRead q) := of_jcs rfl rfl

theorem timeServo (q : Req) : Statement (.timeServo q) := of_jcs rfl rfl

theorem timeIncrement (q : Req) : Statement (.timeIncrement q) := of_jcs rfl rfl

theorem ptpConfig (q : Req) : Statement (.ptpConfig q) := of_jcs rfl rfl

theorem ptpStatusRead (q : Req) : Statement (.ptpStatusRead q) := of_jcs rfl rfl

theorem refConfig (q : Req) : Statement (.refConfig q) := of_jcs rfl rfl

theorem canvasTiming (q : Req) : Statement (.canvasTiming q) := of_jcs rfl rfl

theorem timingFlipRead (q : Req) : Statement (.timingFlipRead q) := of_jcs rfl rfl

theorem timingChangeRead (q : Req) : Statement (.timingChangeRead q) := of_jcs rfl rfl

theorem hopCal (q : Req) : Statement (.hopCal q) := of_jcs rfl rfl

theorem hopCalComplete : ∀ x0, Statement (.hopCalComplete x0) := fun _ => of_none rfl

theorem hopRead (q : Req) : Statement (.hopRead q) := of_jcs rfl rfl

theorem checkSet (q : Req) : Statement (.checkSet q) := of_jcs rfl rfl

theorem checkRead (q : Req) : Statement (.checkRead q) := of_jcs rfl rfl

theorem sapConfig (q : Req) : Statement (.sapConfig q) := of_jcs rfl rfl

theorem sapStart (q : Req) : Statement (.sapStart q) := of_jcs rfl rfl

theorem sapStop (q : Req) : Statement (.sapStop q) := of_jcs rfl rfl

theorem sapMute (q : Req) : Statement (.sapMute q) := of_jcs rfl rfl

theorem sapStatusRead (q : Req) : Statement (.sapStatusRead q) := of_jcs rfl rfl

theorem decConfig (q : Req) : Statement (.decConfig q) := of_jcs rfl rfl

theorem decStart (q : Req) : Statement (.decStart q) := of_jcs rfl rfl

theorem decStop (q : Req) : Statement (.decStop q) := of_jcs rfl rfl

theorem encConfig (q : Req) : Statement (.encConfig q) := of_jcs rfl rfl

theorem encStart (q : Req) : Statement (.encStart q) := of_jcs rfl rfl

theorem encStop (q : Req) : Statement (.encStop q) := of_jcs rfl rfl

theorem vcxStatusRead (q : Req) : Statement (.vcxStatusRead q) := of_jcs rfl rfl

theorem diagSlotRead (q : Req) : Statement (.diagSlotRead q) := of_jcs rfl rfl

theorem diagLayerRead (q : Req) : Statement (.diagLayerRead q) := of_jcs rfl rfl

theorem diagPortRead (q : Req) : Statement (.diagPortRead q) := of_jcs rfl rfl

theorem diagMemRead (q : Req) : Statement (.diagMemRead q) := of_jcs rfl rfl

theorem diagThermalRead (q : Req) : Statement (.diagThermalRead q) := of_jcs rfl rfl

theorem diagCalRead (q : Req) : Statement (.diagCalRead q) := of_jcs rfl rfl

theorem diagBistRead (q : Req) : Statement (.diagBistRead q) := of_jcs rfl rfl

theorem fwLoad (q : Req) : Statement (.fwLoad q) := of_jcs rfl rfl

theorem fwLoadComplete : ∀ x0, Statement (.fwLoadComplete x0) := fun _ => of_none rfl

theorem fwActivate (q : Req) : Statement (.fwActivate q) := of_jcs rfl rfl

theorem fwActivateComplete : Statement .fwActivateComplete := of_none rfl

theorem fwConfirm (q : Req) (b : Bool) : Statement (.fwConfirm q b) := of_jcs rfl rfl

theorem fwStatusRead (q : Req) : Statement (.fwStatusRead q) := of_jcs rfl rfl

theorem tileFwRelay (q : Req) : Statement (.tileFwRelay q) := of_jcs rfl rfl

theorem tileFwRelayComplete : Statement .tileFwRelayComplete := of_none rfl

theorem pkgReset (q : Req) : Statement (.pkgReset q) := of_jcs rfl rfl

theorem pkgHalt (q : Req) : Statement (.pkgHalt q) := of_jcs rfl rfl

theorem unknownOpcode : ∀ x0, Statement (.unknownOpcode x0) := fun _ => of_none rfl

theorem partitionViolationReply : ∀ x0, Statement (.partitionViolationReply x0) := fun _ => of_none rfl

theorem mboxSubmit : ∀ x0 x1, Statement (.mboxSubmit x0 x1) := fun _ _ => of_none rfl

theorem requestMailboxWrite : ∀ x0 x1 x2 x3, Statement (.requestMailboxWrite x0 x1 x2 x3) := fun _ _ _ _ => of_none rfl

theorem ringDoorbell : ∀ x0 x1 x2, Statement (.ringDoorbell x0 x1 x2) := fun _ _ _ => of_none rfl

theorem bar2Write : ∀ x0 x1 x2 x3, Statement (.bar2Write x0 x1 x2 x3) := fun _ _ _ _ => of_none rfl

theorem bar2Read : ∀ x0 x1 x2, Statement (.bar2Read x0 x1 x2) := fun _ _ _ => of_none rfl

theorem msixUnmask : ∀ x0 x1, Statement (.msixUnmask x0 x1) := fun _ _ => of_none rfl

theorem registerWrite : ∀ x0 x1 x2 x3 x4, Statement (.registerWrite x0 x1 x2 x3 x4) := fun _ _ _ _ _ => of_none rfl

theorem functionLevelReset : ∀ x0, Statement (.functionLevelReset x0) := fun _ => of_none rfl

theorem linkReset : ∀ x0 x1, Statement (.linkReset x0 x1) := fun _ _ => of_none rfl

theorem linkTrainingStart : ∀ x0, Statement (.linkTrainingStart x0) := fun _ => of_none rfl

theorem pullSegment : ∀ x0 x1, Statement (.pullSegment x0 x1) := fun _ _ => of_none rfl

theorem pullSegmentDone : ∀ x0 x1, Statement (.pullSegmentDone x0 x1) := fun _ _ => of_none rfl

theorem pullTimeout : ∀ x0, Statement (.pullTimeout x0) := fun _ => of_none rfl

theorem submit : ∀ x0 x1, Statement (.submit x0 x1) := fun _ _ => of_none rfl

theorem cancel : ∀ x0 x1, Statement (.cancel x0 x1) := fun _ _ => of_none rfl

theorem pullBufferWaitEnd : ∀ x0, Statement (.pullBufferWaitEnd x0) := fun _ => of_none rfl

theorem releasePosted : ∀ x0 x1, Statement (.releasePosted x0 x1) := fun _ _ => of_none rfl

theorem records : ∀ x0 x1, Statement (.records x0 x1) := fun _ _ => of_none rfl

theorem tileBlock : ∀ x0 x1, Statement (.tileBlock x0 x1) := fun _ _ => of_none rfl

theorem correctionLoadDone : ∀ x0 x1, Statement (.correctionLoadDone x0 x1) := fun _ _ => of_none rfl

theorem encBuf : ∀ x0 x1, Statement (.encBuf x0 x1) := fun _ _ => of_none rfl

theorem play : ∀ x0 x1 x2, Statement (.play x0 x1 x2) := fun _ _ _ => of_none rfl

theorem capture : ∀ x0 x1, Statement (.capture x0 x1) := fun _ _ => of_none rfl

theorem dtypeMismatch : ∀ x0 x1, Statement (.dtypeMismatch x0 x1) := fun _ _ => of_none rfl

theorem descriptorFetch : ∀ x0, Statement (.descriptorFetch x0) := fun _ => of_none rfl

theorem ringWriteBack : ∀ x0 x1, Statement (.ringWriteBack x0 x1) := fun _ _ => of_none rfl

theorem completionRoom : ∀ x0, Statement (.completionRoom x0) := fun _ => of_none rfl

theorem eventDelivery : Statement .eventDelivery := of_none rfl

theorem netPacket : ∀ x0 x1, Statement (.netPacket x0 x1) := fun _ _ => of_none rfl

theorem netFrameTimeout : ∀ x0, Statement (.netFrameTimeout x0) := fun _ => of_none rfl

theorem netLegLoss : ∀ x0 x1, Statement (.netLegLoss x0 x1) := fun _ _ => of_none rfl

theorem decodePacket : ∀ x0 x1, Statement (.decodePacket x0 x1) := fun _ _ => of_none rfl

theorem jitterWindowClose : ∀ x0, Statement (.jitterWindowClose x0) := fun _ => of_none rfl

theorem decodeLegLoss : ∀ x0 x1, Statement (.decodeLegLoss x0 x1) := fun _ _ => of_none rfl

theorem pictureDecoded : ∀ x0 x1, Statement (.pictureDecoded x0 x1) := fun _ _ => of_none rfl

theorem encodeCapture : ∀ x0, Statement (.encodeCapture x0) := fun _ => of_none rfl

theorem accessUnitDone : ∀ x0 x1, Statement (.accessUnitDone x0 x1) := fun _ _ => of_none rfl

theorem audioPacket : ∀ x0 x1, Statement (.audioPacket x0 x1) := fun _ _ => of_none rfl

theorem audioLegLoss : ∀ x0 x1 x2, Statement (.audioLegLoss x0 x1 x2) := fun _ _ _ => of_none rfl

theorem audioBlock : ∀ x0 x1, Statement (.audioBlock x0 x1) := fun _ _ => of_none rfl

theorem sapZeroCrossingChange : ∀ x0 x1, Statement (.sapZeroCrossingChange x0 x1) := fun _ _ => of_none rfl

theorem awclkLoss : Statement .awclkLoss := of_none rfl

theorem awclkReturn : Statement .awclkReturn := of_none rfl

theorem selectionInstant : ∀ x0, Statement (.selectionInstant x0) := fun _ => of_none rfl

theorem frameOrderAckTimeout : ∀ x0, Statement (.frameOrderAckTimeout x0) := fun _ => of_none rfl

theorem engineWatchdogExpiry : ∀ x0 x1, Statement (.engineWatchdogExpiry x0 x1) := fun _ _ => of_none rfl

theorem regionComputed : ∀ x0 x1 x2 x3, Statement (.regionComputed x0 x1 x2 x3) := fun _ _ _ _ => of_none rfl

theorem regionReport : ∀ x0 x1, Statement (.regionReport x0 x1) := fun _ _ => of_none rfl

theorem replayResult : ∀ x0 x1 x2 x3 x4, Statement (.replayResult x0 x1 x2 x3 x4) := fun _ _ _ _ _ => of_none rfl

theorem regionSend : ∀ x0 x1 x2 x3, Statement (.regionSend x0 x1 x2 x3) := fun _ _ _ _ => of_none rfl

theorem frameVerdict : ∀ x0 x1, Statement (.frameVerdict x0 x1) := fun _ _ => of_none rfl

theorem scrimIdleLatentTest : ∀ x0 x1 x2, Statement (.scrimIdleLatentTest x0 x1 x2) := fun _ _ _ => of_none rfl

theorem verdictTimeout : ∀ x0 x1, Statement (.verdictTimeout x0 x1) := fun _ _ => of_none rfl

theorem flipInstant : ∀ x0, Statement (.flipInstant x0) := fun _ => of_none rfl

theorem scrimTableCheck : ∀ x0 x1, Statement (.scrimTableCheck x0 x1) := fun _ _ => of_none rfl

theorem restingRotation : ∀ x0 x1, Statement (.restingRotation x0 x1) := fun _ _ => of_none rfl

theorem loopTrimUpdate : ∀ x0, Statement (.loopTrimUpdate x0) := fun _ => of_none rfl

theorem echoReceived : ∀ x0 x1 x2, Statement (.echoReceived x0 x1 x2) := fun _ _ _ => of_none rfl

theorem statusReceived : ∀ x0 x1 x2, Statement (.statusReceived x0 x1 x2) := fun _ _ _ => of_none rfl

theorem pongReceived : ∀ x0 x1 x2 x3, Statement (.pongReceived x0 x1 x2 x3) := fun _ _ _ _ => of_none rfl

theorem downstreamFrameDiscard : ∀ x0 x1, Statement (.downstreamFrameDiscard x0 x1) := fun _ _ => of_none rfl

theorem tileStatusTimeout : ∀ x0, Statement (.tileStatusTimeout x0) := fun _ => of_none rfl

theorem timeSync : ∀ x0, Statement (.timeSync x0) := fun _ => of_none rfl

theorem keepalive : ∀ x0, Statement (.keepalive x0) := fun _ => of_none rfl

theorem hopCalPeriodic : ∀ x0 x1, Statement (.hopCalPeriodic x0 x1) := fun _ _ => of_none rfl

theorem tileAssign : ∀ x0, Statement (.tileAssign x0) := fun _ => of_none rfl

theorem stageResend : ∀ x0 x1, Statement (.stageResend x0 x1) := fun _ _ => of_none rfl

theorem stageAckTimeout : ∀ x0 x1, Statement (.stageAckTimeout x0 x1) := fun _ _ => of_none rfl

theorem commitRepeat : ∀ x0 x1, Statement (.commitRepeat x0 x1) := fun _ _ => of_none rfl

theorem driveRetry : ∀ x0, Statement (.driveRetry x0) := fun _ => of_none rfl

theorem linkSignalDetect : ∀ x0, Statement (.linkSignalDetect x0) := fun _ => of_none rfl

theorem linkBlockLock : ∀ x0, Statement (.linkBlockLock x0) := fun _ => of_none rfl

theorem linkLockTimeout : ∀ x0, Statement (.linkLockTimeout x0) := fun _ => of_none rfl

theorem linkUp : ∀ x0, Statement (.linkUp x0) := fun _ => of_none rfl

theorem linkDown : ∀ x0, Statement (.linkDown x0) := fun _ => of_none rfl

theorem linkQuiet : ∀ x0, Statement (.linkQuiet x0) := fun _ => of_none rfl

theorem quietSilenceTimeout : ∀ x0, Statement (.quietSilenceTimeout x0) := fun _ => of_none rfl

theorem heartbeatSend : ∀ x0, Statement (.heartbeatSend x0) := fun _ => of_none rfl

theorem heartbeatReceived : ∀ x0 x1, Statement (.heartbeatReceived x0 x1) := fun _ _ => of_none rfl

theorem heartbeatMiss : ∀ x0, Statement (.heartbeatMiss x0) := fun _ => of_none rfl

theorem fatalDeclaration : ∀ x0 x1, Statement (.fatalDeclaration x0 x1) := fun _ _ => of_none rfl

theorem fence : ∀ x0 x1, Statement (.fence x0 x1) := fun _ _ => of_none rfl

theorem arbiterCommand : ∀ x0 x1 x2, Statement (.arbiterCommand x0 x1 x2) := fun _ _ _ => of_none rfl

theorem arbiterCommandMiss : ∀ x0, Statement (.arbiterCommandMiss x0) := fun _ => of_none rfl

theorem arbiterFreeze : Statement .arbiterFreeze := of_none rfl

theorem rejoinRelease : ∀ x0, Statement (.rejoinRelease x0) := fun _ => of_none rfl

theorem stateCopyComplete : ∀ x0, Statement (.stateCopyComplete x0) := fun _ => of_none rfl

theorem verificationFrame : ∀ x0 x1, Statement (.verificationFrame x0 x1) := fun _ _ => of_none rfl

theorem coldRebuild : ∀ x0 x1, Statement (.coldRebuild x0 x1) := fun _ _ => of_none rfl

theorem inconclusiveLimit : Statement .inconclusiveLimit := of_none rfl

theorem microcodeHandover : Statement .microcodeHandover := of_none rfl

theorem microcodeSwitch : ∀ x0, Statement (.microcodeSwitch x0) := fun _ => of_none rfl

theorem trialExpiry : Statement .trialExpiry := of_none rfl

theorem cpWatchdogExpiry : Statement .cpWatchdogExpiry := of_none rfl

theorem cpFailure : Statement .cpFailure := of_none rfl

theorem hubBeat : Statement .hubBeat := of_none rfl

theorem refMeasurement : ∀ x0, Statement (.refMeasurement x0) := fun _ => of_none rfl

theorem refStop : Statement .refStop := of_none rfl

theorem slewEnd : Statement .slewEnd := of_none rfl

theorem timeStep : Statement .timeStep := of_none rfl

theorem rateMeasured : ∀ x0, Statement (.rateMeasured x0) := fun _ => of_none rfl

theorem counterCopyCompare : ∀ x0 x1, Statement (.counterCopyCompare x0 x1) := fun _ _ => of_none rfl

theorem ptpMessageForward : ∀ x0 x1 x2 x3, Statement (.ptpMessageForward x0 x1 x2 x3) := fun _ _ _ _ => of_none rfl

theorem ppsOutput : Statement .ppsOutput := of_none rfl

theorem refreshDue : ∀ x0 x1 x2, Statement (.refreshDue x0 x1 x2) := fun _ _ _ => of_none rfl

theorem mr4Read : ∀ x0 x1 x2, Statement (.mr4Read x0 x1 x2) := fun _ _ _ => of_none rfl

theorem trackingRead : ∀ x0 x1 x2, Statement (.trackingRead x0 x1 x2) := fun _ _ _ => of_none rfl

theorem memoryReadError : ∀ x0 x1 x2 x3 x4 x5, Statement (.memoryReadError x0 x1 x2 x3 x4 x5) := fun _ _ _ _ _ _ => of_none rfl

theorem channelNoData : ∀ x0 x1, Statement (.channelNoData x0 x1) := fun _ _ => of_none rfl

theorem patrolScrubPass : ∀ x0 x1 x2 x3, Statement (.patrolScrubPass x0 x1 x2 x3) := fun _ _ _ _ => of_none rfl

theorem recordRepair : ∀ x0 x1 x2, Statement (.recordRepair x0 x1 x2) := fun _ _ _ => of_none rfl

theorem hashRecompute : ∀ x0, Statement (.hashRecompute x0) := fun _ => of_none rfl

theorem bistSliceStart : ∀ x0 x1 x2 x3, Statement (.bistSliceStart x0 x1 x2 x3) := fun _ _ _ _ => of_none rfl

theorem bistSliceEnd : ∀ x0 x1 x2 x3, Statement (.bistSliceEnd x0 x1 x2 x3) := fun _ _ _ _ => of_none rfl

theorem bistOverdue : ∀ x0 x1, Statement (.bistOverdue x0 x1) := fun _ _ => of_none rfl

theorem calibrationWindow : ∀ x0 x1, Statement (.calibrationWindow x0 x1) := fun _ _ => of_none rfl

theorem calibrationRun : ∀ x0 x1, Statement (.calibrationRun x0 x1) := fun _ _ => of_none rfl

theorem diodeTrim : ∀ x0, Statement (.diodeTrim x0) := fun _ => of_none rfl

theorem slowRoundSample : ∀ x0 x1, Statement (.slowRoundSample x0 x1) := fun _ _ => of_none rfl

theorem throttleSample : ∀ x0 x1, Statement (.throttleSample x0 x1) := fun _ _ => of_none rfl

theorem budgetTick : ∀ x0 x1 x2, Statement (.budgetTick x0 x1 x2) := fun _ _ _ => of_none rfl

theorem opTransition : ∀ x0 x1, Statement (.opTransition x0 x1) := fun _ _ => of_none rfl

theorem opSettle : ∀ x0 x1, Statement (.opSettle x0 x1) := fun _ _ => of_none rfl

theorem regulatorMonitor : ∀ x0 x1, Statement (.regulatorMonitor x0 x1) := fun _ _ => of_none rfl

theorem vrPgLow : ∀ x0, Statement (.vrPgLow x0) := fun _ => of_none rfl

theorem gateCloseRequest : ∀ x0, Statement (.gateCloseRequest x0) := fun _ => of_none rfl

theorem gateCloseTimeout : ∀ x0, Statement (.gateCloseTimeout x0) := fun _ => of_none rfl

theorem thermalTrip : ∀ x0, Statement (.thermalTrip x0) := fun _ => of_none rfl

theorem tripRelease : ∀ x0, Statement (.tripRelease x0) := fun _ => of_none rfl

theorem rootPllLockLoss : ∀ x0, Statement (.rootPllLockLoss x0) := fun _ => of_none rfl

theorem hubPllLockLoss : Statement .hubPllLockLoss := of_none rfl

theorem hubPllRelock : Statement .hubPllRelock := of_none rfl

theorem refclkStable : Statement .refclkStable := of_none rfl

theorem refclkLoss : Statement .refclkLoss := of_none rfl

theorem laneReferenceMeasurement : ∀ x0, Statement (.laneReferenceMeasurement x0) := fun _ => of_none rfl

theorem pkgRstN : Statement .pkgRstN := of_none rfl

theorem powerOn : Statement .powerOn := of_none rfl

theorem powerDown : Statement .powerDown := of_none rfl

theorem supplyOutOfRange : ∀ x0, Statement (.supplyOutOfRange x0) := fun _ => of_none rfl

theorem stageChange : ∀ x0, Statement (.stageChange x0) := fun _ => of_none rfl

theorem nspHandshake : ∀ x0 x1 x2, Statement (.nspHandshake x0 x1 x2) := fun _ _ _ => of_none rfl

theorem nspJcsRequest : ∀ x0 x1 x2, Statement (.nspJcsRequest x0 x1 x2) := fun _ _ _ => of_none rfl

theorem nspReassemblyTimeout : ∀ x0, Statement (.nspReassemblyTimeout x0) := fun _ => of_none rfl

theorem nspData : ∀ x0 x1 x2, Statement (.nspData x0 x1 x2) := fun _ _ _ => of_none rfl

theorem nspRegisterRead : ∀ x0 x1 x2 x3, Statement (.nspRegisterRead x0 x1 x2 x3) := fun _ _ _ _ => of_none rfl

theorem nspRegisterWrite : ∀ x0 x1 x2 x3 x4, Statement (.nspRegisterWrite x0 x1 x2 x3 x4) := fun _ _ _ _ _ => of_none rfl

theorem nspKeepalive : ∀ x0, Statement (.nspKeepalive x0) := fun _ => of_none rfl

theorem anchor : ∀ x0 x1, Statement (.anchor x0 x1) := fun _ _ => of_none rfl

theorem nspSessionTimeout : ∀ x0, Statement (.nspSessionTimeout x0) := fun _ => of_none rfl

theorem idcode : Statement .idcode := of_none rfl

theorem samplePreload : Statement .samplePreload := of_none rfl

theorem ksZero : Statement .ksZero := of_none rfl

theorem ksStatus : Statement .ksStatus := of_none rfl

theorem extest : Statement .extest := of_none rfl

theorem clamp : Statement .clamp := of_none rfl

theorem highz : Statement .highz := of_none rfl

theorem scanMode : Statement .scanMode := of_none rfl

theorem bypass : ∀ x0, Statement (.bypass x0) := fun _ => of_none rfl

theorem dieLinkPoison : ∀ x0 x1, Statement (.dieLinkPoison x0 x1) := fun _ _ => of_none rfl

theorem dieLinkRestored : Statement .dieLinkRestored := of_none rfl

theorem frameOrderAck : ∀ x0, Statement (.frameOrderAck x0) := fun _ => of_none rfl

theorem regionDmaFault : ∀ x0 x1, Statement (.regionDmaFault x0 x1) := fun _ _ => of_none rfl

theorem regionResetDone : ∀ x0 x1, Statement (.regionResetDone x0 x1) := fun _ _ => of_none rfl

theorem upstreamFrameInvalid : ∀ x0 x1, Statement (.upstreamFrameInvalid x0 x1) := fun _ _ => of_none rfl

theorem networkLinkUp : ∀ x0, Statement (.networkLinkUp x0) := fun _ => of_none rfl

theorem networkLinkDown : ∀ x0, Statement (.networkLinkDown x0) := fun _ => of_none rfl

theorem ptpAnnounceReceived : ∀ x0, Statement (.ptpAnnounceReceived x0) := fun _ => of_none rfl

theorem ptpDelayResponse : ∀ x0 x1, Statement (.ptpDelayResponse x0 x1) := fun _ _ => of_none rfl

theorem configurationRequest : ∀ x0 x1, Statement (.configurationRequest x0 x1) := fun _ _ => of_none rfl

theorem nspSessionClose : ∀ x0, Statement (.nspSessionClose x0) := fun _ => of_none rfl

theorem supplyRestored : ∀ x0, Statement (.supplyRestored x0) := fun _ => of_none rfl

theorem laneReferenceTrimStep : Statement .laneReferenceTrimStep := of_none rfl

end Sys2Proof.Laws.Head
end

