-- ==== Sys2Proof/Laws/State.lean ====
section
/-! SUPPORT. What each updater of the state does to each sub-state, one lemma per updater and field, and what reading a numbered
resource gives after an update. -/

namespace Sys2Proof.Machine

variable (s : State)

/-! ### `State.modHub` -/

@[simp] theorem State.modHub_pending (g : Hub → Hub) : (s.modHub g).pending = s.pending := rfl
@[simp] theorem State.modHub_hub (g : Hub → Hub) : (s.modHub g).hub = g s.hub := rfl
@[simp] theorem State.modHub_plt (g : Hub → Hub) : (s.modHub g).plt = s.plt := rfl
@[simp] theorem State.modHub_queues (g : Hub → Hub) : (s.modHub g).queues = s.queues := rfl
@[simp] theorem State.modHub_frames (g : Hub → Hub) : (s.modHub g).frames = s.frames := rfl
@[simp] theorem State.modHub_links (g : Hub → Hub) : (s.modHub g).links = s.links := rfl
@[simp] theorem State.modHub_dies (g : Hub → Hub) : (s.modHub g).dies = s.dies := rfl
@[simp] theorem State.modHub_time (g : Hub → Hub) : (s.modHub g).time = s.time := rfl
@[simp] theorem State.modHub_media (g : Hub → Hub) : (s.modHub g).media = s.media := rfl
@[simp] theorem State.modHub_clocks (g : Hub → Hub) : (s.modHub g).clocks = s.clocks := rfl
@[simp] theorem State.modHub_thermA (g : Hub → Hub) : (s.modHub g).thermA = s.thermA := rfl
@[simp] theorem State.modHub_thermB (g : Hub → Hub) : (s.modHub g).thermB = s.thermB := rfl
@[simp] theorem State.modHub_thermH (g : Hub → Hub) : (s.modHub g).thermH = s.thermH := rfl
@[simp] theorem State.modHub_budget (g : Hub → Hub) : (s.modHub g).budget = s.budget := rfl
@[simp] theorem State.modHub_firmware (g : Hub → Hub) : (s.modHub g).firmware = s.firmware := rfl
@[simp] theorem State.modHub_service (g : Hub → Hub) : (s.modHub g).service = s.service := rfl
@[simp] theorem State.modHub_out (g : Hub → Hub) : (s.modHub g).out = s.out := rfl
@[simp] theorem State.modHub_free (g : Hub → Hub) : (s.modHub g).free = s.free := rfl

/-! ### `State.modPlt` -/

@[simp] theorem State.modPlt_pending (g : PltState → PltState) : (s.modPlt g).pending = s.pending := rfl
@[simp] theorem State.modPlt_hub (g : PltState → PltState) : (s.modPlt g).hub = s.hub := rfl
@[simp] theorem State.modPlt_plt (g : PltState → PltState) : (s.modPlt g).plt = g s.plt := rfl
@[simp] theorem State.modPlt_queues (g : PltState → PltState) : (s.modPlt g).queues = s.queues := rfl
@[simp] theorem State.modPlt_frames (g : PltState → PltState) : (s.modPlt g).frames = s.frames := rfl
@[simp] theorem State.modPlt_links (g : PltState → PltState) : (s.modPlt g).links = s.links := rfl
@[simp] theorem State.modPlt_dies (g : PltState → PltState) : (s.modPlt g).dies = s.dies := rfl
@[simp] theorem State.modPlt_time (g : PltState → PltState) : (s.modPlt g).time = s.time := rfl
@[simp] theorem State.modPlt_media (g : PltState → PltState) : (s.modPlt g).media = s.media := rfl
@[simp] theorem State.modPlt_clocks (g : PltState → PltState) : (s.modPlt g).clocks = s.clocks := rfl
@[simp] theorem State.modPlt_thermA (g : PltState → PltState) : (s.modPlt g).thermA = s.thermA := rfl
@[simp] theorem State.modPlt_thermB (g : PltState → PltState) : (s.modPlt g).thermB = s.thermB := rfl
@[simp] theorem State.modPlt_thermH (g : PltState → PltState) : (s.modPlt g).thermH = s.thermH := rfl
@[simp] theorem State.modPlt_budget (g : PltState → PltState) : (s.modPlt g).budget = s.budget := rfl
@[simp] theorem State.modPlt_firmware (g : PltState → PltState) : (s.modPlt g).firmware = s.firmware := rfl
@[simp] theorem State.modPlt_service (g : PltState → PltState) : (s.modPlt g).service = s.service := rfl
@[simp] theorem State.modPlt_out (g : PltState → PltState) : (s.modPlt g).out = s.out := rfl
@[simp] theorem State.modPlt_free (g : PltState → PltState) : (s.modPlt g).free = s.free := rfl

/-! ### `State.modQueues` -/

@[simp] theorem State.modQueues_pending (g : Queues → Queues) : (s.modQueues g).pending = s.pending := rfl
@[simp] theorem State.modQueues_hub (g : Queues → Queues) : (s.modQueues g).hub = s.hub := rfl
@[simp] theorem State.modQueues_plt (g : Queues → Queues) : (s.modQueues g).plt = s.plt := rfl
@[simp] theorem State.modQueues_queues (g : Queues → Queues) : (s.modQueues g).queues = g s.queues := rfl
@[simp] theorem State.modQueues_frames (g : Queues → Queues) : (s.modQueues g).frames = s.frames := rfl
@[simp] theorem State.modQueues_links (g : Queues → Queues) : (s.modQueues g).links = s.links := rfl
@[simp] theorem State.modQueues_dies (g : Queues → Queues) : (s.modQueues g).dies = s.dies := rfl
@[simp] theorem State.modQueues_time (g : Queues → Queues) : (s.modQueues g).time = s.time := rfl
@[simp] theorem State.modQueues_media (g : Queues → Queues) : (s.modQueues g).media = s.media := rfl
@[simp] theorem State.modQueues_clocks (g : Queues → Queues) : (s.modQueues g).clocks = s.clocks := rfl
@[simp] theorem State.modQueues_thermA (g : Queues → Queues) : (s.modQueues g).thermA = s.thermA := rfl
@[simp] theorem State.modQueues_thermB (g : Queues → Queues) : (s.modQueues g).thermB = s.thermB := rfl
@[simp] theorem State.modQueues_thermH (g : Queues → Queues) : (s.modQueues g).thermH = s.thermH := rfl
@[simp] theorem State.modQueues_budget (g : Queues → Queues) : (s.modQueues g).budget = s.budget := rfl
@[simp] theorem State.modQueues_firmware (g : Queues → Queues) : (s.modQueues g).firmware = s.firmware := rfl
@[simp] theorem State.modQueues_service (g : Queues → Queues) : (s.modQueues g).service = s.service := rfl
@[simp] theorem State.modQueues_out (g : Queues → Queues) : (s.modQueues g).out = s.out := rfl
@[simp] theorem State.modQueues_free (g : Queues → Queues) : (s.modQueues g).free = s.free := rfl

/-! ### `State.modFrames` -/

@[simp] theorem State.modFrames_pending (g : Frames → Frames) : (s.modFrames g).pending = s.pending := rfl
@[simp] theorem State.modFrames_hub (g : Frames → Frames) : (s.modFrames g).hub = s.hub := rfl
@[simp] theorem State.modFrames_plt (g : Frames → Frames) : (s.modFrames g).plt = s.plt := rfl
@[simp] theorem State.modFrames_queues (g : Frames → Frames) : (s.modFrames g).queues = s.queues := rfl
@[simp] theorem State.modFrames_frames (g : Frames → Frames) : (s.modFrames g).frames = g s.frames := rfl
@[simp] theorem State.modFrames_links (g : Frames → Frames) : (s.modFrames g).links = s.links := rfl
@[simp] theorem State.modFrames_dies (g : Frames → Frames) : (s.modFrames g).dies = s.dies := rfl
@[simp] theorem State.modFrames_time (g : Frames → Frames) : (s.modFrames g).time = s.time := rfl
@[simp] theorem State.modFrames_media (g : Frames → Frames) : (s.modFrames g).media = s.media := rfl
@[simp] theorem State.modFrames_clocks (g : Frames → Frames) : (s.modFrames g).clocks = s.clocks := rfl
@[simp] theorem State.modFrames_thermA (g : Frames → Frames) : (s.modFrames g).thermA = s.thermA := rfl
@[simp] theorem State.modFrames_thermB (g : Frames → Frames) : (s.modFrames g).thermB = s.thermB := rfl
@[simp] theorem State.modFrames_thermH (g : Frames → Frames) : (s.modFrames g).thermH = s.thermH := rfl
@[simp] theorem State.modFrames_budget (g : Frames → Frames) : (s.modFrames g).budget = s.budget := rfl
@[simp] theorem State.modFrames_firmware (g : Frames → Frames) : (s.modFrames g).firmware = s.firmware := rfl
@[simp] theorem State.modFrames_service (g : Frames → Frames) : (s.modFrames g).service = s.service := rfl
@[simp] theorem State.modFrames_out (g : Frames → Frames) : (s.modFrames g).out = s.out := rfl
@[simp] theorem State.modFrames_free (g : Frames → Frames) : (s.modFrames g).free = s.free := rfl

/-! ### `State.modLinks` -/

@[simp] theorem State.modLinks_pending (g : Links → Links) : (s.modLinks g).pending = s.pending := rfl
@[simp] theorem State.modLinks_hub (g : Links → Links) : (s.modLinks g).hub = s.hub := rfl
@[simp] theorem State.modLinks_plt (g : Links → Links) : (s.modLinks g).plt = s.plt := rfl
@[simp] theorem State.modLinks_queues (g : Links → Links) : (s.modLinks g).queues = s.queues := rfl
@[simp] theorem State.modLinks_frames (g : Links → Links) : (s.modLinks g).frames = s.frames := rfl
@[simp] theorem State.modLinks_links (g : Links → Links) : (s.modLinks g).links = g s.links := rfl
@[simp] theorem State.modLinks_dies (g : Links → Links) : (s.modLinks g).dies = s.dies := rfl
@[simp] theorem State.modLinks_time (g : Links → Links) : (s.modLinks g).time = s.time := rfl
@[simp] theorem State.modLinks_media (g : Links → Links) : (s.modLinks g).media = s.media := rfl
@[simp] theorem State.modLinks_clocks (g : Links → Links) : (s.modLinks g).clocks = s.clocks := rfl
@[simp] theorem State.modLinks_thermA (g : Links → Links) : (s.modLinks g).thermA = s.thermA := rfl
@[simp] theorem State.modLinks_thermB (g : Links → Links) : (s.modLinks g).thermB = s.thermB := rfl
@[simp] theorem State.modLinks_thermH (g : Links → Links) : (s.modLinks g).thermH = s.thermH := rfl
@[simp] theorem State.modLinks_budget (g : Links → Links) : (s.modLinks g).budget = s.budget := rfl
@[simp] theorem State.modLinks_firmware (g : Links → Links) : (s.modLinks g).firmware = s.firmware := rfl
@[simp] theorem State.modLinks_service (g : Links → Links) : (s.modLinks g).service = s.service := rfl
@[simp] theorem State.modLinks_out (g : Links → Links) : (s.modLinks g).out = s.out := rfl
@[simp] theorem State.modLinks_free (g : Links → Links) : (s.modLinks g).free = s.free := rfl

/-! ### `State.modDies` -/

@[simp] theorem State.modDies_pending (g : Dies → Dies) : (s.modDies g).pending = s.pending := rfl
@[simp] theorem State.modDies_hub (g : Dies → Dies) : (s.modDies g).hub = s.hub := rfl
@[simp] theorem State.modDies_plt (g : Dies → Dies) : (s.modDies g).plt = s.plt := rfl
@[simp] theorem State.modDies_queues (g : Dies → Dies) : (s.modDies g).queues = s.queues := rfl
@[simp] theorem State.modDies_frames (g : Dies → Dies) : (s.modDies g).frames = s.frames := rfl
@[simp] theorem State.modDies_links (g : Dies → Dies) : (s.modDies g).links = s.links := rfl
@[simp] theorem State.modDies_dies (g : Dies → Dies) : (s.modDies g).dies = g s.dies := rfl
@[simp] theorem State.modDies_time (g : Dies → Dies) : (s.modDies g).time = s.time := rfl
@[simp] theorem State.modDies_media (g : Dies → Dies) : (s.modDies g).media = s.media := rfl
@[simp] theorem State.modDies_clocks (g : Dies → Dies) : (s.modDies g).clocks = s.clocks := rfl
@[simp] theorem State.modDies_thermA (g : Dies → Dies) : (s.modDies g).thermA = s.thermA := rfl
@[simp] theorem State.modDies_thermB (g : Dies → Dies) : (s.modDies g).thermB = s.thermB := rfl
@[simp] theorem State.modDies_thermH (g : Dies → Dies) : (s.modDies g).thermH = s.thermH := rfl
@[simp] theorem State.modDies_budget (g : Dies → Dies) : (s.modDies g).budget = s.budget := rfl
@[simp] theorem State.modDies_firmware (g : Dies → Dies) : (s.modDies g).firmware = s.firmware := rfl
@[simp] theorem State.modDies_service (g : Dies → Dies) : (s.modDies g).service = s.service := rfl
@[simp] theorem State.modDies_out (g : Dies → Dies) : (s.modDies g).out = s.out := rfl
@[simp] theorem State.modDies_free (g : Dies → Dies) : (s.modDies g).free = s.free := rfl

/-! ### `State.modTime` -/

@[simp] theorem State.modTime_pending (g : Time → Time) : (s.modTime g).pending = s.pending := rfl
@[simp] theorem State.modTime_hub (g : Time → Time) : (s.modTime g).hub = s.hub := rfl
@[simp] theorem State.modTime_plt (g : Time → Time) : (s.modTime g).plt = s.plt := rfl
@[simp] theorem State.modTime_queues (g : Time → Time) : (s.modTime g).queues = s.queues := rfl
@[simp] theorem State.modTime_frames (g : Time → Time) : (s.modTime g).frames = s.frames := rfl
@[simp] theorem State.modTime_links (g : Time → Time) : (s.modTime g).links = s.links := rfl
@[simp] theorem State.modTime_dies (g : Time → Time) : (s.modTime g).dies = s.dies := rfl
@[simp] theorem State.modTime_time (g : Time → Time) : (s.modTime g).time = g s.time := rfl
@[simp] theorem State.modTime_media (g : Time → Time) : (s.modTime g).media = s.media := rfl
@[simp] theorem State.modTime_clocks (g : Time → Time) : (s.modTime g).clocks = s.clocks := rfl
@[simp] theorem State.modTime_thermA (g : Time → Time) : (s.modTime g).thermA = s.thermA := rfl
@[simp] theorem State.modTime_thermB (g : Time → Time) : (s.modTime g).thermB = s.thermB := rfl
@[simp] theorem State.modTime_thermH (g : Time → Time) : (s.modTime g).thermH = s.thermH := rfl
@[simp] theorem State.modTime_budget (g : Time → Time) : (s.modTime g).budget = s.budget := rfl
@[simp] theorem State.modTime_firmware (g : Time → Time) : (s.modTime g).firmware = s.firmware := rfl
@[simp] theorem State.modTime_service (g : Time → Time) : (s.modTime g).service = s.service := rfl
@[simp] theorem State.modTime_out (g : Time → Time) : (s.modTime g).out = s.out := rfl
@[simp] theorem State.modTime_free (g : Time → Time) : (s.modTime g).free = s.free := rfl

/-! ### `State.modMedia` -/

@[simp] theorem State.modMedia_pending (g : Media → Media) : (s.modMedia g).pending = s.pending := rfl
@[simp] theorem State.modMedia_hub (g : Media → Media) : (s.modMedia g).hub = s.hub := rfl
@[simp] theorem State.modMedia_plt (g : Media → Media) : (s.modMedia g).plt = s.plt := rfl
@[simp] theorem State.modMedia_queues (g : Media → Media) : (s.modMedia g).queues = s.queues := rfl
@[simp] theorem State.modMedia_frames (g : Media → Media) : (s.modMedia g).frames = s.frames := rfl
@[simp] theorem State.modMedia_links (g : Media → Media) : (s.modMedia g).links = s.links := rfl
@[simp] theorem State.modMedia_dies (g : Media → Media) : (s.modMedia g).dies = s.dies := rfl
@[simp] theorem State.modMedia_time (g : Media → Media) : (s.modMedia g).time = s.time := rfl
@[simp] theorem State.modMedia_media (g : Media → Media) : (s.modMedia g).media = g s.media := rfl
@[simp] theorem State.modMedia_clocks (g : Media → Media) : (s.modMedia g).clocks = s.clocks := rfl
@[simp] theorem State.modMedia_thermA (g : Media → Media) : (s.modMedia g).thermA = s.thermA := rfl
@[simp] theorem State.modMedia_thermB (g : Media → Media) : (s.modMedia g).thermB = s.thermB := rfl
@[simp] theorem State.modMedia_thermH (g : Media → Media) : (s.modMedia g).thermH = s.thermH := rfl
@[simp] theorem State.modMedia_budget (g : Media → Media) : (s.modMedia g).budget = s.budget := rfl
@[simp] theorem State.modMedia_firmware (g : Media → Media) : (s.modMedia g).firmware = s.firmware := rfl
@[simp] theorem State.modMedia_service (g : Media → Media) : (s.modMedia g).service = s.service := rfl
@[simp] theorem State.modMedia_out (g : Media → Media) : (s.modMedia g).out = s.out := rfl
@[simp] theorem State.modMedia_free (g : Media → Media) : (s.modMedia g).free = s.free := rfl

/-! ### `State.modClocks` -/

@[simp] theorem State.modClocks_pending (g : Clocks → Clocks) : (s.modClocks g).pending = s.pending := rfl
@[simp] theorem State.modClocks_hub (g : Clocks → Clocks) : (s.modClocks g).hub = s.hub := rfl
@[simp] theorem State.modClocks_plt (g : Clocks → Clocks) : (s.modClocks g).plt = s.plt := rfl
@[simp] theorem State.modClocks_queues (g : Clocks → Clocks) : (s.modClocks g).queues = s.queues := rfl
@[simp] theorem State.modClocks_frames (g : Clocks → Clocks) : (s.modClocks g).frames = s.frames := rfl
@[simp] theorem State.modClocks_links (g : Clocks → Clocks) : (s.modClocks g).links = s.links := rfl
@[simp] theorem State.modClocks_dies (g : Clocks → Clocks) : (s.modClocks g).dies = s.dies := rfl
@[simp] theorem State.modClocks_time (g : Clocks → Clocks) : (s.modClocks g).time = s.time := rfl
@[simp] theorem State.modClocks_media (g : Clocks → Clocks) : (s.modClocks g).media = s.media := rfl
@[simp] theorem State.modClocks_clocks (g : Clocks → Clocks) : (s.modClocks g).clocks = g s.clocks := rfl
@[simp] theorem State.modClocks_thermA (g : Clocks → Clocks) : (s.modClocks g).thermA = s.thermA := rfl
@[simp] theorem State.modClocks_thermB (g : Clocks → Clocks) : (s.modClocks g).thermB = s.thermB := rfl
@[simp] theorem State.modClocks_thermH (g : Clocks → Clocks) : (s.modClocks g).thermH = s.thermH := rfl
@[simp] theorem State.modClocks_budget (g : Clocks → Clocks) : (s.modClocks g).budget = s.budget := rfl
@[simp] theorem State.modClocks_firmware (g : Clocks → Clocks) : (s.modClocks g).firmware = s.firmware := rfl
@[simp] theorem State.modClocks_service (g : Clocks → Clocks) : (s.modClocks g).service = s.service := rfl
@[simp] theorem State.modClocks_out (g : Clocks → Clocks) : (s.modClocks g).out = s.out := rfl
@[simp] theorem State.modClocks_free (g : Clocks → Clocks) : (s.modClocks g).free = s.free := rfl

/-! ### `State.modBudget` -/

@[simp] theorem State.modBudget_pending (g : Budget → Budget) : (s.modBudget g).pending = s.pending := rfl
@[simp] theorem State.modBudget_hub (g : Budget → Budget) : (s.modBudget g).hub = s.hub := rfl
@[simp] theorem State.modBudget_plt (g : Budget → Budget) : (s.modBudget g).plt = s.plt := rfl
@[simp] theorem State.modBudget_queues (g : Budget → Budget) : (s.modBudget g).queues = s.queues := rfl
@[simp] theorem State.modBudget_frames (g : Budget → Budget) : (s.modBudget g).frames = s.frames := rfl
@[simp] theorem State.modBudget_links (g : Budget → Budget) : (s.modBudget g).links = s.links := rfl
@[simp] theorem State.modBudget_dies (g : Budget → Budget) : (s.modBudget g).dies = s.dies := rfl
@[simp] theorem State.modBudget_time (g : Budget → Budget) : (s.modBudget g).time = s.time := rfl
@[simp] theorem State.modBudget_media (g : Budget → Budget) : (s.modBudget g).media = s.media := rfl
@[simp] theorem State.modBudget_clocks (g : Budget → Budget) : (s.modBudget g).clocks = s.clocks := rfl
@[simp] theorem State.modBudget_thermA (g : Budget → Budget) : (s.modBudget g).thermA = s.thermA := rfl
@[simp] theorem State.modBudget_thermB (g : Budget → Budget) : (s.modBudget g).thermB = s.thermB := rfl
@[simp] theorem State.modBudget_thermH (g : Budget → Budget) : (s.modBudget g).thermH = s.thermH := rfl
@[simp] theorem State.modBudget_budget (g : Budget → Budget) : (s.modBudget g).budget = g s.budget := rfl
@[simp] theorem State.modBudget_firmware (g : Budget → Budget) : (s.modBudget g).firmware = s.firmware := rfl
@[simp] theorem State.modBudget_service (g : Budget → Budget) : (s.modBudget g).service = s.service := rfl
@[simp] theorem State.modBudget_out (g : Budget → Budget) : (s.modBudget g).out = s.out := rfl
@[simp] theorem State.modBudget_free (g : Budget → Budget) : (s.modBudget g).free = s.free := rfl

/-! ### `State.modFirmware` -/

@[simp] theorem State.modFirmware_pending (g : Firmware → Firmware) : (s.modFirmware g).pending = s.pending := rfl
@[simp] theorem State.modFirmware_hub (g : Firmware → Firmware) : (s.modFirmware g).hub = s.hub := rfl
@[simp] theorem State.modFirmware_plt (g : Firmware → Firmware) : (s.modFirmware g).plt = s.plt := rfl
@[simp] theorem State.modFirmware_queues (g : Firmware → Firmware) : (s.modFirmware g).queues = s.queues := rfl
@[simp] theorem State.modFirmware_frames (g : Firmware → Firmware) : (s.modFirmware g).frames = s.frames := rfl
@[simp] theorem State.modFirmware_links (g : Firmware → Firmware) : (s.modFirmware g).links = s.links := rfl
@[simp] theorem State.modFirmware_dies (g : Firmware → Firmware) : (s.modFirmware g).dies = s.dies := rfl
@[simp] theorem State.modFirmware_time (g : Firmware → Firmware) : (s.modFirmware g).time = s.time := rfl
@[simp] theorem State.modFirmware_media (g : Firmware → Firmware) : (s.modFirmware g).media = s.media := rfl
@[simp] theorem State.modFirmware_clocks (g : Firmware → Firmware) : (s.modFirmware g).clocks = s.clocks := rfl
@[simp] theorem State.modFirmware_thermA (g : Firmware → Firmware) : (s.modFirmware g).thermA = s.thermA := rfl
@[simp] theorem State.modFirmware_thermB (g : Firmware → Firmware) : (s.modFirmware g).thermB = s.thermB := rfl
@[simp] theorem State.modFirmware_thermH (g : Firmware → Firmware) : (s.modFirmware g).thermH = s.thermH := rfl
@[simp] theorem State.modFirmware_budget (g : Firmware → Firmware) : (s.modFirmware g).budget = s.budget := rfl
@[simp] theorem State.modFirmware_firmware (g : Firmware → Firmware) : (s.modFirmware g).firmware = g s.firmware := rfl
@[simp] theorem State.modFirmware_service (g : Firmware → Firmware) : (s.modFirmware g).service = s.service := rfl
@[simp] theorem State.modFirmware_out (g : Firmware → Firmware) : (s.modFirmware g).out = s.out := rfl
@[simp] theorem State.modFirmware_free (g : Firmware → Firmware) : (s.modFirmware g).free = s.free := rfl

/-! ### `State.modService` -/

@[simp] theorem State.modService_pending (g : Service → Service) : (s.modService g).pending = s.pending := rfl
@[simp] theorem State.modService_hub (g : Service → Service) : (s.modService g).hub = s.hub := rfl
@[simp] theorem State.modService_plt (g : Service → Service) : (s.modService g).plt = s.plt := rfl
@[simp] theorem State.modService_queues (g : Service → Service) : (s.modService g).queues = s.queues := rfl
@[simp] theorem State.modService_frames (g : Service → Service) : (s.modService g).frames = s.frames := rfl
@[simp] theorem State.modService_links (g : Service → Service) : (s.modService g).links = s.links := rfl
@[simp] theorem State.modService_dies (g : Service → Service) : (s.modService g).dies = s.dies := rfl
@[simp] theorem State.modService_time (g : Service → Service) : (s.modService g).time = s.time := rfl
@[simp] theorem State.modService_media (g : Service → Service) : (s.modService g).media = s.media := rfl
@[simp] theorem State.modService_clocks (g : Service → Service) : (s.modService g).clocks = s.clocks := rfl
@[simp] theorem State.modService_thermA (g : Service → Service) : (s.modService g).thermA = s.thermA := rfl
@[simp] theorem State.modService_thermB (g : Service → Service) : (s.modService g).thermB = s.thermB := rfl
@[simp] theorem State.modService_thermH (g : Service → Service) : (s.modService g).thermH = s.thermH := rfl
@[simp] theorem State.modService_budget (g : Service → Service) : (s.modService g).budget = s.budget := rfl
@[simp] theorem State.modService_firmware (g : Service → Service) : (s.modService g).firmware = s.firmware := rfl
@[simp] theorem State.modService_service (g : Service → Service) : (s.modService g).service = g s.service := rfl
@[simp] theorem State.modService_out (g : Service → Service) : (s.modService g).out = s.out := rfl
@[simp] theorem State.modService_free (g : Service → Service) : (s.modService g).free = s.free := rfl

/-! ### `State.emit`, `State.drawn` -/

@[simp] theorem State.emit_pending (o : Out) : (s.emit o).pending = s.pending := rfl
@[simp] theorem State.drawn_pending : s.drawn.pending = s.pending := rfl
@[simp] theorem State.emit_hub (o : Out) : (s.emit o).hub = s.hub := rfl
@[simp] theorem State.drawn_hub : s.drawn.hub = s.hub := rfl
@[simp] theorem State.emit_plt (o : Out) : (s.emit o).plt = s.plt := rfl
@[simp] theorem State.drawn_plt : s.drawn.plt = s.plt := rfl
@[simp] theorem State.emit_queues (o : Out) : (s.emit o).queues = s.queues := rfl
@[simp] theorem State.drawn_queues : s.drawn.queues = s.queues := rfl
@[simp] theorem State.emit_frames (o : Out) : (s.emit o).frames = s.frames := rfl
@[simp] theorem State.drawn_frames : s.drawn.frames = s.frames := rfl
@[simp] theorem State.emit_links (o : Out) : (s.emit o).links = s.links := rfl
@[simp] theorem State.drawn_links : s.drawn.links = s.links := rfl
@[simp] theorem State.emit_dies (o : Out) : (s.emit o).dies = s.dies := rfl
@[simp] theorem State.drawn_dies : s.drawn.dies = s.dies := rfl
@[simp] theorem State.emit_time (o : Out) : (s.emit o).time = s.time := rfl
@[simp] theorem State.drawn_time : s.drawn.time = s.time := rfl
@[simp] theorem State.emit_media (o : Out) : (s.emit o).media = s.media := rfl
@[simp] theorem State.drawn_media : s.drawn.media = s.media := rfl
@[simp] theorem State.emit_clocks (o : Out) : (s.emit o).clocks = s.clocks := rfl
@[simp] theorem State.drawn_clocks : s.drawn.clocks = s.clocks := rfl
@[simp] theorem State.emit_thermA (o : Out) : (s.emit o).thermA = s.thermA := rfl
@[simp] theorem State.drawn_thermA : s.drawn.thermA = s.thermA := rfl
@[simp] theorem State.emit_thermB (o : Out) : (s.emit o).thermB = s.thermB := rfl
@[simp] theorem State.drawn_thermB : s.drawn.thermB = s.thermB := rfl
@[simp] theorem State.emit_thermH (o : Out) : (s.emit o).thermH = s.thermH := rfl
@[simp] theorem State.drawn_thermH : s.drawn.thermH = s.thermH := rfl
@[simp] theorem State.emit_budget (o : Out) : (s.emit o).budget = s.budget := rfl
@[simp] theorem State.drawn_budget : s.drawn.budget = s.budget := rfl
@[simp] theorem State.emit_firmware (o : Out) : (s.emit o).firmware = s.firmware := rfl
@[simp] theorem State.drawn_firmware : s.drawn.firmware = s.firmware := rfl
@[simp] theorem State.emit_service (o : Out) : (s.emit o).service = s.service := rfl
@[simp] theorem State.drawn_service : s.drawn.service = s.service := rfl
@[simp] theorem State.emit_out (o : Out) : (s.emit o).out = o :: s.out := rfl
@[simp] theorem State.drawn_out : s.drawn.out = s.out := rfl
@[simp] theorem State.emit_free (o : Out) : (s.emit o).free = s.free := rfl
@[simp] theorem State.drawn_free : s.drawn.free = s.free + 1 := rfl

/-! ### `State.modTherm` -/

@[simp] theorem State.modTherm_pending (d : Die3) (g : Therm → Therm) : (s.modTherm d g).pending = s.pending := by cases d <;> rfl
@[simp] theorem State.modTherm_hub (d : Die3) (g : Therm → Therm) : (s.modTherm d g).hub = s.hub := by cases d <;> rfl
@[simp] theorem State.modTherm_plt (d : Die3) (g : Therm → Therm) : (s.modTherm d g).plt = s.plt := by cases d <;> rfl
@[simp] theorem State.modTherm_queues (d : Die3) (g : Therm → Therm) : (s.modTherm d g).queues = s.queues := by cases d <;> rfl
@[simp] theorem State.modTherm_frames (d : Die3) (g : Therm → Therm) : (s.modTherm d g).frames = s.frames := by cases d <;> rfl
@[simp] theorem State.modTherm_links (d : Die3) (g : Therm → Therm) : (s.modTherm d g).links = s.links := by cases d <;> rfl
@[simp] theorem State.modTherm_dies (d : Die3) (g : Therm → Therm) : (s.modTherm d g).dies = s.dies := by cases d <;> rfl
@[simp] theorem State.modTherm_time (d : Die3) (g : Therm → Therm) : (s.modTherm d g).time = s.time := by cases d <;> rfl
@[simp] theorem State.modTherm_media (d : Die3) (g : Therm → Therm) : (s.modTherm d g).media = s.media := by cases d <;> rfl
@[simp] theorem State.modTherm_clocks (d : Die3) (g : Therm → Therm) : (s.modTherm d g).clocks = s.clocks := by cases d <;> rfl
@[simp] theorem State.modTherm_budget (d : Die3) (g : Therm → Therm) : (s.modTherm d g).budget = s.budget := by cases d <;> rfl
@[simp] theorem State.modTherm_firmware (d : Die3) (g : Therm → Therm) : (s.modTherm d g).firmware = s.firmware := by cases d <;> rfl
@[simp] theorem State.modTherm_service (d : Die3) (g : Therm → Therm) : (s.modTherm d g).service = s.service := by cases d <;> rfl
@[simp] theorem State.modTherm_out (d : Die3) (g : Therm → Therm) : (s.modTherm d g).out = s.out := by cases d <;> rfl
@[simp] theorem State.modTherm_free (d : Die3) (g : Therm → Therm) : (s.modTherm d g).free = s.free := by cases d <;> rfl
@[simp] theorem State.modTherm_therm (d e : Die3) (g : Therm → Therm) :
    (s.modTherm d g).therm e = if e = d then g (s.therm d) else s.therm e := by cases d <;> cases e <;> rfl

/-! ### `State.modFunc` -/

@[simp] theorem State.modFunc_pending (f : Nat) (g : Func → Func) : (s.modFunc f g).pending = s.pending := rfl
@[simp] theorem State.modFunc_plt (f : Nat) (g : Func → Func) : (s.modFunc f g).plt = s.plt := rfl
@[simp] theorem State.modFunc_queues (f : Nat) (g : Func → Func) : (s.modFunc f g).queues = s.queues := rfl
@[simp] theorem State.modFunc_frames (f : Nat) (g : Func → Func) : (s.modFunc f g).frames = s.frames := rfl
@[simp] theorem State.modFunc_links (f : Nat) (g : Func → Func) : (s.modFunc f g).links = s.links := rfl
@[simp] theorem State.modFunc_dies (f : Nat) (g : Func → Func) : (s.modFunc f g).dies = s.dies := rfl
@[simp] theorem State.modFunc_time (f : Nat) (g : Func → Func) : (s.modFunc f g).time = s.time := rfl
@[simp] theorem State.modFunc_media (f : Nat) (g : Func → Func) : (s.modFunc f g).media = s.media := rfl
@[simp] theorem State.modFunc_clocks (f : Nat) (g : Func → Func) : (s.modFunc f g).clocks = s.clocks := rfl
@[simp] theorem State.modFunc_thermA (f : Nat) (g : Func → Func) : (s.modFunc f g).thermA = s.thermA := rfl
@[simp] theorem State.modFunc_thermB (f : Nat) (g : Func → Func) : (s.modFunc f g).thermB = s.thermB := rfl
@[simp] theorem State.modFunc_thermH (f : Nat) (g : Func → Func) : (s.modFunc f g).thermH = s.thermH := rfl
@[simp] theorem State.modFunc_budget (f : Nat) (g : Func → Func) : (s.modFunc f g).budget = s.budget := rfl
@[simp] theorem State.modFunc_firmware (f : Nat) (g : Func → Func) : (s.modFunc f g).firmware = s.firmware := rfl
@[simp] theorem State.modFunc_service (f : Nat) (g : Func → Func) : (s.modFunc f g).service = s.service := rfl
@[simp] theorem State.modFunc_out (f : Nat) (g : Func → Func) : (s.modFunc f g).out = s.out := rfl
@[simp] theorem State.modFunc_free (f : Nat) (g : Func → Func) : (s.modFunc f g).free = s.free := rfl
theorem State.modFunc_func (f : Nat) (g : Func → Func) (f2 : Nat) :
    (s.modFunc f g).func f2 = if f2 = f then g (s.func f) else s.func f2 := Tbl.get_modify ..
@[simp] theorem State.modFunc_func_self (f : Nat) (g : Func → Func) : (s.modFunc f g).func f = g (s.func f) := by
  simp [State.modFunc_func]

/-! ### `State.modLink` -/

@[simp] theorem State.modLink_pending (l : Nat) (g : HostLink → HostLink) : (s.modLink l g).pending = s.pending := rfl
@[simp] theorem State.modLink_plt (l : Nat) (g : HostLink → HostLink) : (s.modLink l g).plt = s.plt := rfl
@[simp] theorem State.modLink_queues (l : Nat) (g : HostLink → HostLink) : (s.modLink l g).queues = s.queues := rfl
@[simp] theorem State.modLink_frames (l : Nat) (g : HostLink → HostLink) : (s.modLink l g).frames = s.frames := rfl
@[simp] theorem State.modLink_links (l : Nat) (g : HostLink → HostLink) : (s.modLink l g).links = s.links := rfl
@[simp] theorem State.modLink_dies (l : Nat) (g : HostLink → HostLink) : (s.modLink l g).dies = s.dies := rfl
@[simp] theorem State.modLink_time (l : Nat) (g : HostLink → HostLink) : (s.modLink l g).time = s.time := rfl
@[simp] theorem State.modLink_media (l : Nat) (g : HostLink → HostLink) : (s.modLink l g).media = s.media := rfl
@[simp] theorem State.modLink_clocks (l : Nat) (g : HostLink → HostLink) : (s.modLink l g).clocks = s.clocks := rfl
@[simp] theorem State.modLink_thermA (l : Nat) (g : HostLink → HostLink) : (s.modLink l g).thermA = s.thermA := rfl
@[simp] theorem State.modLink_thermB (l : Nat) (g : HostLink → HostLink) : (s.modLink l g).thermB = s.thermB := rfl
@[simp] theorem State.modLink_thermH (l : Nat) (g : HostLink → HostLink) : (s.modLink l g).thermH = s.thermH := rfl
@[simp] theorem State.modLink_budget (l : Nat) (g : HostLink → HostLink) : (s.modLink l g).budget = s.budget := rfl
@[simp] theorem State.modLink_firmware (l : Nat) (g : HostLink → HostLink) : (s.modLink l g).firmware = s.firmware := rfl
@[simp] theorem State.modLink_service (l : Nat) (g : HostLink → HostLink) : (s.modLink l g).service = s.service := rfl
@[simp] theorem State.modLink_out (l : Nat) (g : HostLink → HostLink) : (s.modLink l g).out = s.out := rfl
@[simp] theorem State.modLink_free (l : Nat) (g : HostLink → HostLink) : (s.modLink l g).free = s.free := rfl
theorem State.modLink_link (l : Nat) (g : HostLink → HostLink) (l2 : Nat) :
    (s.modLink l g).link l2 = if l2 = l then g (s.link l) else s.link l2 := Tbl.get_modify ..
@[simp] theorem State.modLink_link_self (l : Nat) (g : HostLink → HostLink) : (s.modLink l g).link l = g (s.link l) := by
  simp [State.modLink_link]

/-! ### `State.modRing` -/

@[simp] theorem State.modRing_pending (r : Nat) (g : Ring → Ring) : (s.modRing r g).pending = s.pending := rfl
@[simp] theorem State.modRing_hub (r : Nat) (g : Ring → Ring) : (s.modRing r g).hub = s.hub := rfl
@[simp] theorem State.modRing_plt (r : Nat) (g : Ring → Ring) : (s.modRing r g).plt = s.plt := rfl
@[simp] theorem State.modRing_frames (r : Nat) (g : Ring → Ring) : (s.modRing r g).frames = s.frames := rfl
@[simp] theorem State.modRing_links (r : Nat) (g : Ring → Ring) : (s.modRing r g).links = s.links := rfl
@[simp] theorem State.modRing_dies (r : Nat) (g : Ring → Ring) : (s.modRing r g).dies = s.dies := rfl
@[simp] theorem State.modRing_time (r : Nat) (g : Ring → Ring) : (s.modRing r g).time = s.time := rfl
@[simp] theorem State.modRing_media (r : Nat) (g : Ring → Ring) : (s.modRing r g).media = s.media := rfl
@[simp] theorem State.modRing_clocks (r : Nat) (g : Ring → Ring) : (s.modRing r g).clocks = s.clocks := rfl
@[simp] theorem State.modRing_thermA (r : Nat) (g : Ring → Ring) : (s.modRing r g).thermA = s.thermA := rfl
@[simp] theorem State.modRing_thermB (r : Nat) (g : Ring → Ring) : (s.modRing r g).thermB = s.thermB := rfl
@[simp] theorem State.modRing_thermH (r : Nat) (g : Ring → Ring) : (s.modRing r g).thermH = s.thermH := rfl
@[simp] theorem State.modRing_budget (r : Nat) (g : Ring → Ring) : (s.modRing r g).budget = s.budget := rfl
@[simp] theorem State.modRing_firmware (r : Nat) (g : Ring → Ring) : (s.modRing r g).firmware = s.firmware := rfl
@[simp] theorem State.modRing_service (r : Nat) (g : Ring → Ring) : (s.modRing r g).service = s.service := rfl
@[simp] theorem State.modRing_out (r : Nat) (g : Ring → Ring) : (s.modRing r g).out = s.out := rfl
@[simp] theorem State.modRing_free (r : Nat) (g : Ring → Ring) : (s.modRing r g).free = s.free := rfl
theorem State.modRing_ring (r : Nat) (g : Ring → Ring) (r2 : Nat) :
    (s.modRing r g).ring r2 = if r2 = r then g (s.ring r) else s.ring r2 := Tbl.get_modify ..
@[simp] theorem State.modRing_ring_self (r : Nat) (g : Ring → Ring) : (s.modRing r g).ring r = g (s.ring r) := by
  simp [State.modRing_ring]

/-! ### `State.modEvent` -/

@[simp] theorem State.modEvent_pending (e : Nat) (g : EvSrc → EvSrc) : (s.modEvent e g).pending = s.pending := rfl
@[simp] theorem State.modEvent_hub (e : Nat) (g : EvSrc → EvSrc) : (s.modEvent e g).hub = s.hub := rfl
@[simp] theorem State.modEvent_plt (e : Nat) (g : EvSrc → EvSrc) : (s.modEvent e g).plt = s.plt := rfl
@[simp] theorem State.modEvent_frames (e : Nat) (g : EvSrc → EvSrc) : (s.modEvent e g).frames = s.frames := rfl
@[simp] theorem State.modEvent_links (e : Nat) (g : EvSrc → EvSrc) : (s.modEvent e g).links = s.links := rfl
@[simp] theorem State.modEvent_dies (e : Nat) (g : EvSrc → EvSrc) : (s.modEvent e g).dies = s.dies := rfl
@[simp] theorem State.modEvent_time (e : Nat) (g : EvSrc → EvSrc) : (s.modEvent e g).time = s.time := rfl
@[simp] theorem State.modEvent_media (e : Nat) (g : EvSrc → EvSrc) : (s.modEvent e g).media = s.media := rfl
@[simp] theorem State.modEvent_clocks (e : Nat) (g : EvSrc → EvSrc) : (s.modEvent e g).clocks = s.clocks := rfl
@[simp] theorem State.modEvent_thermA (e : Nat) (g : EvSrc → EvSrc) : (s.modEvent e g).thermA = s.thermA := rfl
@[simp] theorem State.modEvent_thermB (e : Nat) (g : EvSrc → EvSrc) : (s.modEvent e g).thermB = s.thermB := rfl
@[simp] theorem State.modEvent_thermH (e : Nat) (g : EvSrc → EvSrc) : (s.modEvent e g).thermH = s.thermH := rfl
@[simp] theorem State.modEvent_budget (e : Nat) (g : EvSrc → EvSrc) : (s.modEvent e g).budget = s.budget := rfl
@[simp] theorem State.modEvent_firmware (e : Nat) (g : EvSrc → EvSrc) : (s.modEvent e g).firmware = s.firmware := rfl
@[simp] theorem State.modEvent_service (e : Nat) (g : EvSrc → EvSrc) : (s.modEvent e g).service = s.service := rfl
@[simp] theorem State.modEvent_out (e : Nat) (g : EvSrc → EvSrc) : (s.modEvent e g).out = s.out := rfl
@[simp] theorem State.modEvent_free (e : Nat) (g : EvSrc → EvSrc) : (s.modEvent e g).free = s.free := rfl
theorem State.modEvent_event (e : Nat) (g : EvSrc → EvSrc) (e2 : Nat) :
    (s.modEvent e g).event e2 = if e2 = e then g (s.event e) else s.event e2 := Tbl.get_modify ..
@[simp] theorem State.modEvent_event_self (e : Nat) (g : EvSrc → EvSrc) : (s.modEvent e g).event e = g (s.event e) := by
  simp [State.modEvent_event]

/-! ### `State.modSlot` -/

@[simp] theorem State.modSlot_pending (k : Nat) (g : Slot → Slot) : (s.modSlot k g).pending = s.pending := rfl
@[simp] theorem State.modSlot_hub (k : Nat) (g : Slot → Slot) : (s.modSlot k g).hub = s.hub := rfl
@[simp] theorem State.modSlot_plt (k : Nat) (g : Slot → Slot) : (s.modSlot k g).plt = s.plt := rfl
@[simp] theorem State.modSlot_queues (k : Nat) (g : Slot → Slot) : (s.modSlot k g).queues = s.queues := rfl
@[simp] theorem State.modSlot_links (k : Nat) (g : Slot → Slot) : (s.modSlot k g).links = s.links := rfl
@[simp] theorem State.modSlot_dies (k : Nat) (g : Slot → Slot) : (s.modSlot k g).dies = s.dies := rfl
@[simp] theorem State.modSlot_time (k : Nat) (g : Slot → Slot) : (s.modSlot k g).time = s.time := rfl
@[simp] theorem State.modSlot_media (k : Nat) (g : Slot → Slot) : (s.modSlot k g).media = s.media := rfl
@[simp] theorem State.modSlot_clocks (k : Nat) (g : Slot → Slot) : (s.modSlot k g).clocks = s.clocks := rfl
@[simp] theorem State.modSlot_thermA (k : Nat) (g : Slot → Slot) : (s.modSlot k g).thermA = s.thermA := rfl
@[simp] theorem State.modSlot_thermB (k : Nat) (g : Slot → Slot) : (s.modSlot k g).thermB = s.thermB := rfl
@[simp] theorem State.modSlot_thermH (k : Nat) (g : Slot → Slot) : (s.modSlot k g).thermH = s.thermH := rfl
@[simp] theorem State.modSlot_budget (k : Nat) (g : Slot → Slot) : (s.modSlot k g).budget = s.budget := rfl
@[simp] theorem State.modSlot_firmware (k : Nat) (g : Slot → Slot) : (s.modSlot k g).firmware = s.firmware := rfl
@[simp] theorem State.modSlot_service (k : Nat) (g : Slot → Slot) : (s.modSlot k g).service = s.service := rfl
@[simp] theorem State.modSlot_out (k : Nat) (g : Slot → Slot) : (s.modSlot k g).out = s.out := rfl
@[simp] theorem State.modSlot_free (k : Nat) (g : Slot → Slot) : (s.modSlot k g).free = s.free := rfl
theorem State.modSlot_slot (k : Nat) (g : Slot → Slot) (k2 : Nat) :
    (s.modSlot k g).slot k2 = if k2 = k then g (s.slot k) else s.slot k2 := Tbl.get_modify ..
@[simp] theorem State.modSlot_slot_self (k : Nat) (g : Slot → Slot) : (s.modSlot k g).slot k = g (s.slot k) := by
  simp [State.modSlot_slot]

/-! ### `State.modCanvas` -/

@[simp] theorem State.modCanvas_pending (c : Nat) (g : Canvas → Canvas) : (s.modCanvas c g).pending = s.pending := rfl
@[simp] theorem State.modCanvas_hub (c : Nat) (g : Canvas → Canvas) : (s.modCanvas c g).hub = s.hub := rfl
@[simp] theorem State.modCanvas_plt (c : Nat) (g : Canvas → Canvas) : (s.modCanvas c g).plt = s.plt := rfl
@[simp] theorem State.modCanvas_queues (c : Nat) (g : Canvas → Canvas) : (s.modCanvas c g).queues = s.queues := rfl
@[simp] theorem State.modCanvas_links (c : Nat) (g : Canvas → Canvas) : (s.modCanvas c g).links = s.links := rfl
@[simp] theorem State.modCanvas_dies (c : Nat) (g : Canvas → Canvas) : (s.modCanvas c g).dies = s.dies := rfl
@[simp] theorem State.modCanvas_time (c : Nat) (g : Canvas → Canvas) : (s.modCanvas c g).time = s.time := rfl
@[simp] theorem State.modCanvas_media (c : Nat) (g : Canvas → Canvas) : (s.modCanvas c g).media = s.media := rfl
@[simp] theorem State.modCanvas_clocks (c : Nat) (g : Canvas → Canvas) : (s.modCanvas c g).clocks = s.clocks := rfl
@[simp] theorem State.modCanvas_thermA (c : Nat) (g : Canvas → Canvas) : (s.modCanvas c g).thermA = s.thermA := rfl
@[simp] theorem State.modCanvas_thermB (c : Nat) (g : Canvas → Canvas) : (s.modCanvas c g).thermB = s.thermB := rfl
@[simp] theorem State.modCanvas_thermH (c : Nat) (g : Canvas → Canvas) : (s.modCanvas c g).thermH = s.thermH := rfl
@[simp] theorem State.modCanvas_budget (c : Nat) (g : Canvas → Canvas) : (s.modCanvas c g).budget = s.budget := rfl
@[simp] theorem State.modCanvas_firmware (c : Nat) (g : Canvas → Canvas) : (s.modCanvas c g).firmware = s.firmware := rfl
@[simp] theorem State.modCanvas_service (c : Nat) (g : Canvas → Canvas) : (s.modCanvas c g).service = s.service := rfl
@[simp] theorem State.modCanvas_out (c : Nat) (g : Canvas → Canvas) : (s.modCanvas c g).out = s.out := rfl
@[simp] theorem State.modCanvas_free (c : Nat) (g : Canvas → Canvas) : (s.modCanvas c g).free = s.free := rfl
theorem State.modCanvas_canvas (c : Nat) (g : Canvas → Canvas) (c2 : Nat) :
    (s.modCanvas c g).canvas c2 = if c2 = c then g (s.canvas c) else s.canvas c2 := Tbl.get_modify ..
@[simp] theorem State.modCanvas_canvas_self (c : Nat) (g : Canvas → Canvas) : (s.modCanvas c g).canvas c = g (s.canvas c) := by
  simp [State.modCanvas_canvas]

/-! ### `State.modLayer` -/

@[simp] theorem State.modLayer_pending (l : Nat) (g : Layer → Layer) : (s.modLayer l g).pending = s.pending := rfl
@[simp] theorem State.modLayer_hub (l : Nat) (g : Layer → Layer) : (s.modLayer l g).hub = s.hub := rfl
@[simp] theorem State.modLayer_plt (l : Nat) (g : Layer → Layer) : (s.modLayer l g).plt = s.plt := rfl
@[simp] theorem State.modLayer_queues (l : Nat) (g : Layer → Layer) : (s.modLayer l g).queues = s.queues := rfl
@[simp] theorem State.modLayer_links (l : Nat) (g : Layer → Layer) : (s.modLayer l g).links = s.links := rfl
@[simp] theorem State.modLayer_dies (l : Nat) (g : Layer → Layer) : (s.modLayer l g).dies = s.dies := rfl
@[simp] theorem State.modLayer_time (l : Nat) (g : Layer → Layer) : (s.modLayer l g).time = s.time := rfl
@[simp] theorem State.modLayer_media (l : Nat) (g : Layer → Layer) : (s.modLayer l g).media = s.media := rfl
@[simp] theorem State.modLayer_clocks (l : Nat) (g : Layer → Layer) : (s.modLayer l g).clocks = s.clocks := rfl
@[simp] theorem State.modLayer_thermA (l : Nat) (g : Layer → Layer) : (s.modLayer l g).thermA = s.thermA := rfl
@[simp] theorem State.modLayer_thermB (l : Nat) (g : Layer → Layer) : (s.modLayer l g).thermB = s.thermB := rfl
@[simp] theorem State.modLayer_thermH (l : Nat) (g : Layer → Layer) : (s.modLayer l g).thermH = s.thermH := rfl
@[simp] theorem State.modLayer_budget (l : Nat) (g : Layer → Layer) : (s.modLayer l g).budget = s.budget := rfl
@[simp] theorem State.modLayer_firmware (l : Nat) (g : Layer → Layer) : (s.modLayer l g).firmware = s.firmware := rfl
@[simp] theorem State.modLayer_service (l : Nat) (g : Layer → Layer) : (s.modLayer l g).service = s.service := rfl
@[simp] theorem State.modLayer_out (l : Nat) (g : Layer → Layer) : (s.modLayer l g).out = s.out := rfl
@[simp] theorem State.modLayer_free (l : Nat) (g : Layer → Layer) : (s.modLayer l g).free = s.free := rfl
theorem State.modLayer_layer (l : Nat) (g : Layer → Layer) (l2 : Nat) :
    (s.modLayer l g).layer l2 = if l2 = l then g (s.layer l) else s.layer l2 := Tbl.get_modify ..
@[simp] theorem State.modLayer_layer_self (l : Nat) (g : Layer → Layer) : (s.modLayer l g).layer l = g (s.layer l) := by
  simp [State.modLayer_layer]

/-! ### `State.modCorr` -/

@[simp] theorem State.modCorr_pending (t : Nat) (g : Corr → Corr) : (s.modCorr t g).pending = s.pending := rfl
@[simp] theorem State.modCorr_hub (t : Nat) (g : Corr → Corr) : (s.modCorr t g).hub = s.hub := rfl
@[simp] theorem State.modCorr_plt (t : Nat) (g : Corr → Corr) : (s.modCorr t g).plt = s.plt := rfl
@[simp] theorem State.modCorr_queues (t : Nat) (g : Corr → Corr) : (s.modCorr t g).queues = s.queues := rfl
@[simp] theorem State.modCorr_links (t : Nat) (g : Corr → Corr) : (s.modCorr t g).links = s.links := rfl
@[simp] theorem State.modCorr_dies (t : Nat) (g : Corr → Corr) : (s.modCorr t g).dies = s.dies := rfl
@[simp] theorem State.modCorr_time (t : Nat) (g : Corr → Corr) : (s.modCorr t g).time = s.time := rfl
@[simp] theorem State.modCorr_media (t : Nat) (g : Corr → Corr) : (s.modCorr t g).media = s.media := rfl
@[simp] theorem State.modCorr_clocks (t : Nat) (g : Corr → Corr) : (s.modCorr t g).clocks = s.clocks := rfl
@[simp] theorem State.modCorr_thermA (t : Nat) (g : Corr → Corr) : (s.modCorr t g).thermA = s.thermA := rfl
@[simp] theorem State.modCorr_thermB (t : Nat) (g : Corr → Corr) : (s.modCorr t g).thermB = s.thermB := rfl
@[simp] theorem State.modCorr_thermH (t : Nat) (g : Corr → Corr) : (s.modCorr t g).thermH = s.thermH := rfl
@[simp] theorem State.modCorr_budget (t : Nat) (g : Corr → Corr) : (s.modCorr t g).budget = s.budget := rfl
@[simp] theorem State.modCorr_firmware (t : Nat) (g : Corr → Corr) : (s.modCorr t g).firmware = s.firmware := rfl
@[simp] theorem State.modCorr_service (t : Nat) (g : Corr → Corr) : (s.modCorr t g).service = s.service := rfl
@[simp] theorem State.modCorr_out (t : Nat) (g : Corr → Corr) : (s.modCorr t g).out = s.out := rfl
@[simp] theorem State.modCorr_free (t : Nat) (g : Corr → Corr) : (s.modCorr t g).free = s.free := rfl
theorem State.modCorr_corr (t : Nat) (g : Corr → Corr) (t2 : Nat) :
    (s.modCorr t g).corr t2 = if t2 = t then g (s.corr t) else s.corr t2 := Tbl.get_modify ..
@[simp] theorem State.modCorr_corr_self (t : Nat) (g : Corr → Corr) : (s.modCorr t g).corr t = g (s.corr t) := by
  simp [State.modCorr_corr]

/-! ### `State.modSafe` -/

@[simp] theorem State.modSafe_pending (t : Nat) (g : SafeTile → SafeTile) : (s.modSafe t g).pending = s.pending := rfl
@[simp] theorem State.modSafe_hub (t : Nat) (g : SafeTile → SafeTile) : (s.modSafe t g).hub = s.hub := rfl
@[simp] theorem State.modSafe_plt (t : Nat) (g : SafeTile → SafeTile) : (s.modSafe t g).plt = s.plt := rfl
@[simp] theorem State.modSafe_queues (t : Nat) (g : SafeTile → SafeTile) : (s.modSafe t g).queues = s.queues := rfl
@[simp] theorem State.modSafe_links (t : Nat) (g : SafeTile → SafeTile) : (s.modSafe t g).links = s.links := rfl
@[simp] theorem State.modSafe_dies (t : Nat) (g : SafeTile → SafeTile) : (s.modSafe t g).dies = s.dies := rfl
@[simp] theorem State.modSafe_time (t : Nat) (g : SafeTile → SafeTile) : (s.modSafe t g).time = s.time := rfl
@[simp] theorem State.modSafe_media (t : Nat) (g : SafeTile → SafeTile) : (s.modSafe t g).media = s.media := rfl
@[simp] theorem State.modSafe_clocks (t : Nat) (g : SafeTile → SafeTile) : (s.modSafe t g).clocks = s.clocks := rfl
@[simp] theorem State.modSafe_thermA (t : Nat) (g : SafeTile → SafeTile) : (s.modSafe t g).thermA = s.thermA := rfl
@[simp] theorem State.modSafe_thermB (t : Nat) (g : SafeTile → SafeTile) : (s.modSafe t g).thermB = s.thermB := rfl
@[simp] theorem State.modSafe_thermH (t : Nat) (g : SafeTile → SafeTile) : (s.modSafe t g).thermH = s.thermH := rfl
@[simp] theorem State.modSafe_budget (t : Nat) (g : SafeTile → SafeTile) : (s.modSafe t g).budget = s.budget := rfl
@[simp] theorem State.modSafe_firmware (t : Nat) (g : SafeTile → SafeTile) : (s.modSafe t g).firmware = s.firmware := rfl
@[simp] theorem State.modSafe_service (t : Nat) (g : SafeTile → SafeTile) : (s.modSafe t g).service = s.service := rfl
@[simp] theorem State.modSafe_out (t : Nat) (g : SafeTile → SafeTile) : (s.modSafe t g).out = s.out := rfl
@[simp] theorem State.modSafe_free (t : Nat) (g : SafeTile → SafeTile) : (s.modSafe t g).free = s.free := rfl
theorem State.modSafe_safe (t : Nat) (g : SafeTile → SafeTile) (t2 : Nat) :
    (s.modSafe t g).safe t2 = if t2 = t then g (s.safe t) else s.safe t2 := Tbl.get_modify ..
@[simp] theorem State.modSafe_safe_self (t : Nat) (g : SafeTile → SafeTile) : (s.modSafe t g).safe t = g (s.safe t) := by
  simp [State.modSafe_safe]

/-! ### `State.modZone` -/

@[simp] theorem State.modZone_pending (z : Nat) (g : Zone → Zone) : (s.modZone z g).pending = s.pending := rfl
@[simp] theorem State.modZone_hub (z : Nat) (g : Zone → Zone) : (s.modZone z g).hub = s.hub := rfl
@[simp] theorem State.modZone_plt (z : Nat) (g : Zone → Zone) : (s.modZone z g).plt = s.plt := rfl
@[simp] theorem State.modZone_queues (z : Nat) (g : Zone → Zone) : (s.modZone z g).queues = s.queues := rfl
@[simp] theorem State.modZone_links (z : Nat) (g : Zone → Zone) : (s.modZone z g).links = s.links := rfl
@[simp] theorem State.modZone_dies (z : Nat) (g : Zone → Zone) : (s.modZone z g).dies = s.dies := rfl
@[simp] theorem State.modZone_time (z : Nat) (g : Zone → Zone) : (s.modZone z g).time = s.time := rfl
@[simp] theorem State.modZone_media (z : Nat) (g : Zone → Zone) : (s.modZone z g).media = s.media := rfl
@[simp] theorem State.modZone_clocks (z : Nat) (g : Zone → Zone) : (s.modZone z g).clocks = s.clocks := rfl
@[simp] theorem State.modZone_thermA (z : Nat) (g : Zone → Zone) : (s.modZone z g).thermA = s.thermA := rfl
@[simp] theorem State.modZone_thermB (z : Nat) (g : Zone → Zone) : (s.modZone z g).thermB = s.thermB := rfl
@[simp] theorem State.modZone_thermH (z : Nat) (g : Zone → Zone) : (s.modZone z g).thermH = s.thermH := rfl
@[simp] theorem State.modZone_budget (z : Nat) (g : Zone → Zone) : (s.modZone z g).budget = s.budget := rfl
@[simp] theorem State.modZone_firmware (z : Nat) (g : Zone → Zone) : (s.modZone z g).firmware = s.firmware := rfl
@[simp] theorem State.modZone_service (z : Nat) (g : Zone → Zone) : (s.modZone z g).service = s.service := rfl
@[simp] theorem State.modZone_out (z : Nat) (g : Zone → Zone) : (s.modZone z g).out = s.out := rfl
@[simp] theorem State.modZone_free (z : Nat) (g : Zone → Zone) : (s.modZone z g).free = s.free := rfl
theorem State.modZone_zone (z : Nat) (g : Zone → Zone) (z2 : Nat) :
    (s.modZone z g).zone z2 = if z2 = z then g (s.zone z) else s.zone z2 := Tbl.get_modify ..
@[simp] theorem State.modZone_zone_self (z : Nat) (g : Zone → Zone) : (s.modZone z g).zone z = g (s.zone z) := by
  simp [State.modZone_zone]

/-! ### `State.modFlash` -/

@[simp] theorem State.modFlash_pending (c : Nat) (g : Flash → Flash) : (s.modFlash c g).pending = s.pending := rfl
@[simp] theorem State.modFlash_hub (c : Nat) (g : Flash → Flash) : (s.modFlash c g).hub = s.hub := rfl
@[simp] theorem State.modFlash_plt (c : Nat) (g : Flash → Flash) : (s.modFlash c g).plt = s.plt := rfl
@[simp] theorem State.modFlash_queues (c : Nat) (g : Flash → Flash) : (s.modFlash c g).queues = s.queues := rfl
@[simp] theorem State.modFlash_links (c : Nat) (g : Flash → Flash) : (s.modFlash c g).links = s.links := rfl
@[simp] theorem State.modFlash_dies (c : Nat) (g : Flash → Flash) : (s.modFlash c g).dies = s.dies := rfl
@[simp] theorem State.modFlash_time (c : Nat) (g : Flash → Flash) : (s.modFlash c g).time = s.time := rfl
@[simp] theorem State.modFlash_media (c : Nat) (g : Flash → Flash) : (s.modFlash c g).media = s.media := rfl
@[simp] theorem State.modFlash_clocks (c : Nat) (g : Flash → Flash) : (s.modFlash c g).clocks = s.clocks := rfl
@[simp] theorem State.modFlash_thermA (c : Nat) (g : Flash → Flash) : (s.modFlash c g).thermA = s.thermA := rfl
@[simp] theorem State.modFlash_thermB (c : Nat) (g : Flash → Flash) : (s.modFlash c g).thermB = s.thermB := rfl
@[simp] theorem State.modFlash_thermH (c : Nat) (g : Flash → Flash) : (s.modFlash c g).thermH = s.thermH := rfl
@[simp] theorem State.modFlash_budget (c : Nat) (g : Flash → Flash) : (s.modFlash c g).budget = s.budget := rfl
@[simp] theorem State.modFlash_firmware (c : Nat) (g : Flash → Flash) : (s.modFlash c g).firmware = s.firmware := rfl
@[simp] theorem State.modFlash_service (c : Nat) (g : Flash → Flash) : (s.modFlash c g).service = s.service := rfl
@[simp] theorem State.modFlash_out (c : Nat) (g : Flash → Flash) : (s.modFlash c g).out = s.out := rfl
@[simp] theorem State.modFlash_free (c : Nat) (g : Flash → Flash) : (s.modFlash c g).free = s.free := rfl
theorem State.modFlash_flash (c : Nat) (g : Flash → Flash) (c2 : Nat) :
    (s.modFlash c g).flash c2 = if c2 = c then g (s.flash c) else s.flash c2 := Tbl.get_modify ..
@[simp] theorem State.modFlash_flash_self (c : Nat) (g : Flash → Flash) : (s.modFlash c g).flash c = g (s.flash c) := by
  simp [State.modFlash_flash]

/-! ### `State.modPort` -/

@[simp] theorem State.modPort_pending (p : Nat) (g : Port → Port) : (s.modPort p g).pending = s.pending := rfl
@[simp] theorem State.modPort_hub (p : Nat) (g : Port → Port) : (s.modPort p g).hub = s.hub := rfl
@[simp] theorem State.modPort_plt (p : Nat) (g : Port → Port) : (s.modPort p g).plt = s.plt := rfl
@[simp] theorem State.modPort_queues (p : Nat) (g : Port → Port) : (s.modPort p g).queues = s.queues := rfl
@[simp] theorem State.modPort_frames (p : Nat) (g : Port → Port) : (s.modPort p g).frames = s.frames := rfl
@[simp] theorem State.modPort_dies (p : Nat) (g : Port → Port) : (s.modPort p g).dies = s.dies := rfl
@[simp] theorem State.modPort_time (p : Nat) (g : Port → Port) : (s.modPort p g).time = s.time := rfl
@[simp] theorem State.modPort_media (p : Nat) (g : Port → Port) : (s.modPort p g).media = s.media := rfl
@[simp] theorem State.modPort_clocks (p : Nat) (g : Port → Port) : (s.modPort p g).clocks = s.clocks := rfl
@[simp] theorem State.modPort_thermA (p : Nat) (g : Port → Port) : (s.modPort p g).thermA = s.thermA := rfl
@[simp] theorem State.modPort_thermB (p : Nat) (g : Port → Port) : (s.modPort p g).thermB = s.thermB := rfl
@[simp] theorem State.modPort_thermH (p : Nat) (g : Port → Port) : (s.modPort p g).thermH = s.thermH := rfl
@[simp] theorem State.modPort_budget (p : Nat) (g : Port → Port) : (s.modPort p g).budget = s.budget := rfl
@[simp] theorem State.modPort_firmware (p : Nat) (g : Port → Port) : (s.modPort p g).firmware = s.firmware := rfl
@[simp] theorem State.modPort_service (p : Nat) (g : Port → Port) : (s.modPort p g).service = s.service := rfl
@[simp] theorem State.modPort_out (p : Nat) (g : Port → Port) : (s.modPort p g).out = s.out := rfl
@[simp] theorem State.modPort_free (p : Nat) (g : Port → Port) : (s.modPort p g).free = s.free := rfl
theorem State.modPort_port (p : Nat) (g : Port → Port) (p2 : Nat) :
    (s.modPort p g).port p2 = if p2 = p then g (s.port p) else s.port p2 := Tbl.get_modify ..
@[simp] theorem State.modPort_port_self (p : Nat) (g : Port → Port) : (s.modPort p g).port p = g (s.port p) := by
  simp [State.modPort_port]

/-! ### `State.modTile` -/

@[simp] theorem State.modTile_pending (t : Nat) (g : Tile → Tile) : (s.modTile t g).pending = s.pending := rfl
@[simp] theorem State.modTile_hub (t : Nat) (g : Tile → Tile) : (s.modTile t g).hub = s.hub := rfl
@[simp] theorem State.modTile_plt (t : Nat) (g : Tile → Tile) : (s.modTile t g).plt = s.plt := rfl
@[simp] theorem State.modTile_queues (t : Nat) (g : Tile → Tile) : (s.modTile t g).queues = s.queues := rfl
@[simp] theorem State.modTile_frames (t : Nat) (g : Tile → Tile) : (s.modTile t g).frames = s.frames := rfl
@[simp] theorem State.modTile_dies (t : Nat) (g : Tile → Tile) : (s.modTile t g).dies = s.dies := rfl
@[simp] theorem State.modTile_time (t : Nat) (g : Tile → Tile) : (s.modTile t g).time = s.time := rfl
@[simp] theorem State.modTile_media (t : Nat) (g : Tile → Tile) : (s.modTile t g).media = s.media := rfl
@[simp] theorem State.modTile_clocks (t : Nat) (g : Tile → Tile) : (s.modTile t g).clocks = s.clocks := rfl
@[simp] theorem State.modTile_thermA (t : Nat) (g : Tile → Tile) : (s.modTile t g).thermA = s.thermA := rfl
@[simp] theorem State.modTile_thermB (t : Nat) (g : Tile → Tile) : (s.modTile t g).thermB = s.thermB := rfl
@[simp] theorem State.modTile_thermH (t : Nat) (g : Tile → Tile) : (s.modTile t g).thermH = s.thermH := rfl
@[simp] theorem State.modTile_budget (t : Nat) (g : Tile → Tile) : (s.modTile t g).budget = s.budget := rfl
@[simp] theorem State.modTile_firmware (t : Nat) (g : Tile → Tile) : (s.modTile t g).firmware = s.firmware := rfl
@[simp] theorem State.modTile_service (t : Nat) (g : Tile → Tile) : (s.modTile t g).service = s.service := rfl
@[simp] theorem State.modTile_out (t : Nat) (g : Tile → Tile) : (s.modTile t g).out = s.out := rfl
@[simp] theorem State.modTile_free (t : Nat) (g : Tile → Tile) : (s.modTile t g).free = s.free := rfl
theorem State.modTile_tile (t : Nat) (g : Tile → Tile) (t2 : Nat) :
    (s.modTile t g).tile t2 = if t2 = t then g (s.tile t) else s.tile t2 := Tbl.get_modify ..
@[simp] theorem State.modTile_tile_self (t : Nat) (g : Tile → Tile) : (s.modTile t g).tile t = g (s.tile t) := by
  simp [State.modTile_tile]

/-! ### `State.modSap` -/

@[simp] theorem State.modSap_pending (n : Nat) (g : Sap → Sap) : (s.modSap n g).pending = s.pending := rfl
@[simp] theorem State.modSap_hub (n : Nat) (g : Sap → Sap) : (s.modSap n g).hub = s.hub := rfl
@[simp] theorem State.modSap_plt (n : Nat) (g : Sap → Sap) : (s.modSap n g).plt = s.plt := rfl
@[simp] theorem State.modSap_queues (n : Nat) (g : Sap → Sap) : (s.modSap n g).queues = s.queues := rfl
@[simp] theorem State.modSap_frames (n : Nat) (g : Sap → Sap) : (s.modSap n g).frames = s.frames := rfl
@[simp] theorem State.modSap_links (n : Nat) (g : Sap → Sap) : (s.modSap n g).links = s.links := rfl
@[simp] theorem State.modSap_dies (n : Nat) (g : Sap → Sap) : (s.modSap n g).dies = s.dies := rfl
@[simp] theorem State.modSap_time (n : Nat) (g : Sap → Sap) : (s.modSap n g).time = s.time := rfl
@[simp] theorem State.modSap_clocks (n : Nat) (g : Sap → Sap) : (s.modSap n g).clocks = s.clocks := rfl
@[simp] theorem State.modSap_thermA (n : Nat) (g : Sap → Sap) : (s.modSap n g).thermA = s.thermA := rfl
@[simp] theorem State.modSap_thermB (n : Nat) (g : Sap → Sap) : (s.modSap n g).thermB = s.thermB := rfl
@[simp] theorem State.modSap_thermH (n : Nat) (g : Sap → Sap) : (s.modSap n g).thermH = s.thermH := rfl
@[simp] theorem State.modSap_budget (n : Nat) (g : Sap → Sap) : (s.modSap n g).budget = s.budget := rfl
@[simp] theorem State.modSap_firmware (n : Nat) (g : Sap → Sap) : (s.modSap n g).firmware = s.firmware := rfl
@[simp] theorem State.modSap_service (n : Nat) (g : Sap → Sap) : (s.modSap n g).service = s.service := rfl
@[simp] theorem State.modSap_out (n : Nat) (g : Sap → Sap) : (s.modSap n g).out = s.out := rfl
@[simp] theorem State.modSap_free (n : Nat) (g : Sap → Sap) : (s.modSap n g).free = s.free := rfl
theorem State.modSap_sap (n : Nat) (g : Sap → Sap) (n2 : Nat) :
    (s.modSap n g).sap n2 = if n2 = n then g (s.sap n) else s.sap n2 := Tbl.get_modify ..
@[simp] theorem State.modSap_sap_self (n : Nat) (g : Sap → Sap) : (s.modSap n g).sap n = g (s.sap n) := by
  simp [State.modSap_sap]

/-! ### `State.modDec` -/

@[simp] theorem State.modDec_pending (n : Nat) (g : Dec → Dec) : (s.modDec n g).pending = s.pending := rfl
@[simp] theorem State.modDec_hub (n : Nat) (g : Dec → Dec) : (s.modDec n g).hub = s.hub := rfl
@[simp] theorem State.modDec_plt (n : Nat) (g : Dec → Dec) : (s.modDec n g).plt = s.plt := rfl
@[simp] theorem State.modDec_queues (n : Nat) (g : Dec → Dec) : (s.modDec n g).queues = s.queues := rfl
@[simp] theorem State.modDec_frames (n : Nat) (g : Dec → Dec) : (s.modDec n g).frames = s.frames := rfl
@[simp] theorem State.modDec_links (n : Nat) (g : Dec → Dec) : (s.modDec n g).links = s.links := rfl
@[simp] theorem State.modDec_dies (n : Nat) (g : Dec → Dec) : (s.modDec n g).dies = s.dies := rfl
@[simp] theorem State.modDec_time (n : Nat) (g : Dec → Dec) : (s.modDec n g).time = s.time := rfl
@[simp] theorem State.modDec_clocks (n : Nat) (g : Dec → Dec) : (s.modDec n g).clocks = s.clocks := rfl
@[simp] theorem State.modDec_thermA (n : Nat) (g : Dec → Dec) : (s.modDec n g).thermA = s.thermA := rfl
@[simp] theorem State.modDec_thermB (n : Nat) (g : Dec → Dec) : (s.modDec n g).thermB = s.thermB := rfl
@[simp] theorem State.modDec_thermH (n : Nat) (g : Dec → Dec) : (s.modDec n g).thermH = s.thermH := rfl
@[simp] theorem State.modDec_budget (n : Nat) (g : Dec → Dec) : (s.modDec n g).budget = s.budget := rfl
@[simp] theorem State.modDec_firmware (n : Nat) (g : Dec → Dec) : (s.modDec n g).firmware = s.firmware := rfl
@[simp] theorem State.modDec_service (n : Nat) (g : Dec → Dec) : (s.modDec n g).service = s.service := rfl
@[simp] theorem State.modDec_out (n : Nat) (g : Dec → Dec) : (s.modDec n g).out = s.out := rfl
@[simp] theorem State.modDec_free (n : Nat) (g : Dec → Dec) : (s.modDec n g).free = s.free := rfl
theorem State.modDec_dec (n : Nat) (g : Dec → Dec) (n2 : Nat) :
    (s.modDec n g).dec n2 = if n2 = n then g (s.dec n) else s.dec n2 := Tbl.get_modify ..
@[simp] theorem State.modDec_dec_self (n : Nat) (g : Dec → Dec) : (s.modDec n g).dec n = g (s.dec n) := by
  simp [State.modDec_dec]

/-! ### `State.modEnc` -/

@[simp] theorem State.modEnc_pending (n : Nat) (g : EncSt → EncSt) : (s.modEnc n g).pending = s.pending := rfl
@[simp] theorem State.modEnc_hub (n : Nat) (g : EncSt → EncSt) : (s.modEnc n g).hub = s.hub := rfl
@[simp] theorem State.modEnc_plt (n : Nat) (g : EncSt → EncSt) : (s.modEnc n g).plt = s.plt := rfl
@[simp] theorem State.modEnc_queues (n : Nat) (g : EncSt → EncSt) : (s.modEnc n g).queues = s.queues := rfl
@[simp] theorem State.modEnc_frames (n : Nat) (g : EncSt → EncSt) : (s.modEnc n g).frames = s.frames := rfl
@[simp] theorem State.modEnc_links (n : Nat) (g : EncSt → EncSt) : (s.modEnc n g).links = s.links := rfl
@[simp] theorem State.modEnc_dies (n : Nat) (g : EncSt → EncSt) : (s.modEnc n g).dies = s.dies := rfl
@[simp] theorem State.modEnc_time (n : Nat) (g : EncSt → EncSt) : (s.modEnc n g).time = s.time := rfl
@[simp] theorem State.modEnc_clocks (n : Nat) (g : EncSt → EncSt) : (s.modEnc n g).clocks = s.clocks := rfl
@[simp] theorem State.modEnc_thermA (n : Nat) (g : EncSt → EncSt) : (s.modEnc n g).thermA = s.thermA := rfl
@[simp] theorem State.modEnc_thermB (n : Nat) (g : EncSt → EncSt) : (s.modEnc n g).thermB = s.thermB := rfl
@[simp] theorem State.modEnc_thermH (n : Nat) (g : EncSt → EncSt) : (s.modEnc n g).thermH = s.thermH := rfl
@[simp] theorem State.modEnc_budget (n : Nat) (g : EncSt → EncSt) : (s.modEnc n g).budget = s.budget := rfl
@[simp] theorem State.modEnc_firmware (n : Nat) (g : EncSt → EncSt) : (s.modEnc n g).firmware = s.firmware := rfl
@[simp] theorem State.modEnc_service (n : Nat) (g : EncSt → EncSt) : (s.modEnc n g).service = s.service := rfl
@[simp] theorem State.modEnc_out (n : Nat) (g : EncSt → EncSt) : (s.modEnc n g).out = s.out := rfl
@[simp] theorem State.modEnc_free (n : Nat) (g : EncSt → EncSt) : (s.modEnc n g).free = s.free := rfl
theorem State.modEnc_enc (n : Nat) (g : EncSt → EncSt) (n2 : Nat) :
    (s.modEnc n g).enc n2 = if n2 = n then g (s.enc n) else s.enc n2 := Tbl.get_modify ..
@[simp] theorem State.modEnc_enc_self (n : Nat) (g : EncSt → EncSt) : (s.modEnc n g).enc n = g (s.enc n) := by
  simp [State.modEnc_enc]

/-! ### `State.modScrim` -/

@[simp] theorem State.modScrim_pending (d : DieId) (r : Nat) (g : Scrim → Scrim) : (s.modScrim d r g).pending = s.pending := rfl
@[simp] theorem State.modScrim_hub (d : DieId) (r : Nat) (g : Scrim → Scrim) : (s.modScrim d r g).hub = s.hub := rfl
@[simp] theorem State.modScrim_plt (d : DieId) (r : Nat) (g : Scrim → Scrim) : (s.modScrim d r g).plt = s.plt := rfl
@[simp] theorem State.modScrim_queues (d : DieId) (r : Nat) (g : Scrim → Scrim) : (s.modScrim d r g).queues = s.queues := rfl
@[simp] theorem State.modScrim_links (d : DieId) (r : Nat) (g : Scrim → Scrim) : (s.modScrim d r g).links = s.links := rfl
@[simp] theorem State.modScrim_dies (d : DieId) (r : Nat) (g : Scrim → Scrim) : (s.modScrim d r g).dies = s.dies := rfl
@[simp] theorem State.modScrim_time (d : DieId) (r : Nat) (g : Scrim → Scrim) : (s.modScrim d r g).time = s.time := rfl
@[simp] theorem State.modScrim_media (d : DieId) (r : Nat) (g : Scrim → Scrim) : (s.modScrim d r g).media = s.media := rfl
@[simp] theorem State.modScrim_clocks (d : DieId) (r : Nat) (g : Scrim → Scrim) : (s.modScrim d r g).clocks = s.clocks := rfl
@[simp] theorem State.modScrim_thermA (d : DieId) (r : Nat) (g : Scrim → Scrim) : (s.modScrim d r g).thermA = s.thermA := rfl
@[simp] theorem State.modScrim_thermB (d : DieId) (r : Nat) (g : Scrim → Scrim) : (s.modScrim d r g).thermB = s.thermB := rfl
@[simp] theorem State.modScrim_thermH (d : DieId) (r : Nat) (g : Scrim → Scrim) : (s.modScrim d r g).thermH = s.thermH := rfl
@[simp] theorem State.modScrim_budget (d : DieId) (r : Nat) (g : Scrim → Scrim) : (s.modScrim d r g).budget = s.budget := rfl
@[simp] theorem State.modScrim_firmware (d : DieId) (r : Nat) (g : Scrim → Scrim) : (s.modScrim d r g).firmware = s.firmware := rfl
@[simp] theorem State.modScrim_service (d : DieId) (r : Nat) (g : Scrim → Scrim) : (s.modScrim d r g).service = s.service := rfl
@[simp] theorem State.modScrim_out (d : DieId) (r : Nat) (g : Scrim → Scrim) : (s.modScrim d r g).out = s.out := rfl
@[simp] theorem State.modScrim_free (d : DieId) (r : Nat) (g : Scrim → Scrim) : (s.modScrim d r g).free = s.free := rfl

/-! ### `State.modHop` -/

@[simp] theorem State.modHop_pending (p pos : Nat) (g : Hop → Hop) : (s.modHop p pos g).pending = s.pending := rfl
@[simp] theorem State.modHop_hub (p pos : Nat) (g : Hop → Hop) : (s.modHop p pos g).hub = s.hub := rfl
@[simp] theorem State.modHop_plt (p pos : Nat) (g : Hop → Hop) : (s.modHop p pos g).plt = s.plt := rfl
@[simp] theorem State.modHop_queues (p pos : Nat) (g : Hop → Hop) : (s.modHop p pos g).queues = s.queues := rfl
@[simp] theorem State.modHop_frames (p pos : Nat) (g : Hop → Hop) : (s.modHop p pos g).frames = s.frames := rfl
@[simp] theorem State.modHop_dies (p pos : Nat) (g : Hop → Hop) : (s.modHop p pos g).dies = s.dies := rfl
@[simp] theorem State.modHop_time (p pos : Nat) (g : Hop → Hop) : (s.modHop p pos g).time = s.time := rfl
@[simp] theorem State.modHop_media (p pos : Nat) (g : Hop → Hop) : (s.modHop p pos g).media = s.media := rfl
@[simp] theorem State.modHop_clocks (p pos : Nat) (g : Hop → Hop) : (s.modHop p pos g).clocks = s.clocks := rfl
@[simp] theorem State.modHop_thermA (p pos : Nat) (g : Hop → Hop) : (s.modHop p pos g).thermA = s.thermA := rfl
@[simp] theorem State.modHop_thermB (p pos : Nat) (g : Hop → Hop) : (s.modHop p pos g).thermB = s.thermB := rfl
@[simp] theorem State.modHop_thermH (p pos : Nat) (g : Hop → Hop) : (s.modHop p pos g).thermH = s.thermH := rfl
@[simp] theorem State.modHop_budget (p pos : Nat) (g : Hop → Hop) : (s.modHop p pos g).budget = s.budget := rfl
@[simp] theorem State.modHop_firmware (p pos : Nat) (g : Hop → Hop) : (s.modHop p pos g).firmware = s.firmware := rfl
@[simp] theorem State.modHop_service (p pos : Nat) (g : Hop → Hop) : (s.modHop p pos g).service = s.service := rfl
@[simp] theorem State.modHop_out (p pos : Nat) (g : Hop → Hop) : (s.modHop p pos g).out = s.out := rfl
@[simp] theorem State.modHop_free (p pos : Nat) (g : Hop → Hop) : (s.modHop p pos g).free = s.free := rfl

/-! ### `State.modTwin` -/

@[simp] theorem State.modTwin_pending (g : Twin → Twin) : (s.modTwin g).pending = s.pending := rfl
@[simp] theorem State.modTwin_hub (g : Twin → Twin) : (s.modTwin g).hub = s.hub := rfl
@[simp] theorem State.modTwin_plt (g : Twin → Twin) : (s.modTwin g).plt = s.plt := rfl
@[simp] theorem State.modTwin_queues (g : Twin → Twin) : (s.modTwin g).queues = s.queues := rfl
@[simp] theorem State.modTwin_frames (g : Twin → Twin) : (s.modTwin g).frames = s.frames := rfl
@[simp] theorem State.modTwin_links (g : Twin → Twin) : (s.modTwin g).links = s.links := rfl
@[simp] theorem State.modTwin_time (g : Twin → Twin) : (s.modTwin g).time = s.time := rfl
@[simp] theorem State.modTwin_media (g : Twin → Twin) : (s.modTwin g).media = s.media := rfl
@[simp] theorem State.modTwin_clocks (g : Twin → Twin) : (s.modTwin g).clocks = s.clocks := rfl
@[simp] theorem State.modTwin_thermA (g : Twin → Twin) : (s.modTwin g).thermA = s.thermA := rfl
@[simp] theorem State.modTwin_thermB (g : Twin → Twin) : (s.modTwin g).thermB = s.thermB := rfl
@[simp] theorem State.modTwin_thermH (g : Twin → Twin) : (s.modTwin g).thermH = s.thermH := rfl
@[simp] theorem State.modTwin_budget (g : Twin → Twin) : (s.modTwin g).budget = s.budget := rfl
@[simp] theorem State.modTwin_firmware (g : Twin → Twin) : (s.modTwin g).firmware = s.firmware := rfl
@[simp] theorem State.modTwin_service (g : Twin → Twin) : (s.modTwin g).service = s.service := rfl
@[simp] theorem State.modTwin_out (g : Twin → Twin) : (s.modTwin g).out = s.out := rfl
@[simp] theorem State.modTwin_free (g : Twin → Twin) : (s.modTwin g).free = s.free := rfl

/-! ### `State.modChan` -/

@[simp] theorem State.modChan_pending (d : Die3) (ch : Nat) (g : Chan → Chan) : (s.modChan d ch g).pending = s.pending := rfl
@[simp] theorem State.modChan_hub (d : Die3) (ch : Nat) (g : Chan → Chan) : (s.modChan d ch g).hub = s.hub := rfl
@[simp] theorem State.modChan_plt (d : Die3) (ch : Nat) (g : Chan → Chan) : (s.modChan d ch g).plt = s.plt := rfl
@[simp] theorem State.modChan_queues (d : Die3) (ch : Nat) (g : Chan → Chan) : (s.modChan d ch g).queues = s.queues := rfl
@[simp] theorem State.modChan_frames (d : Die3) (ch : Nat) (g : Chan → Chan) : (s.modChan d ch g).frames = s.frames := rfl
@[simp] theorem State.modChan_links (d : Die3) (ch : Nat) (g : Chan → Chan) : (s.modChan d ch g).links = s.links := rfl
@[simp] theorem State.modChan_dies (d : Die3) (ch : Nat) (g : Chan → Chan) : (s.modChan d ch g).dies = s.dies := rfl
@[simp] theorem State.modChan_time (d : Die3) (ch : Nat) (g : Chan → Chan) : (s.modChan d ch g).time = s.time := rfl
@[simp] theorem State.modChan_media (d : Die3) (ch : Nat) (g : Chan → Chan) : (s.modChan d ch g).media = s.media := rfl
@[simp] theorem State.modChan_thermA (d : Die3) (ch : Nat) (g : Chan → Chan) : (s.modChan d ch g).thermA = s.thermA := rfl
@[simp] theorem State.modChan_thermB (d : Die3) (ch : Nat) (g : Chan → Chan) : (s.modChan d ch g).thermB = s.thermB := rfl
@[simp] theorem State.modChan_thermH (d : Die3) (ch : Nat) (g : Chan → Chan) : (s.modChan d ch g).thermH = s.thermH := rfl
@[simp] theorem State.modChan_budget (d : Die3) (ch : Nat) (g : Chan → Chan) : (s.modChan d ch g).budget = s.budget := rfl
@[simp] theorem State.modChan_firmware (d : Die3) (ch : Nat) (g : Chan → Chan) : (s.modChan d ch g).firmware = s.firmware := rfl
@[simp] theorem State.modChan_service (d : Die3) (ch : Nat) (g : Chan → Chan) : (s.modChan d ch g).service = s.service := rfl
@[simp] theorem State.modChan_out (d : Die3) (ch : Nat) (g : Chan → Chan) : (s.modChan d ch g).out = s.out := rfl
@[simp] theorem State.modChan_free (d : Die3) (ch : Nat) (g : Chan → Chan) : (s.modChan d ch g).free = s.free := rfl

/-! ### `State.modGate` -/

@[simp] theorem State.modGate_pending (x : GateId) (g : Gate → Gate) : (s.modGate x g).pending = s.pending := rfl
@[simp] theorem State.modGate_hub (x : GateId) (g : Gate → Gate) : (s.modGate x g).hub = s.hub := rfl
@[simp] theorem State.modGate_plt (x : GateId) (g : Gate → Gate) : (s.modGate x g).plt = s.plt := rfl
@[simp] theorem State.modGate_queues (x : GateId) (g : Gate → Gate) : (s.modGate x g).queues = s.queues := rfl
@[simp] theorem State.modGate_frames (x : GateId) (g : Gate → Gate) : (s.modGate x g).frames = s.frames := rfl
@[simp] theorem State.modGate_links (x : GateId) (g : Gate → Gate) : (s.modGate x g).links = s.links := rfl
@[simp] theorem State.modGate_dies (x : GateId) (g : Gate → Gate) : (s.modGate x g).dies = s.dies := rfl
@[simp] theorem State.modGate_time (x : GateId) (g : Gate → Gate) : (s.modGate x g).time = s.time := rfl
@[simp] theorem State.modGate_media (x : GateId) (g : Gate → Gate) : (s.modGate x g).media = s.media := rfl
@[simp] theorem State.modGate_thermA (x : GateId) (g : Gate → Gate) : (s.modGate x g).thermA = s.thermA := rfl
@[simp] theorem State.modGate_thermB (x : GateId) (g : Gate → Gate) : (s.modGate x g).thermB = s.thermB := rfl
@[simp] theorem State.modGate_thermH (x : GateId) (g : Gate → Gate) : (s.modGate x g).thermH = s.thermH := rfl
@[simp] theorem State.modGate_budget (x : GateId) (g : Gate → Gate) : (s.modGate x g).budget = s.budget := rfl
@[simp] theorem State.modGate_firmware (x : GateId) (g : Gate → Gate) : (s.modGate x g).firmware = s.firmware := rfl
@[simp] theorem State.modGate_service (x : GateId) (g : Gate → Gate) : (s.modGate x g).service = s.service := rfl
@[simp] theorem State.modGate_out (x : GateId) (g : Gate → Gate) : (s.modGate x g).out = s.out := rfl
@[simp] theorem State.modGate_free (x : GateId) (g : Gate → Gate) : (s.modGate x g).free = s.free := rfl

/-! ### `State.modCal` -/

@[simp] theorem State.modCal_pending (i : CalItem) (g : CalSt → CalSt) : (s.modCal i g).pending = s.pending := rfl
@[simp] theorem State.modCal_hub (i : CalItem) (g : CalSt → CalSt) : (s.modCal i g).hub = s.hub := rfl
@[simp] theorem State.modCal_plt (i : CalItem) (g : CalSt → CalSt) : (s.modCal i g).plt = s.plt := rfl
@[simp] theorem State.modCal_queues (i : CalItem) (g : CalSt → CalSt) : (s.modCal i g).queues = s.queues := rfl
@[simp] theorem State.modCal_frames (i : CalItem) (g : CalSt → CalSt) : (s.modCal i g).frames = s.frames := rfl
@[simp] theorem State.modCal_links (i : CalItem) (g : CalSt → CalSt) : (s.modCal i g).links = s.links := rfl
@[simp] theorem State.modCal_dies (i : CalItem) (g : CalSt → CalSt) : (s.modCal i g).dies = s.dies := rfl
@[simp] theorem State.modCal_time (i : CalItem) (g : CalSt → CalSt) : (s.modCal i g).time = s.time := rfl
@[simp] theorem State.modCal_media (i : CalItem) (g : CalSt → CalSt) : (s.modCal i g).media = s.media := rfl
@[simp] theorem State.modCal_clocks (i : CalItem) (g : CalSt → CalSt) : (s.modCal i g).clocks = s.clocks := rfl
@[simp] theorem State.modCal_thermA (i : CalItem) (g : CalSt → CalSt) : (s.modCal i g).thermA = s.thermA := rfl
@[simp] theorem State.modCal_thermB (i : CalItem) (g : CalSt → CalSt) : (s.modCal i g).thermB = s.thermB := rfl
@[simp] theorem State.modCal_thermH (i : CalItem) (g : CalSt → CalSt) : (s.modCal i g).thermH = s.thermH := rfl
@[simp] theorem State.modCal_budget (i : CalItem) (g : CalSt → CalSt) : (s.modCal i g).budget = s.budget := rfl
@[simp] theorem State.modCal_firmware (i : CalItem) (g : CalSt → CalSt) : (s.modCal i g).firmware = s.firmware := rfl
@[simp] theorem State.modCal_out (i : CalItem) (g : CalSt → CalSt) : (s.modCal i g).out = s.out := rfl
@[simp] theorem State.modCal_free (i : CalItem) (g : CalSt → CalSt) : (s.modCal i g).free = s.free := rfl

/-! ### `State.modNsp` -/

@[simp] theorem State.modNsp_pending (n : Nat) (g : Nsp → Nsp) : (s.modNsp n g).pending = s.pending := rfl
@[simp] theorem State.modNsp_hub (n : Nat) (g : Nsp → Nsp) : (s.modNsp n g).hub = s.hub := rfl
@[simp] theorem State.modNsp_plt (n : Nat) (g : Nsp → Nsp) : (s.modNsp n g).plt = s.plt := rfl
@[simp] theorem State.modNsp_queues (n : Nat) (g : Nsp → Nsp) : (s.modNsp n g).queues = s.queues := rfl
@[simp] theorem State.modNsp_frames (n : Nat) (g : Nsp → Nsp) : (s.modNsp n g).frames = s.frames := rfl
@[simp] theorem State.modNsp_links (n : Nat) (g : Nsp → Nsp) : (s.modNsp n g).links = s.links := rfl
@[simp] theorem State.modNsp_dies (n : Nat) (g : Nsp → Nsp) : (s.modNsp n g).dies = s.dies := rfl
@[simp] theorem State.modNsp_time (n : Nat) (g : Nsp → Nsp) : (s.modNsp n g).time = s.time := rfl
@[simp] theorem State.modNsp_media (n : Nat) (g : Nsp → Nsp) : (s.modNsp n g).media = s.media := rfl
@[simp] theorem State.modNsp_clocks (n : Nat) (g : Nsp → Nsp) : (s.modNsp n g).clocks = s.clocks := rfl
@[simp] theorem State.modNsp_thermA (n : Nat) (g : Nsp → Nsp) : (s.modNsp n g).thermA = s.thermA := rfl
@[simp] theorem State.modNsp_thermB (n : Nat) (g : Nsp → Nsp) : (s.modNsp n g).thermB = s.thermB := rfl
@[simp] theorem State.modNsp_thermH (n : Nat) (g : Nsp → Nsp) : (s.modNsp n g).thermH = s.thermH := rfl
@[simp] theorem State.modNsp_budget (n : Nat) (g : Nsp → Nsp) : (s.modNsp n g).budget = s.budget := rfl
@[simp] theorem State.modNsp_firmware (n : Nat) (g : Nsp → Nsp) : (s.modNsp n g).firmware = s.firmware := rfl
@[simp] theorem State.modNsp_out (n : Nat) (g : Nsp → Nsp) : (s.modNsp n g).out = s.out := rfl
@[simp] theorem State.modNsp_free (n : Nat) (g : Nsp → Nsp) : (s.modNsp n g).free = s.free := rfl

/-! ### `State.modDie` -/

@[simp] theorem State.modDie_pending (d : DieId) (g : Die → Die) : (s.modDie d g).pending = s.pending := by cases d <;> rfl
@[simp] theorem State.modDie_hub (d : DieId) (g : Die → Die) : (s.modDie d g).hub = s.hub := by cases d <;> rfl
@[simp] theorem State.modDie_plt (d : DieId) (g : Die → Die) : (s.modDie d g).plt = s.plt := by cases d <;> rfl
@[simp] theorem State.modDie_queues (d : DieId) (g : Die → Die) : (s.modDie d g).queues = s.queues := by cases d <;> rfl
@[simp] theorem State.modDie_frames (d : DieId) (g : Die → Die) : (s.modDie d g).frames = s.frames := by cases d <;> rfl
@[simp] theorem State.modDie_links (d : DieId) (g : Die → Die) : (s.modDie d g).links = s.links := by cases d <;> rfl
@[simp] theorem State.modDie_time (d : DieId) (g : Die → Die) : (s.modDie d g).time = s.time := by cases d <;> rfl
@[simp] theorem State.modDie_media (d : DieId) (g : Die → Die) : (s.modDie d g).media = s.media := by cases d <;> rfl
@[simp] theorem State.modDie_clocks (d : DieId) (g : Die → Die) : (s.modDie d g).clocks = s.clocks := by cases d <;> rfl
@[simp] theorem State.modDie_thermA (d : DieId) (g : Die → Die) : (s.modDie d g).thermA = s.thermA := by cases d <;> rfl
@[simp] theorem State.modDie_thermB (d : DieId) (g : Die → Die) : (s.modDie d g).thermB = s.thermB := by cases d <;> rfl
@[simp] theorem State.modDie_thermH (d : DieId) (g : Die → Die) : (s.modDie d g).thermH = s.thermH := by cases d <;> rfl
@[simp] theorem State.modDie_budget (d : DieId) (g : Die → Die) : (s.modDie d g).budget = s.budget := by cases d <;> rfl
@[simp] theorem State.modDie_firmware (d : DieId) (g : Die → Die) : (s.modDie d g).firmware = s.firmware := by cases d <;> rfl
@[simp] theorem State.modDie_service (d : DieId) (g : Die → Die) : (s.modDie d g).service = s.service := by cases d <;> rfl
@[simp] theorem State.modDie_out (d : DieId) (g : Die → Die) : (s.modDie d g).out = s.out := by cases d <;> rfl
@[simp] theorem State.modDie_free (d : DieId) (g : Die → Die) : (s.modDie d g).free = s.free := by cases d <;> rfl

/-! ### `State.modCluster` -/

@[simp] theorem State.modCluster_pending (d : DieId) (c : Nat) (g : Cluster → Cluster) : (s.modCluster d c g).pending = s.pending := by cases d <;> rfl
@[simp] theorem State.modCluster_hub (d : DieId) (c : Nat) (g : Cluster → Cluster) : (s.modCluster d c g).hub = s.hub := by cases d <;> rfl
@[simp] theorem State.modCluster_plt (d : DieId) (c : Nat) (g : Cluster → Cluster) : (s.modCluster d c g).plt = s.plt := by cases d <;> rfl
@[simp] theorem State.modCluster_queues (d : DieId) (c : Nat) (g : Cluster → Cluster) : (s.modCluster d c g).queues = s.queues := by cases d <;> rfl
@[simp] theorem State.modCluster_frames (d : DieId) (c : Nat) (g : Cluster → Cluster) : (s.modCluster d c g).frames = s.frames := by cases d <;> rfl
@[simp] theorem State.modCluster_links (d : DieId) (c : Nat) (g : Cluster → Cluster) : (s.modCluster d c g).links = s.links := by cases d <;> rfl
@[simp] theorem State.modCluster_time (d : DieId) (c : Nat) (g : Cluster → Cluster) : (s.modCluster d c g).time = s.time := by cases d <;> rfl
@[simp] theorem State.modCluster_media (d : DieId) (c : Nat) (g : Cluster → Cluster) : (s.modCluster d c g).media = s.media := by cases d <;> rfl
@[simp] theorem State.modCluster_clocks (d : DieId) (c : Nat) (g : Cluster → Cluster) : (s.modCluster d c g).clocks = s.clocks := by cases d <;> rfl
@[simp] theorem State.modCluster_thermA (d : DieId) (c : Nat) (g : Cluster → Cluster) : (s.modCluster d c g).thermA = s.thermA := by cases d <;> rfl
@[simp] theorem State.modCluster_thermB (d : DieId) (c : Nat) (g : Cluster → Cluster) : (s.modCluster d c g).thermB = s.thermB := by cases d <;> rfl
@[simp] theorem State.modCluster_thermH (d : DieId) (c : Nat) (g : Cluster → Cluster) : (s.modCluster d c g).thermH = s.thermH := by cases d <;> rfl
@[simp] theorem State.modCluster_budget (d : DieId) (c : Nat) (g : Cluster → Cluster) : (s.modCluster d c g).budget = s.budget := by cases d <;> rfl
@[simp] theorem State.modCluster_firmware (d : DieId) (c : Nat) (g : Cluster → Cluster) : (s.modCluster d c g).firmware = s.firmware := by cases d <;> rfl
@[simp] theorem State.modCluster_service (d : DieId) (c : Nat) (g : Cluster → Cluster) : (s.modCluster d c g).service = s.service := by cases d <;> rfl
@[simp] theorem State.modCluster_out (d : DieId) (c : Nat) (g : Cluster → Cluster) : (s.modCluster d c g).out = s.out := by cases d <;> rfl
@[simp] theorem State.modCluster_free (d : DieId) (c : Nat) (g : Cluster → Cluster) : (s.modCluster d c g).free = s.free := by cases d <;> rfl

/-! ### `State.modRegion` -/

@[simp] theorem State.modRegion_pending (d : DieId) (r : Nat) (g : Region → Region) : (s.modRegion d r g).pending = s.pending := by cases d <;> rfl
@[simp] theorem State.modRegion_hub (d : DieId) (r : Nat) (g : Region → Region) : (s.modRegion d r g).hub = s.hub := by cases d <;> rfl
@[simp] theorem State.modRegion_plt (d : DieId) (r : Nat) (g : Region → Region) : (s.modRegion d r g).plt = s.plt := by cases d <;> rfl
@[simp] theorem State.modRegion_queues (d : DieId) (r : Nat) (g : Region → Region) : (s.modRegion d r g).queues = s.queues := by cases d <;> rfl
@[simp] theorem State.modRegion_frames (d : DieId) (r : Nat) (g : Region → Region) : (s.modRegion d r g).frames = s.frames := by cases d <;> rfl
@[simp] theorem State.modRegion_links (d : DieId) (r : Nat) (g : Region → Region) : (s.modRegion d r g).links = s.links := by cases d <;> rfl
@[simp] theorem State.modRegion_time (d : DieId) (r : Nat) (g : Region → Region) : (s.modRegion d r g).time = s.time := by cases d <;> rfl
@[simp] theorem State.modRegion_media (d : DieId) (r : Nat) (g : Region → Region) : (s.modRegion d r g).media = s.media := by cases d <;> rfl
@[simp] theorem State.modRegion_clocks (d : DieId) (r : Nat) (g : Region → Region) : (s.modRegion d r g).clocks = s.clocks := by cases d <;> rfl
@[simp] theorem State.modRegion_thermA (d : DieId) (r : Nat) (g : Region → Region) : (s.modRegion d r g).thermA = s.thermA := by cases d <;> rfl
@[simp] theorem State.modRegion_thermB (d : DieId) (r : Nat) (g : Region → Region) : (s.modRegion d r g).thermB = s.thermB := by cases d <;> rfl
@[simp] theorem State.modRegion_thermH (d : DieId) (r : Nat) (g : Region → Region) : (s.modRegion d r g).thermH = s.thermH := by cases d <;> rfl
@[simp] theorem State.modRegion_budget (d : DieId) (r : Nat) (g : Region → Region) : (s.modRegion d r g).budget = s.budget := by cases d <;> rfl
@[simp] theorem State.modRegion_firmware (d : DieId) (r : Nat) (g : Region → Region) : (s.modRegion d r g).firmware = s.firmware := by cases d <;> rfl
@[simp] theorem State.modRegion_service (d : DieId) (r : Nat) (g : Region → Region) : (s.modRegion d r g).service = s.service := by cases d <;> rfl
@[simp] theorem State.modRegion_out (d : DieId) (r : Nat) (g : Region → Region) : (s.modRegion d r g).out = s.out := by cases d <;> rfl
@[simp] theorem State.modRegion_free (d : DieId) (r : Nat) (g : Region → Region) : (s.modRegion d r g).free = s.free := by cases d <;> rfl

/-! ### `State.modOp` -/

@[simp] theorem State.modOp_pending (d : DieId) (g : OpState → OpState) : (s.modOp d g).pending = s.pending := by cases d <;> rfl
@[simp] theorem State.modOp_hub (d : DieId) (g : OpState → OpState) : (s.modOp d g).hub = s.hub := by cases d <;> rfl
@[simp] theorem State.modOp_plt (d : DieId) (g : OpState → OpState) : (s.modOp d g).plt = s.plt := by cases d <;> rfl
@[simp] theorem State.modOp_queues (d : DieId) (g : OpState → OpState) : (s.modOp d g).queues = s.queues := by cases d <;> rfl
@[simp] theorem State.modOp_frames (d : DieId) (g : OpState → OpState) : (s.modOp d g).frames = s.frames := by cases d <;> rfl
@[simp] theorem State.modOp_links (d : DieId) (g : OpState → OpState) : (s.modOp d g).links = s.links := by cases d <;> rfl
@[simp] theorem State.modOp_dies (d : DieId) (g : OpState → OpState) : (s.modOp d g).dies = s.dies := by cases d <;> rfl
@[simp] theorem State.modOp_time (d : DieId) (g : OpState → OpState) : (s.modOp d g).time = s.time := by cases d <;> rfl
@[simp] theorem State.modOp_media (d : DieId) (g : OpState → OpState) : (s.modOp d g).media = s.media := by cases d <;> rfl
@[simp] theorem State.modOp_thermA (d : DieId) (g : OpState → OpState) : (s.modOp d g).thermA = s.thermA := by cases d <;> rfl
@[simp] theorem State.modOp_thermB (d : DieId) (g : OpState → OpState) : (s.modOp d g).thermB = s.thermB := by cases d <;> rfl
@[simp] theorem State.modOp_thermH (d : DieId) (g : OpState → OpState) : (s.modOp d g).thermH = s.thermH := by cases d <;> rfl
@[simp] theorem State.modOp_budget (d : DieId) (g : OpState → OpState) : (s.modOp d g).budget = s.budget := by cases d <;> rfl
@[simp] theorem State.modOp_firmware (d : DieId) (g : OpState → OpState) : (s.modOp d g).firmware = s.firmware := by cases d <;> rfl
@[simp] theorem State.modOp_service (d : DieId) (g : OpState → OpState) : (s.modOp d g).service = s.service := by cases d <;> rfl
@[simp] theorem State.modOp_out (d : DieId) (g : OpState → OpState) : (s.modOp d g).out = s.out := by cases d <;> rfl
@[simp] theorem State.modOp_free (d : DieId) (g : OpState → OpState) : (s.modOp d g).free = s.free := by cases d <;> rfl

/-! ### Reading a die, an operating point, a session -/

@[simp] theorem State.modDie_die (d e : DieId) (g : Die → Die) : (s.modDie d g).die e = if e = d then g (s.die d) else s.die e := by
  cases d <;> cases e <;> rfl
@[simp] theorem State.modDie_twin (d : DieId) (g : Die → Die) : (s.modDie d g).dies.twin = s.dies.twin := by cases d <;> rfl
@[simp] theorem State.modTwin_die (g : Twin → Twin) (d : DieId) : (s.modTwin g).die d = s.die d := by cases d <;> rfl
@[simp] theorem State.modTwin_twin (g : Twin → Twin) : (s.modTwin g).dies.twin = g s.dies.twin := rfl
@[simp] theorem State.modOp_op (d e : DieId) (g : OpState → OpState) :
    (s.modOp d g).opState e = if e = d then g (s.opState d) else s.opState e := by cases d <;> cases e <;> rfl
theorem State.modNsp_nsp (n m : Nat) (g : Nsp → Nsp) :
    (s.modNsp n g).nsp m = if (m = 0 ↔ n = 0) then g (s.nsp n) else s.nsp m := by
  by_cases h : n = 0 <;> by_cases h2 : m = 0 <;> simp [State.modNsp, State.nsp, h, h2]

/-! ### `State.each` -/

variable {s}

/-- What every step of a run over a list keeps, the run keeps. -/
theorem State.each_keeps {α β : Type} (p : State → β) (l : List α) (f : State → α → State) (h : ∀ s x, p (f s x) = p s) :
    p (s.each l f) = p s := by
  unfold State.each
  induction l generalizing s with
  | nil => rfl
  | cons x t ih => rw [List.foldl_cons, ih, h]

/-- What every step of a run over a list preserves, the run preserves. -/
theorem State.each_preserves {α : Type} (P : State → Prop) (l : List α) (f : State → α → State) (h : ∀ s x, P s → P (f s x)) (hs : P s) :
    P (s.each l f) := by
  unfold State.each
  induction l generalizing s with
  | nil => exact hs
  | cons x t ih => exact ih (h s x hs)

end Sys2Proof.Machine
end

