-- ==== Sys2Proof/Tests/Slice0.lean ====
section
/-! SUPPORT. Tests of the model: ill-formed terms that the well-formedness check refuses, worked examples of the spec, and for every
statement states and operands that meet its hypotheses (the service port's session 0 sends the requests). -/

open Sys2Proof Sys2Proof.Machine

namespace Sys2Proof.Tests

set_option Elab.async false

/-- A request of the service port with opcode `op` and the payload `ws`. -/
def req (op : Nat) (ws : List Word) : Req := ⟨64, BitVec.ofNat 64 (op + ws.length * 2 ^ 48), ws⟩

/-- A request of the service port that carries the opcode of `op`. -/
def ask (op : JcsOp) (ws : List Word) : Req := req op.opcode ws

/-- The device at STAGE 6 with session 0 of the service port open and nothing else done; the request being processed came at time 0. -/
def up : State := { hub := { stage := .ready, reqAt := some 0 }, service := { nsp0 := { isOpen := true } } }

/-- The same with link 0 up, so that function 0 is in use. -/
def host : State := { up with hub := { up.hub with mode := .twin, links := [(0, { state := .up, perst := false })] } }

/-- The conditions of `Served` for a request of the service port with nothing waiting, as one check. -/
def servedB (op : JcsOp) (r : Req) (s : State) : Bool :=
  decide (r.opcode = op.opcode) && decide (r.src = 64) && s.serves r && s.hub.accepted.isEmpty && decide (r.len ≠ 0xFFFF) &&
    decide (s.hub.stage = .ready) && decide (inFlight (s.func 64) < 16) && decide (s.hub.reqAt = some s.wall)

theorem served_of {op : JcsOp} {r : Req} {s : State} (h : servedB op r s = true) : Served op r s s := by
  simp only [servedB, Bool.and_eq_true, decide_eq_true_eq, List.isEmpty_iff] at h
  obtain ⟨⟨⟨⟨⟨⟨⟨h1, h2⟩, h3⟩, h4⟩, h5⟩, h6⟩, h7⟩, h8⟩ := h
  have h9 : s.nextRequest = none := by simp [State.nextRequest, h4]
  have h10 : s.modHub (fun h => { h with reqAt := some s.wall }) = s := by rw [← h8]; rfl
  refine ⟨h1, ?_, h5, fun h => ?_, ?_, fun _ => ?_⟩
  · simp [takeRequest, h3, h9, h2, h10]
  · rw [h6] at h; cases h
  · simp [entitled, Req.who, h2]
  · simpa [Req.who, h2] using h7

/-- `s` with ring `g` being `x`. -/
def withRing (s : State) (g : Nat) (x : Ring) : State := s.modRing g fun _ => x
/-- Ring 0 is a COMPLETION ring of 16 entries and ring 1 a source ring that feeds it. -/
def rings (a b : RingState) : State :=
  withRing (withRing up 0 { state := a, type := 3, log2size := 4 }) 1 { state := b, type := 1, log2size := 4, cring := 0 }
/-- The request's word 0 for ring `i` of type `t` with `2 ^ n` entries, feeding ring 0. -/
def ringWord (i t n : Nat) : Word := put i 12 0 ||| put t 4 12 ||| put n 5 16

/-- A configuration of 1,920 × 1,080 pixels at the rate `code` without tiles: the least that R101 lets pass. -/
def plain (code : Nat) : CanvasCfg :=
  { cfg := [put code 5 3 ||| put 1920 16 16 ||| put 1080 16 32, 1000, 0, 4] }
/-- `s` with canvas `c` being `x`. -/
def withCanvas (s : State) (c : Nat) (x : Canvas) : State := s.modCanvas c fun _ => x
/-- POWER state RUN. -/
def run : State := { up with clocks := { up.clocks with power := .run } }
/-- POWER state SLEEP. -/
def sleeping : State := { up with clocks := { up.clocks with power := .sleep } }
/-- `s` with tile `t` being `x`. -/
def withTile (s : State) (t : Nat) (x : Tile) : State := s.modTile t fun _ => x
/-- Tile 7 is mapped to port 3, position 1, and assigned; `x` adds to it. -/
def mapped (x : Tile) : State := withTile run 7 { x with map := some ⟨3, 1, 0⟩, assigned := true }
/-- A PREFS transaction of tile 7 on port 3, not committed. -/
def txn (x : Txn → Txn) : Txn :=
  x ⟨5, 3, .prefs, none, 64, some 0, [7], [(7, 4, [600])], 0, 0, 0, false, false, [], [], [], false, true, 0⟩
/-- The device with that transaction. -/
def withTxn (x : Txn → Txn) : State := (mapped {}).modLinks fun l => { l with txns := [txn x] }
def status : StatusRec := ⟨[1, 2, 3, 4, 5, 6], 9, 0⟩
/-- Tile 7 with a raster of 128 × 64 pixels. -/
def place7 : Placement := ⟨put 7 9 0 ||| put 128 11 19 ||| put 64 11 30, 0⟩

/-- Die A runs unfenced, as the lead. -/
def liveA (s : State) : State := s.modDie .a fun d => { d with role := .lead, running := true, fenced := false }
/-- Both dies run unfenced, A as the lead, in Twin mode. -/
def duo (s : State) : State :=
  (liveA { s with hub := { s.hub with mode := .twin } }).modDie .b fun d => { d with role := .shadow, running := true, fenced := false }
/-- `s` with port `p` being `x`. -/
def withPort (s : State) (p : Nat) (x : Port) : State := s.modPort p fun _ => x
/-- Tile 7 stands on the staged and committed configuration of canvas 0. -/
def onCanvas (x : Corr) : State :=
  (withCanvas (mapped {}) 0 { staged := { plain 10 with tiles := [place7] }, committed := { plain 10 with tiles := [place7] },
                              running := true, next := 1 }).modCorr 7 fun _ => x
/-- A frame order of frame `n` that marks region 0 of tile 7. -/
def order (n : Nat) : FrameOrder :=
  { frame := n, choices := [], isRepeat := false, trims := [], zones := [], armed := false, redArmed := false, patch := [(7, 0)]
    acked := true, writtenBy := .a }
def ordered (s : State) (n : Nat) : State := s.modCanvas 0 fun c => { c with order := some (order n) }

/-- Both dies run under an arbiter in `a`. -/
def twins (a : ArbState) : State := (duo run).modTwin fun x => { x with state := a }
/-- Die B is held behind its fence: not running, or running while it joins. -/
def alone (a : ArbState) (runs : Bool) : State := (twins a).modDie .b fun x => { x with role := .none, running := runs, fenced := true }

/-- The package with a reference and three PLLs. -/
def clocked (c : Clocks → Clocks) : State := (duo run).modClocks fun x => c { x with refOk := true, pllA := true, pllB := true, pllH := true }

/-! ### The queue, the common checks -/

theorem witness_StepRunsFront : ∃ s c rest, (s : State).pending = c :: rest :=
  ⟨{ up with pending := [.hubBeat] }, .hubBeat, [], rfl⟩
theorem witness_StepTicksWhenIdle : up.pending = [] := rfl
theorem test_step_runs_front : step { up with pending := [.hubBeat] } = .next { up with hub := { up.hub with beat := 1 } } := rfl

/-- CommonChecks: LEN all ones; an opcode outside the halt list in STAGE 8; a function that is not entitled; 16 commands in flight. -/
theorem witness_CommonChecks :
    (commonOf (.sysNop ⟨64, 0xFFFF000000000103#64, []⟩)).isSome = true ∧
    (let r : Req := ⟨64, 0xFFFF000000000103#64, []⟩; r.opcode = opSysNop.opcode ∧ takeRequest up r = some up ∧ r.len = 0xFFFF) ∧
    (let r := req 0x0301 []; let s : State := { up with hub := { up.hub with stage := .halted } }
     r.opcode = opSrcConfig.opcode ∧ takeRequest s r = some s ∧ r.len ≠ 0xFFFF ∧ haltServes opSrcConfig.opcode = false) ∧
    (let r : Req := ⟨0, 0x0230#64, []⟩; let s1 := host.modFunc 0 fun f => { f with mbox := .busy, drop := false }
     r.opcode = opViolationRead.opcode ∧ takeRequest host r = some s1 ∧ r.len ≠ 0xFFFF ∧ entitled opViolationRead s1 r = false) ∧
    (let r := req 0x0406 []
     let s : State := { up with hub := { up.hub with funcs := [(64, { longs := List.replicate 16 { id := 0, opcode := 0, tag := 0 } })] } }
     r.opcode = opLutLoad.opcode ∧ takeRequest s r = some s ∧ opLutLoad.long = true ∧ 16 ≤ inFlight (s.func r.who)) := by
  decide +kernel


/-- A request whose opcode is another row's, and one that is not taken: its mailbox is BUSY with no request waiting. -/
theorem witness_UntakenRequest :
    (commonOf (.sysNop (req 0x0101 []))).isSome = true ∧ (req 0x0101 []).opcode ≠ opSysNop.opcode ∧
    takeRequest (host.modFunc 0 fun f => { f with mbox := .busy }) ⟨0, 0x0103#64, []⟩ = none := by decide +kernel

theorem witness_UnknownAndRefused :
    (∃ r s1, takeRequest up r = some s1 ∧ r.len ≠ 0xFFFF ∧ knownOpcodes.contains r.opcode = false) ∧
    (let r : Req := ⟨0, 0x0230#64, []⟩; let s1 := host.modFunc 0 fun f => { f with mbox := .busy, drop := false }
     takeRequest host r = some s1 ∧ r.opcode = opViolationRead.opcode ∧ entitled opViolationRead s1 r = false ∧ s1.hub.stage ≠ .halted) ∧
    opViolationRead ∈ allOps :=
  ⟨⟨req 0x0FFF [], up, by decide +kernel⟩, by decide +kernel, by simp [allOps]⟩

theorem witness_InfoAndNop : Served opSysInfoRead (req 0x0101 []) up up ∧ Served opSysNop (req 0x0103 [1, 2]) up up :=
  ⟨served_of (by decide +kernel), served_of (by decide +kernel)⟩

/-- SYS_NOP returns its payload with status OK and the same LEN (R329). -/
theorem test_sysNop : ∃ t, exec (.sysNop (req 0x0103 [1, 2])) up = .next t ∧
    t = (up.modHub fun h => { h with reqAt := none }).emit (.nsp 0 0x1800000002#64 [0x0002000000000103#64, 1, 2]) :=
  ⟨_, rfl, by decide +kernel⟩

/-- CMD_READ of a command in the list and of a TAG that is in none. -/
theorem witness_CmdRead :
    (let s := up.modFunc 64 fun f => { f with longs := [{ id := 0, opcode := 0x0406, tag := 7 }] }
     Served opCmdRead (req 0x0102 [7]) s s ∧
     (((s.func 64).longs.take 16).find? fun l => l.tag.toNat = fld ((req 0x0102 [7]).word 0) 15 0).isSome = true) ∧
    Served opCmdRead (req 0x0102 [7]) up up ∧ (up.func 64).longs = [] :=
  ⟨⟨served_of (by decide +kernel), by decide +kernel⟩, served_of (by decide +kernel), rfl⟩

/-- VIOLATION_READ from the service port and from a PF0. -/
theorem witness_ViolationRead :
    (let r := req 0x0230 []; takeRequest up r = some up ∧ r.opcode = 0x0230 ∧ r.len ≠ 0xFFFF ∧ up.hub.stage ≠ .halted ∧ 64 ≤ r.who) ∧
    (let r : Req := ⟨0, 0x0230#64, []⟩; (takeRequest host r).isSome = true ∧ r.opcode = 0x0230 ∧ r.len ≠ 0xFFFF ∧ r.who < 64) := by
  decide +kernel

theorem witness_Mailbox : host.inUse 0 = true ∧ host.hub.stage = .ready ∧ host.hub.cpFailed = false ∧ (host.func 0).mbox ≠ .busy ∧
    bit 1#64 0 = true ∧ ((host.modFunc 0 fun f => { f with mbox := .busy }).func 0).mbox = .busy ∧
    (0x1000 ≤ 0x1000 ∧ 0x1000 < 0x2000 ∧ 0x1000 % 8 = 0) ∧ (0x1000 ≤ 0x1FFC ∧ 0x1FFC < 0x2000 ∧ 0x1FFC % 4 = 0) := by decide +kernel
/-- The first and the last half word of the request mailbox are written. -/
theorem test_mailbox_ends :
    (∃ t, exec (.requestMailboxWrite 0 0x1000 8 5) host = .next t ∧ (t.func 0).reqMem = [(0, 5)]) ∧
    (∃ t, exec (.requestMailboxWrite 0 0x1FFC 4 5) host = .next t ∧ (t.func 0).reqMem = [(511, 0x500000000#64)]) :=
  ⟨⟨_, rfl, by decide +kernel⟩, ⟨_, rfl, by decide +kernel⟩⟩


/-! ### The Partition and Limits Table -/

/-- PLT_READ of all of section 1, and of section 2 with a count cut at the section's last entry. -/
theorem witness_PltRead :
    (Served opPltRead (req 0x0201 [0x100000001#64]) up up ∧ pltWords 1 ≠ 0 ∧ min 1 (min (pltEntries 1 - 0) (511 / pltWords 1)) = 1) ∧
    (Served opPltRead (req 0x0201 [0x5003F0002#64]) up up ∧ pltWords 2 ≠ 0 ∧ fld 0x5003F0002#64 25 16 = 63 ∧
      fld 0x5003F0002#64 7 0 = 2) :=
  ⟨⟨served_of (by decide +kernel), by decide +kernel⟩, served_of (by decide +kernel), by decide +kernel⟩

/-- A proposal of one zone entry by the service port, and one of function 0 with a table that leaves a canvas to a foreign owner. -/
def edit : List Word := [1, 0x100000010#64, 0]
def prop (who expiry : Nat) : Proposal := ⟨5, who, none, edit, 0, expiry⟩
def proposed (who expiry : Nat) : State := up.modPlt fun t => { t with proposal := some (prop who expiry) }

theorem witness_PltPropose : Served opPltPropose (req 0x0202 edit) up up ∧ up.plt.proposal = none ∧
    fld ((req 0x0202 edit).word 0) 7 0 ≠ 0 ∧ (req 0x0202 edit).len ≤ 508 ∧
    (parseEdits 1 ((req 0x0202 edit).words.drop 1)).isSome :=
  ⟨served_of (by decide +kernel), by decide +kernel⟩

/-- `s` at 2 ns of wall time, with a request that came then. -/
def at2 (s : State) : State :=
  (s.modTime fun t => { t with counter := 2#96 <<< 32 }).modHub fun h => { h with reqAt := some 2 }

/-- The proposer's own confirmation, a late one, one that leaves the limits out of range, and one that applies. -/
theorem witness_PltConfirm :
    Served opPltConfirm (req 0x0203 [5]) (proposed 64 1) (proposed 64 1) ∧
    (let s := at2 (proposed 0 1)
     Served opPltConfirm (req 0x0203 [5]) s s ∧ (prop 0 1).expiry < s.reqTime) ∧
    (let s := proposed 0 1; Served opPltConfirm (req 0x0203 [5]) s s ∧ s.reqTime ≤ (prop 0 1).expiry ∧
      (parseEdits 1 (edit.drop 1)).getD [] = [(pltKey 16 0 0, 0)]) :=
  ⟨served_of (by decide +kernel), ⟨served_of (by decide +kernel), by decide +kernel⟩, served_of (by decide +kernel), by decide +kernel⟩
/-- The table of that proposal is valid and keeps every resource in use; one in which a tile's I_LIMIT passes what it reported is not. -/
theorem witness_PltConfirm_tables :
    tableValid up (pltSet up.plt.table [(pltKey 16 0 0, 0)]) = true ∧ handsKept up (pltSet up.plt.table [(pltKey 16 0 0, 0)]) = true ∧
    tableValid up (pltSet up.plt.table [(pltKey 0x10 0 0, 1#64 <<< 43)]) = false ∧
    handsKept (up.modSlot 3 fun x => { x with started := true }) (pltSet up.plt.table [(pltKey 6 3 0, 127)]) = false := by
  decide +kernel

theorem witness_PltPending :
    Served opPltWithdraw (req 0x0204 [5]) (proposed 64 1) (proposed 64 1) ∧
    Served opPltProposalRead (req 0x0205 []) (proposed 0 1) (proposed 0 1) ∧ edit.length ≤ 508 ∧
    Served opPltProposalRead (req 0x0205 []) up up ∧ up.plt.proposal = none ∧ (proposed 0 1).plt.proposal = some (prop 0 1) ∧
    (prop 0 1).expiry < (at2 (proposed 0 1)).wall ∧ (proposed 0 1).wall ≤ (prop 0 1).expiry ∧
    ((at2 (proposed 0 1)).modHub fun h => { h with accepted := [(2, req 0x0203 [5])] }).serves (req 0x0203 [5]) = true :=
  ⟨served_of (by decide +kernel), served_of (by decide +kernel), by decide, served_of (by decide +kernel), rfl, rfl, by decide +kernel⟩

theorem witness_SettingsAreaWrite : ∀ area, area ≤ 1 → (up.modPlt fun p => { p with writesDue := [area] }).plt.writesDue.head? = some area :=
  fun _ _ => rfl


/-! ### Rings, events, functions and links -/

/-- RING_CONFIG of the largest COMPLETION ring, and of the smallest source ring beside a COMPLETION ring. -/
theorem witness_RingConfig :
    Served opRingConfig (req 0x0210 [ringWord 7 3 16, 0, 0, 0]) up up ∧ (up.ring 7).state = .unconfigured ∧
    descriptorType 3 = false ∧
    (let s := rings .stopped .stopped; let r := req 0x0210 [ringWord 1 1 4, 0x1000, 8, 0]
     Served opRingConfig r s s ∧ fld (r.word 1) 11 0 = 0 ∧ fld (r.word 2) 2 0 = 0 ∧ 0 < s.ringCount r.who ∧
       (s.ring (s.ringBase r.who + fld (r.word 0) 43 32)).type = 3 ∧
       (s.ring (s.ringBase r.who + fld (r.word 0) 43 32)).owner = ringFunc s r.who 1 ∧ (s.ring 1).state = .stopped) :=
  ⟨served_of (by decide +kernel), by decide +kernel, by decide, served_of (by decide +kernel), by decide +kernel⟩

theorem witness_RingStartStop :
    (let s := rings .running .stopped; Served opRingStart (req 0x0211 [1]) s s ∧ (s.ring 1).state = .stopped ∧
      descriptorType (s.ring 1).type = true ∧ (s.ring (s.ring 1).cring).state = .running) ∧
    (let s := rings .stopped .stopped; Served opRingStart (req 0x0211 [1]) s s ∧ (s.ring (s.ring 1).cring).state ≠ .running) ∧
    (let s := rings .running .error; Served opRingStop (req 0x0212 [1]) s s ∧ (s.ring 1).state = .error ∧ (s.ring 1).type ≠ 3) ∧
    (let s := rings .running .running; Served opRingStop (req 0x0212 [0]) s s ∧ (s.ring 0).type = 3 ∧ ringFed s 0 = true) :=
  ⟨⟨served_of (by decide +kernel), by decide +kernel⟩, ⟨served_of (by decide +kernel), by decide +kernel⟩,
   ⟨served_of (by decide +kernel), by decide +kernel⟩, served_of (by decide +kernel), by decide +kernel⟩

/-- Function 0's run has 4,096 rings: the last, and the first beyond it. A ring of 16 takes 16 more descriptors and no 17th. -/
theorem witness_RingDoorbell :
    host.inUse 0 = true ∧ host.hub.stage = .ready ∧ host.ringCount 0 ≤ 4096 ∧ 4095 < host.ringCount 0 ∧
    (let s := withRing host (host.ringBase 0 + 4095) { state := .running, type := 1, log2size := 4 }
     (s.ring (s.ringBase 0 + 4095)).state = .running ∧ (16#32 - 0).toNat ≤ 2 ^ 4 ∧ 2 ^ 4 < (17#32 - 0).toNat) ∧
    (let s := withRing host (host.ringBase 0) { state := .running, type := 3, log2size := 4, prod := 2 }
     (s.ring (s.ringBase 0)).state = .running ∧ descriptorType 3 = false ∧ (2#32 - 0).toNat ≤ (2#32 - 0).toNat ∧
      (2#32 - 0).toNat < (3#32 - 0).toNat) := by decide +kernel

/-- A descriptor with DTYPE `t`. -/
def desc (t : Nat) : Desc := ⟨put t 8 0, 0, 0, 9⟩

theorem witness_QueueManager :
    (let s := withRing (rings .running .running) 1 { state := .running, type := 1, log2size := 4, prod := 1, wbDue := true }
     nextFetch s = some 1 ∧ s.hub.cpFailed = false ∧ (s.ring 1).wbDue = true ∧ descriptorType (s.ring 1).type = true ∧
      (s.ring 1).state = .running ∧ dtypeFits (s.ring 1).type (fld (desc 0x30).w0 7 0) = false ∧
      ringWaits s 1 = false ∧ (takeOrdered s 1 (desc 0x30)).isSome = true) ∧
    (let s := withRing up 0 { state := .running, type := 3, log2size := 4, held := [⟨desc 1, none⟩] }
     (s.ring 0).held = ⟨desc 1, none⟩ :: [] ∧ (s.ring 0).hasRoom = true ∧ s.hub.cpFailed = false) := by decide +kernel

theorem witness_EventRoute :
    (let s := withRing up 5 { state := .running, type := 4, log2size := 4 }
     Served opEventRoute (req 0x0220 [put 200 10 0 ||| put 5 12 16 ||| putB true 39]) s s ∧ (s.ring 5).type = 4 ∧
       (s.ring 5).state ≠ .unconfigured ∧ 64 ≤ (req 0x0220 [put 200 10 0 ||| put 5 12 16 ||| putB true 39]).who) ∧
    Served opEventRoute (req 0x0220 [put 1023 10 0]) up up ∧ bit ((req 0x0220 [put 1023 10 0]).word 0) 39 = false :=
  ⟨⟨served_of (by decide +kernel), by decide +kernel⟩, served_of (by decide +kernel), by decide +kernel⟩

/-- An EVENT ring of 16 with 15 and with 16 entries in it. -/
def eventRing (n : BitVec 32) : State :=
  (withRing host 5 { state := .running, type := 4, log2size := 4, prod := n }).modQueues fun q =>
    { q with deliver := [(⟨7, 1, 0, 0, 0⟩, ⟨0, 5, 0⟩)] }
theorem witness_EventDelivery :
    (eventRing 15).hub.cpFailed = false ∧ (eventRing 15).hub.stage ≠ .restarting ∧ ((eventRing 15).ring 5).type = 4 ∧
    ((eventRing 15).ring 5).hasRoom = true ∧ ((eventRing 16).ring 5).hasRoom = false := by decide +kernel

/-- Function 0 with MSI-X enabled and vector 63, its last, pending. -/
def pendingVector : State := host.modFunc 0 fun f => { f with msixEnabled := true, msixPending := [(63, true)] }
theorem witness_FunctionWrites :
    host.inUse 0 = true ∧ (host.link (0 / 16)).state = .up ∧ ¬((2 = 4 ∨ 2 = 8) ∧ 0 % 2 = 0) ∧ ¬((8 = 4 ∨ 8 = 8) ∧ 4 % 8 = 0) ∧
    (pendingVector.func 0).msixEnabled = true ∧ (pendingVector.func 0).msixMasked = false ∧ 63 < pendingVector.msixCount 0 ∧
    (∀ u, Tbl.get false (pendingVector.func 0).msixPending u = decide (u = 63)) ∧ (host.link (0 / 16)).vfOn = false := by
  refine ⟨by decide +kernel, by decide +kernel, by decide, by decide, by decide +kernel, by decide +kernel, by decide +kernel, fun u => ?_,
    by decide +kernel⟩
  have h : (pendingVector.func 0).msixPending = [(63, true)] := by decide +kernel
  rw [h]; by_cases h : 63 = u <;> simp [Tbl.get, h]

/-- The first and the last offset of each register that a BAR0 write reaches; the last ring and the first beyond a run of 15; the last MSI-X
vector; the gaps at their ends. -/
theorem witness_RegisterWrites :
    host.inUse 0 = true ∧ host.hub.stage = .ready ∧ (host.func 0).mbox ≠ .busy ∧
    (∀ o, o = 0x100 ∨ o = 0x104 → 0x100 ≤ o ∧ o < 0x108 ∧ o % 4 = 0) ∧ bit 1#64 0 = true ∧ bit 2#64 0 = false ∧
    (∀ o, o = 0x1000 ∨ o = 0x1FF8 → 0x1000 ≤ o ∧ o < 0x2000 ∧ o % 8 = 0) ∧ 4095 < host.ringCount 0 ∧
    (let s := host.modPlt fun p => { p with table := [(pltKey 2 0 0, put 15 13 18)] }
     s.inUse 0 = true ∧ s.hub.stage = .ready ∧ 14 < s.ringCount 0 ∧ s.ringCount 0 ≤ 15) ∧
    (∀ o, o = 0x20 ∨ o = 0xF8 ∨ o = 0x110 ∨ o = 0xFF8 ∨ o = 0x3000 ∨ o = 0x3FF8 ∨ o = 0x8000 →
      0x20 ≤ o ∧ (o < 0x100 ∨ 0x110 ≤ o ∧ o < 0x1000 ∨ 0x3000 ≤ o ∧ o < 0x4000 ∨ 0x8000 ≤ o) ∧ o % 8 = 0) ∧
    (∀ o, o = 0x400 ∨ o = 0x1FF8 ∨ o = 0x2008 → 0x400 ≤ o ∧ (o < 0x2000 ∨ 0x2008 ≤ o) ∧ o % 8 = 0) := by
  refine ⟨by decide +kernel, by decide +kernel, by decide +kernel, by omega, by decide +kernel, by decide +kernel, by omega,
    by decide +kernel, by decide +kernel, by omega, by omega⟩

theorem witness_HostResets :
    (let s := host.modLink 0 fun l => { l with numVfs := 15, vfOn := true }; s.inUse 15 = true ∧ 15 % 16 ≠ 0) ∧
    (let s : State := { up with clocks := { up.clocks with refOk := true } }
     0 < linkCount s.hub.straps ∧ s.clocks.refOk = true ∧ s.hub.stage ≠ .reset) := by decide +kernel
theorem witness_BeatAndFailure : up.hub.cpFailed = false ∧ up.hub.stage ≠ .reset ∧ up.hub.stage ≠ .primer := by decide


/-! ### Sources, network flows, BAR2, tables -/

/-- The six words of a slot of kind `kind` with 2 buffers of 16 × 16 pixels of 4 bytes in lines of 256 bytes at 60 Hz. -/
def slotWords (k kind : Nat) : List Word :=
  [put k 5 0 ||| put kind 3 5 ||| put 2 4 12 ||| put 10 5 16, put 16 16 0 ||| put 16 16 16 ||| put 256 32 32, 0, 0, 0, 0]
/-- Slot `k` of that configuration, owned by function 0. -/
def slotOf (k kind : Nat) : Slot := { cfg := slotWords k kind, owner := 0 }
/-- `s` with slot `k` being `x`. -/
def withSlot (s : State) (k : Nat) (x : Slot) : State := s.modSlot k fun _ => x

/-- SRC_CONFIG of the last slot as a PULL slot; the limits at 16 pixels, and one pixel less. -/
theorem witness_SrcConfig :
    (let r := req 0x0301 (slotWords 31 1)
     let x : Slot := { cfg := (List.range 6).map r.word, owner := up.ownerOf 6 31, late := (up.slot 31).late,
                       bufs := (voteBufs up 31).foldl (fun m b => Tbl.set {} m b { (up.slot 31).buf b with old := true, zeroDue := true }) [] }
     Served opSrcConfig r up up ∧ fld (r.word 0) 4 0 = 31 ∧ (up.slot 31).started = false ∧ slotLimits x = true ∧ poolFits up 31 x = true ∧
       decodeFits up 31 x = true ∧ ingestFits [(31, x)] = true ∧ x.kind ≠ 2) ∧
    slotLimits { slotOf 0 1 with cfg := [(slotOf 0 1).w 0, (slotOf 0 1).w 1 - 1#64] } = false :=
  ⟨⟨served_of (by decide +kernel), by decide +kernel⟩, by decide +kernel⟩
/-- A BAR2 slot's two buffers of 4,096 bytes take one 2 MiB page each, from offset 0 on (R306; the order is log entry 14's). -/
theorem witness_SrcConfig_bar2 : bar2Span (slotOf 0 2).bufBytes = 2097152 ∧ bar2Used up 0 0 = [] ∧
    bar2Alloc 2 2097152 [] = some [0, 2097152] := by
  have h1 : bar2Place [] 2097152 = some 0 := by simp [bar2Place]
  have h2 : bar2Place [(0, 2097152)] 2097152 = some 2097152 := by
    simp [bar2Place, List.mergeSort, List.MergeSort.Internal.splitInTwo]
  refine ⟨by decide +kernel, rfl, ?_⟩
  simp only [bar2Alloc, h1, List.nil_append, h2]

theorem witness_SrcStartStop :
    (let s := withSlot up 3 (slotOf 3 1)
     Served opSrcStart (req 0x0302 [3]) s s ∧ (s.slot 3).kind ≠ 0 ∧ (s.slot 3).started = false ∧ slotLimits (s.slot 3) = true ∧
       poolFits s 3 (s.slot 3) = true ∧
       ingestFits ((3, s.slot 3) :: s.frames.slots.filter fun y => y.1 ≠ 3 && y.2.started) = true) ∧
    (Served opSrcStart (req 0x0302 [3]) up up ∧ (up.slot 3).kind = 0) ∧
    (let s := withSlot up 3 { slotOf 3 1 with started := true }; Served opSrcStop (req 0x0303 [3]) s s ∧ (s.slot 3).started = true) ∧
    (Served opSrcStop (req 0x0303 [3]) up up ∧ (up.slot 3).started = false) :=
  ⟨⟨served_of (by decide +kernel), by decide +kernel⟩, ⟨served_of (by decide +kernel), by decide +kernel⟩,
   ⟨served_of (by decide +kernel), by decide +kernel⟩, served_of (by decide +kernel), by decide +kernel⟩

/-- Source ring 1 runs with one descriptor in it, for slot 3, a started one as `x` says. -/
def feeding (x : Slot) : State :=
  withSlot (withRing (rings .running .running) 1 { state := .running, type := 1, log2size := 4, prod := 1 }) 3 { x with started := true }
/-- A source descriptor of DTYPE `t` for slot 3 with flag bits `f` and a length. -/
def srcDesc (t f n : Nat) : Desc := ⟨put t 8 0 ||| put f 2 8 ||| put 3 5 16 ||| put n 32 32, 0x1000, 0, 9⟩
def full : Tbl Buf := [(0, { state := .inUse }), (1, { state := .inUse })]
theorem witness_PullSegment :
    (let s := feeding (slotOf 3 1)
     (takeSource s 1 (srcDesc 1 1 4096) 1).isSome = true ∧
     (∀ y ∈ takeSource s 1 (srcDesc 1 1 4096) 1, y.1.owns (y.1.ring 1).owner 6 3 = true ∧ (y.1.slot 3).kind = 1 ∧
       (y.1.slot 3).pullWait = none ∧ (y.1.slot 3).pullOpen = none ∧
       (y.1.slot 3).bufIds.find? (fun b => ((y.1.slot 3).buf b).state = .free) = some 0)) ∧
    (let s := feeding { slotOf 3 1 with pullOpen := some 0 }
     ∀ y ∈ takeSource s 1 (srcDesc 1 0 4097) 1, (y.1.slot 3).pullOpen.isSome = true ∧ (y.1.slot 3).pullSegs = [] ∧
       (y.1.slot 3).bufBytes < 0 + 4097) ∧
    (let s := feeding { slotOf 3 1 with bufs := full }
     ∀ y ∈ takeSource s 1 (srcDesc 1 1 4096) 1, ∀ b ∈ (y.1.slot 3).bufIds, ((y.1.slot 3).buf b).state ≠ .free ∧
       ((y.1.slot 3).buf b).state ≠ .ready) ∧
    (let s := (feeding (slotOf 3 1)).modPlt fun p => { p with table := [(pltKey 6 3 0, 127)] }
     ∀ y ∈ takeSource s 1 (srcDesc 1 1 4096) 1, y.1.owns (y.1.ring 1).owner 6 3 = false) := by decide +kernel

/-- A pull with one segment left, that is and is not the last of its frame, and a pull that waits. -/
theorem witness_PullEnds :
    (let s := withSlot up 3 { slotOf 3 1 with pullOpen := some 0, pullSegs := [⟨1, 0, srcDesc 1 2 64, 64, false⟩] }
     (s.slot 3).pullOpen = some 0 ∧ (s.slot 3).pullSegs = ⟨1, 0, srcDesc 1 2 64, 64, false⟩ :: [] ∧ s.hub.cpFailed = false ∧
       bit (srcDesc 1 2 64).w0 9 = true ∧ bit (srcDesc 1 1 64).w0 9 = false) ∧
    (let s := withSlot up 3 { slotOf 3 1 with pullWait := some ⟨1, 0, srcDesc 1 1 64, 64, false⟩ }
     (s.slot 3).pullWait.isSome ∧ s.hub.cpFailed = false ∧ (s.slot 3).bufIds.find? (fun b => ((s.slot 3).buf b).state = .free) = some 0) :=
       by decide +kernel

theorem witness_SubmitCancelRelease :
    (let s := feeding { slotOf 3 2 with bufs := [(0, { state := .filling })] }
     ∀ t, t = 2 ∨ t = 3 → (takeSource s 1 (srcDesc t 0 4096) t).isSome = true ∧
     (∀ y ∈ takeSource s 1 (srcDesc t 0 4096) t, y.1.owns (y.1.ring 1).owner 6 3 = true ∧ (y.1.slot 3).kind = 2 ∧
       (y.1.slot 3).started = true ∧ 0 < (y.1.slot 3).buffers ∧ ((y.1.slot 3).buf 0).state = .filling)) ∧
    (let s := withSlot up 3 { slotOf 3 2 with bufs := [(0, { state := .released })], feedRing := some (0, 0) }
     ((s.slot 3).buf 0).state = .released ∧ ((s.slot 3).buf 0).reported = false ∧ (s.slot 3).feedRing = some (0, 0)) := by
  refine ⟨fun t ht => ?_, by decide +kernel⟩
  rcases ht with rfl | rfl <;> decide +kernel

/-- The last byte of the first buffer's page, with 128 bytes to write, and the first byte beyond both pages. -/
theorem witness_Bar2Access :
    (let s := withSlot host 3 { slotOf 3 2 with bar2 := [0, 2097152] }
     s.inUse 0 = true ∧ bar2Find s 0 2097151 = some (3, 0, 2097151) ∧ bar2Find s 0 4194304 = none ∧ (s.func 0).maxPayload = 128 ∧
       ((s.slot 3).buf 0).state = .free ∧ 512 ≤ (s.func 0).maxRead) := by decide +kernel

/-- Slot 3 takes leg A from NETA0, UDP 5004, and holds an open frame whose marker has come. -/
def netSlot : Slot :=
  { slotOf 3 3 with cfg := [put 3 5 0 ||| put 3 3 5 ||| put 2 4 12, put 16 16 0 ||| put 16 16 16 ||| put 256 32 32,
      put 7 32 0 ||| put 5004 16 32 ||| putB true 48, 0, 0, 96], started := true }
def netUp : State := withSlot { up with time := { up.time with netUp := [(0, true)] }, dies := { up.dies with a := { up.dies.a with running := true, fenced := false } } } 3 netSlot
def netPkt : NetPkt := ⟨7, 0, 5004, 96, 0, 900, true, [⟨0, 0, 48⟩], []⟩
theorem witness_NetFlows :
    (let s := withSlot up 3 { netSlot with net := some { ts := 900, buf := some 0, markerAt := some 0 } }
     (s.slot 3).net = some { ts := 900, buf := some 0, markerAt := some 0 }) ∧
    (netUp.slot 3).started = true ∧ (netUp.slot 3).legEn 0 = true ∧ ((netUp.slot 3).leg 0).lost = false ∧
    Tbl.get false netUp.time.netWindow ((netUp.slot 3).legPort 0) = false ∧ (netUp.slot 3).net = none ∧
    netReceives netUp 0 = true ∧ packetLegs netUp 0 netPkt = [(3, 0)] ∧ netReceives netUp 3 = false := by decide +kernel

theorem witness_Staging :
    Served opCanvasConfig (req 0x0401 [3]) up up ∧
    (let r := req 0x0402 [put 255 8 8, 0, 0]
     Served opCanvasTiles r up up ∧ fld (r.word 0) 15 8 = 255 ∧ min (fld (r.word 0) 15 8) ((min r.len 511 - 1) / 2) = 1) ∧
    Served opLayerConfig (req 0x0403 [15, 0, 0, 0]) up up ∧
    (let r := req 0x0404 [put 15 4 2, 0, 0]
     Served opBlendTree r up up ∧ fld (r.word 0) 5 2 ≠ 0 ∧ fld (r.word 0) 5 2 ≤ 8 * (min r.len 511 - 1)) ∧
    Served opCanvasTiming (req 0x0820 [3]) up up ∧ Served opTileScan (req 0x0502 [511, 1]) up up :=
  ⟨served_of (by decide +kernel), ⟨served_of (by decide +kernel), by decide +kernel⟩, served_of (by decide +kernel),
   ⟨served_of (by decide +kernel), by decide +kernel⟩, served_of (by decide +kernel), served_of (by decide +kernel)⟩

/-- An output LUT of 2,197,000 bytes asked for in full and with one byte more, and a mesh of 2 × 2 points. -/
theorem witness_TableLoads :
    (let r := req 0x0406 [put 1 1 0 ||| put 3 2 8, 0x1000, 2197001]
     Served opLutLoad r up up ∧ lutTable r = .outLut 3 ∧ tableSize up (.outLut 3) = 2197000 ∧ tablePending up (.outLut 3) = false) ∧
    (let s := up.modCanvas 2 fun c => { c with staged := { c.staged with cfg := [0, put 16 16 0 ||| put 16 16 16, 0, 0] } }
     let r := req 0x0407 [put 2 2 8, 0x1000, 16]
     Served opMeshLoad r s s ∧ tableSize s (.mesh 2) ≠ 0 ∧ tablePending s (.mesh 2) = false) :=
  ⟨⟨served_of (by decide +kernel), by decide +kernel⟩, served_of (by decide +kernel), by decide +kernel⟩

theorem witness_TableLoadEnds :
    (let s := up.modTable (.mesh 2) fun b => { b with load := some ⟨64, 0, 0x1000, 4, false⟩ }
     (s.table (.mesh 2)).load = some ⟨64, 0, 0x1000, 4, false⟩ ∧ s.hub.cpFailed = false ∧ s.dies.twin.votes = []) ∧
    meshInRange [0, 0x40, 0, 0xC0] = true ∧ meshInRange [1, 0x40, 0, 0] = false := by decide +kernel


/-! ### Canvases, tiles, transactions, timing -/

theorem witness_CanvasCommit :
    (let s := withCanvas run 3 { staged := plain 10 }
     Served opCanvasCommit (ask opCanvasCommit [3]) s s ∧ commitFails s 3 (stagedCfg s 3) = none ∧ (s.canvas 3).change = none ∧
       (s.canvas 3).running = false) ∧
    (let s := withCanvas run 3 { staged := plain 18 }
     Served opCanvasCommit (ask opCanvasCommit [3]) s s ∧ commitFails s 3 (stagedCfg s 3) = some (4, [])) ∧
    (let s := withCanvas run 3 { staged := plain 17, committed := plain 10, running := true }
     Served opCanvasCommit (ask opCanvasCommit [3]) s s ∧ isTimingChange (s.canvas 3).committed (stagedCfg s 3) = true ∧
       commitFails s 3 (stagedCfg s 3) = none ∧ s.time.step = none ∧ s.mcMoves = false ∧ (stagedCfg s 3).tileIds = []) ∧
    (let s := (withCanvas run 3 { staged := plain 17, committed := plain 10, running := true }).modFirmware fun f => { f with mcStep := 4 }
     Served opCanvasCommit (ask opCanvasCommit [3]) s s ∧ isTimingChange (s.canvas 3).committed (stagedCfg s 3) = true ∧
       commitFails s 3 (stagedCfg s 3) = none ∧ s.mcMoves = true) ∧
    (let s := withCanvas run 3 { change := some ⟨64, 0, 1, plain 10, false, false⟩ }
     Served opCanvasCommit (ask opCanvasCommit [3]) s s ∧ (s.canvas 3).change.isSome) :=
  ⟨⟨served_of (by decide +kernel), by decide +kernel⟩, ⟨served_of (by decide +kernel), by decide +kernel⟩,
   ⟨served_of (by decide +kernel), by decide +kernel⟩, ⟨served_of (by decide +kernel), by decide +kernel⟩, served_of (by decide +kernel), by decide +kernel⟩

theorem witness_TileSettings :
    (let r := ask opTileMap [put 511 9 0 ||| put 31 6 9 ||| put 15 4 15 ||| putB true 19, 7]
     Served opTileMap r run run ∧ run.portOk 31 = true ∧ run.portOk 32 = false ∧ placedAny run 511 = false ∧
       (∀ k, k < 512 → (run.tile k).mapLater = none)) ∧
    (let s := mapped {}; Served opTileMap (ask opTileMap [put 8 9 0 ||| put 3 6 9 ||| put 1 4 15 ||| putB true 19, 0]) s s ∧
       ((s.tile 7).mapLater.map fun m => (m.port, m.pos)) = some (3, 1)) ∧
    (let r := ask opTilePrefs [511, put 2000 11 0 ||| put 10000 16 12 ||| put 10000 16 28]
     Served opTilePrefs r run run ∧ fld (r.word 1) 10 0 = 2000 ∧ fld (r.word 1) 27 12 = 10000 ∧ fld (r.word 1) 43 28 = 10000) ∧
    (Served opTilePrefs (ask opTilePrefs [511, 199]) run run ∧ fld ((ask opTilePrefs [511, 199]).word 1) 10 0 < 200) ∧
    (let r := ask opPortConfig [put 31 6 0 ||| put 2 2 6 ||| put 50 6 8]
     Served opPortConfig r run run ∧ run.portOk 31 = true ∧ run.portTiles 31 = [] ∧
       loadFits (((List.range 4).map fun c => portLoad run 31 (run.canvas c).committed).sum) (laneBps 2) = true) ∧
    (Served opPortConfig (ask opPortConfig [put 3 2 6]) run run ∧ fld ((ask opPortConfig [put 3 2 6]).word 0) 7 6 = 3) :=
  ⟨⟨served_of (by decide +kernel), by decide +kernel⟩, ⟨served_of (by decide +kernel), by decide +kernel⟩,
   ⟨served_of (by decide +kernel), by decide +kernel⟩, ⟨served_of (by decide +kernel), by decide +kernel⟩,
   ⟨served_of (by decide +kernel), by decide +kernel⟩, served_of (by decide +kernel), by decide +kernel⟩

theorem witness_TileCommitChainReset :
    (let s := mapped { prefsNext := some 600 }
     Served opTileCommit (ask opTileCommit [0x80]) s s ∧ (ask opTileCommit [0x80]).check = false ∧
       s.clocks.power = .run ∧ commitTiles (ask opTileCommit [0x80]) = [7] ∧
       s.txnOn 7 = none ∧ s.canvasOf 7 = none ∧ (s.tile 7).prefsNext.isSome = true ∧ (s.tile 7).held = none) ∧
    (let r : Req := ⟨64, (ask opTileCommit [0x80]).header ||| putB true 16, [0x80]⟩
     Served opTileCommit r (mapped { prefsNext := some 600 }) (mapped { prefsNext := some 600 }) ∧ r.check = true) ∧
    (Served opTileCommit (ask opTileCommit [0x80]) (mapped {}) (mapped {}) ∧ ((mapped {}).tile 7).prefsNext = none) ∧
    (Served opTileCommit (ask opTileCommit [0x80]) (withTxn id) (withTxn id) ∧ ((withTxn id).txnOn 7).isSome = true) ∧
    (let s := sleeping; Served opTileCommit (ask opTileCommit [0x80]) s s ∧ s.clocks.power ≠ .run) ∧
    (Served opChainReset (ask opChainReset [31]) run run ∧ run.portOk 31 = true) ∧
    (Served opChainReset (ask opChainReset [32]) run run ∧ run.portOk 32 = false) :=
  ⟨⟨served_of (by decide +kernel), by decide +kernel⟩, ⟨served_of (by decide +kernel), by decide +kernel⟩, ⟨served_of (by decide +kernel),
    by decide +kernel⟩,
   ⟨served_of (by decide +kernel), by decide +kernel⟩, ⟨served_of (by decide +kernel), by decide +kernel⟩,
   ⟨served_of (by decide +kernel), by decide +kernel⟩, served_of (by decide +kernel), by decide +kernel⟩

theorem witness_TileReads :
    (Served opTileTxnRead (ask opTileTxnRead [7]) (withTxn id) (withTxn id) ∧
       (withTxn id).links.txns.find? (fun x => x.tiles.contains 7) = some (txn id)) ∧
    (Served opTileTxnRead (ask opTileTxnRead [8]) (withTxn id) (withTxn id) ∧ (withTxn id).links.txns.find? (fun x => x.tiles.contains 8) = none) ∧
    (let s := mapped { statusA := some { status with frame := 8 }, statusB := some status }
     Served opTileRead (ask opTileRead [7]) s s ∧ (s.tile 7).newest = some status) ∧
    (Served opTileRead (ask opTileRead [7]) (mapped {}) (mapped {}) ∧ ((mapped {}).tile 7).statusA = none ∧
      ((mapped {}).tile 7).statusB = none) ∧
    Served opDiagPortRead (ask opDiagPortRead [63]) run run :=
  ⟨⟨served_of (by decide +kernel), by decide +kernel⟩, ⟨served_of (by decide +kernel), by decide +kernel⟩,
   ⟨served_of (by decide +kernel), by decide +kernel⟩, ⟨served_of (by decide +kernel), by decide +kernel⟩, served_of (by decide +kernel)⟩

theorem witness_TransactionSteps :
    (let s := (mapped {}).modLinks fun l => { l with chains := [⟨64, 0, 3, false, 0, false⟩] }
     (s.links.chains.find? fun j => j.port = 3 && !j.committed) = some ⟨64, 0, 3, false, 0, false⟩) ∧
    (∀ j ∈ (mapped {}).links.chains, j.port ≠ 3) ∧ 7 ∈ (mapped {}).portTiles 3 ∧
    (withTxn id).txnAt 5 3 = some (txn id) ∧
    (let f : Txn → Txn := fun x => { x with committed := true, frame := 9 }
     ((withTxn f).links.txns.find? fun x => decide (x.xid.toNat = 5) && ((withTxn f).portsOf x.tiles).contains 3) = some (txn f) ∧
       (txn f).inProgress = true ∧ (txn f).kind = .prefs ∧ (txn f).frame ≠ 0 ∧ (withTxn f).txnAt 5 3 = some (txn f)) ∧
    (let f : Txn → Txn := fun x => { x with committed := true }
     let s := (withTxn f).modTime fun t => { t with counter := 100000000#96 <<< 32 }
     ((s.links.txns.find? fun x => decide (x.xid.toNat = 5) && (s.portsOf x.tiles).contains 3) = some (txn f) ∧
       (txn f).inProgress = true ∧ (txn f).kind = .prefs ∧ (txn f).frame = 0 ∧ (txn f).applyTime ≤ s.wall ∧
       (txn f).stagedAt + 100000000 ≤ s.uptime)) ∧
    (let s := mapped { driveWait := true }; (s.tile 7).driveWait = true ∧ (s.tile 7).assigned = true ∧ s.txnOn 7 = none) ∧
    (((mapped {}).tile 7).assigned = true ∧ ((mapped {}).tile 7).quietSent = false) ∧
    (let s := mapped { quietSent := true }; (s.tile 7).quietSent = true) := by
  decide +kernel

/-- A hop calibration of port 3 whose one tile is 7. -/
theorem witness_TimingReads :
    Served opTimingFlipRead (ask opTimingFlipRead [3]) run run ∧ Served opTimingChangeRead (ask opTimingChangeRead [3]) run run ∧
    Served opCheckRead (ask opCheckRead [put 3 2 0 ||| put 63 6 8]) run run ∧
    Served opHopRead (ask opHopRead [put 3 6 0 ||| put 1 4 8]) (mapped {}) (mapped {}) ∧
    (((mapped {}).tilesAt 3).find? fun t => (mapped {}).posOf t = 1) = some 7 ∧ (mapped {}).owns 64 4 7 = true :=
  ⟨served_of (by decide +kernel), served_of (by decide +kernel), served_of (by decide +kernel), served_of (by decide +kernel),
   by decide +kernel⟩

theorem witness_TimingCommands :
    (let s := withCanvas run 3 { committed := { plain 10 with tiles := [place7] } }
     let r := ask opCheckSet [put 3 2 6 ||| put 7 9 16, put 0 10 0 ||| put 63 10 48 ||| put 127 10 32, 0, 0]
     Served opCheckSet r s s ∧ fld (r.word 0) 7 6 = 3 ∧ (s.canvas 3).committed.place (fld (r.word 0) 24 16) = some place7 ∧
       fld (r.word 1) 9 0 + fld (r.word 1) 41 32 < place7.tw ∧ fld (r.word 1) 25 16 + fld (r.word 1) 57 48 < place7.th ∧
       fld (r.word 0) 10 8 = 0) ∧
    Served opHopCal (ask opHopCal [31]) run run ∧
    (let s := (mapped {}).modLinks fun l => { l with hopJobs := [⟨64, 0, 3⟩] }; ∃ j ∈ s.links.hopJobs, j.port = 3) ∧
    (∃ t ∈ (mapped {}).tilesAt 3, (mapped {}).posOf t = 1) ∧
    (let s := withCanvas run 3 { change := some ⟨64, 0, 1, plain 10, false, false⟩, frame := 3 }
     (s.canvas 3).change = some ⟨64, 0, 1, plain 10, false, false⟩ ∧ 1 + 2 ≤ (s.canvas 3).frame) :=
  ⟨⟨served_of (by decide +kernel), by decide +kernel⟩, served_of (by decide +kernel), by decide +kernel, by decide +kernel,
   by decide +kernel⟩


/-! ### Tile links -/

/-- Port 31 of die A in a receive state. -/
def port (x : RxState) : State := withPort (liveA run) 31 { rx := x, tx := .on }

theorem witness_LinkStates :
    (∀ x, (port x).alive 31 = true ∧ ((port x).port 31).rx = x ∧ (port x).hub.cpFailed = false) ∧
    lockFound (List.replicate 64 true) = true ∧ lockFound (List.replicate 63 true) = false ∧
    lockLost (List.replicate 16 false) = true := by
  refine ⟨fun x => ?_, by decide +kernel⟩; cases x <;> decide +kernel

/-- A frame from tile 7 of TYPE `type`, ORIGIN `origin` and FRAME 9 with UCNT `u`, as it arrives. -/
def from7 (type origin : Nat) (u : Nat) (ws : List Word) : Arrival :=
  ⟨[], (frameWords (put type 4 0 ||| put 7 9 4 ||| put origin 2 14 ||| put 9 24 24 ||| put ws.length 16 48) (put u 32 0) ws false).map codeOf⟩
/-- An echo of region 2 with the CRC that was sent, and one in two runs of words. -/
def echo (u : Nat) : Arrival := from7 8 3 u [0x2000000AB#64]
/-- Port 31 heard tile 7 with UCNT 5, and has sent region 2 of its frame 9. -/
def heard : State :=
  withTile (withPort (liveA run) 31 { rx := .up, tx := .on, ucnt := [(7, some 5)], sent := [⟨7, 2, 9, 0xAB, false, false, false⟩] }) 7
    { map := some ⟨31, 1, 0⟩, assigned := true }
/-- What `frameOf` finds: ORIGIN, TYPE, TILE, UCNT. -/
def seen (a : Arrival) : Option (Nat × Nat × Nat × Nat) := (frameOf a).map fun f => (f.origin, f.type, f.tile, f.ucnt.toNat)
/-- UpstreamFrames: a frame with a word beyond correction, ORIGIN 2, a stale and a fresh echo, a stale and a fresh STATUS. -/
theorem witness_UpstreamFrames :
    heard.hears 31 = true ∧ Tbl.get none (heard.port 31).ucnt 7 = some 5 ∧ newer 5 5 = false ∧ newer 6 5 = true ∧
    newer 0x80000004 5 = true ∧ newer 0x80000005 5 = false ∧
    (heard.port 31).sent.find? (fun z => z.tile = 7 && z.region = fld 0x2000000AB#64 47 32 && z.frame % 2 ^ 24 = 9) =
      some ⟨7, 2, 9, 0xAB, false, false, false⟩ ∧
    fld 0x2000000AB#64 49 48 = 0 ∧ BitVec.ofNat 32 (fld 0x2000000AB#64 31 0) = 0xAB ∧ (heard.tile 7).assigned = true := by
  decide +kernel
theorem witness_UpstreamFrames_frames :
    seen ⟨[], (echo 6).codes.drop 1⟩ = none ∧ seen (from7 8 2 6 [0]) = some (2, 8, 7, 6) ∧ seen (echo 5) = some (3, 8, 7, 5) ∧
    seen (from7 7 3 5 [1]) = some (3, 7, 7, 5) ∧ seen (echo 6) = some (3, 8, 7, 6) ∧ seen (from7 7 3 6 [1, 2]) = some (3, 7, 7, 6) := by
  decide +kernel
theorem witness_UpstreamFrames_payload :
    (frameOf (echo 6)).map (fun f => f.payload) = some [0x2000000AB#64] ∧ (frameOf (echo 6)).map Frame.frame24 = some 9 := by
  decide +kernel
/-- The echo of the sent CRC confirms the region, the same echo a second time is stale, and one flipped bit is corrected. -/
theorem test_echo :
    (∃ t, exec (.echoReceived 31 (echo 6).fill (echo 6).codes) heard = .next t ∧ (t.port 31).sent.map (fun z => z.confirmed) = [true]) ∧
    (∃ t, exec (.echoReceived 31 (echo 5).fill (echo 5).codes) heard = .next t ∧ (t.port 31).nStale = 1 ∧
      (t.port 31).sent.map (fun z => z.confirmed) = [false]) :=
  ⟨⟨_, rfl, by decide +kernel⟩, ⟨_, rfl, by decide +kernel⟩⟩

/-- A hop to tile 7 whose second run agrees with the first within 0.5 ns. -/
def pinged : State := heard.modHop 31 1 fun _ => { sentAt := some 1000, due := true, runs := [5000] }
def pong : Arrival := from7 3 3 6 [put 2 4 0 ||| put (pinged.hopsTo 31 1) 4 8, 1000, 0, 0, 0, 0]
theorem witness_LinkTime :
    (port .up).transmits 31 = true ∧ ((port .up).port 31).spread = 0 ∧ ((port .up).port 31).tx = .on ∧
    (let s := withPort (liveA run) 31 { rx := .up, tx := .quiet }; s.transmits 31 = true) ∧
    pinged.hears 31 = true ∧ seen pong = some (3, 3, 7, 6) ∧
    ((frameOf pong).all fun f => decide (fld (wordAt f.payload 0) 3 0 = 2) &&
      decide (pinged.tileAway 31 (fld (wordAt f.payload 0) 11 8) = some 7) &&
      decide ((pinged.hop 31 (pinged.posOf 7)).sentAt = some (wordAt f.payload 1).toNat)) = true ∧
    pinged.posOf 7 = 1 ∧ (pinged.hop 31 1).due = true ∧ (pinged.hop 31 1).runs = [5000] := by decide +kernel

/-- A word with one flipped bit is corrected, with two found bad; a frame that is sent arrives, and one with an inverted trailer does not. -/
theorem test_line_code :
    decodeCode ⟨0x123456789ABCDEF1#64, checkByte 0x123456789ABCDEF0#64⟩ = .fixed 0x123456789ABCDEF0#64 ∧
    decodeCode ⟨0x123456789ABCDEF3#64, checkByte 0x123456789ABCDEF0#64⟩ = .bad ∧
    (frameOf (from7 8 3 6 [5])).isSome = true ∧
    frameOf ⟨[], (frameWords (put 1 16 48) 0 [5] true).map codeOf⟩ = none := by decide +kernel
/-- The columns of the check byte (R162): the first is 0x07, the last of weight three 0xE0, the first of weight five 0x1F. -/
theorem test_columns : columns.length = 64 ∧ columns.head? = some 0x07 ∧ columns[55]? = some 0xE0 ∧ columns[56]? = some 0x1F := by
  decide +kernel
/-- LineCode: LEN is legal for an echo of one word. -/
theorem witness_LineCode : fld (put 8 4 0 ||| put 1 16 48) 63 48 = [5#64].length ∧ lenLegal 8 1 = true ∧
    (decodedOf (from7 8 3 6 [5])).map Decoded.word =
      (frameWords (put 8 4 0 ||| put 7 9 4 ||| put 3 2 14 ||| put 9 24 24 ||| put 1 16 48) 6 [5] false).map some := by decide +kernel

/-! ### Lamp correction -/

/-- Ring 1 of type CORRECTION with one descriptor. -/
def corrRing (s : State) : State :=
  withRing (withRing s 0 { state := .running, type := 3, log2size := 4 }) 1 { state := .running, type := 2, log2size := 4, prod := 1 }
/-- A RECORDS or TILE_BLOCK descriptor of tile 7 at the offset `off`. -/
def corrDesc (t n off : Nat) : Desc := ⟨put t 8 0 ||| put 7 9 16 ||| put n 32 32, 0x1000, put off 32 0, 9⟩
def cfg0 : CanvasCfg := { plain 10 with tiles := [place7] }

/-- The last 16 bytes of tile 7's 8,192 records, and the last two of its block. -/
theorem witness_CorrectionLoads :
    (let s := corrRing (onCanvas {})
     (takeOrdered s 1 (corrDesc 0x10 16 131056)).isSome = true ∧ bankNeeded s 7 = false ∧ (s.ring 1).type = 2 ∧
       (∀ y ∈ takeOrdered s 1 (corrDesc 0x10 16 131056), y.1.owns (y.1.ring 1).owner 4 7 = true ∧
         corrCfg y.1 7 = some (cfg0, place7) ∧ (y.1.corr 7).state = .clean ∧ corrRoom true (cfg0, place7) = 131072 ∧
         cfg0.recSize = 16)) ∧
    (let s := corrRing (onCanvas { state := .pending 0 5 })
     ∀ y ∈ takeOrdered s 1 (corrDesc 0x11 2 2118), (y.1.corr 7).state = .pending 0 5 ∧ corrRoom false (cfg0, place7) = 2120) ∧
    (let s := (corrRing (onCanvas {})).modPlt fun p => { p with table := [(pltKey 4 7 0, 127)] }
     ∀ y ∈ takeOrdered s 1 (corrDesc 0x11 2 0), y.1.owns (y.1.ring 1).owner 4 7 = false) := by decide +kernel

def corrLoad : CorrLoad := ⟨1, 0, corrDesc 0x10 16 0, 16, false, 16, 131072⟩
theorem witness_CorrectionLoadDone :
    (let s := liveA (onCanvas { state := .staging, loads := [corrLoad] })
     (s.corr 7).loads = corrLoad :: [] ∧ bankNeeded s 7 = false ∧ s.hub.cpFailed = false ∧ (s.corr 7).state = .staging ∧
       corrDies s 7 = [.a]) := by decide +kernel

/-- An idle canvas 0 with tile 7 staged on it, and tile 7's banks STAGING. -/
def idleCanvas : State :=
  (withCanvas run 0 { staged := { plain 10 with tiles := [place7] } }).modCorr 7 fun x => { x with state := .staging }
theorem witness_CorrCommit :
    (let s := onCanvas { state := .staging }
     Served opCorrCommit (ask opCorrCommit [0]) s s ∧ Served opCorrCommit (ask opCorrCommit [0x100]) s s ∧ s.clocks.power = .run ∧
       (s.canvas 0).running = true ∧ (s.canvas 0).change = none ∧
       (cfgAt s 0 ((s.canvas 0).firstFrame (s.reqTime + 1000000))).tileIds.filter (fun t => (s.corr t).state = .staging) = [7] ∧
       ((s.corr 7).idle (corrDie s 7)).blockOk (s.canvas 0).committed.np = true) ∧
    (let s := onCanvas { state := .staging, sideA := { bank1 := { block := [(38, 3)] } } }
     ((s.corr 7).idle (corrDie s 7)).blockOk (s.canvas 0).committed.np = false) ∧
    (let s := sleeping; Served opCorrCommit (ask opCorrCommit [0]) s s ∧ s.clocks.power ≠ .run) ∧
    (let s := idleCanvas
     Served opCorrCommit (ask opCorrCommit [0]) s s ∧ s.clocks.power = .run ∧ (s.canvas 0).running = false ∧
       ((idleCfg (s.canvas 0)).tileIds.filter
         (fun t => decide ((s.corr t).state = .staging) && (s.canvasOf t).all fun k => k = 0)) = [7] ∧
       ((s.corr 7).idle (corrDie s 7)).blockOk (idleCfg (s.canvas 0)).np = true) :=
  ⟨⟨served_of (by decide +kernel), served_of (by decide +kernel), by decide +kernel⟩, by decide +kernel,
    ⟨served_of (by decide +kernel), by decide +kernel⟩, served_of (by decide +kernel), by decide +kernel⟩

def probe (n : Nat) : Probe := { id := 0, canvas := 0, tile := 7, u := 127, v := 63, die := .a, frame := n }
/-- Tile 7 on canvas 0 with an order of frame 1 and a probe of function 64 for frame `n`; `w` is the capture it holds. -/
def probing (n : Nat) (w : Option (List Word)) : State :=
  (ordered (onCanvas {}) 1).modFunc 64 fun f => { f with probes := [probe n], capture := w }
/-- The same with the probe `q`, once frame 1 has flipped. -/
def probing' (q : Probe) : State :=
  (onCanvas {}).modCanvas 0 (fun c => { c with frame := 1 }) |>.modFunc 64 fun f => { f with probes := [q] }
theorem witness_CorrProbe :
    (Served opCorrHash (ask opCorrHash [7]) (onCanvas {}) (onCanvas {})) ∧
    (let r := ask opCorrProbe [put 7 9 0 ||| put 127 10 16 ||| put 63 10 32]
     Served opCorrProbe r (onCanvas {}) (onCanvas {}) ∧ (onCanvas {}).canvasOf 7 = some 0 ∧ (onCanvas {}).placement 7 = some place7 ∧
       place7.tw = 128 ∧ place7.th = 64) ∧
    (∀ w, w = none ∨ w = some (List.replicate 12 1) →
      Served opCorrProbeRead (ask opCorrProbeRead []) (probing 1 w) (probing 1 w) ∧ ((probing 1 w).func 64).capture = w) ∧
    (let r := ask opCorrProbe [put 7 9 0 ||| put 128 10 16]
     Served opCorrProbe r (onCanvas {}) (onCanvas {}) ∧ place7.tw ≤ fld (r.word 0) 25 16) ∧
    (Served opCorrProbe (ask opCorrProbe [8]) run run ∧ run.canvasOf 8 = none) ∧
    (∀ q, q = probe 0 ∨ q = probe 1 ∨ q = { probe 1 with taken := some (1, []) } → ((probing' q).func 64).probes = [q] ∧
      (probing' q).canvasOf q.tile = some 0 ∧ 1 ≤ ((probing' q).canvas q.canvas).frame) := by
  refine ⟨served_of (by decide +kernel), ⟨served_of (by decide +kernel), by decide +kernel⟩, fun w h => ?_,
    ⟨served_of (by decide +kernel), by decide +kernel⟩, ⟨served_of (by decide +kernel), by decide +kernel⟩, fun q h => ?_⟩
  rotate_left
  · rcases h with rfl | rfl | rfl <;> decide +kernel
  rcases h with rfl | rfl <;> exact ⟨served_of (by decide +kernel), by decide +kernel⟩
theorem witness_CorrRepair :
    (let s := onCanvas { sideA := { poison := [4, 5], bank0 := { recSize := 16, arrSize := 16 } } }
     5 ∈ (s.corr 7).poison .a ∧ s.hub.cpFailed = false ∧ noHash s 7 = false) ∧
    (let s := (twins .duo).modCorr 7 fun x => { x with sideA := { poison := [5] } }
     (s.twin && s.up DieId.a.other && !((s.corr 7).poison DieId.a.other).contains 5) = true ∧ 5 ∈ (s.corr 7).poison .a) ∧
    noHash run 7 = true := by decide +kernel

/-! ### Power and photosafety -/

theorem witness_SafeReads :
    Served opSafeZoneRead (ask opSafeZoneRead [63]) run run ∧
    (Served opSafeTileRead (ask opSafeTileRead [7]) (onCanvas {}) (onCanvas {}) ∧ (onCanvas {}).canvasOf 7 = some 0 ∧
      (onCanvas {}).sumDie 7 = .a) ∧
    Served opSafeFlashRead (ask opSafeFlashRead [3]) run run ∧ Served opSafeScrimRead (ask opSafeScrimRead [0x103]) run run :=
  ⟨served_of (by decide +kernel), ⟨served_of (by decide +kernel), by decide +kernel⟩, served_of (by decide +kernel),
   served_of (by decide +kernel)⟩

theorem witness_TrimAndTable :
    (let s := (liveA (onCanvas {})).modSafe 7 fun x => { x with statusI := [1000, 1000, 1000] }
     (s.canvas 0).running = true ∧ s.computing ≠ [] ∧ (s.canvas 0).committed.tileIds.Nodup ∧
       7 ∈ (s.canvas 0).committed.tileIds ∧ (s.safe 7).statusI ≠ [] ∧ (s.safe 7).trim = 16384) ∧
    (let s := loadScrim (liveA (onCanvas {})) .a 0
     (s.die .a).running = true ∧ scrimAgrees s .a 0 = true) ∧
    (let s := (liveA run).modScrim .a 3 fun x => { x with arbCrc := 1 }
     (s.die .a).running = true ∧ rawCrc (s.scrim .a 3).raw ≠ (s.scrim .a 3).arbCrc) ∧
    (let s := loadScrim (liveA (onCanvas {})) .a 0
     (s.die .a).running = true ∧ scrimAgrees (upsetScrim s .a 0 1114140 1) .a 0 = false) := by decide +kernel


/-! ### Frames: selection, regions, votes, flips -/

/-- Canvas 0 of tile 7 runs with the frame order of frame 1 on two dies, at frame 0. -/
def framing (o : FrameOrder) : State :=
  (duo (onCanvas {})).modCanvas 0 fun c => { c with order := some o, next := 2 }
theorem witness_FrameOrders :
    ((onCanvas {}).canvas 0).running = true ∧ ((onCanvas {}).canvas 0).next = ((onCanvas {}).canvas 0).frame + 1 ∧
    ((framing (order 1)).canvas 0).next ≠ ((framing (order 1)).canvas 0).frame + 1 ∧ (run.canvas 3).running = false ∧
    (run.canvas 3).pending = none ∧
    (∀ b, let s := framing { order 1 with acked := b }
      s.twin = true ∧ s.up s.lead = true ∧ s.up s.lead.other = true ∧ (s.canvas 0).order = some { order 1 with acked := b } ∧
        (s.die s.lead).fenceReq = false) := by decide +kernel

/-- Die `d`'s result for region 0 of tile 7. -/
def res (n outcome : Nat) (crc : BitVec 32) : RegionRes :=
  { frame := n, outcome := outcome, crc := crc, lamps := [], cluster := 0, reported := false, sentCrc := none, echoed := none }
/-- The canvas with both dies' results. -/
def withRes (a b : RegionRes) : State := ((framing (order 1)).setResult .a 7 0 a).setResult .b 7 0 b
/-- Tile 7 stands on port 3, which sends. -/
def sending (s : State) : State := withPort s 3 { rx := .up, tx := .on }
theorem witness_Regions :
    (regionDue (framing (order 1)) .a 7 0 = some (0, order 1, place7) ∧ recordBad (framing (order 1)) .a 0 place7 0 = false) ∧
    (let s := (framing (order 1)).modCorr 7 fun x => { x with sideA := { poison := [0], bank0 := { recSize := 16, arrSize := 16 } } }
     regionDue s .a 7 0 = some (0, order 1, place7) ∧ recordBad s .a 0 place7 0 = true) ∧
    (let s := sending (withRes (res 1 0 5) (res 1 0 5))
     s.canvasOf 7 = some 0 ∧ (s.canvas 0).order = some (order 1) ∧ (s.canvas 0).flipSent = false ∧ inTime s 0 1 = true ∧
       (s.canvas 0).committed.place 7 = some place7 ∧
       s.result (portDie 3) 7 0 = some (res 1 0 5) ∧ readyToSend s (portDie 3) 1 7 0 = true ∧ 3 ∈ s.portsTo 7 ∧
       s.canSend (portDie 3) 3 = true ∧ (s.port 3).tx = .on ∧ noSend s (portDie 3) 7 = false ∧ turnToSend s 3 0 1 7 0 = true) ∧
    (let s := framing (order 1)
     (s.die .a).running = true ∧ (s.die .a).serviceable (127 / 8) = true ∧ Tbl.get none (s.die .a).engineErr 127 = none ∧
       ((s.die .a).region 3).lost = false ∧ scrimServes s .a 3 = false ∧ ((s.die .a).region 3).blocked = false ∧
       latentOk 63 {} = true ∧ latentOk 63 { lanes := [63] } = false ∧ latentOk 0 { wrong := [2] } = false ∧
       ((s.die .a).region 3).again = false) ∧
    (let s := run.modRegion .a 3 fun x => { x with resetting := true, blocked := true }; ((s.die .a).region 3).resetting = true) := by
  decide +kernel

def vote : Vote := { tile := 7, region := 0, frame := 1, canvas := 0, a0 := 5, b0 := 6 }
theorem witness_ReportsAndVotes :
    (∀ crc, crc = 5 ∨ crc = 6 → let s := withRes (res 1 0 5) (res 1 0 crc)
     s.twin = true ∧ s.up .a = true ∧ s.up .b = true ∧ s.canvasOf 7 = some 0 ∧ (s.canvas 0).order = some (order 1) ∧
       s.result .a 7 0 = some (res 1 0 5) ∧ s.result .b 7 0 = some (res 1 0 crc) ∧ s.sameMicrocode = true) ∧
    (let s := (framing (order 1)).modTwin fun x => { x with votes := [vote] }
     s.twin = true ∧ s.up .a = true ∧ s.up .b = true ∧
       (s.dies.twin.votes.find? fun v => v.tile = 7 && v.region = 0 && !v.ended && !v.tie) = some vote ∧ vote.a1 = none ∧
       (replayOn s .a vote).isSome = true ∧
       replayOn ((List.range 4).foldl (fun s r => s.modRegion .a r fun x => { x with resting := none }) s) .a vote = none) := by
  refine ⟨fun crc h => ?_, by decide +kernel⟩
  rcases h with rfl | rfl <;> decide +kernel

theorem witness_VerdictsAndFlips :
    (∀ b, let s := framing { order 1 with isRepeat := b }
     (s.canvas 0).order = some { order 1 with isRepeat := b } ∧ (s.canvas 0).running = true ∧ (s.canvas 0).flipSent = false ∧
       (s.canvas 0).withheld = false ∧ (s.canvas 0).frame = 0 ∧ s.computing ≠ [] ∧ s.dies.twin.verdictWait = [] ∧
       framePhase s 0 1 ≠ .silent ∧ sendsLeft s (order 1) = false) ∧
    (let s := sending (withRes (res 1 0 5) (res 1 0 5)); sendsLeft s (order 1) = true ∧
       inTime (s.modTime fun t => { t with counter := BitVec.ofNat 96 (2000000000 * 2 ^ 32) }) 0 1 = false) ∧
    (let o := { order 1 with patch := [] }; workLate (frameLatents (framing o) 0 o []) o = false) ∧
    (let s := (liveA (onCanvas {})).modTwin fun x => { x with verdictWait := [(0, 1)] }
     s.up .a = true ∧ s.up .b = false ∧ (0, (s.canvas 0).frame + 1) ∈ s.dies.twin.verdictWait ∧
       stepBlocks s 0 ((s.canvas 0).frame + 1) = false ∧
       stepBlocks (s.modTime fun t => { t with step := some (5, ((s.canvas 0).flipTime ((s.canvas 0).frame + 1)).toNat - 1) }) 0
         ((s.canvas 0).frame + 1) = true) ∧
    (let s := framing (order 1)
     (s.canvas 0).next = (s.canvas 0).frame + 2 ∧ (s.canvas 0).change = none ∧ (s.canvas 0).mcFrame = none) ∧
    ((onCanvas {}).canvas 0).next ≠ ((onCanvas {}).canvas 0).frame + 2 := by decide +kernel
/-- A region whose two results are not finished makes the frame's work late. -/
theorem witness_VerdictsAndFlips_late : workLate (frameLatents (framing (order 1)) 0 (order 1) []) (order 1) = true := by decide +kernel


/-! ### Power modes, clocks, temperature -/

theorem witness_PowerModes :
    (let s := run; Served opSysPower (ask opSysPower [0]) s s ∧ s.clocks.change = none ∧ s.clocks.power = .run) ∧
    (let s := run; Served opSysPower (ask opSysPower [1]) s s ∧ s.dies.twin.state ≠ .copy ∧ s.dies.twin.state ≠ .verify ∧ s.mcMoves = false ∧
       ∀ c, c < 4 → (s.canvas c).change = none) ∧
    (let s := run.modFirmware fun f => { f with mcStep := 1 }
     Served opSysPower (ask opSysPower [1]) s s ∧ s.clocks.change = none ∧ s.clocks.power = .run ∧ s.mcMoves = true) ∧
    (let s := sleeping; Served opSysPower (ask opSysPower [0]) s s ∧ s.clocks.power = .sleep ∧ s.clocks.change = none) ∧
    (let s := up.modClocks fun c => { c with power := .deep }
     Served opSysPower (ask opSysPower [1]) s s ∧ s.clocks.power = .deep ∧ s.clocks.change = none) ∧
    (Served opSysPower (ask opSysPower [3]) run run ∧ fld ((ask opSysPower [3]).word 0) 1 0 = 3) ∧
    (let s := run.modClocks fun c => { c with change := some ⟨64, 0, .sleep, 0⟩ }
     Served opSysPower (ask opSysPower [1]) s s ∧ s.clocks.change.isSome) ∧
    (∀ m, let s := run.modClocks fun c => { c with change := some ⟨64, 0, m, 0⟩ }
      s.clocks.change = some ⟨64, 0, m, 0⟩ ∧ powerFramesDone s ⟨64, 0, m, 0⟩ = true) := by
  refine ⟨⟨served_of (by decide +kernel), by decide +kernel⟩, ⟨served_of (by decide +kernel), by decide +kernel⟩,
    ⟨served_of (by decide +kernel), by decide +kernel⟩, ⟨served_of (by decide +kernel), by decide +kernel⟩,
    ⟨served_of (by decide +kernel), by decide +kernel⟩, ⟨served_of (by decide +kernel), by decide +kernel⟩,
    ⟨served_of (by decide +kernel), by decide +kernel⟩, fun m => ?_⟩
  cases m <;> decide +kernel
theorem witness_PowerRead : Served opSysPowerRead (ask opSysPowerRead []) run run := served_of (by decide +kernel)

theorem witness_Clocks :
    (clocked id).clocks.refOk = true ∧ (clocked id).pll .b = true ∧ ((clocked id).die .b).running = true ∧
    ((clocked id).die .b).fatal = false ∧ (clocked id).clocks.pllH = true ∧
    (let s := clocked fun c => { c with hubLostAt := some 0 }
     s.clocks.hubLostAt = some 0 ∧ s.uptime ≤ 0 + 10000000 ∧ s.hub.stage ≠ .halted) ∧
    ((5000 : Int) - (clocked id).clocks.offset).natAbs ≤ 5000 ∧ 5000 < ((-5001 : Int) - (clocked id).clocks.offset).natAbs := by
  decide +kernel

theorem witness_Gates :
    ((run.gate (.mem .hub 1)).isOpen = true ∧ (run.gate (.mem .hub 1)).pending = false ∧ (run.gate (.mem .hub 1)).retryAt ≤ run.uptime) ∧
    (((run.modGate .codec fun x => { x with pending := true }).gate .codec).pending = true) := by decide +kernel

/-- Die A at an operating point since more than 1 ms. -/
def atOp (x : OpState) : State :=
  (liveA run).modOp .a (fun _ => x) |>.modTime fun t => { t with counter := BitVec.ofNat 96 (2000000 * 2 ^ 32) }
theorem witness_OperatingPoints :
    (let s := atOp { op := 2, target := 3 }
     (s.die .a).running = true ∧ (s.opState .a).change = none ∧ (s.opState .a).since + 1000000 ≤ s.uptime ∧
       (s.opState .a).op < (s.opState .a).target ∧ (∀ k, k < 16 → ((s.die .a).cluster k).slice = false) ∧ (s.die .a).fatal = false ∧
       (s.therm (DieId.die3 .a)).tripped = false) ∧
    (let s := atOp { op := 2, target := 0 }; (s.opState .a).target < (s.opState .a).op) ∧
    (let s := atOp { op := 2, target := 3, change := some ⟨3, true, false, 0, true⟩ }
     (s.opState .a).change = some ⟨3, true, false, 0, true⟩) ∧
    (let s := atOp { op := 2, target := 3, change := some ⟨3, true, false, 0, false⟩ }
     (s.opState .a).change = some ⟨3, true, false, 0, false⟩ ∧ (s.die .a).running = true) ∧
    -- 750 mV within 5 % of OP2's voltage, and 698 mV outside it
    (∀ w : Int, w = opMv 2 * 4096 →
      (100 * ((((3072 : Nat) * 1000 : Nat) : Int) - w).natAbs ≤ 5 * w ∧ 5 * w < 100 * ((((2860 : Nat) * 1000 : Nat) : Int) - w).natAbs)) := by
  refine ⟨by decide +kernel, by decide +kernel, by decide +kernel, by decide +kernel, fun w h => ?_⟩
  subst h; decide +kernel

theorem witness_Temperature :
    run.hub.cpFailed = false ∧ bandCode (run.therm .a).band ≤ 1 ∧ (run.therm (DieId.die3 .b)).tripped = false ∧ run.thermH.tripped = false ∧
    implausible (some (400, 0)) 4000 1000 = true ∧
    (let s := run.modTherm .b fun x => { x with band := .warm, tripped := true }
     2 ≤ bandCode (s.therm .b).band ∧ (s.therm (DieId.die3 .b)).tripped = true ∧ s.cooled (DieId.die3 .b) = false ∧
       ((s.modTherm .b fun x => { x with coolSince := some 0 }).modTime fun t => { t with counter := 10000000000#96 <<< 32 }).cooled
         (DieId.die3 .b) = true) ∧
    (let s := run.modTherm .b fun x => { x with band := .warm }
     2 ≤ bandCode (s.therm .b).band ∧ (s.therm .b).tripped = false) ∧
    (let s := run.modTherm .hub fun x => { x with tripped := true }; s.thermH.tripped = true) := by decide +kernel

/-! ### Diagnostic reads -/

theorem witness_DiagnosticReads :
    Served opDiagSlotRead (ask opDiagSlotRead [31]) run run ∧ Served opDiagLayerRead (ask opDiagLayerRead [15]) run run ∧
    Served opDiagThermalRead (ask opDiagThermalRead [2]) run run ∧ Served opDiagBistRead (ask opDiagBistRead [0xF01]) run run ∧
    (let r := ask opDiagCalRead [0x1F10]; Served opDiagCalRead r run run ∧ reqItem r = some (.tileLane .b 31)) ∧
    (let r := ask opDiagCalRead [0x2000]; Served opDiagCalRead r run run ∧ reqItem r = none) :=
  ⟨served_of (by decide +kernel), served_of (by decide +kernel), served_of (by decide +kernel), served_of (by decide +kernel),
   ⟨served_of (by decide +kernel), by decide +kernel⟩, served_of (by decide +kernel), by decide +kernel⟩

/-- The hub's last channel, and one beyond it. -/
theorem witness_MemoryRead :
    (let r := ask opDiagMemRead [put 2 2 0 ||| put 1 4 2 ||| put 3 2 6]
     Served opDiagMemRead r run run ∧ fld (r.word 0) 1 0 = 2 ∧ fld (r.word 0) 5 2 = 1 ∧ fld (r.word 0) 7 6 = 3) ∧
    (let r := ask opDiagMemRead [put 2 2 0 ||| put 2 4 2]; Served opDiagMemRead r run run ∧ fld (r.word 0) 1 0 = 2 ∧ 1 < fld (r.word 0) 5 2) :=
  ⟨⟨served_of (by decide +kernel), by decide +kernel⟩, served_of (by decide +kernel), by decide +kernel⟩


/-! ### The twin dies and the arbiter -/

theorem witness_TwinReads : Served opTwinStatusRead (ask opTwinStatusRead []) run run ∧ Served opTwinVoteRead (ask opTwinVoteRead [511]) run run :=
  ⟨served_of (by decide +kernel), served_of (by decide +kernel)⟩

/-- A heartbeat with HSEQ 1 and the flag bits `f`. -/
def beat (f : Word) : Word := 1#64 ||| f
theorem witness_Heartbeats :
    (twins .duo).watched .a = true ∧ ((twins .duo).die .a).running = true ∧ ((twins .duo).die .a).fatal = false ∧
    BitVec.ofNat 8 (fld (beat 0) 7 0) = ((twins .duo).dies.twin.beats .a).2 + 1 ∧ bit (beat (1 <<< 18)) 18 = true ∧
    (bit (beat (0x1010000)) 18 = false ∧ bit (beat 0x1010000) 24 = true ∧ fld (beat 0x1010000) 17 16 = 1) ∧ (twins .duo).twin = true ∧
    (twins .duo).lead = .a ∧ (bit (beat 0) 18 = false ∧ bit (beat 0) 24 = false) ∧
    BitVec.ofNat 8 (fld 2#64 7 0) ≠ ((twins .duo).dies.twin.beats .a).2 + 1 ∧ ((twins .duo).dies.twin.beats .a).1 < 2 ∧
    (let s := (twins .duo).modTwin fun x => x.setBeats .a 2 0; 2 ≤ (s.dies.twin.beats .a).1 ∧ s.watched .a = true) ∧
    (twins .duo).dies.twin.owed = false ∧
    (let s := (twins .duo).modTwin fun x => { x with owed := true }
     s.watched .a = true ∧ s.dies.twin.owed = true ∧ s.up .a = true ∧ s.dies.twin.frozen = false ∧ bit (beat 0x10000) 19 = false ∧
       fld (beat 0x10000) 17 16 ≠ 0) ∧
    (let s := (twins .duo).modDie .a fun x => { x with fatal := true }; (s.die .a).fatal = true) := by decide +kernel

theorem witness_Fences :
    ((twins .duo).modTwin fun x => { x with frozen := true }).dies.twin.frozen = true ∧
    (((alone .solo false).die .b).fenced = true ∧ ((alone .solo false).die .b).running = false) ∧
    ((twins .duo).dies.twin.frozen = false ∧ ((twins .duo).die .a).fenced = false ∧ (twins .duo).span = false ∧
      (twins .duo).dies.twin.state = .duo) ∧
    (∀ a, a = .solo ∨ a = .copy ∨ a = .verify → (alone a (a ≠ .solo)).dies.twin.frozen = false ∧
      ((alone a (a ≠ .solo)).die .a).fenced = false ∧ (alone a (a ≠ .solo)).span = false ∧ (alone a (a ≠ .solo)).dies.twin.state = a) := by
  refine ⟨by decide +kernel, by decide +kernel, by decide +kernel, fun a h => ?_⟩
  rcases h with rfl | rfl | rfl <;> decide +kernel

theorem witness_ArbiterCommands :
    (∀ c, c < 16 → fld (BitVec.ofNat 64 (0xFF00 + c)) 3 0 = c ∧ BitVec.ofNat 8 (fld (BitVec.ofNat 64 (0xFF00 + c)) 15 8) = 0xFF#8) ∧
    (((twins .duo).die .b).running = true ∧ ((twins .duo).die .b).fenced = false ∧ (twins .duo).span = false ∧
      ((twins .duo).die .b).role = .shadow ∧ ((twins .duo).die .b).incomplete = false) ∧
    (let s := (twins .duo).modDie .b fun x => { x with role := .none }; (s.die .b).fenced = false ∧ (s.die .b).role = .none) ∧
    (((alone .copy true).die .b).running = true ∧ ((alone .copy true).die .b).fenced = true) ∧
    (((alone .solo false).die .a).fenced = false ∧ (alone .solo false).up (DieId.other .a) = false) := by decide +kernel

/-- The same with a reference. -/
def referenced (a : ArbState) (runs : Bool) : State := (alone a runs).modClocks fun c => { c with refOk := true }
theorem witness_Rejoin :
    (let s := referenced .solo false
     canRelease s .b = true ∧ lostRegion s .b = false ∧ s.span = false ∧ s.firmware.mcStep = 0) ∧
    (let s := alone .copy true
     s.joining .b = true ∧ s.dies.twin.state = .copy ∧ s.dies.twin.frozen = false ∧ copyReached s = true ∧ s.dShed .a = false ∧
       s.dShed .b = false ∧ hashesAgree (copyState s .b) .b = true ∧ s.span = false) ∧
    (let s := (alone .copy true).modCorr 7 fun x => { x with sideA := { bank0 := { recSize := 16, arrSize := 1, recs := [(0, 1)] } } }
     hashesAgree (copyState s .b) .b = false) ∧
    (let s := (withCanvas (alone .verify true) 0 { running := true, frame := 8 }).modTwin fun x => { x with verFrame := some 9, verified := 3 }
     s.lowCanvas.map (fun _ => productionFrame s) = s.dies.twin.verFrame) ∧
    (∀ n f, n < 16 → f < 3 → let s := (alone .verify true).modTwin fun x => { x with verified := n, failedVer := f }
      s.joining .b = true ∧ s.dies.twin.state = .verify ∧ s.dies.twin.frozen = false ∧ s.dies.twin.verified = n ∧
        s.dies.twin.failedVer = f ∧ s.firmware.fallBack = none) ∧
    verified (alone .verify true) .b = true := by
  refine ⟨by decide +kernel, by decide +kernel, by decide +kernel, by decide +kernel,
    fun n f _ _ => ⟨rfl, rfl, rfl, rfl, rfl, rfl⟩, by decide +kernel⟩

/-- The running image carries microcode 9. -/
def newMicrocode (s : State) : State :=
  { s with firmware := { s.firmware with imageA := some ⟨1, 0, 1, 0, true, 9, 0, 0⟩ } }
theorem witness_RebuildAndMicrocode :
    ((twins .out).dies.twin.state = .out ∧ (twins .out).hub.cpFailed = false ∧ (twins .out).dies.twin.frozen = false ∧
      lostRegion (twins .out) .a = false ∧ lostRegion (twins .out) .b = false ∧ (twins .out).firmware.fallBack = none) ∧
    (let s := (twins .duo).modTwin fun x => { x with inconFrames := [1023, 9, 8, 7, 6, 5, 4, 0] }
     s.dies.twin.state = .duo ∧ s.dies.twin.inconFrames[0]? = some 1023 ∧ s.dies.twin.inconFrames[7]? = some 0 ∧
       s.dies.twin.frozen = false ∧ s.span = false ∧ (s.die s.lead.other).fenced = false) ∧
    (let s := (twins .duo).modDie .b fun x => { x with mute := true }
     let s := { s with firmware := { s.firmware with mcStep := 3 } }
     s.lead.other = .b ∧ (s.die .b).mute = true ∧ s.firmware.mcStep = 3 ∧ (s.die s.lead).fenced = false) ∧
    (let s := newMicrocode (alone .solo false); switchWaits s = true ∧ ∀ k, k < 4 → (s.canvas k).running = false) ∧
    (let s := (newMicrocode (alone .solo false)).modCanvas 3 fun c => { c with running := true, committed := plain 10 }
     switchWaits s = true ∧ (s.canvas 3).running = true ∧ ∀ k, k < 4 → (s.canvas k).mcFrame = none ∧ (s.canvas k).mcNew = false) := by
  decide +kernel

theorem witness_TwinService :
    (let r := ask opTwinService [1]
     Served opTwinService r (twins .duo) (twins .duo) ∧ (twins .duo).span = false ∧ (twins .duo).dies.twin.service = none ∧
       ((twins .duo).die .b).fenced = false ∧ ((twins .duo).die (DieId.other .b)).fenced = false) ∧
    (let r := ask opTwinService [3]
     Served opTwinService r (alone .solo false) (alone .solo false) ∧ ((alone .solo false).die .b).fenced = true) ∧
    (∀ rejoin, let s := (alone .solo false).modTwin fun x => { x with service := some (64, 0, .b, rejoin), stayFenced := true }
      s.dies.twin.service = some (64, 0, .b, rejoin) ∧ (s.die .b).fenced = true ∧ s.dies.twin.stayFenced = true) ∧
    (let s := (twins .duo).modTwin fun x => { x with service := some (64, 0, .b, true) }
     s.dies.twin.service = some (64, 0, .b, true) ∧ (s.die .b).fenced = false) ∧
    (linkDead (twins .duo) 0 = false ∧ linkDead ((twins .duo).modTwin fun x => { x with linkA := false }) 0 = true) ∧
    ((twins .duo).dies.twin.linkA = true ∧ (twins .duo).dies.a.running = true ∧ (twins .duo).dies.a.fatal = false) :=
  ⟨⟨served_of (by decide +kernel), by decide +kernel⟩, ⟨served_of (by decide +kernel), by decide +kernel⟩, by decide +kernel,
   by decide +kernel, by decide +kernel, by decide +kernel⟩


/-! ### Memory, self-test, calibration -/

/-- Channel 31 of die A, that runs. -/
def chanA (x : Chan) : State := (twins .duo).modChan .a 31 fun _ => x
/-- An RT-A request for the first block of a segment, due at 500 ns. -/
def rtReq : MemReq := ⟨.rtA, 0, 500, 1, 0, 3, none, false⟩
/-- A channel with that request in bank 0, whose row is open. -/
def queuedRt (x : Chan) : Chan := { x with banks := [(0, { openRow := some 3, queue := [{ req := rtReq }] })] }
theorem witness_MemoryService :
    memServed (chanA {}) .a = true ∧ memServed run .hub = true ∧
    (((([] : List MemStep).foldl (memStep .a 31) (chanA {})).chan .a 31).rtQueued = false) ∧
    (let y := (([.slot 0 false] : List MemStep).foldl (memStep .a 31) (chanA (queuedRt { owed := 6 }))).chan .a 31; y.rtQueued = false ∧ y.owed < 7) ∧
    (let y := (([] : List MemStep).foldl (memStep .a 31) (chanA (queuedRt { owed := 6 }))).chan .a 31; y.rtQueued = true ∧ y.owed < 7) ∧
    (let y := (([] : List MemStep).foldl (memStep .a 31) (chanA (queuedRt { owed := 7 }))).chan .a 31; y.rtQueued = true ∧ 7 ≤ y.owed) ∧
    ((chanA {}).chan .a 31).failed = false ∧ ((chanA {}).chan .a 31).fullOpen = false ∧ (chanA {}).dShed .a = false ∧
    ((chanA {}).chan .a 31).rate ≠ 5 ∧ ((chanA { fullOpen := true }).chan .a 31).fullOpen = true ∧
    ((chanA {}).modTherm .a fun x => { x with band := .crit }).dShed .a = true := by decide +kernel
/-- The end of the worked example of 16_memory.md: the eighth interval behind queued RT requests. -/
theorem test_refresh_owed :
    let s := (twins .duo).modChan .a 17 fun _ => queuedRt { owed := 7, owedMax := 7, postponed := 7 }
    (match execRefreshDue .a 17 [] s with
      | .next u => (diagMemReadBody u (ask opDiagMemRead [put 4 5 2 ||| put 1 2 6])).payload[2]?
      | _ => none) = some 0x0000000800010208 := by decide +kernel

/-- A channel that holds line 5 as eight words written for line 5, or, misdirected, for line 4. -/
def lineFor (n : Nat) : Chan := { lines := [(5, List.replicate 8 (storedCode n 0x1234 false))], stampAt := [0, 0, 0, 0] }
def noFlips : List Code := List.replicate 8 ⟨0, 0⟩
theorem witness_MemoryErrors :
    memServed (chanA {}) .a = true ∧ memServed (chanA {}) (DieId.die3 .a) = true ∧ ((chanA {}).die .a).fatal = false ∧
    ((chanA {}).die .a).running = true ∧
    4 ≤ (((chanA (lineFor 4)).chan .a 31).stampAt.filter fun t => decide ((chanA (lineFor 4)).uptime ≤ t + 1000000)).length ∧
    (judgeLine 5 (((chanA (lineFor 4)).chan .a 31).returned 5 noFlips)).stamp = true ∧
    (judgeLine 5 (((chanA (lineFor 5)).chan .a 31).returned 5 (⟨3, 0⟩ :: noFlips.tail))).bad = 1 ∧
    (judgeLine 5 (((chanA (lineFor 5)).chan .a 31).returned 5 (⟨4, 0⟩ :: noFlips.tail))).fixed = 1 := by
  decide +kernel
theorem witness_MemoryCode :
    (List.replicate 8 (0 : Word)).length = 8 ∧ (List.range 64).countP (bit 3) = 2 ∧ (List.range 64).countP (bit 7) % 2 = 1 ∧
    (1 < 512 * (16 * unitsPerBank 128 32) * 32 ∧ 2048 < 512 * (16 * unitsPerBank 32 8) * 8) ∧
    (let x := queuedRt {}; (x.bank 0).queue.length ≤ 8 ∧ (x.bank 0).queue.countP (fun q => !q.req.cls.rt) ≤ 6 ∧
      x.urgent 0 = some (0, { req := rtReq }) ∧ (x.bank 0).free { req := rtReq } = true ∧ (x.bank 0).hits { req := rtReq } = true) := by
  decide +kernel

/-- Cluster 0 rests in region 0 of die A. -/
def cl (x : Cluster) : State := (twins .duo).modCluster .a 0 fun _ => x
theorem witness_Bist :
    ((cl {}).hub.cpFailed = false ∧ (cl {}).up .a = true ∧ sliceTurn (cl {}) .a 0 = true ∧ ((cl {}).die .a).restingCluster 0 = some 0 ∧
      sliceTurn ((cl {}).modRegion .a 0 fun x => { x with sliceAt := some 0 }) .a 0 = false) ∧
    (∃ g h, g = Config.bistSignature (cl { slice := true }).hub.fwVersion 0 ∧
      h ≠ Config.bistSignature (cl { slice := true }).hub.fwVersion (((cl { slice := true }).die .a).cluster 0).next) ∧
    (let s := (cl {}).modTherm .a fun x => { x with eligMs := 2700000 }
     (((s.die .a).cluster 0).setElig + 2700000 ≤ (s.therm (DieId.die3 .a)).eligMs)) ∧
    (sliceMay (cl {}) .a 0 0 3072 1599 = true ∧ sliceMay (cl {}) .a 0 0 3072 1600 = false) ∧
    (((cl { slice := true, next := 383 }).die .a).cluster 0).slice = true ∧ ((cl { slice := true }).die .a).serviceable 0 = true ∧
    (let s := (twins .duo).modTime fun t => { t with counter := BitVec.ofNat 96 (10000000000 * 2 ^ 32) }
     s.up .a = true ∧ s.lowCanvas = none ∧ ((s.die .a).region 3).movedAt + 10000000000 ≤ s.uptime ∧ ((s.die .a).region 3).resting = some 0 ∧
       nextResting s .a 3 0 = some 1) ∧
    (let s := (ordered (withCanvas (twins .duo) 0 { running := true }) 1).modRegion .a 3 fun x => { x with flips := 1024 }
     s.lowCanvas.isSome ∧ 1024 ≤ ((s.die .a).region 3).flips) := by
  refine ⟨by decide +kernel, ⟨_, Config.bistSignature (cl { slice := true }).hub.fwVersion
    (((cl { slice := true }).die .a).cluster 0).next + 1, rfl, by simp⟩, by decide +kernel⟩

/-- The latency of network port 1 of die B, and a run of it. -/
def item : CalItem := .ptp .b 1
def runOf (f : Int) : CalRun := ⟨f, 0, [100, 200], false⟩
def caling (l : List CalRun) : State := (twins .duo).modCal item fun c => { c with window := true, results := l }
theorem witness_Calibration :
    (((twins .duo).cal item).window = false ∧ mayOpen (twins .duo) item = true) ∧
    (let s := (twins .duo).modTherm .b fun x => { x with band := .crit }
     (s.cal item).window = false ∧ mayOpen s item = false ∧ s.dShed (calDie item) = true) ∧ ((caling []).cal item).window = true ∧
    (mayRun (caling []) item = true ∧ (caling []).service.keys.held = false ∧ ((caling []).cal item).results = [] ∧
      agreeingPair item [runOf 0] = none) ∧
    (mayRun (caling [runOf 0]) item = true ∧ agreeingPair item [runOf 0, runOf 0] = some (runOf 0, runOf 0)) ∧
    (∃ a b, agreeingPair item [a, b, runOf 0] = none ∧ ((caling [a, b]).cal item).results = [a, b]) := by
  refine ⟨by decide +kernel, by decide +kernel, by decide +kernel, by decide +kernel, by decide +kernel,
    ⟨0, 0, [100000000, 0], false⟩, ⟨0, 0, [-100000000, 0], false⟩, by decide +kernel⟩

/-! ### Wall time, references, network ports -/

/-- Both dies run, with the time state changed. -/
def timed (f : Time → Time) : State := (twins .duo).modTime f
def hostTime : State := timed fun t => { t with mode := .host }
theorem witness_TimeCommands :
    Served opTimeRead (ask opTimeRead []) (timed id) (timed id) ∧
    Served opTimeServo (ask opTimeServo [3]) (timed id) (timed id) ∧
    (Served opTimeServo (ask opTimeServo [0, 0x27CCCCCCD]) (timed id) (timed id) ∧ incOk 0x27CCCCCCD#40 = true ∧ incOk 0x27CCCCCCC#40 = false ∧
      incOk 0x283333333#40 = true ∧ incOk 0x283333334#40 = false) ∧
    Served opTimeServo (ask opTimeServo [0, 5]) (timed id) (timed id) ∧ Served opTimeServo (ask opTimeServo [0, 0]) (timed id) (timed id) ∧
    (Served opTimeServo (ask opTimeServo [1]) (timed id) (timed id) ∧ (timed id).time.mode ≠ .ptp) ∧
    (Served opTimeServo (ask opTimeServo [2]) (timed id) (timed id) ∧
      (let s := timed fun t => { t with mode := .ref }; Served opTimeServo (ask opTimeServo [2]) s s ∧ s.time.mode = .ref ∧
        s.time.state ≠ .measure)) ∧
    (Served opTimeIncrement (ask opTimeIncrement [0x280000000]) (timed id) (timed id) ∧ (timed id).time.mode ≠ .host) ∧
    Served opTimeIncrement (ask opTimeIncrement [5]) hostTime hostTime ∧
    Served opTimeIncrement (ask opTimeIncrement [0x280000000]) hostTime hostTime ∧
    (Served opTimeIncrement (ask opTimeIncrement [0x10280000000, 5]) hostTime hostTime ∧ hostTime.time.step = none ∧
      hostTime.lowCanvas = none) ∧
    (let s := hostTime.modTime fun t => { t with step := some (5, 0) }
     Served opTimeIncrement (ask opTimeIncrement [0x10280000000, 5]) s s ∧ s.time.step.isSome = true) ∧
    (let s := withCanvas hostTime 0 { running := true }
     Served opTimeIncrement (ask opTimeIncrement [0x10280000000, 5]) s s ∧ s.lowCanvas ≠ none) ∧
    Served opPtpConfig (ask opPtpConfig [0]) (timed id) (timed id) ∧
    (Served opPtpConfig (ask opPtpConfig [2]) (timed id) (timed id) ∧ Served opPtpConfig (ask opPtpConfig [99 <<< 32]) (timed id) (timed id) ∧
      glitchField (99 <<< 32) = false ∧ glitchField (100 <<< 32) = true ∧ glitchField (1000000 <<< 32) = true ∧
        glitchField (1000001 <<< 32) = false) ∧
    Served opPtpStatusRead (ask opPtpStatusRead []) (timed id) (timed id) ∧
    (let r := ask opRefConfig [0x10012, 0]
     (Served opRefConfig r (timed id) (timed id) ∧ refFieldsOk r = true ∧ ((timed id).sap 7).state = .stopped) ∧
     (let s := (timed id).modSap 7 fun x => { x with state := .running }
      Served opRefConfig r s s ∧ (s.sap 7).state ≠ .stopped)) ∧
    (let r := ask opRefConfig [2, 0]; Served opRefConfig r (timed id) (timed id) ∧ refFieldsOk r = false) := by
  refine ⟨?_, ?_, ⟨?_, ?_⟩, ?_, ?_, ⟨?_, ?_⟩, ⟨?_, ?_⟩, ⟨?_, ?_⟩, ?_, ?_, ⟨?_, ?_⟩, ⟨?_, ?_⟩, ⟨?_, ?_⟩, ?_, ⟨?_, ?_, ?_⟩, ?_, ⟨⟨?_, ?_⟩, ⟨?_,
    ?_⟩⟩, ⟨?_, ?_⟩⟩ <;>
    first
    | exact served_of (by decide +kernel)
    | exact ⟨served_of (by decide +kernel), by decide +kernel⟩
    | decide +kernel

/-- Mode REF in MEASURE with a reference at REF_IN, following on, after eight intervals of so many ns (60 Hz has 16,666,667 ns). -/
def measuring (ref : Word) (l : List Nat) : State :=
  timed fun t => { t with mode := .ref, state := .measure, ref := [ref], intervals := l.map (65536 * ·) }
theorem witness_References :
    (let m : SyncMsg := ⟨.a, 1, 0, 77, 0, 0, 0⟩
     let s := timed fun t => { t with ptp := [0x10000], netUp := [(1, true)], ocA := { master := 77, port1 := 9 } }
     s.ocOn m.die = true ∧ s.netUp 1 = true ∧ m.domain.toNat = fld (s.ptpW 0) 15 8 ∧ (s.oc m.die).master = m.sender ∧
       (s.oc m.die).port1 = 9) ∧
    (255#8).toNat ≠ fld ((timed id).ptpW 0) 15 8 ∧
    (let s := timed fun t => { t with ref := [1] }; s.refMode = 1 ∧ s.servoRuns = true ∧ s.time.mode ≠ .ref ∧ s.servoOn = false) ∧
    (let s := timed fun t => { t with ref := [2] }; s.refMode = 2 ∧ s.servoRuns = true ∧ s.time.mode ≠ .ref) ∧ (timed id).tenMhz = false ∧
    (let s := timed fun t => { t with mode := .ref, state := .locked }; s.servoOn = true ∧ s.servoRuns = true ∧ s.time.state ≠ .holdover) ∧
    (let s := timed fun t => { t with slewing := true, offset := 6553600, inc := 0x27FFFFFFF#40 }
     s.time.slewing = true ∧ s.servoRuns = true ∧ s.slewDone = true) ∧
    (let s := (timed id).modHub fun h => { h with cpFailed := true }; s.servoRuns = false) ∧
    (let s := timed fun t => { t with step := some (5, 0) }; s.time.step = some (5, 0) ∧ s.stepDelayed = false) ∧
    (let s := withCanvas (timed fun t => { t with step := some (5, 0) }) 0
       { running := true, change := some ⟨64, 0, 1, plain 10, false, false⟩ }
     s.time.step = some (5, 0) ∧ s.stepDelayed = true ∧ s.lowCanvas ≠ none) ∧
    (let s := measuring 0xA (List.replicate 8 16666667)
     s.time.state = .measure ∧ s.servoRuns = true ∧ 8 ≤ s.time.intervals.length ∧ s.steady = true ∧ s.measuredCode = 10 ∧
       s.time.following = none ∧ canFollow s s.measuredCode = true ∧ canFollow s 18 = false ∧ followers s = [] ∧
       ∀ c, c < 4 → (s.canvas c).change = none) ∧
    (let s := measuring 0x2 (List.replicate 8 16666667); s.steady = true ∧ canFollow s s.measuredCode = false) ∧
    (measuring 0xA [16666667, 17666667, 16666667, 16666667, 16666667, 16666667, 16666667, 16666667]).steady = false ∧
    ((timed id).dies.a.stopped = false ∧ (timed id).dies.b.stopped = false) := by decide +kernel

def wired : State := timed fun t =>
  { t with ptp := [0xC0000 ||| 0x30000], netUp := [(2, true), (3, true)], ppsGranted := true, ocB := { exchange := some (1, 2, 3) }
           tcSyncs := [(.b, 7, 1, 100)] }
/-- An Announce at port 1 of die B from the sender 9. -/
def heardFrom : Announce := ⟨.b, 1, 1, 2, 3, 4, 5, 6, 0, 1, 9, 1000000000, none⟩
theorem witness_NetworkPorts :
    (wired.up .b = true ∧ bit (wired.ptpW 0) (18 + DieId.num .b) = true ∧ wired.netUp (DieId.num .b * 2) = true ∧
      wired.netUp (DieId.num .b * 2 + 1) = true) ∧ wired.ocOn .b = true ∧ wired.netUp (DieId.num .b * 2 + 1 % 2) = true ∧
        wired.time.ppsGranted = true ∧ (timed id).time.ppsGranted = false ∧
    (wired.up (netDie 3) = true ∧ Tbl.get false wired.time.netUp 3 = true) ∧
    ((timed id).up (netDie 0) = true ∧ Tbl.get false (timed id).time.netUp 0 = false) ∧
    (wired.ocOn heardFrom.die = true ∧ wired.netUp 3 = true ∧ heardFrom.domain.toNat = fld (wired.ptpW 0) 15 8 ∧
      wired.keepsAnnounce heardFrom = false ∧ wired.freshAnnounce 2 = none ∧ (1#8).toNat ≠ fld (wired.ptpW 0) 15 8) ∧
    wired.time.tcSyncs.find? (syncPassed .b ⟨2, 1, 7, 1, 0⟩) = some (.b, 7, 1, 100) ∧
    ((wired.oc .b).exchange = some (1, 2, 3) ∧ (0#8).toNat = fld (wired.ptpW 0) 15 8 ∧ ((timed id).oc .b).exchange = none) := by decide +kernel


/-! ### Serial audio ports -/

/-- An output port of 48 kHz and 2 channels, `x` adding to its words 0, fed by ring 1. -/
def sapOf (x : Word) (st : SapState) : Sap := { cfg := [put 2 3 6 ||| put 2 5 12 ||| x, 1, 0, 0, 0, 0, 0, 0, 0, 0], state := st }
/-- Port 3 with `p`. -/
def withSap (p : Sap) : State := (twins .duo).modSap 3 fun _ => p
theorem witness_AudioCommands :
    (let s := withSap (sapOf 0 .stopped)
     Served opSapConfig (ask opSapConfig [3]) s s ∧ Served opSapStart (ask opSapStart [3]) s s ∧ Served opSapStop (ask opSapStop [3]) s s ∧
       Served opSapMute (ask opSapMute [put 3 3 0 ||| putB true 3 ||| put 0xFFFF 16 16]) s s ∧
       Served opSapStatusRead (ask opSapStatusRead [3]) s s ∧
       (s.sap 3).started = false ∧ ({ cfg := (List.range 10).map (ask opSapConfig [3]).word, owner := s.ownerOf 7 3 } : Sap).codesOk = true ∧
       (s.sap 3).cfg ≠ [] ∧ (s.sap 3).fieldsOk = true ∧ (s.sap 3).aw = false ∧ flowsWith s 3 0 ≤ 16 ∧
       flowsWith s 3 1 ≤ 16) ∧
    (let s := withSap (sapOf 0 .stopped); let r := ask opSapConfig [3 ||| put 5 3 6]
     Served opSapConfig r s s ∧ ({ cfg := (List.range 10).map r.word, owner := s.ownerOf 7 3 } : Sap).codesOk = false) ∧
    (let s := withSap (sapOf 0 .running)
     Served opSapConfig (ask opSapConfig [3]) s s ∧ Served opSapStop (ask opSapStop [3]) s s ∧ Served opSapStart (ask opSapStart [3]) s s ∧
       (s.sap 3).started = true) :=
  ⟨⟨served_of (by decide +kernel), served_of (by decide +kernel), served_of (by decide +kernel), served_of (by decide +kernel),
    served_of (by decide +kernel), by decide +kernel⟩, ⟨served_of (by decide +kernel), by decide +kernel⟩, served_of (by decide +kernel),
   served_of (by decide +kernel), served_of (by decide +kernel), by decide +kernel⟩

/-- Source ring 1 of the port, with one descriptor. -/
def audioRing (p : Sap) : State :=
  withRing (withRing (withSap p) 0 { state := .running, type := 3, log2size := 4 }) 1 { state := .running, type := 6, log2size := 4, prod := 1 }
def audioDesc (t n : Nat) (media : Word) : Desc := ⟨put t 8 0 ||| put 3 3 8 ||| put n 16 16, 0x1000, media, 9⟩
theorem witness_AudioRings :
    (let s := audioRing (sapOf 0 .starting)
     (takeTyped s 1 (audioDesc 0x30 1 5) 6 0x30).isSome = true ∧ (s.sap 3).reading = none ∧ s.hub.cpFailed = false ∧
       audioSap (audioDesc 0x30 1 5) = 3 ∧
       audioRefused s 1 (audioDesc 0x30 1 5) false = none ∧ (s.sap 3).delayKnown = true ∧ playMedia s (s.sap 3) (audioDesc 0x30 1 5) = (5, 0) ∧
       ((5 + (s.sap 3).span 0 : Nat) : Int) + (s.sap 3).delay = (5 : Nat) ∧ 5 ≤ s.wall + 100000000) ∧
    (let s := audioRing (sapOf 0 .stopped)
     audioRefused s 1 (audioDesc 0x30 1 5) false = some 5 ∧ s.owns (s.ring 1).owner 7 3 = true ∧
       audioRefused s 1 (audioDesc 0x30 1025 5) false = some 4 ∧ audioRefused s 1 (audioDesc 0x31 1 5) true = some 4) ∧
    (let s := audioRing (sapOf (put 1 2 18) .starting)
     audioRefused s 1 (audioDesc 0x30 1 5) false = none ∧ (s.sap 3).delayKnown = false) ∧
    (let s := audioRing (sapOf 0 .starting)
     playMedia s (s.sap 3) (audioDesc 0x30 1 100000001) = (100000001, 0) ∧
       (s.wall : Int) + 100000000 < ((100000001 + (s.sap 3).span 0 : Nat) : Int) + (s.sap 3).delay) ∧
    (let s := audioRing (sapOf 8 .running)
     (takeTyped s 1 (audioDesc 0x31 1024 0) 6 0x31).isSome = true ∧ audioRefused s 1 (audioDesc 0x31 1024 0) true = none) ∧
    (let s := audioRing (sapOf 0 .starting)
     let x : PlayBuf := ⟨0, 0, 0, audioDesc 0x30 1 5, 5, 0, 0, [], 5, false⟩
     x.readable (s.sap 3) s.wall = 64 ∧ 64 * audioBlocks (audioDesc 0x30 1 5) = 64 ∧ dtypeOf (audioDesc 0x31 1 5) ≠ 0x30 ∧
       dtypeOf (audioDesc 0x30 1 5) ≠ 0x31) := by decide +kernel

/-- A port fed by ST 2110-30 on leg A of part 0. -/
def netSap : Sap :=
  { sapOf (putB true 17) .running with cfg :=
      [put 2 3 6 ||| put 2 5 12 ||| putB true 17, 1, put 7 32 0 ||| put 5004 16 32 ||| putB true 48 ||| put 97 7 50, 0, 0,
       put 1 3 3 ||| putB true 12, 0, 0, 0, 0] }
def netSapUp : State := (withSap netSap).modTime fun t => { t with netUp := [(0, true)] }
def audioPkt : AudioPkt := ⟨7, 0, 5004, 97, 11, 1000000, List.replicate 96 0⟩
theorem witness_AudioEvents :
    (netSapUp.netUp 0 = true ∧ audioLegs netSapUp 0 audioPkt = [(3, 0, 0)] ∧ legMerges netSapUp (netSapUp.sap 3) 0 0 = true ∧
      netSapUp.netUp 1 = false) ∧
    ((netSapUp.sap 3).started = true ∧ (netSapUp.sap 3).legOn 0 0 = true ∧ Tbl.get false (netSapUp.sap 3).legLost 0 = false ∧
      Tbl.get false netSapUp.time.netWindow ((netSapUp.sap 3).legPort 0 0) = false) ∧
    (∀ x, (x = sapOf 8 .running ∨ x = { sapOf (8 ||| putB true 11) .running with awUsed := true } ∨
        x = { sapOf (8 ||| putB true 11) .running with slewing := true }) → let s := withSap x
     s.clocks.power ≠ .deep ∧ (s.sap 3).started = true ∧ (s.sap 3).input = true ∧ (s.sap 3).stopping = false ∧
       (s.sap 3).aw = ((s.sap 3).awUsed || (s.sap 3).slewing)) ∧
    (let s := withSap (sapOf (put 1 2 18) .starting)
     (s.sap 3).started = true ∧ (s.sap 3).input = false ∧ (s.sap 3).aw = false ∧ (s.sap 3).delayKnown = false ∧ (s.sap 3).stopping = false ∧
       (s.sap 3).reading = none) ∧
    (let s := withSap { sapOf 0 .running with changes := [(15, some .unmute)] }
     Tbl.get none (s.sap 3).changes 15 = some .unmute ∧ (s.sap 3).changeDue 15 = true ∧ (s.sap 3).stopping = false) ∧
    (let s := withSap { sapOf 8 .running with changes := [(1, some .unmute)], before := [5, 5] }; (s.sap 3).changeDue 1 = false) ∧
    (let s := (withSap { sapOf (putB true 11) .running with awUsed := true }).modMedia fun m => { m with awPresent := true }
     s.media.awPresent = true ∧ (s.sap 3).started = true ∧ (s.sap 3).awUsed = true ∧ (s.sap 3).aw = true) ∧
    (let s := withSap (sapOf (putB true 11) .running); s.media.awPresent = false ∧ (s.sap 3).aw = true ∧ (s.sap 3).awUsed = false) := by
  refine ⟨by decide +kernel, by decide +kernel, ?_, by decide +kernel⟩
  rintro x (rfl | rfl | rfl) <;> decide +kernel

/-! ### Codec -/

/-- Decode settings of `w` × `h` luma samples at 60 Hz and 800 Mb/s, leg A on network port 0. -/
def decWords (k w h : Nat) : List Word :=
  [put k 2 0 ||| put 10 5 4 ||| put 96 7 9 ||| put 800 10 16, put w 16 0 ||| put h 16 16, put 7 32 0 ||| put 5004 16 32 ||| putB true 48, 0, 0]
def decOf (w h : Nat) : Dec := { cfg := decWords 3 w h }
def withDec (x : Dec) : State := ((twins .duo).modDec 3 fun _ => x).modTime fun t => { t with netUp := [(0, true)] }
/-- The largest picture fills the luma budget at 60 Hz but for a bit; a wider one is beyond R417. -/
theorem witness_DecodeCommands :
    (let r := ask opDecConfig (decWords 3 8192 4050)
     Served opDecConfig r run run ∧ (run.dec 3).running = false ∧
       ({ cfg := (List.range 5).map r.word, owner := run.ownerOf 8 3 } : Dec).fieldsOk = true) ∧
    (let r := ask opDecConfig (decWords 3 8193 4050)
     Served opDecConfig r run run ∧ ({ cfg := (List.range 5).map r.word, owner := run.ownerOf 8 3 } : Dec).fieldsOk = false) ∧
    (let s := withDec (decOf 8192 4050)
     Served opDecStart (ask opDecStart [3]) s s ∧ Served opDecStop (ask opDecStop [3]) s s ∧ Served opVcxStatusRead (ask opVcxStatusRead [3]) s s ∧
       (s.dec 3).running = false ∧ (s.dec 3).cfg ≠ [] ∧ decUsed s 3 + (s.dec 3).charge ≤ 1990656000 * 8008 ∧ decBits s 3 + (s.dec 3).maxBr ≤ 800) ∧
    (let s := withDec (decOf 8192 4051)
     Served opDecStart (ask opDecStart [3]) s s ∧ 1990656000 * 8008 < decUsed s 3 + (s.dec 3).charge) ∧
    (let s := withDec { decOf 64 64 with running := true }
     Served opDecStop (ask opDecStop [3]) s s ∧ (s.dec 3).running = true) :=
  ⟨⟨served_of (by decide +kernel), by decide +kernel⟩, ⟨served_of (by decide +kernel), by decide +kernel⟩,
   ⟨served_of (by decide +kernel), served_of (by decide +kernel), served_of (by decide +kernel), by decide +kernel⟩,
   ⟨served_of (by decide +kernel), by decide +kernel⟩, served_of (by decide +kernel), by decide +kernel⟩

def pkt (seq : BitVec 16) : RtpPkt := ⟨7, 0, 5004, 96, seq, 900, true, [2, 1]⟩
/-- A picture of 64 × 64 samples in the profile of that number. -/
def picture (profile : Nat) : Picture := ⟨8, true, true, 64, 64, ⟨profile, 153, 1, 8, 8, 6, false⟩, false, true, [], [], 64, [], [], 0, 0, []⟩
theorem witness_Decoding :
    (let s := withDec { decOf 64 64 with running := true }
     s.netUp 0 = true ∧ decLegs s 0 (pkt 65535) = [(3, 0)] ∧ (s.dec 3).legLost 0 = false ∧ (s.dec 3).nextSeq = none ∧
       isPaci (pkt 65535) = false ∧ s.hub.stage ≠ .restarting ∧ (s.dec 3).legOn 0 = true ∧
       Tbl.get false s.time.netWindow ((s.dec 3).legPort 0) = false) ∧
    (let s := withDec { decOf 64 64 with running := true, nextSeq := some 65535, window := [(0, pkt 1)] }
     (s.dec 3).nextSeq = some 65535 ∧ (s.dec 3).window = (0, pkt 1) :: [] ∧ (pkt 1).seq ≠ 65535) ∧
    (let s := withDec { decOf 64 64 with running := true, pool := [(15, { mark := .decoding })] }
     (s.dec 3).running = true ∧ s.hub.cpFailed = false ∧ s.hub.stage ≠ .restarting ∧ usePackets (s.dec 3).stream = [] ∧
       ((s.dec 3).where' fun y => decide (y.mark = .decoding)) = [15] ∧ (s.dec 3).limitBroken (picture 3) = 1 ∧
         (s.dec 3).limitBroken (picture 1) = 0) := by
  decide +kernel

/-- Encode settings: canvas 0, 256 × 144 from its corner, 10 Mb/s, ring 1. -/
def encWords (k : Nat) : List Word :=
  [put k 1 0 ||| put 1 4 10 ||| put 1 12 32, put 256 16 0 ||| put 144 16 16 ||| put 1000 16 32 ||| put 51 6 54, put 256 16 32 ||| put 144 16 48, 16]
def encOf (x : EncSt) : EncSt := { x with cfg := encWords 1 }
/-- Session 1 with `x` on running canvas 0 at frame 6, its ring of type BITSTREAM. -/
def withEnc (x : EncSt) : State :=
  withRing (withRing ((withCanvas (twins .duo) 0 { committed := plain 10, running := true, frame := 6, next := 8 }).modEnc 1 fun _ => x) 0
    { state := .running, type := 3, log2size := 4 }) 1 { state := .running, type := 5, log2size := 4, prod := 1 }
theorem witness_EncodeCommands :
    (let s := withEnc {}
     Served opEncConfig (ask opEncConfig (encWords 1)) s s ∧ (s.enc 1).running = false ∧
       (encCanvas s { cfg := (List.range 4).map (ask opEncConfig (encWords 1)).word, owner := s.ownerOf 8 5 }).isSet = true ∧
       ({ cfg := (List.range 4).map (ask opEncConfig (encWords 1)).word, owner := s.ownerOf 8 5 } : EncSt).codesOk = true) ∧
    (let s := withEnc {}; let r := ask opEncConfig [1]
     Served opEncConfig r s s ∧ ({ cfg := (List.range 4).map r.word, owner := s.ownerOf 8 5 } : EncSt).codesOk = false) ∧
    (let s := withEnc (encOf {})
     Served opEncStart (ask opEncStart [1]) s s ∧ Served opEncStop (ask opEncStop [1]) s s ∧ (s.enc 1).running = false ∧ (s.enc 1).cfg ≠ [] ∧
       encFieldsOk s (s.enc 1) = true ∧ (s.ring (s.globalRing 64 (s.enc 1).ring)).type = 5 ∧
       (s.ring (s.globalRing 64 (s.enc 1).ring)).state = .running ∧ encUsed s 1 + encCharge s (s.enc 1) ≤ 497664000 * 840840) ∧
    (let s := withEnc (encOf { running := true })
     Served opEncConfig (ask opEncConfig (encWords 1)) s s ∧ Served opEncStop (ask opEncStop [1]) s s ∧
       Served opVcxStatusRead (ask opVcxStatusRead [5]) s s ∧ (s.enc 1).running = true ∧
       (s.enc 1).caps = []) ∧
    (let s := withEnc (encOf { running := true, caps := [⟨6, 0, true, []⟩] }); Served opEncStop (ask opEncStop [1]) s s ∧ (s.enc 1).caps ≠ []) :=
  ⟨⟨served_of (by decide +kernel), by decide +kernel⟩, ⟨served_of (by decide +kernel), by decide +kernel⟩,
   ⟨served_of (by decide +kernel), served_of (by decide +kernel), by decide +kernel⟩,
   ⟨served_of (by decide +kernel), served_of (by decide +kernel), served_of (by decide +kernel), by decide +kernel⟩,
   served_of (by decide +kernel), by decide +kernel⟩

def bufDesc (n : Nat) : Desc := ⟨put 0x20 8 0 ||| put 1 1 8 ||| put n 32 32, 0x1000, 0, 9⟩
def unit : AccessUnit := ⟨⟨put 99 32 32, 1, 2, 0⟩, ⟨true, true, none, [9], (0, 0), [32], []⟩⟩
theorem witness_Encoding :
    (∀ l, l = [] ∨ l = [unit] → let s := withEnc (encOf { running := true, held := l })
     (takeTyped s 1 (bufDesc 0x10000) 5 0x20).isSome = true ∧ s.hub.cpFailed = false ∧ s.owns (s.ring 1).owner 8 5 = true ∧ (s.enc 1).cfg ≠ [] ∧
       s.globalRing (s.ring 1).owner (s.enc 1).ring = 1 ∧ encMinBuf s (s.enc 1) ≤ 0x10000 ∧ (s.enc 1).held = l) ∧
    (let s := withEnc (encOf { running := true })
     (s.enc 1).stopping = false ∧ (s.canvas 0).running = true ∧ (s.enc 1).canvas = 0 ∧ (s.canvas 0).frame % (s.enc 1).div = 0 ∧
       (s.enc 1).prev ≠ some 6 ∧ (s.enc 1).held.length + (s.enc 1).caps.length < 8) ∧
    (let s := withEnc (encOf { running := true, held := List.replicate 8 unit }); 8 ≤ (s.enc 1).held.length + (s.enc 1).caps.length) ∧
    (let s := withEnc (encOf { running := true, caps := [⟨6, 0, true, []⟩] })
     (s.enc 1).caps = ⟨6, 0, true, []⟩ :: [] ∧ s.hub.cpFailed = false ∧ s.hub.stage ≠ .restarting) := by
  refine ⟨fun l h => ?_, by decide +kernel⟩
  rcases h with rfl | rfl <;> decide +kernel


/-! ### Resets, supplies, bring-up -/

/-- `run` with the supplies, the key store and the sessions changed by `f`. -/
def service (f : Service → Service) : State := (twins .duo).modService f
theorem witness_ResetsAndSupplies :
    ((service id).service.powered = true ∧ (service id).thermH.tripped = false ∧ (service id).service.supplyOut.contains .vddh = false ∧
      (service id).service.supplyOut.contains (.vddc .b) = false ∧ ((service id).die .b).running = true ∧ ((service id).die .b).fatal = false) ∧
    (let s := (service id).modTherm .hub fun x => { x with tripped := true }; s.service.powered = true ∧ s.thermH.tripped = true) ∧
    (service fun v => { v with powered := false }).service.powered = false ∧
    (let s := service fun v => { v with supplyOut := [.vddh], resetHeld := true }
     ∀ y ∈ s.service.supplyOut, y = .vddh) := by decide +kernel

/-- The package at a boot stage, with its clocks and the firmware `f`. -/
def booting (x : Stage) (f : Firmware) : State :=
  { (clocked id) with hub := { (clocked id).hub with stage := x }, firmware := f }
def image : Image := ⟨5, 3, 1, 1, true, 0, 0, 4096⟩
def dieOk : DieTest := ⟨true, true, 8, -12, true, [], [], 0⟩
def bootOk : BootResult := ⟨true, true, true, 4, dieOk, dieOk, none, none⟩
/-- STAGE 4 with the lane reference seen and an image that reads format 1, as the settings areas are. -/
def checking (x : SettingsArea) : State :=
  let s := booting .dieCheck { imageA := some image, area0 := x, area1 := x }
  { s with clocks := { s.clocks with laneSeen := true }, hub := { s.hub with fwValid := true } }
/-- Firmware whose newer header copy gives the slots `a` and `b`, `x` holding the rest. -/
def slots (a b : SlotState) (x : Firmware) : Firmware := { x with hdr0 := { hseq := 1, stateA := a, stateB := b } }
theorem witness_BootStages :
    (∀ x f, (booting x f).hub.cpFailed = false ∧ (booting x f).service.powered = true ∧ (booting x f).service.keys.held = false ∧
      (booting x f).hub.stage = x ∧ (booting x f).firmware = f ∧ (booting x f).clocks.refOk = true ∧ (booting x f).clocks.pllH = true ∧
      (booting x f).service.resetHeld = false ∧ (booting x f).thermH.tripped = false ∧ (booting x f).clocks.laneSeen = false) ∧
    (∀ x, (checking x).hub.stage = .dieCheck ∧ (checking x).clocks.laneSeen = true) ∧
    (firstStart (bootRetire (bootRetire (checking { blank := false }) .a []) .b [])).loadArea = none ∧
    (let s := firstStart (bootRetire (bootRetire (checking {}) .a dieOk.failed) .b dieOk.failed)
     s.loadArea ≠ none ∧ diePasses (checking {}) .a dieOk = true ∧ diePasses (checking {}) .b { dieOk with trained := false } = false) ∧
    ((booting .reset {}).modClocks fun c => { c with refOk := false }).clocks.refOk = false ∧
    (∀ f, (f = slots .confirmed .trial {} ∨ f = slots .empty .loaded {} ∨ f = slots .bad .empty {}) →
      let g := f.readHeaders bootOk
      g.head.hseq ≠ 0xFFFFFFFF ∧ g.stateA = f.stateA ∧ g.stateB = f.stateB) ∧
    ((slots .confirmed .trial {}).find .trial = some true ∧ (slots .empty .loaded {}).find .loaded = some true ∧
      (slots .empty .loaded {}).find .confirmed = none ∧ (slots .bad .empty {}).find .loaded = none) ∧
    slotPasses (booting .fwLoad (slots .confirmed .empty { imageA := some image })) bootOk false = true ∧
    (let s := booting .fwLoad (slots .confirmed .loaded { imageA := some image, imageB := some image })
     s.firmware.find .confirmed = some false ∧ s.firmware.head.hseq ≠ 0xFFFFFFFF ∧ s.firmware.slot true = .loaded ∧
     slotPasses s { bootOk with sigOkA := false, sigOkB := false } true = false ∧
       slotPasses s { bootOk with sigOkA := false } false = false ∧ slotPasses s { bootOk with sigOkA := false } true = true) :=
  ⟨fun _ _ => ⟨rfl, rfl, rfl, rfl, rfl, rfl, rfl, rfl, rfl, rfl⟩, fun _ => ⟨rfl, rfl⟩, by decide +kernel, by decide +kernel, by decide +kernel, by
    rintro f (rfl | rfl | rfl) <;> decide +kernel, by decide +kernel⟩

/-! ### Firmware update -/

/-- Both dies run with the firmware `f` and the running slot A. -/
def firm (f : Firmware) : State :=
  { (twins .duo) with firmware := f, hub := { (twins .duo).hub with fwValid := true } }
/-- The header of an image without a body (R501): MAGIC, HDR_VER 1, BODY_LEN 0, VERSION 5, SVN 3. -/
def header : List Byte := [0x49, 0x52, 0x41, 0x4A, 1, 0, 0, 0, 0, 0, 0, 0, 5, 0, 0, 0, 3, 0, 0, 0, 1, 0, 1, 0]
theorem test_parseImage : (parseImage (header ++ List.replicate 4072 0)).map (fun x => (x.version, x.svn, x.format, x.formatPrev, x.length)) =
    some (5, 3, 1, 1, 4096) := by decide +kernel
/-- Session 0 holds that image in its staging buffer. -/
def staged : State := (firm {}).modNsp 0 fun x => { x with staging := memWrite [] 0 header }
theorem parseImage_of {l : List Byte} {k : Nat} (h : imageSigned l = true) (hs : imageField l 16 2 = k)
    (hc : 4096 ≤ l.length ∧ imageField l 0 4 = 0x4A415249 ∧ imageField l 4 2 = 1 ∧ 4096 + imageField l 8 4 = l.length ∧
      imageField l 8 4 ≤ 16777216 - 4096) : ∃ x, parseImage l = some x ∧ x.signed = true ∧ x.svn = k :=
  ⟨_, if_pos hc, h, hs⟩
/-- FW_LOAD accepts it where its signature is good, which no state fixes (Config). -/
theorem witness_FirmwareCommands_load (h : imageSigned (memRead (staged.nsp 0).staging 0 4096) = true) :
    ∃ x, parseImage (memRead (staged.nsp 0).staging 0 4096) = some x ∧ imagePasses staged x = true := by
  obtain ⟨x, h1, h2, h3⟩ := parseImage_of (k := 3) h (by decide +kernel) (by decide +kernel)
  refine ⟨x, h1, ?_⟩
  simp only [imagePasses, h2, h3, Bool.true_and]
  decide +kernel
theorem witness_FirmwareCommands :
    (let r := ask opFwLoad [put 4096 32 32 ||| 1]
     let s := firm {}
     Served opFwLoad r s s ∧ bit (r.word 0) 0 = true ∧ fld (r.word 0) 63 32 = 4096 ∧ s.hub.fwSlotB ≠ true ∧ s.inTrial = false ∧
       s.firmware.head.hseq ≠ 0xFFFFFFFF ∧
       s.fwBusy = false ∧ s.firmware.relay = none ∧ stagingBytes = 33554432) ∧
    ((firm { job := some (.load 64 0 true) }).firmware.job = some (.load 64 0 true) ∧ (firm {}).hub.cpFailed = false) ∧
    (let s := firm (slots .confirmed .loaded { imageA := some image, imageB := some image })
     s.firmware.head.hseq ≠ 0xFFFFFFFF ∧ Served opFwActivate (ask opFwActivate [1]) s s ∧ s.hub.stage = .ready ∧ s.inTrial = false ∧
       s.firmware.slot true = .loaded ∧
       s.fwBusy = false ∧ (∀ c, c < 4 → (s.canvas c).change = none) ∧ s.dies.twin.state = .duo ∧ s.clocks.change = none ∧ s.nextRequest = none ∧
       s.firmware.image true = some image ∧ settingsFit s image = true ∧ imagePasses s image = true) ∧
    (let s := firm { job := some (.activate 64 0 false) }
     s.firmware.job = some (.activate 64 0 false) ∧ s.mcBusy = false ∧ s.firmware.fallBack = none ∧ s.hub.fwSlotB = false) ∧
    (Served opFwConfirm (ask opFwConfirm []) (firm {}) (firm {}) ∧ (firm {}).firmware.find .trial = none) ∧
    (let s := { firm (slots .confirmed .trial { imageA := some image, imageB := some image }) with hub := { (firm {}).hub with fwSlotB := true } }
     s.firmware.find .confirmed = some false ∧ s.inTrial = true ∧ s.firmware.image false = some image ∧ imagePasses s image = true) ∧
    (let s := { firm (slots .confirmed .trial { mcStep := 1 }) with pending := [] }
     Served opFwConfirm (ask opFwConfirm []) s s ∧ s.firmware.find .trial ≠ none ∧ s.mcBusy = true) ∧
    (let s := firm (slots .confirmed .trial { imageB := some image })
     s.firmware.head.hseq ≠ 0xFFFFFFFF ∧ s.firmware.slot false = .confirmed ∧ Served opFwConfirm (ask opFwConfirm []) s s ∧
       s.firmware.find .trial = some true ∧ s.firmware.image true = some image ∧ s.mcBusy = false) ∧
    (Served opFwStatusRead (ask opFwStatusRead []) (firm {}) (firm {}) ∧ Served opPkgReset (ask opPkgReset []) (firm {}) (firm {}) ∧
      Served opPkgHalt (ask opPkgHalt []) (firm {}) (firm {})) :=
  ⟨⟨served_of (by decide +kernel), by decide +kernel⟩, by decide +kernel, ⟨by decide +kernel, served_of (by decide +kernel), by decide +kernel⟩,
   by decide +kernel, ⟨served_of (by decide +kernel), by decide +kernel⟩, by decide +kernel, ⟨served_of (by decide +kernel), by decide +kernel⟩,
   ⟨by decide +kernel, by decide +kernel, served_of (by decide +kernel), by decide +kernel⟩,
   served_of (by decide +kernel), served_of (by decide +kernel), served_of (by decide +kernel)⟩

def relay : Relay := ⟨64, 0, [1], 0, [], [], []⟩
theorem witness_TrialAndRelay :
    (let s := { firm (slots .confirmed .trial { imageA := some image, imageB := some image, trialAt := some 0 }) with
                hub := { (firm {}).hub with fwSlotB := true, reqAt := none } }
     s.hub.reqAt = none ∧ s.nextRequest = none ∧ trialLeft s ≠ 0 ∧
       trialLeft (s.modTime fun t => { t with counter := 600000000000#96 <<< 32 }) = 0 ∧
     s.firmware.head.hseq ≠ 0xFFFFFFFF ∧ s.hub.cpFailed = false ∧ s.hub.stage = .ready ∧ s.firmware.trialAt.isSome = true ∧
       s.firmware.find .confirmed = some false ∧
       s.firmware.mcStep = 0 ∧ switchWaits s = false ∧ s.hub.fwSlotB = !false) ∧
    (let s := firm (slots .confirmed .trial { trialAt := some 0, mcStep := 1 })
     s.firmware.trialAt.isSome = true ∧ s.firmware.find .confirmed = some false ∧ s.firmware.mcStep ≠ 0 ∧ s.firmware.fallBack = none) ∧
    (firm {}).firmware.trialAt = none ∧
    (let r := ask opTileFwRelay [4, 0, 0x100]; Served opTileFwRelay r run run ∧ (relayTiles r).all (relayable run) = false) ∧
    (let r := ask opTileFwRelay [4, 0, 0x80]
     let s := withPort (mapped {}) 3 { rx := .up }
     Served opTileFwRelay r s s ∧ fld (r.word 0) 31 0 = 4 ∧ bit (r.word 0) 32 = false ∧ relayTiles r = [7] ∧
       (relayTiles r).all (relayable s) = true ∧ s.fwBusy = false ∧ s.firmware.relay = none) ∧
    (let s := firm { relay := some relay }
     s.firmware.relay = some relay ∧ s.hub.cpFailed = false ∧ s.links.txns = []) :=
  ⟨by decide +kernel, by decide +kernel, by decide +kernel, ⟨served_of (by decide +kernel), by decide +kernel⟩,
   ⟨served_of (by decide +kernel), by decide +kernel⟩, by decide +kernel⟩

/-! ### The service port, the key store, the test access port -/

/-- An NSP message's header: TYPE 1, fragment 0 of one, of `n` bytes. -/
def nspHeader (n : Nat) : Word := 1#64 ||| put n 32 32
theorem witness_ServiceSessions :
    ((service fun _ => {}).nspServed = true ∧ ((service fun _ => {}).nsp 0).isOpen = false ∧ certOk (service fun _ => {}) .serviceRoot = true ∧
      certOk (service fun _ => {}) (.ownerAnchor 0) = false) ∧
    (let s := service fun _ => { nsp0 := { isOpen := true }, nsp1 := { isOpen := true } }
     s.nspServed = true ∧ (s.nsp 0).isOpen = true ∧ (s.nsp 1).isOpen = true) ∧
    (up.nspOpen 0 = true ∧ fld (nspHeader 16) 7 0 = 1 ∧ fld (nspHeader 16) 11 8 = 0 ∧ bit (nspHeader 16) 12 = false ∧
      (up.nsp 0).pendingReq = false ∧ fld (nspHeader 16) 63 32 = 8 * ([5].length + 1) ∧ up.hub.stage ≠ .restarting ∧
      (up.nsp 0).isOpen = true ∧ (up.nsp 0).frags = [] ∧ up.hub.cpFailed = false ∧ up.uptime ≤ (up.nsp 0).fragAt + 1000000000 ∧
      up.uptime < (up.nsp 0).lastAt + 30000000000) ∧
    (let s := up.modTime fun t => { t with counter := 30000000000#96 <<< 32 }
     (s.nsp 0).pendingReq = false ∧ (s.nsp 0).fragAt + 1000000000 < s.uptime ∧ (s.nsp 0).lastAt + 30000000000 ≤ s.uptime) ∧
    (let h := 1#64 ||| putB true 12 ||| put 1288 32 32
     fld h 7 0 = 1 ∧ fld h 11 8 = 0 ∧ bit h 12 = true ∧ fld h 63 32 = 1288 ∧ (List.replicate 161 (0 : Word)).length = 161) ∧
    (let s := up.modNsp 0 fun x => { x with pendingReq := true }; s.nspOpen 0 = true ∧ (s.nsp 0).pendingReq = true) ∧
    (List.replicate 1024 (0 : Byte)).length ≤ 1024 := by decide +kernel

theorem witness_RegistersAndAnchors :
    up.nspOpen 0 = true ∧ (up.clocks.obsOwner = none ∨ up.clocks.obsOwner = some 0) ∧ (List.replicate 48 (0 : Byte)).length = 48 ∧
    up.service.keys.anchors.length < 4 ∧ up.service.keys.otpOff = false ∧
    (let s := up.modClocks fun c => { c with obsOwner := some 1 }; s.nspOpen 0 = true ∧ s.clocks.obsOwner = some 1 ∧ 1 ≠ 0) := by decide +kernel
/-- CLK_OBS lies somewhere in the hub's registers, or nowhere; both are possible. -/
theorem witness_RegistersAndAnchors_place (addr : Nat) : Config.registerIndex 0 addr = 0 ∨ Config.registerIndex 0 addr ≠ 0 :=
  Decidable.em _

theorem witness_TestAccess :
    (let s := up.modService fun v => { v with keys := { v.keys with done := true, otpOff := true } }
     s.service.keys.done = true ∧ s.service.keys.otpOff = true ∧ 0x55#8 ∉ tapCodes s) ∧
    (up.service.keys.done = false ∧ 0x06#8 ∉ tapCodes up) := by decide +kernel

/-! ### The whole machine -/

theorem witness_InvariantKept : Machine.Inv State.reset ∧ step State.reset = .next (idleTick State.reset) :=
  ⟨⟨by decide +kernel, by decide +kernel, by decide +kernel, by decide +kernel⟩, rfl⟩
theorem witness_QueueKept : ∃ t, step { up with pending := [.hubBeat, .pkgRstN] } = .next t ∧ t.pending = [.pkgRstN] := ⟨_, rfl, rfl⟩
theorem witness_FrameOfEveryCommand : ∃ t, exec .hubBeat up = .next t := ⟨_, rfl⟩
theorem witness_SecurityKept : (∃ t, step up = .next t) ∧ (∀ n d, Instr.hubBeat ≠ .anchor n d) ∧ ∀ r ok, Instr.hubBeat ≠ .fwConfirm r ok :=
  ⟨⟨_, rfl⟩, fun _ _ => Instr.noConfusion, fun _ _ => Instr.noConfusion⟩

/-! ### Well-formed commands -/

/-- JCS rows, each with the request `r`. -/
def rowsOf1 (r : Req) : List Instr :=
  [.sysInfoRead r, .cmdRead r, .sysNop r, .sysPower r, .sysPowerRead r, .twinStatusRead r, .twinVoteRead r, .twinService r, .pltRead r,
   .pltPropose r, .pltConfirm r, .pltWithdraw r, .pltProposalRead r, .ringConfig r, .ringStart r, .ringStop r, .eventRoute r,
   .violationRead r, .srcConfig r, .srcStart r, .srcStop r, .canvasConfig r, .canvasTiles r, .layerConfig r, .blendTree r,
   .canvasCommit r, .lutLoad r, .meshLoad r, .tileMap r, .tileScan r]

/-- JCS rows, each with the request `r`. -/
def rowsOf2 (r : Req) : List Instr :=
  [.tilePrefs r, .tileCommit r, .tileTxnRead r, .tileRead r, .chainReset r, .portConfig r, .corrCommit r, .corrHash r, .corrProbe r,
   .corrProbeRead r, .safeZoneRead r, .safeTileRead r, .safeFlashRead r, .safeScrimRead r, .timeRead r, .timeServo r, .timeIncrement r,
   .ptpConfig r, .ptpStatusRead r, .refConfig r, .canvasTiming r, .timingFlipRead r, .timingChangeRead r, .hopCal r, .hopRead r,
   .checkSet r, .checkRead r, .sapConfig r, .sapStart r, .sapStop r]

/-- JCS rows, each with the request `r`. -/
def rowsOf3 (r : Req) : List Instr :=
  [.sapMute r, .sapStatusRead r, .decConfig r, .decStart r, .decStop r, .encConfig r, .encStart r, .encStop r, .vcxStatusRead r,
   .diagSlotRead r, .diagLayerRead r, .diagPortRead r, .diagMemRead r, .diagThermalRead r, .diagCalRead r, .diagBistRead r, .fwLoad r,
   .fwActivate r, .fwConfirm r false, .fwStatusRead r, .tileFwRelay r, .pkgReset r, .pkgHalt r]

/-- The rows that carry a request with an opcode of their own (R328). -/
def jcsRows (r : Req) : List Instr := rowsOf1 r ++ rowsOf2 r ++ rowsOf3 r

/-- Every JCS row refuses a request that carries another row's opcode. -/
theorem test_wf_opcode_refused : (jcsRows (req 0xFFFE [])).all (fun i => !i.wf) = true := by decide +kernel

/-- Every JCS row refuses a sender that does not exist and a payload of 512 words, and takes 511 words of sender 65. -/
theorem test_wf_request_refused :
    ((jcsRows ⟨0, 0, []⟩).map fun i => (i.jcs.map fun x => x.1).getD 0).all (fun op =>
      (jcsRows ⟨66, BitVec.ofNat 64 op, []⟩).all (fun i => !i.wf) &&
      (jcsRows ⟨65, BitVec.ofNat 64 op, List.replicate 512 0⟩).all (fun i => !i.wf) &&
      (jcsRows ⟨65, BitVec.ofNat 64 op, List.replicate 511 0⟩).any (·.wf)) = true := by decide +kernel

/-- The two rows that carry a request of any opcode refuse such a request too. -/
theorem test_wf_rest_refused :
    (Instr.wf (.unknownOpcode ⟨66, 0, []⟩) || Instr.wf (.partitionViolationReply ⟨66, 0, []⟩)) = false ∧
    (Instr.wf (.unknownOpcode ⟨65, 0, []⟩) && Instr.wf (.partitionViolationReply ⟨65, 0, []⟩)) = true := by decide

/-- A line beyond the address space, a line of seven words, a segment beyond S7 and a write over the end of its block are refused. -/
theorem test_wf_memory : Instr.wf (.memoryReadError .a 31 (2 ^ 34 - 1) ⟨0, noFlips⟩ .other false) = true ∧
    Instr.wf (.memoryReadError .a 31 (2 ^ 34) ⟨0, noFlips⟩ .other false) = false ∧
    Instr.wf (.memoryReadError .a 31 0 ⟨2 ^ 34, noFlips⟩ .other false) = false ∧
    Instr.wf (.memoryReadError .a 31 0 ⟨0, noFlips.tail⟩ .other false) = false ∧
    Instr.wf (.refreshDue .a 31 [.arrive { rtReq with segment := 8 }]) = false ∧
    Instr.wf (.refreshDue .a 31 [.arrive { rtReq with offset := 504, write := some [(0, false), (0, false)] }]) = false := by decide +kernel

/-- The last identifier of each range is accepted. -/
theorem test_wf_ids_accepted_1 : ((
  [.settingsAreaWrite 1 false, .timingChangeComplete 3, .chainResetCommit 63, .corrProbeCapture 63, .hopCalComplete 63,
   .mboxSubmit 63 0, .requestMailboxWrite 63 0 0 0, .ringDoorbell 63 4095 0, .bar2Write 63 0 [] false, .bar2Read 63 0 0,
   .msixUnmask 63 none, .registerWrite 63 0 0 0 0, .functionLevelReset 63, .linkReset 3 false, .linkTrainingStart 3,
   .pullSegment 262143 ⟨0, 0, 0, 0⟩, .pullSegmentDone 31 [], .pullTimeout 31, .submit 262143 ⟨0, 0, 0, 0⟩, .cancel 262143 ⟨0, 0, 0, 0⟩,
   .pullBufferWaitEnd 31, .releasePosted 31 7, .records 262143 ⟨0, 0, 0, 0⟩, .tileBlock 262143 ⟨0, 0, 0, 0⟩,
   .correctionLoadDone 511 .failed, .encBuf 262143 ⟨0, 0, 0, 0⟩, .play 262143 ⟨0, 0, 0, 0⟩ .failed, .capture 262143 ⟨0, 0, 0, 0⟩,
   .dtypeMismatch 262143 ⟨0, 0, 0, 0⟩, .ringWriteBack 262143 false, .completionRoom 262143,
     .netPacket 3 netPkt] : List Instr)).all (·.wf) = true := by
  decide +kernel

/-- The last identifier of each range is accepted. -/
theorem test_wf_ids_accepted_2 : ((
  [.netFrameTimeout 31, .netLegLoss 31 1, .decodePacket 3 (pkt 0), .jitterWindowClose 3, .decodeLegLoss 3 1,
   .pictureDecoded 3 (picture 1), .encodeCapture 1, .accessUnitDone 1 ⟨[], [], 0⟩, .audioPacket 3 audioPkt, .audioLegLoss 7 1 1,
   .audioBlock 7 [], .sapZeroCrossingChange 7 15, .selectionInstant 3, .frameOrderAckTimeout 3, .engineWatchdogExpiry .a 127,
   .regionComputed .a 511 255 .good, .regionReport 511 255, .replayResult .a 511 255 none 15, .regionSend 63 511 255 [],
   .frameVerdict 3 [], .scrimIdleLatentTest .a 3 {}, .verdictTimeout .a 3, .flipInstant 3, .scrimTableCheck .a ⟨3, none⟩,
   .restingRotation .a 3, .loopTrimUpdate 3, .echoReceived 63 [] [], .statusReceived 63 [] [], .pongReceived 63 [] [] 0,
   .downstreamFrameDiscard 63 ⟨[], []⟩, .tileStatusTimeout 511, .timeSync 63] : List Instr)).all (·.wf) = true := by
  decide +kernel

/-- The last identifier of each range is accepted. -/
theorem test_wf_ids_accepted_3 : ((
  [.keepalive 63, .hopCalPeriodic 63 16, .tileAssign 63, .stageResend 65535 63, .stageAckTimeout 65535 63, .commitRepeat 65535 63,
   .driveRetry 511, .linkSignalDetect 63, .linkBlockLock ⟨63, []⟩, .linkLockTimeout 63, .linkUp 63, .linkDown ⟨63, false, []⟩, .linkQuiet 63,
   .quietSilenceTimeout 63, .microcodeSwitch 3, .refreshDue .hub 7 [], .mr4Read .hub 7 0, .trackingRead .hub 7 0,
   .memoryReadError .hub 7 0 ⟨0, noFlips⟩ .other false, .channelNoData .hub 7, .patrolScrubPass .hub 7 false false,
   .recordRepair .a 511 0, .hashRecompute 511, .bistSliceStart .a 3 0 0, .bistSliceEnd .a 15 false 0, .bistOverdue .a 15,
   .nspHandshake 1 .other false, .nspJcsRequest 1 0 [], .nspReassemblyTimeout 1, .nspData 1 0 [], .nspRegisterRead 1 0 0 0,
   .nspRegisterWrite 1 0 0 0 0] : List Instr)).all (·.wf) = true := by
  decide +kernel

/-- The last identifier of each range is accepted. -/
theorem test_wf_ids_accepted_4 : ((
  [.nspKeepalive 1, .anchor 1 [], .nspSessionTimeout 1, .dieLinkPoison ⟨2, .a, 0⟩ false, .frameOrderAck 3, .regionDmaFault .a 3,
   .regionResetDone .a 3, .upstreamFrameInvalid 63 ⟨[], []⟩, .networkLinkUp 3, .networkLinkDown 3, .configurationRequest 63 .advisory,
   .nspSessionClose 1] : List Instr)).all (·.wf) = true := by
  decide +kernel

/-- An identifier one past the end of its range is refused, for every range check of these rows. -/
theorem test_wf_ids_refused_1 : ((
  [.settingsAreaWrite 2 false, .timingChangeComplete 4, .chainResetCommit 64, .corrProbeCapture 64, .hopCalComplete 64,
   .mboxSubmit 64 0, .requestMailboxWrite 64 0 0 0, .ringDoorbell 64 4095 0, .ringDoorbell 63 4096 0, .bar2Write 64 0 [] false,
   .bar2Read 64 0 0, .msixUnmask 64 none, .registerWrite 64 0 0 0 0, .functionLevelReset 64, .linkReset 4 false, .linkTrainingStart 4,
   .pullSegment 262144 ⟨0, 0, 0, 0⟩, .pullSegmentDone 32 [], .pullTimeout 32, .submit 262144 ⟨0, 0, 0, 0⟩, .cancel 262144 ⟨0, 0, 0, 0⟩,
   .pullBufferWaitEnd 32, .releasePosted 32 7, .releasePosted 31 8, .records 262144 ⟨0, 0, 0, 0⟩, .tileBlock 262144 ⟨0, 0, 0, 0⟩,
   .correctionLoadDone 512 .failed, .encBuf 262144 ⟨0, 0, 0, 0⟩, .play 262144 ⟨0, 0, 0, 0⟩ .failed, .capture 262144 ⟨0, 0, 0, 0⟩,
   .dtypeMismatch 262144 ⟨0, 0, 0, 0⟩, .ringWriteBack 262144 false] : List Instr)).all (fun i => !i.wf) = true := by
  decide +kernel

/-- An identifier one past the end of its range is refused, for every range check of these rows. -/
theorem test_wf_ids_refused_2 : ((
  [.completionRoom 262144, .netPacket 4 netPkt, .netFrameTimeout 32, .netLegLoss 32 1, .netLegLoss 31 2, .decodePacket 4 (pkt 0),
   .jitterWindowClose 4, .decodeLegLoss 4 1, .decodeLegLoss 3 2, .pictureDecoded 4 (picture 1), .encodeCapture 2,
   .accessUnitDone 2 ⟨[], [], 0⟩, .audioPacket 4 audioPkt, .audioLegLoss 8 1 1, .audioLegLoss 7 2 1, .audioLegLoss 7 1 2,
   .audioBlock 8 [], .sapZeroCrossingChange 8 15, .sapZeroCrossingChange 7 16, .selectionInstant 4, .frameOrderAckTimeout 4,
   .engineWatchdogExpiry .a 128, .regionComputed .a 512 255 .good, .regionComputed .a 511 256 .good, .regionReport 512 255,
   .regionReport 511 256, .replayResult .a 512 255 none 15, .replayResult .a 511 256 none 15, .replayResult .a 511 255 none 16,
     .rateMeasured 32, .regionSend 64 511 255 [],
   .regionSend 63 512 255 [], .regionSend 63 511 256 [], .frameVerdict 4 []] : List Instr)).all (fun i => !i.wf) = true := by
  decide +kernel

/-- An identifier one past the end of its range is refused, for every range check of these rows. -/
theorem test_wf_ids_refused_3 : ((
  [.scrimIdleLatentTest .a 4 {}, .verdictTimeout .a 4, .flipInstant 4, .scrimTableCheck .a ⟨4, none⟩, .restingRotation .a 4,
   .loopTrimUpdate 4, .echoReceived 64 [] [], .statusReceived 64 [] [], .pongReceived 64 [] [] 0,
   .downstreamFrameDiscard 64 ⟨[], []⟩, .tileStatusTimeout 512, .timeSync 64, .keepalive 64, .hopCalPeriodic 64 16,
   .hopCalPeriodic 63 17, .tileAssign 64, .stageResend 65536 63, .stageResend 65535 64, .stageAckTimeout 65536 63,
   .stageAckTimeout 65535 64, .commitRepeat 65536 63, .commitRepeat 65535 64, .driveRetry 512, .linkSignalDetect 64,
   .linkBlockLock ⟨64, []⟩, .linkLockTimeout 64, .linkUp 64, .linkDown ⟨64, false, []⟩, .linkQuiet 64, .quietSilenceTimeout 64,
   .microcodeSwitch 4, .refreshDue .hub 8 []] : List Instr)).all (fun i => !i.wf) = true := by
  decide +kernel

/-- An identifier one past the end of its range is refused, for every range check of these rows. -/
theorem test_wf_ids_refused_4 : ((
  [.mr4Read .hub 8 0, .trackingRead .hub 8 0, .memoryReadError .hub 8 0 ⟨0, noFlips⟩ .other false, .channelNoData .hub 8,
   .patrolScrubPass .hub 8 false false, .recordRepair .a 512 0, .hashRecompute 512, .bistSliceStart .a 4 0 0,
   .bistSliceEnd .a 16 false 0, .bistOverdue .a 16, .nspHandshake 2 .other false, .nspJcsRequest 2 0 [], .nspReassemblyTimeout 2,
   .nspData 2 0 [], .nspRegisterRead 2 0 0 0, .nspRegisterWrite 2 0 0 0 0, .nspKeepalive 2, .anchor 2 [], .nspSessionTimeout 2,
   .dieLinkPoison ⟨3, .a, 0⟩ false, .frameOrderAck 4, .regionDmaFault .a 4, .regionResetDone .a 4, .upstreamFrameInvalid 64 ⟨[], []⟩,
   .networkLinkUp 4, .networkLinkDown 4, .configurationRequest 64 .advisory, .nspSessionClose 2] : List Instr)).all (fun i => !i.wf) = true := by
  decide +kernel
/-! ### The words of the table, and worked examples of the spec -/

/-- The opcode table gives no row any bits: no word spells a command, and nothing is put in the queue. -/
theorem test_no_word_spells : decodeTableWord 64 0x0103 = none ∧ (up.withFetchWord 64 0x0103) = up := by decide +kernel

/-- CRC-32C of RFC 3720 (R129): its check value for the nine characters 1 to 9. -/
theorem test_crc32c : crc32c [0x31, 0x32, 0x33, 0x34, 0x35, 0x36, 0x37, 0x38, 0x39] = 0xE3069283#32 := by decide +kernel

end Sys2Proof.Tests
end

/-! ## The host side of the hub: register writes, configuration, resets, failure of the control processor (10) -/

namespace Sys2Proof.Machine

/-! ### Accesses and the MSI-X table (R292, R309) -/

theorem sizeOk_iff (offset size : Nat) : sizeOk offset size = true ↔ (size = 4 ∨ size = 8) ∧ offset % size = 0 := by
  simp [sizeOk]

@[simp] theorem mergeWord_eight (w v : Word) (offset : Nat) : mergeWord w offset 8 v = v := rfl

/-- Where one number below `n` alone has the property, it is the whole list. -/
theorem below_eq_singleton {n v : Nat} {p : Nat → Bool} (hv : v < n) (hp : ∀ u, p u = decide (u = v)) : below n p = [v] := by
  rw [below, show p = fun u => decide (u = v) from funext hp, List.filter_eq,
    List.count_eq_one_of_mem List.nodup_range (List.mem_range.2 hv), List.replicate_one]

/-- Firing pending vectors leaves the entries of every function's table. -/
@[simp] theorem firePending_msixTable (s : State) (f g : Nat) : ((firePending s f).func g).msixTable = (s.func g).msixTable := by
  unfold firePending
  dsimp only
  split
  · rfl
  · refine State.each_keeps (fun s => (s.func g).msixTable) _ _ fun s v => ?_
    rw [State.modFunc_func]
    split
    · next h => rw [h]; rfl
    · rfl

/-- The one pending vector fires once it is unmasked, and is no longer pending (R309). -/
theorem firePending_only {s : State} {f v : Nat} (hen : (s.func f).msixEnabled = true) (hmask : (s.func f).msixMasked = false)
    (hcp : s.hub.cpFailed = false) (hv : v < s.msixCount f) (hun : (Tbl.get {} (s.func f).msixTable v).masked = false)
    (hp : ∀ u, Tbl.get false (s.func f).msixPending u = decide (u = v)) :
    firePending s f =
      (s.emit (.msix f v (Tbl.get {} (s.func f).msixTable v).addr (Tbl.get {} (s.func f).msixTable v).data)).modFunc f
        fun x => { x with msixPending := Tbl.set false x.msixPending v false } := by
  have hl : below (s.msixCount f) (fun u => Tbl.get false (s.func f).msixPending u && !(Tbl.get {} (s.func f).msixTable u).masked)
      = [v] := by
    refine below_eq_singleton hv fun u => ?_
    by_cases h : u = v
    · rw [h, hp, hun, Bool.not_false, Bool.and_true]
    · simp [hp, h]
  simp only [firePending, hen, hmask, hcp, hl, Bool.not_true, Bool.or_false, Bool.false_eq_true, if_false]
  rfl

/-- Unmasking the one pending vector fires it (R309). -/
theorem unmask_fires {s : State} {f v : Nat} (hen : (s.func f).msixEnabled = true) (hmask : (s.func f).msixMasked = false)
    (hcp : s.hub.cpFailed = false) (hv : v < s.msixCount f)
    (hp : ∀ u, Tbl.get false (s.func f).msixPending u = decide (u = v)) :
    (Tbl.get {} ((unmask s f (some v)).func f).msixTable v).masked = false ∧
      Tbl.get false ((unmask s f (some v)).func f).msixPending v = false ∧
      (unmask s f (some v)).out =
        .msix f v (Tbl.get {} (s.func f).msixTable v).addr (Tbl.get {} (s.func f).msixTable v).data :: s.out := by
  have hfire := firePending_only (v := v)
    (s := s.modFunc f fun x => { x with msixTable := Tbl.modify {} x.msixTable v fun e => { e with masked := false } })
    (by simpa using hen) (by simpa using hmask) hcp hv (by simp) (by simpa using hp)
  refine ⟨by simp [unmask], ?_⟩
  rw [unmask, hfire]
  simp

/-- An 8-byte write of the address half of an entry. -/
theorem msixWrite_addr (s : State) (f v : Nat) (value : Word) :
    Tbl.get {} ((msixWrite s f (16 * v) 8 value).func f).msixTable v =
      { Tbl.get {} (s.func f).msixTable v with addr := value } := by
  simp [msixWrite]

/-- An 8-byte write of the data half of an entry leaves every other entry. -/
theorem msixWrite_data (s : State) (f v u : Nat) (value : Word) :
    Tbl.get {} ((msixWrite s f (16 * v + 8) 8 value).func f).msixTable u =
      if u = v then { Tbl.get {} (s.func f).msixTable v with data := value.setWidth 32, masked := bit value 32 }
      else Tbl.get {} (s.func f).msixTable u := by
  have hi : (16 * v + 8) / 16 = v := by omega
  have hm : (16 * v + 8) % 16 = 8 := by omega
  simp [msixWrite, hi, hm, Tbl.get_modify]

/-! ### Mailbox and ring doorbells (R303 to R305) -/

/-- A request submitted to an idle mailbox is taken with the wall time of its doorbell (R303, R316). -/
theorem mboxSubmit_taken {s : State} {f : Nat} (hu : s.inUse f = true) (hst : s.hub.stage = .ready) (hcp : s.hub.cpFailed = false)
    (hb : (s.func f).mbox ≠ .busy) :
    mboxSubmit s f = (s.modHub fun h => { h with accepted := h.accepted ++ [(s.wall, mailboxRequest f (s.func f))] }).modFunc f
      fun x => { x with mbox := .busy, drop := false } := by
  simp [mboxSubmit, hu, hst, hcp, hb]

section Mailbox
variable {s : State} {f offset size : Nat} (value : Word) (hu : s.inUse f = true)
  (hs : (size = 4 ∨ size = 8) ∧ offset % size = 0)
include hu hs

/-- Outside STAGE 6 a write into the request mailbox has no effect (R301). -/
theorem mailboxWrite_unready (hst : s.hub.stage ≠ .ready) : mailboxWrite s f offset size value = s := by
  simp [mailboxWrite, hu, (sizeOk_iff _ _).2 hs, hst]

/-- While the mailbox is BUSY a write is discarded with DROP (R304). -/
theorem mailboxWrite_busy (hst : s.hub.stage = .ready) (hm : (s.func f).mbox = .busy) :
    mailboxWrite s f offset size value = s.modFunc f fun x => { x with drop := true } := by
  simp [mailboxWrite, hu, (sizeOk_iff _ _).2 hs, hst, hm]

/-- Otherwise it is merged into its word of the request (R303). -/
theorem mailboxWrite_stored (hst : s.hub.stage = .ready) (hm : (s.func f).mbox ≠ .busy) :
    mailboxWrite s f offset size value = s.modFunc f fun x =>
      { x with reqMem := Tbl.modify 0 x.reqMem ((offset - 0x1000) / 8) fun w => mergeWord w offset size value } := by
  simp [mailboxWrite, hu, (sizeOk_iff _ _).2 hs, hst, hm]

end Mailbox

/-- A doorbell write of 4 bytes inside the function's run rings its one ring (R305). -/
theorem ringWrite_rings {s : State} {f i : Nat} (hst : s.hub.stage = .ready) (hi : i < s.ringCount f) (value : Word) :
    ringWrite s f (0x4000 + 4 * i) 4 value = s.modRing (s.globalRing f i) fun r => ringRung r (value.setWidth 32) := by
  have hx : (0x4000 + 4 * i - 0x4000) / 4 = i := by omega
  have hn : ¬ s.ringCount f ≤ i := by omega
  simp [ringWrite, hst, hi, hn, State.each]

/-- A doorbell write beyond the function's run counts one violation, whether it names one doorbell or two (R305, R351). -/
theorem ringWrite_beyond {s : State} {f i size : Nat} (hst : s.hub.stage = .ready) (hi : s.ringCount f ≤ i) (value : Word) :
    ringWrite s f (0x4000 + 4 * i) size value = violate s f := by
  have hn : ¬ i < s.ringCount f := by omega
  have hn' : ¬ i + 1 < s.ringCount f := by omega
  by_cases h : size = 8
  · simp [ringWrite, hst, hi, hn, hn', h, State.each]
  · simp [ringWrite, hst, hi, hn, h, State.each]

/-! ### REGISTER_WRITE by its offset (R293, R309, R311) -/

section RegisterWrite
variable {s : State} {f offset size : Nat} {value : Word}

theorem registerWrite_badSize (hu : s.inUse f = true) (bar : Nat) (hs : ¬((size = 4 ∨ size = 8) ∧ offset % size = 0)) :
    exec (.registerWrite f bar offset size value) s = .next (violate s f) := by
  have hs' : sizeOk offset size = false := by rw [← Bool.not_eq_true, sizeOk_iff]; exact hs
  simp [exec, execRegisterWrite, hu, hs']

variable (hu : s.inUse f = true) (hs : (size = 4 ∨ size = 8) ∧ offset % size = 0)
include hu hs

/-- A naturally aligned write of BAR0 goes by its offset alone. -/
theorem registerWrite_bar0 : exec (.registerWrite f 0 offset size value) s = .next
    (if readOnly offset then s
     else if 0x100 ≤ offset ∧ offset < 0x108 then (if offset % 8 = 0 && bit value 0 then mboxSubmit s f else s)
     else if 0x1000 ≤ offset ∧ offset < 0x2000 then mailboxWrite s f offset size value
     else if 0x4000 ≤ offset ∧ offset < 0x8000 then ringWrite s f offset size value
     else violate s f) := by
  simp [exec, execRegisterWrite, hu, (sizeOk_iff _ _).2 hs]

/-- A naturally aligned write of BAR4 goes by its offset alone. -/
theorem registerWrite_bar4 : exec (.registerWrite f 4 offset size value) s = .next
    (if offset < 0x400 then msixWrite s f offset size value
     else if 0x2000 ≤ offset ∧ offset < 0x2008 then s
     else violate s f) := by
  simp [exec, execRegisterWrite, hu, (sizeOk_iff _ _).2 hs]

/-- The identification registers ignore a write (R8). -/
theorem registerWrite_readOnly (ho : offset < 0x20) : exec (.registerWrite f 0 offset size value) s = .next s := by
  simp [registerWrite_bar0 hu hs, readOnly, ho]

theorem registerWrite_doorbell (h1 : 0x100 ≤ offset) (h2 : offset < 0x108) : exec (.registerWrite f 0 offset size value) s = .next
    (if offset % 8 = 0 && bit value 0 then mboxSubmit s f else s) := by
  have hr : readOnly offset = false := by simp [readOnly]; omega
  rw [registerWrite_bar0 hu hs, hr, if_neg Bool.false_ne_true, if_pos ⟨h1, h2⟩]

theorem registerWrite_mailbox (h1 : 0x1000 ≤ offset) (h2 : offset < 0x2000) :
    exec (.registerWrite f 0 offset size value) s = .next (mailboxWrite s f offset size value) := by
  have hr : readOnly offset = false := by simp [readOnly]; omega
  rw [registerWrite_bar0 hu hs, hr, if_neg Bool.false_ne_true, if_neg (by omega), if_pos ⟨h1, h2⟩]

theorem registerWrite_ring (h1 : 0x4000 ≤ offset) (h2 : offset < 0x8000) :
    exec (.registerWrite f 0 offset size value) s = .next (ringWrite s f offset size value) := by
  have hr : readOnly offset = false := by simp [readOnly]; omega
  rw [registerWrite_bar0 hu hs, hr, if_neg Bool.false_ne_true, if_neg (by omega), if_neg (by omega), if_pos ⟨h1, h2⟩]

theorem registerWrite_unmapped0 (h1 : 0x20 ≤ offset)
    (h2 : offset < 0x100 ∨ 0x110 ≤ offset ∧ offset < 0x1000 ∨ 0x3000 ≤ offset ∧ offset < 0x4000 ∨ 0x8000 ≤ offset) :
    exec (.registerWrite f 0 offset size value) s = .next (violate s f) := by
  have hr : readOnly offset = false := by simp [readOnly]; omega
  rw [registerWrite_bar0 hu hs, hr, if_neg Bool.false_ne_true, if_neg (by omega), if_neg (by omega), if_neg (by omega)]

theorem registerWrite_msix (ho : offset < 0x400) :
    exec (.registerWrite f 4 offset size value) s = .next (msixWrite s f offset size value) := by
  rw [registerWrite_bar4 hu hs, if_pos ho]

theorem registerWrite_unmapped4 (h1 : 0x400 ≤ offset) (h2 : offset < 0x2000 ∨ 0x2008 ≤ offset) :
    exec (.registerWrite f 4 offset size value) s = .next (violate s f) := by
  rw [registerWrite_bar4 hu hs, if_neg (by omega), if_neg (by omega)]

end RegisterWrite

/-! ### What a restart and a function reset do to the hub (R290, R304, R321, R326) -/

theorem State.func_of_hub {s t : State} (h : t.hub = s.hub) (f : Nat) : t.func f = s.func f := by rw [State.func, h, State.func]

theorem State.link_of_links {s t : State} (h : t.hub.links = s.hub.links) (l : Nat) : t.link l = s.link l := by
  rw [State.link, h, State.link]

@[simp] theorem State.modFunc_hubLinks (s : State) (f : Nat) (g : Func → Func) : (s.modFunc f g).hub.links = s.hub.links := rfl

@[simp] theorem lapseProposal_hub (s : State) (cause : Nat) : (lapseProposal s cause).hub = s.hub :=
  (lapseProposal_does s cause).same.hub (by decide)

/-- A cause of a vector is lost, latched or sent as a message; only a function with MSI-X enabled latches it (R309). -/
theorem signal_cases (s : State) (f v : Nat) : signal s f v = s ∨ (∃ o, signal s f v = s.emit o) ∨
    ((s.func f).msixEnabled = true ∧
      signal s f v = s.modFunc f fun x => { x with msixPending := Tbl.set false x.msixPending v true }) := by
  unfold signal
  dsimp only
  split
  · exact .inl rfl
  · next hen =>
    split
    · exact .inr (.inr ⟨by cases h : (s.func f).msixEnabled <;> simp [h] at hen ⊢, rfl⟩)
    · exact .inr (.inl ⟨_, rfl⟩)

theorem signal_hubLinks (s : State) (f v : Nat) : (signal s f v).hub.links = s.hub.links := by
  obtain h | ⟨o, h⟩ | ⟨-, h⟩ := signal_cases s f v <;> rw [h] <;> rfl

theorem signalStage_hubLinks (s : State) : (signalStage s).hub.links = s.hub.links :=
  State.each_keeps (fun s => s.hub.links) _ _ fun s f => signal_hubLinks s f 0

theorem setStage_hubLinks (s : State) (g : Stage) : (setStage s g).hub.links = s.hub.links := by
  unfold setStage
  split
  · rfl
  · exact signalStage_hubLinks _

theorem dropRequests_hubLinks (s : State) : (dropRequests s).hub.links = s.hub.links := by
  refine State.each_keeps (fun s => s.hub.links) _ _ fun s x => ?_
  split <;> rfl

/-- A restart leaves the PCI Express links. -/
theorem beginRestart_hubLinks (s : State) : (beginRestart s).hub.links = s.hub.links := by
  rw [beginRestart, setStage_hubLinks, dropRequests_hubLinks, lapseProposal_hub, State.modHub_hub]

theorem beginDue_hubLinks (s : State) : (beginDue s).hub.links = s.hub.links := by
  unfold beginDue
  split
  · exact beginRestart_hubLinks s
  · rfl

theorem signal_accepted (s : State) (f v : Nat) : (signal s f v).hub.accepted = s.hub.accepted := by
  obtain h | ⟨o, h⟩ | ⟨-, h⟩ := signal_cases s f v <;> rw [h] <;> rfl

/-- A restart leaves no request behind. -/
theorem beginRestart_accepted (s : State) : (beginRestart s).hub.accepted = [] := by
  unfold beginRestart setStage
  split
  · rfl
  · exact State.each_keeps (fun s => s.hub.accepted) _ _ fun s f => signal_accepted s f 0

/-- What a restart keeps of a function that has been reset, with the violation counter `n`. -/
structure Cleared (f : Nat) (n : BitVec 32) (s : State) : Prop where
  mbox       : (s.func f).mbox = .idle
  table      : (s.func f).msixTable = []
  disabled   : (s.func f).msixEnabled = false
  longs      : (s.func f).longs = []
  violations : (s.func f).violations = n

section Restart
variable {f : Nat} {n : BitVec 32} {s : State}

theorem Cleared.congr {t : State} (h : Cleared f n s) (ht : t.func f = s.func f) : Cleared f n t := by
  obtain ⟨hm, ht', hd, hl, hv⟩ := h
  exact ⟨by rwa [ht], by rwa [ht], by rwa [ht], by rwa [ht], by rwa [ht]⟩

/-- A cause of a vector leaves a function with MSI-X disabled, and never touches another function. -/
theorem Cleared.signal (h : Cleared f n s) (g v : Nat) : Cleared f n (signal s g v) := by
  obtain he | ⟨o, he⟩ | ⟨hen, he⟩ := signal_cases s g v <;> rw [he]
  · exact h
  · exact h.congr rfl
  · have hg : f ≠ g := by rintro rfl; simp [h.disabled] at hen
    exact h.congr (by rw [State.modFunc_func, if_neg hg])

theorem Cleared.setStage (h : Cleared f n s) (g : Stage) : Cleared f n (setStage s g) := by
  unfold Machine.setStage
  split
  · exact h
  · exact State.each_preserves _ _ _ (fun s g hs => hs.signal g 0) (h.congr rfl)

/-- Dropping the requests taken only returns mailboxes to IDLE. -/
theorem Cleared.dropRequests (h : Cleared f n s) : Cleared f n (dropRequests s) := by
  have hstep : ∀ (s : State) (x : Nat × Req), Cleared f n s → Cleared f n
      (if x.2.src < 64 then s.modFunc x.2.src fun f => { f with mbox := .idle }
       else s.modNsp (x.2.src - 64) fun n => { n with pendingReq := false }) := by
    intro s x hs
    split
    · by_cases hx : f = x.2.src
      · subst hx
        obtain ⟨-, ht, hd, hl, hv⟩ := hs
        exact ⟨by simp, by simpa using ht, by simpa using hd, by simpa using hl, by simpa using hv⟩
      · exact hs.congr (by rw [State.modFunc_func, if_neg hx])
    · exact hs.congr rfl
  exact (State.each_preserves (Cleared f n) _ _ hstep h).congr rfl

theorem Cleared.beginRestart (h : Cleared f n s) : Cleared f n (beginRestart s) := by
  refine Cleared.setStage (Cleared.dropRequests (h.congr ?_)) _
  exact State.func_of_hub (s := s.modHub fun h => { h with restartDue := false }) (lapseProposal_hub _ 2) f

theorem Cleared.beginDue (h : Cleared f n s) : Cleared f n (beginDue s) := by
  unfold Machine.beginDue
  split
  · exact h.beginRestart
  · exact h

/-- A restart that falls due leaves the requests taken, or none. -/
theorem beginDue_accepted (s : State) : (beginDue s).hub.accepted = s.hub.accepted ∨ (beginDue s).hub.accepted = [] := by
  unfold beginDue
  split
  · exact .inr (beginRestart_accepted s)
  · exact .inl rfl

end Restart

/-- A function as a function-level reset leaves it (R290): memory of its mailboxes, counters, and what CORR_PROBE_READ reads. -/
def Func.afterReset (x : Func) : Func :=
  { reqMem := x.reqMem, respMem := x.respMem, violations := x.violations, longCount := x.longCount, probes := x.probes,
    capture := x.capture }

/-- Of the hub, a function reset changes the function itself and drops its requests. -/
theorem resetFunction_hub (s : State) (f : Nat) : (resetFunction s f).hub =
    { s.hub with accepted := s.hub.accepted.filter fun x => x.2.src ≠ f
                 funcs := Tbl.modify {} s.hub.funcs f Func.afterReset } := by
  have hrings : (resetRings s f).hub = s.hub := (resetRings_does s f).same.hub (by decide)
  have hslots : ∀ l : List Nat, ((resetRings s f).each l stopSlot).hub = s.hub := fun l =>
    (State.each_keeps (fun s => s.hub) l stopSlot fun s k => (stopSlot_does s k).same.hub (by decide)).trans hrings
  unfold resetFunction
  dsimp only
  repeat' split
  all_goals
    simp only [lapseProposal_hub, State.modFunc, State.modHub_hub, State.modMedia_hub, hslots]
    rfl

theorem resetFunction_cleared (s : State) (f : Nat) : Cleared f (s.func f).violations (resetFunction s f) := by
  have h : (resetFunction s f).func f = (s.func f).afterReset := by
    rw [State.func, resetFunction_hub]; exact Tbl.get_modify_self ..
  exact ⟨by rw [h]; rfl, by rw [h]; rfl, by rw [h]; rfl, by rw [h]; rfl, by rw [h]; rfl⟩

/-- No request of a function outlives its reset (R304). -/
theorem resetFunction_accepted (s : State) (f : Nat) : ∀ q ∈ (resetFunction s f).hub.accepted, q.2.src ≠ f := by
  intro q hq
  rw [resetFunction_hub] at hq
  simpa using (List.mem_filter.1 hq).2

/-- Resetting the functions of a link changes the settings of that link alone (R284). -/
theorem resetLinkFunctions_link (s : State) (l k : Nat) : (resetLinkFunctions s l).link k =
    if k = l then { s.link l with numVfs := 0, vfOn := false, ari := false, vfBars := [] } else s.link k := by
  have heach : (s.each (List.range 16) fun s i => resetFunction s (16 * l + i)).hub.links = s.hub.links :=
    State.each_keeps (fun s => s.hub.links) _ _ fun s i => by rw [resetFunction_hub]
  rw [resetLinkFunctions, State.link_of_links (beginDue_hubLinks _), State.modLink_link, State.link_of_links heach,
    State.link_of_links heach]

/-! ### The rows -/

/-- FUNCTION_LEVEL_RESET of a VF (R290). -/
theorem functionLevelReset_vf {s : State} {f : Nat} (hf : f % 16 ≠ 0) (hu : s.inUse f = true) :
    ∃ t, exec (.functionLevelReset f) s = .next t ∧ Cleared f (s.func f).violations t ∧ ∀ q ∈ t.hub.accepted, q.2.src ≠ f := by
  refine ⟨beginDue (resetFunction s f), by simp [exec, execFunctionLevelReset, hu, hf], (resetFunction_cleared s f).beginDue, ?_⟩
  cases beginDue_accepted (resetFunction s f) with
  | inl h => rw [h]; exact resetFunction_accepted s f
  | inr h => simp [h]

/-- LINK_RESET (R284). -/
theorem linkReset_link (s : State) (l : Nat) (perst : Bool) : ∃ t, exec (.linkReset l perst) s = .next t ∧ ∀ k, t.link k =
    if k = l then { s.link l with numVfs := 0, vfOn := false, ari := false, vfBars := [], state := .down, perst := perst }
    else s.link k := by
  refine ⟨_, rfl, fun k => ?_⟩
  rw [State.modLink_link, resetLinkFunctions_link, resetLinkFunctions_link]
  by_cases h : k = l <;> simp [h]

/-- LINK_TRAINING_START of an active link (R286). -/
theorem linkTrainingStart_link {s : State} {l : Nat} (hl : l < linkCount s.hub.straps) (href : s.clocks.refOk = true)
    (hst : s.hub.stage ≠ .reset) : ∃ t, exec (.linkTrainingStart l) s = .next t ∧ ∀ k, t.link k =
      if k = l then { s.link l with perst := false, state := .up } else s.link k := by
  refine ⟨(s.modLink l fun x => { x with perst := false }).modLink l fun x => { x with state := .up },
    by simp [exec, execLinkTrainingStart, hl, href, hst], fun k => ?_⟩
  rw [State.modLink_link, State.modLink_link, State.modLink_link]
  by_cases h : k = l <;> simp [h]

/-- A base that is written stands aligned to the size of its BAR (R291). -/
theorem barBase_written {s : State} {f bar : Nat} {base : Word} (hup : (s.link (f / 16)).state = .up) (hf : f % 16 = 0)
    (hb : barSize bar ≠ 0) : ∃ t, exec (.configurationRequest f (.barBase bar base)) s = .next t ∧
      t.barOf f bar = barBase bar base := by
  refine ⟨s.modFunc f fun x => { x with bars := Tbl.set 0 x.bars bar (barBase bar base) },
    by simp [exec, execConfigurationRequest, hup, hf, hb], ?_⟩
  simp [State.barOf, hf]

/-- BEAT rises from STAGE 2 on (R297). -/
theorem hubBeat_counts {s : State} (hcp : s.hub.cpFailed = false) (h0 : s.hub.stage ≠ .reset) (h1 : s.hub.stage ≠ .primer) :
    exec .hubBeat s = .next (s.modHub fun h => { h with beat := h.beat + 1 }) := by
  simp [exec, execHubBeat, hcp, h0, h1]

/-- Once the control processor has failed BEAT stops (R33). -/
theorem hubBeat_stopped {s : State} (hcp : s.hub.cpFailed = true) : exec .hubBeat s = .next s := by
  simp [exec, execHubBeat, hcp]

theorem stopCodec_decs (s : State) : ∀ x ∈ (stopCodec s).media.decs, x.2.running = false := by
  intro x hx
  obtain ⟨y, -, rfl⟩ := List.mem_map.1 hx
  rfl

theorem stopCodec_encs (s : State) : ∀ x ∈ (stopCodec s).media.encs, x.2.running = false := by
  intro x hx
  obtain ⟨y, -, rfl⟩ := List.mem_map.1 hx
  rfl

/-- Settles O12: each clause is a branch of its row, which the lemmas above name; a reset keeps its effect on the function and the
link through the restart that may fall due with it. -/
theorem hostInterface : Obligations.HostInterface := by
  unfold Obligations.HostInterface
  refine ⟨?configuration, ?registers, ?resets, ?failure⟩
  case configuration =>
    intro s f hu hup
    refine ⟨fun bar _ _ _ _ hs => registerWrite_badSize hu bar hs, fun _ _ _ hs ha ho => registerWrite_readOnly hu ⟨hs, ha⟩ ho,
      ?unmask, ?numVfs, ?read, ?ari, ?aspm, ?bar, ?msixEnable, ?dState⟩
    case unmask =>
      intro v hen hmask hcp hv hp
      exact ⟨unmask s f (some v), by simp [exec, execMsixUnmask, hu], unmask_fires hen hmask hcp hv hp⟩
    case numVfs => intro n hf hvf; simp [exec, execConfigurationRequest, hup, hf, hvf]
    case read => intro field; simp [exec, execConfigurationRequest, hup, hu]
    case ari => intro on hf; simp [exec, execConfigurationRequest, hup, hf]
    case aspm => intro l1; simp [exec, execConfigurationRequest, hup, hu]
    case bar =>
      intro bar base hf hb
      obtain rfl | rfl | rfl := hb <;> exact barBase_written hup hf (by decide)
    case msixEnable => intro on; simp [exec, execConfigurationRequest, hup, hu]
    case dState => intro d3; simp [exec, execConfigurationRequest, hup, hu]
  case registers =>
    intro s f size value hu
    refine ⟨?doorbell, ?mailbox, ?rings, ?msix, ?unmapped⟩
    case doorbell =>
      intro offset h1 h2 hs ha
      refine ⟨_, registerWrite_doorbell hu ⟨hs, ha⟩ h1 h2, ?submitted, ?plain⟩
      case submitted =>
        intro hb ho hst hcp hm
        subst ho
        rw [if_pos (by simp [hb]), mboxSubmit_taken hu hst hcp hm]
        exact ⟨by simp, by simp, rfl⟩
      case plain => intro hb; simp [hb]
    case mailbox =>
      intro offset h1 h2 hs ha
      exact ⟨_, registerWrite_mailbox hu ⟨hs, ha⟩ h1 h2,
        fun hst => ⟨mailboxWrite_busy value hu ⟨hs, ha⟩ hst, mailboxWrite_stored value hu ⟨hs, ha⟩ hst⟩,
        mailboxWrite_unready value hu ⟨hs, ha⟩⟩
    case rings =>
      intro i hi hst
      refine ⟨fun hc => ⟨_, registerWrite_ring hu (by omega) (by omega) (by omega), ?_⟩, fun hc => ?_, fun hc h2 => ?_⟩
      · rw [ringWrite_rings hst hc]
        exact ⟨State.modRing_ring_self .., fun j hj => by rw [State.modRing_ring, if_neg hj]⟩
      · rw [registerWrite_ring hu (by omega) (by omega) (by omega), ringWrite_beyond hst hc]
      · rw [registerWrite_ring hu (by omega) (by omega) (by omega), ringWrite_beyond hst hc]
    case msix =>
      intro v hv
      refine ⟨⟨_, registerWrite_msix hu (by omega) (by omega), msixWrite_addr s f v value⟩,
        ⟨_, registerWrite_msix hu (by omega) (by omega), ?_, fun u hne => ?_⟩⟩
      · rw [msixWrite_data, if_pos rfl]
      · rw [msixWrite_data, if_neg hne]
    case unmapped =>
      intro offset hs ha
      exact ⟨registerWrite_unmapped0 hu ⟨hs, ha⟩, registerWrite_unmapped4 hu ⟨hs, ha⟩⟩
  case resets =>
    intro s f l perst
    refine ⟨fun _ hf hu => ?function, fun _ => ?link, fun hl href hst => ?training⟩
    case function =>
      obtain ⟨t, ht, hc, hq⟩ := functionLevelReset_vf hf hu
      exact ⟨t, ht, hc.mbox, hc.table, hc.disabled, hc.longs, hc.violations, hq⟩
    case link =>
      obtain ⟨t, ht, hk⟩ := linkReset_link s l perst
      exact ⟨t, ht, by simp [hk], by simp [hk], by simp [hk], by simp [hk], fun k hne => by rw [hk, if_neg hne]⟩
    case training =>
      obtain ⟨t, ht, hk⟩ := linkTrainingStart_link hl href hst
      exact ⟨t, ht, by simp [hk], by simp [hk], fun k hne => by rw [hk, if_neg hne]⟩
  case failure =>
    intro s
    exact ⟨hubBeat_counts, failCp s, rfl, rfl, rfl, rfl, stopCodec_decs _, stopCodec_encs _, hubBeat_stopped rfl⟩

end Sys2Proof.Machine

/-! ## The twin dies: what operations leave of a die, of its clusters and of its regions (01) -/

namespace Sys2Proof.Machine

/-- What an operation on other parts of the state leaves of a die. -/
theorem Same.die {l : List Part} {s t : State} (h : Same l s t) (hl : Part.dies ∉ l) (d : DieId) : t.die d = s.die d := by
  cases d
  · exact congrArg Dies.a (h.dies hl)
  · exact congrArg Dies.b (h.dies hl)

/-- What an operation on other parts of the state leaves of a die's operating point. -/
theorem Same.opState {l : List Part} {s t : State} (h : Same l s t) (hl : Part.clocks ∉ l) (d : DieId) : t.opState d = s.opState d := by
  cases d
  · exact congrArg Clocks.opA (h.clocks hl)
  · exact congrArg Clocks.opB (h.clocks hl)

section
variable (s : State) (d e : DieId)

/-! ### Reading a cluster or a region after a change -/

@[simp] theorem Die.modCluster_cluster_self (x : Die) (c : Nat) (g : Cluster → Cluster) :
    (x.modCluster c g).cluster c = g (x.cluster c) := Tbl.get_modify_self ..

theorem Die.modCluster_cluster_ne (x : Die) {c k : Nat} (g : Cluster → Cluster) (h : k ≠ c) :
    (x.modCluster c g).cluster k = x.cluster k := Tbl.get_modify_ne _ _ _ h

@[simp] theorem Die.modRegion_region_self (x : Die) (r : Nat) (g : Region → Region) :
    (x.modRegion r g).region r = g (x.region r) := Tbl.get_modify_self ..

@[simp] theorem Die.modCluster_region (x : Die) (c r : Nat) (g : Cluster → Cluster) :
    (x.modCluster c g).region r = x.region r := rfl

@[simp] theorem Die.modRegion_cluster (x : Die) (r c : Nat) (g : Region → Region) :
    (x.modRegion r g).cluster c = x.cluster c := rfl

@[simp] theorem State.modCluster_die (c : Nat) (g : Cluster → Cluster) :
    (s.modCluster d c g).die d = (s.die d).modCluster c g := by rw [State.modCluster, State.modDie_die, if_pos rfl]

@[simp] theorem State.modRegion_die (r : Nat) (g : Region → Region) :
    (s.modRegion d r g).die d = (s.die d).modRegion r g := by rw [State.modRegion, State.modDie_die, if_pos rfl]

/-! ### What leaves every die -/

@[simp] theorem raise_die (src code : Nat) (data : Word) (frame : Nat) (t : Option Nat) :
    (raise s src code data frame t).die d = s.die d := (raise_does s src code data frame t).same.die (by decide) d

@[simp] theorem setTargets_die : (setTargets s).die d = s.die d := (setTargets_does s).same.die (by decide) d

@[simp] theorem countShed_die (x : Die3) : (countShed s x).die d = s.die d := (countShed_does s x).same.die (by decide) d

@[simp] theorem State.modOp_die (g : OpState → OpState) : (s.modOp e g).die d = s.die d :=
  (State.modOp_does s e g).same.die (by decide) d

@[simp] theorem State.modVote_die (v : Vote) (f : Vote → Vote) : (s.modVote v f).die d = s.die d := State.modTwin_die ..

@[simp] theorem State.modTile_die (t : Nat) (g : Tile → Tile) : (s.modTile t g).die d = s.die d :=
  (State.modTile_does s t g).same.die (by decide) d

@[simp] theorem endUses_die (c n : Nat) : (endUses s c n).die d = s.die d := (endUses_does s c n).same.die (by decide) d

@[simp] theorem endVote_die (v : Vote) (outcome cluster : Nat) (x : Option (BitVec 32)) :
    (endVote s v outcome cluster x).die d = s.die d := by
  unfold endVote
  dsimp only
  split <;> simp

@[simp] theorem inconclusive_die (v : Vote) : (inconclusive s v).die d = s.die d := by simp [inconclusive]

@[simp] theorem State.modPort_die (p : Nat) (g : Port → Port) : (s.modPort p g).die d = s.die d :=
  (State.modPort_does s p g).same.die (by decide) d

@[simp] theorem State.modResults_die (f : Tbl (Option RegionRes) → Tbl (Option RegionRes)) : (s.modResults e f).die d = s.die d :=
  (State.modResults_does s e f).same.die (by decide) d

@[simp] theorem State.modTime_die (f : Time → Time) : (s.modTime f).die d = s.die d :=
  (State.modTime_does s f).same.die (by decide) d

@[simp] theorem setMemory_die (m : MemMode) : (setMemory s e m).die d = s.die d := (setMemory_does s e m).same.die (by decide) d

@[simp] theorem judgeIfIn_die (k : Nat) : (judgeIfIn s k).die d = s.die d := (judgeIfIn_does s k).same.die (by decide) d

@[simp] theorem closeWindows_die (p : CalItem → Bool) : (closeWindows s p).die d = s.die d :=
  (closeWindows_does s p).same.die (by decide) d

@[simp] theorem followGm_die (before : State) : (followGm before s).die d = s.die d :=
  (followGm_does before s).same.die (by decide) d

@[simp] theorem setMcStep_die (n : Nat) : (setMcStep s n).die d = s.die d := (setMcStep_does s n).same.die (by decide) d

@[simp] theorem sendCommand_die (cmd : Nat) : (sendCommand s e cmd).die d = s.die d := (sendCommand_does s e cmd).same.die (by decide) d

@[simp] theorem roleChange_die (st : ArbState) : (roleChange s st).die d = s.die d := State.modTwin_die ..

@[simp] theorem setCause_die (cause : Nat) : (setCause s e cause).die d = s.die d := State.modTwin_die ..

@[simp] theorem State.modScrim_die (r : Nat) (g : Scrim → Scrim) : (s.modScrim e r g).die d = s.die d :=
  (State.modScrim_does s e r g).same.die (by decide) d

@[simp] theorem markUnblocked_die (r : Nat) : (markUnblocked s e r).die d = s.die d :=
  (markUnblocked_does s e r).same.die (by decide) d

@[simp] theorem abandonVotes_die : (abandonVotes s).die d = s.die d := by
  unfold abandonVotes
  refine (State.each_keeps (fun s => s.die d) _ _ fun s v => endUses_die ..).trans ?_
  exact (State.modTwin_die ..).trans (State.each_keeps (fun s => s.die d) _ _ fun s v => State.modTile_die ..)

@[simp] theorem undoPromotion_die (taken : Bool) : (undoPromotion s taken).die d = s.die d := by
  unfold undoPromotion
  repeat' split
  all_goals simp

@[simp] theorem promoteDie_die : (promoteDie s e).die d = s.die d := by simp [promoteDie]

@[simp] theorem succeed_die : (succeed s e).die d = s.die d := by
  unfold succeed
  split <;> simp

/-! ### What leaves every operating point -/

@[simp] theorem State.modCluster_opState (c : Nat) (g : Cluster → Cluster) : (s.modCluster e c g).opState d = s.opState d :=
  (State.modCluster_does s e c g).same.opState (by decide) d

@[simp] theorem State.modRegion_opState (r : Nat) (g : Region → Region) : (s.modRegion e r g).opState d = s.opState d :=
  (State.modRegion_does s e r g).same.opState (by decide) d

@[simp] theorem countShed_opState (x : Die3) : (countShed s x).opState d = s.opState d :=
  (countShed_does s x).same.opState (by decide) d

/-! ### What leaves every cluster -/

@[simp] theorem sendHeartbeat_cluster (c : Nat) : ((sendHeartbeat s d).die e).cluster c = (s.die e).cluster c := by
  cases d <;> cases e <;> rfl

/-- A fatal declaration is a matter of the die's registers (R257). -/
@[simp] theorem declareFatal_cluster (cause c : Nat) : ((declareFatal s d cause).die e).cluster c = (s.die e).cluster c := by
  unfold declareFatal
  split
  · rfl
  · rw [sendHeartbeat_cluster]; cases d <;> cases e <;> rfl

@[simp] theorem loseTie_cluster (v : Vote) (c : Nat) : ((loseTie s v d).die e).cluster c = (s.die e).cluster c := by
  simp [loseTie]

@[simp] theorem settleTie_cluster (v : Vote) (c : Nat) : ((settleTie s v).die e).cluster c = (s.die e).cluster c := by
  unfold settleTie
  repeat' split
  all_goals simp

@[simp] theorem tieResult_cluster (k : Nat) (x : Option Bool) (c : Nat) :
    ((tieResult s d k x).die e).cluster c = (s.die e).cluster c := by
  unfold tieResult
  split <;> simp

@[simp] theorem recordError_cluster (k : ErrKind) (c : Nat) : ((recordError s d k).die e).cluster c = (s.die e).cluster c := by
  cases d <;> cases e <;> rfl

@[simp] theorem State.modRegion_cluster (r : Nat) (g : Region → Region) (c : Nat) :
    ((s.modRegion d r g).die e).cluster c = (s.die e).cluster c := by
  cases d <;> cases e <;> rfl

@[simp] theorem loseRegion_cluster (r c : Nat) : ((loseRegion s d r).die e).cluster c = (s.die e).cluster c := by
  unfold loseRegion
  dsimp only
  split
  · refine (congrArg (Die.cluster · c) (State.each_keeps (fun s => s.die e) _ _ fun s k => ?_)).trans (by simp)
    exact (State.modPort_does s _ _).same.die (by decide) e
  · simp

/-! ### Slices that abort, clusters that retire -/

/-- A slice that aborts ends and is counted; its index runs again (R525). -/
theorem abortSlice_self (c : Nat) : ((abortSlice s d c).die d).cluster c =
    if ((s.die d).cluster c).slice then
      { (s.die d).cluster c with slice := false, aborted := ((s.die d).cluster c).aborted + 1, stores := [] }
    else (s.die d).cluster c := by
  unfold abortSlice
  split <;> simp

theorem abortSlice_ne {c k : Nat} (h : k ≠ c) : ((abortSlice s d c).die d).cluster k = (s.die d).cluster k := by
  unfold abortSlice
  split
  · rw [State.modCluster_die, Die.modCluster_cluster_ne _ _ h]
  · rfl

@[simp] theorem abortSlice_region (c r : Nat) : ((abortSlice s d c).die d).region r = (s.die d).region r := by
  unfold abortSlice
  split <;> simp

/-- Cluster `c` of die `d` is out of service, and an error of the die (R29, R268). -/
def outOfService (c : Nat) (why : Retired) : State :=
  recordError ((abortSlice s d c).modCluster d c fun x =>
    { x with retired := why, retTime := s.wall, spare := false, slice := false, stores := [] }) d .retirement

/-- The resting cluster of a retired cluster's region serves as spare (R25). -/
def restingServes (c : Nat) : State :=
  match (s.die d).restingCluster (c / 4) with
  | some k =>
    let s1 := s.modRegion d (c / 4) fun x => { x with resting := none }
    if k = c then s1 else (scrubCluster (abortSlice s1 d k) d k).modCluster d k fun x => { x with spare := true }
  | none => s

theorem retireCluster_eq {c : Nat} (why : Retired) (h : (s.die d).serviceable c = true) : retireCluster s d c why =
    if 3 ≤ (below 4 fun q => !((restingServes (outOfService s d c why) d c).die d).serviceable (4 * (c / 4) + q)).length
    then loseRegion (restingServes (outOfService s d c why) d c) d (c / 4) else restingServes (outOfService s d c why) d c := by
  simp only [retireCluster, h, Bool.not_true, Bool.false_eq_true, if_false]
  rfl

/-- The cluster that serves as spare is another one. -/
theorem restingServes_cluster (c : Nat) : ((restingServes s d c).die d).cluster c = (s.die d).cluster c := by
  unfold restingServes
  split
  · next k _ =>
    dsimp only
    split
    · simp
    · next hk =>
      have hc : c ≠ k := fun e => hk e.symm
      rw [scrubCluster, State.modCluster_die, Die.modCluster_cluster_ne _ _ hc, State.modCluster_die,
        Die.modCluster_cluster_ne _ _ hc, abortSlice_ne _ _ hc, State.modRegion_cluster]
  · rfl

/-- A cluster that retires keeps the index of its failed slice (R29, R541). -/
theorem retireCluster_self {c : Nat} (why : Retired) (h : (s.die d).serviceable c = true) :
    (((retireCluster s d c why).die d).cluster c).retired = why ∧
      (((retireCluster s d c why).die d).cluster c).failSlice = ((s.die d).cluster c).failSlice := by
  have hout : ((retireCluster s d c why).die d).cluster c = ((outOfService s d c why).die d).cluster c := by
    rw [retireCluster_eq s d why h]
    split
    · rw [loseRegion_cluster, restingServes_cluster]
    · rw [restingServes_cluster]
  rw [hout, outOfService, recordError_cluster, State.modCluster_die, Die.modCluster_cluster_self, abortSlice_self]
  exact ⟨rfl, by dsimp only; split <;> rfl⟩

end

end Sys2Proof.Machine

/-! ## Self-test slices, retirement and the resting rotation (R25, R521 to R525) -/

namespace Sys2Proof.Machine

/-- A slice's opportunity (R521, R522): it starts where it may, and is skipped and counted elsewhere. -/
theorem bistSliceStart_spec {s : State} {d : DieId} {r c : Nat} (v t : Int) (hcp : s.hub.cpFailed = false) (hup : s.up d = true)
    (hturn : sliceTurn s d r = true) (hrest : (s.die d).restingCluster r = some c) :
    ∃ u, exec (.bistSliceStart d r v t) s = .next u ∧ ((u.die d).region r).sliceAt = some s.uptime ∧ (u.opState d).vout = some v ∧
      ((u.die d).cluster c).slice = (sliceMay s d r c v t || ((s.die d).cluster c).slice) ∧
      ((u.die d).cluster c).skipped =
        if sliceMay s d r c v t then ((s.die d).cluster c).skipped else ((s.die d).cluster c).skipped + 1 := by
  refine ⟨_, by
    simp only [exec, execBistSliceStart, hcp, hup, hturn, hrest, Bool.not_true, Bool.or_self, Bool.false_eq_true, if_false]; rfl, ?_⟩
  split
  · next hmay => simp [hmay]
  · next hmay => split <;> simp [hmay]

/-- A slice that ends with the signature of the build (R523). -/
theorem slicePassed_cluster (s : State) (d : DieId) (c : Nat) :
    (((slicePassed s d c).die d).cluster c).passed = ((s.die d).cluster c).passed + 1 ∧
      (((slicePassed s d c).die d).cluster c).next = (((s.die d).cluster c).next + 1) % 384 ∧
      (((slicePassed s d c).die d).cluster c).slice = false ∧
      (((slicePassed s d c).die d).cluster c).sets =
        if ((s.die d).cluster c).next = 383 then ((s.die d).cluster c).sets + 1 else ((s.die d).cluster c).sets := by
  unfold slicePassed
  dsimp only
  split <;> simp

section SliceEnd
variable {s : State} {d : DieId} {c : Nat} {g : Word} (h : ((s.die d).cluster c).slice = true)
include h

theorem bistSliceEnd_aborts : exec (.bistSliceEnd d c false g) s = .next (tieResult (abortSlice s d c) d c none) := by
  simp [exec, execBistSliceEnd, h]

theorem bistSliceEnd_passes (hg : g = Config.bistSignature s.hub.fwVersion ((s.die d).cluster c).next) :
    exec (.bistSliceEnd d c true g) s = .next (tieResult (slicePassed s d c) d c (some true)) := by
  simp [exec, execBistSliceEnd, h, hg]

/-- Another signature retires the cluster, with the index of the slice that failed (R523, R541). -/
theorem bistSliceEnd_fails (hserv : (s.die d).serviceable c = true)
    (hg : g ≠ Config.bistSignature s.hub.fwVersion ((s.die d).cluster c).next) :
    ∃ u, exec (.bistSliceEnd d c true g) s = .next u ∧ ((u.die d).cluster c).retired = .bist ∧
      ((u.die d).cluster c).failSlice = ((s.die d).cluster c).next := by
  have hserv' : ((s.modCluster d c fun y => { y with slice := false, failSlice := y.next, stores := [] }).die d).serviceable c
      = true := by
    simpa [Die.serviceable] using hserv
  obtain ⟨hret, hfail⟩ := retireCluster_self _ d .bist hserv'
  refine ⟨_, by simp only [exec, execBistSliceEnd, h, hg, decide_false, Bool.not_true, Bool.false_eq_true, if_false]; rfl, ?_, ?_⟩
  · rw [tieResult_cluster, raise_die, hret]
  · rw [tieResult_cluster, raise_die, hfail, State.modCluster_die, Die.modCluster_cluster_self]

end SliceEnd

/-- A set 45 minutes of eligible time late is noted, and holds the die at OP2 (R524). -/
theorem bistOverdue_spec {s : State} {d : DieId} {c : Nat} (hserv : (s.die d).serviceable c = true) (hc : c < 16) :
    ∃ u, exec (.bistOverdue d c) s = .next u ∧
      ((u.die d).cluster c).late45 =
        (((s.die d).cluster c).late45 || decide (((s.die d).cluster c).setElig + 2700000 ≤ (s.therm d.die3).eligMs)) ∧
      (((s.die d).cluster c).setElig + 2700000 ≤ (s.therm d.die3).eligMs → u.bistHolds d = true) := by
  refine ⟨_, by simp only [exec, execBistOverdue, hserv, Bool.not_true, Bool.false_eq_true, if_false]; rfl, ?_⟩
  have hretired : ((s.die d).cluster c).retired = .no := by simpa [Die.serviceable] using hserv
  have hholds : ∀ u : State, ((u.die d).cluster c).retired = .no → ((u.die d).cluster c).late45 = true → u.bistHolds d = true :=
    fun u hu hl => List.any_eq_true.2 ⟨c, List.mem_range.2 hc, by simp [Die.serviceable, hu, hl]⟩
  split
  · exact ⟨by simp, fun hlate => hholds _ (by simpa using hretired) (by simp [hlate])⟩
  · exact ⟨by simp, fun hlate => hholds _ (by simpa using hretired) (by simp [hlate])⟩

/-- The resting role moves on (R25, R32). -/
theorem restingRotation_spec {s : State} {d : DieId} {r q k : Nat} (hup : s.up d = true)
    (hdue : s.lowCanvas = none ∧ ((s.die d).region r).movedAt + 10000000000 ≤ s.uptime ∨
      s.lowCanvas.isSome ∧ 1024 ≤ ((s.die d).region r).flips)
    (hq : ((s.die d).region r).resting = some q) (hk : nextResting s d r q = some k) :
    exec (.restingRotation d r) s = .next ((abortSlice s d (4 * r + q)).modRegion d r fun y =>
      { y with resting := some k, flips := 0, movedAt := s.uptime }) := by
  rcases hdue with ⟨hl, ht⟩ | ⟨hl, hn⟩
  · simp [exec, execRestingRotation, hup, hl, ht, hq, hk]
  · obtain ⟨x, hx⟩ := Option.isSome_iff_exists.1 hl
    simp [exec, execRestingRotation, hup, hx, hn, hq, hk]

/-- Settles O41: each clause is a row's own lemma, read at the cluster or region it names. -/
theorem bist : Obligations.Bist := by
  rintro s d r c q k v t g x rfl
  refine ⟨?starts, ?early, ?passes, ?aborts, ?fails, ?late, ?rotates⟩
  case starts => exact fun hcp hup hturn hrest => bistSliceStart_spec v t hcp hup hturn hrest
  case early => exact fun hturn => by simp [exec, execBistSliceStart, hturn]
  case passes =>
    intro hs hg
    obtain ⟨h1, h2, h3, h4⟩ := slicePassed_cluster s d c
    exact ⟨_, bistSliceEnd_passes hs hg, by rw [tieResult_cluster, h1], by rw [tieResult_cluster, h2],
      by rw [tieResult_cluster, h3], by rw [tieResult_cluster, h4]⟩
  case aborts =>
    intro hs
    refine ⟨_, bistSliceEnd_aborts hs, ?_⟩
    rw [tieResult_cluster, abortSlice_self, if_pos hs]
    exact ⟨rfl, rfl, rfl⟩
  case fails => exact fun hs hserv _ hg => bistSliceEnd_fails hs hserv hg
  case late => exact fun hserv hc => bistOverdue_spec hserv hc
  case rotates =>
    intro hup hdue hq hk
    exact ⟨_, restingRotation_spec hup hdue hq hk, by simp, by simp, by simp⟩

end Sys2Proof.Machine

/-! ## Fences, TWIN_SERVICE and the die links (R17, R261, R281, R322, R323) -/

namespace Sys2Proof.Machine

/-! ### Fences (R259, R261) -/

section
variable (s : State) (d e : DieId)

/-- A die held in reset stands behind its FENCE line, and the other die's fence stays as it is. -/
@[simp] theorem holdDie_fenced : ((holdDie s e).die d).fenced = (decide (d = e) || (s.die d).fenced) := by
  unfold holdDie
  refine (congrArg Die.fenced (State.each_keeps (fun s => s.die d) _ _ fun s k => judgeIfIn_die ..)).trans ?_
  simp only [followGm_die, abandonVotes_die, closeWindows_die, State.modTime_die, State.modTwin_die, State.modOp_die, setMemory_die,
    State.modResults_die]
  refine (congrArg Die.fenced (State.each_keeps (fun s => s.die d) _ _ fun s k => State.modPort_die ..)).trans ?_
  rw [State.modDie_die]
  split
  · next h => simp [h]
  · next h => simp [h]

theorem goOut_fenced : ((goOut s e).die d).fenced = true := by
  cases d <;> simp [goOut]

variable {s d}

/-- The arbiter's fence of a die whose fence is lifted holds, whatever the roles (R259, R276, R277). -/
theorem fenceDie_fenced (cause : Nat) (hfrozen : s.dies.twin.frozen = false) (hd : (s.die d).fenced = false) :
    ((fenceDie s d cause).die d).fenced = true := by
  have hjoin : s.joining d = false := by simp [State.joining, hd]
  simp only [fenceDie, hfrozen, hjoin, hd, Bool.false_eq_true, if_false]
  split
  · split <;> simp
  · split
    case h_1 => split <;> split <;> simp
    case h_2 | h_3 | h_4 => exact goOut_fenced ..
    case h_5 => simp

end

/-! ### TWIN_SERVICE (R281) -/

section Service
variable {s : State} {r : Req} {d : DieId} (hd : d = if bit (r.word 0) 0 then .b else .a) (hspan : s.span = false)
  (hnone : s.dies.twin.service = none)
include hd hspan hnone

theorem twinServiceBody_fence (hf : bit (r.word 0) 1 = false) (h1 : (s.die d).fenced = false) (h2 : (s.die d.other).fenced = false)
    (hfrozen : s.dies.twin.frozen = false) : twinServiceBody s r = .accepted ((fenceDie s d 6).modTwin fun x =>
      { x with service := some (r.who, s.nextLong r.who, d, false) }) := by
  simp [twinServiceBody, ← hd, hspan, hnone, hf, h1, h2, hfrozen]

theorem twinServiceBody_rejoin (hr : bit (r.word 0) 1 = true) (h1 : (s.die d).fenced = true) (hc : s.dies.twin.state ≠ .copy)
    (hv : s.dies.twin.state ≠ .verify) : twinServiceBody s r = .accepted ((s.modTwin fun x =>
      { x with stayFenced := false }).modTwin fun x => { x with service := some (r.who, s.nextLong r.who, d, true) }) := by
  simp [twinServiceBody, ← hd, hspan, hnone, hr, h1, hc, hv]

end Service

/-! ### Die links (R17) -/

/-- A die that runs and has not declared itself fatal does so (R257). -/
theorem declareFatal_die {s : State} {d : DieId} (cause : Nat) (hr : (s.die d).running = true) (hf : (s.die d).fatal = false) :
    (declareFatal s d cause).die d = { s.die d with fatal := true, cause := cause, hseq := (s.die d).hseq + 1 } := by
  rw [declareFatal, if_neg (by simp [hr, hf])]
  cases d <;> rfl

theorem declareFatal_twin (s : State) (d : DieId) (cause : Nat) : (declareFatal s d cause).dies.twin = s.dies.twin := by
  unfold declareFatal
  split
  · rfl
  · cases d <;> rfl

/-- A poisoned word of a link that works: recorded, with the words corrected before it, and sent again (R17, R268). -/
theorem dieLinkPoison_retry {s : State} {link : Nat} (e : DieId) (n : Nat) (h : linkDead s link = false) (again : Bool) :
    exec (.dieLinkPoison ⟨link, e, n⟩ again) s = .next
      (let t := recordError (s.modTwin fun x => { x with linkRetry := x.linkRetry + 1, linkFixed := x.linkFixed + BitVec.ofNat 32 n })
        (if link = 0 then .a else if link = 1 then .b else e) .poison
      if again then dieLinkFails t link else t) := by
  simp [exec, execDieLinkPoison, h]

/-- Die A's hub link fails with the word poisoned again: the die declares itself fatal with cause 2 (R17). -/
theorem dieLinkFails_hubA {s : State} (hr : s.dies.a.running = true) (hf : s.dies.a.fatal = false) :
    (dieLinkFails s 0).dies.twin.linkA = false ∧ (dieLinkFails s 0).dies.a.fatal = true ∧ (dieLinkFails s 0).dies.a.cause = 2 := by
  have ha : (dieLinkFails s 0).dies.a = { s.dies.a with fatal := true, cause := 2, hseq := s.dies.a.hseq + 1 } :=
    declareFatal_die (d := .a) 2 hr hf
  refine ⟨?_, by rw [ha], by rw [ha]⟩
  rw [dieLinkFails, if_pos rfl, declareFatal_twin]
  rfl

/-- Settles O38: the command by `fenceDie_fenced`, its ends and the links by their rows' branches. -/
theorem twinService : Obligations.TwinService := by
  intro r s s1 d src id rejoin
  refine ⟨?command, ?ends, ?poison, ?fails, ?dead, rfl⟩
  case command =>
    intro hserved hd hspan hnone
    refine ⟨fun hf h1 h2 hfrozen => ?_, fun hr h1 hc hv => ?_⟩
    · refine ⟨_, congrArg Host.Outcome.next (jcs_accepted hserved (twinServiceBody_fence hd hspan hnone hf h1 h2 hfrozen)), ?_, rfl⟩
      rw [State.modTwin_die]
      exact fenceDie_fenced 6 hfrozen h1
    · exact ⟨_, congrArg Host.Outcome.next (jcs_accepted hserved (twinServiceBody_rejoin hd hspan hnone hr h1 hc hv)), rfl, rfl⟩
  case ends =>
    rintro hs s2 rfl
    refine ⟨?_, ?_, ?_⟩
    · rintro rfl hf
      simp [exec, execTwinServiceComplete, hs, hf]
    · rintro rfl hf
      simp [exec, execTwinServiceComplete, hs, hf]
    · rintro rfl hf hstay
      simp [exec, execTwinServiceComplete, hs, hf, hstay]
  case poison => exact fun link e n h => dieLinkPoison_retry e n h false
  case fails =>
    intro e n hlink hr hf
    exact ⟨_, dieLinkPoison_retry e n (by simp [linkDead, hlink]) true, dieLinkFails_hubA hr hf⟩
  case dead => exact fun link e n h => by simp [exec, execDieLinkPoison, h]

end Sys2Proof.Machine

/-! ## Frame orders and regions (R20, R24, R29, R30, R149, R180, R197, R217, R265) -/

namespace Sys2Proof.Machine

/-! ### Region results -/

theorem State.result_of_frames {s t : State} (h : t.frames = s.frames) (d : DieId) (k i : Nat) : t.result d k i = s.result d k i := by
  cases d <;> simp [State.result, State.results, h]

@[simp] theorem State.setResult_result_self (s : State) (d : DieId) (t i : Nat) (r : RegionRes) :
    (s.setResult d t i r).result d t i = some r := by
  cases d <;> simp [State.setResult, State.modResults, State.result, State.results]

/-- The end of a region's work leaves its result under the frame. -/
theorem endRegion_result (s : State) (d : DieId) (t i n outcome k : Nat) (crc : BitVec 32) (lamps : List (BitVec 16))
    (demand : List Nat) (limited : Nat) : ∃ x, (endRegion s d t i n outcome k crc lamps demand limited).result d t i = some x ∧
      x.frame = n ∧ x.outcome = outcome :=
  ⟨_, State.setResult_result_self .., rfl, rfl⟩

@[simp] theorem State.drawn_result (s : State) (d : DieId) (t i : Nat) : s.drawn.result d t i = s.result d t i :=
  State.result_of_frames rfl d t i

@[simp] theorem recordError_result (s : State) (e : DieId) (k : ErrKind) (d : DieId) (t i : Nat) :
    (recordError s e k).result d t i = s.result d t i :=
  State.result_of_frames ((recordError_does s e k).same.frames (by decide)) d t i

theorem CanvasCfg.place_tile {cfg : CanvasCfg} {t : Nat} {p : Placement} (h : cfg.place t = some p) : p.tile = t :=
  of_decide_eq_true (List.find?_some (p := fun p : Placement => decide (p.tile = t)) h)

/-- A region under a poisoned record ends with outcome 1, and the die records an error (R105). -/
theorem computeRegion_bad {s : State} {d : DieId} {c i : Nat} {p : Placement} (o : FrameOrder) (h : recordBad s d c p i = true)
    (fault : Option (List (BitVec 16))) (sums : Option (List Nat)) : computeRegion s d c p o i fault sums =
      recordError (endRegion s d p.tile i o.frame 1 (pickCluster s d (s.regionOf p.tile)) 0 [] [] 0) d .poison := by
  simp only [computeRegion, h, if_true]

/-! ### REGION_COMPUTED (R24, R105, R149) -/

section Computed
variable {s : State} {d : DieId} {t i c : Nat} {o : FrameOrder} {p : Placement} (hdue : regionDue s d t i = some (c, o, p))
include hdue

/-- A region that is due is one of the tile it is placed for. -/
theorem regionDue_tile : p.tile = t := by
  unfold regionDue at hdue
  split at hdue
  · cases hdue
  · split at hdue
    · next hplace =>
      split at hdue
      · cases hdue
        exact CanvasCfg.place_tile hplace
      · cases hdue
    · cases hdue

theorem regionComputed_good : exec (.regionComputed d t i .good) s =
    .next (computeRegion (soilCluster s d (pickCluster s d (s.regionOf t))) d c p o i none none).drawn := by
  simp only [exec, execRegionComputed, hdue]

/-- A region that is not finished in time has outcome 4 (R265). -/
theorem regionComputed_unfinished : ∃ u x, exec (.regionComputed d t i .unfinished) s = .next u ∧
    u.result d t i = some x ∧ x.frame = o.frame ∧ x.outcome = 4 := by
  have hexec : ∃ k, exec (.regionComputed d t i .unfinished) s =
      .next (endRegion (soilCluster s d (pickCluster s d (s.regionOf t))) d t i o.frame 4 k 0 [] [] 0).drawn :=
    ⟨_, by simp only [exec, execRegionComputed, hdue]; rfl⟩
  obtain ⟨k, hk⟩ := hexec
  obtain ⟨x, hx⟩ := endRegion_result (soilCluster s d (pickCluster s d (s.regionOf t))) d t i o.frame 4 k 0 [] [] 0
  exact ⟨_, x, hk, hx⟩

/-- A region that is due under a poisoned record has outcome 1 (R105). -/
theorem regionComputed_poisoned (hbad : recordBad s d c p i = true) : ∃ u x, exec (.regionComputed d t i .good) s = .next u ∧
    u.result d t i = some x ∧ x.frame = o.frame ∧ x.outcome = 1 := by
  have hbad' : ∀ k, recordBad (soilCluster s d k) d c p i = true := fun k => by
    rw [← hbad]; cases d <;> rfl
  have hexec : ∃ k, exec (.regionComputed d t i .good) s =
      .next (recordError (endRegion (soilCluster s d (pickCluster s d (s.regionOf t))) d t i o.frame 1 k 0 [] [] 0) d .poison).drawn :=
    ⟨_, by rw [regionComputed_good hdue, computeRegion_bad o (hbad' _), regionDue_tile hdue]⟩
  obtain ⟨k, hk⟩ := hexec
  obtain ⟨x, hx⟩ := endRegion_result (soilCluster s d (pickCluster s d (s.regionOf t))) d t i o.frame 1 k 0 [] [] 0
  exact ⟨_, x, hk, by rwa [State.drawn_result, recordError_result]⟩

end Computed

/-! ### REGION_SEND (R180) -/

theorem Same.port {l : List Part} {s t : State} (h : Same l s t) (hl : Part.links ∉ l) (p : Nat) : t.port p = s.port p := by
  rw [State.port, h.links hl, State.port]

@[simp] theorem raise_port (s : State) (src code : Nat) (data : Word) (frame : Nat) (t : Option Nat) (p : Nat) :
    (raise s src code data frame t).port p = s.port p := (raise_does s src code data frame t).same.port (by decide) p

@[simp] theorem markRegion_port (s : State) (c t r n p : Nat) : (markRegion s c t r n).port p = s.port p :=
  (markRegion_does s c t r n).same.port (by decide) p

@[simp] theorem State.setResult_port (s : State) (d : DieId) (t i : Nat) (r : RegionRes) (p : Nat) :
    (s.setResult d t i r).port p = s.port p := (State.setResult_does s d t i r).same.port (by decide) p

@[simp] theorem sendReport_port (s : State) (d : DieId) (t i n outcome : Nat) (crc : BitVec 32) (p : Nat) :
    (sendReport s d t i n outcome crc).port p = s.port p := (sendReport_does s d t i n outcome crc).same.port (by decide) p

/-- A frame on a port that sends changes nothing of the port but the time of its last frame. -/
theorem sendFrame_port {s : State} {d : DieId} {p : Nat} (h0 h1 : Word) (w : List Word) (ok : Bool) (hsend : s.canSend d p = true)
    (htx : (s.port p).tx = .on) : (sendFrame s d p h0 h1 w ok).port p = { s.port p with lastSent := s.uptime } := by
  have hwake : wake s p true = s := by simp [wake, htx]
  rw [sendFrame, if_pos hsend, hwake, emitFrame, State.modPort_port_self]
  rfl

/-- A region that leaves its port is counted, and waits there for its ECHO (R180, R217), with underruns or without. -/
theorem sendRegion_port {s : State} {p : Nat} (c : Nat) (o : FrameOrder) (pl : Placement) (i : Nat) (r : RegionRes)
    (under : List (Nat × Nat)) (hsend : s.canSend (portDie p) p = true) (htx : (s.port p).tx = .on) :
    ((sendRegion s p c o pl i r under).port p).nRegions = (s.port p).nRegions + 1 ∧
      ∃ x ∈ ((sendRegion s p c o pl i r under).port p).sent,
        x.tile = pl.tile ∧ x.region = i ∧ x.frame = o.frame ∧ x.confirmed = false := by
  unfold sendRegion
  obtain ⟨x0, y0, w, h⟩ := pl.rect i
  dsimp only
  repeat' split
  all_goals simp [sendFrame_port _ _ _ _ hsend htx]

/-! ### Latent tests (R29, R149, R152) -/

@[simp] theorem State.modScrim_scrim_self (s : State) (d : DieId) (r : Nat) (g : Scrim → Scrim) :
    (s.modScrim d r g).scrim d r = g (s.scrim d r) := Tbl.get_modify_self ..

theorem State.scrim_of_frames {s t : State} (h : t.frames = s.frames) (d : DieId) (r : Nat) : t.scrim d r = s.scrim d r := by
  rw [State.scrim, h, State.scrim]

@[simp] theorem recordError_region (s : State) (d : DieId) (k : ErrKind) (e : DieId) (r : Nat) :
    ((recordError s d k).die e).region r = (s.die e).region r := by
  cases d <;> cases e <;> rfl

section Latent
variable {s : State} {d : DieId} {r : Nat}

theorem latentTest_pass_unblocked (hb : ((s.die d).region r).blocked = false) : latentTest s d r true =
    s.modScrim d r fun y => { y with lane := (y.lane + 1) % 64, latentRun := y.latentRun + 1 } := by
  simp [latentTest, hb]

/-- A test that passes after the reset ends the block (R29). -/
theorem latentTest_pass (hr : ((s.die d).region r).resetting = false) (hl : ((s.die d).region r).lost = false) :
    (((latentTest s d r true).die d).region r).blocked = false := by
  unfold latentTest
  cases hb : ((s.die d).region r).blocked
  · simp [hb, hl]
  · simp [hb, hr, hl]

/-- A test that fails resets its region, whose output is blocked (R29, R30). -/
theorem latentTest_fail (hl : ((s.die d).region r).lost = false) (ha : ((s.die d).region r).again = false) :
    (((latentTest s d r false).die d).region r).resetting = true ∧ (((latentTest s d r false).die d).region r).blocked = true ∧
      ((latentTest s d r false).scrim d r).latentFail = (s.scrim d r).latentFail + 1 := by
  have hframes : ∀ t : State, (startRegionReset (recordError (raise t (regionSource d r) 6 0) d .latent) d r true).frames = t.frames :=
    fun t => by
      rw [(startRegionReset_does _ _ _ _).same.frames (by decide), (recordError_does _ _ _).same.frames (by decide),
        (raise_does _ _ _ _ _ _).same.frames (by decide)]
  simp only [latentTest, hl, ha, Bool.false_eq_true, if_false]
  refine ⟨by simp [startRegionReset], by simp [startRegionReset], ?_⟩
  rw [State.scrim_of_frames (hframes _), State.modScrim_scrim_self]

/-- Where the checker serves no canvas, or the package does not run, the test is the row's whole effect. -/
theorem scrimIdleLatentTest_tests (faults : ScrimFaults) (hrun : (s.die d).running = true)
    (hidle : scrimServes s d r = false ∨ s.clocks.power ≠ .run) : exec (.scrimIdleLatentTest d r faults) s = .next
      (let t := latentTest s d r (latentOk (s.scrim d r).lane faults)
      if ((s.die d).region r).blocked && !((t.die d).region r).blocked then markUnblocked t d r else t) := by
  have h : (scrimServes s d r && decide (s.clocks.power = .run)) = false := by
    rcases hidle with h | h <;> simp [h]
  simp only [exec, execScrimIdleLatentTest, hrun, h, Bool.not_true, Bool.or_self, Bool.false_eq_true, if_false]

end Latent

/-- Settles O27: orders by their rows' branches; regions by what their result, port or checker holds afterwards. -/
theorem ordersAndRegions : Obligations.OrdersAndRegions := by
  refine ⟨fun s c => ⟨?selects, ?selected, ?idle, ?orders⟩, fun s d t i c port engine region o p r under faults =>
    ⟨regionComputed_good, regionComputed_poisoned, regionComputed_unfinished, ?sends, ?watchdog, ?fault, ?done, ?latent⟩⟩
  case selects => exact fun hrun hnext => by simp [exec, execSelectionInstant, hrun, hnext]
  case selected => exact fun hrun hnext => by simp [exec, execSelectionInstant, hrun, hnext]
  case idle => exact fun hrun hnone => by simp [exec, execSelectionInstant, hrun, hnone]
  case orders =>
    intro htwin hlead hother o ho
    refine ⟨fun ha => ?_, fun ha => ?_, fun ha hreq => ?_, fun ha => ?_⟩
    · simp [exec, execFrameOrderAck, ackOrder, htwin, hlead, hother, ho, ha]
    · simp [exec, execFrameOrderAck, ackOrder, htwin, hlead, hother, ho, ha]
    · simp [exec, execFrameOrderAckTimeout, htwin, hlead, hother, ho, ha, hreq]
    · simp [exec, execFrameOrderAckTimeout, ho, ha]
  case sends =>
    intro hc ho hp hr hflip htime hready hport hsend htx hno hturn
    refine ⟨_, ?_, sendRegion_port c o p i r under hsend htx⟩
    simp only [exec, execRegionSend, hc, ho, hp, hr, hflip, htime, hready, List.contains_iff_mem.2 hport, hsend, htx, hno, hturn,
      Bool.not_false, decide_true, Bool.and_self, if_true]
  case watchdog =>
    intro hrun he hserv hnone
    simp [exec, execEngineWatchdogExpiry, hrun, Nat.not_le.2 he, hserv, hnone]
  case fault => exact fun hrun hlost => by simp [exec, execRegionDmaFault, startRegionReset, hrun, hlost]
  case done => exact fun h => by simp [exec, execRegionResetDone, h]
  case latent =>
    intro hrun hidle
    rw [scrimIdleLatentTest_tests faults hrun hidle]
    refine ⟨fun hok hb => ?passes, fun hok hr hl => ⟨_, rfl, ?unblocks⟩, fun hok hl ha => ⟨_, rfl, ?fails⟩⟩
    case passes => simp [hok, hb, latentTest_pass_unblocked hb]
    case unblocks =>
      rw [hok]
      dsimp only
      split
      · rw [markUnblocked_die]; exact latentTest_pass hr hl
      · exact latentTest_pass hr hl
    case fails =>
      obtain ⟨hreset, hblocked, hcount⟩ := latentTest_fail hl ha
      rw [hok]
      rw [if_neg (by simp [hblocked])]
      exact ⟨hreset, hblocked, hcount⟩

end Sys2Proof.Machine

/-! ## Trial, watchdog and relay: what a restart leaves of the hub, and what a fall-back does (01, 19) -/

namespace Sys2Proof.Machine

/-! ### The hub beside its functions -/

/-- The hub's registers and queues without the functions' own state. -/
def Hub.sansFuncs (h : Hub) : Hub := { h with funcs := [] }

@[simp] theorem State.modFunc_sansFuncs (s : State) (f : Nat) (g : Func → Func) :
    (s.modFunc f g).hub.sansFuncs = s.hub.sansFuncs := rfl

theorem signal_sansFuncs (s : State) (f v : Nat) : (signal s f v).hub.sansFuncs = s.hub.sansFuncs := by
  obtain h | ⟨o, h⟩ | ⟨-, h⟩ := signal_cases s f v <;> rw [h] <;> rfl

/-- A change of STAGE reaches nothing of the hub but STAGE and the functions' vectors (R302). -/
theorem setStage_sansFuncs (s : State) (g : Stage) : (setStage s g).hub.sansFuncs = { s.hub.sansFuncs with stage := g } := by
  unfold setStage
  split
  · next h => subst h; rfl
  · exact State.each_keeps (fun s => s.hub.sansFuncs) _ _ fun s f => signal_sansFuncs s f 0

theorem dropRequests_sansFuncs (s : State) : (dropRequests s).hub.sansFuncs = { s.hub.sansFuncs with accepted := [] } := by
  refine congrArg (fun h : Hub => { h with accepted := [] }) (State.each_keeps (fun s => s.hub.sansFuncs) _ _ fun s x => ?_)
  split <;> rfl

/-- STAGE 7 begins with no request left (R326, R347). -/
theorem beginRestart_sansFuncs (s : State) : (beginRestart s).hub.sansFuncs =
    { s.hub.sansFuncs with restartDue := false, accepted := [], stage := .restarting } := by
  rw [beginRestart, setStage_sansFuncs, dropRequests_sansFuncs, lapseProposal_hub]
  rfl

/-! ### Requests that wait -/

/-- Which request waits depends on the requests taken, on who has a number or a session, and on STAGE. -/
theorem nextRequest_congr {s t : State} (ha : t.hub.accepted = s.hub.accepted) (hf : t.hub.cpFailed = s.hub.cpFailed)
    (hs : t.hub.stage = s.hub.stage) (hl : t.hub.links = s.hub.links) (hst : t.hub.straps = s.hub.straps)
    (hn : ∀ n, t.nsp n = s.nsp n) : t.nextRequest = s.nextRequest := by
  have huse : t.inUse = s.inUse := by
    funext f
    unfold State.inUse State.link
    rw [hl, hst]
  have hserves : t.serves = s.serves := by
    funext r
    unfold State.serves
    rw [hf, hs, huse, hn]
  rw [State.nextRequest, State.nextRequest, ha, hserves]

theorem dropRequests_nextRequest (s : State) : (dropRequests s).nextRequest = none := rfl

theorem State.nsp_of_service {s t : State} (h : t.service = s.service) (n : Nat) : t.nsp n = s.nsp n := by
  rw [State.nsp, State.nsp, h]

@[simp] theorem State.modCal_nsp (s : State) (i : CalItem) (f : CalSt → CalSt) (n : Nat) : (s.modCal i f).nsp n = s.nsp n := rfl

/-- Closing a calibration window leaves the NSP sessions. -/
theorem closeWindow_nsp (s : State) (i : CalItem) (n : Nat) : (closeWindow s i).nsp n = s.nsp n := by
  have hcal : ∀ (s : State) (k : Nat), (calEvent s i k).nsp n = s.nsp n := fun s k =>
    State.nsp_of_service ((calEvent_does s i k).same.service (by decide)) n
  have hpath : ∀ s : State, (setPath s i false).nsp n = s.nsp n := fun s =>
    State.nsp_of_service ((setPath_does s i false).same.service (by decide)) n
  have hlane : ∀ (s : State) (d : DieId) (p : Nat) (v : List Int), (setLane s d p v).nsp n = s.nsp n := fun s d p v =>
    State.nsp_of_service ((setLane_does s d p v).same.service (by decide)) n
  unfold closeWindow
  dsimp only
  repeat' split
  all_goals simp only [hcal, hpath, hlane, State.modCal_nsp]

theorem closeWindows_nsp (s : State) (p : CalItem → Bool) (n : Nat) : (closeWindows s p).nsp n = s.nsp n :=
  State.each_keeps (fun s => s.nsp n) _ _ fun s i => closeWindow_nsp s i n

@[simp] theorem closeWindows_hub (s : State) (p : CalItem → Bool) : (closeWindows s p).hub = s.hub :=
  (closeWindows_does s p).same.hub (by decide)

theorem closeWindows_nextRequest (s : State) (p : CalItem → Bool) : (closeWindows s p).nextRequest = s.nextRequest := by
  apply nextRequest_congr <;> simp [closeWindows_nsp]

/-! ### The restart of the control processor (R301, R326) -/

theorem enterRestart_now {s : State} (hr : s.hub.reqAt = none) (hn : s.nextRequest = none) :
    enterRestart s = beginRestart (closeWindows s fun _ => true) := by
  simp [enterRestart, closeWindows_nextRequest, hr, hn]

theorem enterRestart_due {s : State} (h : s.hub.reqAt ≠ none ∨ s.nextRequest ≠ none) :
    enterRestart s = (closeWindows s fun _ => true).modHub fun h => { h with restartDue := true } := by
  have h' : (s.hub.reqAt.isSome || s.nextRequest.isSome) = true := by
    simpa [Option.isSome_iff_ne_none] using h
  simp only [enterRestart, closeWindows_nextRequest, closeWindows_hub, h', if_true]

@[simp] theorem enterRestart_firmware (s : State) : (enterRestart s).firmware = s.firmware :=
  (enterRestart_does s).same.firmware (by decide)

/-- A restart now or once the answers are given: the hub goes on with the image that runs. -/
theorem enterRestart_running (s : State) : (enterRestart s).hub.fwSlotB = s.hub.fwSlotB ∧
    (enterRestart s).hub.unconfirmed = s.hub.unconfirmed ∧ (s.hub.accepted = [] → (enterRestart s).hub.accepted = []) := by
  by_cases h : s.hub.reqAt = none ∧ s.nextRequest = none
  · have hb := beginRestart_sansFuncs (closeWindows s fun _ => true)
    rw [closeWindows_hub] at hb
    rw [enterRestart_now h.1 h.2]
    exact ⟨(congrArg Hub.fwSlotB hb :), (congrArg Hub.unconfirmed hb :), fun _ => beginRestart_accepted _⟩
  · rw [enterRestart_due (not_and_or.1 h)]
    simp

theorem enterRestart_stage {s : State} (hr : s.hub.reqAt = none) (hn : s.nextRequest = none) :
    (enterRestart s).hub.stage = .restarting := by
  rw [enterRestart_now hr hn]
  exact (congrArg Hub.stage (beginRestart_sansFuncs _) :)

theorem enterRestart_restartDue {s : State} (hn : s.nextRequest ≠ none) : (enterRestart s).hub.restartDue = true := by
  rw [enterRestart_due (.inr hn)]
  simp

/-! ### The fall-back (R513) -/

/-- The state in which a fall-back to slot `c` restarts the control processor: the running slot is BAD, and slot `c` runs. -/
def fallenBack (s : State) (cause : Nat) (c : Bool) : State :=
  setRunning (raise (s.modFirmware fun f =>
      { f.setSlot s.hub.fwSlotB .bad with trialAt := none, fallBack := none, fallbacks := f.fallbacks + 1, mcStep := 0 })
    220 5 (s.hub.fwVersion.setWidth 64 ||| put cause 2 32)) c false

theorem beginFallBack_found {s : State} {c : Bool} (cause : Nat) (h : s.firmware.find .confirmed = some c) :
    beginFallBack s cause = enterRestart (fallenBack s cause c) := by
  simp only [beginFallBack, h]
  rfl

@[simp] theorem raise_hub (s : State) (src code : Nat) (data : Word) (frame : Nat) (t : Option Nat) :
    (raise s src code data frame t).hub = s.hub := (raise_does s src code data frame t).same.hub (by decide)

@[simp] theorem raise_firmware (s : State) (src code : Nat) (data : Word) (frame : Nat) (t : Option Nat) :
    (raise s src code data frame t).firmware = s.firmware := (raise_does s src code data frame t).same.firmware (by decide)

@[simp] theorem raise_service (s : State) (src code : Nat) (data : Word) (frame : Nat) (t : Option Nat) :
    (raise s src code data frame t).service = s.service := (raise_does s src code data frame t).same.service (by decide)

section FallBack
variable (s : State) (cause : Nat) (c : Bool)

theorem fallenBack_firmware : (fallenBack s cause c).firmware =
    { s.firmware.setSlot s.hub.fwSlotB .bad with
      trialAt := none, fallBack := none, fallbacks := s.firmware.fallbacks + 1, mcStep := 0 } := by
  simp [fallenBack, setRunning]

theorem fallenBack_hub : (fallenBack s cause c).hub =
    { s.hub with fwValid := true, fwSlotB := c, unconfirmed := false, fwVersion := (fallenBack s cause c).hub.fwVersion } := by
  simp [fallenBack, setRunning]

theorem fallenBack_nextRequest : (fallenBack s cause c).nextRequest = s.nextRequest := by
  have hn : ∀ n, (fallenBack s cause c).nsp n = s.nsp n := fun n => by simp [fallenBack, setRunning, State.nsp]
  have hh := fallenBack_hub s cause c
  exact nextRequest_congr (by rw [hh]) (by rw [hh]) (by rw [hh]) (by rw [hh]) (by rw [hh]) hn

end FallBack

theorem Firmware.slot_of_find {f : Firmware} {x : SlotState} {c : Bool} (h : f.find x = some c) : f.slot c = x := by
  unfold Firmware.find at h
  split at h
  · next hA => cases h; exact hA
  · split at h
    · next hB => cases h; exact hB
    · cases h

/-- A fall-back from the trial slot to the CONFIRMED one: the slots, the running image, and when STAGE 7 begins. -/
theorem beginFallBack_spec {s : State} {c : Bool} (cause : Nat) (hfind : s.firmware.find .confirmed = some c)
    (hslot : s.hub.fwSlotB = !c) (hseq : s.firmware.head.hseq ≠ 0xFFFFFFFF) :
    (beginFallBack s cause).firmware.slot (!c) = .bad ∧ (beginFallBack s cause).firmware.slot c = .confirmed ∧
      (beginFallBack s cause).firmware.fallbacks = s.firmware.fallbacks + 1 ∧ (beginFallBack s cause).hub.fwSlotB = c ∧
      (beginFallBack s cause).hub.unconfirmed = false ∧
      (s.hub.accepted = [] → (beginFallBack s cause).hub.accepted = []) ∧
      (s.hub.reqAt = none → s.nextRequest = none → (beginFallBack s cause).hub.stage = .restarting) ∧
      (s.nextRequest ≠ none → (beginFallBack s cause).hub.restartDue = true) := by
  have hwritten : ∀ j, (fallenBack s cause c).firmware.slot j = (s.firmware.setSlot (!c) .bad).slot j := fun j => by
    rw [fallenBack_firmware, hslot]; rfl
  obtain ⟨hrun, htrial, hacc⟩ := enterRestart_running (fallenBack s cause c)
  rw [beginFallBack_found cause hfind, enterRestart_firmware]
  refine ⟨?bad, ?confirmed, ?count, ?running, ?trial, ?dropped, ?now, ?due⟩
  case bad => rw [hwritten, Firmware.setSlot_slot _ _ _ _ hseq, if_pos rfl]
  case confirmed =>
    rw [hwritten, Firmware.setSlot_slot _ _ _ _ hseq, if_neg (by simp)]
    exact Firmware.slot_of_find hfind
  case count => rw [fallenBack_firmware]
  case running => rw [hrun, fallenBack_hub]
  case trial => rw [htrial, fallenBack_hub]
  case dropped => exact fun h => hacc (by rw [fallenBack_hub]; exact h)
  case now =>
    exact fun hr hn => enterRestart_stage (by rw [fallenBack_hub]; exact hr) (by rw [fallenBack_nextRequest]; exact hn)
  case due => exact fun hn => enterRestart_restartDue (by rw [fallenBack_nextRequest]; exact hn)

/-! ### TRIAL_EXPIRY and CP_WATCHDOG_EXPIRY (R33, R513) -/

/-- A change of microcode under way holds a fall-back up: of it only the cause is noted. -/
theorem fallBackFor_waits {s : State} (cause : Nat) (h : s.firmware.mcStep ≠ 0 ∨ switchWaits s = true)
    (hf : s.firmware.fallBack = none) :
    fallBackFor s cause = s.modFirmware fun f => { f with fallBack := some cause } := by
  have h' : (decide (s.firmware.mcStep ≠ 0) || switchWaits s) = true := by simpa using h
  simp only [fallBackFor, h', if_true, State.modFirmware, hf, Option.getD_none]

theorem fallBackFor_begins {s : State} (cause : Nat) (h1 : s.firmware.mcStep = 0) (h2 : switchWaits s = false) :
    fallBackFor s cause = beginFallBack s cause := by
  simp [fallBackFor, h1, h2]

@[simp] theorem dropRequests_firmware (s : State) : (dropRequests s).firmware = s.firmware :=
  (dropRequests_does s).same.firmware (by decide)

/-- The requests taken play no part in a change of microcode. -/
theorem dropRequests_switchWaits (s : State) : switchWaits (dropRequests s) = switchWaits s := by
  have hh := dropRequests_sansFuncs s
  have hmode : (dropRequests s).hub.mode = s.hub.mode := (congrArg Hub.mode hh :)
  have hcp : (dropRequests s).hub.cpFailed = s.hub.cpFailed := (congrArg Hub.cpFailed hh :)
  have hslot : (dropRequests s).hub.fwSlotB = s.hub.fwSlotB := (congrArg Hub.fwSlotB hh :)
  have hdies : (dropRequests s).dies = s.dies := (dropRequests_does s).same.dies (by decide)
  have hdie : (dropRequests s).die = s.die := funext ((dropRequests_does s).same.die (by decide))
  have hmc : (dropRequests s).microcode = s.microcode := by
    funext d; cases d <;> simp [State.microcode]
  have himage : (dropRequests s).imageMicrocode = s.imageMicrocode := by
    simp [State.imageMicrocode, State.runImage, hslot]
  have hup : (dropRequests s).up = s.up := by funext d; simp [State.up, hdie]
  simp [switchWaits, State.span, hmode, hcp, hdies, hup, hmc, himage]

theorem trialExpiry_early {s : State} (hleft : trialLeft s ≠ 0) : exec .trialExpiry s = .next s := by
  simp [exec, execTrialExpiry, hleft]

section Trial
variable {s : State} {c : Bool} (hcp : s.hub.cpFailed = false) (hst : s.hub.stage = .ready)
  (htrial : s.firmware.trialAt.isSome = true) (hfind : s.firmware.find .confirmed = some c)
include hcp hst htrial hfind

theorem trialExpiry_falls (hleft : trialLeft s = 0) : exec .trialExpiry s = .next (fallBackFor s 0) := by
  simp [exec, execTrialExpiry, State.canFallBack, hcp, hst, htrial, hfind, hleft]

theorem cpWatchdogExpiry_falls : exec .cpWatchdogExpiry s = .next (fallBackFor (dropRequests s) 1) := by
  simp [exec, execCpWatchdogExpiry, State.canFallBack, hcp, hst, htrial, hfind]

end Trial

/-- Outside a trial an expired watchdog fails the hub (R33). -/
theorem cpWatchdogExpiry_fails {s : State} (hcp : s.hub.cpFailed = false) (hst : s.hub.stage = .ready)
    (htrial : s.firmware.trialAt = none) : exec .cpWatchdogExpiry s = .next (failCp s) := by
  simp [exec, execCpWatchdogExpiry, State.canFallBack, hcp, hst, htrial]

/-! ### TILE_FW_RELAY (R517) -/

/-- A relay is in progress for a sender's long command, with its APPLY_TIME. -/
def Relaying (src id applyTime : Nat) (s : State) : Prop :=
  ∃ y, s.firmware.relay = some y ∧ y.src = src ∧ y.id = id ∧ y.applyTime = applyTime

/-- Staging the next tile on a port leaves whose relay it is. -/
theorem relayNext_relaying {src id applyTime : Nat} (s : State) (p : Nat) (h : Relaying src id applyTime s) :
    Relaying src id applyTime (relayNext s p) := by
  obtain ⟨y, hy, hsrc, hid, htime⟩ := h
  unfold relayNext
  split
  · exact ⟨y, hy, hsrc, hid, htime⟩
  · next x hx =>
    obtain rfl : y = x := Option.some.inj (hy.symm.trans hx)
    dsimp only
    split
    · exact ⟨y, hy, hsrc, hid, htime⟩
    · split
      · exact ⟨y, hy, hsrc, hid, htime⟩
      · rw [Relaying, (startTxn_does _ _ _ _ _ _ _ _ _).same.firmware (by decide)]
        exact ⟨_, rfl, hsrc, hid, htime⟩

/-- The relay that a TILE_FW_RELAY begins. -/
def relayBegun (s : State) (r : Req) : Relay :=
  { src := r.who, id := s.nextLong r.who
    image := bytesWords (memRead (s.nsp (r.src - 64)).staging 0 (fld (r.word 0) 31 0))
    applyTime := if bit (r.word 0) 32 then (r.word 1).toNat else 0
    waiting := relayTiles r, tiles := relayTiles r, failed := [] }

section RelayCommand
variable {s : State} {r : Req} (h0 : fld (r.word 0) 31 0 ≠ 0) (hmax : fld (r.word 0) 31 0 ≤ 33546240)
include h0 hmax

theorem tileFwRelayBody_conflict (hreach : (relayTiles r).all (relayable s) = false) : tileFwRelayBody s r = .conflict s := by
  simp only [tileFwRelayBody, if_neg h0, if_neg (show fld (r.word 0) 31 0 ≠ 0xFFFFFFFF by omega), if_neg (Nat.not_lt.2 hmax), hreach,
    Bool.not_false, if_true]

theorem tileFwRelayBody_accepted (hreach : (relayTiles r).all (relayable s) = true)
    (htime : bit (r.word 0) 32 = true →
      s.reqTime + stagingTime s (relayTiles r) (fld (r.word 0) 31 0) + 1000000000 ≤ (r.word 1).toNat)
    (hbusy : s.fwBusy = false) (hrelay : s.firmware.relay = none) : tileFwRelayBody s r =
      .accepted ((s.portsOf (relayTiles r)).foldl relayNext (s.modFirmware fun f => { f with relay := some (relayBegun s r) })) := by
  have hlate : (bit (r.word 0) 32 && decide ((r.word 1).toNat < s.reqTime +
      stagingTime s (relayTiles r) (fld (r.word 0) 31 0) + 1000000000)) = false := by
    cases hb : bit (r.word 0) 32
    · rfl
    · simpa using htime hb
  simp only [tileFwRelayBody, if_neg h0, if_neg (show fld (r.word 0) 31 0 ≠ 0xFFFFFFFF by omega), if_neg (Nat.not_lt.2 hmax), hreach,
    hlate, hbusy, hrelay, Option.isSome_none, Bool.not_true, Bool.or_self, Bool.false_eq_true, if_false]
  rfl

end RelayCommand

/-- A relay whose tiles have all reported the new version ends with OK. -/
theorem tileFwRelayComplete_ok {s : State} {rel : Relay} (hrel : s.firmware.relay = some rel) (hcp : s.hub.cpFailed = false)
    (hw : rel.waiting = []) (ht : rel.tiles = []) (hf : rel.failed = [])
    (hnone : ∀ y ∈ s.links.txns, y.inProgress = true → y.kind ≠ .fwImage) :
    exec .tileFwRelayComplete s = .next (finishLong (s.modFirmware fun f => { f with relay := none }) rel.src rel.id 0) := by
  have hany : (s.links.txns.any fun y => y.inProgress && decide (y.kind = .fwImage)) = false := by
    rw [List.any_eq_false]
    intro y hy
    simpa using hnone y hy
  simp only [exec, execTileFwRelayComplete, hrel, hcp, hw, ht, hf, hany]
  rfl

/-! ### The rows -/

/-- Settles O52: a trial ends by `beginFallBack_spec`, at once or when the change of microcode under way has ended; the relay's
rows are the branches of their bodies. -/
theorem trialAndRelay : Obligations.TrialAndRelay := by
  intro r s s1 c rel n
  refine ⟨?waits, ?early, ?falls, ?hub, ?accepted, ?unreachable, fun h1 h2 h3 h4 h5 h6 => tileFwRelayComplete_ok h1 h2 h3 h4 h5 h6⟩
  case waits =>
    intro hcp hst htrial hfind hwait hnone
    refine ⟨fun hleft => ?_, ?_⟩
    · rw [trialExpiry_falls hcp hst htrial hfind hleft, fallBackFor_waits 0 hwait hnone]
    · rw [cpWatchdogExpiry_falls hcp hst htrial hfind, fallBackFor_waits 1]
      · rwa [dropRequests_firmware, dropRequests_switchWaits]
      · rwa [dropRequests_firmware]
  case early => exact trialExpiry_early
  case falls =>
    intro hcp hst htrial hfind hmc hsw hslot hseq
    refine ⟨fun hleft => ⟨beginFallBack s 0, ?_, ?_⟩, beginFallBack (dropRequests s) 1, ?_, ?_⟩
    · rw [trialExpiry_falls hcp hst htrial hfind hleft, fallBackFor_begins 0 hmc hsw]
    · obtain ⟨hbad, hconf, hcount, hrun, hunc, -, hnow, hdue⟩ := beginFallBack_spec 0 hfind hslot hseq
      exact ⟨hnow, hdue, hbad, hconf, hrun, hunc, hcount⟩
    · rw [cpWatchdogExpiry_falls hcp hst htrial hfind, fallBackFor_begins 1]
      · rwa [dropRequests_firmware]
      · rwa [dropRequests_switchWaits]
    · have hh := dropRequests_sansFuncs s
      have hslot' : (dropRequests s).hub.fwSlotB = !c := (congrArg Hub.fwSlotB hh :).trans hslot
      have hreq : (dropRequests s).hub.reqAt = s.hub.reqAt := (congrArg Hub.reqAt hh :)
      obtain ⟨hbad, -, -, hrun, -, hacc, hnow, -⟩ :=
        beginFallBack_spec (s := dropRequests s) 1 (by rwa [dropRequests_firmware]) hslot' (by rwa [dropRequests_firmware])
      exact ⟨hacc rfl, fun hr => hnow (hreq.trans hr) (dropRequests_nextRequest s), hbad, hrun⟩
  case hub => exact fun hcp hst htrial => cpWatchdogExpiry_fails hcp hst htrial
  case accepted =>
    rintro hserved rfl h0 hmax htime hreach hbusy hrelay
    have hbegun : Relaying r.who (s1.nextLong r.who) (if bit (r.word 0) 32 then (r.word 1).toNat else 0)
        ((s1.portsOf (relayTiles r)).foldl relayNext (s1.modFirmware fun f => { f with relay := some (relayBegun s1 r) })) :=
      State.each_preserves _ _ _ (fun s p => relayNext_relaying s p) ⟨_, rfl, rfl, rfl, rfl⟩
    obtain ⟨y, hy, hsrc, hid, htm⟩ := hbegun
    exact ⟨_, y, congrArg Host.Outcome.next (jcs_accepted hserved (tileFwRelayBody_accepted h0 hmax hreach htime hbusy hrelay)),
      hy, hsrc, hid, htm⟩
  case unreachable =>
    rintro hserved rfl h0 hmax hreach
    have hanswer := jcs_answered hserved (tileFwRelayBody_conflict h0 hmax hreach) (show 6 ≠ 1 by decide) (Nat.zero_le 511)
    exact congrArg Host.Outcome.next hanswer

end Sys2Proof.Machine

/-! ## Package reset: what the state holds then (01) -/

namespace Sys2Proof.Machine

/-- The reset state has no buffer and no owner anchor. -/
theorem reset_inv : Machine.Inv State.reset where
  bufsA := rfl
  bufsB := rfl
  count := Nat.zero_le 4
  digests := fun _ ha => absurd ha List.not_mem_nil

/-- Settles O55: every sub-state of the reset state is the default of its type, and every numbered resource reads an empty table. -/
theorem resetState : Obligations.ResetState :=
  ⟨reset_inv, rfl, rfl, rfl, rfl, rfl, rfl, fun _ => rfl, fun _ => ⟨rfl, rfl⟩, fun _ => rfl, fun _ => ⟨rfl, rfl, rfl⟩,
    fun x => by cases x <;> exact ⟨rfl, rfl⟩, rfl, rfl, fun _ => rfl, fun _ => rfl, fun _ => rfl⟩

end Sys2Proof.Machine

/-! ## Source slots: what their operations change and leave (02) -/

namespace Sys2Proof.Machine

/-! ### Reading slots and buffer memory -/

/-- What an operation on other parts of the state leaves of a slot. -/
theorem State.slot_of_frames {s t : State} (h : t.frames = s.frames) (k : Nat) : t.slot k = s.slot k := by
  rw [State.slot, h, State.slot]

@[simp] theorem State.modSlot_bufMem (s : State) (j : Nat) (g : Slot → Slot) (d : DieId) (k b : Nat) :
    (s.modSlot j g).bufMem d k b = s.bufMem d k b := by cases d <;> rfl

@[simp] theorem raise_frames (s : State) (src code : Nat) (data : Word) (frame : Nat) (t : Option Nat) :
    (raise s src code data frame t).frames = s.frames := (raise_does s src code data frame t).same.frames (by decide)

@[simp] theorem slotEvent_frames (s : State) (k code : Nat) (data : Word) : (slotEvent s k code data).frames = s.frames :=
  raise_frames ..

@[simp] theorem slotEvent_slot (s : State) (k code : Nat) (data : Word) (j : Nat) : (slotEvent s k code data).slot j = s.slot j :=
  State.slot_of_frames (slotEvent_frames ..) j

@[simp] theorem readHost_slot (s : State) (f : Nat) (addr : Word) (n j : Nat) : (readHost s f addr n).slot j = s.slot j :=
  State.slot_of_frames ((readHost_does s f addr n).same.frames (by decide)) j

/-- The bytes of one read of host memory by function `f` (R310). -/
def State.readSize (s : State) (f : Nat) : Nat := max 1 (min 4096 (s.func f).maxRead)

/-- The reads of host memory leave in the order of their addresses (R310). -/
theorem readHost_out (s : State) (f : Nat) (addr : Word) (n : Nat) : (readHost s f addr n).out =
    ((List.range (ceilDiv n (s.readSize f))).map fun i =>
      Out.hostRead f (addr + BitVec.ofNat 64 (i * s.readSize f)) (min (s.readSize f) (n - i * s.readSize f))).reverse ++ s.out := by
  have emits : ∀ (l : List Nat) (o : Nat → Out) (u : State), (u.each l fun s i => s.emit (o i)).out = (l.map o).reverse ++ u.out := by
    intro l o
    induction l with
    | nil => exact fun _ => rfl
    | cons i l ih =>
      intro u
      rw [State.each, List.foldl_cons, ← State.each, ih, State.emit_out, List.map_cons, List.reverse_cons, List.append_assoc]
      rfl
  exact emits ..

/-! ### Completions without a RELEASE (R55, R358) -/

@[simp] theorem complete_frames (s : State) (cr gen : Nat) (w : Desc) : (complete s cr gen w).frames = s.frames := by
  unfold complete
  dsimp only
  split
  · rfl
  · split <;> rfl

theorem flushOrder_frames (g : Nat) (l : List Ordered) (s : State) : (flushOrder g l s).frames = s.frames := by
  induction l generalizing s with
  | nil => rfl
  | cons x rest ih =>
    rw [flushOrder]
    split
    · rw [ih, complete_frames]
    · rfl

/-- A completion of a ring in descriptor order leaves slots, buffers and canvases. -/
@[simp] theorem finishOrdered_frames (s : State) (g t : Nat) (w : Desc) : (finishOrdered s g t w).frames = s.frames :=
  flushOrder_frames ..

@[simp] theorem finishOrdered_slot (s : State) (g t : Nat) (w : Desc) (k : Nat) : (finishOrdered s g t w).slot k = s.slot k :=
  State.slot_of_frames (finishOrdered_frames ..) k

@[simp] theorem endSource_slot (s : State) (g t : Nat) (d : Desc) (ctype status : Nat) (trunc : Bool) (frame k : Nat) :
    (endSource s g t d ctype status trunc frame).slot k = s.slot k := finishOrdered_slot ..

/-- A completion's words depend on the state by its wall time alone. -/
theorem srcCompletion_of_time {s t : State} (h : t.time = s.time) (ctype status slot buf : Nat) (trunc dropped : Bool) (frame : Nat)
    (user : Word) : srcCompletion t ctype status slot buf trunc dropped frame user =
      srcCompletion s ctype status slot buf trunc dropped frame user := by
  simp only [srcCompletion, State.wall, h]

/-! ### Buffers of a slot (R43, R44) -/

theorem Slot.modBuf_buf (x : Slot) (b c : Nat) (g : Buf → Buf) : (x.modBuf b g).buf c = if c = b then g (x.buf b) else x.buf c :=
  Tbl.get_modify ..

@[simp] theorem Slot.modBuf_buf_self (x : Slot) (b : Nat) (g : Buf → Buf) : (x.modBuf b g).buf b = g (x.buf b) :=
  Tbl.get_modify_self ..

/-- The slot without what the life of its buffers changes: their states, the frames dropped and the frames given up. -/
def Slot.sansBufs (x : Slot) : Slot := { x with bufs := [], nDropped := 0, nIncomplete := 0 }

@[simp] theorem Slot.release_sansBufs (x : Slot) (b : Nat) (dropped : Bool) : (x.release b dropped).sansBufs = x.sansBufs := by
  unfold Slot.release
  split <;> rfl

@[simp] theorem Slot.drop_sansBufs (x : Slot) (b : Nat) : (x.drop b).sansBufs = x.sansBufs := Slot.release_sansBufs x b true

@[simp] theorem Slot.stopBuf_sansBufs (x : Slot) (b : Nat) : (x.stopBuf b).sansBufs = x.sansBufs := by
  unfold Slot.stopBuf
  split
  · rfl
  · exact x.drop_sansBufs b
  · rfl
  · rfl

/-- What each step leaves of a slot without its buffers, the run over a list of buffers leaves. -/
theorem Slot.foldl_sansBufs {f : Slot → Nat → Slot} (hf : ∀ x b, (f x b).sansBufs = x.sansBufs) (l : List Nat) (x : Slot) :
    (l.foldl f x).sansBufs = x.sansBufs := by
  induction l generalizing x with
  | nil => rfl
  | cons b l ih => rw [List.foldl_cons, ih, hf]

@[simp] theorem Slot.sweep_sansBufs (x : Slot) : x.sweep.sansBufs = x.sansBufs := by
  refine Slot.foldl_sansBufs (fun y b => ?_) _ x
  dsimp only
  split
  · split
    · rfl
    · exact y.release_sansBufs b false
  · rfl

theorem Slot.release_buf_ne (x : Slot) {b c : Nat} (dropped : Bool) (h : c ≠ b) : (x.release b dropped).buf c = x.buf c := by
  unfold Slot.release
  split <;> rw [Slot.modBuf_buf, if_neg h]

/-- The sweep touches IN-USE buffers only. -/
theorem Slot.sweep_buf (x : Slot) (c : Nat) (h : (x.buf c).state ≠ .inUse) : x.sweep.buf c = x.buf c := by
  unfold Slot.sweep
  generalize x.bufIds = l
  induction l generalizing x with
  | nil => rfl
  | cons b l ih =>
    rw [List.foldl_cons]
    have step : ∀ y : Slot, y.buf c = x.buf c → (l.foldl _ y).buf c = x.buf c := fun y hy => (ih y (hy ▸ h)).trans hy
    refine step _ ?_
    dsimp only
    split
    · next hb =>
      have hcb : c ≠ b := by rintro rfl; simp [h] at hb
      split
      · rw [Slot.modBuf_buf, if_neg hcb]
      · exact Slot.release_buf_ne x false hcb
    · rfl

/-- A frame that becomes READY takes the slot's next frame number (R72); the slot's configuration, its open frame and its legs stay. -/
theorem Slot.ready_sansBufs (x : Slot) (b now : Nat) (concealed : Bool) (media : Nat) :
    (x.ready b now concealed media).sansBufs = { x.sansBufs with
      frames := x.frames + 1, nReady := x.nReady + 1, nConcealed := if concealed then x.nConcealed + 1 else x.nConcealed } := by
  have hd := Slot.foldl_sansBufs Slot.drop_sansBufs (x.bufIds.filter fun j => j ≠ b && decide ((x.buf j).state = .ready)) x
  dsimp only [Slot.ready]
  rw [Slot.sweep_sansBufs]
  generalize List.foldl Slot.drop x _ = y at hd ⊢
  have hf : y.frames = x.frames := (congrArg Slot.frames hd :)
  have hr : y.nReady = x.nReady := (congrArg Slot.nReady hd :)
  have hc : y.nConcealed = x.nConcealed := (congrArg Slot.nConcealed hd :)
  rw [← hd, ← hf, ← hr, ← hc]
  rfl

/-- The buffer that becomes READY is numbered with the slot's next frame number (R44, R72). -/
theorem Slot.ready_buf (x : Slot) (b now : Nat) (concealed : Bool) (media : Nat) :
    ((x.ready b now concealed media).buf b).state = .ready ∧ ((x.ready b now concealed media).buf b).frame = x.frames + 1 := by
  have hd := Slot.foldl_sansBufs Slot.drop_sansBufs (x.bufIds.filter fun j => j ≠ b && decide ((x.buf j).state = .ready)) x
  dsimp only [Slot.ready]
  generalize List.foldl Slot.drop x _ = y at hd ⊢
  have hf : y.frames = x.frames := (congrArg Slot.frames hd :)
  have swept : ∀ z : Slot, (z.buf b).state = .ready → (z.buf b).frame = x.frames + 1 →
      (z.sweep.buf b).state = .ready ∧ (z.sweep.buf b).frame = x.frames + 1 := by
    intro z hs hn
    rw [Slot.sweep_buf z b (by rw [hs]; decide)]
    exact ⟨hs, hn⟩
  refine swept _ ?_ ?_
  · simp only [Slot.buf, Slot.modBuf, Tbl.get_modify_self]
  · simp only [Slot.buf, Slot.modBuf, Tbl.get_modify_self, hf]

end Sys2Proof.Machine

/-! ## Source slots: the operations that fill, judge, stop and free buffers (02) -/

namespace Sys2Proof.Machine

/-! ### Memory of the buffers (R42, R67) -/

theorem forgetBufs_kept (s : State) (k : Nat) (l : List Nat) :
    ((forgetBufs s k l).frames.slots, (forgetBufs s k l).frames.memA, (forgetBufs s k l).frames.memB) =
      (s.frames.slots, s.frames.memA, s.frames.memB) :=
  State.each_keeps (fun s => (s.frames.slots, s.frames.memA, s.frames.memB)) _ _ fun _ _ => rfl

/-- Forgetting what layers could repeat leaves the slots. -/
@[simp] theorem forgetBufs_slot (s : State) (k : Nat) (l : List Nat) (j : Nat) : (forgetBufs s k l).slot j = s.slot j :=
  congrArg (fun m : Tbl Slot => Tbl.get ({} : Slot) m j) (congrArg Prod.fst (forgetBufs_kept s k l))

@[simp] theorem forgetBufs_bufMem (s : State) (k : Nat) (l : List Nat) (d : DieId) (j b : Nat) :
    (forgetBufs s k l).bufMem d j b = s.bufMem d j b := by
  have h := congrArg Prod.snd (forgetBufs_kept s k l)
  cases d
  · exact congrArg (fun m : Tbl (Tbl Byte) × Tbl (Tbl Byte) => Tbl.get [] m.1 (bufKey j b)) h
  · exact congrArg (fun m : Tbl (Tbl Byte) × Tbl (Tbl Byte) => Tbl.get [] m.2 (bufKey j b)) h

/-- Emptying buffers of a slot empties those alone. -/
theorem get_clear (k : Nat) (l : List Nat) (m : Tbl (Tbl Byte)) (x : Nat) :
    Tbl.get [] (l.foldl (fun m b => Tbl.set [] m (bufKey k b) []) m) x = if ∃ b ∈ l, x = bufKey k b then [] else Tbl.get [] m x := by
  induction l generalizing m with
  | nil => simp
  | cons b l ih =>
    rw [List.foldl_cons, ih, Tbl.get_set]
    by_cases h : x = bufKey k b <;> simp [h]

theorem zeroBuffers_bufMem (s : State) (k : Nat) (l : List Nat) (d : DieId) (j b : Nat) :
    (zeroBuffers s k l).bufMem d j b = if ∃ c ∈ l, bufKey j b = bufKey k c then [] else s.bufMem d j b := by
  rw [← forgetBufs_bufMem s k l]
  cases d <;> exact get_clear ..

@[simp] theorem zeroBuffers_slot (s : State) (k : Nat) (l : List Nat) (j : Nat) : (zeroBuffers s k l).slot j = s.slot j :=
  forgetBufs_slot ..

/-- Two buffers of different slots have different keys. -/
theorem bufKey_ne {j k b c : Nat} (h : j ≠ k) (hb : b < 8) (hc : c < 8) : bufKey j b ≠ bufKey k c := by
  unfold bufKey; omega

theorem writeDie_bufMem (s : State) (d : DieId) (k b addr : Nat) (bytes : List Byte) (e : DieId) (j c : Nat) :
    (writeDie s d k b addr bytes).bufMem e j c =
      if e = d ∧ bufKey j c = bufKey k b then memWrite (s.bufMem e k b) addr bytes else s.bufMem e j c := by
  cases d <;> cases e <;> simp [writeDie, State.bufMem, Tbl.get_modify]

/-- A write into a buffer reaches that buffer in each mirrored die, and nothing else (R42, R67). -/
theorem writeBoth_bufMem (s : State) (k b addr : Nat) (bytes : List Byte) (d : DieId) (j c : Nat) :
    (writeBoth s k b addr bytes).bufMem d j c =
      if s.mirrored d = true ∧ bufKey j c = bufKey k b then memWrite (s.bufMem d k b) addr bytes else s.bufMem d j c := by
  unfold writeBoth
  cases d <;> cases s.mirrored .a <;> cases s.mirrored .b <;> simp [writeDie_bufMem]

@[simp] theorem writeDie_slot (s : State) (d : DieId) (k b addr : Nat) (bytes : List Byte) (j : Nat) :
    (writeDie s d k b addr bytes).slot j = s.slot j := by cases d <;> rfl

@[simp] theorem writeBoth_slot (s : State) (k b addr : Nat) (bytes : List Byte) (j : Nat) :
    (writeBoth s k b addr bytes).slot j = s.slot j := by
  unfold writeBoth
  dsimp only
  split <;> split <;> simp

/-! ### Buffers that fill, become READY or are given up (R44, R50) -/

theorem startFilling_slot (s : State) (k b j : Nat) : (startFilling s k b).slot j =
    if j = k then (s.slot k).modBuf b fun _ => { state := .filling, arrival := s.wall } else s.slot j := by
  rw [startFilling, State.modSlot_slot, forgetBufs_slot, forgetBufs_slot]

@[simp] theorem startFilling_bufMem (s : State) (k b : Nat) (d : DieId) (j c : Nat) :
    (startFilling s k b).bufMem d j c = s.bufMem d j c := by rw [startFilling, State.modSlot_bufMem, forgetBufs_bufMem]

theorem bufReady_slot (s : State) (k b : Nat) (concealed : Bool) (media j : Nat) : (bufReady s k b concealed media).slot j =
    if j = k then { (s.slot k).ready b s.wall concealed media with late := false } else s.slot j := by
  unfold bufReady
  dsimp only
  split
  · rw [slotEvent_slot, State.modSlot_slot]
  · rw [State.modSlot_slot]

/-- A buffer that becomes READY leaves the slot's open network frame and the frames judged. -/
@[simp] theorem bufReady_net (s : State) (k b : Nat) (concealed : Bool) (media : Nat) :
    ((bufReady s k b concealed media).slot k).net = (s.slot k).net := by
  rw [bufReady_slot, if_pos rfl]
  exact (congrArg Slot.net ((s.slot k).ready_sansBufs b s.wall concealed media) :)

@[simp] theorem bufReady_judged (s : State) (k b : Nat) (concealed : Bool) (media : Nat) :
    ((bufReady s k b concealed media).slot k).judged = (s.slot k).judged := by
  rw [bufReady_slot, if_pos rfl]
  exact (congrArg Slot.judged ((s.slot k).ready_sansBufs b s.wall concealed media) :)

/-- A pull takes a FREE buffer where there is one, and nothing else changes (R50). -/
theorem freeTarget_free {s : State} {k b : Nat} (h : (s.slot k).bufIds.find? (fun b => ((s.slot k).buf b).state = .free) = some b) :
    freeTarget s k = some (s, b) := by simp only [freeTarget, h]

/-- Without a FREE and a READY buffer there is no target (R50). -/
theorem freeTarget_none {s : State} {k : Nat}
    (h : ∀ b ∈ (s.slot k).bufIds, ((s.slot k).buf b).state ≠ .free ∧ ((s.slot k).buf b).state ≠ .ready) : freeTarget s k = none := by
  have hfree : (s.slot k).bufIds.find? (fun b => decide (((s.slot k).buf b).state = .free)) = none := by
    simpa using fun b hb => (h b hb).1
  have hready : (s.slot k).bufIds.filter (fun b => decide (((s.slot k).buf b).state = .ready)) = [] := by
    simpa using fun b hb => (h b hb).2
  simp only [freeTarget, hfree, hready]

/-- Whichever buffer becomes the target, the slots keep all but the frames they dropped. -/
theorem freeTarget_sansBufs {s t : State} {k b : Nat} (h : freeTarget s k = some (t, b)) (j : Nat) :
    (t.slot j).sansBufs = (s.slot j).sansBufs := by
  unfold freeTarget at h
  dsimp only at h
  split at h
  · cases h; rfl
  · split at h
    · cases h
    · cases h
      rw [slotEvent_slot, State.modSlot_slot]
      split
      · next hj => rw [hj]; rfl
      · rfl

theorem abandon_slot (s : State) (k b j : Nat) : (abandon s k b).slot j = if j = k then (s.slot k).abandon b else s.slot j :=
  State.modSlot_slot ..

@[simp] theorem Slot.abandon_buf_self (x : Slot) (b : Nat) : (x.abandon b).buf b = {} :=
  x.modBuf_buf_self b fun _ => {}

/-! ### Pulls (R50 to R52) -/

/-- The slot with one more segment in copy, counted where it was cut (R51, R52). -/
def Slot.addSeg (x : Slot) (p : PullSeg) : Slot :=
  { x with pullSegs := x.pullSegs ++ [p], nTrunc := if p.trunc then x.nTrunc + 1 else x.nTrunc }

theorem startPull_slot (s : State) (k : Nat) (p : PullSeg) : (startPull s k p).slot k = (s.slot k).addSeg p := by
  dsimp only [startPull, Slot.addSeg]
  split <;> simp

theorem startPull_out (s : State) (k : Nat) (p : PullSeg) :
    (startPull s k p).out = (readHost s (s.slot k).owner p.desc.w1 p.len).out := by
  unfold startPull
  dsimp only
  split <;> rfl

/-- A pull that finds a FREE buffer opens it and begins its first segment (R50). -/
theorem openPull_free {s : State} {k b : Nat} (p : PullSeg)
    (h : (s.slot k).bufIds.find? (fun b => ((s.slot k).buf b).state = .free) = some b) :
    ((openPull s k p).slot k).pullOpen = some b ∧ ((openPull s k p).slot k).pullWait = none ∧
      ((openPull s k p).slot k).pullSegs = (s.slot k).pullSegs ++ [p] ∧ (((openPull s k p).slot k).buf b).state = .filling := by
  simp only [openPull, freeTarget_free h]
  rw [startPull_slot, State.modSlot_slot_self, startFilling_slot, if_pos rfl]
  exact ⟨rfl, rfl, rfl, (congrArg Buf.state ((s.slot k).modBuf_buf_self b fun _ => { state := .filling, arrival := s.wall }) :)⟩

/-- A pull that finds no buffer waits, and nothing else changes (R50). -/
theorem openPull_waits {s : State} {k : Nat} (p : PullSeg)
    (h : ∀ b ∈ (s.slot k).bufIds, ((s.slot k).buf b).state ≠ .free ∧ ((s.slot k).buf b).state ≠ .ready) :
    openPull s k p = s.modSlot k fun x => { x with pullWait := some p } := by
  simp only [openPull, freeTarget_none h]

/-- The slot with no pull open and none waiting. -/
def Slot.sansPulls (x : Slot) : Slot := { x with pullOpen := none, pullSegs := [], pullWait := none }

/-- The cancelled segments of a slot's open pull take nothing else of a slot with them (R55, R69). -/
theorem cancelPulls_slot (s : State) (k j : Nat) :
    (cancelPulls s k).slot j = if j = k then (s.slot k).sansPulls else s.slot j :=
  (State.slot_of_frames (State.each_keeps State.frames _ _ fun _ _ => finishOrdered_frames ..) j).trans
    (State.modSlot_slot s k Slot.sansPulls j)

/-! ### A slot that starts or stops (R56, R69) -/

@[simp] theorem reportGroups_slot (s : State) (k : Nat) (join : Bool) (j : Nat) : (reportGroups s k join).slot j = s.slot j :=
  State.slot_of_frames ((reportGroups_does s k join).same.frames (by decide)) j

/-- A slot that stops keeps what its buffers' life does not touch, but for the open frames and the mapped pages (R69, R306). -/
theorem stopSlot_slot (s : State) (k : Nat) : ((stopSlot s k).slot k).sansBufs =
    { (s.slot k).sansPulls.sansBufs with
      started := false, net := none, bar2 := [],
      legA := { (s.slot k).legA with lost := false }, legB := { (s.slot k).legB with lost := false } } := by
  dsimp only [stopSlot]
  rw [State.modSlot_slot_self, Slot.sweep_sansBufs, reportGroups_slot, cancelPulls_slot, if_pos rfl]
  have hb := Slot.foldl_sansBufs Slot.stopBuf_sansBufs (s.slot k).sansPulls.bufIds (s.slot k).sansPulls
  generalize List.foldl Slot.stopBuf _ _ = y at hb ⊢
  have hA : y.legA = (s.slot k).legA := (congrArg Slot.legA hb :)
  have hB : y.legB = (s.slot k).legB := (congrArg Slot.legB hb :)
  rw [← hb, ← hA, ← hB]
  rfl

theorem stopSlot_slot_ne (s : State) {k j : Nat} (h : j ≠ k) : (stopSlot s k).slot j = s.slot j := by
  rw [stopSlot, State.modSlot_slot, if_neg h, reportGroups_slot, cancelPulls_slot, if_neg h]

end Sys2Proof.Machine

/-! ## SRC_CONFIG, SRC_START and SRC_STOP (02) -/

namespace Sys2Proof.Machine

@[simp] theorem dropReleases_slot (s : State) (k j : Nat) : (dropReleases s k).slot j = s.slot j := rfl

@[simp] theorem dropReleases_bufMem (s : State) (k : Nat) (d : DieId) (j b : Nat) : (dropReleases s k).bufMem d j b = s.bufMem d j b := by
  cases d <;> rfl

/-- The state in which SRC_CONFIG leaves the slots: `x` configured, every buffer that no vote reads zeroed (R42, R270). -/
def slotConfigured (s : State) (k : Nat) (x : Slot) : State :=
  (zeroBuffers (dropReleases s k) k ((List.range 8).filter fun b => !(voteBufs s k).contains b)).modSlot k fun _ => x

theorem slotConfigured_slot (s : State) (k : Nat) (x : Slot) (j : Nat) :
    (slotConfigured s k x).slot j = if j = k then x else s.slot j := by
  rw [slotConfigured, State.modSlot_slot, zeroBuffers_slot, dropReleases_slot]

theorem slotConfigured_zeroed (s : State) {k b : Nat} (x : Slot) (d : DieId) (hb : b < 8) (hv : b ∉ voteBufs s k) :
    (slotConfigured s k x).bufMem d k b = [] := by
  rw [slotConfigured, State.modSlot_bufMem, zeroBuffers_bufMem, if_pos ⟨b, by simp [hb, hv], rfl⟩]

theorem slotConfigured_bufMem_ne (s : State) {k j b : Nat} (x : Slot) (d : DieId) (hb : b < 8) (hj : j ≠ k) :
    (slotConfigured s k x).bufMem d j b = s.bufMem d j b := by
  rw [slotConfigured, State.modSlot_bufMem, zeroBuffers_bufMem, if_neg, dropReleases_bufMem]
  rintro ⟨c, hc, he⟩
  exact bufKey_ne hj hb (by simpa using (List.mem_filter.1 hc).1) he

/-- A configuration within the limits is taken, with the BAR2 offsets of its buffers for an answer (R68, R70, R306). -/
theorem srcConfigBody_ok {s : State} {r : Req} {x : Slot} {offs : List Nat}
    (hx : x = { cfg := (List.range 6).map r.word, owner := s.ownerOf 6 (reqSlot r), late := (s.slot (reqSlot r)).late,
                bufs := (voteBufs s (reqSlot r)).foldl
                  (fun m b => Tbl.set {} m b { (s.slot (reqSlot r)).buf b with old := true, zeroDue := true }) [] })
    (hstopped : (s.slot (reqSlot r)).started = false) (hlimits : slotLimits x = true) (hpool : poolFits s (reqSlot r) x = true)
    (hdecode : decodeFits s (reqSlot r) x = true) (hingest : ingestFits [(reqSlot r, x)] = true)
    (hbar2 : x.kind = 2 → bar2Alloc x.buffers (bar2Span x.bufBytes) (bar2Used s x.owner (reqSlot r)) = some offs)
    (hother : x.kind ≠ 2 → offs = []) :
    srcConfigBody s r = .ok (slotConfigured s (reqSlot r) { x with bar2 := offs })
      ((List.range 8).map fun i => BitVec.ofNat 64 (offs.getD i 0)) := by
  have howner : x.owner = s.ownerOf 6 (reqSlot r) := congrArg Slot.owner hx
  have halloc : (if x.kind = 2 then bar2Alloc x.buffers (bar2Span x.bufBytes) (bar2Used s (s.ownerOf 6 (reqSlot r)) (reqSlot r))
      else some []) = some offs := by
    rw [← howner]
    split
    · next h => exact hbar2 h
    · next h => rw [hother h]
  unfold srcConfigBody
  dsimp only
  rw [← hx, halloc]
  simp only [hstopped, hlimits, hpool, hdecode, hingest]
  subst hx
  rfl

/-- The slot started at uptime `now`, with no frame received (R69). -/
def Slot.begun (x : Slot) (now : Nat) : Slot :=
  { x with started := true, frames := 0, net := none, judged := [],
           legA := { x.legA with lost := false, lastAt := now }, legB := { x.legB with lost := false, lastAt := now } }

/-- A configured slot that fits starts with frame numbers from 0 (R69, R70). -/
theorem srcStartBody_ok {s : State} {r : Req} (hkind : (s.slot (reqSlot r)).kind ≠ 0)
    (hstopped : (s.slot (reqSlot r)).started = false) (hlimits : slotLimits (s.slot (reqSlot r)) = true)
    (hpool : poolFits s (reqSlot r) (s.slot (reqSlot r)) = true)
    (hingest : ingestFits ((reqSlot r, s.slot (reqSlot r)) :: s.frames.slots.filter fun y => y.1 ≠ reqSlot r && y.2.started) = true) :
    srcStartBody s r =
      .ok (reportGroups (s.modSlot (reqSlot r) fun x => x.begun s.uptime) (reqSlot r) true) := by
  simp only [srcStartBody, hkind, hstopped, hlimits, hpool, hingest]
  rfl

theorem srcStartBody_badParam {s : State} {r : Req}
    (h : (s.slot (reqSlot r)).kind = 0 ∨ (s.slot (reqSlot r)).started = true) : srcStartBody s r = .badParam s := by
  rw [srcStartBody]
  exact if_pos (by simpa using h)

/-- Settles O13: each command is served, so its body's branch answers it, and the laws of the slot operations say what that branch
changes. -/
theorem sourceCommands : Obligations.SourceCommands := by
  refine ⟨?config, fun r s s1 k hk => ?_⟩
  case config =>
    intro r s s1 k x offs hserved hk hx hstopped hlimits hpool hdecode hingest hbar2 hother
    obtain rfl : k = reqSlot r := hk
    have hbody := srcConfigBody_ok hx hstopped hlimits hpool hdecode hingest hbar2 hother
    refine ⟨_, congrArg Host.Outcome.next (jcs_ok hserved hbody (by simp)), ?_, fun j hj => ?_, fun d b hb hv => ?_,
      fun d j b hb hj => ?_⟩
    · exact (slotConfigured_slot ..).trans (if_pos rfl)
    · exact (slotConfigured_slot ..).trans (if_neg hj)
    · exact slotConfigured_zeroed s1 _ d hb hv
    · exact slotConfigured_bufMem_ne s1 _ d hb hj
  obtain rfl : k = reqSlot r := hk
  refine ⟨?start, ?refused, ?stop, ?stopped⟩
  case start =>
    intro hserved hkind hstopped hlimits hpool hingest
    have hok := jcs_ok hserved (srcStartBody_ok hkind hstopped hlimits hpool hingest) (Nat.zero_le 511)
    refine ⟨_, congrArg Host.Outcome.next hok, ?_⟩
    have hself : (reportGroups (s1.modSlot (reqSlot r) fun x => x.begun s1.uptime) (reqSlot r) true).slot (reqSlot r) =
        (s1.slot (reqSlot r)).begun s1.uptime := by rw [reportGroups_slot, State.modSlot_slot_self]
    rw [hself]
    refine ⟨rfl, rfl, rfl, rfl, fun j hj => ?_⟩
    rw [reportGroups_slot, State.modSlot_slot]
    exact if_neg hj
  case refused =>
    intro hserved h
    have hanswer := jcs_answered hserved (srcStartBody_badParam h) (show 4 ≠ 1 by decide) (Nat.zero_le 511)
    exact congrArg Host.Outcome.next hanswer
  case stop =>
    intro hserved hstarted
    have hbody : srcStopBody s1 r = .ok (stopSlot s1 (reqSlot r)) := if_pos hstarted
    have hstop := stopSlot_slot s1 (reqSlot r)
    exact ⟨_, congrArg Host.Outcome.next (jcs_ok hserved hbody (Nat.zero_le _)), congrArg Slot.started hstop, congrArg Slot.net hstop,
      congrArg Slot.pullOpen hstop, congrArg Slot.pullSegs hstop, fun j hj => stopSlot_slot_ne s1 hj⟩
  case stopped =>
    intro hserved hstopped
    have hbody : srcStopBody s1 r = .ok s1 := if_neg (ne_true_of_eq_false hstopped)
    exact congrArg Host.Outcome.next (jcs_ok hserved hbody (Nat.zero_le _))

end Sys2Proof.Machine

/-! ## PULL segments, SUBMIT, CANCEL and RELEASE (02) -/

namespace Sys2Proof.Machine

/-! ### A PULL segment is taken (R50 to R53) -/

/-- A segment of a slot of another partition completes at once, and counts one violation (R53, R351). -/
theorem pullSegment_foreign {s s1 : State} {ring t : Nat} {d : Desc} (ht : takeSource s ring d 1 = some (s1, t))
    (ho : s1.owns (s1.ring ring).owner 6 (srcSlot d) = false) : exec (.pullSegment ring d) s =
      .next (endSource (violate s1 (s1.ring ring).owner) ring t d (pullCtype d) 0) := by
  simp [exec, execPullSegment, ht, ho]

/-- The segment that a descriptor of ring `ring` with ticket `t` asks of slot `x`: LENGTH bytes, cut at the end of the buffer (R52). -/
def pullSegOf (x : Slot) (ring t : Nat) (d : Desc) : PullSeg :=
  ⟨ring, t, d, if x.bufBytes < fld d.w2 31 0 + srcLen d then x.bufBytes - fld d.w2 31 0 else srcLen d,
    decide (x.bufBytes < fld d.w2 31 0 + srcLen d)⟩

section Segment
variable {s s1 : State} {ring t : Nat} {d : Desc} (ht : takeSource s ring d 1 = some (s1, t))
  (ho : s1.owns (s1.ring ring).owner 6 (srcSlot d) = true) (h0 : srcLen d ≠ 0) (hmax : srcLen d ≠ 0xFFFFFFFF)
  (hkind : (s1.slot (srcSlot d)).kind = 1) (hstarted : (s1.slot (srcSlot d)).started = true)
  (hwait : (s1.slot (srcSlot d)).pullWait = none)
include ht ho h0 hmax hkind hstarted hwait

/-- A segment that fits the slot begins, after a FIRST one has found its buffer (R50, R51). -/
theorem pullSegment_fits (hfits : pullFits (s1.slot (srcSlot d)) (bit d.w0 8) = true) : exec (.pullSegment ring d) s =
    .next (if bit d.w0 8 then openPull s1 (srcSlot d) (pullSegOf (s1.slot (srcSlot d)) ring t d)
      else startPull s1 (srcSlot d) (pullSegOf (s1.slot (srcSlot d)) ring t d)) := by
  simp [exec, execPullSegment, ht, ho, h0, hmax, hkind, hstarted, hwait, hfits, pullSegOf]

/-- A later segment of the open pull begins at once (R51). -/
theorem pullSegment_continues (hb : bit d.w0 8 = false) (hopen : (s1.slot (srcSlot d)).pullOpen.isSome)
    (hlast : ∀ g ∈ (s1.slot (srcSlot d)).pullSegs, bit g.desc.w0 9 = false) : exec (.pullSegment ring d) s =
      .next (startPull s1 (srcSlot d) (pullSegOf (s1.slot (srcSlot d)) ring t d)) := by
  have hfits : pullFits (s1.slot (srcSlot d)) (bit d.w0 8) = true := by simpa [pullFits, hb, hopen] using hlast
  rw [pullSegment_fits ht ho h0 hmax hkind hstarted hwait hfits, hb]
  rfl

/-- A FIRST segment with no pull open looks for a buffer (R50). -/
theorem pullSegment_first (hb : bit d.w0 8 = true) (hopen : (s1.slot (srcSlot d)).pullOpen = none) : exec (.pullSegment ring d) s =
    .next (openPull s1 (srcSlot d) (pullSegOf (s1.slot (srcSlot d)) ring t d)) := by
  have hfits : pullFits (s1.slot (srcSlot d)) (bit d.w0 8) = true := by simp [pullFits, hb, hopen]
  rw [pullSegment_fits ht ho h0 hmax hkind hstarted hwait hfits, if_pos hb]

end Segment

/-! ### The end of a pull (R44, R49, R50, R55) -/

/-- The state in which the oldest segment's bytes are in the open buffer and the segment is gone. -/
def segmentLanded (s : State) (k b : Nat) (p : PullSeg) (rest : List PullSeg) (bytes : List Byte) : State :=
  (writeBoth s k b (fld p.desc.w2 31 0) (bytes.take p.len)).modSlot k fun x => { x with pullSegs := rest }

theorem segmentLanded_slot (s : State) (k b : Nat) (p : PullSeg) (rest : List PullSeg) (bytes : List Byte) :
    (segmentLanded s k b p rest bytes).slot k = { s.slot k with pullSegs := rest } := by
  rw [segmentLanded, State.modSlot_slot_self, writeBoth_slot]

section PullEnd
variable {s : State} {k b : Nat} {p : PullSeg} {rest : List PullSeg} (hopen : (s.slot k).pullOpen = some b)
  (hsegs : (s.slot k).pullSegs = p :: rest) (hcp : s.hub.cpFailed = false)
include hopen hsegs hcp

theorem pullSegmentDone_more (bytes : List Byte) (hlast : bit p.desc.w0 9 = false) : exec (.pullSegmentDone k bytes) s =
    .next (finishOrdered (segmentLanded s k b p rest bytes) p.ring p.ticket (srcCompletion s 5 0 k b p.trunc false 0 p.desc.w3)) := by
  have htime : (segmentLanded s k b p rest bytes).time = s.time := (writeBoth_does ..).same.time (by decide)
  rw [← srcCompletion_of_time htime]
  simp [exec, execPullSegmentDone, hopen, hsegs, hcp, hlast, segmentLanded]

theorem pullSegmentDone_last (bytes : List Byte) (hlast : bit p.desc.w0 9 = true) : ∃ w, exec (.pullSegmentDone k bytes) s =
    .next (finishOrdered (bufReady ((segmentLanded s k b p rest bytes).modSlot k fun x => { x with pullOpen := none }) k b)
      p.ring p.ticket w) := by
  simp [exec, execPullSegmentDone, hopen, hsegs, hcp, hlast, segmentLanded]

theorem pullTimeout_abandons : ∃ w, exec (.pullTimeout k) s = .next
    (abandon (cancelPulls (finishOrdered (s.modSlot k fun x => { x with pullSegs := rest }) p.ring p.ticket w) k) k b) := by
  simp only [exec, execPullTimeout, hopen, hsegs, hcp]
  exact ⟨_, rfl⟩

end PullEnd

theorem pullBufferWaitEnd_opens {s : State} {k : Nat} {p : PullSeg} (hwait : (s.slot k).pullWait = some p)
    (hcp : s.hub.cpFailed = false) : exec (.pullBufferWaitEnd k) s = .next (openPull s k p) := by
  simp [exec, execPullBufferWaitEnd, hwait, hcp]

/-! ### SUBMIT, CANCEL, RELEASE_POSTED (R44, R53 to R55, R358) -/

section Bar2Desc
variable {s s1 : State} {ring t : Nat} {d : Desc} (ho : s1.owns (s1.ring ring).owner 6 (srcSlot d) = true)
  (hkind : (s1.slot (srcSlot d)).kind = 2) (hstarted : (s1.slot (srcSlot d)).started = true)
  (hb : srcBuf d < (s1.slot (srcSlot d)).buffers) (hfilling : ((s1.slot (srcSlot d)).buf (srcBuf d)).state = .filling)
include ho hkind hstarted hb hfilling

/-- SUBMIT of a FILLING buffer makes it READY, and names the ring that takes its RELEASE (R44, R55). -/
theorem submit_ready (ht : takeSource s ring d 2 = some (s1, t)) (h0 : srcLen d ≠ 0) (hmax : srcLen d ≠ 0xFFFFFFFF) :
    ∃ (n : Slot → BitVec 32) (cut : Bool) (frame : Nat), exec (.submit ring d) s = .next (endSource (bufReady (s1.modSlot (srcSlot d) fun x =>
      { x with feedRing := some (s1.feedOf ring), nTrunc := n x }) (srcSlot d) (srcBuf d)) ring t d 2 0 cut frame) := by
  have hready : (decide ((s1.slot (srcSlot d)).kind ≠ 2) || !(s1.slot (srcSlot d)).started ||
      decide ((s1.slot (srcSlot d)).buffers ≤ srcBuf d) ||
      decide (((s1.slot (srcSlot d)).buf (srcBuf d)).state ≠ .filling)) = false := by
    simp [hkind, hstarted, hfilling, hb]
  simp only [exec, execSubmit, ht, ho, h0, hmax, hready, Bool.not_true, Bool.false_eq_true, if_false]
  exact ⟨fun x => if decide ((s1.slot (srcSlot d)).bufBytes < srcLen d) then x.nTrunc + 1 else x.nTrunc, _, _, rfl⟩

/-- CANCEL of a FILLING buffer gives it up (R44). -/
theorem cancel_abandons (ht : takeSource s ring d 3 = some (s1, t)) : exec (.cancel ring d) s =
    .next (endSource (abandon s1 (srcSlot d) (srcBuf d)) ring t d 4 0) := by
  simp [exec, execCancel, ht, ho, hkind, hstarted, hfilling, hb]

end Bar2Desc

theorem releasePosted_completes {s : State} {k b : Nat} {feed : Nat × Nat} (hst : ((s.slot k).buf b).state = .released)
    (hrep : ((s.slot k).buf b).reported = false) (hfeed : (s.slot k).feedRing = some feed) (hcp : s.hub.cpFailed = false) :
    exec (.releasePosted k b) s = .next (complete (s.modSlot k fun x => x.modBuf b fun y => { y with reported := true }) feed.1 feed.2
      (srcCompletion s 3 0 k b false ((s.slot k).buf b).dropped ((s.slot k).buf b).frame 0) (some (k, b))) := by
  simp [exec, execReleasePosted, hst, hrep, hfeed, hcp]

/-! ### The rows -/

/-- Settles O14: each row is the branch of its meaning that the state selects; what that branch leaves in the slot is said by the laws
of `openPull`, `bufReady` and `abandon`. -/
theorem pullSlots : Obligations.PullSlots := by
  refine ⟨?segment, ?ends, ?host⟩
  case segment =>
    intro s s1 ring t k n d ht hk hn
    obtain ⟨rfl, rfl⟩ : k = srcSlot d ∧ n = srcLen d := ⟨hk, hn⟩
    refine ⟨fun ho => ?_, fun ho h0 hmax hkind hstarted hwait => ⟨fun hb hopen hlast => ?_, fun hb hopen b hfree => ?_,
      fun hb hopen hnone => ?_⟩⟩
    · exact pullSegment_foreign ht ho
    · refine ⟨_, pullSegment_continues ht ho h0 hmax hkind hstarted hwait hb hopen hlast, ?_, ?_⟩
      · rw [startPull_out, readHost_out]
        rfl
      · rw [startPull_slot]
        rfl
    · obtain ⟨hopened, -, -, hstate⟩ := openPull_free (pullSegOf (s1.slot (srcSlot d)) ring t d) hfree
      exact ⟨_, pullSegment_first ht ho h0 hmax hkind hstarted hwait hb hopen, hopened, hstate⟩
    · refine ⟨_, pullSegment_first ht ho h0 hmax hkind hstarted hwait hb hopen, ?_⟩
      rw [openPull_waits _ hnone, State.modSlot_slot_self]
      exact ⟨rfl, rfl⟩
  case ends =>
    intro s k b p rest bytes
    refine ⟨fun hopen hsegs hcp hlast => pullSegmentDone_more hopen hsegs hcp bytes hlast, fun hopen hsegs hcp hlast => ?_,
      fun hopen hsegs hcp => ?_, fun hwait hcp hfree => ?_⟩
    · obtain ⟨w, hexec⟩ := pullSegmentDone_last hopen hsegs hcp bytes hlast
      refine ⟨_, hexec, ?_⟩
      rw [finishOrdered_slot, bufReady_slot, if_pos rfl, State.modSlot_slot_self, segmentLanded_slot]
      have hready := Slot.ready_sansBufs { s.slot k with pullSegs := rest, pullOpen := none } b
      exact ⟨congrArg Slot.pullOpen (hready ..), congrArg Slot.pullSegs (hready ..), congrArg Slot.frames (hready ..),
        (Slot.ready_buf ..).2⟩
    · obtain ⟨w, hexec⟩ := pullTimeout_abandons hopen hsegs hcp
      refine ⟨_, hexec, ?_⟩
      rw [abandon_slot, if_pos rfl, cancelPulls_slot, if_pos rfl, finishOrdered_slot, State.modSlot_slot_self]
      exact ⟨rfl, rfl, Slot.abandon_buf_self .., rfl⟩
    · exact ⟨_, pullBufferWaitEnd_opens hwait hcp, openPull_free p hfree⟩
  case host =>
    intro s s1 ring t k b d hk hb
    obtain ⟨rfl, rfl⟩ : k = srcSlot d ∧ b = srcBuf d := ⟨hk, hb⟩
    refine ⟨fun ht ho h0 hmax hkind hstarted hb hfilling => ?_, fun ht ho hkind hstarted hb hfilling => ?_,
      fun feed hst hrep hfeed hcp => releasePosted_completes hst hrep hfeed hcp⟩
    · obtain ⟨n, cut, frame, hexec⟩ := submit_ready ho hkind hstarted hb hfilling ht h0 hmax
      refine ⟨_, hexec, ?_⟩
      rw [endSource_slot, bufReady_slot]
      have hready := Slot.ready_sansBufs { s1.slot (srcSlot d) with feedRing := some (s1.feedOf ring), nTrunc := n (s1.slot (srcSlot d)) }
        (srcBuf d)
      rw [if_pos rfl, State.modSlot_slot_self]
      exact ⟨congrArg Slot.frames (hready ..), (Slot.ready_buf ..).2, congrArg Slot.feedRing (hready ..)⟩
    · refine ⟨_, cancel_abandons ho hkind hstarted hb hfilling ht, ?_⟩
      rw [endSource_slot, abandon_slot, if_pos rfl]
      exact ⟨Slot.abandon_buf_self .., rfl⟩

end Sys2Proof.Machine

/-! ## BAR2 accesses and ST 2110-20 flows (02) -/

namespace Sys2Proof.Machine

/-! ### BAR2 (R48, R306 to R308) -/

/-- The state in which the buffer that a write names fills: a FREE one starts to (R44). -/
def bar2Filling (s : State) (k b : Nat) : State := if ((s.slot k).buf b).state = .free then startFilling s k b else s

@[simp] theorem bar2Filling_bufMem (s : State) (k b : Nat) (d : DieId) (j c : Nat) :
    (bar2Filling s k b).bufMem d j c = s.bufMem d j c := by
  unfold bar2Filling
  split
  · exact startFilling_bufMem ..
  · rfl

@[simp] theorem bar2Filling_mirrored (s : State) (k b : Nat) (d : DieId) : (bar2Filling s k b).mirrored d = s.mirrored d := by
  unfold bar2Filling
  split
  · exact congrArg Die.running ((startFilling_does s k b).same.die (by decide) d)
  · rfl

theorem bar2Filling_state {s : State} {k b : Nat}
    (hst : ((s.slot k).buf b).state = .free ∨ ((s.slot k).buf b).state = .filling) :
    (((bar2Filling s k b).slot k).buf b).state = .filling := by
  unfold bar2Filling
  split
  · rw [startFilling_slot, if_pos rfl, Slot.modBuf_buf_self]
  · next h => exact hst.resolve_left h

section Bar2
variable {s : State} {f offset : Nat} {data : List Byte} (hu : s.inUse f = true)
include hu

/-- A write where no buffer is mapped, or longer than the Max Payload Size, counts one violation (R48, R308). -/
theorem bar2Write_refused (h : bar2Find s f offset = none ∨ (s.func f).maxPayload < data.length) :
    exec (.bar2Write f offset data false) s = .next (violate s f) := by
  by_cases hlen : (s.func f).maxPayload < data.length
  · simp [exec, execBar2Write, hu, hlen]
  · simp [exec, execBar2Write, hu, hlen, h.resolve_right hlen]

/-- A read answers the content of the buffer (R307). -/
theorem bar2Read_answers {k b a n : Nat} (hfind : bar2Find s f offset = some (k, b, a)) (hn : n ≤ (s.func f).maxRead) :
    exec (.bar2Read f offset n) s =
      .next (s.emit (.barRead f (memRead (s.bufMem (if s.dies.a.fenced then .b else .a) k b) a n))) := by
  simp [exec, execBar2Read, hu, hfind, Nat.not_lt.2 hn]

/-- A write into a FREE or FILLING buffer of the function's slot puts the bytes up to its end there, and the buffer fills (R44, R48). -/
theorem bar2Write_fills {k b a : Nat} (hfind : bar2Find s f offset = some (k, b, a)) (hcp : s.hub.cpFailed = false)
    (hlen : data.length ≤ (s.func f).maxPayload)
    (hst : ((s.slot k).buf b).state = .free ∨ ((s.slot k).buf b).state = .filling) : exec (.bar2Write f offset data false) s =
      .next (writeBoth (bar2Filling s k b) k b a (data.take ((s.slot k).bufBytes - a))) := by
  simp [bar2Filling, exec, execBar2Write, hu, hfind, hcp, hst, Nat.not_lt.2 hlen]

end Bar2

/-! ### Legs of a slot (R57 to R61) -/

/-- The legs are no part of what the life of the buffers changes. -/
theorem Slot.leg_of_sansBufs {x y : Slot} (h : y.sansBufs = x.sansBufs) (l : Nat) : y.leg l = x.leg l :=
  (congrArg (Slot.leg · l) h :)

theorem Slot.modLeg_leg_self (x : Slot) (l : Nat) (g : Leg → Leg) : (x.modLeg l g).leg l = g (x.leg l) := by
  unfold Slot.modLeg Slot.leg
  split <;> rfl

theorem State.modSlot_leg (s : State) (k j l : Nat) {g : Slot → Slot} (hg : ∀ x, (g x).leg l = x.leg l) :
    ((s.modSlot k g).slot j).leg l = (s.slot j).leg l := by
  rw [State.modSlot_slot]
  split
  · next h => rw [hg, h]
  · rfl

section Legs
variable (s : State) (k j l : Nat)

@[simp] theorem bufReady_leg (b : Nat) (concealed : Bool) (media : Nat) :
    ((bufReady s k b concealed media).slot j).leg l = (s.slot j).leg l := by
  rw [bufReady_slot]
  split
  · next h =>
    rw [h]
    exact (congrArg (Slot.leg · l) ((s.slot k).ready_sansBufs b s.wall concealed media) :)
  · rfl

@[simp] theorem startFilling_leg (b : Nat) : ((startFilling s k b).slot j).leg l = (s.slot j).leg l := by
  rw [startFilling_slot]
  split
  · next h => rw [h]; rfl
  · rfl

@[simp] theorem abandon_leg (b : Nat) : ((abandon s k b).slot j).leg l = (s.slot j).leg l :=
  State.modSlot_leg s k j l fun _ => rfl

@[simp] theorem judgeNet_leg : ((judgeNet s k).slot j).leg l = (s.slot j).leg l := by
  unfold judgeNet
  dsimp only
  split
  · rfl
  · split
    · split
      · rw [bufReady_leg]
        exact State.modSlot_leg s k j l fun _ => rfl
      · rw [slotEvent_slot, abandon_leg]
        exact State.modSlot_leg s k j l fun _ => rfl
    · rw [slotEvent_slot]
      refine (State.modSlot_leg _ k j l ?_).trans (State.modSlot_leg s k j l ?_) <;> exact fun _ => rfl

@[simp] theorem judgeIfIn_leg : ((judgeIfIn s k).slot j).leg l = (s.slot j).leg l := by
  unfold judgeIfIn
  split
  · split
    · exact judgeNet_leg s k j l
    · rfl
  · rfl

@[simp] theorem openNet_leg (ts : BitVec 32) : ((openNet s k ts).slot j).leg l = (s.slot j).leg l := by
  unfold openNet
  split
  · next h =>
    refine (State.modSlot_leg _ k j l ?_).trans ?_
    · exact fun _ => rfl
    · rw [startFilling_leg]
      exact Slot.leg_of_sansBufs (freeTarget_sansBufs h j) l
  · exact State.modSlot_leg s k j l fun _ => rfl

@[simp] theorem frameFor_leg (ts : BitVec 32) : ((frameFor s k ts).slot j).leg l = (s.slot j).leg l := by
  unfold frameFor
  split
  · split
    · rfl
    · rw [openNet_leg, judgeNet_leg]
      split
      · exact State.modSlot_leg s k j l fun _ => rfl
      · rfl
  · exact openNet_leg s k j l ts

@[simp] theorem mergeDie_leg (d : DieId) (b : Nat) (p : NetPkt) : ((mergeDie s d k b p).slot j).leg l = (s.slot j).leg l := by
  unfold mergeDie
  dsimp only
  refine (State.modSlot_leg _ k j l ?_).trans ?_
  · exact fun _ => rfl
  · exact State.each_keeps (fun s => (s.slot j).leg l) _ _ fun s r => by rw [writeDie_slot]

end Legs

/-! ### A packet for a slot's leg (R57 to R61) -/

/-- Slot `k`'s leg has received `n` packets and is not lost. -/
def LegHears (k leg : Nat) (n : BitVec 32) (s : State) : Prop :=
  ((s.slot k).leg leg).received = n ∧ ((s.slot k).leg leg).lost = false

section Packet
variable {s : State} {k leg : Nat} {n : BitVec 32}

theorem LegHears.congr {t : State} (h : LegHears k leg n s) (ht : (t.slot k).leg leg = (s.slot k).leg leg) : LegHears k leg n t := by
  rwa [LegHears, ht]

/-- Changes of the leg that count neither a packet nor a loss. -/
theorem LegHears.modLeg {g : Leg → Leg} (h : LegHears k leg n s) (hr : ∀ x, (g x).received = x.received)
    (hl : ∀ x, (g x).lost = x.lost) : LegHears k leg n (s.modSlot k fun x => x.modLeg leg g) := by
  rwa [LegHears, State.modSlot_slot_self, Slot.modLeg_leg_self, hr, hl]

theorem LegHears.mergePacket {p : NetPkt} (h : LegHears k leg n s) : LegHears k leg n (mergePacket s k leg p) := by
  unfold Machine.mergePacket
  split
  · exact h
  · dsimp only
    refine LegHears.congr ?_ ((judgeIfIn_leg ..).trans (State.modSlot_leg _ k k leg ?_))
    · split
      · exact h
      · generalize (packetRuns (s.slot k) p).all _ = dup
        split
        · refine h.modLeg ?_ ?_ <;> exact fun _ => rfl
        · split
          · exact h.congr (by rw [mergeDie_leg, mergeDie_leg])
          · exact h.congr (mergeDie_leg ..)
    · intro x
      rfl

end Packet

/-- A packet for a leg counts as received, and the leg is no longer lost (R61, R72). -/
theorem slotPacket_hears (s : State) (k leg : Nat) (p : NetPkt) :
    LegHears k leg (((s.slot k).leg leg).received + 1) (slotPacket s k leg p) := by
  have h1 : LegHears k leg (((s.slot k).leg leg).received + 1) (s.modSlot k fun x => x.modLeg leg fun l =>
      { l with received := l.received + 1, lost := false, lastAt := s.uptime }) := by
    rw [LegHears, State.modSlot_slot_self, Slot.modLeg_leg_self]
    exact ⟨rfl, rfl⟩
  unfold slotPacket
  dsimp only
  generalize ((s.slot k).leg leg).received + 1 = n at h1 ⊢
  generalize s.modSlot k _ = s1 at h1 ⊢
  have h2 : LegHears k leg n (if ((s.slot k).leg leg).lost then slotEvent s1 k 5 (put leg 1 0) else s1) := by
    split
    · exact h1.congr (by rw [slotEvent_slot])
    · exact h1
  generalize (if ((s.slot k).leg leg).lost then slotEvent s1 k 5 (put leg 1 0) else s1) = s2 at h2 ⊢
  split
  · have h3 := h2.modLeg (g := fun l => { l with malformed := l.malformed + 1 }) (fun _ => rfl) fun _ => rfl
    generalize s2.modSlot k _ = s3 at h3 ⊢
    have told : ∀ due : Bool, LegHears k leg n
        (if due then slotEvent (s3.modSlot k fun x => { x with malformedAt := some s.uptime }) k 7
          (put leg 1 0 ||| put (malformedCause (s2.slot k) p) 3 1) else s3) := by
      intro due
      split
      · exact h3.congr (by rw [slotEvent_slot]; exact State.modSlot_leg s3 k k leg fun _ => rfl)
      · exact h3
    have spoilt : ∀ u : State, LegHears k leg n u → LegHears k leg n
        (if (s2.slot k).judged.any (fun j => decide (j.ts = p.ts)) = true then u
          else (frameFor u k p.ts).modSlot k fun x => { x with net := x.net.map fun n => { n with bad := true } }) := by
      intro u hu
      split
      · exact hu
      · refine hu.congr ((State.modSlot_leg _ k k leg ?_).trans (frameFor_leg ..))
        exact fun _ => rfl
    exact spoilt _ (told _)
  · split
    · split
      · refine h2.modLeg ?_ ?_ <;> exact fun _ => rfl
      · refine h2.modLeg ?_ ?_ <;> exact fun _ => rfl
    · exact (h2.congr (frameFor_leg ..)).mergePacket

/-! ### The open frame is judged, a leg falls silent (R58, R61) -/

/-- A judged frame is closed, and stands at the head of the frames judged (R58, R59). -/
theorem judgeNet_closes {s : State} {k : Nat} {n : NetFrame} (h : (s.slot k).net = some n) :
    ((judgeNet s k).slot k).net = none ∧ ∃ j, ((judgeNet s k).slot k).judged.head? = some j ∧ j.ts = n.ts := by
  simp only [judgeNet, h]
  split
  · split
    · rw [bufReady_net, bufReady_judged, State.modSlot_slot_self]
      exact ⟨rfl, _, rfl, rfl⟩
    · rw [slotEvent_slot, abandon_slot, if_pos rfl, State.modSlot_slot_self]
      exact ⟨rfl, _, rfl, rfl⟩
  · rw [slotEvent_slot, State.modSlot_slot_self, State.modSlot_slot_self]
    exact ⟨rfl, _, rfl, rfl⟩

/-- A leg lost while no frame is open raises the slot's event 0x04 and nothing else (R61, R71). -/
theorem netLegLoss_tells {s : State} {k leg : Nat} (hstarted : (s.slot k).started = true) (hen : (s.slot k).legEn leg = true)
    (hlost : ((s.slot k).leg leg).lost = false) (hwin : Tbl.get false s.time.netWindow ((s.slot k).legPort leg) = false)
    (hnet : (s.slot k).net = none) : exec (.netLegLoss k leg) s =
      .next (raise (s.modSlot k fun x => x.modLeg leg fun l => { l with lost := true }) (64 + k) 4 (put leg 1 0)) := by
  have hclosed : ((slotEvent (s.modSlot k fun x => x.modLeg leg fun l => { l with lost := true }) k 4 (put leg 1 0)).slot k).net
      = none := by
    rw [slotEvent_slot, State.modSlot_slot_self, Slot.modLeg]
    split <;> exact hnet
  have hjudge : ∀ u : State, (u.slot k).net = none → judgeIfIn u k = u := fun u hu => by simp only [judgeIfIn, hu]
  simp only [exec, execNetLegLoss, hstarted, hen, hlost, inWindow, hwin, hjudge _ hclosed]
  rfl

/-! ### The rows -/

/-- Settles O15: a BAR2 write is read back by `writeBoth_bufMem`, a judged frame by `judgeNet_closes`, a packet by
`slotPacket_hears`; the other clauses are branches of their rows. -/
theorem bar2AndNet : Obligations.Bar2AndNet := by
  refine ⟨fun s f offset k b a data hu => ⟨?write, fun h => bar2Write_refused hu h, fun n hfind hn => bar2Read_answers hu hfind hn⟩,
    fun s k leg port n p => ⟨?timeout, fun _ hs he hl hw hn => netLegLoss_tells hs he hl hw hn, ?packet, ?foreign⟩⟩
  case write =>
    intro hfind hcp hlen hst
    refine ⟨_, bar2Write_fills hu hfind hcp hlen hst, ?_, fun d i hd hi hend => ?_, fun d i hout => ?_, fun d j c hne => ?_⟩
    · rw [writeBoth_slot, bar2Filling_state hst]
    · have htake : i < (data.take ((s.slot k).bufBytes - a)).length := by rw [List.length_take]; omega
      rw [writeBoth_bufMem, if_pos ⟨(bar2Filling_mirrored ..).trans hd, rfl⟩, memWrite_get _ _ _ _ htake, List.getElem_take,
        List.getD_eq_getElem _ _ hi]
    · have htake : i < a ∨ a + (data.take ((s.slot k).bufBytes - a)).length ≤ i := by rw [List.length_take]; omega
      rw [writeBoth_bufMem]
      split
      · rw [memWrite_get_ne _ _ _ _ htake, bar2Filling_bufMem]
      · rw [bar2Filling_bufMem]
    · rw [writeBoth_bufMem, if_neg fun h => hne h.2, bar2Filling_bufMem]
  case timeout =>
    intro hnet hmarker
    refine ⟨judgeNet s k, ?_, judgeNet_closes hnet⟩
    simp [exec, execNetFrameTimeout, hnet, hmarker]
  case packet =>
    intro _ hrecv hlegs
    refine ⟨slotPacket s k leg p, ?_, slotPacket_hears s k leg p⟩
    simp [exec, execNetPacket, hrecv, hlegs, State.each]
  case foreign =>
    rintro (h | h)
    · simp [exec, execNetPacket, h]
    · simp [exec, execNetPacket, h, State.each]

end Sys2Proof.Machine

/-! ## Every command: a next state, and what it may change

A row's proof follows the branches of its meaning; each operation it meets there has its law in Laws/Does*.lean, which `Does.next`
puts before what has been done so far. -/

namespace Sys2Proof.Machine

/-- The outcome is a next state, to which `s` changes in no part but those of `l`. -/
def Gives (l : List Part) (s : State) (o : Host.Outcome State Fault Refusal) : Prop := ∃ t, o = .next t ∧ Does l s t

section
variable {l l' : List Part} {s t : State}

theorem Gives.of (h : Does l s t) (hl : (l.all fun p => l'.contains p) = true) : Gives l' s (.next t) := ⟨t, rfl, h.mono hl⟩

/-- A row that acts where `c` does not hold. -/
theorem Gives.unless {c : Prop} [Decidable c] (h : Does l s t) (hl : (l.all fun p => l'.contains p) = true) :
    Gives l' s (.next (if c then s else t)) := by
  split
  · exact ⟨s, rfl, Does.refl l' s⟩
  · exact .of h hl

/-- A row that acts where `c` holds. -/
theorem Gives.onlyIf {c : Prop} [Decidable c] (h : Does l s t) (hl : (l.all fun p => l'.contains p) = true) :
    Gives l' s (.next (if c then t else s)) := by
  split
  · exact .of h hl
  · exact ⟨s, rfl, Does.refl l' s⟩

/-- A request changes what its body changes, and what every request does (R303, R320, R326). -/
theorem jcs_gives {op : JcsOp} {body : State → Req → Ans} (hb : ∀ s r, Does l s (body s r).state) (r : Req) (s : State)
    (hl : ((.hub :: .plt :: .queues :: .service :: .out :: l).all fun p => l'.contains p) = true) :
    Gives l' s (.next (jcs op body r s)) := .of (jcs_does hb r s) hl

end

/-! ### Rings, events and violation counters (12) -/

theorem execRingDoorbell_gives (f i : Nat) (value : BitVec 32) (s : State) :
    Gives (touches (.ringDoorbell f i value)) s (exec (.ringDoorbell f i value) s) := by
  refine ⟨_, rfl, ?_⟩
  repeat' first
    | with_reducible apply Does.refl | with_reducible apply Does.next (violate_does _ _)
    | with_reducible apply Does.next (State.modRing_does _ _ _) | exact rfl | split

theorem execDescriptorFetch_gives (fetched : Option Desc) (s : State) :
    Gives (touches (.descriptorFetch fetched)) s (exec (.descriptorFetch fetched) s) := by
  refine ⟨_, rfl, ?_⟩
  repeat' first
    | with_reducible apply Does.refl | with_reducible apply Does.next (fetchDesc_does _ _ _) | exact rfl | split

theorem execRingWriteBack_gives (ring : Nat) (ok : Bool) (s : State) :
    Gives (touches (.ringWriteBack ring ok)) s (exec (.ringWriteBack ring ok) s) := by
  refine ⟨_, rfl, ?_⟩
  repeat' first
    | with_reducible apply Does.refl | with_reducible apply Does.next (writeBack_does _ _)
    | with_reducible apply Does.next (State.modRing_does _ _ _) | exact rfl | split | dsimp only

theorem execCompletionRoom_gives (ring : Nat) (s : State) :
    Gives (touches (.completionRoom ring)) s (exec (.completionRoom ring) s) := by
  refine ⟨_, rfl, ?_⟩
  repeat' first
    | with_reducible apply Does.refl | with_reducible apply Does.next (writeCompletion_does _ _ _)
    | with_reducible apply Does.next (State.modRing_does _ _ _) | exact rfl | split | dsimp only

theorem execDtypeMismatch_gives (ring : Nat) (d : Desc) (s : State) :
    Gives (touches (.dtypeMismatch ring d)) s (exec (.dtypeMismatch ring d) s) := by
  refine ⟨_, rfl, ?_⟩
  repeat' first
    | with_reducible apply Does.refl | refine Does.next (takeOrdered_does (by assumption)) rfl ?_
    | with_reducible apply Does.next (finishOrdered_does _ _ _ _) | exact rfl | split

theorem execEventDelivery_gives (s : State) : Gives (touches .eventDelivery) s (exec .eventDelivery s) := by
  refine ⟨_, rfl, ?_⟩
  repeat' first
    | with_reducible apply Does.refl | with_reducible apply Does.next (deliverOne_does _ _ _)
    | with_reducible apply Does.next (State.modQueues_does _ _) | exact rfl | split

/-! ### Source slots (02) -/

theorem execPullSegment_gives (ring : Nat) (d : Desc) (s : State) :
    Gives (touches (.pullSegment ring d)) s (exec (.pullSegment ring d) s) := by
  refine ⟨_, rfl, ?_⟩
  repeat' first
    | with_reducible apply Does.refl | refine Does.next (takeSource_does (by assumption)) rfl ?_
    | with_reducible apply Does.next (endSource_does _ _ _ _ _ _ _ _) | with_reducible apply Does.next (violate_does _ _)
    | with_reducible apply Does.next (openPull_does _ _ _) | with_reducible apply Does.next (startPull_does _ _ _) | exact rfl
    | split | dsimp only

theorem execPullSegmentDone_gives (slot : Nat) (bytes : List Byte) (s : State) :
    Gives (touches (.pullSegmentDone slot bytes)) s (exec (.pullSegmentDone slot bytes) s) := by
  refine ⟨_, rfl, ?_⟩
  repeat' first
    | with_reducible apply Does.refl | with_reducible apply Does.next (writeBoth_does _ _ _ _ _)
    | with_reducible apply Does.next (State.modSlot_does _ _ _) | with_reducible apply Does.next (bufReady_does _ _ _ _ _)
    | with_reducible apply Does.next (finishOrdered_does _ _ _ _) | exact rfl | split | dsimp only

theorem execPullTimeout_gives (slot : Nat) (s : State) : Gives (touches (.pullTimeout slot)) s (exec (.pullTimeout slot) s) := by
  refine ⟨_, rfl, ?_⟩
  repeat' first
    | with_reducible apply Does.refl | with_reducible apply Does.next (State.modSlot_does _ _ _)
    | with_reducible apply Does.next (finishOrdered_does _ _ _ _) | with_reducible apply Does.next (abandon_does _ _ _)
    | with_reducible apply Does.next (cancelPulls_does _ _) | exact rfl | split | dsimp only

theorem execPullBufferWaitEnd_gives (slot : Nat) (s : State) :
    Gives (touches (.pullBufferWaitEnd slot)) s (exec (.pullBufferWaitEnd slot) s) := by
  refine ⟨_, rfl, ?_⟩
  repeat' first
    | with_reducible apply Does.refl | with_reducible apply Does.next (openPull_does _ _ _) | exact rfl | split

theorem execSubmit_gives (ring : Nat) (d : Desc) (s : State) : Gives (touches (.submit ring d)) s (exec (.submit ring d) s) := by
  refine ⟨_, rfl, ?_⟩
  repeat' first
    | with_reducible apply Does.refl | refine Does.next (takeSource_does (by assumption)) rfl ?_
    | with_reducible apply Does.next (endSource_does _ _ _ _ _ _ _ _) | with_reducible apply Does.next (violate_does _ _)
    | with_reducible apply Does.next (bufReady_does _ _ _ _ _) | with_reducible apply Does.next (State.modSlot_does _ _ _)
    | exact rfl | split | dsimp only

theorem execCancel_gives (ring : Nat) (d : Desc) (s : State) : Gives (touches (.cancel ring d)) s (exec (.cancel ring d) s) := by
  refine ⟨_, rfl, ?_⟩
  repeat' first
    | with_reducible apply Does.refl | refine Does.next (takeSource_does (by assumption)) rfl ?_
    | with_reducible apply Does.next (endSource_does _ _ _ _ _ _ _ _) | with_reducible apply Does.next (violate_does _ _)
    | with_reducible apply Does.next (abandon_does _ _ _) | with_reducible apply Does.next (cancelPulls_does _ _) | exact rfl
    | split | dsimp only

theorem execReleasePosted_gives (slot buf : Nat) (s : State) :
    Gives (touches (.releasePosted slot buf)) s (exec (.releasePosted slot buf) s) := by
  refine ⟨_, rfl, ?_⟩
  repeat' first
    | with_reducible apply Does.refl | with_reducible apply Does.next (freeReleased_does _ _)
    | with_reducible apply Does.next (complete_does _ _ _ _ _) | with_reducible apply Does.next (State.modSlot_does _ _ _)
    | exact rfl | split | dsimp only

theorem execBar2Write_gives (f offset : Nat) (data : List Byte) (poisoned : Bool) (s : State) :
    Gives (touches (.bar2Write f offset data poisoned)) s (exec (.bar2Write f offset data poisoned) s) := by
  refine ⟨_, rfl, ?_⟩
  repeat' first
    | with_reducible apply Does.refl | with_reducible apply Does.next (State.emit_does _ _)
    | with_reducible apply Does.next (violate_does _ _) | with_reducible apply Does.next (startFilling_does _ _ _)
    | with_reducible apply Does.next (writeBoth_does _ _ _ _ _) | exact rfl | split | dsimp only

theorem execBar2Read_gives (f offset length : Nat) (s : State) :
    Gives (touches (.bar2Read f offset length)) s (exec (.bar2Read f offset length) s) := by
  refine ⟨_, rfl, ?_⟩
  repeat' first
    | with_reducible apply Does.refl | with_reducible apply Does.next (violate_does _ _)
    | with_reducible apply Does.next (State.emit_does _ _) | exact rfl | split

theorem execNetPacket_gives (port : NetPort) (p : NetPkt) (s : State) :
    Gives (touches (.netPacket port p)) s (exec (.netPacket port p) s) := by
  refine ⟨_, rfl, ?_⟩
  repeat' first
    | with_reducible apply Does.refl | with_reducible apply Does.next (slotPacket_does _ _ _ _) | with_reducible apply Does.each
    | exact rfl | intro _ _ | split

theorem execNetFrameTimeout_gives (slot : Nat) (s : State) :
    Gives (touches (.netFrameTimeout slot)) s (exec (.netFrameTimeout slot) s) := by
  refine ⟨_, rfl, ?_⟩
  repeat' first
    | with_reducible apply Does.refl | with_reducible apply Does.next (judgeNet_does _ _) | exact rfl | split

theorem execNetLegLoss_gives (slot : Nat) (leg : Nat) (s : State) :
    Gives (touches (.netLegLoss slot leg)) s (exec (.netLegLoss slot leg) s) := by
  refine ⟨_, rfl, ?_⟩
  repeat' first
    | with_reducible apply Does.refl | with_reducible apply Does.next (judgeIfIn_does _ _)
    | with_reducible apply Does.next (slotEvent_does _ _ _ _) | with_reducible apply Does.next (State.modSlot_does _ _ _)
    | exact rfl | split | dsimp only

/-! ### Serial audio ports (14) -/

theorem execPlay_gives (ring : Nat) (d : Desc) (pull : Pull) (s : State) :
    Gives (touches (.play ring d pull)) s (exec (.play ring d pull) s) := by
  refine ⟨_, rfl, ?_⟩
  repeat' first
    | with_reducible apply Does.refl | refine Does.next (takeTyped_does (by assumption)) rfl ?_
    | with_reducible apply Does.next (violate_does _ _) | with_reducible apply Does.next (complete_does _ _ _ _ _)
    | with_reducible apply Does.next (State.drawn_does _) | with_reducible apply Does.next (readAhead_does _ _)
    | with_reducible apply Does.next (State.modSap_does _ _ _) | exact rfl | split | dsimp only

theorem execCapture_gives (ring : Nat) (d : Desc) (s : State) :
    Gives (touches (.capture ring d)) s (exec (.capture ring d) s) := by
  refine ⟨_, rfl, ?_⟩
  repeat' first
    | with_reducible apply Does.refl | refine Does.next (takeTyped_does (by assumption)) rfl ?_
    | with_reducible apply Does.next (violate_does _ _) | with_reducible apply Does.next (complete_does _ _ _ _ _)
    | with_reducible apply Does.next (State.modSap_does _ _ _) | exact rfl | split

theorem execAudioPacket_gives (port : NetPort) (p : AudioPkt) (s : State) :
    Gives (touches (.audioPacket port p)) s (exec (.audioPacket port p) s) := by
  refine ⟨_, rfl, ?_⟩
  repeat' first
    | with_reducible apply Does.refl | with_reducible apply Does.next (sapPacket_does _ _ _ _ _)
    | with_reducible apply Does.each | exact rfl | intro _ _ | split

theorem execAudioLegLoss_gives (sap part leg : Nat) (s : State) :
    Gives (touches (.audioLegLoss sap part leg)) s (exec (.audioLegLoss sap part leg) s) := by
  refine ⟨_, rfl, ?_⟩
  repeat' first
    | with_reducible apply Does.refl | with_reducible apply Does.next (sapEvent_does _ _ _ _)
    | with_reducible apply Does.next (State.modSap_does _ _ _) | exact rfl | split | dsimp only

theorem execAudioBlock_gives (sap : Nat) (input : List (BitVec 32)) (s : State) :
    Gives (touches (.audioBlock sap input)) s (exec (.audioBlock sap input) s) := by
  refine ⟨_, rfl, ?_⟩
  repeat' first
    | with_reducible apply Does.refl | with_reducible apply Does.next (State.modSap_does _ _ _)
    | with_reducible apply Does.next (captureBlock_does _ _ _ _) | with_reducible apply Does.next (playBlock_does _ _ _)
    | with_reducible apply Does.next (readAhead_does _ _) | with_reducible apply Does.next (slewBlock_does _ _ _) | exact rfl
    | split | dsimp only

theorem execSapZeroCrossingChange_gives (sap channel : Nat) (s : State) :
    Gives (touches (.sapZeroCrossingChange sap channel)) s (exec (.sapZeroCrossingChange sap channel) s) := by
  refine ⟨_, rfl, ?_⟩
  repeat' first
    | with_reducible apply Does.refl | with_reducible apply Does.next (endStop_does _ _)
    | with_reducible apply Does.next (State.modSap_does _ _ _) | exact rfl | split

theorem execAwclkLoss_gives (s : State) : Gives (touches .awclkLoss) s (exec .awclkLoss s) := by
  refine ⟨_, rfl, ?_⟩
  repeat' first
    | with_reducible apply Does.refl | with_reducible apply Does.next (State.modMedia_does _ _)
    | with_reducible apply Does.next (sapEvent_does _ _ _ _) | with_reducible apply Does.next (State.modSap_does _ _ _)
    | with_reducible apply Does.each | exact rfl | intro _ _ | split

theorem execAwclkReturn_gives (s : State) : Gives (touches .awclkReturn) s (exec .awclkReturn s) := by
  refine ⟨_, rfl, ?_⟩
  repeat' first
    | with_reducible apply Does.refl | with_reducible apply Does.next (State.modMedia_does _ _)
    | with_reducible apply Does.next (State.modSap_does _ _ _) | with_reducible apply Does.each | exact rfl | intro _ _ | split

/-! ### The Partition and Limits Table (12) -/

theorem execProposalExpiry_gives (s : State) : Gives (touches .proposalExpiry) s (exec .proposalExpiry s) := by
  refine ⟨_, rfl, ?_⟩
  repeat' first
    | with_reducible apply Does.refl | with_reducible apply Does.next (lapseProposal_does _ _) | exact rfl | split

/-! ### BIST slices and the resting rotation (01, 20) -/

theorem execBistSliceStart_gives (die : DieId) (region : Nat) (vout temp : Int) (s : State) :
    Gives (touches (.bistSliceStart die region vout temp)) s (exec (.bistSliceStart die region vout temp) s) := by
  refine ⟨_, rfl, ?_⟩
  repeat' first
    | with_reducible apply Does.refl | with_reducible apply Does.next (State.modOp_does _ _ _)
    | with_reducible apply Does.next (State.modRegion_does _ _ _ _)
    | with_reducible apply Does.next (State.modCluster_does _ _ _ _) | with_reducible apply Does.next (countShed_does _ _)
    | exact rfl | split

theorem execBistSliceEnd_gives (die : DieId) (cluster : Nat) (completed : Bool) (signature : Word) (s : State) :
    Gives (touches (.bistSliceEnd die cluster completed signature)) s (exec (.bistSliceEnd die cluster completed signature) s) := by
  refine ⟨_, rfl, ?_⟩
  repeat' first
    | with_reducible apply Does.refl | with_reducible apply Does.next (tieResult_does _ _ _ _)
    | with_reducible apply Does.next (abortSlice_does _ _ _) | with_reducible apply Does.next (slicePassed_does _ _ _)
    | with_reducible apply Does.next (retireCluster_does _ _ _ _)
    | with_reducible apply Does.next (State.modCluster_does _ _ _ _) | with_reducible apply Does.next (raise_does _ _ _ _ _ _)
    | exact rfl | split | dsimp only

theorem execBistOverdue_gives (die : DieId) (cluster : Nat) (s : State) :
    Gives (touches (.bistOverdue die cluster)) s (exec (.bistOverdue die cluster) s) := by
  refine ⟨_, rfl, ?_⟩
  repeat' first
    | with_reducible apply Does.refl | with_reducible apply Does.next (setTargets_does _)
    | with_reducible apply Does.next (State.modCluster_does _ _ _ _) | with_reducible apply Does.next (raise_does _ _ _ _ _ _)
    | exact rfl | split | dsimp only

theorem execRestingRotation_gives (die : DieId) (region : Nat) (s : State) :
    Gives (touches (.restingRotation die region)) s (exec (.restingRotation die region) s) := by
  refine ⟨_, rfl, ?_⟩
  repeat' first
    | with_reducible apply Does.refl | with_reducible apply Does.next (abortSlice_does _ _ _)
    | with_reducible apply Does.next (State.modRegion_does _ _ _ _) | exact rfl | split | dsimp only

/-! ### Tiles, their transactions and chain resets (08) -/

theorem execChainResetCommit_gives (port : Nat) (s : State) :
    Gives (touches (.chainResetCommit port)) s (exec (.chainResetCommit port) s) := by
  refine ⟨_, rfl, ?_⟩
  repeat' first
    | with_reducible apply Does.refl | with_reducible apply Does.next (endTxn_does _ _ _ _)
    | with_reducible apply Does.next (sendCommits_does _ _) | with_reducible apply Does.next (sendMgmtAll_does _ _ _ _)
    | with_reducible apply Does.next (State.modLinks_does _ _) | with_reducible apply Does.next (takeMap_does _ _) | exact rfl
    | split

theorem execTileAssign_gives (port : Nat) (s : State) : Gives (touches (.tileAssign port)) s (exec (.tileAssign port) s) := by
  refine ⟨_, rfl, ?_⟩
  repeat' first
    | with_reducible apply Does.refl | with_reducible apply Does.next (sendPing_does _ _ _)
    | with_reducible apply Does.next (State.modTile_does _ _ _) | with_reducible apply Does.next (endChain_does _ _)
    | with_reducible apply Does.next (settleChain_does _ _) | with_reducible apply Does.next (State.modLinks_does _ _)
    | with_reducible apply Does.each | exact rfl | intro _ _ | split | dsimp only

theorem execStageResend_gives (xid port : Nat) (s : State) :
    Gives (touches (.stageResend xid port)) s (exec (.stageResend xid port) s) := by
  refine ⟨_, rfl, ?_⟩
  repeat' first
    | with_reducible apply Does.refl | with_reducible apply Does.next (sendStage_does _ _ _)
    | with_reducible apply Does.next (State.modTxn_does _ _ _) | with_reducible apply Does.each | exact rfl | intro _ _ | split

theorem execStageAckTimeout_gives (xid port : Nat) (s : State) :
    Gives (touches (.stageAckTimeout xid port)) s (exec (.stageAckTimeout xid port) s) := by
  refine ⟨_, rfl, ?_⟩
  repeat' first
    | with_reducible apply Does.refl | with_reducible apply Does.next (failTxn_does _ _ _) | exact rfl | split

theorem execCommitRepeat_gives (xid port : Nat) (s : State) :
    Gives (touches (.commitRepeat xid port)) s (exec (.commitRepeat xid port) s) := by
  refine ⟨_, rfl, ?_⟩
  repeat' first
    | with_reducible apply Does.refl | with_reducible apply Does.next (closeTxn_does _ _)
    | with_reducible apply Does.next (sendCommit_does _ _ _) | with_reducible apply Does.each | exact rfl | intro _ _ | split
    | dsimp only

theorem execTileStatusTimeout_gives (tile : Nat) (s : State) :
    Gives (touches (.tileStatusTimeout tile)) s (exec (.tileStatusTimeout tile) s) := by
  refine ⟨_, rfl, ?_⟩
  repeat' first
    | with_reducible apply Does.refl | with_reducible apply Does.next (tileEvent_does _ _ _ _)
    | with_reducible apply Does.next (State.modTile_does _ _ _) | exact rfl | split

/-! ### Correction loads and commands (04) -/

theorem execCorrectionLoadDone_gives (tile : Nat) (pull : Pull) (s : State) :
    Gives (touches (.correctionLoadDone tile pull)) s (exec (.correctionLoadDone tile pull) s) := by
  refine ⟨_, rfl, ?_⟩
  repeat' first
    | with_reducible apply Does.refl | with_reducible apply Does.next (State.modCorr_does _ _ _)
    | with_reducible apply Does.next (finishOrdered_does _ _ _ _) | with_reducible apply Does.next (landLoad_does _ _ _ _)
    | exact rfl | split | dsimp only

theorem execRecordRepair_gives (die : DieId) (tile line : Nat) (s : State) :
    Gives (touches (.recordRepair die tile line)) s (exec (.recordRepair die tile line) s) := by
  refine ⟨_, rfl, ?_⟩
  repeat' first
    | with_reducible apply Does.refl | with_reducible apply Does.next (State.modCorr_does _ _ _)
    | with_reducible apply Does.next (raise_does _ _ _ _ _ _) | with_reducible apply Does.next (markRegion_does _ _ _ _ _)
    | with_reducible apply Does.each | exact rfl | intro _ _ | split | dsimp only

/-! ### Loads of LUT and mesh tables (03) -/

theorem execTableLoadComplete_gives (table : TableId) (pull : Pull) (s : State) :
    Gives (touches (.tableLoadComplete table pull)) s (exec (.tableLoadComplete table pull) s) := by
  refine ⟨_, rfl, ?_⟩
  repeat' first
    | with_reducible apply Does.refl | with_reducible apply Does.next (State.modTable_does _ _ _)
    | with_reducible apply Does.next (finishLong_does _ _ _ _ _) | exact rfl | split | dsimp only

/-! ### The selection instant and frame orders (03, 07) -/

theorem execSelectionInstant_gives (canvas : Nat) (s : State) :
    Gives (touches (.selectionInstant canvas)) s (exec (.selectionInstant canvas) s) := by
  refine ⟨_, rfl, ?_⟩
  repeat' first
    | with_reducible apply Does.refl | with_reducible apply Does.next (select_does _ _)
    | with_reducible apply Does.next (startCanvas_does _ _ _) | exact rfl | split | dsimp only

theorem execFrameOrderAckTimeout_gives (canvas : Nat) (s : State) :
    Gives (touches (.frameOrderAckTimeout canvas)) s (exec (.frameOrderAckTimeout canvas) s) := by
  refine ⟨_, rfl, ?_⟩
  repeat' first
    | with_reducible apply Does.refl | with_reducible apply Does.next (sendHeartbeat_does _ _)
    | with_reducible apply Does.next (State.modDie_does _ _ _) | exact rfl | split | dsimp only

/-! ### What arrives on the tile links, and how segments come and go (06) -/

theorem execEchoReceived_gives (port : Nat) (fill : List Byte) (codes : List Code) (s : State) :
    Gives (touches (.echoReceived port fill codes)) s (exec (.echoReceived port fill codes) s) := by
  refine ⟨_, rfl, ?_⟩
  repeat' first
    | with_reducible apply Does.refl | with_reducible apply Does.next (takeEcho_does _ _ _) | exact rfl | split
    | with_reducible apply Does.next (hear_does ‹_›)

theorem execStatusReceived_gives (port : Nat) (fill : List Byte) (codes : List Code) (s : State) :
    Gives (touches (.statusReceived port fill codes)) s (exec (.statusReceived port fill codes) s) := by
  refine ⟨_, rfl, ?_⟩
  repeat' first
    | with_reducible apply Does.refl | with_reducible apply Does.next (takeStatus_does _ _ _) | exact rfl | split
    | with_reducible apply Does.next (hear_does ‹_›)

theorem execPongReceived_gives (port : Nat) (fill : List Byte) (codes : List Code) (t4 : Int) (s : State) :
    Gives (touches (.pongReceived port fill codes t4)) s (exec (.pongReceived port fill codes t4) s) := by
  refine ⟨_, rfl, ?_⟩
  repeat' first
    | with_reducible apply Does.refl | with_reducible apply Does.next (takePong_does _ _ _ _) | exact rfl | split
    | with_reducible apply Does.next (hear_does ‹_›)

theorem execLinkSignalDetect_gives (port : Nat) (s : State) :
    Gives (touches (.linkSignalDetect port)) s (exec (.linkSignalDetect port) s) := by
  refine ⟨_, rfl, ?_⟩
  repeat' first
    | with_reducible apply Does.refl | with_reducible apply Does.next (State.modPort_does _ _ _) | exact rfl | split

theorem execLinkBlockLock_gives (run : HeaderRun) (s : State) :
    Gives (touches (.linkBlockLock run)) s (exec (.linkBlockLock run) s) := by
  refine ⟨_, rfl, ?_⟩
  repeat' first
    | with_reducible apply Does.refl | with_reducible apply Does.next (State.modPort_does _ _ _) | exact rfl | split

theorem execLinkLockTimeout_gives (port : Nat) (s : State) :
    Gives (touches (.linkLockTimeout port)) s (exec (.linkLockTimeout port) s) := by
  refine ⟨_, rfl, ?_⟩
  repeat' first
    | with_reducible apply Does.refl | with_reducible apply Does.next (raise_does _ _ _ _ _ _)
    | with_reducible apply Does.next (State.modPort_does _ _ _) | exact rfl | split

theorem execLinkUp_gives (port : Nat) (s : State) : Gives (touches (.linkUp port)) s (exec (.linkUp port) s) := by
  refine ⟨_, rfl, ?_⟩
  repeat' first
    | with_reducible apply Does.refl | with_reducible apply Does.next (wake_does _ _ _)
    | with_reducible apply Does.next (emitIdle_does _ _) | with_reducible apply Does.next (raise_does _ _ _ _ _ _)
    | with_reducible apply Does.next (State.modPort_does _ _ _) | with_reducible apply Does.next (State.modCal_does _ _ _)
    | with_reducible apply Does.next (segmentUp_does _ _) | exact rfl | split

theorem execLinkDown_gives (loss : LinkLoss) (s : State) : Gives (touches (.linkDown loss)) s (exec (.linkDown loss) s) := by
  refine ⟨_, rfl, ?_⟩
  repeat' first
    | with_reducible apply Does.refl | with_reducible apply Does.next (linkFalls_does _ _) | exact rfl | split

theorem execLinkQuiet_gives (port : Nat) (s : State) : Gives (touches (.linkQuiet port)) s (exec (.linkQuiet port) s) := by
  refine ⟨_, rfl, ?_⟩
  repeat' first
    | with_reducible apply Does.refl | with_reducible apply Does.next (State.modPort_does _ _ _) | exact rfl | split

theorem execTimeSync_gives (port : Nat) (s : State) : Gives (touches (.timeSync port)) s (exec (.timeSync port) s) := by
  refine ⟨_, rfl, ?_⟩
  repeat' first
    | with_reducible apply Does.refl | with_reducible apply Does.next (emitTime_does _ _ _ _ _ _)
    | with_reducible apply Does.next (wake_does _ _ _) | exact rfl | split

theorem execKeepalive_gives (port : Nat) (s : State) : Gives (touches (.keepalive port)) s (exec (.keepalive port) s) := by
  refine ⟨_, rfl, ?_⟩
  repeat' first
    | with_reducible apply Does.refl | with_reducible apply Does.next (emitFrame_does _ _ _ _ _ _)
    | with_reducible apply Does.next (wake_does _ _ _) | exact rfl | split

theorem execHopCalComplete_gives (port : Nat) (s : State) :
    Gives (touches (.hopCalComplete port)) s (exec (.hopCalComplete port) s) := by
  refine ⟨_, rfl, ?_⟩
  repeat' first
    | with_reducible apply Does.refl | with_reducible apply Does.next (State.modHop_does _ _ _ _)
    | with_reducible apply Does.next (raise_does _ _ _ _ _ _) | with_reducible apply Does.next (State.modLinks_does _ _)
    | with_reducible apply Does.next (finishLong_does _ _ _ _ _) | with_reducible apply Does.each | exact rfl | intro _ _
    | split

/-! ### Regions of a frame (01, 07, 09) -/

theorem execRegionComputed_gives (die : DieId) (tile region : Nat) (result : Computed) (s : State) :
    Gives (touches (.regionComputed die tile region result)) s (exec (.regionComputed die tile region result) s) := by
  refine ⟨_, rfl, ?_⟩
  repeat' first
    | with_reducible apply Does.refl | with_reducible apply Does.next (recordError_does _ _ _)
    | with_reducible apply Does.next (endRegion_does _ _ _ _ _ _ _ _ _ _ _)
    | with_reducible apply Does.next (soilCluster_does _ _ _) | with_reducible apply Does.next (retireCluster_does _ _ _ _)
    | with_reducible apply Does.next (computeRegion_does _ _ _ _ _ _ _ _)
    | with_reducible apply Does.next (State.modCluster_does _ _ _ _)
    | with_reducible apply Does.next (State.poisonRecord_does _ _ _ _) | with_reducible apply Does.next (State.drawn_does _)
    | exact rfl | split

theorem execRegionReport_gives (tile region : Nat) (s : State) :
    Gives (touches (.regionReport tile region)) s (exec (.regionReport tile region) s) := by
  refine ⟨_, rfl, ?_⟩
  repeat' first
    | with_reducible apply Does.refl | with_reducible apply Does.next (State.setResult_does _ _ _ _ _)
    | with_reducible apply Does.next (compareReports_does _ _ _ _ _ _ _) | exact rfl | split

theorem execReplayResult_gives (die : DieId) (tile region : Nat) (crc : Option (BitVec 32)) (cluster : Nat) (s : State) :
    Gives (touches (.replayResult die tile region crc cluster)) s (exec (.replayResult die tile region crc cluster) s) := by
  refine ⟨_, rfl, ?_⟩
  repeat' first
    | with_reducible apply Does.refl | with_reducible apply Does.next (deferVote_does _ _)
    | with_reducible apply Does.next (soilCluster_does _ _ _) | with_reducible apply Does.next (State.modVote_does _ _ _)
    | with_reducible apply Does.next (decideVote_does _ _) | with_reducible apply Does.next (retireCluster_does _ _ _ _)
    | with_reducible apply Does.next (State.drawn_does _) | exact rfl | split | dsimp only

theorem execRegionSend_gives (port tile region : Nat) (underruns : List (Nat × Nat)) (s : State) :
    Gives (touches (.regionSend port tile region underruns)) s (exec (.regionSend port tile region underruns) s) := by
  refine ⟨_, rfl, ?_⟩
  repeat' first
    | with_reducible apply Does.refl | with_reducible apply Does.next (sendRegion_does _ _ _ _ _ _ _ _) | exact rfl | split
    | dsimp only

theorem execCorrProbeCapture_gives (f : Nat) (s : State) :
    Gives (touches (.corrProbeCapture f)) s (exec (.corrProbeCapture f) s) := by
  refine ⟨_, rfl, ?_⟩
  repeat' first
    | with_reducible apply Does.refl | with_reducible apply Does.next (takeProbe_does _ _ _) | with_reducible apply Does.foldl
    | exact rfl | intro _ _

theorem execEngineWatchdogExpiry_gives (die : DieId) (engine : Nat) (s : State) :
    Gives (touches (.engineWatchdogExpiry die engine)) s (exec (.engineWatchdogExpiry die engine) s) := by
  refine ⟨_, rfl, ?_⟩
  repeat' first
    | with_reducible apply Does.refl | with_reducible apply Does.next (recordError_does _ _ _)
    | with_reducible apply Does.next (State.modDie_does _ _ _) | with_reducible apply Does.next (retireCluster_does _ _ _ _)
    | exact rfl | split | dsimp only

theorem execRegionResetDone_gives (die : DieId) (region : Nat) (s : State) :
    Gives (touches (.regionResetDone die region)) s (exec (.regionResetDone die region) s) := by
  refine ⟨_, rfl, ?_⟩
  repeat' first
    | with_reducible apply Does.refl | with_reducible apply Does.next (State.modRegion_does _ _ _ _) | exact rfl | split

theorem execScrimIdleLatentTest_gives (die : DieId) (region : Nat) (faults : ScrimFaults) (s : State) :
    Gives (touches (.scrimIdleLatentTest die region faults)) s (exec (.scrimIdleLatentTest die region faults) s) := by
  refine ⟨_, rfl, ?_⟩
  repeat' first
    | with_reducible apply Does.refl | with_reducible apply Does.next (latentTest_does _ _ _ _)
    | with_reducible apply Does.next (markUnblocked_does _ _ _) | exact rfl | split | dsimp only

/-! ### Codec sessions (15) -/

theorem execDecodePacket_gives (port : NetPort) (p : RtpPkt) (s : State) :
    Gives (touches (.decodePacket port p)) s (exec (.decodePacket port p) s) := by
  refine ⟨_, rfl, ?_⟩
  repeat' first
    | with_reducible apply Does.refl | with_reducible apply Does.next (decPacket_does _ _ _ _) | with_reducible apply Does.each
    | exact rfl | intro _ _ | split

theorem execJitterWindowClose_gives (session : Nat) (s : State) :
    Gives (touches (.jitterWindowClose session)) s (exec (.jitterWindowClose session) s) := by
  refine ⟨_, rfl, ?_⟩
  repeat' first
    | with_reducible apply Does.refl | with_reducible apply Does.next (State.modDec_does _ _ _)
    | with_reducible apply Does.next (drainWindow_does _ _ _) | exact rfl | split | dsimp only

theorem execDecodeLegLoss_gives (session : Nat) (leg : Nat) (s : State) :
    Gives (touches (.decodeLegLoss session leg)) s (exec (.decodeLegLoss session leg) s) := by
  refine ⟨_, rfl, ?_⟩
  repeat' first
    | with_reducible apply Does.refl | with_reducible apply Does.next (decEvent_does _ _ _ _)
    | with_reducible apply Does.next (State.modDec_does _ _ _) | exact rfl | split | dsimp only

theorem execPictureDecoded_gives (session : Nat) (p : Picture) (s : State) :
    Gives (touches (.pictureDecoded session p)) s (exec (.pictureDecoded session p) s) := by
  refine ⟨_, rfl, ?_⟩
  repeat' first
    | with_reducible apply Does.refl | with_reducible apply Does.next (beginPicture_does _ _)
    | with_reducible apply Does.next (State.modDec_does _ _ _) | with_reducible apply Does.next (decEvent_does _ _ _ _)
    | with_reducible apply Does.next (completePicture_does _ _ _ _) | exact rfl | split | dsimp only

theorem execEncBuf_gives (ring : Nat) (d : Desc) (s : State) : Gives (touches (.encBuf ring d)) s (exec (.encBuf ring d) s) := by
  refine ⟨_, rfl, ?_⟩
  repeat' first
    | with_reducible apply Does.refl | refine Does.next (takeTyped_does (by assumption)) rfl ?_
    | with_reducible apply Does.next (complete_does _ _ _ _ _) | with_reducible apply Does.next (violate_does _ _)
    | with_reducible apply Does.next (giveUnit_does _ _ _) | with_reducible apply Does.next (State.modEnc_does _ _ _)
    | exact rfl | split | dsimp only

theorem execEncodeCapture_gives (session : Nat) (s : State) :
    Gives (touches (.encodeCapture session)) s (exec (.encodeCapture session) s) := by
  refine ⟨_, rfl, ?_⟩
  repeat' first
    | with_reducible apply Does.refl | with_reducible apply Does.next (State.modEnc_does _ _ _)
    | with_reducible apply Does.next (encEvent_does _ _ _ _) | exact rfl | split | dsimp only

theorem execAccessUnitDone_gives (session : Nat) (c : CodedRows) (s : State) :
    Gives (touches (.accessUnitDone session c)) s (exec (.accessUnitDone session c) s) := by
  refine ⟨_, rfl, ?_⟩
  repeat' first
    | with_reducible apply Does.refl | with_reducible apply Does.next (State.modEnc_does _ _ _)
    | with_reducible apply Does.next (encEvent_does _ _ _ _) | with_reducible apply Does.next (giveUnit_does _ _ _)
    | with_reducible apply Does.next (endEncode_does _ _) | exact rfl | split | dsimp only

/-! ### Wall time, references and network links (13) -/

theorem execRefMeasurement_gives (m : RefMeas) (s : State) :
    Gives (touches (.refMeasurement m)) s (exec (.refMeasurement m) s) := by
  refine ⟨_, rfl, ?_⟩
  repeat' first
    | with_reducible apply Does.refl | with_reducible apply Does.next (measureSync_does _ _)
    | with_reducible apply Does.next (measureEdge_does _ _) | with_reducible apply Does.next (measureGate_does _ _) | exact rfl
    | split

theorem execSlewEnd_gives (s : State) : Gives (touches .slewEnd) s (exec .slewEnd s) := by
  refine ⟨_, rfl, ?_⟩
  repeat' first
    | with_reducible apply Does.refl | with_reducible apply Does.next (servo_does _ _)
    | with_reducible apply Does.next (State.modTime_does _ _) | exact rfl | split

theorem execTimeStep_gives (s : State) : Gives (touches .timeStep) s (exec .timeStep s) := by
  refine ⟨_, rfl, ?_⟩
  repeat' first
    | with_reducible apply Does.refl | with_reducible apply Does.next (scheduleStep_does _ _)
    | with_reducible apply Does.next (stepNow_does _ _) | exact rfl | split

theorem execRateMeasured_gives (code : Nat) (s : State) :
    Gives (touches (.rateMeasured code)) s (exec (.rateMeasured code) s) := by
  refine ⟨_, rfl, ?_⟩
  repeat' first
    | with_reducible apply Does.refl | with_reducible apply Does.next (State.modTime_does _ _)
    | with_reducible apply Does.next (endFollow_does _ _) | with_reducible apply Does.next (startChange_does _ _ _ _ _ _)
    | with_reducible apply Does.next (timeEvent_does _ _ _) | with_reducible apply Does.next (toRef_does _ _)
    | with_reducible apply Does.foldl | exact rfl | intro _ _ | split

theorem execCounterCopyCompare_gives (diffA diffB : Int) (s : State) :
    Gives (touches (.counterCopyCompare diffA diffB)) s (exec (.counterCopyCompare diffA diffB) s) := by
  refine ⟨_, rfl, ?_⟩
  repeat' first
    | with_reducible apply Does.refl | with_reducible apply Does.next (State.setCopy_does _ _ _)
    | with_reducible apply Does.next (State.modTime_does _ _) | exact rfl | split | dsimp only

theorem execPtpMessageForward_gives (die : DieId) (msg : PtpMsg) (twoStep : Bool) (residence : Nat) (s : State) :
    Gives (touches (.ptpMessageForward die msg twoStep residence)) s (exec (.ptpMessageForward die msg twoStep residence) s) := by
  refine ⟨_, rfl, ?_⟩
  repeat' first
    | with_reducible apply Does.refl | with_reducible apply Does.next (passPtp_does _ _ _ _)
    | with_reducible apply Does.next (State.modTime_does _ _) | exact rfl | split

theorem execPtpAnnounceReceived_gives (x : Announce) (s : State) :
    Gives (touches (.ptpAnnounceReceived x)) s (exec (.ptpAnnounceReceived x) s) := by
  refine ⟨_, rfl, ?_⟩
  repeat' first
    | with_reducible apply Does.refl | with_reducible apply Does.next (State.modOc_does _ _ _)
    | with_reducible apply Does.next (selectMaster_does _ _) | with_reducible apply Does.next (followGm_does _ _)
    | with_reducible apply Does.next (State.modTime_does _ _) | exact rfl | split | dsimp only

theorem execPtpDelayResponse_gives (die : DieId) (resp : DelayResp) (s : State) :
    Gives (touches (.ptpDelayResponse die resp)) s (exec (.ptpDelayResponse die resp) s) := by
  refine ⟨_, rfl, ?_⟩
  repeat' first
    | with_reducible apply Does.refl | with_reducible apply Does.next (State.modOc_does _ _ _) | exact rfl | split

theorem execPpsOutput_gives (s : State) : Gives (touches .ppsOutput) s (exec .ppsOutput s) := by
  refine ⟨_, rfl, ?_⟩
  repeat' first
    | with_reducible apply Does.refl | with_reducible apply Does.next (State.modTime_does _ _)
    | with_reducible apply Does.next (State.emit_does _ _) | exact rfl | split

theorem execNetworkLinkUp_gives (port : NetPort) (s : State) :
    Gives (touches (.networkLinkUp port)) s (exec (.networkLinkUp port) s) := by
  refine ⟨_, rfl, ?_⟩
  repeat' first
    | with_reducible apply Does.refl | with_reducible apply Does.next (raise_does _ _ _ _ _ _)
    | with_reducible apply Does.next (State.modTime_does _ _) | with_reducible apply Does.next (State.modCal_does _ _ _)
    | with_reducible apply Does.next (restartPort_does _ _) | with_reducible apply Does.each | exact rfl | intro _ _ | split
    | dsimp only

theorem execNetworkLinkDown_gives (port : NetPort) (s : State) :
    Gives (touches (.networkLinkDown port)) s (exec (.networkLinkDown port) s) := by
  refine ⟨_, rfl, ?_⟩
  repeat' first
    | with_reducible apply Does.refl | with_reducible apply Does.next (raise_does _ _ _ _ _ _)
    | with_reducible apply Does.next (State.modTime_does _ _) | with_reducible apply Does.next (followGm_does _ _)
    | with_reducible apply Does.next (setPortState_does _ _ _) | exact rfl | split

/-! ### Clocks, operating points, gates, power modes and trips (17, 18) -/

theorem execRefclkStable_gives (s : State) : Gives (touches .refclkStable) s (exec .refclkStable s) := by
  refine ⟨_, rfl, ?_⟩
  repeat' first
    | with_reducible apply Does.refl | with_reducible apply Does.next (packageReset_does _)
    | with_reducible apply Does.next (State.modClocks_does _ _) | exact rfl | split

theorem execRefclkLoss_gives (s : State) : Gives (touches .refclkLoss) s (exec .refclkLoss s) := by
  refine ⟨_, rfl, ?_⟩
  repeat' first
    | with_reducible apply Does.refl | with_reducible apply Does.next (State.modClocks_does _ _)
    | with_reducible apply Does.next (fenceBoth_does _ _) | with_reducible apply Does.next (declareFatal_does _ _ _)
    | with_reducible apply Does.next (dropLink_does _ _) | with_reducible apply Does.each | exact rfl | intro _ _ | split

theorem execRootPllLockLoss_gives (die : DieId) (s : State) :
    Gives (touches (.rootPllLockLoss die)) s (exec (.rootPllLockLoss die) s) := by
  refine ⟨_, rfl, ?_⟩
  repeat' first
    | with_reducible apply Does.refl | with_reducible apply Does.next (raise_does _ _ _ _ _ _)
    | with_reducible apply Does.next (setPll_does _ _ _) | with_reducible apply Does.next (declareFatal_does _ _ _)
    | with_reducible apply Does.next (setMemory_does _ _ _) | with_reducible apply Does.next (State.modOp_does _ _ _)
    | exact rfl | split

theorem execHubPllLockLoss_gives (s : State) : Gives (touches .hubPllLockLoss) s (exec .hubPllLockLoss s) := by
  refine ⟨_, rfl, ?_⟩
  repeat' first
    | with_reducible apply Does.refl | with_reducible apply Does.next (failCp_does _)
    | with_reducible apply Does.next (State.modClocks_does _ _) | with_reducible apply Does.next (State.setMem_does _ _ _)
    | exact rfl | split

theorem execHubPllRelock_gives (s : State) : Gives (touches .hubPllRelock) s (exec .hubPllRelock s) := by
  refine ⟨_, rfl, ?_⟩
  repeat' first
    | with_reducible apply Does.refl | with_reducible apply Does.next (State.modClocks_does _ _)
    | with_reducible apply Does.next (State.setMem_does _ _ _) | with_reducible apply Does.next (State.modHub_does _ _)
    | with_reducible apply Does.next (raise_does _ _ _ _ _ _) | with_reducible apply Does.next (beginRestart_does _) | exact rfl
    | split

theorem execLaneReferenceMeasurement_gives (offset : Int) (s : State) :
    Gives (touches (.laneReferenceMeasurement offset)) s (exec (.laneReferenceMeasurement offset) s) := by
  refine ⟨_, rfl, ?_⟩
  repeat' first
    | with_reducible apply Does.refl | with_reducible apply Does.next (State.modClocks_does _ _)
    | with_reducible apply Does.next (trimStep_does _) | with_reducible apply Does.next (raise_does _ _ _ _ _ _) | exact rfl
    | split

theorem execOpTransition_gives (die : DieId) (ack : Bool) (s : State) :
    Gives (touches (.opTransition die ack)) s (exec (.opTransition die ack) s) := by
  refine ⟨_, rfl, ?_⟩
  repeat' first
    | with_reducible apply Does.refl | with_reducible apply Does.next (State.modOp_does _ _ _)
    | with_reducible apply Does.next (opFailed_does _ _ _ _) | with_reducible apply Does.next (abortSlices_does _ _) | exact rfl
    | split | dsimp only

theorem execOpSettle_gives (die : DieId) (pg : Bool) (s : State) :
    Gives (touches (.opSettle die pg)) s (exec (.opSettle die pg) s) := by
  refine ⟨_, rfl, ?_⟩
  repeat' first
    | with_reducible apply Does.refl | with_reducible apply Does.next (opDone_does _ _ _)
    | with_reducible apply Does.next (State.modOp_does _ _ _) | with_reducible apply Does.next (opFailed_does _ _ _ _)
    | exact rfl | split | dsimp only

theorem execRegulatorMonitor_gives (die : DieId) (readVout : Nat) (s : State) :
    Gives (touches (.regulatorMonitor die readVout)) s (exec (.regulatorMonitor die readVout) s) := by
  refine ⟨_, rfl, ?_⟩
  repeat' first
    | with_reducible apply Does.refl | with_reducible apply Does.next (State.modOp_does _ _ _)
    | with_reducible apply Does.next (declareFatal_does _ _ _) | with_reducible apply Does.next (raise_does _ _ _ _ _ _)
    | exact rfl | split | dsimp only

theorem execVrPgLow_gives (die : DieId) (s : State) : Gives (touches (.vrPgLow die)) s (exec (.vrPgLow die) s) := by
  refine ⟨_, rfl, ?_⟩
  repeat' first
    | with_reducible apply Does.refl | with_reducible apply Does.next (declareFatal_does _ _ _)
    | with_reducible apply Does.next (raise_does _ _ _ _ _ _) | with_reducible apply Does.next (State.drawn_does _) | exact rfl
    | split

theorem execGateCloseRequest_gives (g : GateId) (s : State) :
    Gives (touches (.gateCloseRequest g)) s (exec (.gateCloseRequest g) s) := by
  refine ⟨_, rfl, ?_⟩
  repeat' first
    | with_reducible apply Does.refl | with_reducible apply Does.next (State.modGate_does _ _ _) | exact rfl | split
    | dsimp only

theorem execGateCloseTimeout_gives (g : GateId) (s : State) :
    Gives (touches (.gateCloseTimeout g)) s (exec (.gateCloseTimeout g) s) := by
  refine ⟨_, rfl, ?_⟩
  repeat' first
    | with_reducible apply Does.refl | with_reducible apply Does.next (State.modGate_does _ _ _)
    | with_reducible apply Does.next (raise_does _ _ _ _ _ _) | exact rfl | split | dsimp only

theorem execSysPowerComplete_gives (s : State) : Gives (touches .sysPowerComplete) s (exec .sysPowerComplete s) := by
  refine ⟨_, rfl, ?_⟩
  repeat' first
    | with_reducible apply Does.refl | with_reducible apply Does.next (reachMode_does _ _)
    | with_reducible apply Does.next (raise_does _ _ _ _ _ _) | with_reducible apply Does.next (finishLong_does _ _ _ _ _)
    | with_reducible apply Does.each | exact rfl | intro _ _ | split

theorem execThermalTrip_gives (die : Die3) (s : State) : Gives (touches (.thermalTrip die)) s (exec (.thermalTrip die) s) := by
  refine ⟨_, rfl, ?_⟩
  repeat' first
    | with_reducible apply Does.refl | with_reducible apply Does.next (raise_does _ _ _ _ _ _)
    | with_reducible apply Does.next (tripDie_does _ _) | with_reducible apply Does.next (State.modDie_does _ _ _)
    | with_reducible apply Does.next (setTripPin_does _ _ _) | with_reducible apply Does.next (failCp_does _)
    | with_reducible apply Does.next (State.modFirmware_does _ _ ?_) | exact rfl | exact fun _ => rfl | split

theorem execTripRelease_gives (die : Die3) (s : State) : Gives (touches (.tripRelease die)) s (exec (.tripRelease die) s) := by
  refine ⟨_, rfl, ?_⟩
  repeat' first
    | with_reducible apply Does.refl | with_reducible apply Does.next (setTripPin_does _ _ _)
    | with_reducible apply Does.next (State.modTherm_does _ _ _) | with_reducible apply Does.next (raise_does _ _ _ _ _ _)
    | with_reducible apply Does.next (State.modOp_does _ _ _) | with_reducible apply Does.next (packageReset_does _) | exact rfl
    | split

/-! ### The end of a frame (07) -/

theorem execFrameVerdict_gives (canvas : Nat) (faults : List (DieId × Nat × ScrimFaults)) (s : State) :
    Gives (touches (.frameVerdict canvas faults)) s (exec (.frameVerdict canvas faults) s) := by
  refine ⟨_, rfl, ?_⟩
  repeat' first
    | with_reducible apply Does.refl | with_reducible apply Does.next (frameLatents_does _ _ _ _)
    | with_reducible apply Does.next (endRepeat_does _ _ _) | with_reducible apply Does.next (endLate_does _ _ _)
    | with_reducible apply Does.next (endFrame_does _ _ _) | exact rfl | split | dsimp only

theorem execVerdictTimeout_gives (die : DieId) (canvas : Nat) (s : State) :
    Gives (touches (.verdictTimeout die canvas)) s (exec (.verdictTimeout die canvas) s) := by
  refine ⟨_, rfl, ?_⟩
  repeat' first
    | with_reducible apply Does.refl | with_reducible apply Does.next (State.modTwin_does _ _)
    | with_reducible apply Does.next (leaveFlip_does _ _ _ _) | exact rfl | split | dsimp only

theorem execFlipInstant_gives (canvas : Nat) (s : State) :
    Gives (touches (.flipInstant canvas)) s (exec (.flipInstant canvas) s) := by
  refine ⟨_, rfl, ?_⟩
  repeat' first
    | with_reducible apply Does.refl | with_reducible apply Does.next (flip_does _ _ _) | exact rfl | split | dsimp only

/-! ### Loop trims and the check of Scrim's tables (05) -/

theorem execLoopTrimUpdate_gives (canvas : Nat) (s : State) :
    Gives (touches (.loopTrimUpdate canvas)) s (exec (.loopTrimUpdate canvas) s) := by
  refine ⟨_, rfl, ?_⟩
  repeat' first
    | with_reducible apply Does.refl | with_reducible apply Does.next (trimTile_does _ _)
    | with_reducible apply Does.next (trimZone_does _ _ _ _) | with_reducible apply Does.each | exact rfl | intro _ _ | split

theorem execScrimTableCheck_gives (die : DieId) (table : TableUpset) (s : State) :
    Gives (touches (.scrimTableCheck die table)) s (exec (.scrimTableCheck die table) s) := by
  refine ⟨_, rfl, ?_⟩
  repeat' first
    | with_reducible apply Does.refl | with_reducible apply Does.next (upsetScrim_does _ _ _ _ _)
    | with_reducible apply Does.next (checkScrim_does _ _ _) | exact rfl | split

/-! ### The twin dies and the arbiter (09) -/

theorem execHeartbeatReceived_gives (die : DieId) (word : Word) (s : State) :
    Gives (touches (.heartbeatReceived die word)) s (exec (.heartbeatReceived die word) s) := by
  refine ⟨_, rfl, ?_⟩
  repeat' first
    | with_reducible apply Does.refl | with_reducible apply Does.next (State.modTwin_does _ _)
    | with_reducible apply Does.next (fenceDie_does _ _ _) | with_reducible apply Does.next (promoteDie_does _ _) | exact rfl
    | split | dsimp only

theorem execHeartbeatMiss_gives (die : DieId) (s : State) :
    Gives (touches (.heartbeatMiss die)) s (exec (.heartbeatMiss die) s) := by
  refine ⟨_, rfl, ?_⟩
  repeat' first
    | with_reducible apply Does.refl | with_reducible apply Does.next (State.modTwin_does _ _)
    | with_reducible apply Does.next (fenceDie_does _ _ _) | exact rfl | split | dsimp only

theorem execArbiterCommand_gives (die : DieId) (word : Word) (valid : Bool) (s : State) :
    Gives (touches (.arbiterCommand die word valid)) s (exec (.arbiterCommand die word valid) s) := by
  refine ⟨_, rfl, ?_⟩
  repeat' first
    | with_reducible apply Does.refl | with_reducible apply Does.next (State.modDie_does _ _ _)
    | with_reducible apply Does.next (promote_does _ _ _) | with_reducible apply Does.next (becomeShadow_does _ _ _)
    | with_reducible apply Does.next (ownOrders_does _ _) | exact rfl | split | dsimp only

theorem execArbiterCommandMiss_gives (die : DieId) (s : State) :
    Gives (touches (.arbiterCommandMiss die)) s (exec (.arbiterCommandMiss die) s) := by
  refine ⟨_, rfl, ?_⟩
  repeat' first
    | with_reducible apply Does.refl | with_reducible apply Does.next (State.modDie_does _ _ _) | exact rfl | split

theorem execArbiterFreeze_gives (s : State) : Gives (touches .arbiterFreeze) s (exec .arbiterFreeze s) := by
  refine ⟨_, rfl, ?_⟩
  repeat' first
    | with_reducible apply Does.refl | with_reducible apply Does.next (raise_does _ _ _ _ _ _)
    | with_reducible apply Does.next (State.modTwin_does _ _) | exact rfl | split

theorem execRejoinRelease_gives (die : DieId) (s : State) :
    Gives (touches (.rejoinRelease die)) s (exec (.rejoinRelease die) s) := by
  refine ⟨_, rfl, ?_⟩
  repeat' first
    | with_reducible apply Does.refl | with_reducible apply Does.next (raise_does _ _ _ _ _ _)
    | with_reducible apply Does.next (State.modTwin_does _ _) | with_reducible apply Does.next (setPll_does _ _ _)
    | with_reducible apply Does.next (State.modDie_does _ _ _) | with_reducible apply Does.next (setMemory_does _ _ _)
    | with_reducible apply Does.next (setMicrocode_does _ _ _) | with_reducible apply Does.next (State.setCopy_does _ _ _)
    | with_reducible apply Does.next (admitDie_does _ _) | with_reducible apply Does.next (setMcStep_does _ _)
    | with_reducible apply Does.next (sendCommand_does _ _ _) | with_reducible apply Does.next (fallBackDue_does _) | exact rfl
    | split

theorem execStateCopyComplete_gives (die : DieId) (s : State) :
    Gives (touches (.stateCopyComplete die)) s (exec (.stateCopyComplete die) s) := by
  refine ⟨_, rfl, ?_⟩
  repeat' first
    | with_reducible apply Does.refl | with_reducible apply Does.next (copyState_does _ _)
    | with_reducible apply Does.next (State.modTwin_does _ _) | with_reducible apply Does.next (State.modDie_does _ _ _)
    | exact rfl | split

theorem execVerificationFrame_gives (die : DieId) (digest : BitVec 32) (s : State) :
    Gives (touches (.verificationFrame die digest)) s (exec (.verificationFrame die digest) s) := by
  refine ⟨_, rfl, ?_⟩
  repeat' first
    | with_reducible apply Does.refl | with_reducible apply Does.next (admitDie_does _ _)
    | with_reducible apply Does.next (State.modTwin_does _ _) | with_reducible apply Does.next (raise_does _ _ _ _ _ _)
    | with_reducible apply Does.next (failVerification_does _ _) | with_reducible apply Does.next (copyState_does _ _)
    | exact rfl | split | dsimp only

theorem execColdRebuild_gives (passA passB : Bool) (s : State) :
    Gives (touches (.coldRebuild passA passB)) s (exec (.coldRebuild passA passB) s) := by
  refine ⟨_, rfl, ?_⟩
  repeat' first
    | with_reducible apply Does.refl | with_reducible apply Does.next (setStage_does _ _)
    | with_reducible apply Does.next (State.modTwin_does _ _) | with_reducible apply Does.next (State.modHub_does _ _)
    | with_reducible apply Does.next (fallBackDue_does _) | with_reducible apply Does.next (raise_does _ _ _ _ _ _)
    | with_reducible apply Does.next (setMcStep_does _ _) | with_reducible apply Does.next (startDies_does _ _ _ _)
    | with_reducible apply Does.next (coldState_does _) | exact rfl | split | dsimp only

theorem execInconclusiveLimit_gives (s : State) : Gives (touches .inconclusiveLimit) s (exec .inconclusiveLimit s) := by
  refine ⟨_, rfl, ?_⟩
  repeat' first
    | with_reducible apply Does.refl | with_reducible apply Does.next (fenceDie_does _ _ _)
    | with_reducible apply Does.next (raise_does _ _ _ _ _ _) | with_reducible apply Does.next (State.modTwin_does _ _)
    | exact rfl | split | dsimp only

theorem execMicrocodeHandover_gives (s : State) : Gives (touches .microcodeHandover) s (exec .microcodeHandover s) := by
  refine ⟨_, rfl, ?_⟩
  repeat' first
    | with_reducible apply Does.refl | with_reducible apply Does.next (fallBackDue_does _)
    | with_reducible apply Does.next (setMcStep_does _ _) | with_reducible apply Does.next (fenceDie_does _ _ _)
    | with_reducible apply Does.next (State.modDie_does _ _ _) | exact rfl | split | dsimp only

theorem execMicrocodeSwitch_gives (canvas : Nat) (s : State) :
    Gives (touches (.microcodeSwitch canvas)) s (exec (.microcodeSwitch canvas) s) := by
  refine ⟨_, rfl, ?_⟩
  repeat' first
    | with_reducible apply Does.refl | with_reducible apply Does.next (fallBackDue_does _)
    | with_reducible apply Does.next (setMicrocode_does _ _ _) | with_reducible apply Does.next (State.modCanvas_does _ _ _)
    | with_reducible apply Does.each | with_reducible apply Does.foldl | exact rfl | intro _ _ | split | dsimp only

theorem execTwinServiceComplete_gives (s : State) : Gives (touches .twinServiceComplete) s (exec .twinServiceComplete s) := by
  refine ⟨_, rfl, ?_⟩
  repeat' first
    | with_reducible apply Does.refl | with_reducible apply Does.next (finishLong_does _ _ _ _ _)
    | with_reducible apply Does.next (State.modTwin_does _ _) | exact rfl | split

theorem execDieLinkPoison_gives (word : LinkWord) (again : Bool) (s : State) :
    Gives (touches (.dieLinkPoison word again)) s (exec (.dieLinkPoison word again) s) := by
  refine ⟨_, rfl, ?_⟩
  repeat' first
    | with_reducible apply Does.refl | with_reducible apply Does.next (State.modTwin_does _ _)
    | with_reducible apply Does.next (recordError_does _ _ _) | with_reducible apply Does.next (dieLinkFails_does _ _)
    | exact rfl | split

theorem execDieLinkRestored_gives (s : State) : Gives (touches .dieLinkRestored) s (exec .dieLinkRestored s) := by
  refine ⟨_, rfl, ?_⟩
  repeat' first
    | with_reducible apply Does.refl | with_reducible apply Does.next (State.modTwin_does _ _) | exact rfl

/-! ### Calibration (20) -/

theorem execCalibrationWindow_gives (item : CalItem) (opening : Bool) (s : State) :
    Gives (touches (.calibrationWindow item opening)) s (exec (.calibrationWindow item opening) s) := by
  refine ⟨_, rfl, ?_⟩
  repeat' first
    | with_reducible apply Does.refl | with_reducible apply Does.next (openWindow_does _ _)
    | with_reducible apply Does.next (countShed_does _ _) | with_reducible apply Does.next (resumePath_does _ _)
    | with_reducible apply Does.next (closeWindow_does _ _) | exact rfl | split

theorem execCalibrationRun_gives (item : CalItem) (run : CalRun) (s : State) :
    Gives (touches (.calibrationRun item run)) s (exec (.calibrationRun item run) s) := by
  refine ⟨_, rfl, ?_⟩
  repeat' first
    | with_reducible apply Does.refl | with_reducible apply Does.next (sweep_does _ _)
    | with_reducible apply Does.next (endCal_does _ _ _ _) | with_reducible apply Does.next (State.modCal_does _ _ _)
    | exact rfl | split | dsimp only

theorem execDiodeTrim_gives (die : Die3) (s : State) : Gives (touches (.diodeTrim die)) s (exec (.diodeTrim die) s) := by
  refine ⟨_, rfl, ?_⟩
  repeat' first
    | with_reducible apply Does.refl | with_reducible apply Does.next (State.modCal_does _ _ _) | exact rfl

/-! ### Resets, supplies and the boot stages (19) -/

theorem execPowerOn_gives (s : State) : Gives (touches .powerOn) s (exec .powerOn s) := by
  refine ⟨_, rfl, ?_⟩
  repeat' first
    | with_reducible apply Does.refl | with_reducible apply Does.next (packageReset_does _)
    | with_reducible apply Does.next (State.modService_does _ _ ?_) | exact rfl | exact fun _ => rfl | split

theorem execPowerDown_gives (s : State) : Gives (touches .powerDown) s (exec .powerDown s) := by
  refine ⟨_, rfl, ?_⟩
  dsimp only
  split
  · exact Does.refl _ _
  · refine (packageReset_does s).trans ⟨?_, rfl, rfl, fun a _ => a, fun _ b => b⟩
    constructor <;> simp [allParts]

theorem execSupplyOutOfRange_gives (x : Supply) (s : State) :
    Gives (touches (.supplyOutOfRange x)) s (exec (.supplyOutOfRange x) s) := by
  refine ⟨_, rfl, ?_⟩
  repeat' first
    | with_reducible apply Does.refl | with_reducible apply Does.next (State.modService_does _ _ ?_)
    | with_reducible apply Does.next (declareFatal_does _ _ _) | with_reducible apply Does.next (raise_does _ _ _ _ _ _)
    | with_reducible apply Does.next (State.drawn_does _) | with_reducible apply Does.next (packageReset_does _)
    | with_reducible apply Does.next (State.modFirmware_does _ _ ?_) | exact rfl | exact fun _ => rfl | split

theorem execSupplyRestored_gives (x : Supply) (s : State) :
    Gives (touches (.supplyRestored x)) s (exec (.supplyRestored x) s) := by
  refine ⟨_, rfl, ?_⟩
  repeat' first
    | with_reducible apply Does.refl | with_reducible apply Does.next (State.modService_does _ _ ?_) | exact rfl
    | exact fun _ => rfl

theorem execSettingsAreaWrite_gives (area : Nat) (ok : Bool) (s : State) :
    Gives (touches (.settingsAreaWrite area ok)) s (exec (.settingsAreaWrite area ok) s) := by
  refine ⟨_, rfl, ?_⟩
  repeat' first
    | with_reducible apply Does.refl | with_reducible apply Does.next (State.modPlt_does _ _)
    | with_reducible apply Does.next (State.modFirmware_does _ _ ?_) | with_reducible apply Does.next (raise_does _ _ _ _ _ _)
    | exact rfl | exact fun _ => rfl | split

theorem execStageChange_gives (b : BootResult) (s : State) : Gives (touches (.stageChange b)) s (exec (.stageChange b) s) := by
  refine ⟨_, rfl, ?_⟩
  repeat' first
    | with_reducible apply Does.refl | with_reducible apply Does.next (setStage_does _ _)
    | with_reducible apply Does.next (State.emit_does _ _) | with_reducible apply Does.next (endTrial_does _)
    | with_reducible apply Does.next (State.modFirmware_does _ _ ?_) | with_reducible apply Does.next (haltPackage_does _ _)
    | with_reducible apply Does.next (bootImage_does _ _) | with_reducible apply Does.next (bootTrain_does _ _)
    | with_reducible apply Does.next (bootCheck_does _ _) | with_reducible apply Does.next (tellPast_does _)
    | with_reducible apply Does.next (startTime_does _) | with_reducible apply Does.next (enterReady_does _)
    | with_reducible apply Does.next (startMicrocode_does _) | exact rfl | exact fun _ => rfl | split | dsimp only

/-! ### Firmware (19) -/

theorem execFwLoadComplete_gives (compareOk : Bool) (s : State) :
    Gives (touches (.fwLoadComplete compareOk)) s (exec (.fwLoadComplete compareOk) s) := by
  refine ⟨_, rfl, ?_⟩
  repeat' first
    | with_reducible apply Does.refl | with_reducible apply Does.next (finishLong_does _ _ _ _ _)
    | with_reducible apply Does.next (State.modFirmware_does _ _ ?_) | exact rfl | exact fun _ => setSlot_fuse _ _ _ | split

theorem execFwActivateComplete_gives (s : State) : Gives (touches .fwActivateComplete) s (exec .fwActivateComplete s) := by
  refine ⟨_, rfl, ?_⟩
  repeat' first
    | with_reducible apply Does.refl | with_reducible apply Does.next (State.modFirmware_does _ _ ?_)
    | with_reducible apply Does.next (finishLong_does _ _ _ _ _) | with_reducible apply Does.next (State.drawn_does _)
    | exact rfl | exact fun _ => rfl | split

theorem execCpWatchdogExpiry_gives (s : State) : Gives (touches .cpWatchdogExpiry) s (exec .cpWatchdogExpiry s) := by
  refine ⟨_, rfl, ?_⟩
  repeat' first
    | with_reducible apply Does.refl | with_reducible apply Does.next (fallBackFor_does _ _)
    | with_reducible apply Does.next (dropRequests_does _) | with_reducible apply Does.next (failCp_does _) | exact rfl | split

theorem execTileFwRelayComplete_gives (s : State) : Gives (touches .tileFwRelayComplete) s (exec .tileFwRelayComplete s) := by
  refine ⟨_, rfl, ?_⟩
  repeat' first
    | with_reducible apply Does.refl | with_reducible apply Does.next (relayNext_does _ _)
    | with_reducible apply Does.next (State.modFirmware_does _ _ ?_) | with_reducible apply Does.next (raise_does _ _ _ _ _ _)
    | with_reducible apply Does.next (tileEvent_does _ _ _ _) | with_reducible apply Does.next (finishLong_does _ _ _ _ _)
    | with_reducible apply Does.each | with_reducible apply Does.foldl | exact rfl | exact fun _ => rfl | intro _ _ | split

theorem execPkgReset_gives (r : Req) (s : State) : Gives (touches (.pkgReset r)) s (exec (.pkgReset r) s) := by
  refine ⟨_, rfl, ?_⟩
  repeat' first
    | with_reducible apply Does.refl | with_reducible apply Does.next (State.modHub_does _ _)
    | with_reducible apply Does.next (jcs_does okBody_does _ _) | exact rfl | split

theorem execPkgHalt_gives (r : Req) (s : State) : Gives (touches (.pkgHalt r)) s (exec (.pkgHalt r) s) := by
  refine ⟨_, rfl, ?_⟩
  repeat' first
    | with_reducible apply Does.refl | with_reducible apply Does.next (haltPackage_does _ _)
    | with_reducible apply Does.next (jcs_does okBody_does _ _) | exact rfl | split

theorem unknownAnswer_state (s : State) (r : Req) : (unknownAnswer s r).state = s := by
  unfold unknownAnswer
  split <;> rfl

/-! ### The host interface (10, 11) -/

theorem execUnknownOpcode_gives (r : Req) (s : State) : Gives (touches (.unknownOpcode r)) s (exec (.unknownOpcode r) s) := by
  refine ⟨_, rfl, ?_⟩
  split
  · exact Does.refl _ _
  · split
    · exact Does.refl _ _
    · next h => exact giveAnswer_does r _ (by rw [unknownAnswer_state]; exact (takeRequest_does h).mono rfl) rfl

theorem execRegisterWrite_gives (f bar offset size : Nat) (value : Word) (s : State) :
    Gives (touches (.registerWrite f bar offset size value)) s (exec (.registerWrite f bar offset size value) s) := by
  refine ⟨_, rfl, ?_⟩
  repeat' first
    | with_reducible apply Does.refl | with_reducible apply Does.next (violate_does _ _)
    | with_reducible apply Does.next (mboxSubmit_does _ _) | with_reducible apply Does.next (mailboxWrite_does _ _ _ _ _)
    | with_reducible apply Does.next (ringWrite_does _ _ _ _ _) | with_reducible apply Does.next (msixWrite_does _ _ _ _ _)
    | exact rfl | split

theorem execFunctionLevelReset_gives (f : Nat) (s : State) :
    Gives (touches (.functionLevelReset f)) s (exec (.functionLevelReset f) s) := by
  refine ⟨_, rfl, ?_⟩
  repeat' first
    | with_reducible apply Does.refl | with_reducible apply Does.next (resetLinkFunctions_does _ _)
    | with_reducible apply Does.next (beginDue_does _) | with_reducible apply Does.next (resetFunction_does _ _) | exact rfl
    | split

theorem execLinkReset_gives (link : Nat) (perst : Bool) (s : State) :
    Gives (touches (.linkReset link perst)) s (exec (.linkReset link perst) s) := by
  refine ⟨_, rfl, ?_⟩
  repeat' first
    | with_reducible apply Does.refl | with_reducible apply Does.next (resetLinkFunctions_does _ _)
    | with_reducible apply Does.next (State.modLink_does _ _ _) | exact rfl

theorem execLinkTrainingStart_gives (link : Nat) (s : State) :
    Gives (touches (.linkTrainingStart link)) s (exec (.linkTrainingStart link) s) := by
  refine ⟨_, rfl, ?_⟩
  repeat' first
    | with_reducible apply Does.refl | with_reducible apply Does.next (State.modLink_does _ _ _) | exact rfl | split

theorem execConfigurationRequest_gives (f : Nat) (w : CfgWrite) (s : State) :
    Gives (touches (.configurationRequest f w)) s (exec (.configurationRequest f w) s) := by
  refine ⟨_, rfl, ?_⟩
  repeat' first
    | with_reducible apply Does.refl | with_reducible apply Does.next (State.emit_does _ _)
    | with_reducible apply Does.next (State.modLink_does _ _ _) | with_reducible apply Does.next (State.modFunc_does _ _ _)
    | with_reducible apply Does.next (unmask_does _ _ _) | exact rfl | split

theorem execHubBeat_gives (s : State) : Gives (touches .hubBeat) s (exec .hubBeat s) := by
  refine ⟨_, rfl, ?_⟩
  repeat' first
    | with_reducible apply Does.refl | with_reducible apply Does.next (State.modHub_does _ _) | exact rfl | split

/-! ### Temperature and the budget (18) -/

theorem execSlowRoundSample_gives (die : Die3) (raw : Int) (s : State) :
    Gives (touches (.slowRoundSample die raw)) s (exec (.slowRoundSample die raw) s) := by
  refine ⟨_, rfl, ?_⟩
  repeat' first
    | with_reducible apply Does.refl | with_reducible apply Does.next (readTripped_does _ _ _)
    | with_reducible apply Does.next (State.modTherm_does _ _ _) | with_reducible apply Does.next (takeReading_does _ _ _ _ _)
    | exact rfl | split

theorem execThrottleSample_gives (die : Die3) (raw : Int) (s : State) :
    Gives (touches (.throttleSample die raw)) s (exec (.throttleSample die raw) s) := by
  refine ⟨_, rfl, ?_⟩
  repeat' first
    | with_reducible apply Does.refl | with_reducible apply Does.next (takeReading_does _ _ _ _ _)
    | with_reducible apply Does.next (State.modTherm_does _ _ _) | exact rfl | split | dsimp only

theorem execBudgetTick_gives (railA railB : RailPower) (pHub : Nat) (s : State) :
    Gives (touches (.budgetTick railA railB pHub)) s (exec (.budgetTick railA railB pHub) s) := by
  refine ⟨_, rfl, ?_⟩
  repeat' first
    | with_reducible apply Does.refl | with_reducible apply Does.next (State.modBudget_does _ _)
    | with_reducible apply Does.next (raise_does _ _ _ _ _ _) | with_reducible apply Does.next (countMs_does _)
    | with_reducible apply Does.next (setTargets_does _) | with_reducible apply Does.next (moveLadder_does _) | exact rfl
    | split

/-! ### Memory channels (16) -/

theorem execRefreshDue_gives (die : Die3) (channel : Nat) (traffic : List MemStep) (s : State) :
    Gives (touches (.refreshDue die channel traffic)) s (exec (.refreshDue die channel traffic) s) := by
  refine ⟨_, rfl, ?_⟩
  repeat' first
    | with_reducible apply Does.refl | with_reducible apply Does.next (memStep_does _ _ _ _)
    | with_reducible apply Does.next (State.modChan_does _ _ _ _) | with_reducible apply Does.foldl | exact rfl | intro _ _
    | split

theorem execMr4Read_gives (die : Die3) (channel : Nat) (code : Nat) (s : State) :
    Gives (touches (.mr4Read die channel code)) s (exec (.mr4Read die channel code) s) := by
  refine ⟨_, rfl, ?_⟩
  repeat' first
    | with_reducible apply Does.refl | with_reducible apply Does.next (State.modChan_does _ _ _ _)
    | with_reducible apply Does.next (memEvent_does _ _ _ _ _) | with_reducible apply Does.next (enterBand_does _ _ _)
    | exact rfl | split | dsimp only

theorem execTrackingRead_gives (die : Die3) (channel : Nat) (drift : Int) (s : State) :
    Gives (touches (.trackingRead die channel drift)) s (exec (.trackingRead die channel drift) s) := by
  refine ⟨_, rfl, ?_⟩
  repeat' first
    | with_reducible apply Does.refl | with_reducible apply Does.next (State.modClocks_does _ _)
    | with_reducible apply Does.next (State.modChan_does _ _ _ _) | with_reducible apply Does.next (memEvent_does _ _ _ _ _)
    | with_reducible apply Does.next (State.modCal_does _ _ _) | with_reducible apply Does.next (failChannel_does _ _ _ _)
    | exact rfl | split | dsimp only

theorem execMemoryReadError_gives (die : Die3) (channel : Nat) (line : Nat) (read : PinRead) (what : MemData) (patrol : Bool) (s : State) :
    Gives (touches (.memoryReadError die channel line read what patrol)) s
      (exec (.memoryReadError die channel line read what patrol) s) := by
  refine ⟨_, rfl, ?_⟩
  repeat' first
    | with_reducible apply Does.refl | with_reducible apply Does.next (State.modChan_does _ _ _ _)
    | with_reducible apply Does.next (poisonLine_does _ _ _ _ _ _ _) | with_reducible apply Does.next (failChannel_does _ _ _ _)
    | with_reducible apply Does.next (singleError_does _ _ _ _ _ _) | exact rfl | split | dsimp only

/-! ### Patrol scrub (16) -/

theorem execPatrolScrubPass_gives (die : Die3) (channel : Nat) (records starting : Bool) (s : State) :
    Gives (touches (.patrolScrubPass die channel records starting)) s (exec (.patrolScrubPass die channel records starting) s) := by
  refine ⟨_, rfl, ?_⟩
  repeat' first
    | with_reducible apply Does.refl | with_reducible apply Does.next (countShed_does _ _)
    | with_reducible apply Does.next (State.modChan_does _ _ _ _) | with_reducible apply Does.next (patrolHashes_does _ _)
    | with_reducible apply Does.next (memEvent_does _ _ _ _ _) | exact rfl | split | dsimp only

/-! ### The service port, the test access port and the key store (10, 19) -/

theorem execNspHandshake_gives (session : Nat) (c : Cert) (suiteOk : Bool) (s : State) :
    Gives (touches (.nspHandshake session c suiteOk)) s (exec (.nspHandshake session c suiteOk) s) := by
  refine ⟨_, rfl, ?_⟩
  repeat' first
    | with_reducible apply Does.refl | with_reducible apply Does.next (raise_does _ _ _ _ _ _)
    | with_reducible apply Does.next (State.modNsp_does _ _ _) | exact rfl | split | dsimp only

theorem execNspJcsRequest_gives (session : Nat) (header : Word) (payload : List Word) (s : State) :
    Gives (touches (.nspJcsRequest session header payload)) s (exec (.nspJcsRequest session header payload) s) := by
  refine ⟨_, rfl, ?_⟩
  repeat' first
    | with_reducible apply Does.refl | with_reducible apply Does.next (touch_does _ _)
    | with_reducible apply Does.next (takeFragment_does _ _ _ _) | exact rfl | split

theorem execNspReassemblyTimeout_gives (session : Nat) (s : State) :
    Gives (touches (.nspReassemblyTimeout session)) s (exec (.nspReassemblyTimeout session) s) := by
  refine ⟨_, rfl, ?_⟩
  repeat' first
    | with_reducible apply Does.refl | with_reducible apply Does.next (State.modNsp_does _ _ _) | exact rfl | split

theorem execNspData_gives (session offset : Nat) (bytes : List Byte) (s : State) :
    Gives (touches (.nspData session offset bytes)) s (exec (.nspData session offset bytes) s) := by
  refine ⟨_, rfl, ?_⟩
  repeat' first
    | with_reducible apply Does.refl | with_reducible apply Does.next (touch_does _ _)
    | with_reducible apply Does.next (State.modNsp_does _ _ _) | exact rfl | split

theorem execNspRegisterRead_gives (session : Nat) (nseq : BitVec 16) (die addr : Nat) (s : State) :
    Gives (touches (.nspRegisterRead session nseq die addr)) s (exec (.nspRegisterRead session nseq die addr) s) := by
  refine ⟨_, rfl, ?_⟩
  repeat' first
    | with_reducible apply Does.refl | with_reducible apply Does.next (nspRegister_does _ _ _ _ _)
    | with_reducible apply Does.next (touch_does _ _) | with_reducible apply Does.next (State.drawn_does _) | exact rfl | split

theorem execNspRegisterWrite_gives (session : Nat) (nseq : BitVec 16) (die addr : Nat) (value : Word) (s : State) :
    Gives (touches (.nspRegisterWrite session nseq die addr value)) s (exec (.nspRegisterWrite session nseq die addr value) s) := by
  refine ⟨_, rfl, ?_⟩
  repeat' first
    | with_reducible apply Does.refl | with_reducible apply Does.next (touch_does _ _)
    | with_reducible apply Does.next (nspRegister_does _ _ _ _ _) | with_reducible apply Does.next (State.modClocks_does _ _)
    | exact rfl | split

theorem execKsStatus_gives (s : State) : Gives (touches .ksStatus) s (exec .ksStatus s) := by
  refine ⟨_, rfl, ?_⟩
  repeat' first
    | with_reducible apply Does.refl | with_reducible apply Does.next (selectTap_does _ _ _) | exact rfl

theorem execKsZero_gives (s : State) : Gives (touches .ksZero) s (exec .ksZero s) := by
  refine ⟨_, rfl, ?_⟩
  repeat' first
    | with_reducible apply Does.refl | with_reducible apply Does.next (holdDie_does _ _)
    | with_reducible apply Does.next (failCp_does _) | with_reducible apply Does.next (dropLink_does _ _)
    | with_reducible apply Does.next (State.modHub_does _ _) | with_reducible apply Does.next (selectTap_does _ _ _)
    | with_reducible apply Does.next (State.modService_does _ _ ?_) | with_reducible apply Does.each | exact rfl
    | exact fun _ => rfl | intro _ _

/-! ### The end of a timing change (07) -/

theorem execTimingChangeComplete_gives (canvas : Nat) (s : State) :
    Gives (touches (.timingChangeComplete canvas)) s (exec (.timingChangeComplete canvas) s) := by
  refine ⟨_, rfl, ?_⟩
  repeat' first
    | with_reducible apply Does.refl | with_reducible apply Does.next (endChange_does _ _ _ _ _) | exact rfl | split
    | dsimp only

/-- A refused request changes its sender's count of violations alone (R320). -/
theorem violationAnswer_does {op : JcsOp} {s : State} {r : Req} {a : Ans} (h : violationAnswer op s r = some a) :
    Does [.hub] s a.state := by
  unfold violationAnswer at h
  split at h
  · cases h
  · cases h
    exact violate_does s r.who

/-! ### Requests that fail check 4 (11) -/

theorem execPartitionViolationReply_gives (r : Req) (s : State) :
    Gives (touches (.partitionViolationReply r)) s (exec (.partitionViolationReply r) s) := by
  refine ⟨_, rfl, ?_⟩
  split
  · next h =>
    split
    · next ha => exact giveAnswer_does r _ (((takeRequest_does h).mono rfl).trans ((violationAnswer_does ha).mono rfl)) rfl
    · exact Does.refl _ _
  · exact Does.refl _ _

/-! ### Every command -/

/-- Every command gives a next state, and changes no part but those that `touches` names; ANCHOR, which adds an anchor, and FW_CONFIRM,
which raises the fuse, stand apart. -/
theorem exec_gives (i : Instr) (s : State) (hanchor : ∀ n digest, i ≠ .anchor n digest)
    (hconfirm : ∀ r ok, i ≠ .fwConfirm r ok) : Gives (touches i) s (exec i s) := by
  cases i with
  | ringConfig r => exact jcs_gives ringConfigBody_does r s rfl
  | ringStart r => exact jcs_gives ringStartBody_does r s rfl
  | ringStop r => exact jcs_gives ringStopBody_does r s rfl
  | ringDoorbell f i value => exact execRingDoorbell_gives f i value s
  | descriptorFetch fetched => exact execDescriptorFetch_gives fetched s
  | ringWriteBack ring ok => exact execRingWriteBack_gives ring ok s
  | completionRoom ring => exact execCompletionRoom_gives ring s
  | dtypeMismatch ring d => exact execDtypeMismatch_gives ring d s
  | eventDelivery => exact execEventDelivery_gives s
  | eventRoute r => exact jcs_gives eventRouteBody_does r s rfl
  | violationRead r => exact jcs_gives violationReadBody_does r s rfl
  | srcConfig r => exact jcs_gives srcConfigBody_does r s rfl
  | srcStart r => exact jcs_gives srcStartBody_does r s rfl
  | srcStop r => exact jcs_gives srcStopBody_does r s rfl
  | diagSlotRead r => exact jcs_gives diagSlotReadBody_does r s rfl
  | pullSegment ring d => exact execPullSegment_gives ring d s
  | pullSegmentDone slot bytes => exact execPullSegmentDone_gives slot bytes s
  | pullTimeout slot => exact execPullTimeout_gives slot s
  | pullBufferWaitEnd slot => exact execPullBufferWaitEnd_gives slot s
  | submit ring d => exact execSubmit_gives ring d s
  | cancel ring d => exact execCancel_gives ring d s
  | releasePosted slot buf => exact execReleasePosted_gives slot buf s
  | bar2Write f offset data poisoned => exact execBar2Write_gives f offset data poisoned s
  | bar2Read f offset length => exact execBar2Read_gives f offset length s
  | netPacket port p => exact execNetPacket_gives port p s
  | netFrameTimeout slot => exact execNetFrameTimeout_gives slot s
  | netLegLoss slot leg => exact execNetLegLoss_gives slot leg s
  | canvasConfig r => exact jcs_gives canvasConfigBody_does r s rfl
  | canvasTiles r => exact jcs_gives canvasTilesBody_does r s rfl
  | layerConfig r => exact jcs_gives layerConfigBody_does r s rfl
  | blendTree r => exact jcs_gives blendTreeBody_does r s rfl
  | canvasTiming r => exact jcs_gives canvasTimingBody_does r s rfl
  | tileScan r => exact jcs_gives tileScanBody_does r s rfl
  | canvasCommit r => exact jcs_gives canvasCommitBody_does r s rfl
  | sapConfig r => exact jcs_gives sapConfigBody_does r s rfl
  | sapStart r => exact jcs_gives sapStartBody_does r s rfl
  | sapStop r => exact jcs_gives sapStopBody_does r s rfl
  | sapMute r => exact jcs_gives sapMuteBody_does r s rfl
  | sapStatusRead r => exact jcs_gives sapStatusReadBody_does r s rfl
  | play ring d pull => exact execPlay_gives ring d pull s
  | capture ring d => exact execCapture_gives ring d s
  | audioPacket port p => exact execAudioPacket_gives port p s
  | audioLegLoss sap part leg => exact execAudioLegLoss_gives sap part leg s
  | audioBlock sap input => exact execAudioBlock_gives sap input s
  | sapZeroCrossingChange sap channel => exact execSapZeroCrossingChange_gives sap channel s
  | awclkLoss => exact execAwclkLoss_gives s
  | awclkReturn => exact execAwclkReturn_gives s
  | pltRead r => exact jcs_gives pltReadBody_does r s rfl
  | pltPropose r => exact jcs_gives pltProposeBody_does r s rfl
  | proposalExpiry => exact execProposalExpiry_gives s
  | pltWithdraw r => exact jcs_gives pltWithdrawBody_does r s rfl
  | pltProposalRead r => exact jcs_gives pltProposalReadBody_does r s rfl
  | bistSliceStart die region vout temp => exact execBistSliceStart_gives die region vout temp s
  | bistSliceEnd die cluster completed signature => exact execBistSliceEnd_gives die cluster completed signature s
  | bistOverdue die cluster => exact execBistOverdue_gives die cluster s
  | restingRotation die region => exact execRestingRotation_gives die region s
  | diagBistRead r => exact jcs_gives diagBistReadBody_does r s rfl
  | tileMap r => exact jcs_gives tileMapBody_does r s rfl
  | tilePrefs r => exact jcs_gives tilePrefsBody_does r s rfl
  | tileCommit r => exact jcs_gives tileCommitBody_does r s rfl
  | tileTxnRead r => exact jcs_gives tileTxnReadBody_does r s rfl
  | tileRead r => exact jcs_gives tileReadBody_does r s rfl
  | portConfig r => exact jcs_gives portConfigBody_does r s rfl
  | chainReset r => exact jcs_gives chainResetBody_does r s rfl
  | chainResetCommit port => exact execChainResetCommit_gives port s
  | tileAssign port => exact execTileAssign_gives port s
  | stageResend xid port => exact execStageResend_gives xid port s
  | stageAckTimeout xid port => exact execStageAckTimeout_gives xid port s
  | commitRepeat xid port => exact execCommitRepeat_gives xid port s
  | driveRetry tile => exact .onlyIf (startDrive_does _ _) rfl
  | tileStatusTimeout tile => exact execTileStatusTimeout_gives tile s
  | diagPortRead r => exact jcs_gives diagPortReadBody_does r s rfl
  | records ring d => exact .of (corrDescriptor_does _ _ _ _) rfl
  | tileBlock ring d => exact .of (corrDescriptor_does _ _ _ _) rfl
  | correctionLoadDone tile pull => exact execCorrectionLoadDone_gives tile pull s
  | corrCommit r => exact jcs_gives corrCommitBody_does r s rfl
  | corrHash r => exact jcs_gives corrHashBody_does r s rfl
  | corrProbe r => exact jcs_gives corrProbeBody_does r s rfl
  | corrProbeRead r => exact jcs_gives corrProbeReadBody_does r s rfl
  | recordRepair die tile line => exact execRecordRepair_gives die tile line s
  | hashRecompute tile => exact .of (hashTile_does _ _ _) rfl
  | lutLoad r => exact jcs_gives lutLoadBody_does r s rfl
  | meshLoad r => exact jcs_gives meshLoadBody_does r s rfl
  | tableLoadComplete table pull => exact execTableLoadComplete_gives table pull s
  | diagLayerRead r => exact jcs_gives diagLayerReadBody_does r s rfl
  | selectionInstant canvas => exact execSelectionInstant_gives canvas s
  | frameOrderAck canvas => exact .onlyIf (ackOrder_does _ _) rfl
  | frameOrderAckTimeout canvas => exact execFrameOrderAckTimeout_gives canvas s
  | echoReceived port fill codes => exact execEchoReceived_gives port fill codes s
  | statusReceived port fill codes => exact execStatusReceived_gives port fill codes s
  | pongReceived port fill codes t4 => exact execPongReceived_gives port fill codes t4 s
  | downstreamFrameDiscard port a => exact .onlyIf (hear_fst s port a) rfl
  | upstreamFrameInvalid port a => exact .onlyIf (hear_fst s port a) rfl
  | linkSignalDetect port => exact execLinkSignalDetect_gives port s
  | linkBlockLock run => exact execLinkBlockLock_gives run s
  | linkLockTimeout port => exact execLinkLockTimeout_gives port s
  | linkUp port => exact execLinkUp_gives port s
  | linkDown loss => exact execLinkDown_gives loss s
  | linkQuiet port => exact execLinkQuiet_gives port s
  | quietSilenceTimeout port => exact .onlyIf (linkFalls_does _ _) rfl
  | timeSync port => exact execTimeSync_gives port s
  | keepalive port => exact execKeepalive_gives port s
  | hopCalPeriodic port pos => exact .onlyIf (startHop_does _ _ _) rfl
  | hopCal r => exact jcs_gives hopCalBody_does r s rfl
  | hopCalComplete port => exact execHopCalComplete_gives port s
  | hopRead r => exact jcs_gives hopReadBody_does r s rfl
  | regionComputed die tile region result => exact execRegionComputed_gives die tile region result s
  | regionReport tile region => exact execRegionReport_gives tile region s
  | replayResult die tile region crc cluster => exact execReplayResult_gives die tile region crc cluster s
  | regionSend port tile region underruns => exact execRegionSend_gives port tile region underruns s
  | corrProbeCapture f => exact execCorrProbeCapture_gives f s
  | engineWatchdogExpiry die engine => exact execEngineWatchdogExpiry_gives die engine s
  | regionDmaFault die region => exact .onlyIf (startRegionReset_does _ _ _ _) rfl
  | regionResetDone die region => exact execRegionResetDone_gives die region s
  | scrimIdleLatentTest die region faults => exact execScrimIdleLatentTest_gives die region faults s
  | decConfig r => exact jcs_gives decConfigBody_does r s rfl
  | decStart r => exact jcs_gives decStartBody_does r s rfl
  | decStop r => exact jcs_gives decStopBody_does r s rfl
  | decodePacket port p => exact execDecodePacket_gives port p s
  | jitterWindowClose session => exact execJitterWindowClose_gives session s
  | decodeLegLoss session leg => exact execDecodeLegLoss_gives session leg s
  | pictureDecoded session p => exact execPictureDecoded_gives session p s
  | encConfig r => exact jcs_gives encConfigBody_does r s rfl
  | encStart r => exact jcs_gives encStartBody_does r s rfl
  | encStop r => exact jcs_gives encStopBody_does r s rfl
  | vcxStatusRead r => exact jcs_gives vcxStatusReadBody_does r s rfl
  | encBuf ring d => exact execEncBuf_gives ring d s
  | encodeCapture session => exact execEncodeCapture_gives session s
  | accessUnitDone session c => exact execAccessUnitDone_gives session c s
  | timeRead r => exact jcs_gives timeReadBody_does r s rfl
  | timeServo r => exact jcs_gives timeServoBody_does r s rfl
  | timeIncrement r => exact jcs_gives timeIncrementBody_does r s rfl
  | ptpConfig r => exact jcs_gives ptpConfigBody_does r s rfl
  | ptpStatusRead r => exact jcs_gives ptpStatusReadBody_does r s rfl
  | refConfig r => exact jcs_gives refConfigBody_does r s rfl
  | refMeasurement m => exact execRefMeasurement_gives m s
  | refStop => exact .onlyIf (holdover_does _ _) rfl
  | slewEnd => exact execSlewEnd_gives s
  | timeStep => exact execTimeStep_gives s
  | rateMeasured code => exact execRateMeasured_gives code s
  | counterCopyCompare diffA diffB => exact execCounterCopyCompare_gives diffA diffB s
  | ptpMessageForward die msg twoStep residence => exact execPtpMessageForward_gives die msg twoStep residence s
  | ptpAnnounceReceived x => exact execPtpAnnounceReceived_gives x s
  | ptpDelayResponse die resp => exact execPtpDelayResponse_gives die resp s
  | ppsOutput => exact execPpsOutput_gives s
  | networkLinkUp port => exact execNetworkLinkUp_gives port s
  | networkLinkDown port => exact execNetworkLinkDown_gives port s
  | refclkStable => exact execRefclkStable_gives s
  | refclkLoss => exact execRefclkLoss_gives s
  | rootPllLockLoss die => exact execRootPllLockLoss_gives die s
  | hubPllLockLoss => exact execHubPllLockLoss_gives s
  | hubPllRelock => exact execHubPllRelock_gives s
  | laneReferenceMeasurement offset => exact execLaneReferenceMeasurement_gives offset s
  | laneReferenceTrimStep => exact .of (trimStep_does _) rfl
  | opTransition die ack => exact execOpTransition_gives die ack s
  | opSettle die pg => exact execOpSettle_gives die pg s
  | regulatorMonitor die readVout => exact execRegulatorMonitor_gives die readVout s
  | vrPgLow die => exact execVrPgLow_gives die s
  | gateCloseRequest g => exact execGateCloseRequest_gives g s
  | gateCloseTimeout g => exact execGateCloseTimeout_gives g s
  | sysPower r => exact jcs_gives sysPowerBody_does r s rfl
  | sysPowerComplete => exact execSysPowerComplete_gives s
  | thermalTrip die => exact execThermalTrip_gives die s
  | tripRelease die => exact execTripRelease_gives die s
  | frameVerdict canvas faults => exact execFrameVerdict_gives canvas faults s
  | verdictTimeout die canvas => exact execVerdictTimeout_gives die canvas s
  | flipInstant canvas => exact execFlipInstant_gives canvas s
  | loopTrimUpdate canvas => exact execLoopTrimUpdate_gives canvas s
  | scrimTableCheck die table => exact execScrimTableCheck_gives die table s
  | safeZoneRead r => exact jcs_gives safeZoneReadBody_does r s rfl
  | safeTileRead r => exact jcs_gives safeTileReadBody_does r s rfl
  | safeFlashRead r => exact jcs_gives safeFlashReadBody_does r s rfl
  | safeScrimRead r => exact jcs_gives safeScrimReadBody_does r s rfl
  | heartbeatSend die => exact .onlyIf (sendHeartbeat_does _ _) rfl
  | heartbeatReceived die word => exact execHeartbeatReceived_gives die word s
  | heartbeatMiss die => exact execHeartbeatMiss_gives die s
  | fatalDeclaration die cause => exact .of (declareFatal_does _ _ _) rfl
  | fence die cause => exact .of (fenceDie_does _ _ _) rfl
  | arbiterCommand die word valid => exact execArbiterCommand_gives die word valid s
  | arbiterCommandMiss die => exact execArbiterCommandMiss_gives die s
  | arbiterFreeze => exact execArbiterFreeze_gives s
  | rejoinRelease die => exact execRejoinRelease_gives die s
  | stateCopyComplete die => exact execStateCopyComplete_gives die s
  | verificationFrame die digest => exact execVerificationFrame_gives die digest s
  | coldRebuild passA passB => exact execColdRebuild_gives passA passB s
  | inconclusiveLimit => exact execInconclusiveLimit_gives s
  | microcodeHandover => exact execMicrocodeHandover_gives s
  | microcodeSwitch canvas => exact execMicrocodeSwitch_gives canvas s
  | twinStatusRead r => exact jcs_gives twinStatusReadBody_does r s rfl
  | twinVoteRead r => exact jcs_gives twinVoteReadBody_does r s rfl
  | twinService r => exact jcs_gives twinServiceBody_does r s rfl
  | twinServiceComplete => exact execTwinServiceComplete_gives s
  | dieLinkPoison word again => exact execDieLinkPoison_gives word again s
  | dieLinkRestored => exact execDieLinkRestored_gives s
  | calibrationWindow item opening => exact execCalibrationWindow_gives item opening s
  | calibrationRun item run => exact execCalibrationRun_gives item run s
  | diodeTrim die => exact execDiodeTrim_gives die s
  | diagCalRead r => exact jcs_gives diagCalReadBody_does r s rfl
  | pkgRstN => exact .unless (packageReset_does _) rfl
  | powerOn => exact execPowerOn_gives s
  | powerDown => exact execPowerDown_gives s
  | supplyOutOfRange x => exact execSupplyOutOfRange_gives x s
  | supplyRestored x => exact execSupplyRestored_gives x s
  | settingsAreaWrite area ok => exact execSettingsAreaWrite_gives area ok s
  | stageChange b => exact execStageChange_gives b s
  | fwLoad r => exact jcs_gives fwLoadBody_does r s rfl
  | fwLoadComplete compareOk => exact execFwLoadComplete_gives compareOk s
  | fwActivate r => exact jcs_gives fwActivateBody_does r s rfl
  | fwActivateComplete => exact execFwActivateComplete_gives s
  | trialExpiry => exact .unless (fallBackFor_does _ _) rfl
  | cpWatchdogExpiry => exact execCpWatchdogExpiry_gives s
  | fwConfirm r fuseOk => exact absurd rfl (hconfirm r fuseOk)
  | fwStatusRead r => exact jcs_gives fwStatusReadBody_does r s rfl
  | tileFwRelay r => exact jcs_gives tileFwRelayBody_does r s rfl
  | tileFwRelayComplete => exact execTileFwRelayComplete_gives s
  | pkgReset r => exact execPkgReset_gives r s
  | pkgHalt r => exact execPkgHalt_gives r s
  | sysInfoRead r => exact jcs_gives sysInfoReadBody_does r s rfl
  | cmdRead r => exact jcs_gives cmdReadBody_does r s rfl
  | sysNop r => exact jcs_gives sysNopBody_does r s rfl
  | unknownOpcode r => exact execUnknownOpcode_gives r s
  | mboxSubmit f value => exact .onlyIf (mboxSubmit_does _ _) rfl
  | requestMailboxWrite f offset size value => exact .onlyIf (mailboxWrite_does _ _ _ _ _) rfl
  | msixUnmask f vector => exact .onlyIf (unmask_does _ _ _) rfl
  | registerWrite f bar offset size value => exact execRegisterWrite_gives f bar offset size value s
  | functionLevelReset f => exact execFunctionLevelReset_gives f s
  | linkReset link perst => exact execLinkReset_gives link perst s
  | linkTrainingStart link => exact execLinkTrainingStart_gives link s
  | configurationRequest f w => exact execConfigurationRequest_gives f w s
  | hubBeat => exact execHubBeat_gives s
  | cpFailure => exact .of (failCp_does _) rfl
  | slowRoundSample die raw => exact execSlowRoundSample_gives die raw s
  | throttleSample die raw => exact execThrottleSample_gives die raw s
  | budgetTick railA railB pHub => exact execBudgetTick_gives railA railB pHub s
  | sysPowerRead r => exact jcs_gives sysPowerReadBody_does r s rfl
  | diagThermalRead r => exact jcs_gives diagThermalReadBody_does r s rfl
  | refreshDue die channel traffic => exact execRefreshDue_gives die channel traffic s
  | mr4Read die channel code => exact execMr4Read_gives die channel code s
  | trackingRead die channel drift => exact execTrackingRead_gives die channel drift s
  | memoryReadError die channel line read what patrol => exact execMemoryReadError_gives die channel line read what patrol s
  | channelNoData die channel => exact .onlyIf (failChannel_does _ _ _ _) rfl
  | diagMemRead r => exact jcs_gives diagMemReadBody_does r s rfl
  | pltConfirm r => exact jcs_gives pltConfirmBody_does r s rfl
  | patrolScrubPass die channel records starting => exact execPatrolScrubPass_gives die channel records starting s
  | nspHandshake session c suiteOk => exact execNspHandshake_gives session c suiteOk s
  | nspSessionTimeout session => exact .unless (closeSession_does _ _) rfl
  | nspSessionClose session => exact .unless (closeSession_does _ _) rfl
  | nspKeepalive session => exact .onlyIf (touch_does _ _) rfl
  | nspJcsRequest session header payload => exact execNspJcsRequest_gives session header payload s
  | nspReassemblyTimeout session => exact execNspReassemblyTimeout_gives session s
  | nspData session offset bytes => exact execNspData_gives session offset bytes s
  | nspRegisterRead session nseq die addr => exact execNspRegisterRead_gives session nseq die addr s
  | nspRegisterWrite session nseq die addr value => exact execNspRegisterWrite_gives session nseq die addr value s
  | anchor session digest => exact absurd rfl (hanchor session digest)
  | idcode => exact .of (selectTap_does _ _ _) rfl
  | samplePreload => exact .of (selectTap_does _ _ _) rfl
  | ksStatus => exact execKsStatus_gives s
  | extest => exact .of (gatedTap_does _ _) rfl
  | clamp => exact .of (gatedTap_does _ _) rfl
  | highz => exact .of (gatedTap_does _ _) rfl
  | scanMode => exact .of (gatedTap_does _ _) rfl
  | bypass code => exact .unless (selectBypass_does _) rfl
  | ksZero => exact execKsZero_gives s
  | timingFlipRead r => exact jcs_gives timingFlipReadBody_does r s rfl
  | timingChangeRead r => exact jcs_gives timingChangeReadBody_does r s rfl
  | timingChangeComplete canvas => exact execTimingChangeComplete_gives canvas s
  | checkSet r => exact jcs_gives checkSetBody_does r s rfl
  | checkRead r => exact jcs_gives checkReadBody_does r s rfl
  | partitionViolationReply r => exact execPartitionViolationReply_gives r s

end Sys2Proof.Machine

/-! ## The invariant: canonical buffers, and the owner anchors within their bounds (02, 19) -/

namespace Sys2Proof.Machine

section
variable {s t : State}

/-- The invariant reads the frames and the owner anchors only. -/
theorem Inv.congr (hi : Inv s) (hf : t.frames = s.frames) (ha : t.service.keys.anchors = s.service.keys.anchors) : Inv t where
  bufsA := hf ▸ hi.bufsA
  bufsB := hf ▸ hi.bufsB
  count := ha ▸ hi.count
  digests := ha ▸ hi.digests

/-- What leaves the anchors and keeps the buffers canonical keeps the invariant. -/
theorem Does.inv {l : List Part} (h : Does l s t) (hi : Inv s) : Inv t where
  bufsA := h.bufsA hi.bufsA hi.bufsB
  bufsB := h.bufsB hi.bufsA hi.bufsB
  count := h.anchors ▸ hi.count
  digests := h.anchors ▸ hi.digests

theorem Inv.ite {c : Prop} [Decidable c] (hs : Inv s) (ht : Inv t) : Inv (if c then s else t) := by
  split
  · exact hs
  · exact ht

end

/-- A request whose body keeps the invariant keeps it. -/
theorem jcs_inv {op : JcsOp} {body : State → Req → Ans} (hb : ∀ s r, Inv s → Inv (body s r).state) (r : Req) {s : State}
    (hi : Inv s) : Inv (jcs op body r s) := by
  unfold jcs
  split
  · exact hi
  · split
    · exact hi
    · next s1 h1 =>
      have hi1 : Inv s1 := (takeRequest_does h1).inv hi
      have hanswer : Inv (answer op body s1 r).state := by
        unfold answer
        split
        · exact hi1
        · split
          · exact hi1
          · split
            · exact (violate_does s1 r.who).inv hi1
            · split
              · exact hi1
              · exact hb s1 r hi1
      exact (giveAnswer_does (l := allParts) r _ (Does.refl _ _) rfl).inv hanswer

/-- FW_CONFIRM raises the fuse, which the invariant does not read (R514). -/
theorem fwConfirmBody_inv (fuseOk : Bool) (s : State) (r : Req) (hi : Inv s) : Inv (fwConfirmBody fuseOk s r).state := by
  unfold fwConfirmBody
  split
  · exact hi
  · split
    · exact hi
    · refine (raise_does ..).inv (.ite ?_ (.ite ?_ ((raise_does ..).inv ?_))) <;> exact hi.congr rfl rfl

/-- ANCHOR adds an anchor of 48 bytes while there are fewer than four (R506). -/
theorem anchor_inv {s t : State} {n : Nat} {digest : List Byte} (hi : Inv s) (h : exec (.anchor n digest) s = .next t) : Inv t := by
  have htouch : Inv (touch s n) := (touch_does s n).inv hi
  have hsame : (touch s n).service.keys.anchors = s.service.keys.anchors := (touch_does s n).anchors
  simp only [exec, execAnchor, Host.Outcome.next.injEq] at h
  split at h
  · exact h ▸ hi
  · split at h
    · next hnew =>
      simp only [Bool.and_eq_true, decide_eq_true_eq] at hnew
      obtain ⟨⟨hlen, hfour⟩, -⟩ := hnew
      subst h
      refine ⟨htouch.bufsA, htouch.bufsB, ?_, fun a ha => ?_⟩
      · simp only [State.modService_service, List.length_append, List.length_singleton, hsame]
        omega
      · rcases List.mem_append.1 ha with ha | ha
        · exact htouch.digests a ha
        · rw [List.mem_singleton.1 ha, hlen]
    · exact h ▸ htouch

/-- Every command keeps the invariant: all but ANCHOR and FW_CONFIRM leave anchors and fuse (`exec_gives`). -/
theorem exec_inv {i : Instr} {s t : State} (hi : Inv s) (h : exec i s = .next t) : Inv t := by
  by_cases hanchor : ∃ n digest, i = .anchor n digest
  · obtain ⟨n, digest, rfl⟩ := hanchor
    exact anchor_inv hi h
  · by_cases hconfirm : ∃ r ok, i = .fwConfirm r ok
    · obtain ⟨r, ok, rfl⟩ := hconfirm
      simp only [exec, execFwConfirm, Host.Outcome.next.injEq] at h
      exact h ▸ jcs_inv (fwConfirmBody_inv ok) r hi
    · push Not at hanchor hconfirm
      obtain ⟨u, hu, hdoes⟩ := exec_gives i s hanchor hconfirm
      rw [hu, Host.Outcome.next.injEq] at h
      exact h ▸ hdoes.inv hi

/-- Settles O59: a step passes a tick or runs the front of the queue, and either keeps the invariant. -/
theorem invariantKept : Obligations.InvariantKept := by
  intro s t hi h
  unfold step at h
  split at h
  · rw [Host.Outcome.next.injEq] at h
    exact h ▸ (idleTick_does s).inv hi
  · next c rest _ =>
    have hpopped : Inv { s with pending := rest } := hi.congr rfl rfl
    exact exec_inv hpopped h

end Sys2Proof.Machine

/-! ## The staging commands of a canvas (03) -/

namespace Sys2Proof.Machine

theorem fld_lt (w : Word) (hi lo : Nat) : fld w hi lo < 2 ^ (hi + 1 - lo) := Nat.mod_lt _ (Nat.two_pow_pos _)

/-- A field cleared in a word and put anew holds what was put there. -/
theorem fld_replaced (w : Word) {mask : Word} {v n hi lo : Nat} (hhi : hi + 1 = lo + n) (hfit : lo + n ≤ 64)
    (hmask : mask = BitVec.ofNat 64 (2 ^ n - 1)) (hv : v < 2 ^ n) : fld ((w &&& ~~~(mask <<< lo)) ||| put v n lo) hi lo = v := by
  subst hmask
  apply Nat.eq_of_testBit_eq
  intro i
  have hwidth : hi + 1 - lo = n := by omega
  rw [fld, hwidth, Nat.testBit_mod_two_pow, Nat.testBit_shiftRight, BitVec.testBit_toNat]
  by_cases hin : i < n
  · have hlt : lo + i < 64 := by omega
    have hmask : (BitVec.ofNat 64 (2 ^ n - 1)).getLsbD i = true := by
      rw [BitVec.getLsbD_ofNat, Nat.testBit_two_pow_sub_one, decide_eq_true hin, Bool.and_true, decide_eq_true (by omega)]
    have hput : (put v n lo).getLsbD (lo + i) = v.testBit i := by
      rw [put, BitVec.getLsbD_ofNat, Nat.testBit_shiftLeft, Nat.mod_eq_of_lt hv, Nat.add_sub_cancel_left]
      simp [hlt]
    rw [BitVec.getLsbD_or, hput, BitVec.getLsbD_and, BitVec.getLsbD_not, BitVec.getLsbD_shiftLeft, Nat.add_sub_cancel_left, hmask]
    simp [hlt, hin]
  · have hv' : v < 2 ^ i := hv.trans_le (Nat.pow_le_pow_right two_pos (not_lt.1 hin))
    simp [hin, Nat.testBit_lt_two_pow hv']

theorem modStaged_canvas_self (s : State) (c : Nat) (f : CanvasCfg → CanvasCfg) :
    (modStaged s c f).canvas c = { s.canvas c with staged := f (s.canvas c).staged } := State.modCanvas_canvas_self ..

theorem modStaged_canvas_ne (s : State) {c j : Nat} (f : CanvasCfg → CanvasCfg) (h : j ≠ c) :
    (modStaged s c f).canvas j = s.canvas j := (State.modCanvas_canvas ..).trans (if_neg h)

theorem tileEntries_length (r : Req) : (tileEntries r).length = min (fld (r.word 0) 15 8) ((min r.len 511 - 1) / 2) := by
  simp [tileEntries]

/-- A CANVAS_TILES with entries stores those that its payload holds, in the order they stand there (R74, R318). -/
theorem canvasTilesBody_stores {s : State} {r : Req} (hcount : fld (r.word 0) 15 8 ≠ 0) :
    canvasTilesBody s r =
      { Ans.ok (modStaged s (reqCanvas r) fun y =>
          { y with tiles := (tileEntries r).foldl addPlacement (if bit (r.word 0) 16 then y.tiles else []) }) with
        trunc := decide ((tileEntries r).length < fld (r.word 0) 15 8) } := if_neg hcount

/-- The three words that a BLEND_TREE stores for a program of `n` bytes (R91). -/
def blendWords (r : Req) (n : Nat) : List Word := [(r.word 0 &&& ~~~(0xF#64 <<< 2)) ||| put n 4 2, r.word 1, r.word 2]

/-- A BLEND_TREE whose payload holds all the bytes it counts stores its words (R91). -/
theorem blendTreeBody_stores {s : State} {r : Req} (hcount : fld (r.word 0) 5 2 ≠ 0)
    (hfits : fld (r.word 0) 5 2 ≤ 8 * (min r.len 511 - 1)) :
    blendTreeBody s r =
      .ok (modStaged s (reqCanvas r) fun y => { y with blend := blendWords r (fld (r.word 0) 5 2) }) := by
  have hall : min (fld (r.word 0) 5 2) (8 * (min r.len 511 - 1)) = fld (r.word 0) 5 2 := min_eq_left hfits
  simp only [blendTreeBody, hcount, hall, lt_irrefl, decide_false]
  rfl

/-- The blend program that the stored words hold is the payload's bytes (R91). -/
theorem blendProg_blendWords (y : CanvasCfg) (r : Req) {n : Nat} (hn : n < 16) :
    ({ y with blend := blendWords r n } : CanvasCfg).blendProg =
      (List.range n).map fun i => fld (r.word (1 + i / 8)) (i % 8 * 8 + 7) (i % 8 * 8) := by
  have hcount : ({ y with blend := blendWords r n } : CanvasCfg).blendCount = n :=
    fld_replaced (r.word 0) (n := 4) (hi := 5) (lo := 2) rfl (by decide) rfl hn
  rw [CanvasCfg.blendProg, hcount]
  refine List.map_congr_left fun i hi => ?_
  have hword : wordAt (blendWords r n) (1 + i / 8) = r.word (1 + i / 8) := by
    have hi16 : i < n := List.mem_range.1 hi
    obtain h | h : i / 8 = 0 ∨ i / 8 = 1 := by omega
    all_goals rw [h]; rfl
  rw [CanvasCfg.blendByte, hword]

/-- Settles O16: each command is served, and its body's answer stores its words in one staged field. -/
theorem staging : Obligations.Staging := by
  intro r s s1 c n hc
  obtain rfl : c = reqCanvas r := hc
  refine ⟨?config, ?tiles, ?layer, ?blend, ?timing, ?scan⟩
  case config => exact fun hserved => congrArg Host.Outcome.next (jcs_ok hserved rfl (Nat.zero_le _))
  case layer => exact fun hserved => congrArg Host.Outcome.next (jcs_ok hserved rfl (Nat.zero_le _))
  case timing => exact fun hserved => congrArg Host.Outcome.next (jcs_ok hserved rfl (Nat.zero_le _))
  case scan => exact fun hserved => congrArg Host.Outcome.next (jcs_ok hserved rfl (Nat.zero_le _))
  case tiles =>
    intro hserved hcount hn l hl
    obtain rfl : l = tileEntries r := by rw [hl, hn, tileEntries]
    obtain rfl := hn.trans (tileEntries_length r).symm
    have hanswer := jcs_answered hserved (canvasTilesBody_stores hcount) (show 0 ≠ 1 by decide) (Nat.zero_le 511)
    exact congrArg Host.Outcome.next hanswer
  case blend =>
    intro hserved hcount hfits
    refine ⟨_, congrArg Host.Outcome.next (jcs_ok hserved (blendTreeBody_stores hcount hfits) (Nat.zero_le _)), ?_, ?_, fun j hj => ?_⟩
    · rw [modStaged_canvas_self]
      exact blendProg_blendWords _ r (fld_lt _ 5 2)
    · rw [modStaged_canvas_self]
    · exact modStaged_canvas_ne _ _ hj

end Sys2Proof.Machine

/-! ## LUT_LOAD, MESH_LOAD and TABLE_LOAD_COMPLETE (03) -/

namespace Sys2Proof.Machine

/-! ### Reading a table after a change -/

@[simp] theorem State.modTable_table_self (s : State) (t : TableId) (f : LutBanks → LutBanks) :
    (s.modTable t f).table t = f (s.table t) := by cases t <;> exact Tbl.get_modify_self ..

@[simp] theorem State.modTable_canvas (s : State) (t : TableId) (f : LutBanks → LutBanks) (c : Nat) :
    (s.modTable t f).canvas c = s.canvas c := by cases t <;> rfl

/-- What an operation on other parts of the state leaves of a table. -/
theorem State.table_of_frames {s t : State} (h : t.frames = s.frames) (x : TableId) : t.table x = s.table x := by
  unfold State.table
  rw [h]

/-! ### A load begins (R97, R310, R332) -/

/-- The end of a long command leaves the size of a function's reads. -/
theorem finishLong_maxRead (s : State) (who id status : Nat) (trunc : Bool) (f : Nat) :
    ((finishLong s who id status trunc).func f).maxRead = (s.func f).maxRead := by
  have hdone : ∀ g : Func → Func, (∀ x, (g x).maxRead = x.maxRead) →
      ((s.modFunc who g).func f).maxRead = (s.func f).maxRead := by
    intro g hg
    rw [State.modFunc_func]
    split
    · next h => rw [hg, h]
    · rfl
  unfold finishLong
  split
  · rfl
  · split
    · rfl
    · split
      · rfl
      · dsimp only
        split
        · exact hdone _ fun _ => rfl
        · rw [State.func_of_hub ((raise_does _ _ _ _ _ _).same.hub (by decide))]
          exact hdone _ fun _ => rfl

/-- The state in which the load that a new one of table `t` replaces has ended OK. -/
def loadReplaced (s : State) (t : TableId) : State :=
  match (s.table t).load with
  | some old => finishLong s old.src old.id 0
  | none => s

@[simp] theorem loadReplaced_table (s : State) (t x : TableId) : (loadReplaced s t).table x = s.table x := by
  unfold loadReplaced
  split
  · exact State.table_of_frames ((finishLong_does ..).same.frames (by decide)) x
  · rfl

@[simp] theorem loadReplaced_readSize (s : State) (t : TableId) (f : Nat) : (loadReplaced s t).readSize f = s.readSize f := by
  unfold loadReplaced
  split
  · rw [State.readSize, finishLong_maxRead, State.readSize]
  · rfl

/-- The bytes that a load of table `t` pulls: no more than the table holds (R318). -/
def loadLength (s : State) (r : Req) (t : TableId) : Nat := min (fld (r.word 2) 31 0) (tableSize s t)

/-- The load in flight that a load command of table `t` brings (R332). -/
def newLoad (s : State) (r : Req) (t : TableId) : LutLoad :=
  { src := r.who, id := s.nextLong r.who, addr := r.word 1, length := loadLength s r t,
    trunc := decide (tableSize s t < fld (r.word 2) 31 0) }

/-- The state in which a load of table `t` has begun: the inactive bank counts as loaded no longer (R97). -/
def loadBegun (s : State) (r : Req) (t : TableId) : State :=
  (readHost (loadReplaced s t) r.who (r.word 1) (loadLength s r t)).modTable t fun b =>
    { b with load := some (newLoad s r t), fresh := true, loaded0 := b.loaded0 && !b.active1, loaded1 := b.loaded1 && b.active1 }

theorem loadBegun_table (s : State) (r : Req) (t : TableId) : (loadBegun s r t).table t =
    { s.table t with load := some (newLoad s r t), fresh := true, loaded0 := (s.table t).loaded0 && !(s.table t).active1,
                     loaded1 := (s.table t).loaded1 && (s.table t).active1 } := by
  rw [loadBegun, State.modTable_table_self, State.table_of_frames ((readHost_does ..).same.frames (by decide)), loadReplaced_table]

/-- Every read of the load goes out (R310). -/
theorem mem_loadBegun_out (s : State) (r : Req) (t : TableId) {k : Nat}
    (hk : k < ceilDiv (loadLength s r t) (s.readSize r.who)) :
    Out.hostRead r.who (r.word 1 + BitVec.ofNat 64 (k * s.readSize r.who))
      (min (s.readSize r.who) (loadLength s r t - k * s.readSize r.who)) ∈ (loadBegun s r t).out := by
  have hreads := readHost_out (loadReplaced s t) r.who (r.word 1) (loadLength s r t)
  rw [loadReplaced_readSize] at hreads
  have hout : (loadBegun s r t).out = (readHost (loadReplaced s t) r.who (r.word 1) (loadLength s r t)).out :=
    (State.modTable_does ..).same.out (by decide)
  rw [hout, hreads]
  exact List.mem_append_left _ (List.mem_reverse.2 (List.mem_map.2 ⟨k, List.mem_range.2 hk, rfl⟩))

/-- A load of some bytes into a table that has a size and that no pending commit is to activate is accepted (R97, R318). -/
theorem tableLoad_accepted {s : State} {r : Req} {t : TableId} (hzero : fld (r.word 2) 31 0 ≠ 0)
    (hones : fld (r.word 2) 31 0 ≠ 0xFFFFFFFF) (hsize : tableSize s t ≠ 0) (hpending : tablePending s t = false) :
    tableLoad s r t =
      .accepted (loadBegun s r t) (decide (tableSize s t < fld (r.word 2) 31 0)) (some (tableCanvas s t)) := by
  simp only [tableLoad, hzero, hones, hsize, hpending]
  rfl

/-- A served long command whose body accepts it is recorded, cut where the body or the request's length cuts it. -/
theorem jcs_acceptedCut {op : JcsOp} {r : Req} {s s1 s2 : State} {body : State → Req → Ans} {trunc : Bool} {c : Option Nat}
    (h : Served op r s s1) (hb : body s1 r = .accepted s2 trunc c) :
    jcs op body r s = replied (startLong s2 r (trunc || cut r) c) r 1 (trunc || cut r) [] := by
  simp [jcs_served h, hb, giveAnswer, Ans.accepted, replied]

/-! ### A load ends (R95, R97, R310) -/

section LoadEnd
variable {s : State} {t : TableId} {l : LutLoad} (hload : (s.table t).load = some l) (hcp : s.hub.cpFailed = false)
  (hvotes : ∀ v ∈ s.dies.twin.votes, v.ended = true ∨ v.canvas ≠ tableCanvas s t)
include hvotes

/-- No vote holds the load up (R270). -/
theorem tableLoad_unheld : (s.dies.twin.votes.any fun v => !v.ended && decide (v.canvas = tableCanvas s t)) = false :=
  List.any_eq_false.2 fun v hv => by
    obtain h | h := hvotes v hv <;> simp [h]

include hload hcp

/-- A failed pull ends the load with TIMEOUT (R97). -/
theorem tableLoadComplete_failed : exec (.tableLoadComplete t .failed) s =
    .next (finishLong (s.modTable t fun b => { b with load := none }) l.src l.id 7) := by
  simp only [exec, execTableLoadComplete, hload, hcp, tableLoad_unheld hvotes]
  rfl

/-- The bytes pulled are the contents of the inactive bank, unless a mesh point is out of range (R95, R97). -/
theorem tableLoadComplete_loaded {bytes : List Byte} (hrange : (∀ c, t ≠ .mesh c) ∨ meshInRange (bytes.take l.length) = true) :
    exec (.tableLoadComplete t (.data bytes)) s =
      .next (finishLong ((s.modTable t fun b => { b with load := none }).modTable t fun b =>
        if b.active1 then { b with bank0 := memWrite b.bank0 0 (bytes.take l.length), loaded0 := true }
        else { b with bank1 := memWrite b.bank1 0 (bytes.take l.length), loaded1 := true }) l.src l.id 0) := by
  simp only [exec, execTableLoadComplete, hload, hcp, tableLoad_unheld hvotes]
  cases t with
  | inLut => rfl
  | outLut => rfl
  | mesh c =>
    rw [hrange.resolve_left fun h => h c rfl]
    rfl

/-- A mesh point out of range ends the load with BADPARAM (R95). -/
theorem tableLoadComplete_outOfRange {c : Nat} {bytes : List Byte} (hmesh : t = .mesh c)
    (hrange : meshInRange (bytes.take l.length) = false) : exec (.tableLoadComplete t (.data bytes)) s =
      .next (finishLong (s.modTable t fun b => { b with load := none }) l.src l.id 4) := by
  simp only [exec, execTableLoadComplete, hload, hcp, tableLoad_unheld hvotes]
  subst hmesh
  rw [hrange]
  rfl

end LoadEnd

/-- Settles O17: a load command is accepted with its reads sent, and a load that ends writes what its pull brought. -/
theorem tableLoads : Obligations.TableLoads := by
  refine ⟨?begins, fun s t l bytes hload hcp hvotes => ⟨?failed, ?loaded, ?outOfRange⟩⟩
  case failed => exact tableLoadComplete_failed hload hcp hvotes
  case loaded => exact tableLoadComplete_loaded hload hcp hvotes
  case outOfRange => exact fun c => tableLoadComplete_outOfRange hload hcp hvotes
  case begins =>
    rintro r s s1 t n size i hcommand rfl rfl hzero hones hsize hpending
    have hbody := tableLoad_accepted hzero hones hsize hpending
    have htable := loadBegun_table s1 r t
    refine ⟨loadBegun s1 r t, ?answer, fun k hk => mem_loadBegun_out s1 r t hk, ?bank⟩
    case answer =>
      obtain ⟨hserved, rfl, rfl⟩ | ⟨hserved, rfl, rfl⟩ := hcommand
      · exact congrArg Host.Outcome.next (jcs_acceptedCut (body := lutLoadBody) hserved hbody)
      · exact congrArg Host.Outcome.next (jcs_acceptedCut (body := meshLoadBody) hserved hbody)
    case bank =>
      rw [htable]
      exact ⟨rfl, rfl, rfl, rfl, rfl, rfl⟩

end Sys2Proof.Machine

/-! ## CANVAS_COMMIT (03) -/

namespace Sys2Proof.Machine

/-! ### What an accepted commit leaves of a canvas (R97, R99, R222) -/

theorem State.canvas_of_frames {s t : State} (h : t.frames = s.frames) (c : Nat) : t.canvas c = s.canvas c := by
  rw [State.canvas, h, State.canvas]

@[simp] theorem dueTables_canvas (s : State) (c : Nat) (change : Bool) (j : Nat) : (dueTables s c change).canvas j = s.canvas j :=
  State.each_keeps (fun s => s.canvas j) _ _ fun s t => State.modTable_canvas s t _ j

@[simp] theorem startTxn_canvas (s : State) (kind : TxnKind) (canvas : Option Nat) (src : Nat) (id : Option Nat) (tiles : List Nat)
    (data : List (Nat × Nat × List Word)) (frame applyTime j : Nat) :
    (startTxn s kind canvas src id tiles data frame applyTime).canvas j = s.canvas j :=
  State.canvas_of_frames ((startTxn_does ..).same.frames (by decide)) j

/-- An accepted commit is pending on its canvas, which is otherwise as it was (R99). -/
theorem acceptCommit_canvas (s : State) (c : Nat) (cfg : CanvasCfg) (n : Nat) :
    (acceptCommit s c cfg n).canvas c = { s.canvas c with pending := some ⟨n, cfg⟩ } := by
  have hpending : ((dueTables s c false).modCanvas c fun x => { x with pending := some ⟨n, cfg⟩ }).canvas c =
      { s.canvas c with pending := some ⟨n, cfg⟩ } := by rw [State.modCanvas_canvas_self, dueTables_canvas]
  unfold acceptCommit
  dsimp only
  split
  · exact hpending
  · split
    · exact hpending
    · rw [startTxn_canvas, hpending]

/-- The timing change that CANVAS_COMMIT starts when no step of wall time is pending (R222). -/
def newChange (s : State) (c : Nat) (cfg : CanvasCfg) (src id : Nat) : TimingChange :=
  { src := src, id := id, m := (s.canvas c).firstFrame (s.reqTime + 10000000) - 1, cfg := cfg }

/-- A timing change that starts is in progress on its canvas, which is otherwise as it was but for its report (R222). -/
theorem startChange_canvas {s : State} (hstep : s.time.step = none) (c : Nat) (cfg : CanvasCfg) (src id : Nat) :
    (startChange s c cfg src id).canvas c =
      { s.canvas c with change := some (newChange s c cfg src id), chStatus := 1, chFailed := [] } := by
  have hafter : s.afterStep c s.reqTime = (s.canvas c, s.reqTime) := by simp only [State.afterStep, hstep]
  unfold startChange
  simp only [hafter, hstep, newChange]
  split
  · rw [State.modCanvas_canvas_self]; simp
  · rw [startTxn_canvas, State.modCanvas_canvas_self]; simp

/-! ### The checks of R101 -/

/-- What an outcome of the checks refuses with: a status other than ACCEPTED and a payload that a response holds. -/
def Refuses (o : Option (Nat × List Word)) : Prop := ∀ x, o = some x → x.1 ≠ 1 ∧ x.2.length ≤ 511

theorem Refuses.check {p : Prop} [Decidable p] {x : Nat × List Word} {rest : Option (Nat × List Word)}
    (hx : x.1 ≠ 1 ∧ x.2.length ≤ 511) (hrest : Refuses rest) : Refuses (if p then some x else rest) := by
  intro y hy
  split at hy
  · cases hy
    exact hx
  · exact hrest y hy

/-- Every check of R101 that fails refuses, the stripes' with one word and the others with none. -/
theorem commitFails_refuses (s : State) (c : Nat) (cfg : CanvasCfg) : Refuses (commitFails s c cfg) := by
  unfold commitFails
  dsimp only
  repeat refine .check (by simp) ?_
  exact fun x hx => nomatch hx

/-! ### The body by its cases -/

/-- The commit that `r` brings is a timing change of a running canvas (R222). -/
def commitsChange (s : State) (r : Req) : Bool :=
  (s.canvas (reqCanvas r)).running && isTimingChange (s.canvas (reqCanvas r)).committed (stagedCfg s (reqCanvas r))

/-- The frame for which an ordinary commit is accepted (R99). -/
def commitFrame (s : State) (r : Req) : Nat :=
  if (s.canvas (reqCanvas r)).running then (s.canvas (reqCanvas r)).firstFrame (s.reqTime + 1000000)
  else (stagedCfg s (reqCanvas r)).startFrame (s.reqTime + 1000000)

section CommitBody
variable {s : State} {r : Req} (hpower : s.clocks.power = .run)
include hpower

/-- While a timing change is in progress every commit gives BUSY, whether or not its sender has room for a long command. -/
theorem canvasCommitBody_changing (hchange : (s.canvas (reqCanvas r)).change.isSome = true) :
    canvasCommitBody s r = .busy s := by
  simp [canvasCommitBody, hpower, hchange]

variable (hidle : (s.canvas (reqCanvas r)).change = none)
include hidle

/-- The first check that fails answers an ordinary commit, with no effect (R101). -/
theorem canvasCommitBody_fails {status : Nat} {words : List Word} (hkind : commitsChange s r = false)
    (hfails : commitFails s (reqCanvas r) (stagedCfg s (reqCanvas r)) = some (status, words)) :
    canvasCommitBody s r = { status := status, state := s, payload := words } := by
  rw [commitsChange] at hkind
  simp [canvasCommitBody, hkind, hpower, hidle, hfails]

variable (hpasses : commitFails s (reqCanvas r) (stagedCfg s (reqCanvas r)) = none)
include hpasses

/-- An ordinary commit that passes the checks answers its frame, and is accepted for it without CHECK (R99, R313). -/
theorem canvasCommitBody_ordinary (hkind : commitsChange s r = false) : canvasCommitBody s r =
    if r.check then .ok s [put (commitFrame s r) 48 0]
    else .ok (acceptCommit s (reqCanvas r) (stagedCfg s (reqCanvas r)) (commitFrame s r)) [put (commitFrame s r) 48 0] := by
  rw [commitsChange] at hkind
  simp [canvasCommitBody, hkind, hpower, hidle, hpasses, commitFrame]

/-- No timing change begins in steps 1 to 4 of a change of microcode (R518). -/
theorem canvasCommitBody_mcMoves (hkind : commitsChange s r = true) (hmc : s.mcMoves = true) :
    canvasCommitBody s r = .busy s := by
  rw [commitsChange] at hkind
  simp [canvasCommitBody, hkind, hpower, hidle, hpasses, hmc]

/-- A timing change whose sender has room and whose tiles are in no transaction starts (R222, R321). -/
theorem canvasCommitBody_change (hkind : commitsChange s r = true) (hroom : inFlight (s.func r.who) < 16)
    (hmc : s.mcMoves = false) (htiles : ∀ t ∈ (stagedCfg s (reqCanvas r)).tileIds, s.txnOn t = none) (hcheck : r.check = false) :
    canvasCommitBody s r = .accepted
      (startChange s (reqCanvas r) (stagedCfg s (reqCanvas r)) r.who (s.nextLong r.who)) false (some (reqCanvas r)) := by
  have hfree : ((stagedCfg s (reqCanvas r)).tileIds.any fun t => (s.txnOn t).isSome) = false :=
    List.any_eq_false.2 fun t ht => by simp [htiles t ht]
  rw [commitsChange] at hkind
  simp [canvasCommitBody, hkind, hpower, hidle, hpasses, hmc, hfree, hcheck, hroom.not_ge]

end CommitBody

/-- Settles O18: the body's cases are the rule's, and the laws of the two ways to accept a commit say what stands on the canvas. -/
theorem canvasCommit : Obligations.CanvasCommit := by
  intro r s s1 c cfg hserved hc hcfg hpower
  obtain rfl : c = reqCanvas r := hc
  subst hcfg
  refine ⟨?changing, fun hidle hkind => ⟨?fails, fun hpasses n hn => ⟨?check, ?accepted⟩⟩, ?mcMoves, ?change⟩
  case changing =>
    intro hchange
    have hanswer := jcs_answered hserved (canvasCommitBody_changing hpower hchange) (show 2 ≠ 1 by decide) (Nat.zero_le 511)
    exact congrArg Host.Outcome.next hanswer
  case fails =>
    intro status words hfails
    obtain ⟨hstatus, hwords⟩ := commitFails_refuses _ _ _ _ hfails
    have hbody := canvasCommitBody_fails hpower hidle (by simpa [commitsChange] using hkind) hfails
    have hanswer := jcs_answered hserved hbody hstatus hwords
    exact congrArg Host.Outcome.next hanswer
  case check =>
    intro hcheck
    have hbody := canvasCommitBody_ordinary hpower hidle hpasses (by simpa [commitsChange] using hkind)
    rw [if_pos hcheck] at hbody
    subst hn
    exact congrArg Host.Outcome.next (jcs_ok hserved hbody (by simp))
  case accepted =>
    intro hcheck
    have hbody := canvasCommitBody_ordinary hpower hidle hpasses (by simpa [commitsChange] using hkind)
    rw [if_neg (ne_true_of_eq_false hcheck)] at hbody
    subst hn
    refine ⟨_, congrArg Host.Outcome.next (jcs_ok hserved hbody (by simp)), ?_, ?_⟩
    all_goals rw [acceptCommit_canvas]
    rfl
  case mcMoves =>
    intro hidle hrunning htiming hpasses hmc
    have hbody := canvasCommitBody_mcMoves hpower hidle hpasses (by simp [commitsChange, hrunning, htiming]) hmc
    have hanswer := jcs_answered hserved hbody (show 2 ≠ 1 by decide) (Nat.zero_le 511)
    exact congrArg Host.Outcome.next hanswer
  case change =>
    intro hidle hrunning htiming hpasses hcheck hroom hstep hmc htiles
    have hbody := canvasCommitBody_change hpower hidle hpasses (by simp [commitsChange, hrunning, htiming]) hroom hmc htiles hcheck
    have hcanvas := startChange_canvas hstep (reqCanvas r) (stagedCfg s1 (reqCanvas r)) r.who (s1.nextLong r.who)
    refine ⟨_, newChange s1 (reqCanvas r) (stagedCfg s1 (reqCanvas r)) r.who (s1.nextLong r.who),
      congrArg Host.Outcome.next (jcs_accepted hserved hbody), ?_, rfl, rfl, rfl, rfl, ?_⟩
    all_goals exact hcanvas ▸ rfl

end Sys2Proof.Machine

/-! ## Correction banks: what operations change and leave of a tile (04) -/

namespace Sys2Proof.Machine

/-! ### Reading a tile's correction state after a change -/

/-- What an operation on other parts of the state leaves of a tile's correction. -/
theorem State.corr_of_frames {s t : State} (h : t.frames = s.frames) (k : Nat) : t.corr k = s.corr k := by
  rw [State.corr, h, State.corr]

theorem State.modCorr_corr_ne (s : State) {t k : Nat} (g : Corr → Corr) (h : k ≠ t) : (s.modCorr t g).corr k = s.corr k := by
  rw [State.modCorr_corr, if_neg h]

@[simp] theorem State.modCanvas_corr (s : State) (c : Nat) (g : Canvas → Canvas) (t : Nat) : (s.modCanvas c g).corr t = s.corr t := rfl

@[simp] theorem raise_corr (s : State) (src code : Nat) (data : Word) (frame t : Nat) :
    (raise s src code data frame).corr t = s.corr t := State.corr_of_frames (raise_frames ..) t

@[simp] theorem finishOrdered_corr (s : State) (g k : Nat) (w : Desc) (t : Nat) : (finishOrdered s g k w).corr t = s.corr t :=
  State.corr_of_frames (finishOrdered_frames ..) t

@[simp] theorem readHost_corr (s : State) (f : Nat) (addr : Word) (n t : Nat) : (readHost s f addr n).corr t = s.corr t :=
  State.corr_of_frames ((readHost_does s f addr n).same.frames (by decide)) t

@[simp] theorem markRegion_corr (s : State) (c k r n t : Nat) : (markRegion s c k r n).corr t = s.corr t := rfl

@[simp] theorem markTile_corr (s : State) (k t : Nat) : (markTile s k).corr t = s.corr t := by
  unfold markTile
  split
  · rfl
  · rfl

/-! ### The banks of a tile in the two dies (R121, R122) -/

namespace Corr
variable (x : Corr) (d e : DieId)

theorem modSide_side (f : CorrSide → CorrSide) : (x.modSide d f).side e = if e = d then f (x.side d) else x.side e := by
  cases d <;> cases e <;> rfl

@[simp] theorem modSide_active1 (f : CorrSide → CorrSide) : (x.modSide d f).active1 = x.active1 := by cases d <;> rfl
@[simp] theorem modSide_state (f : CorrSide → CorrSide) : (x.modSide d f).state = x.state := by cases d <;> rfl
@[simp] theorem modSide_loads (f : CorrSide → CorrSide) : (x.modSide d f).loads = x.loads := by cases d <;> rfl

@[simp] theorem modIdle_active1 (f : CorrBank → CorrBank) : (x.modIdle d f).active1 = x.active1 := modSide_active1 ..
@[simp] theorem modIdle_state (f : CorrBank → CorrBank) : (x.modIdle d f).state = x.state := modSide_state ..
@[simp] theorem modIdle_loads (f : CorrBank → CorrBank) : (x.modIdle d f).loads = x.loads := modSide_loads ..

/-- A change of an inactive bank leaves every active one (R122). -/
@[simp] theorem modIdle_active (f : CorrBank → CorrBank) : (x.modIdle d f).active e = x.active e := by
  rw [active, modIdle_active1, modIdle, modSide_side, active]
  by_cases h : e = d
  · subst h
    rw [if_pos rfl]
    cases x.active1 <;> rfl
  · rw [if_neg h]

theorem modIdle_idle (f : CorrBank → CorrBank) : (x.modIdle d f).idle e = if e = d then f (x.idle d) else x.idle e := by
  rw [idle, modIdle_active1, modIdle, modSide_side]
  by_cases h : e = d
  · subst h
    rw [if_pos rfl, if_pos rfl, idle]
    cases x.active1 <;> rfl
  · rw [if_neg h, if_neg h, idle]

/-- The tile once a line of die `d`'s active bank is written again from `src`, and no longer poisoned (R129). -/
def repaired (src : CorrBank) (line : Nat) : Corr :=
  (x.modActive d fun b => repairLine b src line).modSide d fun z => { z with poison := z.poison.filter fun k => k ≠ line }

theorem repaired_side_self (src : CorrBank) (line : Nat) : (x.repaired d src line).side d =
    { (if x.active1 then { x.side d with bank1 := repairLine (x.side d).bank1 src line }
        else { x.side d with bank0 := repairLine (x.side d).bank0 src line }) with
      poison := (x.side d).poison.filter fun k => k ≠ line } := by
  rw [repaired, modActive, modSide_side, if_pos rfl, modSide_side, if_pos rfl]
  cases x.active1 <;> rfl

theorem repaired_active (src : CorrBank) (line : Nat) : (x.repaired d src line).active d = repairLine (x.active d) src line := by
  have hactive1 : (x.repaired d src line).active1 = x.active1 := (modSide_active1 ..).trans (modSide_active1 ..)
  rw [active, hactive1, repaired_side_self, active]
  cases x.active1 <;> rfl

theorem repaired_poison (src : CorrBank) (line : Nat) : line ∉ (x.repaired d src line).poison d := by
  simp [poison, repaired_side_self]

theorem repaired_side_ne {d e : DieId} (h : e ≠ d) (src : CorrBank) (line : Nat) : (x.repaired d src line).side e = x.side e := by
  rw [repaired, modSide_side, if_neg h, modActive, modSide_side, if_neg h]

end Corr

/-! ### Changes of a tile's inactive banks in several dies -/

theorem corrDies_nodup (s : State) (t : Nat) : (corrDies s t).Nodup := .filter _ (by decide)

/-- Where one tile's inactive bank is changed by `f` in each die of `l`, those banks alone are changed. -/
theorem each_modIdle_idle {l : List DieId} (hl : l.Nodup) (s : State) (t : Nat) (f : CorrBank → CorrBank) (e : DieId) :
    ((s.each l fun s d => s.modCorr t fun y => y.modIdle d f).corr t).idle e =
      if e ∈ l then f ((s.corr t).idle e) else (s.corr t).idle e := by
  induction l generalizing s with
  | nil => rfl
  | cons d l ih =>
    obtain ⟨hd, hl⟩ := List.nodup_cons.1 hl
    rw [State.each, List.foldl_cons, ← State.each, ih hl, State.modCorr_corr_self, Corr.modIdle_idle]
    by_cases h : e = d
    · subst h
      rw [if_neg hd, if_pos rfl, if_pos List.mem_cons_self]
    · simp [h]

/-! ### Changes of several tiles -/

section Tiles
variable {f : State → Nat → State} (hf : ∀ s t u, u ≠ t → (f s t).corr u = s.corr u)
include hf

/-- A run over tiles that changes each tile alone leaves the others. -/
theorem each_corr_of_not_mem {l : List Nat} {t : Nat} (h : t ∉ l) (s : State) : (s.each l f).corr t = s.corr t := by
  induction l generalizing s with
  | nil => rfl
  | cons a l ih =>
    rw [List.mem_cons, not_or] at h
    rw [State.each, List.foldl_cons, ← State.each, ih h.2, hf _ _ _ h.1]

/-- A run over tiles that changes each tile alone leaves a tile of the list as its last change does, which is the only one in a
list without repetitions. -/
theorem each_corr_of_mem {l : List Nat} {t : Nat} (h : t ∈ l) (s : State) :
    ∃ u, (s.each l f).corr t = (f u t).corr t ∧ (l.Nodup → u.corr t = s.corr t) := by
  induction l generalizing s with
  | nil => cases h
  | cons a l ih =>
    rw [State.each, List.foldl_cons, ← State.each]
    by_cases hl : t ∈ l
    · obtain ⟨u, hu, honce⟩ := ih hl (f s a)
      refine ⟨u, hu, fun hnodup => ?_⟩
      obtain ⟨ha, hnodup⟩ := List.nodup_cons.1 hnodup
      rw [honce hnodup, hf _ _ _ (ne_of_mem_of_not_mem hl ha)]
    · obtain rfl := (List.mem_cons.1 h).resolve_right hl
      exact ⟨s, each_corr_of_not_mem hf hl _, fun _ => rfl⟩

end Tiles

end Sys2Proof.Machine

/-! ## RECORDS, TILE_BLOCK and CORRECTION_LOAD_DONE (04) -/

namespace Sys2Proof.Machine

/-! ### A load begins (R122 to R124) -/

/-- The state in which tile `t` is STAGING; a CLEAN one begins with copies of its active banks (R122). -/
def corrStaged (s : State) (t : Nat) : State :=
  (if (s.corr t).state = .clean then s.each (corrDies s t) fun s e => s.modCorr t fun y => y.modIdle e fun _ => y.active e
    else s).modCorr t fun y => { y with state := .staging }

/-- What the copies of the active banks keep of the state, a tile keeps that begins to be staged. -/
theorem corrStaged_keeps {β : Type} (p : State → β) (t : Nat)
    (hcopy : ∀ s e, p (s.modCorr t fun y => y.modIdle e fun _ => y.active e) = p s)
    (hstate : ∀ s, p (s.modCorr t fun y => { y with state := .staging }) = p s) (s : State) : p (corrStaged s t) = p s := by
  rw [corrStaged, hstate]
  split
  · exact State.each_keeps p _ _ hcopy
  · rfl

@[simp] theorem corrStaged_state (s : State) (t : Nat) : ((corrStaged s t).corr t).state = .staging := by
  rw [corrStaged, State.modCorr_corr_self]

@[simp] theorem corrStaged_active (s : State) (t : Nat) (e : DieId) : ((corrStaged s t).corr t).active e = (s.corr t).active e :=
  corrStaged_keeps (fun s => (s.corr t).active e) t (by simp) (fun s => by rw [State.modCorr_corr_self]; rfl) s

@[simp] theorem corrStaged_loads (s : State) (t : Nat) : ((corrStaged s t).corr t).loads = (s.corr t).loads :=
  corrStaged_keeps (fun s => (s.corr t).loads) t (by simp) (by simp) s

@[simp] theorem corrStaged_hub (s : State) (t : Nat) : (corrStaged s t).hub = s.hub :=
  corrStaged_keeps State.hub t (fun _ _ => rfl) (fun _ => rfl) s

@[simp] theorem corrStaged_out (s : State) (t : Nat) : (corrStaged s t).out = s.out :=
  corrStaged_keeps State.out t (fun _ _ => rfl) (fun _ => rfl) s

/-- The load that descriptor `d` of ring `g` with ticket `k` brings, cut at the end of the array or block (R124). -/
def corrLoadOf (g k : Nat) (d : Desc) (records : Bool) (x : CanvasCfg × Placement) : CorrLoad :=
  ⟨g, k, d, min (corrLen d) (corrRoom records x - corrOff d), decide (corrRoom records x - corrOff d < corrLen d), x.1.recSize,
    corrRoom true x⟩

/-- The state in which a load has begun: its tile is STAGING, its reads are sent, and it waits for them (R122, R310). -/
def corrLoadBegun (s : State) (g k : Nat) (d : Desc) (records : Bool) (x : CanvasCfg × Placement) : State :=
  (readHost (corrStaged s (corrTile d)) (s.ring g).owner d.w1 (corrLoadOf g k d records x).len).modCorr (corrTile d) fun y =>
    { y with loads := y.loads ++ [corrLoadOf g k d records x] }

theorem corrLoadBegun_corr (s : State) (g k : Nat) (d : Desc) (records : Bool) (x : CanvasCfg × Placement) :
    (corrLoadBegun s g k d records x).corr (corrTile d) = { (corrStaged s (corrTile d)).corr (corrTile d) with
      loads := (s.corr (corrTile d)).loads ++ [corrLoadOf g k d records x] } := by
  rw [corrLoadBegun, State.modCorr_corr_self, readHost_corr, corrStaged_loads]

/-- The reads of a load leave in the order of their addresses (R310). -/
theorem corrLoadBegun_out (s : State) (g k : Nat) (d : Desc) (records : Bool) (x : CanvasCfg × Placement) :
    (corrLoadBegun s g k d records x).out =
      ((List.range (ceilDiv (corrLoadOf g k d records x).len (s.readSize (s.ring g).owner))).map fun i =>
        Out.hostRead (s.ring g).owner (d.w1 + BitVec.ofNat 64 (i * s.readSize (s.ring g).owner))
          (min (s.readSize (s.ring g).owner) ((corrLoadOf g k d records x).len - i * s.readSize (s.ring g).owner))).reverse ++
        s.out := by
  have hsize : (corrStaged s (corrTile d)).readSize (s.ring g).owner = s.readSize (s.ring g).owner := by
    rw [State.readSize, State.func_of_hub (corrStaged_hub ..), State.readSize]
  rw [corrLoadBegun, State.modCorr_out, readHost_out, hsize, corrStaged_out]

section Descriptor
variable {s s1 : State} {g k : Nat} {d : Desc} {records : Bool} (hcode : fld d.w0 7 0 = if records then 0x10 else 0x11)
  (htype : (s.ring g).type = 2) (hcp : s.hub.cpFailed = false) (hneeded : bankNeeded s (corrTile d) = false)
  (ht : takeOrdered s g d = some (s1, k))
include hcode htype hcp hneeded ht

/-- A load into a tile of another partition completes at once, and counts one violation (R123, R351). -/
theorem corrDescriptor_foreign (ho : s1.owns (s1.ring g).owner 4 (corrTile d) = false) : corrDescriptor s g d records =
    finishOrdered (violate s1 (s1.ring g).owner) g k (corrCompletion (violate s1 (s1.ring g).owner) d 0 false 0) := by
  simp [corrDescriptor, hcode, htype, hcp, hneeded, ht, ho]

variable {x : CanvasCfg × Placement} (ho : s1.owns (s1.ring g).owner 4 (corrTile d) = true) (h0 : corrLen d ≠ 0)
  (hmax : corrLen d ≠ 0xFFFFFFFF) (hcfg : corrCfg s1 (corrTile d) = some x)
include ho h0 hmax hcfg

/-- A load into a tile whose switch is pending gives BUSY (R122). -/
theorem corrDescriptor_pending {c f : Nat} (hst : (s1.corr (corrTile d)).state = .pending c f) :
    corrDescriptor s g d records = finishOrdered s1 g k (corrCompletion s1 d 2 false 0) := by
  simp [corrDescriptor, hcode, htype, hcp, hneeded, ht, ho, h0, hmax, hcfg, hst]

/-- An aligned load of some bytes into an array or block with room begins (R124). -/
theorem corrDescriptor_begins (hst : ∀ c f, (s1.corr (corrTile d)).state ≠ .pending c f)
    (hoff : corrOff d % (if records then x.1.recSize else 2) = 0) (hlen : corrLen d % (if records then x.1.recSize else 2) = 0)
    (hroom : corrOff d < corrRoom records x) : corrDescriptor s g d records = corrLoadBegun s1 g k d records x := by
  have hsome : min (corrLen d) (corrRoom records x - corrOff d) ≠ 0 := by omega
  simp only [corrDescriptor, hcode, htype, hcp, hneeded, ht, ho, h0, hmax, hcfg, hoff, hlen, hsome]
  cases hstate : (s1.corr (corrTile d)).state with
  | pending c f => exact absurd hstate (hst c f)
  | clean => simp [corrLoadBegun, corrStaged, hstate, corrLoadOf, State.each]
  | staging => simp [corrLoadBegun, corrStaged, hstate, corrLoadOf]

end Descriptor

/-! ### A load ends (R121, R122, R124, R310) -/

theorem landLoad_keeps {β : Type} (p : Corr → β) (hp : ∀ x d f, p (x.modIdle d f) = p x) (s : State) (t : Nat) (l : CorrLoad)
    (bytes : List Byte) : p ((landLoad s t l bytes).corr t) = p (s.corr t) :=
  State.each_keeps (fun s => p (s.corr t)) (corrDies s t) _ fun s d => by rw [State.modCorr_corr_self, hp]

/-- A load lands in the inactive bank of the dies that hold the tile, and in no other (R121). -/
theorem landLoad_idle (s : State) (t : Nat) (l : CorrLoad) (bytes : List Byte) (e : DieId) :
    ((landLoad s t l bytes).corr t).idle e = if e ∈ corrDies s t then
      corrWrite ((s.corr t).idle e) (fld l.desc.w0 7 0 = 0x10) l.recSize l.arrSize (corrOff l.desc) (bytes.take l.len)
      else (s.corr t).idle e :=
  each_modIdle_idle (corrDies_nodup s t) s t _ e

section LoadDone
variable {s : State} {t : Nat} {l : CorrLoad} {rest : List CorrLoad} (hloads : (s.corr t).loads = l :: rest)
  (hneeded : bankNeeded s t = false) (hcp : s.hub.cpFailed = false)
include hloads hneeded hcp

/-- The oldest load of a STAGING tile lands (R124). -/
theorem correctionLoadDone_lands (bytes : List Byte) (hst : (s.corr t).state = .staging) :
    ∃ w, exec (.correctionLoadDone t (.data bytes)) s =
      .next (finishOrdered (landLoad (s.modCorr t fun x => { x with loads := rest }) t l bytes) l.ring l.ticket w) := by
  simp [exec, execCorrectionLoadDone, hloads, hneeded, hcp, hst]

/-- A load whose read failed is gone without a write (R310). -/
theorem correctionLoadDone_fails : ∃ w, exec (.correctionLoadDone t .failed) s =
    .next (finishOrdered (s.modCorr t fun x => { x with loads := rest }) l.ring l.ticket w) := by
  simp [exec, execCorrectionLoadDone, hloads, hneeded, hcp]

end LoadDone

/-- Settles O24: a descriptor is the branch of R124 that the state selects, and the laws of the banks say what a load that begins or
ends leaves of them. -/
theorem correctionLoads : Obligations.CorrectionLoads := by
  refine ⟨?begins, fun s t l rest bytes hloads hneeded hcp => ⟨?lands, ?fails⟩⟩
  case begins =>
    rintro s s1 g k t n d records x i hi hcode htype hcp rfl hneeded rfl ht
    have hexec : exec i s = .next (corrDescriptor s g d records) := by
      obtain ⟨rfl, rfl⟩ | ⟨rfl, rfl⟩ := hi
      · rfl
      · rfl
    rw [hexec]
    refine ⟨fun ho => ?_, fun ho h0 hmax hcfg => ⟨fun c f hst => ?_, fun hst hoff hlen hroom => ?_⟩⟩
    · exact congrArg Host.Outcome.next (corrDescriptor_foreign hcode htype hcp hneeded ht ho)
    · exact congrArg Host.Outcome.next (corrDescriptor_pending hcode htype hcp hneeded ht ho h0 hmax hcfg hst)
    · refine ⟨_, congrArg Host.Outcome.next
        (corrDescriptor_begins hcode htype hcp hneeded ht ho h0 hmax hcfg hst hoff hlen hroom), ?_, fun e => ?_, ?_,
        corrLoadBegun_out ..⟩
      all_goals rw [show fld d.w0 24 16 = corrTile d from rfl, corrLoadBegun_corr]
      · exact corrStaged_state ..
      · exact corrStaged_active ..
      · rfl
  case lands =>
    intro hst
    obtain ⟨w, hw⟩ := correctionLoadDone_lands hloads hneeded hcp bytes hst
    refine ⟨_, hw, ?_, fun e => ?_, fun e he => ?_, fun e he => ?_⟩
    all_goals rw [finishOrdered_corr]
    · rw [landLoad_keeps Corr.loads fun _ _ _ => Corr.modIdle_loads .., State.modCorr_corr_self]
    · rw [landLoad_keeps (Corr.active · e) fun _ _ _ => Corr.modIdle_active .., State.modCorr_corr_self]
      rfl
    · rw [landLoad_idle, State.modCorr_corr_self]
      exact if_pos he
    · rw [landLoad_idle, State.modCorr_corr_self]
      exact if_neg he
  case fails =>
    obtain ⟨w, hw⟩ := correctionLoadDone_fails hloads hneeded hcp
    refine ⟨_, hw, ?_, fun e => ?_⟩
    all_goals rw [finishOrdered_corr, State.modCorr_corr_self]
    exact ⟨rfl, rfl⟩

end Sys2Proof.Machine

/-! ## CORR_COMMIT, the correction probe, RECORD_REPAIR and HASH_RECOMPUTE (04) -/

namespace Sys2Proof.Machine

/-! ### A switch of banks (R122) -/

@[simp] theorem switchBank_corr_self (s : State) (t n : Nat) : (switchBank s t n).corr t =
    { s.corr t with
      active1 := !(s.corr t).active1, state := .clean, since := n, hvalid := false, master := (s.corr t).idle (corrDie s t),
      mismatch := false, sideA := { (s.corr t).sideA with poison := [] }, sideB := { (s.corr t).sideB with poison := [] } } := by
  rw [switchBank, markTile_corr, State.modCorr_corr_self]

theorem switchBank_corr_ne (s : State) (t n k : Nat) (h : k ≠ t) : (switchBank s t n).corr k = s.corr k := by
  rw [switchBank, markTile_corr, State.modCorr_corr_ne s _ h]

/-- Tiles whose state alone is set have it, and the other tiles are left. -/
theorem each_setState (s : State) (l : List Nat) (st : CorrState) :
    (∀ t ∈ l, ((s.each l fun u t => u.modCorr t fun x => { x with state := st }).corr t).state = st) ∧
      ∀ t, t ∉ l → (s.each l fun u t => u.modCorr t fun x => { x with state := st }).corr t = s.corr t := by
  have hother : ∀ (u : State) t k, k ≠ t → (u.modCorr t fun x => { x with state := st }).corr k = u.corr k :=
    fun u _ _ h => u.modCorr_corr_ne _ h
  refine ⟨fun t ht => ?_, fun t ht => each_corr_of_not_mem hother ht s⟩
  obtain ⟨u, hu, -⟩ := each_corr_of_mem hother ht s
  rw [hu, State.modCorr_corr_self]

/-- Tiles whose banks switch for frame `n` are CLEAN since then, on their other bank where each stands once in the list; the other
tiles are left. -/
theorem each_switchBank (s : State) (l : List Nat) (n : Nat) :
    (∀ t ∈ l, ((s.each l fun u t => switchBank u t n).corr t).state = .clean ∧
        ((s.each l fun u t => switchBank u t n).corr t).since = n) ∧
      (l.Nodup → ∀ t ∈ l, ((s.each l fun u t => switchBank u t n).corr t).active1 = !(s.corr t).active1) ∧
      ∀ t, t ∉ l → (s.each l fun u t => switchBank u t n).corr t = s.corr t := by
  have hother : ∀ u t k, k ≠ t → (switchBank u t n).corr k = u.corr k := fun u t k => switchBank_corr_ne u t n k
  refine ⟨fun t ht => ?_, fun hnodup t ht => ?_, fun t ht => each_corr_of_not_mem hother ht s⟩
  all_goals
    obtain ⟨u, hu, honce⟩ := each_corr_of_mem hother ht s
    rw [hu, switchBank_corr_self]
  · exact ⟨rfl, rfl⟩
  · rw [honce hnodup]

/-! ### CORR_COMMIT (R122, R126, R127) -/

/-- The frame at which the switches of a CORR_COMMIT on a running canvas land (R127, R225). -/
def corrFrame (s : State) (r : Req) : Nat := (s.canvas (reqCanvas r)).landing (s.reqTime + 1000000)

/-- The configuration whose tiles a CORR_COMMIT takes (R127). -/
def corrCommitCfg (s : State) (r : Req) : CanvasCfg :=
  if (s.canvas (reqCanvas r)).running then cfgAt s (reqCanvas r) (corrFrame s r) else idleCfg (s.canvas (reqCanvas r))

/-- The STAGING tiles that a CORR_COMMIT takes (R127). -/
def corrCommitTiles (s : State) (r : Req) : List Nat :=
  (corrCommitCfg s r).tileIds.filter fun t => decide ((s.corr t).state = .staging) &&
    ((s.canvas (reqCanvas r)).running || (s.canvasOf t).all fun k => k = reqCanvas r)

/-- The first of the tiles that a CORR_COMMIT takes whose inactive block it refuses (R117, R127). -/
def corrCommitBad (s : State) (r : Req) : Option Nat :=
  (corrCommitTiles s r).find? fun t => !((s.corr t).idle (corrDie s t)).blockOk (corrCommitCfg s r).np

/-- The state in which a CORR_COMMIT on a canvas that is not running has switched its tiles' banks, and told so (R127, R131). -/
def idleSwitched (s : State) (r : Req) : State :=
  if (corrCommitTiles s r).isEmpty then s.each (corrCommitTiles s r) fun u t => switchBank u t 0
  else raise (s.each (corrCommitTiles s r) fun u t => switchBank u t 0) (116 + reqCanvas r) 1 (put (corrCommitTiles s r).length 10 48)

theorem idleSwitched_corr (s : State) (r : Req) (t : Nat) :
    (idleSwitched s r).corr t = (s.each (corrCommitTiles s r) fun u t => switchBank u t 0).corr t := by
  unfold idleSwitched
  split
  · rfl
  · exact raise_corr ..

/-- The body by its cases, in the terms above (R122, R127). -/
theorem corrCommitBody_eq (s : State) (r : Req) : corrCommitBody s r =
    if s.clocks.power ≠ .run then .notReady s
    else if bit (r.word 0) 8 then
      .ok (if r.check then s else s.each (corrCommitTiles s r) fun u t => u.modCorr t fun x => { x with state := .clean })
        [0, put (corrCommitTiles s r).length 10 0]
    else
      match corrCommitBad s r with
      | some t => { status := 4, state := s, payload := [0, put t 9 16 ||| putB true 25] }
      | none =>
        if (s.canvas (reqCanvas r)).running then
          .ok (if r.check then s else s.each (corrCommitTiles s r) fun u t =>
              u.modCorr t fun x => { x with state := .pending (reqCanvas r) (corrFrame s r) })
            [put (corrFrame s r) 48 0, put (corrCommitTiles s r).length 10 0]
        else .ok (if r.check then s else idleSwitched s r) [0, put (corrCommitTiles s r).length 10 0] := by
  rfl

section CommitBody
variable {s : State} {r : Req}

theorem corrCommitBody_notReady (hpower : s.clocks.power ≠ .run) : corrCommitBody s r = .notReady s := by
  rw [corrCommitBody_eq, if_pos hpower]

variable (hpower : s.clocks.power = .run)
include hpower

/-- DISCARD makes the staged tiles CLEAN again (R122). -/
theorem corrCommitBody_discard (hdiscard : bit (r.word 0) 8 = true) (hcheck : r.check = false) : corrCommitBody s r =
    .ok (s.each (corrCommitTiles s r) fun u t => u.modCorr t fun x => { x with state := .clean })
      [0, put (corrCommitTiles s r).length 10 0] := by
  simp [corrCommitBody_eq, hpower, hdiscard, hcheck]

variable (hdiscard : bit (r.word 0) 8 = false)
include hdiscard

/-- The first tile with a bad block refuses the command (R127). -/
theorem corrCommitBody_badBlock {t : Nat} (hbad : corrCommitBad s r = some t) :
    corrCommitBody s r = { status := 4, state := s, payload := [0, put t 9 16 ||| putB true 25] } := by
  simp [corrCommitBody_eq, hpower, hdiscard, hbad]

variable (hgood : corrCommitBad s r = none)
include hgood

/-- CHECK answers as the command would, and changes nothing (R313). -/
theorem corrCommitBody_check (hcheck : r.check = true) : corrCommitBody s r =
    .ok s [put (if (s.canvas (reqCanvas r)).running then corrFrame s r else 0) 48 0, put (corrCommitTiles s r).length 10 0] := by
  simp only [corrCommitBody_eq, hpower, hdiscard, hgood, hcheck]
  cases (s.canvas (reqCanvas r)).running <;> rfl

variable (hcheck : r.check = false)
include hcheck

/-- On a running canvas the staged tiles become PENDING for the frame that the answer names (R122, R127). -/
theorem corrCommitBody_running (hrunning : (s.canvas (reqCanvas r)).running = true) : corrCommitBody s r =
    .ok (s.each (corrCommitTiles s r) fun u t => u.modCorr t fun x => { x with state := .pending (reqCanvas r) (corrFrame s r) })
      [put (corrFrame s r) 48 0, put (corrCommitTiles s r).length 10 0] := by
  simp [corrCommitBody_eq, hpower, hdiscard, hgood, hcheck, hrunning]

/-- On a canvas that is not running the staged tiles switch at once (R122, R127). -/
theorem corrCommitBody_idle (hrunning : (s.canvas (reqCanvas r)).running = false) : corrCommitBody s r =
    .ok (idleSwitched s r) [0, put (corrCommitTiles s r).length 10 0] := by
  simp [corrCommitBody_eq, hpower, hdiscard, hgood, hcheck, hrunning]

end CommitBody

/-! ### CORR_HASH and the correction probe (R126, R129 to R131) -/

/-- The hashes and the state of a tile's banks (R126); a tile on no canvas without a record array reads zero hashes (R129). -/
theorem corrHashBody_ok (s : State) (r : Req) : corrHashBody s r = .ok s
    [put (if noHash s (reqTile r) then 0 else (s.corr (reqTile r)).recHash.toNat) 32 0 |||
        putB ((s.corr (reqTile r)).hvalid && !noHash s (reqTile r)) 32 ||| putB (s.corr (reqTile r)).active1 33 |||
        put (match (s.corr (reqTile r)).state with | .clean => 0 | .staging => 1 | .pending _ _ => 2) 2 34,
      put (if noHash s (reqTile r) then 0 else (s.corr (reqTile r)).blkHash.toNat) 32 0,
      put (s.corr (reqTile r)).since 48 0] := by
  rw [corrHashBody, setWidth_eq_put _ (by decide), setWidth_eq_put _ (by decide)]
  cases noHash s (reqTile r) <;> rfl

section Probe
variable {s : State} {r : Req} {c : Nat} {p : Placement}

/-- The probe that a CORR_PROBE on a tile of canvas `c` asks for (R130). -/
def probeOf (s : State) (r : Req) (c : Nat) : Probe :=
  { id := s.nextLong r.who, canvas := c, tile := reqTile r, u := fld (r.word 0) 25 16, v := fld (r.word 0) 41 32,
    die := if bit (r.word 0) 48 then .b else .a, frame := fld (r.word 1) 47 0 }

theorem corrProbeBody_accepted (hcanvas : s.canvasOf (reqTile r) = some c) (hplace : s.placement (reqTile r) = some p)
    (hu : fld (r.word 0) 25 16 < p.tw) (hv : fld (r.word 0) 41 32 < p.th) : corrProbeBody s r =
      .accepted (s.modFunc r.who fun f => { f with probes := f.probes ++ [probeOf s r c] }) false (some c) := by
  simp [corrProbeBody, hcanvas, hplace, hu.not_ge, hv.not_ge, probeOf]

theorem corrProbeBody_outside (hcanvas : s.canvasOf (reqTile r) = some c) (hplace : s.placement (reqTile r) = some p)
    (hout : p.tw ≤ fld (r.word 0) 25 16 ∨ p.th ≤ fld (r.word 0) 41 32) : corrProbeBody s r = .badParam s := by
  simp [corrProbeBody, hcanvas, hplace, hout]

theorem corrProbeBody_unplaced (hcanvas : s.canvasOf (reqTile r) = none) : corrProbeBody s r = .notReady s := by
  simp [corrProbeBody, hcanvas]

variable {f : Nat} {q : Probe}

/-- The one probe in flight is the one that a capture takes. -/
theorem corrProbeCapture_only (hq : (s.func f).probes = [q]) : exec (.corrProbeCapture f) s = .next (takeProbe f s q) := by
  simp [exec, execCorrProbeCapture, hq]

theorem takeProbe_taken {n : Nat} {words : List Word} (htaken : q.taken = some (n, words)) :
    takeProbe f s q = endProbe s f ((s.canvasOf q.tile).getD q.canvas) n q words true := by
  simp [takeProbe, htaken]

/-- The frame that the probe names has flipped without its region (R130). -/
theorem takeProbe_flipped (htaken : q.taken = none) (hframe : q.frame ≠ 0) (hflip : q.frame ≤ (s.canvas q.canvas).frame) :
    takeProbe f s q = endProbe s f q.canvas q.frame q (put q.frame 48 0 :: List.replicate 11 0) false := by
  have hmissed : probeMissed s q = true := by simp [probeMissed, hframe, hflip]
  simp only [takeProbe, htaken, hmissed, if_true]

/-- A probe that names no frame waits for its capture (R130). -/
theorem takeProbe_waits (htaken : q.taken = none) (hframe : q.frame = 0) : takeProbe f s q = s := by
  have hmissed : probeMissed s q = false := by simp [probeMissed, hframe]
  simp [takeProbe, htaken, hmissed]

end Probe

/-! ### RECORD_REPAIR (R129, R131) -/

/-- Where the twin die has a good copy of a line: it is up in Twin mode, and the line is not poisoned there (R129). -/
def twinRepairs (s : State) (d : DieId) (t line : Nat) : Bool :=
  s.twin && s.up d.other && !((s.corr t).poison d.other).contains line

/-- The bank that a damaged line is taken from: the twin die's, or the hub's master copy (R129). -/
def repairSource (s : State) (d : DieId) (t line : Nat) : CorrBank :=
  if twinRepairs s d t line then (s.corr t).active d.other else (s.corr t).master

/-- The state in which the line is repaired, before the event and the marks (R131). -/
def lineRepaired (s : State) (d : DieId) (t line : Nat) : State :=
  s.modCorr t fun y => (y.modActive d fun b => repairLine b (repairSource s d t line) line).modSide d fun z =>
    { z with poison := z.poison.filter fun k => k ≠ line }

theorem lineRepaired_corr (s : State) (d : DieId) (t line : Nat) :
    (lineRepaired s d t line).corr t = (s.corr t).repaired d (repairSource s d t line) line := State.modCorr_corr_self ..

/-- A poisoned line with a source is written again; the event and the marks that follow leave the tile's correction. -/
theorem recordRepair_corr {s : State} {d : DieId} {t line : Nat} (hline : line ∈ (s.corr t).poison d)
    (hsource : twinRepairs s d t line = true ∨ s.hub.cpFailed = false) : ∃ u, exec (.recordRepair d t line) s = .next u ∧
      u.corr t = (s.corr t).repaired d (repairSource s d t line) line := by
  have hgoes : (!((s.corr t).poison d).contains line || (!twinRepairs s d t line && s.hub.cpFailed)) = false := by
    obtain h | h := hsource <;> simp [hline, h]
  refine ⟨_, rfl, ?_⟩
  rw [twinRepairs] at hgoes
  rw [← lineRepaired_corr, lineRepaired, repairSource, twinRepairs]
  simp only [hgoes, Bool.false_eq_true, if_false]
  generalize s.modCorr t _ = u
  have hmarks : ∀ (v : State) (l : List Nat) c, (v.each l fun s i => markRegion s c t i (s.canvas c).next).corr t = v.corr t :=
    fun v l c => State.each_keeps (fun s => s.corr t) l _ fun s i => markRegion_corr ..
  split
  · split
    · exact raise_corr ..
    · rw [hmarks, raise_corr]
  · rfl

/-- Settles O25: each row is the branch of its body that the request and the state select; the laws of runs over tiles say what a
CORR_COMMIT leaves of a tile, those of the banks what a repair does. -/
theorem correctionCommands : Obligations.CorrectionCommands := by
  refine ⟨?commit, ?probes, ?repairs⟩
  case commit =>
    intro r s s1 c first n cfg l hserved hc
    obtain rfl : c = reqCanvas r := hc
    refine ⟨fun hpower => ?_, fun hpower hfirst hn hcfg hl => ?_⟩
    · have hanswer := jcs_answered hserved (corrCommitBody_notReady hpower) (show 5 ≠ 1 by decide) (Nat.zero_le 511)
      exact congrArg Host.Outcome.next hanswer
    obtain rfl : n = corrFrame s1 r := by
      subst hfirst
      exact hn
    obtain rfl : cfg = corrCommitCfg s1 r := hcfg
    obtain rfl : l = corrCommitTiles s1 r := hl
    refine ⟨fun hdiscard hcheck => ?discard, fun t hdiscard hbad => ?bad, fun hdiscard hall => ?_⟩
    case discard =>
      have hbody := corrCommitBody_discard hpower hdiscard hcheck
      exact ⟨_, congrArg Host.Outcome.next (jcs_ok hserved hbody (show 2 ≤ 511 by decide)), each_setState ..⟩
    case bad =>
      have hanswer := jcs_answered hserved (corrCommitBody_badBlock hpower hdiscard hbad) (show 4 ≠ 1 by decide)
        (show 2 ≤ 511 by decide)
      exact congrArg Host.Outcome.next hanswer
    have hgood : corrCommitBad s1 r = none := List.find?_eq_none.2 fun t ht => by simp [hall t ht]
    refine ⟨fun hcheck => ?_, fun hrunning hcheck => ?pending, fun hrunning hcheck => ?switch⟩
    · exact congrArg Host.Outcome.next (jcs_ok hserved (corrCommitBody_check hpower hdiscard hgood hcheck) (show 2 ≤ 511 by decide))
    case pending =>
      have hbody := corrCommitBody_running hpower hdiscard hgood hcheck hrunning
      exact ⟨_, congrArg Host.Outcome.next (jcs_ok hserved hbody (show 2 ≤ 511 by decide)), each_setState ..⟩
    case switch =>
      have hbody := corrCommitBody_idle hpower hdiscard hgood hcheck hrunning
      refine ⟨_, congrArg Host.Outcome.next (jcs_ok hserved hbody (show 2 ≤ 511 by decide)), ?_⟩
      simp only [idleSwitched_corr]
      exact each_switchBank ..
  case probes =>
    intro r s s1 t c p x ht
    obtain rfl : t = reqTile r := ht
    refine ⟨fun hserved hx => ?hash, fun hserved => ⟨fun hcanvas hplace hu hv q hq => ?_, fun hcanvas hplace hout => ?_,
      fun hcanvas => ?_⟩, fun hserved => ⟨fun w hw hlength => ?_, fun hnone => ?_⟩, fun f q hq => ⟨fun n words htaken => ?_,
      fun htaken hframe hflip => ?_, fun htaken hframe => ?_⟩⟩
    case hash =>
      subst hx
      have hbody := corrHashBody_ok s1 r
      exact congrArg Host.Outcome.next (jcs_ok hserved hbody (show 3 ≤ 511 by decide))
    · obtain rfl : q = probeOf s1 r c := hq
      exact congrArg Host.Outcome.next (jcs_accepted hserved (corrProbeBody_accepted hcanvas hplace hu hv))
    · have hanswer := jcs_answered hserved (corrProbeBody_outside hcanvas hplace hout) (show 4 ≠ 1 by decide) (Nat.zero_le 511)
      exact congrArg Host.Outcome.next hanswer
    · have hanswer := jcs_answered hserved (corrProbeBody_unplaced hcanvas) (show 5 ≠ 1 by decide) (Nat.zero_le 511)
      exact congrArg Host.Outcome.next hanswer
    · have hbody : corrProbeReadBody s1 r = .ok s1 w := by rw [corrProbeReadBody, hw]; rfl
      exact congrArg Host.Outcome.next (jcs_ok hserved hbody (by omega))
    · have hbody : corrProbeReadBody s1 r = .ok s1 (List.replicate 12 0) := by rw [corrProbeReadBody, hnone]; rfl
      exact congrArg Host.Outcome.next (jcs_ok hserved hbody (by simp))
    · rw [corrProbeCapture_only hq, takeProbe_taken htaken]
    · rw [corrProbeCapture_only hq, takeProbe_flipped htaken hframe hflip]
    · rw [corrProbeCapture_only hq, takeProbe_waits htaken hframe]
  case repairs =>
    intro s d t line x twin hx htwin
    subst hx
    obtain rfl : twin = twinRepairs s d t line := htwin
    refine ⟨fun hline hsource => ?_, fun hhash => ?_, fun hhash => ?_⟩
    · obtain ⟨u, hexec, hu⟩ := recordRepair_corr hline hsource
      refine ⟨u, hexec, ?_⟩
      rw [hu]
      exact ⟨Corr.repaired_poison _ _ _ _, Corr.repaired_active .., Corr.repaired_side_ne _ (by cases d <;> decide) ..⟩
    · simp only [exec, execHashRecompute, hashTile, hhash]
      rfl
    · simp only [exec, execHashRecompute, hashTile, hhash]
      rfl

end Sys2Proof.Machine

/-! ## The SAFE reads, the loop trims and the check of a Scrim table (05) -/

namespace Sys2Proof.Machine

/-! ### Reading a tile's safety state after a change -/

/-- What an operation on other parts of the state leaves of a tile's safety state. -/
theorem State.safe_of_frames {s t : State} (h : t.frames = s.frames) (k : Nat) : t.safe k = s.safe k := by
  rw [State.safe, h, State.safe]

theorem State.modSafe_safe_ne (s : State) {t k : Nat} (g : SafeTile → SafeTile) (h : k ≠ t) : (s.modSafe t g).safe k = s.safe k := by
  rw [State.modSafe_safe, if_neg h]

@[simp] theorem State.modZone_safe (s : State) (z : Nat) (g : Zone → Zone) (k : Nat) : (s.modZone z g).safe k = s.safe k := rfl

@[simp] theorem State.drawn_safe (s : State) (k : Nat) : s.drawn.safe k = s.safe k := rfl

@[simp] theorem raise_safe (s : State) (src code : Nat) (data : Word) (frame k : Nat) :
    (raise s src code data frame).safe k = s.safe k := State.safe_of_frames (raise_frames ..) k

/-! ### Changes of several indexed parts -/

section Indexed
variable {α : Type} {p : State → Nat → α} {f : State → Nat → State} (hf : ∀ s t k, k ≠ t → p (f s t) k = p s k)
include hf

/-- A run over indices whose every step changes its own index alone leaves the others. -/
theorem State.each_read_of_not_mem {l : List Nat} {k : Nat} (h : k ∉ l) (s : State) : p (s.each l f) k = p s k := by
  induction l generalizing s with
  | nil => rfl
  | cons a l ih =>
    obtain ⟨ha, hl⟩ := List.ne_and_not_mem_of_not_mem_cons h
    exact (ih hl (f s a)).trans (hf s a k ha)

/-- Such a run over a list without repetitions changes an index of it once, from what it was. -/
theorem State.each_read_of_mem {l : List Nat} {k : Nat} (hnodup : l.Nodup) (h : k ∈ l) (s : State) :
    ∃ u, p (s.each l f) k = p (f u k) k ∧ p u k = p s k := by
  obtain ⟨before, after, rfl⟩ := List.append_of_mem h
  obtain ⟨-, hafter, hdisjoint⟩ := List.nodup_append.1 hnodup
  have hbefore : k ∉ before := fun hk => hdisjoint k hk k List.mem_cons_self rfl
  refine ⟨s.each before f, ?_, each_read_of_not_mem hf hbefore s⟩
  rw [State.each, List.foldl_append, List.foldl_cons]
  exact each_read_of_not_mem hf (List.nodup_cons.1 hafter).1 _

end Indexed

/-! ### LOOP_TRIM_UPDATE (R140, R153, R154) -/

/-- Whatever is called for, a trim within 1.0 to 1.5 stays there and moves by at most +0.10 or −0.02 (R140). -/
theorem movedTrim_bounds {trim : Nat} (hlow : 16384 ≤ trim) (hhigh : trim ≤ 24576) (target : Nat) :
    16384 ≤ movedTrim trim target ∧ movedTrim trim target ≤ 24576 ∧ movedTrim trim target ≤ trim + 1638 ∧
      trim ≤ movedTrim trim target + 327 := by
  rw [movedTrim]
  omega

theorem trimTile_safe_ne (s : State) (t k : Nat) (h : k ≠ t) : (trimTile s t).safe k = s.safe k := by
  rw [trimTile]
  split <;> exact State.modSafe_safe_ne s _ h

/-- A tile that has reported its current moves its trim (R140). -/
theorem trimTile_trim {s : State} {t : Nat} (h : (s.safe t).statusI ≠ []) :
    ∃ target, ((trimTile s t).safe t).trim = movedTrim (s.safe t).trim target := by
  rw [trimTile, if_neg (by simpa using h), State.drawn_safe, State.modSafe_safe_self]
  exact ⟨_, rfl⟩

/-- The sums of a zone and their events leave every tile (R153, R154). -/
@[simp] theorem trimZone_safe (s : State) (c z : Nat) (before : List (Nat × Nat)) (k : Nat) :
    (trimZone s c z before).safe k = s.safe k := by
  refine (State.each_keeps (fun u => u.safe k) (zoneTiles s c z) _ fun u q => ?_).trans ?_
  · split
    · exact raise_safe ..
    · rfl
  · split
    · exact raise_safe ..
    · rfl

/-- An update of a running canvas is, for its tiles, the run of their own updates. -/
theorem loopTrimUpdate_safe {s : State} {c : Nat} (hrunning : (s.canvas c).running = true) (hcomputing : s.computing ≠ []) :
    ∃ t, exec (.loopTrimUpdate c) s = .next t ∧
      ∀ k, t.safe k = (s.each (s.canvas c).committed.tileIds trimTile).safe k := by
  have hgoes : (!(s.canvas c).running || s.computing.isEmpty) = false := by simp [hrunning, hcomputing]
  refine ⟨_, rfl, fun k => ?_⟩
  rw [hgoes]
  exact State.each_keeps (fun u => u.safe k) _ _ fun u z => trimZone_safe u c z _ k

/-! ### SCRIM_TABLE_CHECK (R148, R154) -/

section TableCheck
variable {s : State} {d : DieId} {r : Nat}

theorem checkScrim_agrees (h : scrimAgrees s d r = true) : checkScrim s d r = s := if_pos h

theorem checkScrim_differs (h : scrimAgrees s d r = false) :
    checkScrim s d r = raise (s.modScrim d r fun y => { y with blocked := true }) (regionSource d r) 7 0 := by
  rw [checkScrim, h]
  exact if_neg Bool.false_ne_true

theorem checkScrim_blocks (h : scrimAgrees s d r = false) : ((checkScrim s d r).scrim d r).blocked = true := by
  rw [checkScrim_differs h, State.scrim_of_frames (raise_frames ..), State.modScrim_scrim_self]

/-- A table whose entries have another CRC than the arbiter's does not agree. -/
theorem scrimAgrees_of_crc_ne (h : rawCrc (s.scrim d r).raw ≠ (s.scrim d r).arbCrc) : scrimAgrees s d r = false := by
  simp [scrimAgrees, h]

variable (hrunning : (s.die d).running = true)
include hrunning

theorem scrimTableCheck_kept : exec (.scrimTableCheck d ⟨r, none⟩) s = .next (checkScrim s d r) := by
  simp [exec, execScrimTableCheck, hrunning]

theorem scrimTableCheck_upset (k : Nat) (v : Word) :
    exec (.scrimTableCheck d ⟨r, some (k, v)⟩) s = .next (checkScrim (upsetScrim s d r k v) d r) := by
  simp [exec, execScrimTableCheck, hrunning]

end TableCheck

/-! ### The SAFE reads (R153) -/

/-- Two counters of 32 bits in one word. -/
theorem counters_eq_put (lo hi : BitVec 32) : lo.setWidth 64 ||| (hi.setWidth 64 <<< 32) = put lo.toNat 32 0 ||| put hi.toNat 32 32 := by
  rw [setWidth_eq_put _ (by decide), setWidth_shiftLeft _ _ (by decide)]

/-- The counters of a checker, two in a word. -/
theorem safeScrimReadBody_ok {s : State} {r : Req} {k : Scrim}
    (hk : k = s.scrim (if bit (r.word 0) 8 then .b else .a) (fld (r.word 0) 1 0)) : safeScrimReadBody s r = .ok s
      [put k.capBlocks.toNat 32 0 ||| put k.flashBlocks.toNat 32 32, put k.powerFails.toNat 32 0 ||| put k.latentRun.toNat 32 32,
        put k.latentFail.toNat 32 0 ||| put k.dustEntries.toNat 32 32] := by
  subst hk
  rw [safeScrimReadBody, counters_eq_put, counters_eq_put, counters_eq_put]

/-- Settles O26: a read answers its body's words, an update of a canvas moves each tile's trim once by `movedTrim`, and a check of a
table is `checkScrim` by whether the table agrees. -/
theorem safetyReadsAndTrims : Obligations.SafetyReadsAndTrims := by
  refine ⟨?reads, fun s c r d => ⟨?trims, ?agrees, ?crc, ?upset⟩⟩
  case reads =>
    intro r s s1 z x k' f k t c
    refine ⟨?zone, ?tile, ?flash, ?scrim⟩
    case zone =>
      rintro hserved rfl
      exact congrArg Host.Outcome.next (jcs_ok hserved rfl (show 3 ≤ 511 by decide))
    case tile =>
      rintro hserved rfl rfl rfl
      exact congrArg Host.Outcome.next (jcs_ok hserved rfl (show 4 ≤ 511 by decide))
    case flash =>
      rintro hserved rfl rfl
      exact congrArg Host.Outcome.next (jcs_ok hserved rfl (show 2 ≤ 511 by decide))
    case scrim =>
      intro hserved hk
      exact congrArg Host.Outcome.next (jcs_ok hserved (safeScrimReadBody_ok hk) (show 3 ≤ 511 by decide))
  case trims =>
    intro hrunning hcomputing hnodup
    obtain ⟨t, hexec, ht⟩ := loopTrimUpdate_safe hrunning hcomputing
    refine ⟨t, hexec, fun k hk hreported hlow hhigh => ?_⟩
    obtain ⟨u, hrun, hu⟩ := State.each_read_of_mem trimTile_safe_ne hnodup hk s
    rw [← hu] at hreported hlow hhigh ⊢
    obtain ⟨target, htrim⟩ := trimTile_trim hreported
    rw [ht, hrun, htrim]
    exact movedTrim_bounds hlow hhigh target
  case agrees =>
    intro hrunning hagrees
    rw [scrimTableCheck_kept hrunning, checkScrim_agrees hagrees]
  case crc =>
    intro hrunning hcrc
    rw [scrimTableCheck_kept hrunning, checkScrim_differs (scrimAgrees_of_crc_ne hcrc)]
  case upset =>
    intro k v hrunning hdiffers
    exact ⟨_, scrimTableCheck_upset hrunning k v, checkScrim_blocks hdiffers⟩

end Sys2Proof.Machine

/-! ## The line code: code words, groups and frames (06) -/

namespace Sys2Proof.Machine

/-! ### The check byte is linear in the data word (R162) -/

/-- One column of the check byte, added where the word has its bit. -/
def addColumn (w : Word) (c : Byte) (x : Nat × Nat) : Byte := if bit w x.1 then c ^^^ BitVec.ofNat 8 x.2 else c

theorem checkByte_eq (w : Word) : checkByte w = ((List.range 64).zip columns).foldl (addColumn w) 0 := rfl

theorem bit_xor (u v : Word) (i : Nat) : bit (u ^^^ v) i = (bit u i ^^ bit v i) := by
  simp [bit]

theorem addColumn_xor (u v : Word) (a b : Byte) (x : Nat × Nat) :
    addColumn (u ^^^ v) (a ^^^ b) x = addColumn u a x ^^^ addColumn v b x := by
  obtain ⟨i, k⟩ := x
  simp only [addColumn, bit_xor]
  cases bit u i <;> cases bit v i
  case false.false => rfl
  case false.true => exact BitVec.xor_assoc ..
  case true.false => simp only [Bool.xor_false, if_true, Bool.false_eq_true, if_false]; ac_rfl
  case true.true =>
    have h : a ^^^ BitVec.ofNat 8 k ^^^ (b ^^^ BitVec.ofNat 8 k) = a ^^^ b ^^^ (BitVec.ofNat 8 k ^^^ BitVec.ofNat 8 k) := by ac_rfl
    simp [h]

theorem foldl_addColumn_xor (u v : Word) (l : List (Nat × Nat)) (a b : Byte) :
    l.foldl (addColumn (u ^^^ v)) (a ^^^ b) = l.foldl (addColumn u) a ^^^ l.foldl (addColumn v) b := by
  induction l generalizing a b with
  | nil => rfl
  | cons x l ih => rw [List.foldl_cons, List.foldl_cons, List.foldl_cons, addColumn_xor, ih]

theorem checkByte_xor (u v : Word) : checkByte (u ^^^ v) = checkByte u ^^^ checkByte v :=
  foldl_addColumn_xor u v _ 0 0

/-! ### The columns (R162) -/

theorem columns_length : columns.length = 64 := by decide +kernel

/-- What a flipped bit of a code word adds to its syndrome: the column of a data bit, the bit itself in the check byte. -/
def bitColumn (j : Nat) : Byte := if j < 64 then BitVec.ofNat 8 (columns.getD j 0) else BitVec.ofNat 8 (2 ^ (j - 64))

theorem bitColumn_inj {i j : Nat} (hi : i < 72) (hj : j < 72) (h : bitColumn i = bitColumn j) : i = j := by
  have hn : ((List.range 72).map bitColumn).Nodup := by decide +kernel
  exact List.inj_on_of_nodup_map hn (List.mem_range.2 hi) (List.mem_range.2 hj) h

theorem ones8_of_mem_columns {c : Nat} (h : c ∈ columns) : ones8 c = 3 ∨ ones8 c = 5 := by
  rw [columns, List.mem_append] at h
  rcases h with h | h
  · exact .inl (by simpa using (List.mem_filter.1 h).2)
  · exact .inr (by simpa using (List.mem_filter.1 (List.mem_of_mem_take h)).2)

theorem bitColumn_odd {j : Nat} (h : j < 72) : ones8 (bitColumn j).toNat % 2 = 1 := by
  decide +revert +kernel

theorem checkByte_bit {i : Nat} (h : i < 64) : checkByte (BitVec.ofNat 64 (2 ^ i)) = bitColumn i := by
  decide +revert +kernel

theorem bitColumn_data {i : Nat} (h : i < 64) :
    ∃ hc : i < columns.length, (bitColumn i).toNat = columns[i]  := by
  decide +revert +kernel

theorem bitColumn_check {i : Nat} (h : i < 72) (hi : 64 ≤ i) : ones8 (bitColumn i).toNat = 1 := by
  decide +revert +kernel

theorem columns_nodup : columns.Nodup := by decide +kernel

theorem countP_xor (p q : Nat → Bool) (l : List Nat) :
    (l.countP fun i => p i ^^ q i) % 2 = (l.countP p + l.countP q) % 2 := by
  induction l with
  | nil => rfl
  | cons i l ih =>
    simp only [List.countP_cons]
    cases p i <;> cases q i <;> simp <;> omega

theorem ones8_xor (a b : Nat) : ones8 (a ^^^ b) % 2 = (ones8 a + ones8 b) % 2 := by
  simp only [ones8, Nat.testBit_xor]
  exact countP_xor _ _ _

theorem find_column {i : Nat} (hi : i < 64) : (columns.findIdx? fun x => x = (bitColumn i).toNat) = some i := by
  obtain ⟨hc, he⟩ := bitColumn_data hi
  rw [he, List.findIdx?_eq_some_iff_getElem]
  refine ⟨hc, by simp, fun j hj h => ?_⟩
  have : columns[j] = columns[i] := by simpa using h
  have := (columns_nodup.getElem_inj_iff).1 this
  omega

/-! ### Decoding by the syndrome (R162) -/

/-- The syndrome of a received code word. -/
def syndrome (c : Code) : Byte := c.check ^^^ checkByte c.data

/-- A code word with bit `j` of its 72 flipped. -/
def flipBit (c : Code) (j : Nat) : Code :=
  if j < 64 then ⟨c.data ^^^ BitVec.ofNat 64 (2 ^ j), c.check⟩ else ⟨c.data, c.check ^^^ BitVec.ofNat 8 (2 ^ (j - 64))⟩

theorem syndrome_codeOf (w : Word) : syndrome (codeOf w) = 0 := by simp [syndrome, codeOf]

theorem syndrome_flipBit (c : Code) (j : Nat) : syndrome (flipBit c j) = syndrome c ^^^ bitColumn j := by
  unfold flipBit
  split
  next h => rw [syndrome, checkByte_xor, checkByte_bit h, ← BitVec.xor_assoc, syndrome]
  next h => rw [syndrome, syndrome, bitColumn, if_neg h]; dsimp only; ac_rfl

theorem decodeCode_clean {c : Code} (h : syndrome c = 0) : decodeCode c = .clean c.data := by
  rw [syndrome] at h
  simp [decodeCode, h]

theorem decodeCode_check {c : Code} {j : Nat} (h64 : 64 ≤ j) (hj : j < 72) (h : syndrome c = bitColumn j) :
    decodeCode c = .fixed c.data := by
  have h1 := bitColumn_check hj h64
  have h0 : (bitColumn j).toNat ≠ 0 := fun e => by rw [e] at h1; exact absurd h1 (by decide)
  rw [syndrome] at h
  simp only [decodeCode, h, if_neg h0, if_pos h1]

theorem decodeCode_data {c : Code} {j : Nat} (hj : j < 64) (h : syndrome c = bitColumn j) :
    decodeCode c = .fixed (c.data ^^^ BitVec.ofNat 64 (2 ^ j)) := by
  obtain ⟨hc, he⟩ := bitColumn_data hj
  have h3 := ones8_of_mem_columns (List.getElem_mem hc)
  have h1 : ones8 (bitColumn j).toNat ≠ 1 := by rw [he]; omega
  have h0 : (bitColumn j).toNat ≠ 0 := fun e => by rw [← he, e] at h3; exact absurd h3 (by decide)
  rw [syndrome] at h
  simp only [decodeCode, h, if_neg h0, if_neg h1, find_column hj]

/-- A syndrome of even weight is no column's and no check bit's. -/
theorem decodeCode_bad {c : Code} (h0 : syndrome c ≠ 0) (h : ones8 (syndrome c).toNat % 2 = 0) : decodeCode c = .bad := by
  have hn : columns.findIdx? (fun x => x = (syndrome c).toNat) = none := by
    rw [List.findIdx?_eq_none_iff]
    intro x hx
    have := ones8_of_mem_columns hx
    have : x ≠ (syndrome c).toNat := fun e => by rw [← e] at h; omega
    simpa using this
  have h0' : (syndrome c).toNat ≠ 0 := fun e => h0 (BitVec.eq_of_toNat_eq e)
  have h1 : ones8 (syndrome c).toNat ≠ 1 := by omega
  rw [syndrome] at hn h0' h1
  simp only [decodeCode, if_neg h0', if_neg h1, hn]

/-- One flipped bit is corrected. -/
theorem decodeCode_flipBit (w : Word) {i : Nat} (hi : i < 72) : decodeCode (flipBit (codeOf w) i) = .fixed w := by
  have hs : syndrome (flipBit (codeOf w) i) = bitColumn i := by
    rw [syndrome_flipBit, syndrome_codeOf]; exact BitVec.zero_xor
  by_cases h : i < 64
  · rw [decodeCode_data h hs, flipBit, if_pos h, codeOf, BitVec.xor_assoc, BitVec.xor_self, BitVec.xor_zero]
  · rw [decodeCode_check (by omega) hi hs, flipBit, if_neg h, codeOf]

/-- Two flipped bits are found and not corrected. -/
theorem decodeCode_flipBit_flipBit (w : Word) {i j : Nat} (hi : i < 72) (hj : j < 72) (hij : j ≠ i) :
    decodeCode (flipBit (flipBit (codeOf w) i) j) = .bad := by
  have hs : syndrome (flipBit (flipBit (codeOf w) i) j) = bitColumn i ^^^ bitColumn j := by
    rw [syndrome_flipBit, syndrome_flipBit, syndrome_codeOf]; simp
  apply decodeCode_bad
  · rw [hs]
    exact fun e => hij (bitColumn_inj hj hi (BitVec.xor_eq_zero_iff.1 e).symm)
  · have := bitColumn_odd hi
    have := bitColumn_odd hj
    rw [hs, BitVec.toNat_xor, ones8_xor]
    omega

/-! ### Groups (R163) -/

/-- A code word stands at its place of the group's string. -/
theorem groupString_word (g : List Code) (j : Nat) (c : Code) (h : g[j]? = some c) :
    groupString g / 2 ^ (72 * j) % 2 ^ 72 = c.data.toNat + c.check.toNat * 2 ^ 64 := by
  induction g generalizing j with
  | nil => simp at h
  | cons a g ih =>
    have hd := a.data.isLt
    have hc := a.check.isLt
    cases j with
    | zero =>
      obtain rfl : a = c := by simpa using h
      simp only [groupString]
      omega
    | succ j =>
      have hq : groupString (a :: g) / 2 ^ 72 = groupString g := by
        simp only [groupString]
        omega
      rw [Nat.mul_add, Nat.mul_one, Nat.add_comm, Nat.pow_add, ← Nat.div_div_eq_div_mul, hq]
      exact ih j (by simpa using h)

/-! ### Frames (R164 to R166, R213) -/

/-- The trailer word of a frame. -/
def trailer (h0 h1 : Word) (payload : List Word) (inverted : Bool) : Word :=
  (if inverted then ~~~frameCrc (h0 :: h1 :: payload) else frameCrc (h0 :: h1 :: payload)).setWidth 64

theorem frameWords_eq (h0 h1 : Word) (payload : List Word) (inverted : Bool) : frameWords h0 h1 payload inverted =
    h0 :: h1 :: (payload ++ trailer h0 h1 payload inverted ::
      List.replicate (ceilDiv (payload.length + 3) 8 * 8 - (payload.length + 3)) 0) := by
  simp [frameWords, trailer]

theorem frameWords_length (h0 h1 : Word) (payload : List Word) (inverted : Bool) :
    (frameWords h0 h1 payload inverted).length = 8 * ceilDiv (payload.length + 3) 8 := by
  simp only [frameWords_eq, List.length_cons, List.length_append, List.length_replicate, ceilDiv]
  omega

theorem fld_trailer (h0 h1 : Word) (payload : List Word) (inverted : Bool) : fld (trailer h0 h1 payload inverted) 31 0 =
    (if inverted then ~~~frameCrc (h0 :: h1 :: payload) else frameCrc (h0 :: h1 :: payload)).toNat := by
  rw [fld, trailer, BitVec.toNat_setWidth, Nat.shiftRight_zero]
  omega

theorem filterMap_word {l : List Decoded} {ws : List Word} (h : l.map Decoded.word = ws.map some) : l.filterMap Decoded.word = ws := by
  have := congrArg (List.filterMap id) h
  simpa using this

theorem badWords_eq_zero {a : Arrival} {ws : List Word} (h : (decodedOf a).map Decoded.word = ws.map some) : badWords a = 0 := by
  rw [badWords, List.countP_eq_zero]
  intro d hd
  have : d.word ∈ ws.map some := h ▸ List.mem_map_of_mem hd
  obtain ⟨w, _, hw⟩ := List.mem_map.1 this
  simp [← hw]

/-- What a receiver makes of the words of a frame whose LEN is right, by LEN and by its trailer. -/
theorem frameOf_frameWords {h0 h1 : Word} {payload : List Word} {inverted : Bool} {a : Arrival} (hlen : fld h0 63 48 = payload.length)
    (ha : (decodedOf a).map Decoded.word = (frameWords h0 h1 payload inverted).map some) :
    frameOf a = if lenLegal (fld h0 3 0) payload.length = true ∧ inverted = false then some ⟨h0, h1, payload⟩ else none := by
  have hcodes : a.codes.length = 8 * ceilDiv (payload.length + 3) 8 := by
    simpa [decodedOf, frameWords_length] using congrArg List.length ha
  have hcrc : (frameCrc (h0 :: h1 :: payload)).toNat < 2 ^ 32 := BitVec.isLt _
  simp only [frameOf, filterMap_word ha, frameWords_eq, hlen, badWords_eq_zero ha, hcodes, List.take_left, wordAt]
  rw [List.getD_append_right _ _ _ _ (Nat.le_refl _), Nat.sub_self, List.getD_cons_zero, fld_trailer]
  cases inverted with
  | false => simp
  | true =>
    have hne : (~~~frameCrc (h0 :: h1 :: payload)).toNat ≠ (frameCrc (h0 :: h1 :: payload)).toNat := by
      rw [BitVec.toNat_not]
      omega
    simp [-BitVec.toNat_not, hne]

theorem decodedOf_sent (fill : List Byte) (ws : List Word) :
    (decodedOf ⟨fill, ws.map codeOf⟩).map Decoded.word = ws.map some := by
  simp only [decodedOf, List.map_map]
  exact List.map_congr_left fun w _ => by
    rw [Function.comp_apply, Function.comp_apply, decodeCode_clean (syndrome_codeOf w)]; rfl

/-- Settles O23: the check byte is linear, its columns are distinct and of odd weight; so one flipped bit gives its own column as
the syndrome, two a syndrome of even weight. Frames follow by their words. -/
theorem lineCode : Obligations.LineCode := by
  refine ⟨fun w => decodeCode_clean (syndrome_codeOf w), fun w i x hi hx => ?_, groupString_word, ?_, ?_⟩
  · obtain rfl : x = flipBit (codeOf w) i := hx
    refine ⟨decodeCode_flipBit w hi, fun j y hj hji hy => ?_⟩
    obtain rfl : y = flipBit (flipBit (codeOf w) i) j := hy
    exact decodeCode_flipBit_flipBit w hi hj hji
  · intro h0 h1 payload a hlen hlegal ha
    rw [frameOf_frameWords hlen ha, if_pos ⟨hlegal, rfl⟩]
  · intro h0 h1 payload fill hlen
    rw [frameOf_frameWords hlen (decodedOf_sent fill _), if_neg (by simp)]

end Sys2Proof.Machine

/-! ## Tile links: frames that leave, receive states, frames that arrive (06) -/

namespace Sys2Proof.Machine

/-! ### Reading events and time after a change -/

theorem Same.event {l : List Part} {s t : State} (h : Same l s t) (hl : Part.queues ∉ l) (e : Nat) : t.event e = s.event e := by
  rw [State.event, h.queues hl, State.event]

theorem Same.uptime {l : List Part} {s t : State} (h : Same l s t) (hh : Part.hub ∉ l) (ht : Part.time ∉ l) :
    t.uptime = s.uptime := by
  rw [State.uptime, State.wall, State.uptimeAt, h.hub hh, h.time ht, State.uptime, State.wall, State.uptimeAt]

theorem raise_event_ne (s : State) {src e : Nat} (code : Nat) (data : Word) (frame : Nat) (t : Option Nat) (h : e ≠ src) :
    (raise s src code data frame t).event e = s.event e := by
  unfold raise
  split
  · rfl
  · simp [State.event, State.modEvent, Tbl.get_modify, h]

/-- While the control processor runs, an event is counted at its source. -/
theorem raise_count {s : State} (src code : Nat) (data : Word) (frame : Nat) (t : Option Nat) (hcp : s.hub.cpFailed = false) :
    ((raise s src code data frame t).event src).count = (s.event src).count + 1 := by
  simp [raise, hcp, State.event, State.modEvent]

/-! ### Frames that leave a port (R164, R183, R190, R194) -/

theorem putLine_port (s : State) (p : Nat) (b : List Block) (k : Nat) : (putLine s p b).port k = s.port k :=
  (putLine_does s p b).same.port (by decide) k

theorem emitFrame_port (s : State) (p : Nat) (h0 h1 : Word) (w : List Word) (inv : Bool) (k : Nat) :
    (emitFrame s p h0 h1 w inv).port k = if k = p then { s.port p with lastSent := s.uptime } else s.port k := by
  rw [emitFrame, State.modPort_port, putLine_port, putLine_port]

theorem emitIdle_port (s : State) (p k : Nat) : (emitIdle s p).port k =
    if k = p then { s.port p with lastSent := s.uptime, lastIdle := s.uptime } else s.port k := by
  rw [emitIdle, State.modPort_port, emitFrame_port, emitFrame_port]
  by_cases h : k = p <;> simp [h]

theorem emitTime_port (s : State) (p word0 : Nat) (arg : Word) (tile : Nat) (bcast : Bool) (k : Nat) :
    (emitTime s p word0 arg tile bcast).port k = if k = p then
      { s.port p with lastSent := s.uptime, lastSync := if word0 = 0 then s.uptime else (s.port p).lastSync } else s.port k := by
  have hdrawn : ∀ c : Prop, ∀ [Decidable c], (if c then s else s.drawn).uptime = s.uptime ∧
      ∀ k, (if c then s else s.drawn).port k = s.port k := by
    intro c _; split <;> exact ⟨rfl, fun _ => rfl⟩
  simp only [emitTime, State.modPort_port, emitFrame_port, hdrawn]
  by_cases h : k = p <;> simp [h]

/-- A transmitter that is on sends at once. -/
theorem wake_of_on {s : State} {p : Nat} (h : (s.port p).tx = .on) (sync : Bool) : wake s p sync = s := by
  simp [wake, h]

theorem wake_uptime (s : State) (p : Nat) (sync : Bool) : (wake s p sync).uptime = s.uptime :=
  (wake_does s p sync).same.uptime (by decide) (by decide)

/-- A transmitter that is not off is on after its wake (R194). -/
theorem wake_tx {s : State} {p : Nat} (h : (s.port p).tx ≠ .off) (sync : Bool) : ((wake s p sync).port p).tx = .on := by
  unfold wake
  cases htx : (s.port p).tx with
  | off => exact absurd htx h
  | on => simp [htx]
  | quiet => cases sync <;> simp [emitIdle_port, emitTime_port, putLine_port]

/-- What leaves the receive state of every port. -/
theorem State.modPort_rx (s : State) (p : Nat) {g : Port → Port} (hg : ∀ x, (g x).rx = x.rx) (k : Nat) :
    ((s.modPort p g).port k).rx = (s.port k).rx := by
  rw [State.modPort_port]
  split
  next h => rw [hg, h]
  next => rfl

theorem emitTime_rx (s : State) (p word0 : Nat) (arg : Word) (tile : Nat) (bcast : Bool) (k : Nat) :
    ((emitTime s p word0 arg tile bcast).port k).rx = (s.port k).rx := by
  rw [emitTime_port]
  by_cases h : k = p <;> simp [h]

theorem emitIdle_rx (s : State) (p k : Nat) : ((emitIdle s p).port k).rx = (s.port k).rx := by
  rw [emitIdle_port]
  by_cases h : k = p <;> simp [h]

theorem wake_rx (s : State) (p : Nat) (sync : Bool) (k : Nat) : ((wake s p sync).port k).rx = (s.port k).rx := by
  unfold wake
  split
  · rfl
  · cases sync <;> simp only [Bool.false_eq_true, if_false, if_true, emitTime_rx, emitIdle_rx, putLine_port] <;>
      exact State.modPort_rx s p (fun _ => by rfl) k

theorem sendTime_rx (s : State) (p word0 : Nat) (arg : Word) (tile : Nat) (bcast : Bool) (k : Nat) :
    ((sendTime s p word0 arg tile bcast).port k).rx = (s.port k).rx := by
  unfold sendTime
  split
  · rw [emitTime_rx, wake_rx]
  · rfl

/-- The links beside their ports. -/
def Links.sansPorts (l : Links) : Links := { l with ports := [] }

theorem State.modPort_sansPorts (s : State) (p : Nat) (g : Port → Port) :
    (s.modPort p g).links.sansPorts = s.links.sansPorts := rfl

theorem emitFrame_sansPorts (s : State) (p : Nat) (h0 h1 : Word) (w : List Word) (inv : Bool) :
    (emitFrame s p h0 h1 w inv).links.sansPorts = s.links.sansPorts := by
  rw [emitFrame, State.modPort_sansPorts, (putLine_does ..).same.links (by decide)]

theorem emitIdle_sansPorts (s : State) (p : Nat) : (emitIdle s p).links.sansPorts = s.links.sansPorts := by
  rw [emitIdle, State.modPort_sansPorts, emitFrame_sansPorts]

theorem emitTime_sansPorts (s : State) (p word0 : Nat) (arg : Word) (tile : Nat) (bcast : Bool) :
    (emitTime s p word0 arg tile bcast).links.sansPorts = s.links.sansPorts := by
  rw [emitTime, State.modPort_sansPorts, emitFrame_sansPorts]
  split <;> rfl

theorem wake_sansPorts (s : State) (p : Nat) (sync : Bool) : (wake s p sync).links.sansPorts = s.links.sansPorts := by
  unfold wake
  split
  · rfl
  · have hidle : ∀ u, (emitIdle (putLine (s.modPort p u) p [blkIdle]) p).links.sansPorts = s.links.sansPorts := fun u => by
      rw [emitIdle_sansPorts, (putLine_does ..).same.links (by decide), State.modPort_sansPorts]
    cases sync
    · exact hidle _
    · exact (emitTime_sansPorts ..).trans (hidle _)

theorem sendTime_sansPorts (s : State) (p word0 : Nat) (arg : Word) (tile : Nat) (bcast : Bool) :
    (sendTime s p word0 arg tile bcast).links.sansPorts = s.links.sansPorts := by
  unfold sendTime
  split
  · rw [emitTime_sansPorts, wake_sansPorts]
  · rfl

theorem sendFrame_sansPorts (s : State) (d : DieId) (p : Nat) (h0 h1 : Word) (w : List Word) (ok : Bool) :
    (sendFrame s d p h0 h1 w ok).links.sansPorts = s.links.sansPorts := by
  unfold sendFrame
  split
  · rw [emitFrame_sansPorts, wake_sansPorts]
  · rfl

theorem State.hop_of_sansPorts {s t : State} (h : t.links.sansPorts = s.links.sansPorts) (p pos : Nat) : t.hop p pos = s.hop p pos := by
  have hhops := congrArg Links.hops h
  exact congrArg (fun l => Tbl.get {} l (p * 32 + pos)) hhops

/-! ### Receive states (R192, R195, R199, R205, R538) -/

theorem startHop_rx (s : State) (p pos k : Nat) : ((startHop s p pos).port k).rx = (s.port k).rx := by
  rw [startHop, sendPing, sendTime_rx]
  rfl

/-- A segment that comes UP calibrates hops, and leaves the receive state of every port. -/
theorem segmentUp_rx (s : State) (p k : Nat) : ((segmentUp s p).port k).rx = (s.port k).rx := by
  refine State.each_keeps (fun s => (s.port k).rx) _ _ fun s t => ?_
  refine (State.each_keeps (fun s => (s.port k).rx) _ _ fun s j => startHop_rx ..).trans ?_
  rw [(markTile_does s t).same.port (by decide)]

/-- What every step of a run over a list keeps, for the elements of the list, the run keeps. -/
theorem State.each_keeps_mem {α β : Type} (p : State → β) {l : List α} {f : State → α → State}
    (h : ∀ s, ∀ x ∈ l, p (f s x) = p s) (s : State) : p (s.each l f) = p s := by
  unfold State.each
  induction l generalizing s with
  | nil => rfl
  | cons x l ih => rw [List.foldl_cons, ih fun s y hy => h s y (List.mem_cons_of_mem x hy), h s x List.mem_cons_self]

/-- The windows on a port's loop are those of tile-link lanes. -/
theorem closeLoop_keeps {β : Type} (q : State → β) (h : ∀ s d k, q (closeWindow s (.tileLane d k)) = q s) (s : State) (p : Nat) :
    q (closeLoop s p) = q s := by
  refine State.each_keeps_mem q (fun s i hi => ?_) s
  obtain ⟨⟨j, c⟩, hj, rfl⟩ := List.mem_map.1 hi
  cases j
  case tileLane d k => exact h s d k
  all_goals simp at hj

/-- What the lane's values, its path and the events of its calibration leave, the end of its window leaves (R535, R541). -/
theorem closeLane_keeps {β : Type} (q : State → β) {d : DieId} {j : Nat} (hlane : ∀ s v, q (setLane s d j v) = q s)
    (hpath : ∀ s g, q (setPath (s.modCal (.tileLane d j) g) (.tileLane d j) false) = q s)
    (hevent : ∀ s code, q (calEvent s (.tileLane d j) code) = q s) (s : State) : q (closeWindow s (.tileLane d j)) = q s := by
  have hvalues : q (if (s.cal (.tileLane d j)).results.isEmpty then s else setLane s d j (s.cal (.tileLane d j)).values) = q s := by
    split
    · rfl
    · exact hlane s _
  unfold closeWindow
  dsimp only
  split
  · rfl
  · split <;> simp only [hevent, hpath, hvalues]

theorem setLane_rx (s : State) (d : DieId) (j : Nat) (v : List Int) (k : Nat) : ((setLane s d j v).port k).rx = (s.port k).rx := by
  unfold setLane sendLinkset
  dsimp only
  split
  · exact State.modPort_rx _ _ (fun _ => by rfl) k
  · rw [sendTime_rx]
    exact State.modPort_rx _ _ (fun _ => by rfl) k

theorem closeLane_rx (s : State) (d : DieId) (j k : Nat) : ((closeWindow s (.tileLane d j)).port k).rx = (s.port k).rx :=
  closeLane_keeps (fun s => (s.port k).rx) (fun s v => setLane_rx s d j v k)
    (fun s g => State.modPort_rx (s.modCal (.tileLane d j) g) _ (fun _ => by rfl) k) (fun s code => by rw [calEvent, raise_port]) s

theorem closeLane_event (s : State) (d : DieId) (j e : Nat) (h : ∀ x, e ≠ calSource x) :
    (closeWindow s (.tileLane d j)).event e = s.event e :=
  closeLane_keeps (fun s => s.event e) (fun s v => (setLane_does s d j v).same.event (by decide) e) (fun _ _ => rfl)
    (fun s code => raise_event_ne s _ _ _ _ (h _)) s

theorem portSource_ne_calSource (p : Nat) (x : Die3) : portSource p ≠ calSource x := by
  cases x <;> simp only [portSource, calSource] <;> split <;> omega

/-- A segment that falls is DOWN, with one event of its port. -/
theorem linkFalls_spec (s : State) (p : Nat) : ((linkFalls s p).port p).rx = .down ∧
    (s.hub.cpFailed = false → ((linkFalls s p).event (portSource p)).count = (s.event (portSource p)).count + 1) := by
  have hsent : Does [.links, .out, .free] s (if s.transmits p = true then wake s p false else s) := by
    split
    · exact wake_does s p false
    · exact Does.refl _ s
  unfold linkFalls
  dsimp only
  refine ⟨?_, fun hcp => ?_⟩
  · rw [closeLoop_keeps (fun s => (s.port p).rx) fun s d k => closeLane_rx s d k p, raise_port, State.modPort_port_self]
  · rw [closeLoop_keeps (fun s => s.event (portSource p)) fun s d k => closeLane_event s d k _ (portSource_ne_calSource p),
      raise_count _ _ _ _ _ (by rw [State.modPort_hub, hsent.same.hub (by decide), hcp]),
      (State.modPort_does _ p _).same.event (by decide), hsent.same.event (by decide)]

/-- A segment that is ALIGNED comes UP, with one event of its port. -/
theorem linkUp_spec {s : State} {p : Nat} (halive : s.alive p = true) (hrx : (s.port p).rx = .aligned) :
    ∃ t, exec (.linkUp p) s = .next t ∧ (t.port p).rx = .up ∧
      (s.hub.cpFailed = false → (t.event (portSource p)).count = (s.event (portSource p)).count + 1) := by
  have hsent : Does [.links, .out, .free] s
      (if (s.port p).tx = .quiet then wake s p true else if s.transmits p then emitIdle s p else s) := by
    split
    · exact wake_does s p true
    · split
      · exact emitIdle_does s p
      · exact Does.refl _ s
  refine ⟨_, congrArg Host.Outcome.next (if_pos (by simp [halive, hrx])), ?_, fun hcp => ?_⟩
  · rw [segmentUp_rx, (State.modCal_does _ _ _).same.port (by decide), raise_port, State.modPort_port_self]
  · rw [(segmentUp_does _ _).same.event (by decide), (State.modCal_does _ _ _).same.event (by decide),
      raise_count _ _ _ _ _ (by rw [State.modPort_hub, hsent.same.hub (by decide), hcp]),
      (State.modPort_does _ p _).same.event (by decide), hsent.same.event (by decide)]

section ReceiveStates
variable {s : State} {p : Nat} {headers : List Bool} (halive : s.alive p = true)

/-- Without 64 valid headers in a row nothing happens. -/
theorem linkBlockLock_unlocked (hlock : lockFound headers = false) : exec (.linkBlockLock ⟨p, headers⟩) s = .next s := by
  simp [exec, execLinkBlockLock, hlock]

/-- A quiet segment does not fall by silence of its line (R192, R193). -/
theorem linkDown_quiet (signal : Bool) (hrx : (s.port p).rx = .upQuiet) : exec (.linkDown ⟨p, signal, headers⟩) s = .next s := by
  simp [exec, execLinkDown, hrx]

include halive

theorem linkSignalDetect_down (hrx : (s.port p).rx = .down) :
    exec (.linkSignalDetect p) s = .next (s.modPort p fun x => { x with rx := .locking }) := by
  simp [exec, execLinkSignalDetect, halive, hrx]

theorem linkBlockLock_locking (hlock : lockFound headers = true) (hrx : (s.port p).rx = .locking) :
    exec (.linkBlockLock ⟨p, headers⟩) s = .next (s.modPort p fun x => { x with rx := .aligned }) := by
  simp [exec, execLinkBlockLock, halive, hlock, hrx]

theorem linkBlockLock_quiet (hlock : lockFound headers = true) (hrx : (s.port p).rx = .upQuiet) :
    exec (.linkBlockLock ⟨p, headers⟩) s = .next (s.modPort p fun x => { x with rx := .up, rxSleep := false }) := by
  simp [exec, execLinkBlockLock, halive, hlock, hrx]

theorem linkLockTimeout_locking (hrx : (s.port p).rx = .locking) :
    exec (.linkLockTimeout p) s = .next (raise (s.modPort p fun x => { x with rx := .down }) (portSource p) 3 0) := by
  simp [exec, execLinkLockTimeout, halive, hrx]

theorem linkQuiet_up (hrx : (s.port p).rx = .up) :
    exec (.linkQuiet p) s = .next (s.modPort p fun x => { x with rx := .upQuiet, rxSleep := true }) := by
  simp [exec, execLinkQuiet, halive, hrx]

theorem linkDown_up {signal : Bool} (hrx : (s.port p).rx = .up) (hlost : signal = false ∨ lockLost headers = true) :
    exec (.linkDown ⟨p, signal, headers⟩) s = .next (linkFalls s p) := by
  rcases hlost with h | h <;> simp [exec, execLinkDown, halive, h, hrx]

theorem quietSilenceTimeout_quiet (hrx : (s.port p).rx = .upQuiet) :
    exec (.quietSilenceTimeout p) s = .next (linkFalls s p) := by
  simp [exec, execQuietSilenceTimeout, halive, hrx]

end ReceiveStates

/-! ### TIME SYNC and KEEPALIVE (R183, R184, R190, R194) -/

theorem transmits_tx {s : State} {p : Nat} (h : s.transmits p = true) : (s.port p).tx ≠ .off := by
  simp only [State.transmits, Bool.and_eq_true, decide_eq_true_eq] at h
  exact h.2

theorem timeSync_on {s : State} {p : Nat} (h : s.transmits p = true) (hon : (s.port p).tx = .on) (hspread : (s.port p).spread = 0) :
    exec (.timeSync p) s =
      .next ((emitFrame s p (portHeader s p 3 true 6) 0 [0, BitVec.ofNat 64 s.wall, 0, 0, 0, 0]).modPort p
        fun y => { y with lastSync := s.uptime }) := by
  have hphase : (BitVec.ofNat 64 0 ||| 0 ||| put 0 8 48 : Word) = 0 := by decide
  simp only [exec, execTimeSync, h, if_true, wake_of_on hon, emitTime, hspread, hphase, portHeader]

theorem timeSync_port {s : State} {p : Nat} (h : s.transmits p = true) : ∃ u, exec (.timeSync p) s = .next u ∧
    (u.port p).tx = .on ∧ (u.port p).lastSync = s.uptime ∧ (u.port p).lastSent = s.uptime := by
  refine ⟨_, congrArg Host.Outcome.next (if_pos h), ?_⟩
  rw [emitTime_port, if_pos rfl]
  exact ⟨wake_tx (transmits_tx h) false, wake_uptime s p false, wake_uptime s p false⟩

theorem keepalive_on {s : State} {p : Nat} (h : s.transmits p = true) (hon : (s.port p).tx = .on) :
    exec (.keepalive p) s = .next (emitFrame s p (portHeader s p 9 false 0) 0 []) := by
  simp only [exec, execKeepalive, h, if_true, wake_of_on hon]

theorem keepalive_port {s : State} {p : Nat} (h : s.transmits p = true) : ∃ u, exec (.keepalive p) s = .next u ∧
    (u.port p).tx = .on ∧ (u.port p).lastSent = s.uptime := by
  refine ⟨_, congrArg Host.Outcome.next (if_pos h), ?_⟩
  rw [emitFrame_port, if_pos rfl]
  exact ⟨wake_tx (transmits_tx h) true, wake_uptime s p true⟩

/-! ### A frame that arrives (R161, R162, R166, R173) -/

/-- What every arrival counts at its port: control blocks of reserved types and corrected words. -/
def arrivalCounted (s : State) (p : Nat) (a : Arrival) : State :=
  s.modPort p fun y =>
    { y with nReserved := y.nReserved + BitVec.ofNat 32 (a.fill.countP fun t => !knownControl t),
             nCorrected := y.nCorrected + BitVec.ofNat 32 (fixedWords a) }

section Arrival
variable {s : State} {p : Nat} {a : Arrival} {f : Frame}

theorem hear_invalid (h : frameOf a = none) : hear s p a = ((arrivalCounted s p a).modPort p fun y =>
    { y with nInvalid := y.nInvalid + 1, nUncorr := y.nUncorr + BitVec.ofNat 32 (badWords a) }, none) := by
  simp only [hear, h, arrivalCounted]

theorem hear_downstream (h : frameOf a = some f) (ho : f.origin ≤ 2) :
    hear s p a = ((arrivalCounted s p a).modPort p fun y => { y with nOrigin := y.nOrigin + 1 }, none) := by
  simp only [hear, h, if_pos ho, arrivalCounted]

theorem hear_upstream (h : frameOf a = some f) (ho : f.origin = 3) : hear s p a = (arrivalCounted s p a, some f) := by
  simp only [hear, h, if_neg (show ¬f.origin ≤ 2 by omega), arrivalCounted]

/-- The five rows that bring a frame from the line do the same with one that is not heard. -/
theorem exec_unheard {i : Instr} {u : State} (hhears : s.hears p = true)
    (hi : i = .upstreamFrameInvalid p a ∨ i = .downstreamFrameDiscard p a ∨ i = .echoReceived p a.fill a.codes ∨
      i = .statusReceived p a.fill a.codes ∨ ∃ t4, i = .pongReceived p a.fill a.codes t4)
    (h : hear s p a = (u, none)) : exec i s = .next u := by
  rcases hi with rfl | rfl | rfl | rfl | ⟨t4, rfl⟩
  case inl => simp only [exec, execUpstreamFrameInvalid, hhears, if_true, h]
  case inr.inl => simp only [exec, execDownstreamFrameDiscard, hhears, if_true, h]
  case inr.inr.inl => simp [exec, execEchoReceived, hhears, h]
  case inr.inr.inr.inl => simp [exec, execStatusReceived, hhears, h]
  case inr.inr.inr.inr => simp [exec, execPongReceived, hhears, h]

variable (hhears : s.hears p = true) (h : frameOf a = some f) (ho : f.origin = 3)
include hhears h ho

theorem echoReceived_takes (ht : f.type = 8) :
    exec (.echoReceived p a.fill a.codes) s = .next (takeEcho (arrivalCounted s p a) p f) := by
  simp [exec, execEchoReceived, hhears, hear_upstream h ho, ht]

theorem statusReceived_takes (ht : f.type = 7) :
    exec (.statusReceived p a.fill a.codes) s = .next (takeStatus (arrivalCounted s p a) p f) := by
  simp [exec, execStatusReceived, hhears, hear_upstream h ho, ht]

theorem pongReceived_takes {t4 : Int} (ht : f.type = 3) (hkind : fld (wordAt f.payload 0) 3 0 = 2) :
    exec (.pongReceived p a.fill a.codes t4) s = .next (takePong (arrivalCounted s p a) p f.payload t4) := by
  simp [exec, execPongReceived, hhears, hear_upstream h ho, ht, hkind]

end Arrival

/-! ### The upstream counter (R168, R174) -/

/-- A stale frame is counted. -/
def staleCounted (s : State) (p : Nat) : State := s.modPort p fun y => { y with nStale := y.nStale + 1 }

/-- The UCNT of a fresh frame is kept. -/
def ucntKept (s : State) (p : Nat) (f : Frame) : State :=
  s.modPort p fun y => { y with ucnt := Tbl.set none y.ucnt f.tile (some f.ucnt) }

section Ucnt
variable {s : State} {p : Nat} {f : Frame}

theorem takeUcnt_fresh (h : ∀ u, Tbl.get none (s.port p).ucnt f.tile = some u → newer f.ucnt u = true) :
    takeUcnt s p f = (ucntKept s p f, true) := by
  unfold takeUcnt
  cases hu : Tbl.get none (s.port p).ucnt f.tile with
  | none => rfl
  | some u => simp only [h u hu, if_true]; rfl

variable (h : ∀ u, Tbl.get none (s.port p).ucnt f.tile = some u → newer f.ucnt u = false)
  (hsome : (Tbl.get none (s.port p).ucnt f.tile).isSome)
include h hsome

theorem takeUcnt_stale : takeUcnt s p f = (staleCounted s p, false) := by
  obtain ⟨u, hu⟩ := Option.isSome_iff_exists.1 hsome
  simp only [takeUcnt, hu, h u hu, Bool.false_eq_true, if_false]
  rfl

theorem takeEcho_stale : takeEcho s p f = staleCounted s p := by
  simp [takeEcho, takeUcnt_stale h hsome]

theorem takeStatus_stale : takeStatus s p f = staleCounted s p := by
  simp [takeStatus, takeUcnt_stale h hsome]

end Ucnt

/-! ### ECHO of a region (R189, R217) -/

@[simp] theorem State.modResults_port (s : State) (d : DieId) (g : Tbl (Option RegionRes) → Tbl (Option RegionRes)) (p : Nat) :
    (s.modResults d g).port p = s.port p := (State.modResults_does s d g).same.port (by decide) p

/-- An echo with the CRC that was sent confirms the region and its send of the frame before, and leaves the upstream counters. -/
theorem echoRegion_confirms {s : State} {p tile frame24 region : Nat} {crc : BitVec 32} {x : SentRegion}
    (hfind : ((s.port p).sent.find? fun z => z.tile = tile && z.region = region && z.frame % 2 ^ 24 = frame24) = some x)
    (hcrc : x.crc = crc) : ((echoRegion s p tile frame24 region crc).port p).ucnt = (s.port p).ucnt ∧
      ∀ z ∈ ((echoRegion s p tile frame24 region crc).port p).sent, z.tile = tile → z.region = region →
        z.frame = x.frame ∨ z.frame + 1 = x.frame → z.confirmed = true := by
  unfold echoRegion
  simp only [hfind, if_pos hcrc, State.modPort_port_self]
  refine ⟨?_, fun z hz htile hregion hframe => ?_⟩
  · repeat' split
    all_goals simp
  · obtain ⟨z0, _, hz0⟩ := List.mem_map.1 hz
    split at hz0
    next => rw [← hz0]
    next hn =>
      subst hz0
      exact absurd (by simp [htile, hregion, hframe]) hn

/-- A fresh ECHO of one region with the CRC that was sent confirms it, and keeps the UCNT. -/
theorem takeEcho_confirms {s : State} {p : Nat} {f : Frame} {w : Word} {x : SentRegion}
    (h : ∀ u, Tbl.get none (s.port p).ucnt f.tile = some u → newer f.ucnt u = true)
    (hpayload : f.payload = [w]) (hkind : fld w 49 48 = 0)
    (hfind : ((s.port p).sent.find? fun z => z.tile = f.tile && z.region = fld w 47 32 && z.frame % 2 ^ 24 = f.frame24) = some x)
    (hcrc : x.crc = BitVec.ofNat 32 (fld w 31 0)) :
    Tbl.get none ((takeEcho s p f).port p).ucnt f.tile = some f.ucnt ∧
      ∀ z ∈ ((takeEcho s p f).port p).sent, z.tile = f.tile → z.region = fld w 47 32 →
        z.frame = x.frame ∨ z.frame + 1 = x.frame → z.confirmed = true := by
  have htake : takeEcho s p f =
      echoRegion (ucntKept s p f) p f.tile f.frame24 (fld w 47 32) (BitVec.ofNat 32 (fld w 31 0)) := by
    simp [takeEcho, takeUcnt_fresh h, hpayload, State.each, echoEntry, hkind]
  have hport : ((ucntKept s p f).port p).sent = (s.port p).sent := by rw [ucntKept, State.modPort_port_self]
  obtain ⟨hucnt, hconfirmed⟩ := echoRegion_confirms (s := ucntKept s p f) (p := p) (by rw [hport]; exact hfind) hcrc
  rw [htake]
  refine ⟨?_, hconfirmed⟩
  rw [hucnt, ucntKept, State.modPort_port_self]
  exact Tbl.get_set_self none (s.port p).ucnt f.tile (some f.ucnt)

/-! ### PONG of a hop calibration (R204, R205) -/

theorem State.modHop_hop_self (s : State) (p pos : Nat) (g : Hop → Hop) : (s.modHop p pos g).hop p pos = g (s.hop p pos) :=
  Tbl.get_modify_self ..

/-- A hop calibration that ends with a pair of runs that agree writes their mean. -/
theorem endHop_agrees (s : State) (p pos : Nat) (a b : Int) :
    ((endHop s p pos (some (a, b))).hop p pos).linkdly = (roundDivI (a + b) 2).toNat ∧
      ((endHop s p pos (some (a, b))).hop p pos).suspect = false ∧ ((endHop s p pos (some (a, b))).hop p pos).due = false := by
  unfold endHop
  dsimp only
  split
  · simp [State.modHop_hop_self]
  · unfold sendSet
    split
    · simp [State.modHop_hop_self]
    · simp [State.hop_of_sansPorts (sendTime_sansPorts ..), State.modHop_hop_self]

/-- A second run within 0.5 ns of the first ends the calibration. -/
theorem hopRun_agrees {s : State} {p pos : Nat} {words : List Word} {t4 a d : Int} (hruns : (s.hop p pos).runs = [a])
    (hd : d = roundDivI (t4 - (wordAt words 1).toNat * 65536 - (wordAt words 3).toNat - (wordAt words 2).toNat) 2)
    (hnear : (a - d).natAbs ≤ 32768) : ∃ u, hopRun s p pos words t4 = endHop u p pos (some (a, d)) := by
  have hpair : hopPair [a, d] = some (a, d) := by simp [hopPair, hnear]
  refine ⟨s.modHop p pos fun h => { h with runs := [a, d], sentAt := none }, ?_⟩
  simp only [hopRun, ← hd, hruns, List.cons_append, List.nil_append, hpair]

/-- The second run of a hop calibration, within 0.5 ns of the first, ends it with the mean of the two (R204, R205). -/
theorem pongReceived_agrees {s : State} {p t : Nat} {b : Arrival} {f : Frame} {t4 a d : Int} (hhears : s.hears p = true)
    (h : frameOf b = some f) (ho : f.origin = 3) (ht : f.type = 3) (hkind : fld (wordAt f.payload 0) 3 0 = 2)
    (haway : s.tileAway p (fld (wordAt f.payload 0) 11 8) = some t)
    (hsent : (s.hop p (s.posOf t)).sentAt = some (wordAt f.payload 1).toNat) (hdue : (s.hop p (s.posOf t)).due = true)
    (hruns : (s.hop p (s.posOf t)).runs = [a])
    (hd : d = roundDivI (t4 - (wordAt f.payload 1).toNat * 65536 - (wordAt f.payload 3).toNat - (wordAt f.payload 2).toNat) 2)
    (hnear : (a - d).natAbs ≤ 32768) :
    ∃ u, exec (.pongReceived p b.fill b.codes t4) s = .next u ∧ (u.hop p (s.posOf t)).linkdly = (roundDivI (a + d) 2).toNat ∧
      (u.hop p (s.posOf t)).suspect = false ∧ (u.hop p (s.posOf t)).due = false := by
  have hc : ∀ j, (arrivalCounted s p b).hop p j = s.hop p j := fun _ => rfl
  have hpos : (arrivalCounted s p b).posOf t = s.posOf t := rfl
  have haway' : (arrivalCounted s p b).tileAway p (fld (wordAt f.payload 0) 11 8) = some t := haway
  obtain ⟨u, hu⟩ := hopRun_agrees (s := arrivalCounted s p b) (pos := s.posOf t) (hruns := hruns) hd hnear
  refine ⟨_, (pongReceived_takes hhears h ho ht hkind).trans (congrArg _ ?_), endHop_agrees u p (s.posOf t) a d⟩
  simp only [takePong, haway', hpos, hc, hsent, hdue, decide_true, Bool.and_self, if_true, hu]

/-! ### The dies' copies of a tile's last STATUS (R249, R250) -/

/-- A die's copy of tile `k`'s last STATUS. -/
def State.statusOf (s : State) (d : DieId) (k : Nat) : Option StatusRec :=
  match d with
  | .a => (s.tile k).statusA
  | .b => (s.tile k).statusB

theorem State.statusOf_of_tile {s t : State} {k : Nat} (h : t.tile k = s.tile k) (d : DieId) : t.statusOf d k = s.statusOf d k := by
  cases d <;> simp only [State.statusOf, h]

theorem State.tile_of_sansPorts {s t : State} (h : t.links.sansPorts = s.links.sansPorts) (k : Nat) : t.tile k = s.tile k := by
  have htiles := congrArg Links.tiles h
  exact congrArg (fun l => Tbl.get {} l k) htiles

theorem Same.statusOf {l : List Part} {s t : State} (h : Same l s t) (hl : Part.links ∉ l) (d : DieId) (k : Nat) :
    t.statusOf d k = s.statusOf d k :=
  State.statusOf_of_tile (by rw [State.tile, h.links hl, State.tile]) d

/-- A tile's change leaves the copies, where it leaves those of the tile. -/
theorem State.modTile_statusOf (s : State) (t : Nat) {g : Tile → Tile} (d : DieId) (k : Nat)
    (hA : ∀ x, (g x).statusA = x.statusA) (hB : ∀ x, (g x).statusB = x.statusB) :
    (s.modTile t g).statusOf d k = s.statusOf d k := by
  by_cases h : k = t
  · subst h
    cases d <;> simp [State.statusOf, hA, hB]
  · exact State.statusOf_of_tile (by rw [State.modTile_tile, if_neg h]) d

section StatusKept
variable (s : State) (d : DieId) (k : Nat)

theorem sendFrame_statusOf (e : DieId) (p : Nat) (h0 h1 : Word) (w : List Word) (ok : Bool) :
    (sendFrame s e p h0 h1 w ok).statusOf d k = s.statusOf d k :=
  State.statusOf_of_tile (State.tile_of_sansPorts (sendFrame_sansPorts ..) k) d

theorem sendTime_statusOf (p word0 : Nat) (arg : Word) (t : Nat) (bcast : Bool) :
    (sendTime s p word0 arg t bcast).statusOf d k = s.statusOf d k :=
  State.statusOf_of_tile (State.tile_of_sansPorts (sendTime_sansPorts ..) k) d

theorem sendMgmt_statusOf (t type : Nat) (w : List Word) (relayed : Bool) :
    (sendMgmt s t type w relayed).statusOf d k = s.statusOf d k := by
  unfold sendMgmt
  split
  · rfl
  · refine (State.each_keeps (State.statusOf · d k) _ _ fun s e => sendFrame_statusOf s d k ..).trans ?_
    exact State.modTile_statusOf _ t d k (fun _ => rfl) (fun _ => rfl)

theorem sendMgmtAll_statusOf (port type : Nat) (w : List Word) :
    (sendMgmtAll s port type w).statusOf d k = s.statusOf d k := by
  refine (State.each_keeps (State.statusOf · d k) _ _ fun s e => sendFrame_statusOf s d k ..).trans ?_
  exact State.each_keeps (State.statusOf · d k) _ _ fun s t => State.modTile_statusOf s t d k (fun _ => rfl) (fun _ => rfl)

theorem sendStage_statusOf (x : Txn) (t : Nat) : (sendStage s x t).statusOf d k = s.statusOf d k := by
  refine State.each_keeps (State.statusOf · d k) _ _ fun s i => ?_
  split
  · exact sendMgmt_statusOf ..
  · rfl

theorem sendStages_statusOf (x : Txn) : (sendStages s x).statusOf d k = s.statusOf d k := by
  refine State.each_keeps (State.statusOf · d k) _ _ fun s p => ?_
  split
  · refine State.each_keeps (State.statusOf · d k) _ _ fun s i => ?_
    split
    · exact sendMgmtAll_statusOf ..
    · rfl
  · exact State.each_keeps (State.statusOf · d k) _ _ fun s t => sendStage_statusOf ..

theorem startTxn_statusOf (kind : TxnKind) (c : Option Nat) (src : Nat) (id : Option Nat) (tiles : List Nat)
    (data : List (Nat × Nat × List Word)) (n t : Nat) :
    (startTxn s kind c src id tiles data n t).statusOf d k = s.statusOf d k := by
  refine (sendStages_statusOf ..).trans ?_
  exact State.each_keeps (State.statusOf · d k) _ _ fun s p => rfl

theorem raise_statusOf (src code : Nat) (data : Word) (frame : Nat) (t : Option Nat) :
    (raise s src code data frame t).statusOf d k = s.statusOf d k :=
  (raise_does s src code data frame t).same.statusOf (by decide) d k

theorem markTile_statusOf (t : Nat) : (markTile s t).statusOf d k = s.statusOf d k :=
  (markTile_does s t).same.statusOf (by decide) d k

theorem segmentUp_statusOf (p : Nat) : (segmentUp s p).statusOf d k = s.statusOf d k := by
  refine State.each_keeps (State.statusOf · d k) _ _ fun s t => ?_
  refine (State.each_keeps (State.statusOf · d k) _ _ fun s j => ?_).trans (markTile_statusOf s d k t)
  exact sendTime_statusOf ..

theorem tileEvent_statusOf (t code : Nat) (rest : Word) : (tileEvent s t code rest).statusOf d k = s.statusOf d k :=
  raise_statusOf ..

theorem holdBack_statusOf (t cause : Nat) : (holdBack s t cause).statusOf d k = s.statusOf d k := by
  unfold holdBack
  split
  · rfl
  · rw [tileEvent_statusOf]
    exact State.modTile_statusOf s t d k (fun _ => rfl) (fun _ => rfl)

theorem configureTile_statusOf (t : Nat) : (configureTile s t).statusOf d k = s.statusOf d k := by
  have hmark : ∀ g : Tile → Tile, (∀ x, (g x).statusA = x.statusA) → (∀ x, (g x).statusB = x.statusB) →
      (markTile (s.modTile t g) t).statusOf d k = s.statusOf d k :=
    fun g hA hB => (markTile_statusOf ..).trans (State.modTile_statusOf s t d k hA hB)
  unfold configureTile
  dsimp only
  split
  · rfl
  · split
    · exact hmark _ (fun _ => rfl) (fun _ => rfl)
    · repeat' split
      all_goals exact (startTxn_statusOf ..).trans (hmark _ (fun _ => rfl) (fun _ => rfl))

theorem judgeStatus_statusOf (t : Nat) : (judgeStatus s t).statusOf d k = s.statusOf d k := by
  have hmod := State.modTile_statusOf s t (g := fun y => { y with awaitStatus := false }) d k (fun _ => rfl) (fun _ => rfl)
  unfold judgeStatus
  dsimp only
  repeat' split
  all_goals simp only [holdBack_statusOf, configureTile_statusOf, hmod]

theorem takeVersion_statusOf (t : Nat) (ver : BitVec 32) : (takeVersion s t ver).statusOf d k = s.statusOf d k := by
  have hmod := State.modTile_statusOf s t (g := fun x => { x with fwVersion := some ver }) d k (fun _ => rfl) (fun _ => rfl)
  unfold takeVersion
  dsimp only
  split
  · split
    · exact (tileEvent_statusOf ..).trans hmod
    · exact hmod
  · exact hmod

theorem statusEvents_statusOf (t : Nat) (old : Option StatusRec) (w : List Word) :
    (statusEvents s t old w).statusOf d k = s.statusOf d k := by
  have hilim : ∀ c : Bool, (if c then tileEvent s t 3 else s).statusOf d k = s.statusOf d k := by
    intro c
    cases c
    · rfl
    · exact tileEvent_statusOf ..
  have hdust : ∀ (u : State) (a b : Bool), (if a then u.modTile t fun x => { x with dustTold := false }
      else if b then u else tileEvent (u.modTile t fun x => { x with dustTold := true }) t 4).statusOf d k = u.statusOf d k := by
    intro u a b
    cases a <;> cases b
    case false.false => exact (tileEvent_statusOf ..).trans (State.modTile_statusOf u t d k (fun _ => rfl) (fun _ => rfl))
    case false.true => rfl
    all_goals exact State.modTile_statusOf u t d k (fun _ => rfl) (fun _ => rfl)
  exact (hdust _ _ _).trans (hilim _)

theorem gather_statusOf (t : Nat) (w : List Word) : (gather s t w).statusOf d k = s.statusOf d k :=
  (gather_does s t w).same.statusOf (by decide) d k

theorem settleChain_statusOf (p : Nat) : (settleChain s p).statusOf d k = s.statusOf d k := by
  unfold settleChain
  split
  · split
    · unfold endChain
      exact ((finishLong_does ..).same.statusOf (by decide) d k).trans (raise_statusOf ..)
    · rfl
  · rfl

end StatusKept

/-- The STATUS of a fresh frame, as its die keeps it. -/
def statusRec (s : State) (p : Nat) (f : Frame) : StatusRec :=
  { words := f.payload, frame := fullFrame (ucntKept s p f) f.tile f.frame24, at_ := s.uptime }

/-- The tile with its die's copy of that STATUS. -/
def statusKept (s : State) (p : Nat) (f : Frame) : State :=
  (ucntKept s p f).modTile f.tile fun x => { x.setStatus (portDie p) (some (statusRec s p f)) with quietSent := false }

/-- What a STATUS that is news gives rise to on the tile's loop or chain `q`. -/
def statusFollows (u : State) (q t : Nat) (old : Option StatusRec) (words : List Word) : State :=
  let v := judgeStatus (takeVersion (statusEvents (gather u t words) t old words) t
    (BitVec.ofNat 32 (fld (wordAt words 2) 63 32))) t
  settleChain (if segmentRose old words then segmentUp v q else v) q

theorem statusKept_statusOf (s : State) (p : Nat) (f : Frame) :
    (statusKept s p f).statusOf (portDie p) f.tile = some (statusRec s p f) := by
  cases h : portDie p <;> simp [statusKept, h, State.statusOf, Tile.setStatus]

theorem statusFollows_statusOf (u : State) (q t : Nat) (old : Option StatusRec) (words : List Word) (d : DieId) (k : Nat) :
    (statusFollows u q t old words).statusOf d k = u.statusOf d k := by
  have hjudged := ((judgeStatus_statusOf (takeVersion (statusEvents (gather u t words) t old words) t
    (BitVec.ofNat 32 (fld (wordAt words 2) 63 32))) d k t).trans (takeVersion_statusOf ..)).trans
      ((statusEvents_statusOf ..).trans (gather_statusOf ..))
  rw [statusFollows, settleChain_statusOf]
  split
  · rw [segmentUp_statusOf, hjudged]
  · exact hjudged

/-- A fresh STATUS of an assigned tile is kept; what follows, follows where it is news. -/
theorem takeStatus_fresh {s : State} {p : Nat} {f : Frame} (hassigned : (s.tile f.tile).assigned = true)
    (h : ∀ u, Tbl.get none (s.port p).ucnt f.tile = some u → newer f.ucnt u = true) :
    takeStatus s p f = statusKept s p f ∨ takeStatus s p f = statusFollows (statusKept s p f) (s.mapPort p) f.tile
      ((ucntKept s p f).tile f.tile).newest f.payload := by
  have htaken : ¬(!true || !((ucntKept s p f).tile f.tile).assigned) = true := by
    rw [show ((ucntKept s p f).tile f.tile).assigned = true from hassigned]
    decide
  unfold takeStatus
  rw [takeUcnt_fresh h]
  exact Or.imp (if_neg htaken).trans (if_neg htaken).trans (ite_eq_or_eq ..)

theorem takeStatus_statusOf {s : State} {p : Nat} {f : Frame} (hassigned : (s.tile f.tile).assigned = true)
    (h : ∀ u, Tbl.get none (s.port p).ucnt f.tile = some u → newer f.ucnt u = true) :
    (takeStatus s p f).statusOf (portDie p) f.tile = some (statusRec s p f) := by
  rcases takeStatus_fresh hassigned h with e | e
  · rw [e, statusKept_statusOf]
  · rw [e, statusFollows_statusOf, statusKept_statusOf]

/-! ### The rows -/

/-- Settles O22: each row by its clause, the frames by what their port counts and takes of them. -/
theorem tileLinks : Obligations.TileLinks := by
  refine ⟨fun s p signal headers halive => ?states, fun s p t b f t4 a d => ?time,
    fun s s1 p a f w x i hhears hs1 hi => ?frames⟩
  case states =>
    exact ⟨linkSignalDetect_down halive, linkBlockLock_locking halive, linkBlockLock_quiet halive, linkBlockLock_unlocked,
      linkLockTimeout_locking halive, linkUp_spec halive, linkQuiet_up halive,
      fun hrx hlost => ⟨_, linkDown_up halive hrx hlost, linkFalls_spec s p⟩, linkDown_quiet signal,
      fun hrx => ⟨_, quietSilenceTimeout_quiet halive hrx, (linkFalls_spec s p).1⟩⟩
  case time => exact ⟨timeSync_on, keepalive_on, timeSync_port, keepalive_port, pongReceived_agrees⟩
  case frames =>
    obtain rfl : s1 = arrivalCounted s p a := hs1
    have hport : (arrivalCounted s p a).port p = { s.port p with
        nReserved := (s.port p).nReserved + BitVec.ofNat 32 (a.fill.countP fun t => !knownControl t),
        nCorrected := (s.port p).nCorrected + BitVec.ofNat 32 (fixedWords a) } := State.modPort_port_self ..
    have hucnt : ((arrivalCounted s p a).port p).ucnt = (s.port p).ucnt := by rw [hport]
    rw [← hucnt]
    refine ⟨fun h => exec_unheard hhears hi (hear_invalid h), fun h ho => exec_unheard hhears hi (hear_downstream h ho),
      fun h ho hstale hsome => ⟨fun ht => ?_, fun ht => ?_⟩, fun h ho hfresh =>
        ⟨fun ht hpayload hkind hfind hcrc => ?_, fun ht hassigned => ?_⟩⟩
    · rw [echoReceived_takes hhears h ho ht, takeEcho_stale hstale hsome]
      rfl
    · rw [statusReceived_takes hhears h ho ht, takeStatus_stale hstale hsome]
      rfl
    · exact ⟨_, echoReceived_takes hhears h ho ht, takeEcho_confirms hfresh hpayload hkind (by rw [hport]; exact hfind) hcrc⟩
    · exact ⟨_, _, statusReceived_takes hhears h ho ht, takeStatus_statusOf (s := arrivalCounted s p a) hassigned hfresh, rfl, rfl⟩

end Sys2Proof.Machine

/-! ## Chain resets and the time-driven steps of tile transactions (07, 08) -/

namespace Sys2Proof.Machine

/-! ### What management frames leave of the tiles and the transactions (R178, R186, R240) -/

theorem Same.tile {l : List Part} {s t : State} (h : Same l s t) (hl : Part.links ∉ l) (k : Nat) : t.tile k = s.tile k := by
  rw [State.tile, h.links hl, State.tile]

theorem State.txns_of_sansPorts {s t : State} (h : t.links.sansPorts = s.links.sansPorts) : t.links.txns = s.links.txns := by
  have htxns := congrArg Links.txns h
  exact htxns

theorem State.chains_of_sansPorts {s t : State} (h : t.links.sansPorts = s.links.sansPorts) : t.links.chains = s.links.chains := by
  have hchains := congrArg Links.chains h
  exact hchains

@[simp] theorem State.modTile_chains (s : State) (t : Nat) (g : Tile → Tile) : (s.modTile t g).links.chains = s.links.chains := rfl

/-- The tiles beside their MSEQ, which every management frame counts, and the transactions. -/
def State.book (s : State) : (Nat → Tile) × List Txn := (fun k => { s.tile k with mseq := 0 }, s.links.txns)

theorem State.map_of_book {s t : State} (h : t.book = s.book) (k : Nat) : (t.tile k).map = (s.tile k).map :=
  congrArg (fun b => (b.1 k).map) h

theorem State.txns_of_book {s t : State} (h : t.book = s.book) : t.links.txns = s.links.txns := congrArg Prod.snd h

theorem State.countMseq_book (s : State) (t : Nat) : (s.modTile t fun x => { x with mseq := x.mseq + 1 }).book = s.book := by
  refine Prod.ext (funext fun k => ?_) rfl
  by_cases h : k = t <;> simp [State.book, State.modTile_tile, h]

theorem sendFrame_book (s : State) (d : DieId) (p : Nat) (h0 h1 : Word) (w : List Word) (ok : Bool) :
    (sendFrame s d p h0 h1 w ok).book = s.book := by
  have hlinks := sendFrame_sansPorts s d p h0 h1 w ok
  exact Prod.ext (funext fun k => by simp only [State.book, State.tile_of_sansPorts hlinks]) (State.txns_of_sansPorts hlinks)

theorem sendMgmt_book (s : State) (t type : Nat) (w : List Word) (relayed : Bool) :
    (sendMgmt s t type w relayed).book = s.book := by
  unfold sendMgmt
  split
  · rfl
  · exact (State.each_keeps State.book _ _ fun _ _ => sendFrame_book ..).trans (State.countMseq_book ..)

theorem sendMgmtAll_book (s : State) (port type : Nat) (w : List Word) : (sendMgmtAll s port type w).book = s.book :=
  (State.each_keeps State.book _ _ fun _ _ => sendFrame_book ..).trans
    (State.each_keeps State.book _ _ fun _ _ => State.countMseq_book ..)

theorem sendStage_book (s : State) (x : Txn) (t : Nat) : (sendStage s x t).book = s.book := by
  refine State.each_keeps State.book _ _ fun s i => ?_
  split
  · exact sendMgmt_book ..
  · rfl

theorem sendCommits_book (s : State) (x : Txn) : (sendCommits s x).book = s.book := by
  refine State.each_keeps State.book _ _ fun s p => ?_
  split
  · exact sendMgmtAll_book ..
  · exact State.each_keeps State.book _ _ fun s t => sendMgmt_book ..

/-- The end of a transaction changes its record, events and commands, and no tile (R241). -/
theorem endTxn_tile (s : State) (x : Txn) (failed : List Nat) (aborted : Bool) (k : Nat) :
    (endTxn s x failed aborted).tile k = s.tile k := by
  have htold : ∀ (c : Prop) [Decidable c] (u : State) (src code : Nat) (data : Word) (frame : Nat),
      (if c then u else raise u src code data frame).tile k = u.tile k := fun c _ u src code data frame => by
    split
    · rfl
    · exact (raise_does u src code data frame).same.tile (by decide) k
  have hended : ∀ (c : Prop) [Decidable c] (u : State) (who id status : Nat),
      (if c then finishLong u who id status else u).tile k = u.tile k := fun c _ u who id status => by
    split
    · exact (finishLong_does u who id status).same.tile (by decide) k
    · rfl
  rcases hid : x.id with _ | id <;> simp only [endTxn, hid, hended, htold] <;> rfl

/-! ### COMMIT of a chain reset (R226, R244, R246) -/

/-- A tile unassigned, of which no STATUS is kept. -/
def Tile.Forgotten (t : Tile) : Prop := t.assigned = false ∧ t.statusA = none ∧ t.statusB = none

theorem below_nodup (n : Nat) (p : Nat → Bool) : (below n p).Nodup := List.nodup_range.filter _

theorem mem_below {n k : Nat} {p : Nat → Bool} : k ∈ below n p ↔ k < n ∧ p k = true := by
  rw [below, List.mem_filter, List.mem_range]

/-- A run that changes each tile of a list once. -/
theorem State.each_modTile_tile {l : List Nat} {k : Nat} (g : Tile → Tile) (hnodup : l.Nodup) (hk : k ∈ l) (s : State) :
    (s.each l fun s t => s.modTile t g).tile k = g (s.tile k) := by
  obtain ⟨u, hread, hbefore⟩ := State.each_read_of_mem (p := State.tile) (s := s) (f := fun s t => s.modTile t g)
    (fun u t j hne => by rw [State.modTile_tile, if_neg hne]) hnodup hk
  rw [hread, State.modTile_tile_self, hbefore]

/-- As its map takes effect, a port forgets its tiles: their entries are reset, and the rest of the step leaves that. -/
theorem takeMap_forgotten {s : State} {k : Nat} {m : MapEntry} (hk : k < 512) (hmap : (s.tile k).map = some m) :
    ((takeMap s m.port).tile k).Forgotten := by
  unfold takeMap
  dsimp only
  refine State.each_preserves (fun u => (u.tile k).Forgotten) _ _ (fun u p h => h) ?_
  rw [(loadScrims_does _).same.tile (by decide)]
  refine State.each_preserves (fun u => (u.tile k).Forgotten) _ _ (fun u p h => ?settings) ?_
  case settings => split <;> exact h
  refine State.each_preserves (fun u => (u.tile k).Forgotten) _ _ (fun u t h => ?waits) ?_
  case waits =>
    rw [← (waitsInForce_does u t fun _ => true).same.tile (by decide) k] at h
    rw [State.modTile_tile]
    split
    next he => subst he; exact h
    next => exact h
  rw [State.each_modTile_tile _ (below_nodup ..) (mem_below.2 ⟨hk, ?mapped⟩)]
  case mapped => simp [hmap]
  repeat' split
  all_goals exact ⟨rfl, rfl, rfl⟩

theorem takeMap_chains (s : State) (port : Nat) : (takeMap s port).links.chains = s.links.chains := by
  unfold takeMap
  dsimp only
  rw [State.each_keeps (fun u => u.links.chains) _ _ fun u p => ?tx, (loadScrims_does _).same.links (by decide),
    State.each_keeps (fun u => u.links.chains) _ _ fun u p => ?settings,
    State.each_keeps (fun u => u.links.chains) _ _ fun u t => ?waits,
    State.each_keeps (fun u => u.links.chains) _ _ fun u t => ?entries]
  case tx => rfl
  case settings => split <;> rfl
  case waits => rw [State.modTile_chains, (waitsInForce_does ..).same.links (by decide)]
  case entries => rw [State.modTile_chains]

/-- COMMIT of a port's RESET leaves: of its transaction, which ends, or of a port without tiles. -/
def resetCommitted (s : State) (port : Nat) : State :=
  match s.links.txns.find? fun x => x.kind = .reset && x.inProgress && s.portsOf x.tiles = [port] with
  | some x => endTxn (sendCommits s x) x [] false
  | none => sendMgmtAll s port 5 [(s.port port).xid.setWidth 64, 0]

/-- The chain resets of a port are committed. -/
def chainsCommitted (s : State) (port : Nat) : State :=
  s.modLinks fun l => { l with chains := l.chains.map fun j => if j.port = port then { j with committed := true } else j }

theorem resetCommitted_map (s : State) (port k : Nat) : ((resetCommitted s port).tile k).map = (s.tile k).map := by
  unfold resetCommitted
  split
  · rw [endTxn_tile]
    exact State.map_of_book (sendCommits_book ..) k
  · exact State.map_of_book (sendMgmtAll_book ..) k

theorem chainsCommitted_committed {s : State} {port : Nat} {q : ChainJob} (hq : q ∈ (chainsCommitted s port).links.chains)
    (hport : q.port = port) : q.committed = true := by
  obtain ⟨j, -, rfl⟩ := List.mem_map.1 hq
  split at hport
  next he => rw [if_pos he]
  next hne => exact absurd hport hne

theorem chainResetCommit_due {s : State} {port : Nat} {j : ChainJob}
    (hfind : (s.links.chains.find? fun j => j.port = port && !j.committed) = some j) :
    exec (.chainResetCommit port) s = .next (takeMap (chainsCommitted (resetCommitted s port) port) port) := by
  simp only [exec, execChainResetCommit, hfind]
  rfl

/-- After COMMIT of its chain reset a port knows none of its tiles, and its chain resets are committed. -/
theorem chainResetCommit_forgets {s : State} {port : Nat} {j : ChainJob}
    (hfind : (s.links.chains.find? fun j => j.port = port && !j.committed) = some j) :
    ∃ u, exec (.chainResetCommit port) s = .next u ∧
      (∀ k m, k < 512 → (s.tile k).map = some m → m.port = port → (u.tile k).Forgotten) ∧
      (∀ q ∈ u.links.chains, q.port = port → q.committed = true) := by
  refine ⟨_, chainResetCommit_due hfind, fun k m hk hmap hport => ?_, fun q hq => ?_⟩
  · subst hport
    exact takeMap_forgotten hk ((resetCommitted_map s m.port k).trans hmap)
  · rw [takeMap_chains] at hq
    exact chainsCommitted_committed hq

/-! ### TILE_ASSIGN (R227) -/

/-- The mapped tiles of a port are being assigned, each with a PING by hop. -/
def assignPings (s : State) (port : Nat) : State :=
  s.each (s.portTiles port) fun s t =>
    sendPing (s.modTile t fun x => { x with assigning := true }) (s.leadPort port) (s.posOf t)

theorem sendPing_sansPorts (s : State) (p pos : Nat) : (sendPing s p pos).links.sansPorts = s.links.sansPorts :=
  sendTime_sansPorts ..

theorem assignPings_chains (s : State) (port : Nat) : (assignPings s port).links.chains = s.links.chains :=
  State.each_keeps (fun u => u.links.chains) _ _ fun u t => by
    rw [State.chains_of_sansPorts (sendPing_sansPorts ..), State.modTile_chains]

theorem State.portTiles_nodup (s : State) (port : Nat) : (s.portTiles port).Nodup :=
  (List.mergeSort_perm _ _).nodup_iff.2 (below_nodup ..)

theorem assignPings_assigning {s : State} {port k : Nat} (hk : k ∈ s.portTiles port) :
    ((assignPings s port).tile k).assigning = true := by
  obtain ⟨u, hread, -⟩ := State.each_read_of_mem (p := State.tile) (s := s)
    (f := fun s t => sendPing (s.modTile t fun x => { x with assigning := true }) (s.leadPort port) (s.posOf t))
    (fun u t j hne => by rw [State.tile_of_sansPorts (sendPing_sansPorts ..), State.modTile_tile, if_neg hne])
    (s.portTiles_nodup port) hk
  rw [assignPings, hread, State.tile_of_sansPorts (sendPing_sansPorts ..), State.modTile_tile_self]

/-- At a port without a chain reset assignment is the PINGs alone. -/
theorem tileAssign_unreset {s : State} {port : Nat} (h : ∀ j ∈ s.links.chains, j.port ≠ port) :
    exec (.tileAssign port) s = .next (assignPings s port) := by
  have hfind : ((assignPings s port).links.chains.find? fun j => j.port = port && j.committed) = none := by
    rw [assignPings_chains, List.find?_eq_none]
    exact fun j hj => by simp [h j hj]
  unfold assignPings at hfind
  simp only [exec, execTileAssign, hfind, assignPings]

theorem tileAssign_assigning (s : State) (port : Nat) : ∃ u, exec (.tileAssign port) s = .next u ∧
    ((∀ j ∈ s.links.chains, j.port ≠ port) → ∀ k ∈ s.portTiles port, (u.tile k).assigning = true) := by
  by_cases h : ∀ j ∈ s.links.chains, j.port ≠ port
  · exact ⟨_, tileAssign_unreset h, fun _ k hk => assignPings_assigning hk⟩
  · exact ⟨_, rfl, fun h' => absurd h' h⟩

/-! ### STAGE again, and its limit (R224, R240, R241) -/

section Staged
variable {s : State} {xid port : Nat} {x : Txn} (hx : s.txnAt xid port = some x)
include hx

theorem State.txnAt_mem : x ∈ s.links.txns ∧ x.inProgress = true := by
  have hfound := List.find?_some hx
  simp only [Bool.and_eq_true] at hfound
  obtain ⟨⟨hprogress, -⟩, -⟩ := hfound
  exact ⟨List.mem_of_find?_eq_some hx, hprogress⟩

theorem stageResend_due (hcommitted : x.committed = false) (hresent : x.resent = false) :
    exec (.stageResend xid port) s =
      .next ((s.each (x.tiles.filter fun t => !x.acked.contains t) fun s t => sendStage s x t).modTxn
        (fun y => y.same x && y.inProgress) fun y => { y with resent := true }) := by
  simp [exec, execStageResend, hx, hcommitted, hresent]

/-- The second staging is recorded in the transaction. -/
theorem stageResend_resent (hcommitted : x.committed = false) (hresent : x.resent = false) :
    ∃ u, exec (.stageResend xid port) s = .next u ∧ ∃ y ∈ u.links.txns, y.xid = x.xid ∧ y.resent = true := by
  obtain ⟨hmem, hprogress⟩ := State.txnAt_mem hx
  have hkept := State.txns_of_book (State.each_keeps (s := s) State.book (x.tiles.filter fun t => !x.acked.contains t) _
    fun s t => sendStage_book s x t)
  refine ⟨_, stageResend_due hx hcommitted hresent, _, List.mem_map_of_mem (hkept ▸ hmem), ?_⟩
  simp [Txn.same, hprogress]

theorem stageAckTimeout_fails (hcommitted : x.committed = false) (hkind : x.kind ≠ .reset) :
    exec (.stageAckTimeout xid port) s = .next (failTxn s x (x.tiles.filter fun t => !x.acked.contains t)) := by
  simp [exec, execStageAckTimeout, hx, hcommitted, hkind]

theorem stageAckTimeout_keeps (h : x.committed = true ∨ x.kind = .reset) :
    exec (.stageAckTimeout xid port) s = .next s := by
  rcases h with h | h <;> simp [exec, execStageAckTimeout, hx, h]

end Staged

/-! ### COMMIT again, and the end of a COMMIT without a frame (R240, R241) -/

section Committed
variable {s : State} {xid port : Nat} {x : Txn}
  (hx : (s.links.txns.find? fun x => decide (x.xid.toNat = xid) && (s.portsOf x.tiles).contains port) = some x)
  (hcommitted : x.committed = true) (hkind : x.kind ≠ .reset) (hprogress : x.inProgress = true)
include hx hcommitted hkind hprogress

theorem commitRepeat_repeats (h : x.frame ≠ 0 ∨ s.uptime < x.stagedAt + 100000000) :
    exec (.commitRepeat xid port) s =
      .next (s.each (x.tiles.filter fun t => !x.done.contains t) fun s t => sendCommit s x t) := by
  have hopen : ¬(x.frame = 0 ∧ x.applyTime ≤ s.wall ∧ x.stagedAt + 100000000 ≤ s.uptime) := by omega
  simp only [exec, execCommitRepeat, hx]
  simp [hcommitted, hkind, hprogress, and_assoc, hopen]

theorem commitRepeat_closes (hframe : x.frame = 0) (happly : x.applyTime ≤ s.wall) (hlimit : x.stagedAt + 100000000 ≤ s.uptime) :
    exec (.commitRepeat xid port) s = .next (closeTxn s x) := by
  simp only [exec, execCommitRepeat, hx]
  simp [hcommitted, hkind, hprogress, hframe, happly, hlimit]

end Committed

/-! ### A DRIVE transaction that waits, a tile that is silent (R234, R245) -/

theorem driveRetry_starts {s : State} {t : Nat} (hwait : (s.tile t).driveWait = true) (hassigned : (s.tile t).assigned = true)
    (hfree : s.txnOn t = none) : exec (.driveRetry t) s = .next (startDrive s t) := by
  simp [exec, execDriveRetry, hwait, hassigned, hfree]

theorem tileStatusTimeout_tells {s : State} {t : Nat} (hassigned : (s.tile t).assigned = true) (hquiet : (s.tile t).quietSent = false) :
    exec (.tileStatusTimeout t) s = .next (tileEvent (s.modTile t fun x => { x with quietSent := true }) t 2) := by
  simp [exec, execTileStatusTimeout, hassigned, hquiet]

theorem tileStatusTimeout_told {s : State} {t : Nat} (hquiet : (s.tile t).quietSent = true) :
    exec (.tileStatusTimeout t) s = .next s := by
  simp [exec, execTileStatusTimeout, hquiet]

/-! ### The rows -/

/-- Settles O21: the reset of a port by its map, assignment by its PINGs, each transaction by the branch of its row. -/
theorem transactionSteps : Obligations.TransactionSteps := fun s port _ _ _ _ =>
  ⟨chainResetCommit_forgets, tileAssign_assigning s port, stageResend_resent, stageAckTimeout_fails, stageAckTimeout_keeps,
    commitRepeat_repeats, commitRepeat_closes, driveRetry_starts, tileStatusTimeout_tells, fun _ => tileStatusTimeout_told⟩

end Sys2Proof.Machine

/-! ## The tile settings, TILE_COMMIT and CHAIN_RESET (08) -/

namespace Sys2Proof.Machine

/-- A served request whose body refuses it with no effect has the status posted, and nothing else. -/
theorem jcs_refused {op : JcsOp} {r : Req} {s s1 : State} {body : State → Req → Ans} {status : Nat} (h : Served op r s s1)
    (hb : body s1 r = { status := status, state := s1 }) (hstatus : status ≠ 1) :
    jcs op body r s = replied s1 r status (cut r) [] := by
  rw [jcs_answered h hb hstatus (Nat.zero_le 511), Bool.false_or]

/-- The ACCEPTED that a CHECK gives is posted, and no long command recorded (R313). -/
theorem jcs_dry {op : JcsOp} {r : Req} {s s1 s2 : State} {body : State → Req → Ans} (h : Served op r s s1)
    (hb : body s1 r = { Ans.accepted s2 with dry := true }) : jcs op body r s = replied s2 r 1 (cut r) [] := by
  simp [jcs_served h, hb, giveAnswer, Ans.accepted, replied]

/-! ### TILE_MAP (R226) -/

/-- The map entry that a TILE_MAP brings; none takes the tile's entry away. -/
def broughtEntry (r : Req) : Option MapEntry :=
  if bit (r.word 0) 19 then some ⟨fld (r.word 0) 14 9, fld (r.word 0) 18 15, r.word 1⟩ else none

/-- Tile `k` will hold a port and position after the next chain reset. -/
def holdsPlace (s : State) (port pos k : Nat) : Bool :=
  match (s.tile k).mapLater with
  | some m => decide (m.port = port) && decide (m.pos = pos)
  | none => false

/-- Another tile will hold the port and position of the entry that a TILE_MAP brings. -/
def placeTaken (s : State) (r : Req) : Bool :=
  (broughtEntry r).isSome &&
    (below 512 fun k => decide (k ≠ reqTile r) && holdsPlace s (fld (r.word 0) 14 9) (fld (r.word 0) 18 15) k) ≠ []

/-- A TILE_MAP takes its tile's entry away or elsewhere. -/
def entryMoves (s : State) (r : Req) : Bool :=
  match (s.tile (reqTile r)).mapLater, broughtEntry r with
  | none, _ => false
  | some _, none => true
  | some a, some b => decide (a.port ≠ b.port) || decide (a.pos ≠ b.pos)

theorem holdsPlace_iff {s : State} {port pos k : Nat} :
    holdsPlace s port pos k = true ↔ ∃ m, (s.tile k).mapLater = some m ∧ m.port = port ∧ m.pos = pos := by
  unfold holdsPlace
  cases (s.tile k).mapLater <;> simp

theorem below_ne_nil {n : Nat} {p : Nat → Bool} : below n p ≠ [] ↔ ∃ k < n, p k = true := by
  simp [below]

theorem placeTaken_iff {s : State} {r : Req} : placeTaken s r = true ↔ (broughtEntry r).isSome = true ∧
    ∃ k m, k < 512 ∧ k ≠ reqTile r ∧ (s.tile k).mapLater = some m ∧ m.port = fld (r.word 0) 14 9 ∧
      m.pos = fld (r.word 0) 18 15 := by
  simp [placeTaken, ← ne_eq, below_ne_nil, holdsPlace_iff]

theorem entryMoves_eq_false {s : State} {r : Req}
    (h : ∀ a, (s.tile (reqTile r)).mapLater = some a → ∃ b, broughtEntry r = some b ∧ a.port = b.port ∧ a.pos = b.pos) :
    entryMoves s r = false := by
  unfold entryMoves
  cases hold : (s.tile (reqTile r)).mapLater with
  | none => rfl
  | some a =>
    obtain ⟨b, hb, hport, hpos⟩ := h a hold
    simp [hb, hport, hpos]

section TileMap
variable {s : State} {r : Req} (hport : s.portOk (fld (r.word 0) 14 9) = true) (hspan : s.span = true → fld (r.word 0) 18 15 ≤ 7)
include hport hspan

/-- A TILE_MAP of an existing port and position. -/
theorem tileMapBody_onPort : tileMapBody s r =
    if placeTaken s r || (entryMoves s r && placedAny s (reqTile r)) then .conflict s
    else .ok (settingsDue (s.modTile (reqTile r) fun x => { x with mapNext := some (broughtEntry r) })) := by
  have hpos : (s.span && decide (7 < fld (r.word 0) 18 15)) = false := by
    cases hs : s.span
    · rfl
    · exact decide_eq_false (hspan hs).not_gt
  have hreach : ¬(!s.portOk (fld (r.word 0) 14 9) || (s.span && decide (7 < fld (r.word 0) 18 15))) = true := by
    rw [hport, hpos]
    decide
  exact if_neg hreach

/-- An entry of a free place that leaves a placed tile where it is waits for the next chain reset. -/
theorem tileMapBody_stores (hfree : placeTaken s r = false)
    (hstays : placedAny s (reqTile r) = true → entryMoves s r = false) :
    tileMapBody s r = .ok (settingsDue (s.modTile (reqTile r) fun x => { x with mapNext := some (broughtEntry r) })) := by
  have hkept : (entryMoves s r && placedAny s (reqTile r)) = false := by
    cases hplaced : placedAny s (reqTile r)
    · exact Bool.and_false _
    · rw [hstays hplaced, Bool.false_and]
  rw [tileMapBody_onPort hport hspan, hfree, hkept]
  rfl

theorem tileMapBody_taken (htaken : placeTaken s r = true) : tileMapBody s r = .conflict s := by
  rw [tileMapBody_onPort hport hspan, htaken]
  rfl

end TileMap

/-! ### TILE_PREFS (R236) -/

/-- The values of a TILE_PREFS block are in range (R236). -/
def PrefsInRange (w : Word) : Prop := 200 ≤ fld w 10 0 ∧ fld w 10 0 ≤ 2000 ∧ fld w 27 12 ≤ 10000 ∧ fld w 43 28 ≤ 10000

theorem tilePrefsBody_stages {s : State} {r : Req} (h : PrefsInRange (r.word 1)) : tilePrefsBody s r =
    .ok (s.modTile (reqTile r) fun x => { x with prefsNext := some (r.word 1 &&& 0x00000FFFFFFFF7FF#64) }) := by
  obtain ⟨hlow, hhigh, hrise, hfall⟩ := h
  simp [tilePrefsBody, hlow.not_gt, hhigh.not_gt, hrise.not_gt, hfall.not_gt]

theorem tilePrefsBody_outOfRange {s : State} {r : Req}
    (h : fld (r.word 1) 10 0 < 200 ∨ 2000 < fld (r.word 1) 10 0 ∨ 10000 < fld (r.word 1) 27 12 ∨ 10000 < fld (r.word 1) 43 28) :
    tilePrefsBody s r = .badParam s := by
  simp [tilePrefsBody, or_assoc, h]

/-! ### PORT_CONFIG (R156, R160, R244) -/

/-- A tile of the port reports that it lacks capability `b` (R553). -/
def lacksCap (s : State) (port b : Nat) : Bool :=
  (s.portTiles port).any fun t => !reported ((s.tile t).caps.map BitVec.toNat) fun w => w.testBit b

theorem lacksCap_eq_false {s : State} {port b : Nat}
    (h : ∀ t ∈ s.portTiles port, ∀ w, (s.tile t).caps = some w → w.toNat.testBit b = true) : lacksCap s port b = false := by
  refine List.any_eq_false.2 fun t ht => ?_
  cases hcaps : (s.tile t).caps with
  | none => simp [reported]
  | some w => simp [reported, h t ht w hcaps]

/-- The load of the canvases on a port. -/
def canvasesLoad (s : State) (port : Nat) : Nat := ((List.range 4).map fun c => portLoad s port (s.canvas c).committed).sum

/-- A rate and a spread wait for the next chain reset of a port (R244). -/
def portStaged (s : State) (port rate spread : Nat) : State :=
  s.each (s.portsFor port) fun s p => s.modLinks fun l => { l with portNext := Tbl.set none l.portNext p (some (rate, spread)) }

/-- The settings in force on a port, as PORT_CONFIG answers them (R244). -/
def settingsWord (s : State) (port : Nat) : Word := put port 6 0 ||| put (s.port port).rate 2 6 ||| put (s.port port).spread 6 8

section PortConfig
variable {s : State} {r : Req} {port rate spread : Nat} (hportOf : port = reqPort r)
  (hrateOf : rate = fld (r.word 0) 7 6) (hspreadOf : spread = fld (r.word 0) 13 8)
include hportOf hrateOf hspreadOf

theorem portConfigBody_stages (hport : s.portOk port = true) (hrate : rate ≠ 3) (hspread : spread ≤ 50)
    (hfast : rate = 2 → lacksCap s port 2 = false) (hspreads : spread ≠ 0 → lacksCap s port 3 = false)
    (hload : loadFits (canvasesLoad s port) (laneBps rate) = true) :
    portConfigBody s r = .ok (settingsDue (portStaged s port rate spread)) [settingsWord s port] := by
  have hrate2 : (decide (rate = 2) && lacksCap s port 2) = false := by
    by_cases h : rate = 2
    · rw [hfast h, Bool.and_false]
    · rw [decide_eq_false h, Bool.false_and]
  have hspread0 : (decide (spread ≠ 0) && lacksCap s port 3) = false := by
    by_cases h : spread = 0
    · rw [h]; rfl
    · rw [hspreads h, Bool.and_false]
  have hfits : ¬(!s.portOk port || decide (rate = 3) || decide (50 < spread) || (decide (rate = 2) && lacksCap s port 2) ||
      (decide (spread ≠ 0) && lacksCap s port 3) || !loadFits (canvasesLoad s port) (laneBps rate)) = true := by
    rw [hport, hrate2, hspread0, hload, decide_eq_false hrate, decide_eq_false hspread.not_gt]
    decide
  subst hportOf hrateOf hspreadOf
  exact if_neg hfits

theorem portConfigBody_refuses (h : s.portOk port = false ∨ rate = 3 ∨ 50 < spread) : portConfigBody s r = .badParam s := by
  subst hportOf hrateOf hspreadOf
  rcases h with h | h | h <;> simp [portConfigBody, h]

end PortConfig

section PortStaged
variable (s : State) (port rate spread : Nat)

@[simp] theorem portStaged_plt : (portStaged s port rate spread).plt = s.plt := State.each_keeps State.plt _ _ fun _ _ => rfl

@[simp] theorem portStaged_ports : (portStaged s port rate spread).links.ports = s.links.ports :=
  State.each_keeps (fun u => u.links.ports) _ _ fun _ _ => rfl

theorem State.portsFor_nodup : (s.portsFor port).Nodup := by
  unfold State.portsFor
  split <;> simp

theorem portStaged_portNext (p : Nat) : Tbl.get none (portStaged s port rate spread).links.portNext p =
    if p ∈ s.portsFor port then some (rate, spread) else Tbl.get none s.links.portNext p := by
  have hother : ∀ (u : State) (q k : Nat), k ≠ q → Tbl.get none (Tbl.set none u.links.portNext q (some (rate, spread))) k =
      Tbl.get none u.links.portNext k := fun u q k hne => Tbl.get_set_ne _ _ _ hne
  split
  next h =>
    obtain ⟨u, hread, -⟩ := State.each_read_of_mem (p := fun u k => Tbl.get none u.links.portNext k) (s := s)
      (f := fun s p => s.modLinks fun l => { l with portNext := Tbl.set none l.portNext p (some (rate, spread)) })
      hother (s.portsFor_nodup port) h
    rw [portStaged, hread]
    exact Tbl.get_set_self none u.links.portNext p (some (rate, spread))
  next h => exact State.each_read_of_not_mem (p := fun u k => Tbl.get none u.links.portNext k) hother h s

end PortStaged

/-! ### TILE_COMMIT (R239, R240, R242, R553) -/

/-- The tiles that a TILE_COMMIT names and that have staged preferences. -/
def stagedPrefs (s : State) (r : Req) : List Nat := (commitTiles r).filter fun t => (s.tile t).prefsNext.isSome

/-- Those of them that are not held back. -/
def readyTiles (s : State) (r : Req) : List Nat := (stagedPrefs s r).filter fun t => (s.tile t).held.isNone

/-- The PREFS of those held back are committed without a block (R553). -/
def heldCommitted (s : State) (r : Req) : State := heldPrefs s ((stagedPrefs s r).filter fun t => (s.tile t).held.isSome)

/-- What the tiles of one PREFS transaction stand on: no canvas, or one of the four. -/
def prefsCanvases : List (Option Nat) := [none, some 0, some 1, some 2, some 3]

/-- One PREFS transaction for each canvas that some of the tiles stand on, and one for those on none. -/
def prefsStarted (s : State) (src : Nat) (tiles : List Nat) (canvases : List (Option Nat)) : State :=
  s.each canvases fun s c => startPrefs s src (s.nextLong src) tiles c

/-- No tile that a TILE_COMMIT names is in a transaction or on a canvas whose timing changes. -/
def CommitFree (s : State) (r : Req) : Prop :=
  ∀ t ∈ commitTiles r, s.txnOn t = none ∧ ∀ c, s.canvasOf t = some c → (s.canvas c).change = none

theorem mem_readyTiles {s : State} {r : Req} {t : Nat} : t ∈ readyTiles s r ↔
    t ∈ commitTiles r ∧ (s.tile t).prefsNext.isSome = true ∧ (s.tile t).held = none := by
  simp only [readyTiles, stagedPrefs, List.mem_filter, Option.isNone_iff_eq_none, and_assoc]

/-- A tile's transaction, or the timing change of its canvas, holds a TILE_COMMIT up. -/
def holdsUp (s : State) (t : Nat) : Bool :=
  (s.txnOn t).isSome || (match s.canvasOf t with
    | some c => (s.canvas c).change.isSome
    | none => false)

section TileCommit
variable {s : State} {r : Req}

theorem tileCommitBody_notReady (h : s.clocks.power ≠ .run) : tileCommitBody s r = .notReady s := if_pos h

variable (hpower : s.clocks.power = .run)
include hpower

theorem tileCommitBody_busy {t : Nat} (ht : t ∈ commitTiles r) (hbusy : (s.txnOn t).isSome = true) : tileCommitBody s r = .busy s := by
  have hany : ((commitTiles r).any (holdsUp s)) = true := List.any_eq_true.2 ⟨t, ht, by rw [holdsUp, hbusy, Bool.true_or]⟩
  exact (if_neg (not_not_intro hpower)).trans (if_pos hany)

variable (hfree : CommitFree s r)
include hfree

/-- With every named tile free the answer turns on the tiles that are ready. -/
theorem tileCommitBody_free : tileCommitBody s r =
    if (readyTiles s r).isEmpty then .ok (if r.check then s else heldCommitted s r)
    else if r.check then { Ans.accepted s with dry := true }
    else .accepted (prefsStarted (heldCommitted s r) r.who (readyTiles s r) prefsCanvases) := by
  have hany : ¬(commitTiles r).any (holdsUp s) = true := by
    rw [Bool.not_eq_true]
    refine List.any_eq_false.2 fun t ht => ?_
    obtain ⟨htxn, hchange⟩ := hfree t ht
    rw [holdsUp, htxn]
    cases hcanvas : s.canvasOf t with
    | none => simp
    | some c => simp [hchange c hcanvas]
  exact (if_neg (not_not_intro hpower)).trans (if_neg hany)

/-- With nothing staged the answer is OK, and nothing happens. -/
theorem tileCommitBody_nothing (hnone : ∀ t ∈ commitTiles r, (s.tile t).prefsNext = none) : tileCommitBody s r = .ok s := by
  have hstaged : stagedPrefs s r = [] := List.filter_eq_nil_iff.2 fun t ht => by simp [hnone t ht]
  have hcommitted : heldCommitted s r = s := by rw [heldCommitted, hstaged]; rfl
  rw [tileCommitBody_free hpower hfree, readyTiles, hstaged, hcommitted, ite_self]
  rfl

/-- With CHECK a command that would start nothing answers OK. -/
theorem tileCommitBody_checkIdle (hcheck : r.check = true) (hnone : readyTiles s r = []) : tileCommitBody s r = .ok s := by
  rw [tileCommitBody_free hpower hfree, hcheck, hnone]
  rfl

/-- With CHECK a command that would start a transaction is ACCEPTED, and nothing happens. -/
theorem tileCommitBody_checkReady (hcheck : r.check = true) {t : Nat} (ht : t ∈ readyTiles s r) :
    tileCommitBody s r = { Ans.accepted s with dry := true } := by
  have hready : ¬(readyTiles s r).isEmpty = true := by simp [List.ne_nil_of_mem ht]
  rw [tileCommitBody_free hpower hfree, if_neg hready, hcheck]
  rfl

/-- With a tile ready and no CHECK the transactions start. -/
theorem tileCommitBody_starts (hcheck : r.check = false) {t : Nat} (ht : t ∈ readyTiles s r) : tileCommitBody s r =
    .accepted (prefsStarted (heldCommitted s r) r.who (readyTiles s r) prefsCanvases) := by
  have hready : ¬(readyTiles s r).isEmpty = true := by simp [List.ne_nil_of_mem ht]
  rw [tileCommitBody_free hpower hfree, if_neg hready, hcheck]
  rfl

end TileCommit

/-! ### The transactions that a TILE_COMMIT starts -/

theorem sendStages_book (s : State) (x : Txn) : (sendStages s x).book = s.book := by
  refine State.each_keeps State.book _ _ fun s p => ?_
  split
  · refine State.each_keeps State.book _ _ fun s i => ?_
    split
    · exact sendMgmtAll_book ..
    · rfl
  · exact State.each_keeps State.book _ _ fun s t => sendStage_book ..

/-- A transaction that starts stands before the others. -/
theorem startTxn_txns (s : State) (kind : TxnKind) (canvas : Option Nat) (src : Nat) (id : Option Nat) (tiles : List Nat)
    (data : List (Nat × Nat × List Word)) (frame applyTime : Nat) :
    ∃ x, (startTxn s kind canvas src id tiles data frame applyTime).links.txns = x :: s.links.txns ∧
      x.tiles = tiles ∧ x.kind = kind ∧ x.inProgress = true ∧ x.src = src ∧ x.id = id := by
  refine ⟨_, (State.txns_of_book (sendStages_book ..)).trans (congrArg (List.cons _) ?_), rfl, rfl, rfl, rfl, rfl⟩
  exact State.each_keeps (fun u => u.links.txns) _ _ fun _ _ => rfl

/-- Tile `t` is in a PREFS transaction of command `id` of `src`. -/
def State.PrefsTxn (s : State) (src id t : Nat) : Prop :=
  ∃ x ∈ s.links.txns, t ∈ x.tiles ∧ x.kind = .prefs ∧ x.inProgress = true ∧ x.src = src ∧ x.id = some id

/-- The PREFS of the tiles of a canvas are one more transaction, where there are any. -/
theorem startPrefs_cases (s : State) (src id : Nat) (tiles : List Nat) (c : Option Nat) :
    (tiles.filter (fun t => s.canvasOf t = c) = [] ∧ startPrefs s src id tiles c = s) ∨
      ∃ data n w, startPrefs s src id tiles c =
        startTxn s .prefs c src (some id) (tiles.filter fun t => s.canvasOf t = c) data n w := by
  by_cases hnone : tiles.filter (fun t => s.canvasOf t = c) = []
  · exact .inl ⟨hnone, if_pos (by rw [hnone]; rfl)⟩
  · refine .inr ?_
    unfold startPrefs
    dsimp only
    rw [if_neg (by simpa using hnone)]
    split
    · split <;> exact ⟨_, _, _, rfl⟩
    · exact ⟨_, _, _, rfl⟩

theorem startPrefs_keeps {s : State} {src id t : Nat} (tiles : List Nat) (c : Option Nat) (src' id' : Nat)
    (h : s.PrefsTxn src' id' t) : (startPrefs s src id tiles c).PrefsTxn src' id' t := by
  obtain ⟨x, hx, hprefs⟩ := h
  obtain ⟨-, he⟩ | ⟨data, n, w, he⟩ := startPrefs_cases s src id tiles c
  · rw [he]
    exact ⟨x, hx, hprefs⟩
  · obtain ⟨y, htxns, -⟩ := startTxn_txns s .prefs c src (some id) (tiles.filter fun t => s.canvasOf t = c) data n w
    rw [he]
    exact ⟨x, htxns ▸ List.mem_cons_of_mem y hx, hprefs⟩

theorem startPrefs_starts {s : State} {src id t : Nat} {tiles : List Nat} (ht : t ∈ tiles) :
    (startPrefs s src id tiles (s.canvasOf t)).PrefsTxn src id t := by
  have hmem : t ∈ tiles.filter fun k => s.canvasOf k = s.canvasOf t := by simp [ht]
  obtain ⟨hnone, -⟩ | ⟨data, n, w, he⟩ := startPrefs_cases s src id tiles (s.canvasOf t)
  · exact absurd hnone (List.ne_nil_of_mem hmem)
  · obtain ⟨x, htxns, htiles, hx⟩ := startTxn_txns s .prefs (s.canvasOf t) src (some id)
      (tiles.filter fun k => s.canvasOf k = s.canvasOf t) data n w
    rw [he]
    exact ⟨x, htxns ▸ List.mem_cons_self, htiles ▸ hmem, hx⟩

theorem State.canvasOf_of_frames {s t : State} (h : t.frames = s.frames) (k : Nat) : t.canvasOf k = s.canvasOf k := by
  simp only [State.canvasOf, State.canvas_of_frames h]

theorem State.nextLong_of_hub {s t : State} (h : t.hub = s.hub) (who : Nat) : t.nextLong who = s.nextLong who := by
  rw [State.nextLong, State.func_of_hub h, State.nextLong]

theorem State.canvasOf_mem_prefsCanvases (s : State) (t : Nat) : s.canvasOf t ∈ prefsCanvases := by
  cases h : s.canvasOf t with
  | none => simp [prefsCanvases]
  | some c =>
    have hc : c < 4 := (mem_below.1 (List.mem_of_head? h)).1
    interval_cases c <;> simp [prefsCanvases]

/-- Every tile named is in a transaction of its canvas, started under the number of the command. -/
theorem prefsStarted_starts {src t : Nat} {tiles : List Nat} (ht : t ∈ tiles) {l : List (Option Nat)} {s : State}
    (hc : s.canvasOf t ∈ l) : (prefsStarted s src tiles l).PrefsTxn src (s.nextLong src) t := by
  induction l generalizing s with
  | nil => cases hc
  | cons c l ih =>
    have hdoes := (startPrefs_does s src (s.nextLong src) tiles c).same
    have hcanvas := State.canvasOf_of_frames (hdoes.frames (by decide)) t
    have hlong := State.nextLong_of_hub (hdoes.hub (by decide)) src
    by_cases h : s.canvasOf t = c
    · subst h
      exact State.each_preserves (fun u => u.PrefsTxn src (s.nextLong src) t) l _
        (fun u c => startPrefs_keeps tiles c _ _) (startPrefs_starts ht)
    · have hrest := ih (s := startPrefs s src (s.nextLong src) tiles c)
        (hcanvas ▸ (List.mem_cons.1 hc).resolve_left h)
      rwa [hlong] at hrest

/-- Every ready tile of a TILE_COMMIT is in a transaction of the command. -/
theorem tileCommit_starts {s : State} {r : Req} {t : Nat} (ht : t ∈ readyTiles s r) :
    (prefsStarted (heldCommitted s r) r.who (readyTiles s r) prefsCanvases).PrefsTxn r.who (s.nextLong r.who) t := by
  rw [← State.nextLong_of_hub ((heldPrefs_does s _).same.hub (by decide)) r.who]
  exact prefsStarted_starts ht (State.canvasOf_mem_prefsCanvases ..)

/-! ### CHAIN_RESET (R242, R246) -/

/-- The chain reset that a CHAIN_RESET records. -/
def newChain (s : State) (r : Req) : ChainJob :=
  { src := r.who, id := s.nextLong r.who, port := reqPort r, committed := false, at_ := s.uptimeAt s.reqTime, begun := false }

theorem chainResetBody_records {s : State} {r : Req} (hport : s.portOk (reqPort r) = true) :
    ∃ u, chainResetBody s r = .accepted u ∧ newChain s r ∈ u.links.chains := by
  refine ⟨_, if_neg (by simp [hport]), ?_⟩
  exact List.mem_append_right _ List.mem_cons_self

theorem chainResetBody_refuses {s : State} {r : Req} (hport : s.portOk (reqPort r) = false) : chainResetBody s r = .badParam s :=
  if_pos (by rw [hport]; rfl)

/-! ### The rows -/

/-- Settles O19: each command is served, and its body's answer stages, refuses or starts what the laws above say. -/
theorem tileSettings : Obligations.TileSettings := by
  refine ⟨fun r s s1 t port pos rate spread e => ⟨?map, ?prefs, ?config⟩, fun r s s1 port => ⟨?commit, ?sleeping, ?reset⟩⟩
  case map =>
    rintro hserved rfl rfl rfl hport hspan rfl
    refine ⟨fun hfree hstays => ?stores, fun hsome htaken => ?conflict⟩
    case stores =>
      have hplace : placeTaken s1 r = false := by
        rw [Bool.eq_false_iff]
        intro htaken
        obtain ⟨hsome, k, m, hk, hne, hm, hplace⟩ := placeTaken_iff.1 htaken
        exact hfree hsome k m hk hne hm hplace
      have hbody := tileMapBody_stores hport hspan hplace fun hplaced => entryMoves_eq_false (hstays hplaced)
      exact congrArg Host.Outcome.next (jcs_ok hserved hbody (Nat.zero_le 511))
    case conflict =>
      have hbody := tileMapBody_taken hport hspan (placeTaken_iff.2 ⟨hsome, htaken⟩)
      exact congrArg Host.Outcome.next (jcs_refused hserved hbody (by decide))
  case prefs =>
    refine fun hserved => ⟨fun hlow hhigh hrise hfall => ?_, fun h => ?_⟩
    · exact congrArg Host.Outcome.next (jcs_ok hserved (tilePrefsBody_stages ⟨hlow, hhigh, hrise, hfall⟩) (Nat.zero_le 511))
    · exact congrArg Host.Outcome.next (jcs_refused hserved (tilePrefsBody_outOfRange h) (by decide))
  case config =>
    refine fun hserved hp hr hs => ⟨fun hport hrate hspread hfast hspreads hload => ?stages, fun h => ?refuses⟩
    case stages =>
      have hbody := portConfigBody_stages hp hr hs hport hrate hspread (fun h => lacksCap_eq_false (hfast h))
        (fun h => lacksCap_eq_false (hspreads h)) hload
      refine ⟨_, congrArg Host.Outcome.next (jcs_ok hserved hbody (show 1 ≤ 511 by decide)), fun p hmem => ?_, fun p hmem => ?_,
        portStaged_ports .., ?_⟩
      · exact (portStaged_portNext ..).trans (if_pos hmem)
      · exact (portStaged_portNext ..).trans (if_neg hmem)
      · exact congrArg (fun q : PltState => (q.writesDue ++ [0, 1]).dedup) (portStaged_plt ..)
    case refuses => exact congrArg Host.Outcome.next (jcs_refused hserved (portConfigBody_refuses hp hr hs h) (by decide))
  case commit =>
    refine fun hserved hpower => ⟨fun hfree => ⟨fun hnone => ?nothing, fun hcheck => ?check, fun hcheck hready => ?starts⟩, ?busy⟩
    case nothing =>
      exact congrArg Host.Outcome.next (jcs_ok hserved (tileCommitBody_nothing hpower hfree hnone) (Nat.zero_le 511))
    case check =>
      split
      next hready =>
        obtain ⟨t, ht⟩ := hready
        exact congrArg Host.Outcome.next (jcs_dry hserved (tileCommitBody_checkReady hpower hfree hcheck (mem_readyTiles.2 ht)))
      next hidle =>
        have hnone : readyTiles s1 r = [] := List.eq_nil_iff_forall_not_mem.2 fun t ht => hidle ⟨t, mem_readyTiles.1 ht⟩
        exact congrArg Host.Outcome.next (jcs_ok hserved (tileCommitBody_checkIdle hpower hfree hcheck hnone) (Nat.zero_le 511))
    case starts =>
      obtain ⟨k, hk⟩ := hready
      have hbody := tileCommitBody_starts hpower hfree hcheck (mem_readyTiles.2 hk)
      exact ⟨_, congrArg Host.Outcome.next (jcs_accepted hserved hbody), fun t ht hstaged hheld =>
        tileCommit_starts (mem_readyTiles.2 ⟨ht, hstaged, hheld⟩)⟩
    case busy =>
      rintro ⟨t, ht, hbusy⟩
      exact congrArg Host.Outcome.next (jcs_refused hserved (tileCommitBody_busy hpower ht hbusy) (by decide))
  case sleeping =>
    exact fun hserved hpower => congrArg Host.Outcome.next (jcs_refused hserved (tileCommitBody_notReady hpower) (by decide))
  case reset =>
    rintro hserved rfl
    refine ⟨fun hport => ?_, fun hport => ?_⟩
    · obtain ⟨u, hbody, hmem⟩ := chainResetBody_records hport
      exact ⟨u, congrArg Host.Outcome.next (jcs_accepted hserved hbody), _, hmem, rfl, rfl, rfl, rfl⟩
    · exact congrArg Host.Outcome.next (jcs_refused hserved (chainResetBody_refuses hport) (by decide))

end Sys2Proof.Machine

/-! ## The reads of tiles, ports, flips, timing changes, checks and hops; CHECK_SET, HOP_CAL and the ends of both (07, 08) -/

namespace Sys2Proof.Machine

theorem maskWords_length (tiles : List Nat) : (maskWords tiles).length = 8 := by simp [maskWords]

/-! ### TILE_TXN_READ and TILE_READ (R243, R250) -/

theorem tileTxnReadBody_found {s : State} {r : Req} {x : Txn}
    (h : s.links.txns.find? (fun x => x.tiles.contains (reqTile r)) = some x) : tileTxnReadBody s r =
      .ok s ([put x.status.toNat 8 0 ||| putB x.inProgress 8 ||| putB x.aborted 9 ||| put x.failed.length 10 16 |||
        put x.xid.toNat 16 32, put x.frame 48 0] ++ maskWords x.failed) := by
  simp only [tileTxnReadBody, h, setWidth_eq_put _ (show 8 ≤ 64 by decide)]

theorem tileTxnReadBody_none {s : State} {r : Req} (h : s.links.txns.find? (fun x => x.tiles.contains (reqTile r)) = none) :
    tileTxnReadBody s r = .ok s (List.replicate 10 0) := by
  simp only [tileTxnReadBody, h]

theorem tileReadBody_reported {s : State} {r : Req} {y : StatusRec} (h : (s.tile (reqTile r)).newest = some y) :
    tileReadBody s r = .ok s ((List.range 6).map (fun i => wordAt y.words i) ++
      [put y.frame 48 0 ||| put (min 65535 ((s.uptime - y.at_) / 1000000)) 16 48]) := by
  simp only [tileReadBody, h]

theorem Tile.newest_of_none {t : Tile} (hA : t.statusA = none) (hB : t.statusB = none) : t.newest = none := by
  simp only [Tile.newest, hA, hB]

theorem tileReadBody_unreported {s : State} {r : Req} (h : (s.tile (reqTile r)).newest = none) :
    tileReadBody s r = .ok s (List.replicate 7 0) := by
  simp only [tileReadBody, h]

/-! ### TIMING_CHANGE_READ, CHECK_READ and HOP_READ (R215, R221) -/

theorem timingChangeReadBody_ok (s : State) (r : Req) : timingChangeReadBody s r =
    .ok s ((put (s.canvas (reqCanvas r)).chStatus.toNat 8 0 ||| putB (s.canvas (reqCanvas r)).change.isSome 8 |||
      put (s.canvas (reqCanvas r)).chFailed.length 9 16) :: maskWords (s.canvas (reqCanvas r)).chFailed) := by
  rw [timingChangeReadBody, setWidth_eq_put _ (by decide)]

theorem checkReadBody_ok {s : State} {r : Req} {k : Check}
    (hk : k = Tbl.get {} (s.canvas (reqCanvas r)).checks (fld (r.word 0) 13 8)) : checkReadBody s r =
      .ok s [pair k.valA k.valB, put k.frame 48 0 ||| putB k.matchA 48 ||| putB k.matchB 49, put k.misses.toNat 32 0] := by
  rw [checkReadBody, ← hk, setWidth_eq_put _ (by decide)]

section HopRead
variable {s : State} {r : Req} {t : Nat}
  (ht : ((s.tilesAt (reqPort r)).find? fun t => s.posOf t = fld (r.word 0) 11 8) = some t)
include ht

theorem hopReadBody_owned (howns : s.owns r.who 4 t = true) : hopReadBody s r =
    .ok s [put t 9 0 ||| putB (s.hop (reqPort r) (fld (r.word 0) 11 8)).suspect 9,
      BitVec.ofNat 64 (s.hop (reqPort r) (fld (r.word 0) 11 8)).linkdly, put (s.hop (reqPort r) (fld (r.word 0) 11 8)).spread 32 0,
      BitVec.ofNat 64 (s.hop (reqPort r) (fld (r.word 0) 11 8)).time] := by
  simp only [hopReadBody, ht, howns]
  rfl

theorem hopReadBody_foreign (howns : s.owns r.who 4 t = false) : hopReadBody s r = .ok s [0, 0, 0, 0] := by
  simp only [hopReadBody, ht, howns]
  rfl

end HopRead

/-! ### CHECK_SET (R215) -/

/-- A check rectangle inside its tile, of a mode there is and not of a frame too near, is taken, and keeps its count of misses. -/
theorem checkSetBody_sets {s : State} {r : Req} {p : Placement}
    (hplace : (s.canvas (checkCanvas r)).committed.place (checkTile r) = some p)
    (hwidth : fld (r.word 1) 9 0 + fld (r.word 1) 41 32 < p.tw) (hheight : fld (r.word 1) 25 16 + fld (r.word 1) 57 48 < p.th)
    (hmode : fld (r.word 0) 10 8 ≤ 3)
    (hframe : 2 ≤ fld (r.word 0) 10 8 → (s.canvas (checkCanvas r)).frame + 2 ≤ fld (r.word 3) 47 0) :
    checkSetBody s r = .ok (s.modCanvas (checkCanvas r) fun x => { x with
      checks := Tbl.modify {} x.checks (fld (r.word 0) 5 0) fun k => { words := (List.range 4).map r.word, misses := k.misses } }) := by
  have hlate : ¬((fld (r.word 0) 10 8 = 2 ∨ fld (r.word 0) 10 8 = 3) ∧
      fld (r.word 3) 47 0 < (s.canvas (checkCanvas r)).frame + 2) := by omega
  simp [checkSetBody, hplace, hwidth, hheight, hmode.not_gt, hlate]

/-! ### HOP_CAL and the end of a hop calibration (R205, R221) -/

theorem startHop_hopJobs (s : State) (p pos : Nat) : (startHop s p pos).links.hopJobs = s.links.hopJobs := by
  have hsent := congrArg Links.hopJobs
    (sendPing_sansPorts (s.modHop p pos fun h => { h with due := true, runs := [], sentAt := some s.wall }) p pos)
  exact hsent

theorem hopCalBody_accepted (s : State) (r : Req) : ∃ u, hopCalBody s r = .accepted u ∧
    u.links.hopJobs = s.links.hopJobs ++ [⟨r.who, s.nextLong r.who, reqPort r⟩] := by
  refine ⟨_, rfl, congrArg (· ++ [HopJob.mk r.who (s.nextLong r.who) (reqPort r)]) ?_⟩
  exact State.each_keeps (fun u => u.links.hopJobs) _ _ fun _ _ => startHop_hopJobs ..

/-- After the end of a port's hop calibration no command waits for it. -/
theorem hopCalComplete_ends (s : State) (port : Nat) :
    ∃ t, exec (.hopCalComplete port) s = .next t ∧ ∀ j ∈ t.links.hopJobs, j.port ≠ port := by
  refine ⟨_, rfl, fun j hj => ?_⟩
  split at hj
  next hnone => simpa using List.filter_eq_nil_iff.1 hnone j hj
  next =>
    rw [State.each_keeps (fun u => u.links.hopJobs) _ _ fun u j => by rw [(finishLong_does ..).same.links (by decide)],
      (raise_does ..).same.links (by decide)] at hj
    simpa using (List.mem_filter.1 hj).2

theorem hopCalPeriodic_starts {s : State} {port pos : Nat} (h : ∃ t ∈ s.tilesAt port, s.posOf t = pos) :
    exec (.hopCalPeriodic port pos) s = .next (startHop s port pos) := by
  have hany : ((s.tilesAt port).any fun t => s.posOf t = pos) = true := by simpa using h
  exact congrArg Host.Outcome.next (if_pos hany)

/-! ### The end of a timing change (R222, R224) -/

theorem timingChangeComplete_ends {s : State} {c : Nat} {ch : TimingChange} (hchange : (s.canvas c).change = some ch)
    (hframe : ch.m + 2 ≤ (s.canvas c).frame) : exec (.timingChangeComplete c) s =
      .next (endChange s c (if (s.canvas c).chFailed.isEmpty then 0 else 8) (ch.m + 2) (s.canvas c).chFailed) := by
  simp only [exec, execTimingChangeComplete, hchange, if_neg hframe.not_gt]

/-! ### The rows -/

/-- Settles O20: each read answers its body's words, a command's body is its rule's case, and the ends are their rows' branches. -/
theorem tileReadsAndTiming : Obligations.TileReadsAndTiming := by
  refine ⟨fun r s s1 x y t ht => ?tiles, fun r s s1 c k t p pos hc => ?canvases, fun r s s1 c port p ch => ?commands⟩
  case tiles =>
    subst ht
    refine ⟨fun hserved hfind => ?_, fun hserved hfind => ?_, fun hserved hnew => ?_, fun hserved hA hB => ?_,
      fun hserved p hp => ?_⟩
    · exact congrArg Host.Outcome.next (jcs_ok hserved (tileTxnReadBody_found hfind) (by simp [maskWords_length]))
    · exact congrArg Host.Outcome.next (jcs_ok hserved (tileTxnReadBody_none hfind) (show 10 ≤ 511 by decide))
    · exact congrArg Host.Outcome.next (jcs_ok hserved (tileReadBody_reported hnew) (show 7 ≤ 511 by decide))
    · have hbody := tileReadBody_unreported (Tile.newest_of_none hA hB)
      exact congrArg Host.Outcome.next (jcs_ok hserved hbody (show 7 ≤ 511 by decide))
    · subst hp
      exact congrArg Host.Outcome.next (jcs_ok hserved rfl (show 6 ≤ 511 by decide))
  case canvases =>
    subst hc
    refine ⟨fun hserved => ?_, fun hserved => ?_, fun hserved hk => ?_, fun hserved hp hpos ht => ?_⟩
    · exact congrArg Host.Outcome.next (jcs_ok hserved rfl (show 5 ≤ 511 by decide))
    · exact congrArg Host.Outcome.next (jcs_ok hserved (timingChangeReadBody_ok ..) (by simp [maskWords_length]))
    · exact congrArg Host.Outcome.next (jcs_ok hserved (checkReadBody_ok hk) (show 3 ≤ 511 by decide))
    · subst hp hpos
      exact ⟨fun howns => congrArg Host.Outcome.next (jcs_ok hserved (hopReadBody_owned ht howns) (show 4 ≤ 511 by decide)),
        fun howns => congrArg Host.Outcome.next (jcs_ok hserved (hopReadBody_foreign ht howns) (show 4 ≤ 511 by decide))⟩
  case commands =>
    refine ⟨?check, ?hopCal, fun _ => hopCalComplete_ends s port, hopCalPeriodic_starts, timingChangeComplete_ends⟩
    case check =>
      rintro hserved rfl hplace hwidth hheight hmode hframe g hg
      obtain rfl : g = fun k => { words := (List.range 4).map r.word, misses := k.misses } := funext hg
      exact congrArg Host.Outcome.next
        (jcs_ok hserved (checkSetBody_sets hplace hwidth hheight hmode hframe) (Nat.zero_le 511))
    case hopCal =>
      rintro hserved rfl
      obtain ⟨u, hbody, hjobs⟩ := hopCalBody_accepted s1 r
      exact ⟨u, congrArg Host.Outcome.next (jcs_accepted hserved hbody), hjobs⟩

end Sys2Proof.Machine

/-! ## The twin dies: what a hold, a fence and a promotion make of them (R259, R261, R263, R276) -/

namespace Sys2Proof

theorem DieId.other_ne (d : DieId) : d.other ≠ d := by cases d <;> decide

@[simp] theorem DieId.other_other (d : DieId) : d.other.other = d := by cases d <;> rfl

end Sys2Proof

namespace Sys2Proof.Machine

/-! ### Reading the dies and the arbiter after a change -/

/-- What an operation on other parts of the state leaves of the arbiter. -/
theorem Same.arbiter {l : List Part} {s t : State} (h : Same l s t) (hl : Part.dies ∉ l) : t.dies.twin = s.dies.twin :=
  congrArg Dies.twin (h.dies hl)

section
variable (s : State) (d e : DieId)

@[simp] theorem raise_dies (src code : Nat) (data : Word) (frame : Nat) (t : Option Nat) :
    (raise s src code data frame t).dies = s.dies := (raise_does s src code data frame t).same.dies (by decide)

@[simp] theorem setMcStep_dies (n : Nat) : (setMcStep s n).dies = s.dies := rfl

@[simp] theorem sendCommand_dies (cmd : Nat) : (sendCommand s d cmd).dies = s.dies := rfl

@[simp] theorem setMemory_dies (m : MemMode) : (setMemory s d m).dies = s.dies := (setMemory_does s d m).same.dies (by decide)

@[simp] theorem fallBackDue_dies : (fallBackDue s).dies = s.dies := (fallBackDue_does s).same.dies (by decide)

/-! ### A die held in reset (R46, R261) -/

/-- A die that is held in reset: what it had in progress is gone, its retired clusters and lost regions stay so (R261). -/
def Die.held (x : Die) : Die :=
  { x with role := .none, running := false, fenced := true, mute := false, incomplete := false, fatal := false,
           fenceReq := false, hseq := 0, missedCmd := 0,
           clusters := (List.range 16).foldl (fun t c => Tbl.modify {} t c fun y =>
             { y with slice := false, spare := false, stores := [] }) x.clusters,
           regions := (List.range 4).foldl (fun t r => Tbl.modify {} t r fun y =>
             { y with resetting := false, blocked := false, latent := false, again := false }) x.regions,
           engineErr := [], errors := [] }

/-- A hold is a matter of the one die. -/
theorem holdDie_die : (holdDie s e).die d = if d = e then (s.die d).held else s.die d := by
  unfold holdDie
  refine (State.each_keeps (fun s => s.die d) _ _ fun s k => judgeIfIn_die ..).trans ?_
  simp only [followGm_die, abandonVotes_die, closeWindows_die, State.modTime_die, State.modTwin_die, State.modOp_die, setMemory_die,
    State.modResults_die]
  refine (State.each_keeps (fun s => s.die d) _ _ fun s k => State.modPort_die ..).trans ?_
  rw [State.modDie_die]
  split
  · next h => subst h; rfl
  · rfl

theorem abandonVotes_twin : (abandonVotes s).dies.twin = { s.dies.twin with votes := [] } := by
  unfold abandonVotes
  refine (State.each_keeps (fun s => s.dies.twin) _ _ fun s v => (endUses_does ..).same.arbiter (by decide)).trans ?_
  rw [State.modTwin_twin, State.each_keeps (fun s => s.dies.twin) _ _ fun s v => (State.modTile_does ..).same.arbiter (by decide)]

/-- Of the arbiter's state a hold takes the record of the die's heartbeats and the votes (R46, R261). -/
theorem holdDie_twin : (holdDie s d).dies.twin = { s.dies.twin.setBeats d 0 0 with votes := [] } := by
  unfold holdDie
  refine (State.each_keeps (fun s => s.dies.twin) _ _ fun s k => (judgeIfIn_does ..).same.arbiter (by decide)).trans ?_
  rw [(followGm_does ..).same.arbiter (by decide), abandonVotes_twin, (closeWindows_does ..).same.arbiter (by decide),
    (State.modTime_does ..).same.arbiter (by decide), State.modTwin_twin, (State.modOp_does ..).same.arbiter (by decide),
    (setMemory_does ..).same.arbiter (by decide), (State.modResults_does ..).same.arbiter (by decide),
    State.each_keeps (fun s => s.dies.twin) _ _ fun s k => (State.modPort_does ..).same.arbiter (by decide), State.modDie_twin]
  cases d <;> rfl

end


/-! ### The ports of a die held in reset (R261) -/

/-- Port `k` neither sends nor hears. -/
def State.portOff (s : State) (k : Nat) : Prop := (s.port k).tx = .off ∧ (s.port k).rx = .down

theorem Same.portOff {l : List Part} {s t : State} {k : Nat} (h : Same l s t) (hl : Part.links ∉ l) (hoff : s.portOff k) : t.portOff k := by
  rwa [State.portOff, h.port hl]

/-- A change of a port that leaves its transmitter and its receiver. -/
theorem State.portOff.modPort {s : State} {k : Nat} (h : s.portOff k) (p : Nat) {g : Port → Port}
    (hg : ∀ x, (g x).tx = x.tx ∧ (g x).rx = x.rx) : (s.modPort p g).portOff k := by
  rw [State.portOff, State.modPort_port]
  split
  · next hp => subst hp; rwa [(hg _).1, (hg _).2]
  · exact h

/-- A port that is off takes no frame. -/
theorem State.portOff.sendTime {s : State} {k : Nat} (h : s.portOff k) (p word0 : Nat) (arg : Word) (tile : Nat) (bcast : Bool) :
    (sendTime s p word0 arg tile bcast).portOff k := by
  by_cases hp : k = p
  · subst hp
    rwa [Machine.sendTime, if_neg (by simp [State.canSend, h.1])]
  · have hwake : ∀ sync, (wake s p sync).port k = s.port k := fun sync => by
      unfold wake
      split
      · rfl
      · cases sync <;> simp [emitIdle_port, emitTime_port, putLine_port, State.modPort_port, hp]
    unfold Machine.sendTime
    split
    · rwa [State.portOff, emitTime_port, if_neg hp, hwake]
    · exact h

theorem State.portOff.setPath {s : State} {k : Nat} (h : s.portOff k) (i : CalItem) (out : Bool) : (setPath s i out).portOff k := by
  unfold Machine.setPath
  split
  · exact h.modPort _ fun _ => ⟨rfl, rfl⟩
  · dsimp only
    split
    · have hwindow : ∀ f, (s.modTime f).portOff k := fun f => h
      split
      · exact State.each_preserves (State.portOff · k) _ _
          (fun u j hu => (judgeIfIn_does u j).same.portOff (by decide) hu) (hwindow _)
      · exact hwindow _
    · exact h

theorem State.portOff.setLane {s : State} {k : Nat} (h : s.portOff k) (d : DieId) (p : Nat) (v : List Int) :
    (setLane s d p v).portOff k := by
  have hport := fun n m => h.modPort (diePortNo d p) (g := fun x => { x with preset := n, ctle := m }) fun _ => ⟨rfl, rfl⟩
  unfold Machine.setLane sendLinkset
  dsimp only
  split
  · exact hport _ _
  · exact (hport _ _).sendTime ..

/-- What the values of a lane, the item's path and its events preserve, the end of its window preserves (R535, R541). -/
theorem closeWindow_preserves (P : State → Prop) {i : CalItem} (hlane : ∀ {u : State} d p v, P u → P (setLane u d p v))
    (hpath : ∀ {u : State} f, P u → P (setPath (u.modCal i f) i false)) (hevent : ∀ {u : State} code, P u → P (calEvent u i code))
    {s : State} (h : P s) : P (closeWindow s i) := by
  have hvalues : ∀ (c : Bool) d p v, P (if c = true then s else setLane s d p v) := fun c d p v => by
    split
    · exact h
    · exact hlane d p v h
  unfold closeWindow
  dsimp only
  split
  · exact h
  · split
    · split
      · exact hevent 5 (hpath _ (hvalues ..))
      · exact hevent 5 (hpath _ h)
    · split
      · exact hevent _ (hevent 5 (hpath _ (hvalues ..)))
      · exact hevent _ (hevent 5 (hpath _ h))

theorem State.portOff.closeWindow {s : State} {k : Nat} (h : s.portOff k) (i : CalItem) : (closeWindow s i).portOff k :=
  closeWindow_preserves (State.portOff · k) (fun d p v hu => hu.setLane d p v)
    (fun {u} f hu => State.portOff.setPath (s := u.modCal i f) hu i false) (fun _ hu => (raise_does ..).same.portOff (by decide) hu) h

/-- A step of a run over a list that takes one of its elements brings what the steps preserve. -/
theorem State.each_brings {α : Type} (P : State → Prop) {l : List α} {f : State → α → State} (x : α) (hx : x ∈ l)
    (hbrings : ∀ s, P (f s x)) (hkeeps : ∀ s y, P s → P (f s y)) (s : State) : P (s.each l f) := by
  unfold State.each
  induction l generalizing s with
  | nil => exact absurd hx List.not_mem_nil
  | cons y t ih =>
    rw [List.foldl_cons]
    rcases List.mem_cons.1 hx with rfl | ht
    · exact State.each_preserves P t f hkeeps (hbrings s)
    · exact ih ht (f s y)

/-- Every port of a die held in reset is off (R261). -/
theorem holdDie_portOff (s : State) (d : DieId) {p : Nat} (hp : p < 32) : (holdDie s d).portOff (diePortNo d p) := by
  unfold holdDie
  refine State.each_preserves (State.portOff · (diePortNo d p)) _ _ (fun u k hu => (judgeIfIn_does u k).same.portOff (by decide) hu) ?_
  refine (followGm_does ..).same.portOff (by decide) ?_
  have habandon : ∀ {u : State}, u.portOff (diePortNo d p) → (abandonVotes u).portOff (diePortNo d p) := fun {u} hu => by
    unfold abandonVotes
    refine State.each_preserves (State.portOff · (diePortNo d p)) _ _ (fun u v hu => (endUses_does ..).same.portOff (by decide) hu) ?_
    exact State.each_preserves (State.portOff · (diePortNo d p)) _ _ (fun u v hu => hu) hu
  refine habandon (State.each_preserves (State.portOff · (diePortNo d p)) _ _ (fun u i hu => hu.closeWindow i) ?_)
  refine (State.modTime_does ..).same.portOff (by decide) ((State.modDies_does ..).same.portOff (by decide) ?_)
  refine (State.modOp_does ..).same.portOff (by decide) ((setMemory_does ..).same.portOff (by decide) ?_)
  refine (State.modResults_does ..).same.portOff (by decide) ?_
  refine State.each_brings (State.portOff · (diePortNo d p)) p (List.mem_range.2 hp) (fun u => ?_) (fun u k hu => ?_) _
  · rw [State.portOff, State.modPort_port_self]
    exact ⟨rfl, rfl⟩
  · rw [State.portOff, State.modPort_port]
    split
    · exact ⟨rfl, rfl⟩
    · exact hu

/-! ### A fence in DUO, and a second fault (R259, R263, R276) -/

/-- A die can lead: it is complete and in a role (R259). -/
def Die.fit (x : Die) : Bool := !x.incomplete && decide (x.role ≠ .none)

/-- The arbiter's record of a promotion (R259, R263). -/
def Twin.promoted (x : Twin) (t : Nat) : Twin :=
  { x with epoch := x.epoch + 1, promotions := x.promotions + 1, promotedAt := some t, owed := false }

/-- The arbiter's record of a promotion that waits (R259). -/
def Twin.owing (x : Twin) : Twin := { x with owed := true }

@[simp] theorem promoteDie_twin (s : State) (d : DieId) : (promoteDie s d).dies.twin = s.dies.twin.promoted s.uptime := rfl

theorem succeed_fit {s : State} {d : DieId} (h : (s.die d).fit = true) : succeed s d = promoteDie s d := by
  unfold Die.fit at h
  rw [succeed, if_neg (by simpa using h)]

theorem succeed_unfit {s : State} {d : DieId} (h : (s.die d).fit = false) : succeed s d = s.modTwin Twin.owing := by
  unfold Die.fit at h
  rw [succeed, if_pos (by cases hi : (s.die d).incomplete <;> simp_all)]
  rfl

/-- Die `d` is held behind its fence, the cause is recorded, and event 0x01 tells of it (R259, R261). -/
def fenceTold (s : State) (d : DieId) (cause : Nat) : State :=
  raise ((setCause (holdDie s d) d cause).modTwin fun x => { x with fences := x.fences + 1 }) 200 1 (put d.num 1 0 ||| put cause 4 4)

@[simp] theorem fenceTold_die (s : State) (d : DieId) (cause : Nat) (e : DieId) :
    (fenceTold s d cause).die e = if e = d then (s.die e).held else s.die e := by
  rw [fenceTold, raise_die, State.modTwin_die, setCause_die, holdDie_die]

theorem fenceTold_portOff (s : State) (d : DieId) (cause : Nat) {p : Nat} (hp : p < 32) :
    (fenceTold s d cause).portOff (diePortNo d p) :=
  (raise_does ..).same.portOff (by decide) ((State.modDies_does ..).same.portOff (by decide)
    ((State.modDies_does ..).same.portOff (by decide) (holdDie_portOff s d hp)))

/-- What the fence of a die leaves of the arbiter's record of the pair, but for the count of fences. -/
theorem fenceTold_twin (s : State) (d : DieId) (cause : Nat) : (fenceTold s d cause).dies.twin.fences = s.dies.twin.fences + 1 ∧
    (fenceTold s d cause).dies.twin.epoch = s.dies.twin.epoch ∧
    (fenceTold s d cause).dies.twin.promotions = s.dies.twin.promotions ∧
    (fenceTold s d cause).dies.twin.inconFrames = s.dies.twin.inconFrames := by
  rw [fenceTold, raise_dies, State.modTwin_twin, setCause, State.modTwin_twin, holdDie_twin]
  cases d <;> exact ⟨rfl, rfl, rfl, rfl⟩

/-- A die of a pair in DUO has been fenced: the arbiter is in SOLO, and a change of microcode in its step 3 goes on (R259, R511). -/
def fenceSolo (s : State) (d : DieId) (cause : Nat) : State :=
  roleChange (if s.firmware.mcStep = 3 then setMcStep (fenceTold s d cause) (if decide (s.lead = d) then 5 else 1)
    else fenceTold s d cause) .solo

/-- OUT: both dies stand behind their fences (R276). -/
theorem goOut_spec (s : State) (d : DieId) : (goOut s d).dies.twin.state = .out ∧ (goOut s d).dies.a.fenced = true ∧
    (goOut s d).dies.b.fenced = true := by
  have ha := goOut_fenced s .a d
  have hb := goOut_fenced s .b d
  simp only [State.die] at ha hb
  exact ⟨by rw [goOut, raise_dies, roleChange, State.modTwin_twin], ha, hb⟩

section Duo
variable {s : State} {d : DieId} (cause : Nat)

theorem fenceSolo_die (e : DieId) : (fenceSolo s d cause).die e = if e = d then (s.die e).held else s.die e := by
  rw [fenceSolo, roleChange_die]
  split <;> simp

theorem fenceSolo_portOff {p : Nat} (hp : p < 32) : (fenceSolo s d cause).portOff (diePortNo d p) := by
  refine (State.modDies_does ..).same.portOff (by decide) ?_
  split
  · exact (setMcStep_does ..).same.portOff (by decide) (fenceTold_portOff s d cause hp)
  · exact fenceTold_portOff s d cause hp

theorem fenceSolo_twin : (fenceSolo s d cause).dies.twin.state = .solo ∧
    (fenceSolo s d cause).dies.twin.fences = s.dies.twin.fences + 1 ∧ (fenceSolo s d cause).dies.twin.epoch = s.dies.twin.epoch ∧
    (fenceSolo s d cause).dies.twin.promotions = s.dies.twin.promotions ∧
    (fenceSolo s d cause).dies.twin.inconFrames = s.dies.twin.inconFrames := by
  have htold := fenceTold_twin s d cause
  rw [fenceSolo, roleChange, State.modTwin_twin]
  split <;> exact ⟨rfl, htold⟩

variable (hfrozen : s.dies.twin.frozen = false) (hd : (s.die d).fenced = false) (hspan : s.span = false)
include hfrozen hd hspan

/-- A fence in DUO: the other die is told that it runs alone, and takes the lead where the lead was fenced (R259, R263). -/
theorem fenceDie_duo (hduo : s.dies.twin.state = .duo) : fenceDie s d cause =
    sendCommand (if s.lead = d then succeed (fenceSolo s d cause) d.other else fenceSolo s d cause) d.other 4 := by
  have hjoin : s.joining d = false := by simp [State.joining, hd]
  simp only [fenceDie, hfrozen, hjoin, hd, hspan, hduo, Bool.false_eq_true, if_false]
  by_cases hlead : s.lead = d
  · simp only [fenceSolo, fenceTold, hlead, decide_true, if_true]
  · simp only [fenceSolo, fenceTold, hlead, decide_false, if_false, Bool.false_eq_true]

theorem fenceDie_duo_die (hduo : s.dies.twin.state = .duo) (e : DieId) :
    (fenceDie s d cause).die e = if e = d then (s.die e).held else s.die e := by
  rw [fenceDie_duo cause hfrozen hd hspan hduo, sendCommand_die]
  split
  · rw [succeed_die, fenceSolo_die]
  · rw [fenceSolo_die]

theorem fenceDie_duo_portOff (hduo : s.dies.twin.state = .duo) {p : Nat} (hp : p < 32) :
    (fenceDie s d cause).portOff (diePortNo d p) := by
  rw [fenceDie_duo cause hfrozen hd hspan hduo]
  refine (State.emit_does ..).same.portOff (by decide) ?_
  split
  · exact (succeed_does ..).same.portOff (by decide) (fenceSolo_portOff cause hp)
  · exact fenceSolo_portOff cause hp

/-- A shadow that is fenced leaves the lead as it is (R259). -/
theorem fenceDie_shadow_twin (hduo : s.dies.twin.state = .duo) (hlead : s.lead ≠ d) :
    (fenceDie s d cause).dies.twin = (fenceSolo s d cause).dies.twin := by
  rw [fenceDie_duo cause hfrozen hd hspan hduo, if_neg hlead, sendCommand_dies]

/-- The lead is fenced and its twin is fit to lead: it is promoted (R259, R263). -/
theorem fenceDie_lead_twin (hduo : s.dies.twin.state = .duo) (hlead : s.lead = d) (hfit : (s.die d.other).fit = true) :
    (fenceDie s d cause).dies.twin = (fenceSolo s d cause).dies.twin.promoted (fenceSolo s d cause).uptime := by
  rw [fenceDie_duo cause hfrozen hd hspan hduo, if_pos hlead, sendCommand_dies,
    succeed_fit (by rwa [fenceSolo_die, if_neg d.other_ne]), promoteDie_twin]

/-- The lead is fenced and its twin is not fit to lead: the promotion is owed (R259). -/
theorem fenceDie_lead_owes (hduo : s.dies.twin.state = .duo) (hlead : s.lead = d) (hfit : (s.die d.other).fit = false) :
    (fenceDie s d cause).dies.twin = (fenceSolo s d cause).dies.twin.owing := by
  rw [fenceDie_duo cause hfrozen hd hspan hduo, if_pos hlead, sendCommand_dies,
    succeed_unfit (by rwa [fenceSolo_die, if_neg d.other_ne]), State.modTwin_twin]

/-- The arbiter's record after a fence in DUO (R259, R263). -/
theorem fenceDie_duo_twin (hduo : s.dies.twin.state = .duo) :
    (fenceDie s d cause).dies.twin.state = .solo ∧ (fenceDie s d cause).dies.twin.fences = s.dies.twin.fences + 1 ∧
    (fenceDie s d cause).dies.twin.epoch =
      (if s.lead = d ∧ (s.die d.other).fit = true then s.dies.twin.epoch + 1 else s.dies.twin.epoch) ∧
    (fenceDie s d cause).dies.twin.promotions =
      (if s.lead = d ∧ (s.die d.other).fit = true then s.dies.twin.promotions + 1 else s.dies.twin.promotions) ∧
    (s.lead = d → (s.die d.other).fit = false → (fenceDie s d cause).dies.twin.owed = true) ∧
    (fenceDie s d cause).dies.twin.inconFrames = s.dies.twin.inconFrames := by
  obtain ⟨hsolo, hcount, hepoch, hprom, hincon⟩ := fenceSolo_twin (s := s) (d := d) cause
  by_cases hlead : s.lead = d
  · cases hfit : (s.die d.other).fit
    · rw [fenceDie_lead_owes cause hfrozen hd hspan hduo hlead hfit]
      simp [Twin.owing, hsolo, hcount, hepoch, hprom, hincon]
    · rw [fenceDie_lead_twin cause hfrozen hd hspan hduo hlead hfit]
      simp [Twin.promoted, hsolo, hcount, hepoch, hprom, hincon, hlead]
  · rw [fenceDie_shadow_twin cause hfrozen hd hspan hduo hlead]
    simp [hsolo, hcount, hepoch, hprom, hincon, hlead]

/-- A fault while the other die is out or joins takes both dies to OUT (R276). -/
theorem fenceDie_out (hstate : s.dies.twin.state = .solo ∨ s.dies.twin.state = .copy ∨ s.dies.twin.state = .verify) :
    ∃ t, fenceDie s d cause = goOut t d := by
  have hjoin : s.joining d = false := by simp [State.joining, hd]
  simp only [fenceDie, hfrozen, hjoin, hd, hspan, Bool.false_eq_true, if_false]
  rcases hstate with h | h | h <;> simp only [h] <;> exact ⟨_, rfl⟩

end Duo

/-! ### The rows of the fence and of the frozen arbiter (R259, R260) -/

theorem fence_frozen {s : State} (h : s.dies.twin.frozen = true) (d : DieId) (cause : Nat) : exec (.fence d cause) s = .next s :=
  congrArg Host.Outcome.next (if_pos h)

theorem fence_stands {s : State} {d : DieId} (hf : (s.die d).fenced = true) (hr : (s.die d).running = false) (cause : Nat) :
    exec (.fence d cause) s = .next s := by
  simp [exec, execFence, fenceDie, State.joining, hf, hr]

/-- Settles O36: a fence in DUO by what it makes of its parts, a second fault by the way to OUT. -/
theorem fences : Obligations.Fences := by
  rintro s d cause fit rfl
  refine ⟨fun h => fence_frozen h d cause, fun hf hr => fence_stands hf hr cause, fun hfrozen hd hspan hduo => ?duo,
    fun hfrozen hd hspan hstate => ?out, fun h => ?freeze, fun h => ?frozen⟩
  case duo =>
    have hdie := fenceDie_duo_die cause hfrozen hd hspan hduo
    have hself := (hdie d).trans (if_pos rfl)
    obtain ⟨hsolo, hcount, hepoch, hprom, howed, -⟩ := fenceDie_duo_twin cause hfrozen hd hspan hduo
    exact ⟨_, rfl, by rw [hself]; rfl, by rw [hself]; rfl, hsolo, hcount, (hdie d.other).trans (if_neg d.other_ne),
      fun p hp => fenceDie_duo_portOff cause hfrozen hd hspan hduo hp, hepoch, hprom, howed⟩
  case out =>
    obtain ⟨t, ht⟩ := fenceDie_out cause hfrozen hd hspan hstate
    exact ⟨_, congrArg Host.Outcome.next ht, goOut_spec t d⟩
  case freeze => exact ⟨_, congrArg Host.Outcome.next (if_neg (by simp [h])), by rw [raise_dies, State.modTwin_twin]⟩
  case frozen => exact congrArg Host.Outcome.next (if_pos h)

end Sys2Proof.Machine

/-! ## Heartbeats and the arbiter's command words (R253 to R258, R263, R277) -/

namespace Sys2Proof.Machine

/-! ### The registers of the dies: what the work of frames leaves of them -/

/-- A die but for what its clusters hold and for its recorded errors. -/
def Die.regs (x : Die) : Die := { x with clusters := [], errors := [], nErrors := 0 }

/-- Both dies' registers. -/
def State.regs (s : State) : Die × Die := (s.dies.a.regs, s.dies.b.regs)

theorem State.die_regs {s t : State} (h : t.regs = s.regs) (d : DieId) : (t.die d).regs = (s.die d).regs := by
  cases d
  · exact congrArg Prod.fst h
  · exact congrArg Prod.snd h

theorem Same.regs {l : List Part} {s t : State} (h : Same l s t) (hl : Part.dies ∉ l) : t.regs = s.regs := by
  rw [State.regs, h.dies hl, State.regs]

/-- Where both dies' registers stay, a die keeps its role, its epoch and its fence. -/
theorem State.role_of_regs {s t : State} (h : t.regs = s.regs) (d : DieId) : (t.die d).role = (s.die d).role ∧
    (t.die d).epoch = (s.die d).epoch ∧ (t.die d).fenced = (s.die d).fenced ∧ (t.die d).missedCmd = (s.die d).missedCmd ∧
    (t.die d).fenceReq = (s.die d).fenceReq := by
  have hd := State.die_regs h d
  have hrole := congrArg Die.role hd
  have hepoch := congrArg Die.epoch hd
  have hfenced := congrArg Die.fenced hd
  have hmissed := congrArg Die.missedCmd hd
  have hreq := congrArg Die.fenceReq hd
  exact ⟨hrole, hepoch, hfenced, hmissed, hreq⟩

@[simp] theorem State.modDie_canvas (s : State) (d : DieId) (g : Die → Die) (c : Nat) : (s.modDie d g).canvas c = s.canvas c :=
  State.canvas_of_frames (State.modDie_frames ..) c

/-- What every step of a fold keeps, the fold keeps. -/
theorem foldl_keeps {σ α β : Type} (p : σ → β) {f : σ → α → σ} (h : ∀ s x, p (f s x) = p s) (l : List α) (s : σ) :
    p (l.foldl f s) = p s := by
  induction l generalizing s with
  | nil => rfl
  | cons x t ih => rw [List.foldl_cons, ih, h]

section
variable (s : State)

@[simp] theorem recordError_regs (d : DieId) (k : ErrKind) : (recordError s d k).regs = s.regs := by cases d <;> rfl

@[simp] theorem soilCluster_regs (d : DieId) (c : Nat) : (soilCluster s d c).regs = s.regs := by cases d <;> rfl

@[simp] theorem raise_regs (src code : Nat) (data : Word) (frame : Nat) (t : Option Nat) :
    (raise s src code data frame t).regs = s.regs := (raise_does s src code data frame t).same.regs (by decide)

@[simp] theorem State.modCanvas_regs (c : Nat) (g : Canvas → Canvas) : (s.modCanvas c g).regs = s.regs := rfl

@[simp] theorem placeStripes_regs (c : Nat) : (placeStripes s c).regs = s.regs := by
  have hsoil : ∀ (u : State) (l : List (DieId × Nat)), (u.each l fun s x => soilCluster s x.1 x.2).regs = u.regs := fun u l =>
    State.each_keeps State.regs _ _ fun v x => soilCluster_regs v x.1 x.2
  unfold placeStripes
  dsimp only
  generalize (if ((s.canvas c).order.map fun o => o.acked && !o.isRepeat) = some true then stripeUnits s c else []) = l
  split
  · rfl
  · rw [hsoil]; rfl

theorem scaleZones_regs (c n : Nat) (withheld : Bool) : (scaleZones s c n withheld).1.regs = s.regs := by
  refine foldl_keeps (fun a : State × List (Nat × Nat) × List (Nat × Nat) => a.1.regs) (fun a z => ?_) _ _
  have hmarks : ∀ (u : State) (l : List Placement), (l.foldl (fun s p => markRegion s c p.tile 256 n) u).regs = u.regs := fun u l =>
    foldl_keeps State.regs (fun u p => (markRegion_does ..).same.regs (by decide)) l u
  have hzone : ∀ f, (a.1.modZone z f).regs = a.1.regs := fun f => rfl
  dsimp only
  repeat' split
  all_goals simp only [hmarks, hzone, raise_regs, recordError_regs]

theorem armCanvas_regs (c n : Nat) : (armCanvas s c n).regs = s.regs := by
  have hrecord : ∀ (l : List DieId) (ar : Bool × Bool), (l.foldl (fun s d => if armedIn s c d = ar then s else recordError s d .oneSided) s).regs =
      s.regs := fun l ar => foldl_keeps State.regs (fun u d => by split <;> simp) l s
  have hflash : ∀ (u : State) f, (u.modFlash c f).regs = u.regs := fun u f => rfl
  unfold armCanvas
  dsimp only
  repeat' split
  all_goals simp only [raise_regs, hflash, hrecord]

theorem enterFrame_regs (c n : Nat) : (enterFrame s c n).1.regs = s.regs := (enterFrame_fst s c n).same.regs (by decide)

theorem beginFrame_regs (c n : Nat) (o : Option FrameOrder) : (beginFrame s c n o).regs = s.regs := rfl

theorem selectFrame_regs (c n : Nat) (dark : Bool) : (selectFrame s c n dark).regs = s.regs := by
  have hjudge : ∀ u : State, (judgeLate u c ((s.canvas c).selTime n)).regs = u.regs := fun u => (judgeLate_does ..).same.regs (by decide)
  have hmark : ∀ u : State, (markCanvas u c n).regs = u.regs := fun u => rfl
  have hlayers : ∀ u : State, (chooseLayers u c n).1.regs = u.regs := fun u => (chooseLayers_fst ..).same.regs (by decide)
  have happart : ∀ (u : State) l, (choicesApart u c n l).1.regs = u.regs := fun u l => (choicesApart_fst ..).same.regs (by decide)
  have hdrop : ∀ u : State, (dropMarks u c n).regs = u.regs := fun u => rfl
  unfold selectFrame
  dsimp only
  rw [placeStripes_regs, hdrop, beginFrame_regs, happart]
  cases dark <;> simp only [Bool.false_eq_true, if_true, if_false, hjudge, hmark, hlayers, armCanvas_regs, scaleZones_regs, enterFrame_regs]

theorem silentFrame_regs (c n : Nat) : (silentFrame s c n).regs = s.regs := by
  have hzones : ∀ (u : State) (l : List Nat), (u.each l fun s z => s.modZone z fun y => { y with g := none, gB := none }).regs = u.regs :=
    fun u l => State.each_keeps State.regs _ _ fun v z => rfl
  have hmark : ∀ (u : State) n, (markCanvas u c n).regs = u.regs := fun u n => rfl
  unfold silentFrame
  dsimp only
  rw [State.modCanvas_regs, hmark, beginFrame_regs, armCanvas_regs, hzones, enterFrame_regs]

theorem repeatFrame_regs (c n : Nat) : (repeatFrame s c n).regs = s.regs := by
  unfold repeatFrame
  dsimp only
  rw [beginFrame_regs, armCanvas_regs, scaleZones_regs, enterFrame_regs]

theorem select_regs (c : Nat) : (select s c).regs = s.regs := by
  have hlate := (failLate_does s c (s.canvas c).next).same.regs (by decide)
  have hmark : ∀ (u : State) n, (markCanvas u c n).regs = u.regs := fun u n => rfl
  unfold select
  dsimp only
  repeat' split
  all_goals simp only [State.modCanvas_regs, hmark, beginFrame_regs, silentFrame_regs, selectFrame_regs, repeatFrame_regs, hlate]

theorem ackOrder_regs (c : Nat) : (ackOrder s c).regs = s.regs := by
  unfold ackOrder
  repeat' split
  all_goals simp

theorem rewriteOrder_regs (c : Nat) (o : FrameOrder) (d : DieId) : (rewriteOrder s c o d).regs = s.regs := by
  have hbefore : (o.before.foldl (fun s x => s.modLayer x.1 fun _ => x.2) (endUses s c o.frame)).regs = s.regs :=
    (foldl_keeps State.regs (f := fun s (x : Nat × Layer) => s.modLayer x.1 fun _ => x.2) (fun _ _ => rfl) _ _).trans
      ((endUses_does ..).same.regs (by decide))
  have hlayers : ∀ u : State, (chooseLayers u c o.frame).1.regs = u.regs := fun u => (chooseLayers_fst ..).same.regs (by decide)
  unfold rewriteOrder
  dsimp only
  split
  · rfl
  · rw [placeStripes_regs, State.modCanvas_regs]
    split <;> simp only [hlayers, hbefore]

theorem takeOrders_regs (d : DieId) : (takeOrders s d).regs = s.regs := by
  refine State.each_keeps State.regs _ _ fun u c => ?_
  repeat' split
  all_goals simp only [ackOrder_regs, rewriteOrder_regs, select_regs, State.modCanvas_regs]

end

/-! ### Heartbeats (R255 to R257, R277) -/

theorem sendHeartbeat_die (s : State) (d e : DieId) : (sendHeartbeat s d).die e =
    if e = d then { s.die d with hseq := (s.die d).hseq + 1 } else s.die e := by
  cases d <;> cases e <;> rfl

theorem heartbeatSend_runs {s : State} {d : DieId} (h : (s.die d).running = true) :
    exec (.heartbeatSend d) s = .next (sendHeartbeat s d) := congrArg Host.Outcome.next (if_pos h)

/-- What leaves is the word of the die with its HSEQ raised (R255). -/
theorem sendHeartbeat_out (s : State) (d : DieId) :
    (sendHeartbeat s d).out = .heartbeat d (heartbeatWord (sendHeartbeat s d) d) :: s.out := by
  cases d <;> rfl

section Received
variable {s s1 : State} {d : DieId} {w : Word} {h : BitVec 8} (hwatched : s.watched d = true) (hh : h = BitVec.ofNat 8 (fld w 7 0))
  (hnext : h = (s.dies.twin.beats d).2 + 1) (hs1 : s1 = s.modTwin fun x => x.setBeats d 0 h)
include hwatched hh hnext hs1

/-- What a valid word of a watched die does (R255, R256, R277). -/
theorem heartbeatReceived_valid : exec (.heartbeatReceived d w) s = .next
    (if bit w 18 then fenceDie s1 d (if fld w 23 20 = 6 then 4 else 2)
    else if bit w 24 && s.twin && decide (fld w 17 16 = 1) && decide (s.lead = d) then fenceDie s1 d.other 3
    else if s1.dies.twin.owed && s1.up d && !s1.dies.twin.frozen && !bit w 19 && decide (fld w 17 16 ≠ 0) then promoteDie s1 d
    else s1) := by
  subst hs1 hh
  simp only [exec, execHeartbeatReceived, hwatched, hnext, Bool.not_true, ne_eq, not_true_eq_false, decide_false, Bool.or_self,
    Bool.false_eq_true, if_false]

end Received

theorem Twin.setBeats_owed (x : Twin) (d : DieId) (n : Nat) (h : BitVec 8) : (x.setBeats d n h).owed = x.owed := by cases d <;> rfl

theorem Twin.setBeats_frozen (x : Twin) (d : DieId) (n : Nat) (h : BitVec 8) : (x.setBeats d n h).frozen = x.frozen := by cases d <;> rfl

theorem heartbeatReceived_skipped {s : State} {d : DieId} {w : Word}
    (h : BitVec.ofNat 8 (fld w 7 0) ≠ (s.dies.twin.beats d).2 + 1) : exec (.heartbeatReceived d w) s = .next s :=
  congrArg Host.Outcome.next (if_pos (by rw [decide_eq_true h, Bool.or_true]))

theorem heartbeatMiss_counts {s : State} {d : DieId} (hwatched : s.watched d = true) : exec (.heartbeatMiss d) s = .next
    (let s1 := s.modTwin fun x => x.setBeats d (min 3 ((s.dies.twin.beats d).1 + 1)) (s.dies.twin.beats d).2
    if 3 ≤ (s.dies.twin.beats d).1 + 1 then fenceDie s1 d 1 else s1) :=
  congrArg Host.Outcome.next (if_neg (by simp [hwatched]))

/-! ### The arbiter's command words (R254, R258, R263) -/

/-- What every step of a run makes of its own element alone, the run makes of each element. -/
theorem State.each_reads {α β : Type} [DecidableEq α] (q : State → α → β) (F : α → β → β) {f : State → α → State}
    (hf : ∀ s x y, q (f s x) y = if y = x then F x (q s x) else q s y) {l : List α} (hl : l.Nodup) (s : State) (x : α) :
    q (s.each l f) x = if x ∈ l then F x (q s x) else q s x := by
  unfold State.each
  induction l generalizing s with
  | nil => rfl
  | cons y t ih =>
    obtain ⟨hy, ht⟩ := List.nodup_cons.1 hl
    rw [List.foldl_cons, ih ht, hf]
    by_cases hx : x = y
    · subst hx; simp [hy]
    · simp [hx]

theorem placeStripes_order (s : State) (c k : Nat) : ((placeStripes s c).canvas k).order = (s.canvas k).order := by
  have hsoil : ∀ (u : State) (l : List (DieId × Nat)), (u.each l fun s x => soilCluster s x.1 x.2).frames = u.frames := fun u l =>
    State.each_keeps State.frames _ _ fun v x => (soilCluster_does ..).same.frames (by decide)
  have hscalers : ∀ l, ((s.modCanvas c fun x => { x with scalers := l }).canvas k).order = (s.canvas k).order := fun l => by
    rw [State.modCanvas_canvas]
    split
    · next h => rw [h]
    · rfl
  unfold placeStripes
  dsimp only
  generalize (if ((s.canvas c).order.map fun o => o.acked && !o.isRepeat) = some true then stripeUnits s c else []) = l
  split
  · exact hscalers []
  · rw [State.canvas_of_frames (hsoil ..)]
    exact hscalers l

/-- A frame order that waits for nobody (R254). -/
def FrameOrder.taken (o : FrameOrder) : FrameOrder := { o with acked := true }

theorem ackOrder_order (s : State) (c k : Nat) : ((ackOrder s c).canvas k).order =
    if k = c then (s.canvas c).order.map FrameOrder.taken else (s.canvas k).order := by
  unfold ackOrder
  split
  · next o ho =>
    split
    · next hacked =>
      have htaken : o.taken = o := by cases o; cases hacked; rfl
      split
      · next h => rw [h, ho, Option.map_some, htaken]
      · rfl
    · rw [placeStripes_order, State.modCanvas_canvas]
      split
      · next h => rw [ho]; rfl
      · rfl
  · next ho =>
    split
    · next h => rw [h, ho]; rfl
    · rfl

/-- The die's own orders are taken, the others wait (R254). -/
theorem ownOrders_order (s : State) (d : DieId) {c : Nat} (hc : c < 4) : ((ownOrders s d).canvas c).order =
    (s.canvas c).order.map fun o => { o with acked := o.acked || decide (o.writtenBy = d) } := by
  have hstep := State.each_reads (fun u k => (u.canvas k).order)
    (fun _ x => if (x.map fun o => o.writtenBy) = some d then x.map FrameOrder.taken else x)
    (f := fun s c => if ((s.canvas c).order.map fun o => o.writtenBy) = some d then ackOrder s c else s)
    (fun u x y => by
      split
      · next h => rw [ackOrder_order]
      · split
        · next h => rw [h]
        · rfl) (l := List.range 4) List.nodup_range s c
  refine hstep.trans ((if_pos (List.mem_range.2 hc)).trans ?_)
  cases ho : (s.canvas c).order with
  | none => rfl
  | some o => by_cases hd : o.writtenBy = d <;> simp [hd, FrameOrder.taken]

theorem ownOrders_regs (s : State) (d : DieId) : (ownOrders s d).regs = s.regs := by
  refine State.each_keeps State.regs _ _ fun u c => ?_
  split
  · exact ackOrder_regs ..
  · rfl

/-- A promoted die leads under the epoch; the other die's registers stay (R263). -/
theorem promote_regs (s : State) (d : DieId) (epoch : BitVec 8) : (promote s d epoch).regs =
    (s.modDie d fun x => { x with role := .lead, epoch := epoch, mute := false, fenceReq := false }).regs := by
  unfold promote
  dsimp only
  rw [raise_regs, (repeatTxns_does ..).same.regs (by decide), takeOrders_regs]

section Command
variable {s : State} {d : DieId} {w : Word} (hruns : (s.die d).running = true)
include hruns

/-- What a running die does with a valid command word (R258). -/
theorem arbiterCommand_valid : exec (.arbiterCommand d w true) s = .next
    (let x := s.die d
    let epoch := BitVec.ofNat 8 (fld w 15 8)
    let s1 := s.modDie d fun y => { y with missedCmd := 0 }
    if fld w 3 0 = 1 then
      (if x.fenced || s.span || x.role = .lead || x.incomplete || x.role = .none then s1 else promote s1 d epoch)
    else if fld w 3 0 = 2 then (if !x.fenced && x.role = .none then becomeShadow s1 d epoch else s1)
    else if fld w 3 0 = 3 then (if x.fenced then s1.modDie d fun y => { y with incomplete := true } else s1)
    else if fld w 3 0 = 4 then (if x.fenced || s.up d.other then s1 else ownOrders (s1.modDie d fun y => { y with fenceReq := false }) d)
    else s1) := by
  simp only [exec, execArbiterCommand, hruns, Bool.not_true, Bool.false_eq_true, if_false]

theorem arbiterCommand_invalid : exec (.arbiterCommand d w false) s =
    .next (s.modDie d fun y => { y with missedCmd := min 3 (y.missedCmd + 1) }) := by
  simp only [exec, execArbiterCommand, hruns, Bool.not_true, Bool.not_false, Bool.false_eq_true, if_false, if_true]

end Command

/-- Settles O35: heartbeats by what a valid word, a miss and a declaration do, command words by the branch of the command. -/
theorem arbiterAndHeartbeats : Obligations.ArbiterAndHeartbeats := by
  refine ⟨fun s d w h cause => ⟨?sends, ?received, ?skipped, ?miss, ?fatal, ?told⟩,
    fun s d w e x => ?commands⟩
  case sends =>
    exact fun hruns => ⟨_, heartbeatSend_runs hruns, by rw [sendHeartbeat_die, if_pos rfl], sendHeartbeat_out s d⟩
  case received =>
    intro hwatched hh hnext s1 hs1
    rw [heartbeatReceived_valid hwatched hh hnext hs1]
    have howed : s1.dies.twin.owed = s.dies.twin.owed := by rw [hs1, State.modTwin_twin, Twin.setBeats_owed]
    have hfrozen : s1.dies.twin.frozen = s.dies.twin.frozen := by rw [hs1, State.modTwin_twin, Twin.setBeats_frozen]
    have hup : s1.up d = s.up d := by rw [State.up, hs1, State.modTwin_die, State.up]
    refine ⟨fun h18 => ?_, fun h18 h24 htwin hrole hlead => ?_, fun h18 h24 ho => ?_, fun h18 h24 ho hu hf h19 hrole => ?_⟩
    · simp [h18]
    · simp [h18, h24, htwin, hrole, hlead]
    · simp [h18, h24, howed, ho]
    · simp [h18, h24, howed, ho, hup, hu, hfrozen, hf, h19, hrole]
  case skipped => exact fun _ hne => heartbeatReceived_skipped hne
  case miss =>
    rintro hwatched n s1 rfl rfl
    rw [heartbeatMiss_counts hwatched]
    exact ⟨fun hn => congrArg Host.Outcome.next (if_neg (by omega)), fun hn => congrArg Host.Outcome.next (if_pos (by omega))⟩
  case fatal =>
    intro hruns hfatal
    have hdie := declareFatal_die cause hruns hfatal
    exact ⟨_, rfl, by rw [hdie], by rw [hdie], by rw [hdie]⟩
  case told => exact fun hfatal => congrArg Host.Outcome.next (if_pos (by simp [hfatal]))
  case commands =>
    rintro rfl hruns rfl
    rw [arbiterCommand_valid hruns]
    dsimp only
    refine ⟨fun hcmd hf hspan hrole hinc => ?lead, fun hcmd hf hrole => ?shadow, fun hcmd hf => ?rejoin, fun hcmd hf hup => ?alone,
      arbiterCommand_invalid hruns, congrArg Host.Outcome.next (if_pos hruns)⟩
    case lead =>
      have hregs := promote_regs (s.modDie d fun y => { y with missedCmd := 0 }) d (BitVec.ofNat 8 (fld w 15 8))
      obtain ⟨hrole, hepoch, -, hmissed, -⟩ := State.role_of_regs hregs d
      obtain ⟨hrole', hepoch', hfence', -, -⟩ := State.role_of_regs hregs d.other
      simp only [State.modDie_die, if_true, if_neg d.other_ne] at hrole hepoch hmissed hrole' hepoch' hfence'
      exact ⟨_, by rw [if_pos hcmd, if_neg (by simp_all)], hrole, hepoch, hmissed, hrole', hepoch', hfence'⟩
    case shadow =>
      refine ⟨_, by rw [if_neg (by omega), if_pos hcmd, if_pos (by simp [hf, hrole])], ?_⟩
      rw [becomeShadow, raise_die, State.modDie_die, if_pos rfl, State.modDie_die, if_pos rfl]
      exact ⟨by rw [State.span, State.modDie_hub, State.span], by rw [State.span, State.modDie_hub, State.span]⟩
    case rejoin =>
      refine ⟨_, by rw [if_neg (by omega), if_neg (by omega), if_pos hcmd, if_pos hf], ?_⟩
      rw [State.modDie_die, if_pos rfl]
    case alone =>
      refine ⟨_, by rw [if_neg (by omega), if_neg (by omega), if_neg (by omega), if_pos hcmd, if_neg (by simp [hf, hup])], ?_,
        fun c hc => (ownOrders_order _ d hc).trans (by rw [State.modDie_canvas, State.modDie_canvas])⟩
      obtain ⟨-, -, -, -, hreq⟩ := State.role_of_regs (ownOrders_regs _ d) d
      rw [hreq, State.modDie_die, if_pos rfl]

end Sys2Proof.Machine

/-! ## Rejoin, verification and cold rebuild; the limit of votes and the change of microcode (R252, R272 to R276, R511, R512) -/

namespace Sys2Proof.Machine

/-! ### Reading the state after a change -/

/-- No fall-back waits: none begins (R513). -/
theorem fallBackDue_none {s : State} (h : s.firmware.fallBack = none) : fallBackDue s = s := by
  rw [fallBackDue, h]

/-- What a change of the arbiter's record or of one die leaves of a die reading the dies alone. -/
theorem State.die_of_dies {s t : State} (h : t.dies = s.dies) (d : DieId) : t.die d = s.die d := by
  cases d
  · exact congrArg Dies.a h
  · exact congrArg Dies.b h

section
variable (s : State) (d e : DieId)

@[simp] theorem setMicrocode_dies (mc : Word) : (setMicrocode s d mc).dies = s.dies := rfl

@[simp] theorem setMicrocode_fallBack (mc : Word) : (setMicrocode s d mc).firmware.fallBack = s.firmware.fallBack := by
  cases d <;> rfl

@[simp] theorem State.setCopy_dies (v : BitVec 96) : (s.setCopy d v).dies = s.dies := rfl

@[simp] theorem enablePorts_dies : (enablePorts s d).dies = s.dies := (enablePorts_does s d).same.dies (by decide)

@[simp] theorem setPll_dies (v : Bool) : (setPll s d v).dies = s.dies := (setPll_does s d v).same.dies (by decide)

/-- A die whose root PLL locks again is told of, and nothing of the dies changes (R460). -/
@[simp] theorem pllTold_dies : (if s.pll d then s else raise (setPll s d true) (statusSource d) 2 0).dies = s.dies := by
  split <;> simp

/-- The hub's network ports of a die start anew (R378). -/
@[simp] theorem restartPorts_dies (l : List Nat) : (l.foldl (fun s p => restartPort s (d.num * 2 + p)) s).dies = s.dies :=
  foldl_keeps State.dies (fun u p => (restartPort_does ..).same.dies (by decide)) l s

/-! ### Rejoin (R29, R67, R273, R280, R512) -/

/-- Die `d` restarted and released behind its fence (R273). -/
def joinStart : State :=
  let s0 := if s.pll d then s else raise (setPll s d true) (statusSource d) 2 0
  let s1 := s0.modDie d fun x => { x with running := true, incomplete := true, hseq := 0, missedCmd := 0 }
  ((setMemory (setMicrocode s1 d s.imageMicrocode) d .active).setCopy d s.time.counter).modTwin fun x =>
    Twin.linkRestart { (x.setBeats d 0 0) with k0 := snapshotFrame s, verified := 0, verFrame := none, failedVer := 0 } d

theorem joinStart_die : (joinStart s d).die d = { s.die d with running := true, incomplete := true, hseq := 0, missedCmd := 0 } := by
  rw [joinStart, State.modTwin_die, State.die_of_dies (State.setCopy_dies ..), setMemory_die,
    State.die_of_dies (setMicrocode_dies ..), State.modDie_die, if_pos rfl, State.die_of_dies (pllTold_dies ..)]

theorem joinStart_k0 : (joinStart s d).dies.twin.k0 = snapshotFrame s := by
  rw [joinStart, State.modTwin_twin]
  cases d <;> rfl

variable {s d}

/-- A released die joins, and the copy of the other die's state begins (R273). -/
theorem rejoinRelease_copies (hrelease : canRelease s d = true) (hregion : lostRegion s d = false) (hspan : s.span = false) :
    ∃ u, exec (.rejoinRelease d) s = .next u ∧ u.dies = ((joinStart s d).modTwin fun x => { x with state := .copy }).dies := by
  refine ⟨_, congrArg Host.Outcome.next ((if_neg (by simp [hrelease])).trans ((if_neg (by simp [hregion])).trans
    (if_neg (by simp [hspan])))), ?_⟩
  change State.dies (ite _ _ _) = _
  by_cases hstep : s.firmware.mcStep = 1
  · simp only [hstep, if_true, fallBackDue_dies, raise_dies, sendCommand_dies, State.modTwin, State.modDies_dies, setMcStep_dies]
    rfl
  · simp only [hstep, if_false, raise_dies, sendCommand_dies]
    rfl

end

/-! ### The copy of the other die's state (R67, R274) -/

/-- A key whose entries all stay reads as before where others are dropped. -/
theorem tblGet_filter {α : Type} (d : α) (p : Nat × α → Bool) (t : Tbl α) {k : Nat} (h : ∀ v, p (k, v) = true) :
    Tbl.get d (t.filter p) k = Tbl.get d t k := by
  induction t with
  | nil => rfl
  | cons x t ih =>
    obtain ⟨i, v⟩ := x
    by_cases hk : k = i
    · subst hk
      rw [List.filter_cons_of_pos (h v), Tbl.get, Tbl.get, if_pos rfl, if_pos rfl]
    · rw [Tbl.get, if_neg hk, ← ih, List.filter_cons]
      split
      · rw [Tbl.get, if_neg hk]
      · rfl

/-- What the source buffers of a die hold, by buffer key. -/
def State.buffers (s : State) : DieId → Tbl (Tbl Byte)
  | .a => s.frames.memA
  | .b => s.frames.memB

theorem State.bufMem_eq (s : State) (d : DieId) (k b : Nat) : s.bufMem d k b = Tbl.get [] (s.buffers d) (bufKey k b) := by
  cases d <;> rfl

theorem Same.buffers {l : List Part} {s t : State} (h : Same l s t) (hl : Part.frames ∉ l) (d : DieId) : t.buffers d = s.buffers d := by
  cases d <;> simp only [State.buffers, h.frames hl]

theorem State.modScrim_buffers (s : State) (d : DieId) (r : Nat) (g : Scrim → Scrim) (e : DieId) :
    (s.modScrim d r g).buffers e = s.buffers e := by cases e <;> rfl

theorem loadScrim_buffers (s : State) (d : DieId) (r : Nat) (e : DieId) : (loadScrim s d r).buffers e = s.buffers e := by
  unfold loadScrim checkScrim
  dsimp only
  split
  · rw [State.modScrim_buffers]
  · rw [(raise_does ..).same.buffers (by decide), State.modScrim_buffers, State.modScrim_buffers]

/-- The joining die takes the other die's buffers of every slot copied. -/
theorem copyState_buffers_self (s : State) (d : DieId) : (copyState s d).buffers d =
    (s.buffers d.other).filter fun x => (copiedSlots s).contains (x.1 / 8) := by
  refine (State.each_keeps (fun u => u.buffers d) _ _ fun u r => loadScrim_buffers u d r d).trans ?_
  cases d <;> rfl

theorem copyState_buffers_other (s : State) (d : DieId) : (copyState s d).buffers d.other = s.buffers d.other := by
  refine (State.each_keeps (fun u => u.buffers d.other) _ _ fun u r => loadScrim_buffers u d r d.other).trans ?_
  cases d <;> rfl

/-- In Twin mode every buffer of a slot is copied (R67, R274). -/
theorem copyState_bufMem {s : State} (d : DieId) (hspan : s.span = false) {k b : Nat} (hk : k ∈ s.frames.slots.map Prod.fst) (hb : b < 8) :
    (copyState s d).bufMem d k b = s.bufMem d.other k b ∧ (copyState s d).bufMem d.other k b = s.bufMem d.other k b := by
  have hslot : bufKey k b / 8 = k := by rw [bufKey]; omega
  have hcopied : (copiedSlots s).contains (bufKey k b / 8) = true := by
    rw [copiedSlots, hspan, hslot]
    exact List.contains_iff_mem.2 hk
  rw [State.bufMem_eq, State.bufMem_eq, State.bufMem_eq, copyState_buffers_self, copyState_buffers_other,
    tblGet_filter [] _ _ fun _ => hcopied]
  exact ⟨rfl, rfl⟩

@[simp] theorem copyState_dies (s : State) (d : DieId) : (copyState s d).dies = s.dies := (copyState_does s d).same.dies (by decide)

/-- The copy is complete: the die goes on to its verification where the correction hashes agree (R274). -/
def copyDone (s : State) (d : DieId) : State :=
  (if hashesAgree (copyState s d) d then (copyState s d).modTwin fun x =>
      { x with state := .verify, verified := 0, verFrame := s.lowCanvas.map fun _ => productionFrame s }
    else copyState s d).modDie d fun x => { x with incomplete := true, epoch := if s.span then x.epoch else (s.die s.lead).epoch }

theorem copyDone_buffers (s : State) (d e : DieId) : (copyDone s d).buffers e = (copyState s d).buffers e := by
  rw [copyDone, (State.modDie_does ..).same.buffers (by decide)]
  split
  · exact (State.modDies_does ..).same.buffers (by decide) e
  · rfl

section Copy
variable {s : State} {d : DieId}

theorem stateCopyComplete_done (hjoin : s.joining d = true) (hcopy : s.dies.twin.state = .copy) (hfrozen : s.dies.twin.frozen = false)
    (hreached : copyReached s = true) (ha : s.dShed .a = false) (hb : s.dShed .b = false) :
    exec (.stateCopyComplete d) s = .next (copyDone s d) :=
  congrArg Host.Outcome.next (if_pos (by simp [hjoin, hcopy, hfrozen, hreached, ha, hb]))

theorem copyDone_agrees (h : hashesAgree (copyState s d) d = true) :
    (copyDone s d).dies.twin.state = .verify ∧ (copyDone s d).dies.twin.verified = 0 := by
  rw [copyDone, if_pos h, State.modDie_twin, State.modTwin_twin]
  exact ⟨rfl, rfl⟩

theorem copyDone_differs (h : hashesAgree (copyState s d) d = false) : (copyDone s d).dies.twin = s.dies.twin := by
  rw [copyDone, if_neg (by simp [h]), State.modDie_twin, copyState_dies]

end Copy

/-! ### Verification (R259, R275, R280) -/

theorem setCause_state (s : State) (d : DieId) (cause : Nat) : (setCause s d cause).dies.twin.state = s.dies.twin.state := by
  cases d <;> rfl

/-- The fence of a die is lifted: its role is to follow, and the count of its verification starts anew (R259, R273). -/
theorem admitDie_spec (s : State) (d : DieId) : ((admitDie s d).die d).fenced = false ∧ (admitDie s d).dies.twin.verified = 0 ∧
    (admitDie s d).dies.twin.state = if s.span then .span else .duo := by
  have hstep : ∀ (u : State) (half : Bool) (n : Nat),
      (if half then setMcStep u 3 else if n = 2 || n = 5 then setMcStep u 0 else u).dies = u.dies := fun u half n => by
    split
    · rfl
    · split <;> rfl
  have hend : ∀ (u : State) (n : Nat), (if n = 0 then u else fallBackDue u).dies = u.dies := fun u n => by
    split
    · rfl
    · exact fallBackDue_dies u
  unfold admitDie
  dsimp only
  rw [State.die_of_dies (hend ..), hend]
  rw [State.die_of_dies (restartPorts_dies ..), restartPorts_dies, State.die_of_dies (sendCommand_dies ..), sendCommand_dies,
    State.die_of_dies (enablePorts_dies ..), enablePorts_dies, State.modTwin_die, State.modTwin_twin,
    State.die_of_dies (hstep ..), hstep, setCause_die, roleChange_die, State.modDie_die, if_pos rfl]
  exact ⟨rfl, rfl, by rw [setCause_state, roleChange, State.modTwin_twin]⟩

/-- A die that has failed its verification for the third time stays fenced (R275). -/
theorem failVerification_spec (s : State) (d : DieId) : (failVerification s d).dies.twin.stayFenced = true ∧
    (failVerification s d).die d = ((s.die d).held) := by
  have hstep : (if s.firmware.mcStep = 0 then s else fallBackDue (setMcStep s 0)).dies = s.dies := by
    split <;> simp
  rw [failVerification, State.modTwin_die, setCause_die, holdDie_die, if_pos rfl, State.die_of_dies hstep, State.modTwin_twin]
  exact ⟨rfl, rfl⟩

/-- The frame that a verification judges now: the one in production on the lowest-numbered running canvas. -/
def verificationOf (s : State) : Option Nat := s.lowCanvas.map fun _ => productionFrame s

/-- The frames in a row that have agreed so far (R275). -/
def agreedSoFar (s : State) : Nat :=
  if verificationOf s = s.dies.twin.verFrame.map (· + 1) then s.dies.twin.verified else 0

/-- A difference is told of and counted (R275, R282). -/
def verificationDiffers (s : State) (d : DieId) : State :=
  raise (s.modTwin fun x => { x with verified := 0, verFrame := verificationOf s, failedVer := s.dies.twin.failedVer + 1 }) 200 5
    (put d.num 1 0 ||| put (s.dies.twin.failedVer + 1) 2 8)

section Verification
variable {s : State} {d : DieId}

theorem verificationFrame_again {n : Nat} (h : verificationOf s = some n) (hseen : s.dies.twin.verFrame = some n) (digest : BitVec 32) :
    exec (.verificationFrame d digest) s = .next s :=
  congrArg Host.Outcome.next (if_pos (by
    unfold verificationOf at h
    simp [h, hseen]))

variable (hjoin : s.joining d = true) (hstate : s.dies.twin.state = .verify) (hfrozen : s.dies.twin.frozen = false)
  (hnew : ¬((verificationOf s).isSome ∧ verificationOf s = s.dies.twin.verFrame))
include hjoin hstate hfrozen hnew

theorem verificationFrame_judges (digest : BitVec 32) : exec (.verificationFrame d digest) s = .next
    (if digest = verifyDigest s && verified s d then
      (if 16 ≤ agreedSoFar s + 1 then admitDie s d
        else s.modTwin fun x => { x with verified := agreedSoFar s + 1, verFrame := verificationOf s })
    else if 3 ≤ s.dies.twin.failedVer + 1 then failVerification (verificationDiffers s d) d
      else copyState (verificationDiffers s d) d) :=
  congrArg Host.Outcome.next (if_neg (by
    unfold verificationOf at hnew
    simpa [hjoin, hstate, hfrozen] using hnew))

end Verification

/-! ### Cold rebuild (R252, R259, R276) -/

/-- A die as a cold rebuild starts it (R276). -/
def Die.started (x : Die) (role : Role) (epoch : BitVec 8) : Die :=
  { x with role := role, running := true, fenced := false, mute := false, incomplete := false, epoch := epoch, hseq := 0, missedCmd := 0 }

theorem startDie_die (s : State) (d : DieId) (role : Role) (epoch : BitVec 8) (e : DieId) :
    (startDie s d role epoch).die e = if e = d then (s.die e).started role epoch else s.die e := by
  unfold startDie
  dsimp only
  rw [State.die_of_dies (restartPorts_dies ..), State.die_of_dies (enablePorts_dies ..), setCause_die, State.modTwin_die,
    State.die_of_dies (State.setCopy_dies ..), State.modDie_die, setMemory_die, State.die_of_dies (setMicrocode_dies ..),
    State.die_of_dies (pllTold_dies ..), setMemory_die, State.die_of_dies (setMicrocode_dies ..), State.die_of_dies (pllTold_dies ..)]
  split
  · next h => subst h; rfl
  · rfl

theorem startDie_epoch (s : State) (d : DieId) (role : Role) (epoch : BitVec 8) :
    (startDie s d role epoch).dies.twin.epoch = s.dies.twin.epoch := by
  have hsame : (startDie s d role epoch).dies.twin.epoch = ((if s.pll d then s else raise (setPll s d true) (statusSource d) 2 0)).dies.twin.epoch := by
    unfold startDie
    dsimp only
    rw [restartPorts_dies, enablePorts_dies]
    cases d <;> rfl
  rw [hsame, pllTold_dies]

theorem startDie_fallBack (s : State) (d : DieId) (role : Role) (epoch : BitVec 8) :
    (startDie s d role epoch).firmware.fallBack = s.firmware.fallBack := by
  have hpll : (if s.pll d then s else raise (setPll s d true) (statusSource d) 2 0).firmware = s.firmware := by
    split
    · rfl
    · rw [raise_firmware, (setPll_does ..).same.firmware (by decide)]
  have hports : ∀ (u : State) (l : List Nat), (l.foldl (fun s p => restartPort s (d.num * 2 + p)) u).firmware = u.firmware := fun u l =>
    foldl_keeps State.firmware (fun v p => (restartPort_does ..).same.firmware (by decide)) l u
  unfold startDie
  dsimp only
  rw [hports, (enablePorts_does ..).same.firmware (by decide)]
  change (State.firmware (State.modDie _ _ _)).fallBack = _
  rw [State.modDie_firmware, (setMemory_does ..).same.firmware (by decide), setMicrocode_fallBack, hpll]

@[simp] theorem roleChange_state (s : State) (st : ArbState) : (roleChange s st).dies.twin.state = st := rfl

@[simp] theorem roleChange_epoch (s : State) (st : ArbState) : (roleChange s st).dies.twin.epoch = s.dies.twin.epoch := rfl

/-- Both dies start under an epoch: A as lead, B as shadow (R252). -/
def startPair (s : State) (epoch : BitVec 8) : State :=
  startDie (startDie (s.modTwin fun x => { x with epoch := epoch }) .a .lead epoch) .b .shadow epoch

theorem startDies_both (s : State) (epoch : BitVec 8) : startDies s true true epoch =
    roleChange ((startPair s epoch).modTwin fun x => { x with owed := false, promotedAt := none }) .duo := rfl

theorem startDies_both_state (s : State) (epoch : BitVec 8) : (startDies s true true epoch).dies.twin.state = .duo ∧
    (startDies s true true epoch).dies.twin.epoch = epoch := by
  have hepoch : (startPair s epoch).dies.twin.epoch = epoch := by
    rw [startPair, startDie_epoch, startDie_epoch, State.modTwin_twin]
  rw [startDies_both, roleChange_state, roleChange_epoch, State.modTwin_twin]
  generalize (startPair s epoch).dies.twin = x at hepoch ⊢
  exact ⟨rfl, hepoch⟩

theorem startDies_both_die (s : State) (epoch : BitVec 8) (d : DieId) :
    (startDies s true true epoch).die d = (s.die d).started (if d = .a then .lead else .shadow) epoch := by
  rw [startDies_both, roleChange_die, State.modTwin_die, startPair, startDie_die, startDie_die, State.modTwin_die]
  cases d <;> rfl

theorem startDies_both_fallBack (s : State) (epoch : BitVec 8) :
    (startDies s true true epoch).firmware.fallBack = s.firmware.fallBack := by
  rw [startDies_both, roleChange, (State.modTwin_does ..).same.firmware (by decide), (State.modTwin_does ..).same.firmware (by decide),
    startPair, startDie_fallBack, startDie_fallBack, (State.modTwin_does ..).same.firmware (by decide)]

/-- The dies' buffers are empty after a cold rebuild (R276). -/
theorem coldState_buffers (s : State) : (coldState s).frames.memA = [] ∧ (coldState s).frames.memB = [] := ⟨rfl, rfl⟩

section Cold
variable {s : State} (hout : s.dies.twin.state = .out) (hcp : s.hub.cpFailed = false) (hfrozen : s.dies.twin.frozen = false)
include hout hcp hfrozen

theorem coldRebuild_both (ha : lostRegion s .a = false) (hb : lostRegion s .b = false) : exec (.coldRebuild true true) s = .next
    (fallBackDue (raise (setMcStep (startDies (coldState s) true true (s.dies.twin.epoch + 1)) 0) 200 7
      (put (min 65535 (lostChanges s)) 16 0))) := by
  simp only [exec, execColdRebuild, hout, hcp, hfrozen, ha, hb, ne_eq, not_true_eq_false, decide_false, Bool.or_self, Bool.not_false,
    Bool.not_true, Bool.and_self, Bool.false_eq_true, if_false]

theorem coldRebuild_neither : exec (.coldRebuild false false) s = .next
    (setStage ((s.modTwin fun x => { x with state := .halt }).modHub fun h => { h with halt := 7 }) .halted) := by
  simp only [exec, execColdRebuild, hout, hcp, hfrozen, ne_eq, not_true_eq_false, decide_false, Bool.or_self, Bool.not_false,
    Bool.false_and, Bool.and_self, Bool.false_eq_true, if_false, if_true]

end Cold

/-! ### The limit of inconclusive votes, and the handover of microcode (R272, R511) -/

/-- A fence leaves a fall-back that waits (R513). -/
theorem fenceDie_duo_fallBack {s : State} {d : DieId} (cause : Nat) (hfrozen : s.dies.twin.frozen = false)
    (hd : (s.die d).fenced = false) (hspan : s.span = false) (hduo : s.dies.twin.state = .duo) :
    (fenceDie s d cause).firmware.fallBack = s.firmware.fallBack := by
  have htold : (fenceTold s d cause).firmware = s.firmware := by
    rw [fenceTold, raise_firmware, (State.modTwin_does ..).same.firmware (by decide), setCause,
      (State.modTwin_does ..).same.firmware (by decide), (holdDie_does ..).same.firmware (by decide)]
  have hsolo : (fenceSolo s d cause).firmware.fallBack = s.firmware.fallBack := by
    rw [fenceSolo, roleChange, (State.modTwin_does ..).same.firmware (by decide)]
    split
    · rw [← htold]; rfl
    · rw [htold]
  rw [fenceDie_duo cause hfrozen hd hspan hduo, sendCommand, (State.emit_does ..).same.firmware (by decide)]
  split
  · rw [(succeed_does ..).same.firmware (by decide), hsolo]
  · exact hsolo

/-- The lead is fenced and the mute shadow speaks: step 5 of the change of microcode (R511). -/
def handedOver (s : State) : State :=
  setMcStep ((fenceDie (setMcStep s 4) s.lead 6).modDie s.lead.other fun x => { x with mute := false }) 5

theorem microcodeHandover_hands {s : State} (hduo : s.dies.twin.state = .duo) (hmute : (s.die s.lead.other).mute = true)
    (hstep : s.firmware.mcStep = 3) (hfrozen : s.dies.twin.frozen = false) (hcp : s.hub.cpFailed = false) :
    exec .microcodeHandover s = .next (fallBackDue (handedOver s)) :=
  congrArg Host.Outcome.next (if_pos (by simp [hduo, hmute, hstep, hfrozen, hcp]))

theorem inconclusiveLimit_reached {s : State} {a b : Nat} (hduo : s.dies.twin.state = .duo)
    (ha : s.dies.twin.inconFrames[0]? = some a) (hb : s.dies.twin.inconFrames[7]? = some b) (hnear : a < b + 1024) :
    exec .inconclusiveLimit s = .next
      (fenceDie (raise (s.modTwin fun x => { x with inconFrames := [] }) 201 4 0) s.lead.other 7) := by
  simp only [exec, execInconclusiveLimit, ha, hb]
  exact congrArg Host.Outcome.next (if_pos (by simp [hduo, hnear]))

/-! ### The switch of microcode (R512) -/

theorem setMicrocode_imageMicrocode (s : State) (d : DieId) (mc : Word) : (setMicrocode s d mc).imageMicrocode = s.imageMicrocode := by
  cases d <;> rfl

theorem setMicrocode_microcode (s : State) (d e : DieId) (mc : Word) :
    (setMicrocode s d mc).microcode e = if e = d then mc else s.microcode e := by
  cases d <;> cases e <;> rfl

/-- The dies of a list take the microcode of the running image. -/
def takeImage (s : State) (l : List DieId) : State := l.foldl (fun s d => setMicrocode s d s.imageMicrocode) s

theorem takeImage_fallBack (s : State) (l : List DieId) : (takeImage s l).firmware.fallBack = s.firmware.fallBack :=
  foldl_keeps (fun u : State => u.firmware.fallBack) (fun u d => setMicrocode_fallBack u d _) l s

theorem takeImage_microcode (s : State) (l : List DieId) (d : DieId) : 
    (takeImage s l).microcode d = if d ∈ l then s.imageMicrocode else s.microcode d := by
  unfold takeImage
  induction l generalizing s with
  | nil => rfl
  | cons e t ih =>
    rw [List.foldl_cons, ih, setMicrocode_imageMicrocode, setMicrocode_microcode]
    by_cases ht : d ∈ t
    · simp [ht]
    · by_cases he : d = e <;> simp [ht, he]

/-- The canvases that run. -/
def runningCanvases (s : State) : List Nat := below 4 fun c => (s.canvas c).running

/-- Every canvas of a list switches at its first frame K with S(K) 10 ms ahead (R512). -/
def switchAhead (s : State) (l : List Nat) : State :=
  s.each l fun s c => s.modCanvas c fun x => { x with mcFrame := some (x.firstFrame (s.wall + 10000000)) }

theorem microcodeSwitch_waits {s : State} (hwaits : switchWaits s = true)
    (hnone : ∀ k ∈ runningCanvases s, (s.canvas k).mcFrame = none ∧ (s.canvas k).mcNew = false) (c : Nat) : exec (.microcodeSwitch c) s = .next
      (if (runningCanvases s).isEmpty then fallBackDue (takeImage s ([DieId.a, DieId.b].filter s.up))
      else if (runningCanvases s).contains c then switchAhead s (runningCanvases s) else s) := by
  refine congrArg Host.Outcome.next (if_neg ?_)
  have hany : ((below 4 fun c => (s.canvas c).running).any fun c => (s.canvas c).mcFrame.isSome || (s.canvas c).mcNew) = false := by
    rw [List.any_eq_false]
    intro k hk
    obtain ⟨hframe, hnew⟩ := hnone k hk
    simp [hframe, hnew]
  simp [hwaits, hany]

theorem switchAhead_mcFrame (s : State) {l : List Nat} (hl : l.Nodup) {k : Nat} (hk : k ∈ l) :
    ((switchAhead s l).canvas k).mcFrame = some ((s.canvas k).firstFrame (s.wall + 10000000)) := by
  have hrun := State.each_reads (fun u c => (u.canvas c, u.wall))
    (fun _ x => ({ x.1 with mcFrame := some (x.1.firstFrame (x.2 + 10000000)) }, x.2))
    (f := fun s c => s.modCanvas c fun x => { x with mcFrame := some (x.firstFrame (s.wall + 10000000)) })
    (fun u x y => by
      rw [State.modCanvas_canvas]
      split
      · rfl
      · rfl) hl s k
  rw [if_pos hk] at hrun
  exact congrArg (fun x => x.1.mcFrame) hrun

/-- Settles O37: each row by its branch, and what the branch makes of the dies, the arbiter's record and the buffers. -/
theorem rejoinAndRebuild : Obligations.RejoinAndRebuild := by
  refine ⟨fun s d => ⟨?release, ?copy, ?verification⟩, fun s m c a b => ⟨?both, ?neither, ?limit, ?handover, ?idle, ?switch⟩⟩
  case release =>
    intro hrelease hregion hspan
    obtain ⟨u, hexec, hdies⟩ := rejoinRelease_copies hrelease hregion hspan
    have hfenced : (s.die d).fenced = true := by
      simp only [canRelease, Bool.and_eq_true] at hrelease
      simp_all
    have hdie : u.die d = (joinStart s d).die d := (State.die_of_dies hdies d).trans (State.modTwin_die ..)
    rw [joinStart_die] at hdie
    have htwin : u.dies.twin = { (joinStart s d).dies.twin with state := .copy } := congrArg Dies.twin hdies
    exact ⟨u, hexec, by rw [hdie], by rw [hdie]; exact hfenced, by rw [hdie], by rw [htwin]; exact joinStart_k0 s d, fun _ => by rw [htwin]⟩
  case copy =>
    intro hjoin hstate hfrozen hreached ha hb
    refine ⟨_, stateCopyComplete_done hjoin hstate hfrozen hreached ha hb, copyDone_agrees, fun h => ?_, fun hspan k b hk hb => ?_⟩
    · rw [copyDone_differs h, hstate]
    · rw [State.bufMem_eq, copyDone_buffers, ← State.bufMem_eq, State.bufMem_eq (copyDone s d), copyDone_buffers, ← State.bufMem_eq]
      exact copyState_bufMem d hspan hk hb
  case verification =>
    rintro hjoin hstate hfrozen n v rfl hv
    have hagreed : v = agreedSoFar s := hv
    have hfenced : (s.die d).fenced = true := (Bool.and_eq_true_iff.1 hjoin).1
    refine ⟨fun hsome hseen digest => ?_, fun hnew => ?_⟩
    · obtain ⟨n, hn⟩ := Option.isSome_iff_exists.1 hsome
      exact verificationFrame_again hn (hseen ▸ hn) digest
    · have hjudge := verificationFrame_judges hjoin hstate hfrozen hnew
      rw [← hagreed] at hjudge
      refine ⟨fun hv hlt => ?_, fun hv hge _ => ?_, fun digest hdiff hfew => ?_, fun digest hdiff hmany => ?_⟩
      · rw [hjudge, if_pos (by simp [hv]), if_neg (by omega)]
        rfl
      · exact ⟨_, by rw [hjudge, if_pos (by simp [hv]), if_pos (by omega)], admitDie_spec s d⟩
      · have hdies := (copyState_dies (verificationDiffers s d) d).trans (raise_dies ..)
        refine ⟨_, by rw [hjudge, if_neg (by simpa [or_iff_not_imp_left] using hdiff), if_neg (by omega)], ?_⟩
        rw [State.die_of_dies hdies, hdies, State.modTwin_die, State.modTwin_twin]
        exact ⟨rfl, rfl, hfenced, hstate⟩
      · obtain ⟨hstay, hheld⟩ := failVerification_spec (verificationDiffers s d) d
        exact ⟨_, by rw [hjudge, if_neg (by simpa [or_iff_not_imp_left] using hdiff), if_pos (by omega)], hstay,
          by rw [hheld]; rfl, by rw [hheld]; rfl⟩
  case both =>
    intro hout hcp hfrozen ha hb hnone
    have hcold : (coldState s).firmware = s.firmware := (coldState_does s).same.firmware (by decide)
    have hdies : ∀ d, (startDies (coldState s) true true (s.dies.twin.epoch + 1)).die d =
        (s.die d).started (if d = .a then .lead else .shadow) (s.dies.twin.epoch + 1) := fun d => by
      rw [startDies_both_die, (coldState_does s).same.die (by decide)]
    have hframes := (startDies_does (coldState s) true true (s.dies.twin.epoch + 1)).same.frames (by decide)
    obtain ⟨hstate, hepoch⟩ := startDies_both_state (coldState s) (s.dies.twin.epoch + 1)
    have hback := startDies_both_fallBack (coldState s) (s.dies.twin.epoch + 1)
    rw [hcold, hnone] at hback
    refine ⟨_, coldRebuild_both hout hcp hfrozen ha hb, ?_⟩
    generalize startDies (coldState s) true true (s.dies.twin.epoch + 1) = u at hdies hframes hstate hepoch hback
    rw [fallBackDue_none (by rw [raise_firmware]; exact hback), raise_dies, setMcStep_dies, (raise_does ..).same.frames (by decide),
      (setMcStep_does ..).same.frames (by decide), hframes]
    have hda := hdies .a
    have hdb := hdies .b
    simp only [State.die] at hda hdb
    rw [hda, hdb]
    exact ⟨hstate, rfl, rfl, rfl, rfl, hepoch, rfl, rfl⟩
  case neither =>
    intro hout hcp hfrozen
    have hhub := setStage_sansFuncs ((s.modTwin fun x => { x with state := .halt }).modHub fun h => { h with halt := 7 }) .halted
    exact ⟨_, coldRebuild_neither hout hcp hfrozen, by simpa [Hub.sansFuncs] using congrArg Hub.stage hhub,
      by simpa [Hub.sansFuncs] using congrArg Hub.halt hhub⟩
  case limit =>
    intro hduo ha hb hnear hfrozen hspan hfenced
    have hexec := inconclusiveLimit_reached hduo ha hb hnear
    generalize hu : raise (s.modTwin fun x => { x with inconFrames := [] }) 201 4 0 = u at hexec
    have htwin : u.dies.twin = { s.dies.twin with inconFrames := [] } := by rw [← hu, raise_dies, State.modTwin_twin]
    have hfrozen' : u.dies.twin.frozen = false := by rw [htwin]; exact hfrozen
    have hduo' : u.dies.twin.state = .duo := by rw [htwin]; exact hduo
    have hfenced' : (u.die s.lead.other).fenced = false := by rw [← hu, raise_die, State.modTwin_die]; exact hfenced
    have hspan' : u.span = false := by rw [← hu, State.span, raise_hub]; exact hspan
    obtain ⟨hsolo, -, -, -, -, hincon⟩ := fenceDie_duo_twin 7 hfrozen' hfenced' hspan' hduo'
    exact ⟨_, hexec, fenceDie_fenced 7 hfrozen' hfenced', by rw [hincon, htwin], hsolo⟩
  case handover =>
    rintro rfl hduo hmute hstep hfrozen hcp hspan hlead hnone
    have hdie := fenceDie_duo_die (s := setMcStep s 4) (d := s.lead) 6 hfrozen hlead hspan hduo
    have hback := fenceDie_duo_fallBack (s := setMcStep s 4) (d := s.lead) 6 hfrozen hlead hspan hduo
    have hnone' : (handedOver s).firmware.fallBack = none := by
      rw [handedOver, setMcStep, State.modFirmware_firmware, State.modDie_firmware]
      exact hback.trans hnone
    have hover : ∀ e, (handedOver s).die e = if e = s.lead.other then
        { (fenceDie (setMcStep s 4) s.lead 6).die s.lead.other with mute := false } else (fenceDie (setMcStep s 4) s.lead 6).die e := fun e => by
      rw [handedOver, setMcStep_die, State.modDie_die]
    refine ⟨_, microcodeHandover_hands hduo hmute hstep hfrozen hcp, ?_⟩
    rw [fallBackDue_none hnone', hover, hover, if_neg s.lead.other_ne.symm, if_pos rfl, hdie, if_pos rfl]
    exact ⟨rfl, rfl, rfl⟩
  case idle =>
    intro hwaits hidle hnone
    have hempty : runningCanvases s = [] := List.eq_nil_iff_forall_not_mem.2 fun k hk => by
      obtain ⟨hk4, hrun⟩ := mem_below.1 hk
      simp [hidle k hk4] at hrun
    refine ⟨takeImage s ([DieId.a, DieId.b].filter s.up), ?_, fun d hup => ?_⟩
    · rw [microcodeSwitch_waits hwaits (by simp [hempty]), if_pos (by simp [hempty]), fallBackDue_none (by rw [takeImage_fallBack, hnone])]
    · rw [takeImage_microcode, if_pos (List.mem_filter.2 ⟨by cases d <;> decide, hup⟩)]
  case switch =>
    intro hwaits hc hruns hnone
    have hruns' : ∀ k, k ∈ runningCanvases s ↔ k < 4 ∧ (s.canvas k).running = true := fun k => mem_below
    have hmem := (hruns' c).2 ⟨hc, hruns⟩
    refine ⟨switchAhead s (runningCanvases s), ?_, fun k hk hrun => switchAhead_mcFrame s (below_nodup ..) ((hruns' k).2 ⟨hk, hrun⟩)⟩
    rw [microcodeSwitch_waits hwaits fun k hk => hnone k ((hruns' k).1 hk).1, if_neg (by simpa using List.ne_nil_of_mem hmem), if_pos (List.contains_iff_mem.2 hmem)]

end Sys2Proof.Machine

/-! ## Reports and votes, frame verdicts and the flip (R203, R219, R222, R265 to R270, R486) -/

namespace Sys2Proof.Machine

/-! ### Region reports (R265 to R267) -/

theorem State.setResult_result_other (s : State) (d : DieId) (t i : Nat) (r : RegionRes) (k j : Nat) :
    (s.setResult d.other k j r).result d t i = s.result d t i := by
  cases d <;> rfl

/-- Both dies' results for a region, reported (R265). -/
def bothReported (s : State) (t i : Nat) (a b : RegionRes) : State :=
  (s.setResult .a t i { a with reported := true }).setResult .b t i { b with reported := true }

theorem bothReported_result (s : State) (t i : Nat) (a b : RegionRes) :
    (bothReported s t i a b).result .a t i = some { a with reported := true } ∧
    (bothReported s t i a b).result .b t i = some { b with reported := true } :=
  ⟨(State.setResult_result_other _ .a ..).trans (State.setResult_result_self ..), State.setResult_result_self ..⟩

/-- What both dies computed of a region is told once (R265): while they run the same microcode, the reports are compared. -/
theorem regionReport_compares {s : State} {t i c : Nat} {o : FrameOrder} {a b : RegionRes} (htwin : s.twin = true)
    (hupA : s.up .a = true) (hupB : s.up .b = true) (hc : s.canvasOf t = some c) (ho : (s.canvas c).order = some o)
    (ha : s.result .a t i = some a) (hb : s.result .b t i = some b) (hfa : a.frame = o.frame) (hfb : b.frame = o.frame)
    (hnew : a.reported = false) (hsame : s.sameMicrocode = true) :
    exec (.regionReport t i) s = .next (compareReports (bothReported s t i a b) c t i o.frame a b) := by
  simp only [exec, execRegionReport, hc, ha, hb, ho, htwin, hupA, hupB, hfa, hfb, hnew, hsame, bothReported, ne_eq, not_true_eq_false,
    decide_false, Bool.not_true, Bool.or_self, Bool.false_and, Bool.false_eq_true, if_false, if_true]

/-- Two complete regions start a vote where their CRCs differ, and nothing where they agree (R267). -/
theorem compareReports_complete {s : State} {c t i n : Nat} {a b : RegionRes} (ha : a.outcome = 0) (hb : b.outcome = 0) :
    compareReports s c t i n a b = if a.crc = b.crc then s else startVote s c t i n a b := by
  simp only [compareReports, ha, hb, decide_true, Bool.and_self, if_true]

/-! ### Votes (R32, R267, R269) -/

/-- A vote that ends stays in the arbiter's record, with the CRC it trusts. -/
theorem endVote_twin (s : State) (v : Vote) (outcome cluster : Nat) (x : Option (BitVec 32)) :
    (endVote s v outcome cluster x).dies.twin =
      { s.dies.twin with votes := s.dies.twin.votes.map fun w => if w.same v then { w with ended := true, trusted := x } else w } := by
  unfold endVote
  dsimp only
  split
  · rw [(endUses_does ..).same.arbiter (by decide), raise_dies, (State.modTile_does ..).same.arbiter (by decide), State.modVote,
      State.modTwin_twin]
  · rw [raise_dies, (State.modTile_does ..).same.arbiter (by decide), State.modVote, State.modTwin_twin]

theorem clearForReplay_twin (s : State) (d : DieId) (r : Nat) : (clearForReplay s d r).dies.twin = s.dies.twin := by
  unfold clearForReplay abortSlice
  split
  · split
    · exact State.modDie_twin ..
    · rfl
  · rfl

/-- A vote that begins stands in the arbiter's record, deferred at once or not, and is counted (R267, R281). -/
theorem startVote_records (s : State) (c t i n : Nat) (a b : RegionRes) :
    (∃ w ∈ (startVote s c t i n a b).dies.twin.votes, w.tile = t ∧ w.region = i ∧ w.frame = n ∧ w.a0 = a.crc ∧ w.b0 = b.crc) ∧
    (startVote s c t i n a b).dies.twin.mismatches = s.dies.twin.mismatches + 1 := by
  unfold startVote
  dsimp only
  split
  · rw [deferVote, endVote_twin, raise_dies, (State.modTile_does ..).same.arbiter (by decide), State.modTwin_twin]
    refine ⟨⟨_, List.mem_map.2 ⟨_, List.mem_append_right _ List.mem_cons_self, rfl⟩, ?_⟩, rfl⟩
    simp [Vote.same]
  · rw [clearForReplay_twin, clearForReplay_twin, raise_dies, (State.modTile_does ..).same.arbiter (by decide), State.modTwin_twin]
    exact ⟨⟨_, List.mem_append_right _ List.mem_cons_self, rfl, rfl, rfl, rfl, rfl⟩, rfl⟩

section Replay
variable {s : State} {t i k : Nat} {v : Vote} {crc : BitVec 32} (hup : s.up .a = true)
  (hfind : (s.dies.twin.votes.find? fun v => v.tile = t && v.region = i && !v.ended && !v.tie) = some v) (hnone : v.a1 = none)
include hup hfind hnone

/-- A replay's CRC is entered in its vote, which is then decided (R269, R270). -/
theorem replayResult_enters (hon : replayOn s .a v = some k) : exec (.replayResult .a t i (some crc) k) s = .next
    (decideVote ((soilCluster s .a k).modVote v fun _ => { v with a1 := some (some crc), repA := some k })
      { v with a1 := some (some crc), repA := some k }).drawn := by
  simp [exec, execReplayResult, hfind, hnone, hup, hon]

/-- Where no cluster can replay, the vote is deferred (R32). -/
theorem replayResult_defers (hon : replayOn s .a v = none) :
    exec (.replayResult .a t i (some crc) k) s = .next (endVote s v 7 0 none) := by
  simp [exec, execReplayResult, hfind, hnone, hup, hon, deferVote]

end Replay

/-! ### Frame verdicts (R143, R203, R375, R486) -/

/-- A frame that is next to flip, and whose regions have left or are out of time, gets its verdicts (R143, R152, R486). -/
theorem frameVerdict_due {s : State} {c : Nat} {o : FrameOrder} (ho : (s.canvas c).order = some o) (hrun : (s.canvas c).running = true)
    (hsent : (s.canvas c).flipSent = false) (hheld : (s.canvas c).withheld = false) (hframe : o.frame = (s.canvas c).frame + 1)
    (hcomputing : s.computing ≠ []) (hwait : (c, o.frame) ∉ s.dies.twin.verdictWait) (hphase : framePhase s c o.frame ≠ .silent)
    (hacked : o.acked = true) (hleft : sendsLeft s o = false ∨ inTime s c o.frame = false) (ok : List (DieId × Nat × ScrimFaults)) :
    exec (.frameVerdict c ok) s = .next (let s1 := frameLatents s c o ok
      if o.isRepeat then endRepeat s1 c o.frame else if workLate s1 o then endLate s1 c o.frame else endFrame s1 c o) := by
  have hidle : s.computing.isEmpty = false := by simpa using hcomputing
  have hlate : (sendsLeft s o && inTime s c o.frame) = false := by rcases hleft with h | h <;> simp [h]
  have hwaits : s.dies.twin.verdictWait.contains (c, o.frame) = false := by simpa using hwait
  simp only [exec, execFrameVerdict, ho]
  refine congrArg Host.Outcome.next (if_neg ?_)
  rw [hrun, hsent, hheld, hidle, hwaits, hacked, hlate, decide_eq_false hphase, decide_eq_false (fun h => h hframe)]
  decide

/-- The waiting verdict of a lone die is taken (R143). -/
def verdictTaken (s : State) (c : Nat) : State :=
  s.modTwin fun x => { x with verdictWait := x.verdictWait.filter fun y => y ≠ (c, (s.canvas c).frame + 1) }

/-- The tiles of a canvas, and those that its timing change brings (R222). -/
def flipTiles (s : State) (c : Nat) : List Nat :=
  ((s.canvas c).committed.tileIds ++ (match (s.canvas c).change with
    | some ch => ch.cfg.tileIds
    | none => [])).dedup

theorem verdictTimeout_leaves {s : State} {d : DieId} {c : Nat} (hup : s.up d = true) (halone : s.up d.other = false)
    (hwait : (c, (s.canvas c).frame + 1) ∈ s.dies.twin.verdictWait) :
    exec (.verdictTimeout d c) s = .next (leaveFlip (verdictTaken s c) c ((s.canvas c).frame + 1) (flipTiles s c)) :=
  congrArg Host.Outcome.next (if_pos (by simp [hup, halone, hwait]))

/-- A FLIP that leaves is the canvas's last one (R203). -/
theorem leaveFlip_sends {s : State} {c n : Nat} (h : stepBlocks s c n = false) (tiles : List Nat) :
    ((leaveFlip s c n tiles).canvas c).flipSent = true ∧ ((leaveFlip s c n tiles).canvas c).lastFlipFrame = n := by
  rw [leaveFlip, if_neg (by simp [h]), sendFlip, State.modCanvas_canvas_self]
  exact ⟨rfl, rfl⟩

/-- A FLIP that a step of wall time keeps back is withheld (R375). -/
theorem leaveFlip_withholds {s : State} {c n : Nat} (h : stepBlocks s c n = true) (tiles : List Nat) :
    ((leaveFlip s c n tiles).canvas c).withheld = true ∧
    ((leaveFlip s c n tiles).canvas c).flipSent = (s.canvas c).flipSent := by
  rw [leaveFlip, if_pos h, State.modCanvas_canvas_self, markCanvas, State.modCanvas_canvas_self]
  exact ⟨rfl, by dsimp only; split <;> rfl⟩

/-! ### The flip instant (R46, R197, R219) -/

/-- The frame that canvas `c` shows, and the frame at which its microcode switches. -/
def State.shownAt (s : State) (c : Nat) : Nat × Option Nat := ((s.canvas c).frame, (s.canvas c).mcFrame)

theorem Same.shownAt {l : List Part} {s t : State} (h : Same l s t) (hl : Part.frames ∉ l) (c : Nat) : t.shownAt c = s.shownAt c := by
  rw [State.shownAt, State.canvas_of_frames (h.frames hl), State.shownAt]

/-- What leaves the canvases leaves what they show. -/
theorem State.shownAt_of_canvases {s t : State} (h : t.frames.canvases = s.frames.canvases) (c : Nat) : t.shownAt c = s.shownAt c := by
  rw [State.shownAt, State.canvas, h, State.shownAt, State.canvas]

theorem State.modCanvas_shownAt (s : State) (k : Nat) {g : Canvas → Canvas} (hg : ∀ x, (g x).frame = x.frame ∧ (g x).mcFrame = x.mcFrame)
    (c : Nat) : (s.modCanvas k g).shownAt c = s.shownAt c := by
  rw [State.shownAt, State.modCanvas_canvas]
  split
  · next h => rw [(hg _).1, (hg _).2, h, State.shownAt]
  · rfl

section
variable (s : State) (c k n : Nat)

theorem markRegion_shownAt (t r : Nat) : (markRegion s k t r n).shownAt c = s.shownAt c :=
  State.modCanvas_shownAt s k (fun x => by split <;> exact ⟨rfl, rfl⟩) c

theorem markCanvas_shownAt : (markCanvas s k n).shownAt c = s.shownAt c :=
  State.modCanvas_shownAt s k (fun x => by split <;> exact ⟨rfl, rfl⟩) c

theorem zeroBuffers_canvases (l : List Nat) : (zeroBuffers s k l).frames.canvases = s.frames.canvases :=
  State.each_keeps (fun u => u.frames.canvases) _ _ fun _ _ => rfl

theorem endUse_canvases (b : Nat) : (endUse s k b c n).frames.canvases = s.frames.canvases := by
  unfold endUse
  dsimp only
  split
  · exact zeroBuffers_canvases ..
  · rfl

theorem endUses_shownAt : (endUses s k n).shownAt c = s.shownAt c :=
  State.shownAt_of_canvases (State.each_keeps (fun u => u.frames.canvases) _ _ fun _ _ =>
    State.each_keeps (fun u => u.frames.canvases) _ _ fun _ _ => endUse_canvases ..) c

theorem raise_shownAt (src code : Nat) (data : Word) (frame : Nat) (t : Option Nat) :
    (raise s src code data frame t).shownAt c = s.shownAt c := (raise_does s src code data frame t).same.shownAt (by decide) c

theorem recordError_shownAt (d : DieId) (e : ErrKind) : (recordError s d e).shownAt c = s.shownAt c :=
  (recordError_does s d e).same.shownAt (by decide) c

theorem State.modSafe_shownAt (t : Nat) (g : SafeTile → SafeTile) : (s.modSafe t g).shownAt c = s.shownAt c :=
  State.shownAt_of_canvases rfl c

theorem State.modScrim_shownAt (d : DieId) (r : Nat) (g : Scrim → Scrim) : (s.modScrim d r g).shownAt c = s.shownAt c :=
  State.shownAt_of_canvases rfl c

theorem countBlocks_shownAt (patch : List (Nat × Nat)) (judged : Bool) (t : Nat) :
    (countBlocks s k n patch judged t).shownAt c = s.shownAt c := by
  have hfold : ∀ {f : State → DieId → State} (l : List DieId) (u : State), (∀ v d, (f v d).shownAt c = v.shownAt c) →
      (l.foldl f u).shownAt c = u.shownAt c := fun l u h => foldl_keeps (fun v => v.shownAt c) h l u
  unfold countBlocks
  extract_lets dies has x next a b count any clean enters leaves s1 s2
  have h1 : s1.shownAt c = s.shownAt c := State.modSafe_shownAt ..
  have h2 : s2.shownAt c = s.shownAt c := by
    simp only [s2]
    split
    · rw [hfold _ _ fun v d => by rw [raise_shownAt, State.modScrim_shownAt], h1]
    · split
      · rw [hfold _ _ fun v d => by rw [raise_shownAt], markRegion_shownAt, h1]
      · exact h1
  split
  · rw [hfold _ _ fun v d => by split <;> simp only [recordError_shownAt], h2]
  · exact h2

theorem countTiles_shownAt (judged : Bool) : (countTiles s k n judged).shownAt c = s.shownAt c :=
  State.each_keeps (fun u => u.shownAt c) _ _ fun u t => by
    rw [(countUnderrun_does ..).same.shownAt (by decide), countBlocks_shownAt]

theorem runCheck_shownAt (i : Nat) (x : Check) : (runCheck s k n i x).shownAt c = s.shownAt c := by
  unfold runCheck
  extract_lets w0 w1 at' mode np learn compare
  split
  · rfl
  · extract_lets value va vb standing expect y judged ja jb badA badB z s1 s2
    have h1 : s1.shownAt c = s.shownAt c := State.modCanvas_shownAt s k (by exact fun _ => ⟨rfl, rfl⟩) c
    have h2 : s2.shownAt c = s.shownAt c := by
      simp only [s2]
      split
      · rw [raise_shownAt, h1]
      · exact h1
    split
    · rw [raise_shownAt, h2]
    · exact h2

theorem runChecks_shownAt : (runChecks s k n).shownAt c = s.shownAt c := by
  unfold runChecks
  exact foldl_keeps (fun u => u.shownAt c) (fun u (x : Nat × Check) => runCheck_shownAt u c k n x.1 x.2) _ _

theorem pushRises_canvases (l : List (DieId × Nat × Rises)) (d : DieId) :
    (pushRises s k l d).frames.canvases = s.frames.canvases := rfl

theorem pushFrame_shownAt (l : List (DieId × Nat × Rises)) : (pushFrame s k l).shownAt c = s.shownAt c := by
  rw [pushFrame, State.modCanvas_shownAt _ _ (by exact fun _ => ⟨rfl, rfl⟩)]
  exact State.each_keeps (fun u => u.shownAt c) _ _ fun u d => State.shownAt_of_canvases (pushRises_canvases u k l d) c

theorem tallyMissed_shownAt : (tallyMissed s k n).shownAt c = s.shownAt c := by
  unfold tallyMissed
  split
  · rfl
  · rw [runChecks_shownAt, countTiles_shownAt, pushFrame_shownAt]

theorem markEchoes_shownAt (m : Nat) : (markEchoes s k m n).shownAt c = s.shownAt c := by
  unfold markEchoes
  dsimp only
  exact State.each_keeps (fun u => u.shownAt c) _ _ fun u x => by
    split
    · exact markRegion_shownAt ..
    · rfl

theorem judgeEchoes_shownAt : (judgeEchoes s k n).shownAt c = s.shownAt c := by
  unfold judgeEchoes
  extract_lets s1 tiles s2
  have h2 : s2.shownAt c = s1.shownAt c := State.each_keeps (fun u => u.shownAt c) _ _ fun u t =>
    State.each_keeps (fun u => u.shownAt c) _ _ fun v p => (judgeSilence_does ..).same.shownAt (by decide) c
  calc _ = s2.shownAt c := State.each_keeps (fun u => u.shownAt c) _ _ fun u p => (State.modPort_does ..).same.shownAt (by decide) c
    _ = s.shownAt c := h2.trans (markEchoes_shownAt ..)

theorem closeTxns_shownAt : (closeTxns s k n).shownAt c = s.shownAt c :=
  foldl_keeps (fun u => u.shownAt c) (fun u x => (closeTxn_does u x).same.shownAt (by decide) c) _ _

theorem flipDone_shownAt (cv : Canvas) : (flipDone s k n cv).shownAt c = s.shownAt c := by
  unfold flipDone
  extract_lets every change clear
  split
  · rfl
  · exact raise_shownAt ..

theorem State.modDie_canvases (d : DieId) (g : Die → Die) : (s.modDie d g).frames.canvases = s.frames.canvases := by cases d <;> rfl

theorem State.modRegion_canvases (d : DieId) (r : Nat) (g : Region → Region) :
    (s.modRegion d r g).frames.canvases = s.frames.canvases := State.modDie_canvases s d _

theorem countFlip_canvases : (countFlip s).frames.canvases = s.frames.canvases := by
  unfold countFlip
  exact State.each_keeps (fun u => u.frames.canvases) _ _ fun u d => by
    rw [State.modDie_canvases]
    exact State.each_keeps (fun u => u.frames.canvases) _ _ fun _ _ => State.modRegion_canvases ..

end

/-- No change of microcode ends where none waits for the frame (R512). -/
theorem endSwitch_none {s : State} {c : Nat} (h : (s.canvas c).mcFrame = none) (n : Nat) : endSwitch s c n = s :=
  if_pos (by rw [h]; exact fun h => nomatch h)

/-- A flip without a change of timing or microcode: the canvas's frame becomes the frame that has been selected (R46, R219). -/
theorem flip_shownAt {s : State} {c : Nat} (hchange : (s.canvas c).change = none) (hmc : (s.canvas c).mcFrame = none) (n : Nat) :
    (flip s c n).shownAt c = (n, none) := by
  unfold flip
  extract_lets cv0 missed s0 cv flipped s1 s1' s2 s3 s4 s5 s6 hops s7
  have hcv : cv.change = none := by simp only [cv, s0, State.modCanvas_canvas_self, hchange]
  have h0 : s0.shownAt c = s.shownAt c := State.modCanvas_shownAt s c (by exact fun _ => ⟨rfl, rfl⟩) c
  have h1 : s1.shownAt c = (n, none) := by
    have hkept : ∀ l, (tallyMissed (s0.each l fun s t => keepPred s flipped t) c n).shownAt c = s.shownAt c := fun l => by
      rw [tallyMissed_shownAt, ← h0]
      exact State.each_keeps (fun u => u.shownAt c) _ _ fun u t => State.modSafe_shownAt ..
    have hmc' := (congrArg Prod.snd (hkept cv.committed.tileIds)).trans hmc
    simp only [s1, State.shownAt, State.modCanvas_canvas_self]
    exact congrArg (Prod.mk n) hmc'
  have h1' : s1'.shownAt c = (n, none) := by
    simp only [s1']
    split
    · rw [markCanvas_shownAt, h1]
    · exact h1
  have h2 : s2.shownAt c = (n, none) := by
    simp only [s2]
    split
    · rw [judgeEchoes_shownAt]
      split
      · exact h1'
      · rw [(showLayers_does ..).same.shownAt (by decide), h1']
    · rw [judgeEchoes_shownAt, h1']
  have h3 : s3 = s2 := by simp only [s3, hcv]
  have h4 : s4.shownAt c = (n, none) := by simp only [s4, closeTxns_shownAt, h3, h2]
  have h5 : s5.shownAt c = (n, none) := by
    simp only [s5]
    split
    · exact h4
    · rw [endUses_shownAt, h4]
  have h6 : s6.shownAt c = (n, none) := by
    have hdone := (flipDone_shownAt s5 c c n cv).trans h5
    simp only [s6]
    rw [endSwitch_none (congrArg Prod.snd hdone), hdone]
  have h7 : s7.shownAt c = (n, none) :=
    (State.each_keeps (fun u => u.shownAt c) _ _ fun u x => (sendSet_does ..).same.shownAt (by decide) c).trans h6
  split
  · rw [State.shownAt_of_canvases (countFlip_canvases _), (takeTrims_does _).same.shownAt (by decide), h7]
  · exact h7

/-- Settles O28: reports, votes, verdicts and flips, each by the lemma about its step; a flip keeps what a canvas shows but for the
frame it selects. -/
theorem verdictsAndFlips : Obligations.VerdictsAndFlips := by
  unfold Obligations.VerdictsAndFlips
  refine ⟨fun s t i c o a b v w crc k htwin hupA hupB => ⟨?report, fun hfind hnone => ⟨?enters, ?defers⟩⟩,
    fun s c o ok d => ⟨?verdict, ?timeout, ?instant, ?notSelected⟩⟩
  case report =>
    intro hc ho ha hb hfa hfb hnew hoa hob hsame
    have hexec := regionReport_compares htwin hupA hupB hc ho ha hb hfa hfb hnew hsame
    rw [compareReports_complete hoa hob] at hexec
    constructor
    · intro hcrc
      rw [if_pos hcrc] at hexec
      exact ⟨_, hexec, rfl, rfl, bothReported_result s t i a b⟩
    · intro hcrc
      rw [if_neg hcrc] at hexec
      obtain ⟨⟨w, hw, ht, hi, hn, h0, h1⟩, hcount⟩ := startVote_records (bothReported s t i a b) c t i o.frame a b
      exact ⟨_, w, hexec, hw, ht, hi, hn, h0, h1, hcount⟩
  case enters =>
    rintro hon rfl
    exact replayResult_enters hupA hfind hnone hon
  case defers => exact replayResult_defers hupA hfind hnone
  case verdict =>
    intro ho hrun hsent hheld hframe hcomputing hwait hphase hacked hleft
    have hexec := frameVerdict_due ho hrun hsent hheld hframe hcomputing hwait hphase hacked hleft ok
    dsimp only at hexec
    refine ⟨fun hrep => ?_, fun hrep hlate => ?_, fun hrep hlate => ?_⟩
    · rwa [if_pos hrep] at hexec
    · rwa [if_neg (by simp [hrep]), if_pos hlate] at hexec
    · rwa [if_neg (by simp [hrep]), if_neg (by simp [hlate])] at hexec
  case timeout =>
    intro hup halone hwait
    have hexec := verdictTimeout_leaves hup halone hwait
    exact ⟨fun hstep => ⟨_, hexec, leaveFlip_sends (s := verdictTaken s c) hstep _⟩,
      fun hstep => ⟨_, hexec, leaveFlip_withholds (s := verdictTaken s c) hstep _⟩⟩
  case instant =>
    intro hrun hnext hchange hmc
    exact ⟨_, congrArg Host.Outcome.next (if_pos (by simp [hrun, hnext])), congrArg Prod.fst (flip_shownAt hchange hmc _)⟩
  case notSelected =>
    intro hnext
    exact congrArg Host.Outcome.next (if_neg (by simp [hnext]))

end Sys2Proof.Machine

/-! ## The common checks of every JCS row, and the answers to unknown and refused requests (11) -/

namespace Sys2Proof.Machine

section
variable {i : Instr} {op : JcsOp} {r : Req} {s s1 : State}

/-- A request that is taken but not served in the state it leaves is served in none. -/
theorem not_served_of_taken (htaken : takeRequest s r = some s1) (h : ¬ Served op r s s1) (s2 : State) : ¬ Served op r s s2 := by
  intro hserved
  obtain rfl : s1 = s2 := Option.some.inj (htaken.symm.trans hserved.taken)
  exact h hserved

/-- What PKG_RESET and PKG_HALT ask before they act is that the request is served: safe halt carries both, and neither is long
(R325, R516). -/
theorem served_of_takes (h : takes op r s = true) (hhalt : haltServes op.opcode = true) (hlong : op.long = false) :
    ∃ s1, Served op r s s1 := by
  obtain ⟨hop, h⟩ : r.opcode = op.opcode ∧ _ := by simpa [takes] using h
  cases htaken : takeRequest s r with
  | none => simp [htaken] at h
  | some s1 =>
    obtain ⟨hlen, hent⟩ : r.len ≠ 0xFFFF ∧ entitled op s1 r = true := by simpa [htaken] using h
    exact ⟨s1, hop, htaken, hlen, fun _ => hhalt, hent, fun hl => by simp [hlong] at hl⟩

/-- A request of this row that is not served is answered by the common checks alone, if the row is a JCS row. -/
def ChecksFirst (i : Instr) : Prop :=
  ∀ op r, commonOf i = some (op, r) → ∃ body, ∀ s, (∀ s1, ¬ Served op r s s1) → exec i s = .next (jcs op body r s)

theorem ChecksFirst.of_none (h : commonOf i = none) : ChecksFirst i := fun _ _ hc => nomatch h.symm.trans hc

theorem ChecksFirst.of_jcs {body : State → Req → Ans} (hc : commonOf i = some (op, r))
    (hexec : ∀ s, exec i s = .next (jcs op body r s)) : ChecksFirst i := by
  intro op' r' hc'
  obtain ⟨rfl, rfl⟩ := Prod.mk.inj (Option.some.inj (hc.symm.trans hc'))
  exact ⟨body, fun s _ => hexec s⟩

/-- A row that acts besides its answer, but only on a request that it takes. -/
theorem ChecksFirst.of_takes {body : State → Req → Ans} {act : State → State → State} (hc : commonOf i = some (op, r))
    (hhalt : haltServes op.opcode = true) (hlong : op.long = false)
    (hexec : ∀ s, exec i s = .next (if takes op r s then act s (jcs op body r s) else jcs op body r s)) : ChecksFirst i := by
  intro op' r' hc'
  obtain ⟨rfl, rfl⟩ := Prod.mk.inj (Option.some.inj (hc.symm.trans hc'))
  refine ⟨body, fun s hnone => (hexec s).trans (congrArg Host.Outcome.next (if_neg fun htakes => ?_))⟩
  obtain ⟨s1, hserved⟩ := served_of_takes htakes hhalt hlong
  exact hnone s1 hserved

/-- PKG_RESET and PKG_HALT act besides their answers; every other JCS row is its common checks and its body (R516). -/
theorem checksFirst (i : Instr) : ChecksFirst i := by
  cases i with
  | sysInfoRead _ | cmdRead _ | sysNop _ | sysPower _ | sysPowerRead _ | twinStatusRead _ | twinVoteRead _ | twinService _
    | pltRead _ | pltPropose _ | pltConfirm _ | pltWithdraw _ | pltProposalRead _ | ringConfig _ | ringStart _ | ringStop _
    | eventRoute _ | violationRead _ | srcConfig _ | srcStart _ | srcStop _ | canvasConfig _ | canvasTiles _ | layerConfig _
    | blendTree _ | canvasCommit _ | lutLoad _ | meshLoad _ | tileMap _ | tileScan _ | tilePrefs _ | tileCommit _
    | tileTxnRead _ | tileRead _ | chainReset _ | portConfig _ | corrCommit _ | corrHash _ | corrProbe _ | corrProbeRead _
    | safeZoneRead _ | safeTileRead _ | safeFlashRead _ | safeScrimRead _ | timeRead _ | timeServo _ | timeIncrement _
    | ptpConfig _ | ptpStatusRead _ | refConfig _ | canvasTiming _ | timingFlipRead _ | timingChangeRead _ | hopCal _
    | hopRead _ | checkSet _ | checkRead _ | sapConfig _ | sapStart _ | sapStop _ | sapMute _ | sapStatusRead _ | decConfig _
    | decStart _ | decStop _ | encConfig _ | encStart _ | encStop _ | vcxStatusRead _ | diagSlotRead _ | diagLayerRead _
    | diagPortRead _ | diagMemRead _ | diagThermalRead _ | diagCalRead _ | diagBistRead _ | fwLoad _ | fwActivate _
    | fwConfirm _ _ | fwStatusRead _ | tileFwRelay _ =>
    exact .of_jcs rfl fun _ => rfl
  | pkgReset _ =>
    exact .of_takes (act := fun s t => t.modHub fun h => { h with resetAt := some (s.uptime + 10000000) })
      rfl rfl rfl fun _ => rfl
  | pkgHalt _ => exact .of_takes (act := fun _ t => haltPackage t 6) rfl rfl rfl fun _ => rfl
  | _ => exact .of_none rfl

theorem exec_unserved (hc : commonOf i = some (op, r)) (h : ∀ s1, ¬ Served op r s s1) :
    ∃ body, exec i s = .next (jcs op body r s) := by
  obtain ⟨body, hexec⟩ := checksFirst i op r hc
  exact ⟨body, hexec s h⟩

end

/-- Settles O3: a request that fails a check is not served, so its row answers it by the common checks alone. -/
theorem commonChecks : Obligations.CommonChecks := by
  unfold Obligations.CommonChecks
  refine ⟨fun i op r s s1 hc hop htaken => ⟨fun hlen => ?badLen, fun hlen hstage hhalt => ?halted,
    fun hlen hhalt hent => ?violation, fun hlen hhalt hent hlong hfull => ?longLimit⟩, fun i op r s hc huntaken => ?untaken⟩
  case badLen =>
    obtain ⟨body, hexec⟩ := exec_unserved hc (not_served_of_taken htaken fun h => h.len hlen)
    rw [hexec, jcs_badLen hop htaken hlen]
  case halted =>
    obtain ⟨body, hexec⟩ := exec_unserved hc (not_served_of_taken htaken fun h => by simp [h.halted hstage] at hhalt)
    rw [hexec, jcs_halted hop htaken hlen hstage hhalt]
  case violation =>
    obtain ⟨body, hexec⟩ := exec_unserved hc (not_served_of_taken htaken fun h => by simp [h.entitled] at hent)
    rw [hexec, jcs_violation hop htaken hlen hhalt hent]
  case longLimit =>
    obtain ⟨body, hexec⟩ := exec_unserved hc (not_served_of_taken htaken fun h => hfull.not_gt (h.room hlong))
    rw [hexec, jcs_longLimit hop htaken hlen hhalt hent hlong hfull]
  case untaken =>
    have hnone : ∀ s1, ¬ Served op r s s1 := fun s1 h =>
      huntaken.elim (· h.opcode) fun hnone => nomatch hnone.symm.trans h.taken
    obtain ⟨body, hexec⟩ := exec_unserved hc hnone
    rw [hexec, jcs_untaken huntaken]

/-! ### Opcodes outside the table, and requests that check 4 refuses (R317, R320, R328) -/

theorem allOps_opcode_nodup : (allOps.map JcsOp.opcode).Nodup := by decide

/-- An opcode of the table names its row (R328). -/
theorem allOps_find {op : JcsOp} (h : op ∈ allOps) : allOps.find? (fun x => decide (x.opcode = op.opcode)) = some op := by
  cases hfind : allOps.find? (fun x => decide (x.opcode = op.opcode)) with
  | none => simpa using List.find?_eq_none.1 hfind op h
  | some x =>
    have hx : x.opcode = op.opcode := by simpa using List.find?_some hfind
    rw [List.inj_on_of_nodup_map allOps_opcode_nodup (List.mem_of_find?_eq_some hfind) h hx]

section
variable {op : JcsOp} {r : Req} {s s1 : State}

theorem unknownOpcode_badParam (htaken : takeRequest s r = some s1) (hlen : r.len ≠ 0xFFFF)
    (hop : knownOpcodes.contains r.opcode = false) : exec (.unknownOpcode r) s = .next (replied s1 r 4 (cut r) []) := by
  simp only [exec, execUnknownOpcode, hop, htaken, unknownAnswer, if_neg hlen]
  rfl

theorem violationAnswer_refuses (hlen : r.len ≠ 0xFFFF) (hhalt : s.hub.stage = .halted → haltServes op.opcode = true)
    (hent : entitled op s r = false) : violationAnswer op s r =
      some { status := 0, state := violate s r.who, payload := List.replicate (op.zeros s r) 0 } := by
  have hserved : (decide (s.hub.stage = .halted) && !haltServes op.opcode) = false := by
    by_cases h : s.hub.stage = .halted
    · simp [hhalt h]
    · simp [h]
  simp only [violationAnswer, hserved, hent, decide_eq_false hlen, Bool.or_self, Bool.false_eq_true, if_false]

theorem partitionViolationReply_refuses (hmem : op ∈ allOps) (hop : r.opcode = op.opcode) (htaken : takeRequest s r = some s1)
    (hlen : r.len ≠ 0xFFFF) (hhalt : s1.hub.stage = .halted → haltServes op.opcode = true) (hent : entitled op s1 r = false) :
    exec (.partitionViolationReply r) s =
      .next (replied (violate s1 r.who) r 0 false ((List.replicate (op.zeros s1 r) 0).take 511)) := by
  simp only [exec, execPartitionViolationReply, hop, allOps_find hmem, htaken, violationAnswer_refuses hlen hhalt hent]
  rfl

end

/-- Settles O4: an unknown opcode by its row's answer, a refused request by the row that its opcode names. -/
theorem unknownAndRefused : Obligations.UnknownAndRefused := by
  unfold Obligations.UnknownAndRefused
  exact fun r s s1 htaken hlen => ⟨unknownOpcode_badParam htaken hlen,
    fun op hmem hop hhalt hent => partitionViolationReply_refuses hmem hop htaken hlen hhalt hent⟩

end Sys2Proof.Machine

/-! ## SYS_INFO_READ, SYS_NOP, CMD_READ and the request mailbox (10, 11) -/

namespace Sys2Proof

theorem Req.words_length (r : Req) : r.words.length = min r.len 511 := by simp [words]

end Sys2Proof

namespace Sys2Proof.Machine

/-- Settles O5: both requests are served and answer their bodies' words. -/
theorem infoAndNop : Obligations.InfoAndNop := by
  unfold Obligations.InfoAndNop
  refine fun r s s1 => ⟨fun hserved => ?info, fun hserved => ?nop⟩
  case info =>
    rw [← setWidth_shiftLeft _ _ (by decide)]
    exact congrArg Host.Outcome.next (jcs_ok hserved rfl (show 4 ≤ 511 by decide))
  case nop =>
    exact congrArg Host.Outcome.next (jcs_ok hserved rfl (r.words_length ▸ Nat.min_le_right ..))

/-! ### CMD_READ (R314, R324) -/

section
variable {s : State} {r : Req}

theorem cmdReadBody_found {l : LongCmd}
    (h : (((s.func r.who).longs.take 16).find? fun l => l.tag.toNat = fld (r.word 0) 15 0) = some l) :
    cmdReadBody s r = .ok s
      [put l.opcode.toNat 16 0 ||| put l.status.toNat 8 16 ||| putB l.trunc 24 ||| putB true 25 ||| putB l.done 26,
        BitVec.ofNat 64 l.accepted, BitVec.ofNat 64 l.completed] := by
  rw [← setWidth_eq_put _ (by decide), ← setWidth_shiftLeft _ _ (by decide)]
  simp only [cmdReadBody, h]

theorem cmdReadBody_none (h : ∀ l ∈ (s.func r.who).longs.take 16, l.tag.toNat ≠ fld (r.word 0) 15 0) :
    cmdReadBody s r = .ok s [0, 0, 0] := by
  have hfind : (((s.func r.who).longs.take 16).find? fun l => l.tag.toNat = fld (r.word 0) 15 0) = none :=
    List.find?_eq_none.2 fun l hl => by simpa using h l hl
  simp only [cmdReadBody, hfind]

end

/-! ### The mailbox while it is BUSY (R304) -/

theorem mboxSubmit_busy {s : State} {f : Nat} (hu : s.inUse f = true) (hst : s.hub.stage = .ready) (hcp : s.hub.cpFailed = false)
    (hb : (s.func f).mbox = .busy) : mboxSubmit s f = s.modFunc f fun x => { x with drop := true } := by
  simp [mboxSubmit, hu, hst, hcp, hb]

/-- Settles O6: CMD_READ by what stands among the sender's long commands, the mailbox by whether it is BUSY. -/
theorem mailboxAndCmdRead : Obligations.MailboxAndCmdRead := by
  unfold Obligations.MailboxAndCmdRead
  refine ⟨fun r s s1 hserved => ⟨fun l hfind => ?found, fun hnone => ?missing⟩,
    fun s f value hu hst hcp => ⟨fun hsubmit hidle => ?taken, fun hsubmit hbusy => ?dropped,
      fun offset size hlo hhi hsize halign => ?write⟩⟩
  case found => exact congrArg Host.Outcome.next (jcs_ok hserved (cmdReadBody_found hfind) (show 3 ≤ 511 by decide))
  case missing => exact congrArg Host.Outcome.next (jcs_ok hserved (cmdReadBody_none hnone) (show 3 ≤ 511 by decide))
  case taken => exact congrArg Host.Outcome.next ((if_pos hsubmit).trans (mboxSubmit_taken hu hst hcp hidle))
  case dropped => exact congrArg Host.Outcome.next ((if_pos hsubmit).trans (mboxSubmit_busy hu hst hcp hbusy))
  case write =>
    have hexec : exec (.requestMailboxWrite f offset size value) s = .next (mailboxWrite s f offset size value) :=
      congrArg Host.Outcome.next (if_pos ⟨hlo, hhi⟩)
    rw [hexec]
    refine ⟨fun hbusy => ?_, fun hidle => ?_⟩
    · rw [mailboxWrite_busy value hu ⟨hsize, halign⟩ hst hbusy]
    · rw [mailboxWrite_stored value hu ⟨hsize, halign⟩ hst hidle]
      refine ⟨_, rfl, ?_, fun j hj => ?_, fun g hg => ?_⟩
      · simp only [State.modFunc_func_self, Tbl.get_modify_self, mergeWord]
      · simp only [State.modFunc_func_self, Tbl.get_modify_ne _ _ _ hj]
      · rw [State.modFunc_func, if_neg hg]

end Sys2Proof.Machine

/-! ## The diagnostic reads and the reads of the twin dies (R281, R333, R453, R492, R539, R540) -/

namespace Sys2Proof.Machine

section
variable {s : State} {r : Req}

/-- DIAG_LAYER_READ shows the layer's state by number, with the count of its repeats (R104, R333). -/
theorem diagLayerReadBody_ok (s : State) (r : Req) : diagLayerReadBody s r =
    let x := s.layer (reqLayer r)
    .ok s [pair x.nRepeat x.nTransp,
      put (match x.state with | .disabled => 0 | .absent => 1 | .showing => 2 | .repeating _ => 3 | .transparent => 4) 3 0 |||
        put (match x.state with | .repeating k => k | _ => 0) 8 8 |||
        put (Tbl.get x.staged (s.canvas x.canvas).committed.layers (reqLayer r)).lSlot 5 16,
      put x.changedAt 48 0] := by
  unfold diagLayerReadBody
  dsimp only
  cases (s.layer (reqLayer r)).state <;> rfl

/-- The word of readings and the two words of counters that DIAG_THERMAL_READ gives of a die or of the hub (R492). -/
theorem diagThermalReadBody_ok {d : Die3}
    (h : fld (r.word 0) 1 0 = 0 ∧ d = .a ∨ fld (r.word 0) 1 0 = 1 ∧ d = .b ∨ fld (r.word 0) 1 0 = 2 ∧ d = .hub) :
    diagThermalReadBody s r =
      let x := s.therm d
      .ok s [put (BitVec.ofInt 16 x.now).toNat 16 0 ||| put (BitVec.ofInt 16 (x.max.getD x.now)).toNat 16 16 |||
          put (bandCode x.band) 3 32 ||| putB x.tripped 35 ||| putB x.fault 36 ||| put x.set 2 37 ||| put x.pause 8 40,
        pair x.hotIn x.critIn, pair x.trips x.hotMs] := by
  obtain ⟨hdie, rfl⟩ | ⟨hdie, rfl⟩ | ⟨hdie, rfl⟩ := h <;> simp only [diagThermalReadBody, hdie, pair]

theorem diagCalReadBody_item {i : CalItem} (h : reqItem r = some i) : diagCalReadBody s r =
    let c := s.cal i
    .ok s [put c.state 2 0 ||| put c.runs 4 4 ||| ((ofInt c.fig1 &&& 0xFFFF#64) <<< 16) ||| put c.fig2 16 32, calValue i c.values,
      BitVec.ofNat 64 c.time, pair c.cals c.suspects] := by
  simp only [diagCalReadBody, h, pair]

theorem diagCalReadBody_none (h : reqItem r = none) : diagCalReadBody s r = .badParam s := by simp only [diagCalReadBody, h]

/-- A die or a port that is not there (R453). -/
theorem diagMemReadBody_absent
    (h : fld (r.word 0) 1 0 = 3 ∨ fld (r.word 0) 1 0 = 2 ∧ 1 < fld (r.word 0) 5 2 ∨ 7 < fld (r.word 0) 5 2) :
    diagMemReadBody s r = .badParam s := if_pos (by simpa [or_assoc] using h)

/-- A channel of a port that is there (R453). -/
theorem diagMemReadBody_channel {d : Die3} (hport : fld (r.word 0) 5 2 ≤ 7)
    (h : fld (r.word 0) 1 0 = 0 ∧ d = .a ∨ fld (r.word 0) 1 0 = 1 ∧ d = .b ∨
      fld (r.word 0) 1 0 = 2 ∧ d = .hub ∧ fld (r.word 0) 5 2 ≤ 1) :
    diagMemReadBody s r =
      let x := s.chan d (fld (r.word 0) 5 2 * 4 + fld (r.word 0) 7 6)
      .ok s [pair x.corrected x.poisoned, pair x.stamps x.rtMiss,
        put x.owedMax 4 0 ||| put x.owed 4 4 ||| put x.rate 3 8 ||| (x.forced.setWidth 64 <<< 16) ||| (x.postponed.setWidth 64 <<< 32),
        put x.margins.1 8 0 ||| put x.margins.2.1 8 8 ||| put x.margins.2.2 8 16 ||| putB x.suspect 24 ||| putB x.failed 25 |||
          (x.tracks.setWidth 64 <<< 32),
        pair x.fullPasses x.recPasses, put x.weakLines.length 32 0 ||| mapsWord] := by
  have hthere : ¬(fld (r.word 0) 1 0 = 3 ∨ fld (r.word 0) 1 0 = 2 ∧ 1 < fld (r.word 0) 5 2 ∨ 7 < fld (r.word 0) 5 2) := by omega
  refine (if_neg (by simpa [or_assoc] using hthere)).trans ?_
  obtain ⟨hdie, rfl⟩ | ⟨hdie, rfl⟩ | ⟨hdie, rfl, -⟩ := h <;> simp [hdie, pair]

end

/-- Settles O34: each read is served and answers its body's words. -/
theorem diagnosticReads : Obligations.DiagnosticReads := by
  unfold Obligations.DiagnosticReads
  refine ⟨fun r s s1 => ⟨?slot, ?layer, ?thermal, ?bist, ?cal, ?noItem⟩, fun r s s1 die port ch d x hserved => ?memory,
    fun r s s1 t x => ⟨?status, ?vote⟩⟩
  case slot =>
    rintro hserved x n rfl rfl
    exact congrArg Host.Outcome.next (jcs_ok hserved rfl (show 8 ≤ 511 by decide))
  case layer =>
    rintro hserved l x d rfl rfl rfl
    exact congrArg Host.Outcome.next (jcs_ok hserved (diagLayerReadBody_ok s1 r) (show 3 ≤ 511 by decide))
  case thermal =>
    rintro hserved d hdie x rfl
    exact congrArg Host.Outcome.next (jcs_ok hserved (diagThermalReadBody_ok hdie) (show 3 ≤ 511 by decide))
  case bist =>
    rintro hserved d c x st rfl rfl rfl rfl
    exact congrArg Host.Outcome.next (jcs_ok hserved rfl (show 5 ≤ 511 by decide))
  case cal =>
    rintro hserved i c hitem rfl
    exact congrArg Host.Outcome.next (jcs_ok hserved (diagCalReadBody_item hitem) (show 4 ≤ 511 by decide))
  case noItem =>
    intro hserved hitem
    exact congrArg Host.Outcome.next (jcs_refused hserved (diagCalReadBody_none hitem) (by decide))
  case memory =>
    rintro rfl rfl rfl
    refine ⟨fun habsent => ?_, fun hdie hport hx => ?_⟩
    · exact congrArg Host.Outcome.next (jcs_refused hserved (diagMemReadBody_absent habsent) (by decide))
    · subst hx
      exact congrArg Host.Outcome.next (jcs_ok hserved (diagMemReadBody_channel hport hdie) (show 6 ≤ 511 by decide))
  case status =>
    rintro hserved rfl
    exact congrArg Host.Outcome.next (jcs_ok hserved rfl (show 6 ≤ 511 by decide))
  case vote =>
    rintro hserved rfl
    exact congrArg Host.Outcome.next (jcs_ok hserved rfl (show 5 ≤ 511 by decide))

end Sys2Proof.Machine

/-! ## What every command leaves: the frame, the queue and the one-way stores (95, 19)

`exec_gives` says it of every command but ANCHOR, which adds an anchor, and FW_CONFIRM, which raises the fuse; here are these two, and
what follows for all. -/

namespace Sys2Proof.Machine

/-- What a command may do to the state: only the parts that `touches` names change, no anchor is removed, the fuse does not fall, and only
ANCHOR adds an anchor, only FW_CONFIRM raises the fuse. -/
structure Framed (i : Instr) (s t : State) : Prop where
  same    : Same (touches i) s t
  kept    : s.service.keys.anchors <+: t.service.keys.anchors
  rises   : s.firmware.svnFuse ≤ t.firmware.svnFuse
  anchors : (∀ n digest, i ≠ .anchor n digest) → t.service.keys.anchors = s.service.keys.anchors
  fuse    : (∀ r ok, i ≠ .fwConfirm r ok) → t.firmware.svnFuse = s.firmware.svnFuse

theorem Does.framed {i : Instr} {s t : State} (h : Does (touches i) s t) : Framed i s t :=
  ⟨h.same, h.anchors ▸ List.prefix_rfl, h.fuse ▸ le_rfl, fun _ => h.anchors, fun _ => h.fuse⟩

/-- From `s` to `t` only parts that a request for FW_CONFIRM reaches change, no anchor among them, and the fuse does not fall. -/
structure Confirms (s t : State) : Prop where
  same    : Same [.hub, .plt, .queues, .firmware, .service, .out] s t
  anchors : t.service.keys.anchors = s.service.keys.anchors
  rises   : s.firmware.svnFuse ≤ t.firmware.svnFuse

section
variable {l : List Part} {s t u : State}

theorem Confirms.trans (a : Confirms s t) (b : Confirms t u) : Confirms s u :=
  ⟨a.same.trans b.same, b.anchors.trans a.anchors, a.rises.trans b.rises⟩

theorem Does.confirms (h : Does l s t)
    (hl : (l.all fun p => [Part.hub, .plt, .queues, .firmware, .service, .out].contains p) = true) : Confirms s t :=
  ⟨h.same.mono hl, h.anchors, h.fuse ▸ le_rfl⟩

/-- A change of the firmware part that does not lower the fuse. -/
theorem State.modFirmware_confirms (s : State) {f : Firmware → Firmware} (hf : s.firmware.svnFuse ≤ (f s.firmware).svnFuse) :
    Confirms s (s.modFirmware f) := ⟨by constructor <;> simp, rfl, hf⟩

end

/-- The header that a confirmation writes leaves the fuse (R500, R514). -/
theorem Firmware.header_fuse (f : Firmware) (a b : SlotState) : (f.header a b).svnFuse = f.svnFuse := by
  unfold Firmware.header
  dsimp only
  split <;> rfl

/-- The firmware in slot `b` confirmed (R514): its slot CONFIRMED, the one that was confirmed before LOADED, and no trial left. -/
def slotConfirmed (s : State) (b : Bool) : State :=
  let other := if s.firmware.slot (!b) = .confirmed then .loaded else s.firmware.slot (!b)
  let keep := fun (l : List Nat) => l.filter fun n => (s.firmware.image b).any fun y => n = y.format
  (s.modFirmware fun f => { (if b then f.header other .confirmed else f.header .confirmed other) with
    trialAt := none, fallBack := none
    area0 := { f.area0 with formats := keep f.area0.formats }, area1 := { f.area1 with formats := keep f.area1.formats } }).modHub
      fun h => { h with unconfirmed := false }

/-- The security version of the image in slot `b`, 0 without one. -/
def imageSvn (s : State) (b : Bool) : Nat := (s.firmware.image b).elim 0 Image.svn

/-- A trial image is confirmed (R514): the fuse follows an image of a higher security version, or E220 tells that it could not. -/
theorem fwConfirmBody_trial {s : State} {b : Bool} (fuseOk : Bool) (r : Req) (htrial : s.firmware.find .trial = some b)
    (hmc : s.mcBusy = false) : ∃ w, fwConfirmBody fuseOk s r = .ok (raise
      (if imageSvn s b ≤ s.firmware.svnFuse then slotConfirmed s b
       else if fuseOk then (slotConfirmed s b).modFirmware fun f => { f with svnFuse := imageSvn s b }
       else raise (slotConfirmed s b) 220 7 0) 220 4 w) := by
  unfold fwConfirmBody imageSvn slotConfirmed
  simp only [htrial, hmc, Bool.false_eq_true, if_false]
  cases s.firmware.image b <;> exact ⟨_, rfl⟩

theorem slotConfirmed_fuse (s : State) (b : Bool) : (slotConfirmed s b).firmware.svnFuse = s.firmware.svnFuse := by
  cases b <;> exact Firmware.header_fuse ..

theorem slotConfirmed_confirms (s : State) (b : Bool) : Confirms s (slotConfirmed s b) :=
  ⟨by constructor <;> simp [slotConfirmed], rfl, (slotConfirmed_fuse s b).ge⟩

/-- A confirmation raises the fuse to the image's security version where that is higher, and else leaves it (R514). -/
theorem fwConfirmBody_confirms (fuseOk : Bool) (s : State) (r : Req) : Confirms s (fwConfirmBody fuseOk s r).state := by
  have unchanged : Confirms s s := (Does.refl [] s).confirms rfl
  have raised : ∀ {u : State} (code : Nat) (w : Word), Confirms s u → Confirms s (raise u 220 code w) := fun code w h =>
    h.trans ((raise_does ..).confirms rfl)
  rcases htrial : s.firmware.find .trial with _ | b
  · simp only [fwConfirmBody, htrial]
    exact unchanged
  rcases hmc : s.mcBusy with _ | _
  · obtain ⟨w, hbody⟩ := fwConfirmBody_trial fuseOk r htrial hmc
    rw [hbody]
    refine raised _ _ ?_
    split
    · exact slotConfirmed_confirms s b
    next hlow =>
    split
    · refine (slotConfirmed_confirms s b).trans (State.modFirmware_confirms _ ?_)
      rw [slotConfirmed_fuse]
      exact (Nat.lt_of_not_le hlow).le
    · exact raised _ _ (slotConfirmed_confirms s b)
  · simp only [fwConfirmBody, htrial, hmc]
    exact unchanged

/-- FW_CONFIRM, from its request to its answer (R514). -/
theorem fwConfirm_confirms (fuseOk : Bool) (r : Req) (s : State) : Confirms s (jcs opFwConfirm (fwConfirmBody fuseOk) r s) := by
  unfold jcs
  split
  · exact (Does.refl [] s).confirms rfl
  split
  · exact (Does.refl [] s).confirms rfl
  next s1 htaken =>
  have hanswer : Confirms s1 (answer opFwConfirm (fwConfirmBody fuseOk) s1 r).state := by
    unfold answer
    dsimp only [Ans.badLen, Ans.notReady, Ans.busy]
    repeat' split
    · exact (Does.refl [] s1).confirms rfl
    · exact (Does.refl [] s1).confirms rfl
    · exact (violate_does s1 r.who).confirms rfl
    · exact (Does.refl [] s1).confirms rfl
    · exact fwConfirmBody_confirms fuseOk s1 r
  exact ((takeRequest_does htaken).confirms rfl).trans (hanswer.trans
    ((giveAnswer_does (l := [.hub, .plt, .queues, .firmware, .service, .out]) r _ (Does.refl _ _) rfl).confirms rfl))

/-- ANCHOR changes the service part alone, and leaves the anchors or adds one (R506). -/
theorem anchor_framed (n : Nat) (digest : List Byte) (s : State) : ∃ t, exec (.anchor n digest) s = .next t ∧
    Framed (.anchor n digest) s t := by
  refine ⟨_, rfl, ?_⟩
  have htouch : Framed (.anchor n digest) s (touch s n) := ((touch_does s n).mono rfl).framed
  split
  · exact (Does.refl _ s).framed
  dsimp only
  split
  · refine ⟨?_, ?_, htouch.rises, fun h => absurd rfl (h n digest), fun _ => (touch_does s n).fuse⟩
    · exact htouch.same.trans (by constructor <;> simp [touches])
    · simp only [State.modService_service, (touch_does s n).anchors]
      exact List.prefix_append _ _
  · exact htouch

/-- Every command has a next state, framed by its rules. -/
theorem exec_framed (i : Instr) (s : State) : ∃ t, exec i s = .next t ∧ Framed i s t := by
  by_cases hanchor : ∃ n digest, i = .anchor n digest
  · obtain ⟨n, digest, rfl⟩ := hanchor
    exact anchor_framed n digest s
  by_cases hconfirm : ∃ r ok, i = .fwConfirm r ok
  · obtain ⟨r, ok, rfl⟩ := hconfirm
    have h := fwConfirm_confirms ok r s
    exact ⟨_, rfl, h.same.mono rfl, h.anchors ▸ List.prefix_rfl, h.rises, fun _ => h.anchors, fun hne => absurd rfl (hne r ok)⟩
  push Not at hanchor hconfirm
  obtain ⟨t, ht, hdoes⟩ := exec_gives i s hanchor hconfirm
  exact ⟨t, ht, hdoes.framed⟩

theorem framed_of_exec {i : Instr} {s t : State} (h : exec i s = .next t) : Framed i s t := by
  obtain ⟨u, hu, hframed⟩ := exec_framed i s
  rw [hu, Host.Outcome.next.injEq] at h
  exact h ▸ hframed

/-- A step is a tick, which touches neither queue nor one-way store, or the command at the front of the queue. -/
theorem step_cases {s t : State} (h : step s = .next t) : s.pending = [] ∧ t = idleTick s ∨
    ∃ c rest, s.pending = c :: rest ∧ exec c { s with pending := rest } = .next t := by
  unfold step at h
  split at h
  · next hp => exact .inl ⟨hp, (Host.Outcome.next.inj h).symm⟩
  · next c rest hp => exact .inr ⟨c, rest, hp, h⟩

/-- Settles O1: `step` runs the front of a queue that is not empty. -/
theorem stepRunsFront : Obligations.StepRunsFront := by
  intro s c rest h
  unfold step
  rw [h]

/-- Settles O56: every command has a next state. -/
theorem everyCommandCompletes : Obligations.EveryCommandCompletes := fun i s =>
  (exec_framed i s).imp fun _ h => h.1

/-- Settles O58: every command is framed by `touches`. -/
theorem frameOfEveryCommand : Obligations.FrameOfEveryCommand := fun _ _ _ h => (framed_of_exec h).same

/-- Settles O57: commands leave the queue, and a tick finds it empty. -/
theorem queueKept : Obligations.QueueKept := by
  refine fun s t => ⟨fun i h => (framed_of_exec h).same.pending, fun h => ?_⟩
  obtain ⟨hempty, rfl⟩ | ⟨c, rest, hp, h⟩ := step_cases h
  · rw [(idleTick_does s).same.pending, hempty]; rfl
  · rw [(framed_of_exec h).same.pending, hp]; rfl

/-- Settles O60: the one-way stores of every command, and of a tick. -/
theorem securityKept : Obligations.SecurityKept := by
  refine fun i s t => ⟨fun h => ?_, fun h hi => (framed_of_exec h).anchors hi, fun h hi => (framed_of_exec h).fuse hi⟩
  obtain ⟨-, rfl⟩ | ⟨c, rest, -, h⟩ := step_cases h
  · exact ⟨(idleTick_does s).anchors ▸ List.prefix_rfl, (idleTick_does s).fuse ▸ le_rfl⟩
  · exact ⟨(framed_of_exec h).kept, (framed_of_exec h).rises⟩

end Sys2Proof.Machine

/-! ## VIOLATION_READ and the Partition and Limits Table (12) -/

namespace Sys2Proof.Machine

/-! ### Answers with an effect that are not OK (R317, R318) -/

section
variable {op : JcsOp} {r : Req} {s s1 s2 : State} {body : State → Req → Ans} {status : Nat} {p : List Word}

/-- A served request that its body answers with this status, state and payload, cut to `trunc`. -/
theorem jcs_answered_cut {trunc : Bool} (h : Served op r s s1)
    (hb : body s1 r = { status := status, state := s2, payload := p, trunc := trunc }) (hstatus : status ≠ 1) (hp : p.length ≤ 511) :
    jcs op body r s = replied s2 r status (trunc || cut r) p := by
  rw [jcs_answered h hb hstatus hp]

/-- A served request that its body answers with this status, state and payload. -/
theorem jcs_answered_with (h : Served op r s s1) (hb : body s1 r = { status := status, state := s2, payload := p })
    (hstatus : status ≠ 1) (hp : p.length ≤ 511) : jcs op body r s = replied s2 r status (cut r) p :=
  (jcs_answered_cut h hb hstatus hp).trans (by rw [Bool.false_or])

end

/-! ### VIOLATION_READ (R320, R352) -/

section
variable {r : Req} {s s1 : State} (hop : r.opcode = 0x0230) (htaken : takeRequest s r = some s1) (hlen : r.len ≠ 0xFFFF)
  (hstage : s1.hub.stage ≠ .halted)
include hop htaken hlen hstage

theorem violationRead_served (hwho : 64 ≤ r.who) : Served opViolationRead r s s1 where
  opcode := hop
  taken := htaken
  len := hlen
  halted h := absurd h hstage
  entitled := by simp [entitled, hwho]
  room h := nomatch h

theorem violationRead_foreign (hwho : r.who < 64) : exec (.violationRead r) s =
    .next (replied (violate s1 r.who) r 0 false (List.replicate 32 0)) := by
  have hent : entitled opViolationRead s1 r = false := by simp [entitled, opViolationRead, hwho]
  exact congrArg Host.Outcome.next (jcs_violation hop htaken hlen (absurd · hstage) hent)

end

theorem violationReadBody_ok (s : State) (r : Req) : violationReadBody s r = .ok s ((List.range 32).map fun i =>
    put (s.func (2 * i)).violations.toNat 32 0 ||| put (s.func (2 * i + 1)).violations.toNat 32 32) :=
  by simp only [violationReadBody, setWidth_shiftLeft _ 32 (show 32 ≤ 64 by decide), ← setWidth_eq_put _ (show 32 ≤ 64 by decide)]

/-- Settles O7: the service port is served, a function is not entitled. -/
theorem violationRead : Obligations.ViolationRead := by
  unfold Obligations.ViolationRead
  refine fun r s s1 hop htaken hlen hstage => ⟨fun hwho => ?_, violationRead_foreign hop htaken hlen hstage⟩
  exact congrArg Host.Outcome.next
    (jcs_ok (violationRead_served hop htaken hlen hstage hwho) (violationReadBody_ok s1 r) (show 32 ≤ 511 by decide))

/-! ### PLT_READ (R341) -/

/-- The words of one entry after another, at most as many as 511 words hold. -/
theorem pltEntries_fit {α : Type} (n w : Nat) (f : Nat → Nat → α) (h : n ≤ 511 / w) :
    ((List.range n).flatMap fun k => (List.range w).map fun j => f k j).length ≤ 511 := by
  simp only [List.length_flatMap, List.length_map, List.length_range, List.map_const', List.sum_replicate, smul_eq_mul]
  calc n * w ≤ 511 / w * w := Nat.mul_le_mul_right w h
    _ ≤ 511 := Nat.div_mul_le_self 511 w

theorem pltRead_answers {r : Req} {s s1 : State} {sec i count n : Nat} (hserved : Served opPltRead r s s1)
    (hsec : sec = fld (r.word 0) 7 0) (hi : i = fld (r.word 0) 25 16) (hcount : count = fld (r.word 0) 41 32)
    (hw : pltWords sec ≠ 0) (hn : n = min count (min (pltEntries sec - i) (511 / pltWords sec))) :
    exec (.pltRead r) s = .next (replied s1 r 0 (decide (n < count) || cut r)
      ((List.range n).flatMap fun k => (List.range (pltWords sec)).map fun j =>
        if s1.principal r.who || pltReadable s1 r.who sec (i + k) then pltGet s1.plt.table sec (i + k) j else 0)) := by
  have hbody : pltReadBody s1 r = { Ans.ok s1 ((List.range n).flatMap fun k => (List.range (pltWords sec)).map fun j =>
      if s1.principal r.who || pltReadable s1 r.who sec (i + k) then pltGet s1.plt.table sec (i + k) j else 0)
      with trunc := decide (n < count) } := by
    subst hsec hi hcount hn
    exact if_neg hw
  exact congrArg Host.Outcome.next (jcs_answered_cut hserved hbody (by decide) (pltEntries_fit _ _ _ (by omega)))

/-! ### SETTINGS_AREA_WRITE (R348, R503) -/

section
variable {s : State} {area : Nat} (hdue : s.plt.writesDue.head? = some area)
include hdue

theorem settingsAreaWrite_fails : exec (.settingsAreaWrite area false) s =
    .next (raise (s.modPlt fun p => { p with writesDue := p.writesDue.drop 1 }) 202 6 (put area 1 0)) :=
  congrArg Host.Outcome.next (if_neg (not_not.2 hdue))

theorem settingsAreaWrite_stores : exec (.settingsAreaWrite area true) s =
    .next ((s.modPlt fun p => { p with writesDue := p.writesDue.drop 1 }).modFirmware fun f =>
      if area = 0 then { f with area0 := areaNow s (topAseq s.firmware + 1) }
      else { f with area1 := areaNow s (topAseq s.firmware + 1) }) :=
  congrArg Host.Outcome.next (if_neg (not_not.2 hdue))

end

/-! ### PLT_PROPOSE, PLT_CONFIRM, PLT_WITHDRAW, PLT_PROPOSAL_READ, lapse (R343 to R347) -/

theorem pidWord_eq (pid : BitVec 16) (proposer : Nat) : pidWord pid proposer = put pid.toNat 16 0 ||| put proposer 7 16 := by
  rw [pidWord, setWidth_eq_put _ (by decide)]

/-- A proposal that lapses for its age alone. -/
theorem lapseProposal_pending {s : State} {p : Proposal} (h : s.plt.proposal = some p) : lapseProposal s 0 =
    raise (s.modPlt fun t => { t with proposal := none }) 202 3 (put p.pid.toNat 16 0) := by
  have h0 : p.pid.setWidth 64 ||| put 0 2 16 = put p.pid.toNat 16 0 := by
    rw [setWidth_eq_put _ (by decide), show put 0 2 16 = 0#64 from rfl, BitVec.or_zero]
  simp only [lapseProposal, h, h0]

/-- The proposal that PLT_PROPOSE records (R343, R344). -/
def proposalOf (s : State) (r : Req) : Proposal :=
  { pid := Config.firstPid + BitVec.ofNat 16 s.plt.recorded, proposer := r.who,
    session := if 64 ≤ r.src then some (r.src - 64) else none, edits := r.words, time := s.reqTime,
    expiry := s.reqTime + 30000000000 }

theorem pltProposeBody_staged {s : State} {r : Req} (hnone : s.plt.proposal = none) (hedits : fld (r.word 0) 7 0 ≠ 0)
    (hlen : r.len ≤ 508) (hparse : (parseEdits (fld (r.word 0) 7 0) (r.words.drop 1)).isSome) :
    pltProposeBody s r =
      { status := 9
        state := raise (s.modPlt fun t => { t with proposal := some (proposalOf s r), recorded := t.recorded + 1 }) 202 1
          (pidWord (proposalOf s r).pid r.who)
        payload := [pidWord (proposalOf s r).pid r.who, BitVec.ofNat 64 (proposalOf s r).expiry] } := by
  obtain ⟨l, hl⟩ := Option.isSome_iff_exists.1 hparse
  simp only [pltProposeBody, hnone, Option.isSome_none, Bool.false_eq_true, if_false, if_neg hedits, if_neg (not_lt.2 hlen), hl]
  rfl

section
variable {s s1 : State} {r : Req} {p : Proposal} {l : List (Nat × Word)} (hp : s.plt.proposal = some p)
  (hpid : fld (r.word 0) 15 0 = p.pid.toNat)
include hp hpid

theorem pltConfirmBody_own (hown : p.proposer = r.who) : pltConfirmBody s r = .conflict s := by
  simp only [pltConfirmBody, hp, hpid, hown, ne_eq, not_true_eq_false, if_false, if_true]

theorem pltConfirmBody_late (hown : p.proposer ≠ r.who) (hlate : p.expiry < s.reqTime) :
    pltConfirmBody s r = { status := 7, state := lapseProposal s 0 } := by
  simp only [pltConfirmBody, hp, hpid, hown, hlate, ne_eq, not_true_eq_false, if_false, if_true]

variable (hown : p.proposer ≠ r.who) (hintime : s.reqTime ≤ p.expiry)
  (hl : l = (parseEdits (fld (wordAt p.edits 0) 7 0) (p.edits.drop 1)).getD [])
include hown hintime hl

/-- Another principal's confirmation in time is judged by the table it leads to (R345). -/
theorem pltConfirmBody_judged : pltConfirmBody s r =
    if tableValid s (pltSet s.plt.table l) = false then
      { status := 4, state := raise (s.modPlt fun t => { t with proposal := none }) 202 5 (put p.pid.toNat 16 0 ||| put r.who 7 24) }
    else if handsKept s (pltSet s.plt.table l) = false then .conflict s
    else .ok (raise (rejudge (applyConfirmed (s.modPlt fun t => { t with proposal := none }) l)) 202 2
      (put p.pid.toNat 16 0 ||| put p.proposer 7 16 ||| put r.who 7 24)) [put p.pid.toNat 16 0] := by
  subst hl
  rw [← pidWord_eq, ← setWidth_eq_put _ (by decide)]
  simp only [pltConfirmBody, hp, hpid, hown, not_lt.2 hintime, ne_eq, not_true_eq_false, if_false, Bool.not_eq_eq_eq_not,
    Bool.not_true]

end

theorem pltWithdrawBody_own {s : State} {r : Req} {p : Proposal} (hp : s.plt.proposal = some p)
    (hpid : fld (r.word 0) 15 0 = p.pid.toNat) (hown : p.proposer = r.who) : pltWithdrawBody s r =
      .ok (raise (s.modPlt fun t => { t with proposal := none }) 202 4 (put p.pid.toNat 16 0)) := by
  rw [← setWidth_eq_put _ (by decide)]
  simp only [pltWithdrawBody, hp, hpid, hown, ne_eq, not_true_eq_false, if_false]

theorem pltProposalReadBody_pending {s : State} {p : Proposal} (r : Req) (hp : s.plt.proposal = some p) :
    pltProposalReadBody s r = .ok s ([put p.pid.toNat 16 0 ||| put p.proposer 7 16 ||| putB true 23, BitVec.ofNat 64 p.time,
      BitVec.ofNat 64 p.expiry] ++ p.edits) := by
  simp only [pltProposalReadBody, hp, pidWord_eq]

theorem pltProposalReadBody_none {s : State} (r : Req) (hp : s.plt.proposal = none) : pltProposalReadBody s r = .ok s [0] := by
  simp only [pltProposalReadBody, hp]

theorem proposalExpiry_lapses {s : State} {p : Proposal} (hp : s.plt.proposal = some p) (hpast : p.expiry < s.wall)
    (hwait : ∀ x ∈ s.hub.accepted, s.serves x.2 = true → p.expiry < x.1) : exec .proposalExpiry s =
      .next (raise (s.modPlt fun t => { t with proposal := none }) 202 3 (put p.pid.toNat 16 0)) := by
  have hnone : (s.hub.accepted.any fun x => s.serves x.2 && decide (x.1 ≤ p.expiry)) = false := by
    simpa using hwait
  simp only [exec, execProposalExpiry, hp, hnone, decide_eq_true hpast, Bool.not_false, Bool.and_true, if_true, lapseProposal_pending hp]

theorem proposalExpiry_early {s : State} {p : Proposal} (hp : s.plt.proposal = some p) (hearly : s.wall ≤ p.expiry) :
    exec .proposalExpiry s = .next s := by
  simp only [exec, execProposalExpiry, hp, decide_eq_false (not_lt.2 hearly), Bool.false_and, Bool.false_eq_true, if_false]

/-- Settles O8: each command by its body, the confirmation by the first check of R345 that decides it. -/
theorem pltTable : Obligations.PltTable := by
  unfold Obligations.PltTable
  refine ⟨fun r s s1 sec i count n hserved hsec hi hcount hw hn => pltRead_answers hserved hsec hi hcount hw hn,
    fun s area harea hdue => ⟨⟨_, settingsAreaWrite_stores hdue, rfl, ?stored⟩, settingsAreaWrite_fails hdue⟩,
    fun r s s1 pid w hserved hnone hedits hlen hparse hpid hw => ⟨proposalOf s1 r, hpid.symm, rfl, rfl, rfl, ?proposed⟩,
    fun r s s1 p l hserved hp hpid hl => ⟨fun hown => ?own, fun hown hlate => ?late, fun hown hintime hvalid => ?invalid,
      fun hown hintime hvalid hkept => ?moved, fun hown hintime hvalid hkept => ?confirmed⟩,
    fun r s s1 p => ⟨fun hserved hp hpid hown => ?withdrawn, fun hserved hp hfits => ?pending, fun hserved hp => ?none,
      proposalExpiry_lapses, proposalExpiry_early⟩⟩
  case stored =>
    by_cases h0 : area = 0
    · simp [h0, areaNow, topAseq]
    · simp [h0, areaNow, topAseq]
  case proposed =>
    rw [hw, hpid, ← pidWord_eq]
    have h := jcs_answered_with hserved (pltProposeBody_staged hnone hedits hlen hparse) (by decide) (show 2 ≤ 511 by decide)
    rw [show cut r = false from decide_eq_false (by omega)] at h
    exact congrArg Host.Outcome.next h
  case own => exact congrArg Host.Outcome.next (jcs_refused hserved (pltConfirmBody_own hp hpid hown) (by decide))
  case late =>
    rw [← lapseProposal_pending hp]
    exact congrArg Host.Outcome.next
      (jcs_answered_with hserved (pltConfirmBody_late hp hpid hown hlate) (by decide) (Nat.zero_le 511))
  case invalid =>
    have hbody := (pltConfirmBody_judged hp hpid hown hintime hl).trans (if_pos hvalid)
    exact congrArg Host.Outcome.next (jcs_answered_with hserved hbody (by decide) (Nat.zero_le 511))
  case moved =>
    have hbody := (pltConfirmBody_judged hp hpid hown hintime hl).trans ((if_neg (by simp [hvalid])).trans (if_pos hkept))
    exact congrArg Host.Outcome.next (jcs_refused hserved hbody (by decide))
  case confirmed =>
    have hbody := (pltConfirmBody_judged hp hpid hown hintime hl).trans
      ((if_neg (by simp [hvalid])).trans (if_neg (by simp [hkept])))
    exact congrArg Host.Outcome.next (jcs_ok hserved hbody (show 1 ≤ 511 by decide))
  case withdrawn => exact congrArg Host.Outcome.next (jcs_ok hserved (pltWithdrawBody_own hp hpid hown) (Nat.zero_le 511))
  case pending =>
    refine congrArg Host.Outcome.next (jcs_ok hserved (pltProposalReadBody_pending r hp) ?_)
    simp only [List.length_append, List.length_cons, List.length_nil]
    omega
  case none => exact congrArg Host.Outcome.next (jcs_ok hserved (pltProposalReadBody_none r hp) (show 1 ≤ 511 by decide))

end Sys2Proof.Machine

/-! ## Rings, the queue manager, event routes and deliveries (12) -/

namespace Sys2Proof.Machine

/-! ### Reading rings after an operation (R353, R358) -/

theorem State.ring_of_queues {s t : State} (h : t.queues = s.queues) (g : Nat) : t.ring g = s.ring g := by
  rw [State.ring, h, State.ring]

@[simp] theorem freeReleased_ring (s : State) (release : Option (Nat × Nat)) (g : Nat) : (freeReleased s release).ring g = s.ring g :=
  State.ring_of_queues ((freeReleased_does s release).same.queues (by decide)) g

/-- Dropping what ring `g` holds frees buffers and changes no other ring (R358). -/
theorem dropHeld_ring (s : State) {g j : Nat} (h : j ≠ g) : (dropHeld s g).ring j = s.ring j := by
  rw [dropHeld, State.modRing_ring, if_neg h]
  exact State.each_keeps (fun s => s.ring j) _ _ fun s x => freeReleased_ring s x.release j

/-! ### RING_CONFIG, RING_START, RING_STOP (R355, R359, R360) -/

/-- The context that RING_CONFIG gives ring `g` in place of `x` (R355). -/
def ringConfigured (s : State) (r : Req) (g : Nat) (x : Ring) : Ring :=
  { state := .stopped, owner := ringFunc s r.who g, type := fld (r.word 0) 15 12, log2size := fld (r.word 0) 20 16,
    cring := if descriptorType (fld (r.word 0) 15 12) then s.globalRing r.who (fld (r.word 0) 43 32) else 0, base := r.word 1,
    wb := r.word 2, vector := fld (r.word 3) 6 0, gen := x.gen + 1, fetched := x.fetched, ticket := x.ticket, order := x.order }

section
variable {s : State} {r : Req} {g : Nat} (hg : g = s.ringBase r.who + fld (r.word 0) 11 0)
include hg

theorem ringConfigBody_ok (htype : 1 ≤ fld (r.word 0) 15 12 ∧ fld (r.word 0) 15 12 ≤ 6)
    (hsize : 4 ≤ fld (r.word 0) 20 16 ∧ fld (r.word 0) 20 16 ≤ 16) (hbase : fld (r.word 1) 11 0 = 0) (hwb : fld (r.word 2) 2 0 = 0)
    (hdesc : descriptorType (fld (r.word 0) 15 12) = true → fld (r.word 0) 43 32 < s.ringCount r.who ∧ fld (r.word 3) 6 0 = 0 ∧
      (s.ring (s.ringBase r.who + fld (r.word 0) 43 32)).type = 3 ∧
      (s.ring (s.ringBase r.who + fld (r.word 0) 43 32)).state ≠ .unconfigured ∧
      (s.ring (s.ringBase r.who + fld (r.word 0) 43 32)).owner = ringFunc s r.who g)
    (hvector : fld (r.word 3) 6 0 ≠ 0 → fld (r.word 3) 6 0 < s.msixCount r.who)
    (hstate : (s.ring g).state = .unconfigured ∨ (s.ring g).state = .stopped) :
    ringConfigBody s r = .ok ((dropHeld s g).modRing g (ringConfigured s r g)) := by
  subst hg
  have hidle : (s.ring (s.globalRing r.who (reqRing r))).state ≠ .running ∧ (s.ring (s.globalRing r.who (reqRing r))).state ≠ .error := by
    rcases hstate with h | h <;> rw [State.globalRing, reqRing, h] <;> decide
  have hfeed : (descriptorType (fld (r.word 0) 15 12) && !(decide (fld (r.word 0) 43 32 < s.ringCount r.who) &&
      (s.ring (s.globalRing r.who (fld (r.word 0) 43 32))).type == 3 &&
      decide ((s.ring (s.globalRing r.who (fld (r.word 0) 43 32))).state ≠ .unconfigured) &&
      decide ((s.ring (s.globalRing r.who (fld (r.word 0) 43 32))).owner =
        ringFunc s r.who (s.globalRing r.who (reqRing r))))) = false := by
    by_cases h : descriptorType (fld (r.word 0) 15 12) = true
    · obtain ⟨hin, -, h3, hconf, hown⟩ := hdesc h
      simp [State.globalRing, reqRing, hin, h3, hconf, hown]
    · simp [h]
  have hmsix : (decide (fld (r.word 3) 6 0 ≠ 0) && (descriptorType (fld (r.word 0) 15 12) ||
      decide (s.msixCount r.who ≤ fld (r.word 3) 6 0))) = false := by
    by_cases h : fld (r.word 3) 6 0 = 0
    · simp [h]
    · have hnot : descriptorType (fld (r.word 0) 15 12) = false := Bool.eq_false_iff.2 fun hd => h (hdesc hd).2.1
      simp [hnot, hvector h]
  unfold ringConfigBody
  dsimp only
  rw [if_neg (by simp [htype]), if_neg (by simp [hsize]), if_neg (by simp [hbase, hwb]), if_neg (by rw [hfeed]; decide),
    if_neg (by rw [hmsix]; decide), if_neg (by simp [hidle])]
  rfl

theorem ringStartBody_runs (hst : (s.ring g).state = .stopped)
    (hfeed : descriptorType (s.ring g).type = true → (s.ring (s.ring g).cring).state = .running) :
    ringStartBody s r = .ok (s.modRing g fun x => { x with state := .running }) := by
  obtain rfl : g = s.globalRing r.who (reqRing r) := hg
  unfold ringStartBody
  simp only [hst]
  exact if_neg (by simpa using hfeed)

theorem ringStartBody_unfed (hst : (s.ring g).state = .stopped) (hdesc : descriptorType (s.ring g).type = true)
    (hfeed : (s.ring (s.ring g).cring).state ≠ .running) : ringStartBody s r = .notReady s := by
  obtain rfl : g = s.globalRing r.who (reqRing r) := hg
  unfold ringStartBody
  simp only [hst]
  exact if_pos (by simp [hdesc, hfeed])

theorem ringStopBody_stops (hst : (s.ring g).state = .running ∨ (s.ring g).state = .error)
    (hfed : ¬((s.ring g).type = 3 ∧ ringFed s g = true)) : ringStopBody s r = .ok (s.modRing g fun x => { x with state := .stopped })
      [put (s.ring g).count.toNat 32 0 ||| putB (decide ((s.ring g).state = .error)) 32] := by
  obtain rfl : g = s.globalRing r.who (reqRing r) := hg
  rw [← setWidth_eq_put _ (by decide)]
  unfold ringStopBody
  rcases hst with hst | hst <;> simp only [hst] <;>
    exact (if_neg (by simpa using hfed)).trans (by simp only [ringStopWord, hst])

theorem ringStopBody_feeds (hst : (s.ring g).state = .running) (htype : (s.ring g).type = 3) (hfed : ringFed s g = true) :
    ringStopBody s r = .busy s := by
  obtain rfl : g = s.globalRing r.who (reqRing r) := hg
  unfold ringStopBody
  simp only [hst]
  exact if_pos (by simp [htype, hfed])

end

/-! ### RING_DOORBELL (R305, R356, R359) -/

section
variable {s : State} {f i : Nat} (hu : s.inUse f = true) (hst : s.hub.stage = .ready) (v : BitVec 32)
include hu hst

theorem ringDoorbell_beyond (hi : s.ringCount f ≤ i) : exec (.ringDoorbell f i v) s = .next (violate s f) :=
  congrArg Host.Outcome.next ((if_neg (by simp [hu, hst])).trans (if_pos hi))

theorem ringDoorbell_rings (hi : i < s.ringCount f) :
    exec (.ringDoorbell f i v) s = .next (s.modRing (s.ringBase f + i) fun r => ringRung r v) :=
  congrArg Host.Outcome.next ((if_neg (by simp [hu, hst])).trans (if_neg (not_le.2 hi)))

end

/-- What a doorbell does to a RUNNING ring (R356, R359). -/
theorem ringRung_running {x : Ring} (hst : x.state = .running) (v : BitVec 32) : ringRung x v =
    if descriptorType x.type then
      if 2 ^ x.log2size < (v - x.cons).toNat then { x with state := .error, wbDue := true } else { x with prod := v }
    else if (x.prod - x.cons).toNat < (v - x.cons).toNat then x else { x with cons := v } := by
  rw [ringRung, if_neg (not_not.2 hst)]
  rfl

/-- Settles O9: configuration, start, stop and doorbell, each by what it does to its ring. -/
theorem rings : Obligations.Rings := by
  unfold Obligations.Rings
  refine ⟨fun r s s1 g hserved hg ht1 ht6 hs4 hs16 hbase hwb hdesc hvector hstate => ?config,
    fun r s s1 g hg => ⟨fun hserved hst hfeed => ?start, fun hserved hst hdesc hfeed => ?unfed, fun hserved hst hfed => ?stop,
      fun hserved hst htype hfed => ?feeds⟩,
    fun s f i v hu hst => ⟨ringDoorbell_beyond hu hst v, fun hi hrun => ⟨_, ringDoorbell_rings hu hst v hi, fun j hj => ?others, ?rung⟩⟩⟩
  case config =>
    have hbody := ringConfigBody_ok hg ⟨ht1, ht6⟩ ⟨hs4, hs16⟩ hbase hwb hdesc hvector hstate
    refine ⟨_, congrArg Host.Outcome.next (jcs_ok hserved hbody (Nat.zero_le 511)), fun j hj => ?_, ?_⟩
    · rw [State.modRing_ring, if_neg hj, dropHeld_ring s1 hj]
    · rw [State.modRing_ring_self]
      exact ⟨rfl, rfl, rfl, rfl, rfl, rfl, rfl, rfl, rfl, fun hd => if_pos hd⟩
  case start => exact congrArg Host.Outcome.next (jcs_ok hserved (ringStartBody_runs hg hst hfeed) (Nat.zero_le 511))
  case unfed => exact congrArg Host.Outcome.next (jcs_refused hserved (ringStartBody_unfed hg hst hdesc hfeed) (by decide))
  case stop => exact congrArg Host.Outcome.next (jcs_ok hserved (ringStopBody_stops hg hst hfed) (show 1 ≤ 511 by decide))
  case feeds => exact congrArg Host.Outcome.next (jcs_refused hserved (ringStopBody_feeds hg hst htype hfed) (by decide))
  case others => rw [State.modRing_ring, if_neg hj]
  case rung =>
    rw [State.modRing_ring_self, ringRung_running hrun]
    exact ⟨fun hd hle => (if_pos hd).trans (if_neg (not_lt.2 hle)), fun hd hlt => (if_pos hd).trans (if_pos hlt),
      fun hd hle => (if_neg (by simp [hd])).trans (if_neg (not_lt.2 hle)), fun hd hlt => (if_neg (by simp [hd])).trans (if_pos hlt)⟩

/-! ### The queue manager (R354, R356 to R359) -/

theorem descriptorFetch_next {s : State} {g : Nat} (h : nextFetch s = some g) (fetched : Option Desc) :
    exec (.descriptorFetch fetched) s = .next (fetchDesc s g fetched) := by
  simp only [exec, execDescriptorFetch, h]

/-- The words of a descriptor ring's write-back signal no vector (R356, R357). -/
theorem writeBack_descriptor {s : State} {g : Nat} (hdesc : descriptorType (s.ring g).type = true) : writeBack s g =
    (s.emit (.writeBack g (s.ring g).wb
      (put (s.ring g).cons.toNat 32 0 ||| putB (decide ((s.ring g).state = .error)) 63))).modRing g fun x =>
        { x with wbDue := false, vectors := [] } := by
  have h3 : (s.ring g).type ≠ 3 := fun h => by simp [h, descriptorType] at hdesc
  have h4 : (s.ring g).type ≠ 4 := fun h => by simp [h, descriptorType] at hdesc
  rw [← setWidth_eq_put _ (by decide)]
  simp [writeBack, State.each, h3, h4, wbWord, Ring.count, hdesc]

section
variable {s : State} {g : Nat} (hcp : s.hub.cpFailed = false)
include hcp

theorem ringWriteBack_done (hdue : (s.ring g).wbDue = true) (hst : (s.ring g).state ≠ .unconfigured) :
    exec (.ringWriteBack g true) s = .next (writeBack s g) :=
  congrArg Host.Outcome.next (if_neg (by simp [hcp, hdue, hst]))

theorem ringWriteBack_failed (hdue : (s.ring g).wbDue = true) (hst : (s.ring g).state = .running) :
    exec (.ringWriteBack g false) s = .next (s.modRing g fun x => { x with state := .error, wbDue := true }) :=
  congrArg Host.Outcome.next ((if_neg (by simp [hcp, hdue, hst])).trans (if_pos hst))

theorem completionRoom_posts {h : Held} {rest : List Held} (hheld : (s.ring g).held = h :: rest) (hroom : (s.ring g).hasRoom = true) :
    exec (.completionRoom g) s = .next (writeCompletion (s.modRing g fun x => { x with held := rest }) g h) := by
  simp only [exec, execCompletionRoom, hheld, hroom, hcp, Bool.not_false, Bool.and_true, if_true]

end

theorem dtypeMismatch_refuses {s s1 : State} {g n : Nat} {d : Desc} (hfits : dtypeFits (s.ring g).type (fld d.w0 7 0) = false)
    (hwaits : ringWaits s g = false) (htake : takeOrdered s g d = some (s1, n)) :
    exec (.dtypeMismatch g d) s = .next (finishOrdered s1 g n ⟨put 4 8 8, 0, 0, d.w3⟩) := by
  have hword : ctWord 0 4 = put 4 8 8 := by decide
  simp only [exec, execDtypeMismatch, dtypeOf, hfits, hwaits, htake, hword, Bool.or_self, Bool.false_eq_true, if_false]

/-- Settles O10: each of the queue manager's actions by its row. -/
theorem queueManager : Obligations.QueueManager := by
  unfold Obligations.QueueManager
  refine fun s s1 g n d h rest => ⟨fun hnext => ⟨_, descriptorFetch_next hnext _, ?_⟩, fun hnext => ⟨_, descriptorFetch_next hnext _, ?_⟩,
    fun hcp hdue hst hdesc => ?_, ringWriteBack_failed, fun hheld hroom hcp => completionRoom_posts hcp hheld hroom,
    dtypeMismatch_refuses⟩
  · have hself : (fetchDesc s g (some d)).ring g = { s.ring g with
        cons := (s.ring g).cons + 1, wbDue := true
        fetched := (s.ring g).fetched ++ [⟨(s.ring g).cring, (s.ring (s.ring g).cring).gen, d⟩] } := State.modRing_ring_self ..
    rw [hself]
    exact ⟨rfl, rfl, rfl, rfl, fun j hj => (State.modRing_ring ..).trans (if_neg hj), rfl⟩
  · have hself : (fetchDesc s g none).ring g = { s.ring g with state := .error, wbDue := true } := State.modRing_ring_self ..
    rw [hself]
    exact ⟨rfl, rfl⟩
  · rw [ringWriteBack_done hcp hdue hst, writeBack_descriptor hdesc]

/-! ### EVENT_ROUTE and EVENT_DELIVERY (R362 to R364) -/

section
variable {s : State} {r : Req} {f : Nat}
  (hf : f = if r.who < 64 then r.who else (s.ring (s.ringBase r.who + fld (r.word 0) 27 16)).owner)
include hf

theorem eventRouteBody_enables (hen : bit (r.word 0) 39 = true)
    (htype : (s.ring (s.ringBase r.who + fld (r.word 0) 27 16)).type = 4)
    (hst : (s.ring (s.ringBase r.who + fld (r.word 0) 27 16)).state ≠ .unconfigured)
    (hown : (s.ring (s.ringBase r.who + fld (r.word 0) 27 16)).owner = f)
    (hvector : fld (r.word 0) 38 32 = 0 ∨ fld (r.word 0) 38 32 < s.msixCount f) : eventRouteBody s r =
      .ok (s.modEvent (fld (r.word 0) 9 0) fun e => { e with
        routes := (e.routes.filter fun x => x.func != f) ++ [⟨f, s.ringBase r.who + fld (r.word 0) 27 16, fld (r.word 0) 38 32⟩] })
        (routeWords (s.event (fld (r.word 0) 9 0))) := by
  have hv : (decide (fld (r.word 0) 38 32 ≠ 0) && decide (s.msixCount f ≤ fld (r.word 0) 38 32)) = false := by
    rcases hvector with h | h <;> simp [h]
  unfold eventRouteBody
  simp only [hen, State.globalRing, if_true, ← hf]
  rw [if_neg (by simp [htype, hst, hown]), if_neg (by rw [hv]; decide)]

theorem eventRouteBody_removes (hen : bit (r.word 0) 39 = false) : eventRouteBody s r =
    .ok (s.modEvent (fld (r.word 0) 9 0) fun e => { e with routes := e.routes.filter fun x => x.func != f })
      (routeWords (s.event (fld (r.word 0) 9 0))) := by
  unfold eventRouteBody
  simp only [hen, State.globalRing, Bool.false_eq_true, if_false, ← hf]

end

section
variable {s : State} {e : EvRec} {x : Route}

theorem eventDelivery_oldest {rest : List (EvRec × Route)} (hcp : s.hub.cpFailed = false) (hst : s.hub.stage ≠ .restarting)
    (hq : s.queues.deliver = (e, x) :: rest) :
    exec .eventDelivery s = .next (deliverOne (s.modQueues fun q => { q with deliver := rest }) e x) := by
  simp [exec, execEventDelivery, hcp, hst, hq]

variable (hfunc : x.func < 64) (htype : (s.ring x.ring).type = 4) (hst : (s.ring x.ring).state ≠ .unconfigured)
include hfunc htype hst

theorem deliverOne_full (hroom : (s.ring x.ring).hasRoom = false) :
    deliverOne s e x = s.modRing x.ring fun y => { y with rseq := y.rseq + 1, lost := true } := by
  unfold deliverOne
  rw [if_neg (not_le.2 hfunc)]
  dsimp only
  rw [if_neg (by simp [htype, hst]), if_neg (by simp [hroom])]

/-- A record with room is written as the ring's next entry (R362, R364). -/
theorem deliverOne_room (hroom : (s.ring x.ring).hasRoom = true) : ∃ vectors : Ring → List Nat, deliverOne s e x =
    (s.emit (.eventRecord x.ring ((s.ring x.ring).prod.toNat % 2 ^ (s.ring x.ring).log2size)
      ⟨put e.source 10 0 ||| put e.code.toNat 8 16 ||| putB (s.ring x.ring).lost 24 ||| put ((s.ring x.ring).rseq + 1).toNat 32 32,
        BitVec.ofNat 64 e.time, put e.frame.toNat 48 0, e.data⟩)).modRing x.ring fun y =>
          { y with rseq := y.rseq + 1, lost := false, prod := y.prod + 1, wbDue := true, vectors := vectors y } := by
  unfold deliverOne
  rw [if_neg (not_le.2 hfunc)]
  dsimp only
  rw [if_neg (by simp [htype, hst]), if_pos hroom]
  simp only [eventWords, setWidth_shiftLeft _ _ (show 8 ≤ 64 by decide), setWidth_shiftLeft _ _ (show 32 ≤ 64 by decide),
    setWidth_eq_put _ (show 48 ≤ 64 by decide)]
  exact ⟨_, rfl⟩

end

/-- Settles O11: a route is replaced or removed, and the oldest record goes to a ring with room or is dropped. -/
theorem events : Obligations.Events := by
  unfold Obligations.Events
  refine ⟨fun r s s1 src g f hserved hsrc hg hf => ⟨fun hen htype hst hown hvector => ?enable, fun hen => ?remove⟩,
    fun s e x rest hcp hstage hq hfunc htype hst => ⟨fun hroom => ?full, fun hroom => ?room⟩⟩
  case enable =>
    subst hsrc hg
    exact congrArg Host.Outcome.next (jcs_ok hserved (eventRouteBody_enables hf hen htype hst hown hvector) (show 5 ≤ 511 by decide))
  case remove =>
    subst hsrc hg
    exact congrArg Host.Outcome.next (jcs_ok hserved (eventRouteBody_removes hf hen) (show 5 ≤ 511 by decide))
  case full => exact (eventDelivery_oldest hcp hstage hq).trans (congrArg Host.Outcome.next (deliverOne_full hfunc htype hst hroom))
  case room =>
    obtain ⟨vectors, hone⟩ := deliverOne_room (s := s.modQueues fun q => { q with deliver := rest }) (e := e) hfunc htype hst hroom
    refine ⟨_, (eventDelivery_oldest hcp hstage hq).trans (congrArg Host.Outcome.next hone), rfl, ?_⟩
    rw [State.modRing_ring_self]
    exact ⟨rfl, rfl, rfl, rfl, List.mem_cons_self ..⟩

end Sys2Proof.Machine

/-! ## Wall time, the servo and the ordinary clocks: what their operations leave (13) -/

namespace Sys2Proof

variable {α β : Type} [DecidableEq α]

namespace Machine

/-! ### Association lists -/

theorem assocGet_map_ne (d : β) (l : List (α × β)) {k j : α} (v : β) (h : j ≠ k) :
    assocGet d (l.map fun x => if x.1 = k then (k, v) else x) j = assocGet d l j := by
  induction l with
  | nil => rfl
  | cons x l ih =>
    unfold assocGet at ih ⊢
    rw [List.map_cons, List.find?_cons, List.find?_cons]
    by_cases hx : x.1 = k
    · have hj : x.1 ≠ j := fun e => h (e.symm.trans hx)
      simp only [if_pos hx, decide_eq_false hj, decide_eq_false h.symm, ih]
    · by_cases hj : x.1 = j
      · simp only [if_neg hx, decide_eq_true hj]
      · simp only [if_neg hx, decide_eq_false hj, ih]

theorem assocGet_map_self (d : β) (l : List (α × β)) {k : α} (v : β) (h : (l.any fun x => decide (x.1 = k)) = true) :
    assocGet d (l.map fun x => if x.1 = k then (k, v) else x) k = v := by
  induction l with
  | nil => exact nomatch h
  | cons x l ih =>
    unfold assocGet at ih ⊢
    rw [List.map_cons, List.find?_cons]
    by_cases hx : x.1 = k
    · simp only [if_pos hx, decide_eq_true]
    · rw [List.any_cons, decide_eq_false hx, Bool.false_or] at h
      simp only [if_neg hx, decide_eq_false hx, ih h]

/-- Reading an entry after one is replaced or added. -/
theorem assocGet_assocSet (d : β) (l : List (α × β)) (k j : α) (v : β) :
    assocGet d (assocSet l k v) j = if j = k then v else assocGet d l j := by
  unfold assocSet
  split
  · next hany =>
    split
    · next hj => rw [hj, assocGet_map_self d l v hany]
    · next hj => exact assocGet_map_ne d l v hj
  · next hnone =>
    have hfind : (l.find? fun x => decide (x.1 = k)) = none := by
      refine List.find?_eq_none.2 fun x hx hk => hnone (List.any_eq_true.2 ⟨x, hx, hk⟩)
    unfold assocGet
    rw [List.find?_append]
    by_cases hj : j = k
    · subst hj
      simp [hfind]
    · have hk : k ≠ j := fun e => hj e.symm
      cases l.find? fun x => decide (x.1 = j) <;> simp [hj, hk]

theorem State.modCal_cal (s : State) (i j : CalItem) (f : CalSt → CalSt) :
    (s.modCal i f).cal j = if j = i then f (s.cal i) else s.cal j := assocGet_assocSet ..

theorem State.modGate_gate (s : State) (g k : GateId) (f : Gate → Gate) :
    (s.modGate g f).gate k = if k = g then f (s.gate g) else s.gate k := assocGet_assocSet ..

/-! ### The time part after an event, a new reference state, a step (R373, R375) -/

@[simp] theorem raise_time (s : State) (src code : Nat) (data : Word) (frame : Nat) (t : Option Nat) :
    (raise s src code data frame t).time = s.time := (raise_does s src code data frame t).same.time (by decide)

@[simp] theorem timeEvent_time (s : State) (code : Nat) (data : Word) : (timeEvent s code data).time = s.time := raise_time ..

@[simp] theorem toRef_state (s : State) (st : RefState) : (toRef s st).time.state = st := by
  unfold toRef
  rw [State.modTime_time]
  split
  · assumption
  · rfl

/-- What a change of the reference state leaves of the time part. -/
def Time.sansRef (t : Time) : Time :=
  { t with state := .none, since := 0, good := 0, bad := 0, onPeriod := true, intervals := [] }

@[simp] theorem toRef_sansRef (s : State) (st : RefState) : (toRef s st).time.sansRef = s.time.sansRef := by
  unfold toRef
  rw [State.modTime_time]
  split <;> rfl

/-- A step moves the counters that run and the last edge, and is counted (R375). -/
theorem stepNow_time (s : State) (delta : Int) : (stepNow s delta).time =
    { s.time with
      counter := s.time.counter + (BitVec.ofInt 96 delta <<< 32)
      copyA := if s.dies.a.stopped then s.time.copyA else s.time.copyA + (BitVec.ofInt 96 delta <<< 32)
      copyB := if s.dies.b.stopped then s.time.copyB else s.time.copyB + (BitVec.ofInt 96 delta <<< 32)
      steps := s.time.steps + 1, step := none
      lastEdge := s.time.lastEdge.map fun e => e + 65536 * delta, since := s.time.since + delta } := by
  unfold stepNow
  dsimp only
  rw [timeEvent_time, (stepSaps_does ..).same.time (by decide), State.modLinks_time,
    State.each_keeps (fun s => s.time) _ _ (fun s c => State.modCanvas_time ..)]
  rfl

theorem scheduleStep_idle {s : State} (delta : Int) (h : s.lowCanvas = none) : scheduleStep s delta = stepNow s delta := by
  simp only [scheduleStep, h]

/-- With a canvas running a step is recorded for later (R375). -/
theorem scheduleStep_waits {s : State} (delta : Int) (h : s.lowCanvas ≠ none) :
    ∃ ts, (scheduleStep s delta).time = { s.time with step := some (delta, ts) } := by
  obtain ⟨c, hc⟩ := Option.ne_none_iff_exists'.1 h
  simp only [scheduleStep, hc]
  exact ⟨_, rfl⟩

/-! ### What the servo leaves of the ordinary clocks and the network ports (R372 to R374) -/

/-- The network part of wall time: the ordinary clocks, the Syncs measured, the ports that are up. -/
def Time.net (t : Time) : OrdClock × OrdClock × BitVec 32 × Tbl Bool × Word := (t.ocA, t.ocB, t.syncs, t.netUp, t.smTlv)

theorem State.oc_of_net {s t : State} (h : t.time.net = s.time.net) (d : DieId) : t.oc d = s.oc d := by
  obtain ⟨ha, hb, -⟩ : t.time.ocA = s.time.ocA ∧ t.time.ocB = s.time.ocB ∧ _ := by simpa [Time.net] using h
  cases d
  · exact ha
  · exact hb

theorem Time.syncs_of_net {t u : Time} (h : t.net = u.net) : t.syncs = u.syncs := congrArg (·.2.2.1) h

theorem Time.netUp_of_net {t u : Time} (h : t.net = u.net) : t.netUp = u.netUp := congrArg (·.2.2.2.1) h

theorem Time.smTlv_of_net {t u : Time} (h : t.net = u.net) : t.smTlv = u.smTlv := congrArg (·.2.2.2.2) h

@[simp] theorem timeEvent_net (s : State) (code : Nat) (data : Word) : (timeEvent s code data).time.net = s.time.net := by
  rw [timeEvent_time]

@[simp] theorem toRef_net (s : State) (st : RefState) : (toRef s st).time.net = s.time.net := by
  unfold toRef
  rw [State.modTime_time]
  split <;> rfl

@[simp] theorem stepNow_net (s : State) (delta : Int) : (stepNow s delta).time.net = s.time.net := by
  rw [stepNow_time, Time.net, Time.net]

@[simp] theorem scheduleStep_net (s : State) (delta : Int) : (scheduleStep s delta).time.net = s.time.net := by
  by_cases h : s.lowCanvas = none
  · rw [scheduleStep_idle delta h, stepNow_net]
  · obtain ⟨ts, hts⟩ := scheduleStep_waits delta h
    rw [hts, Time.net, Time.net]

/-- A change of the time part that the network part does not see. -/
theorem State.modTime_net {s : State} {f : Time → Time} (h : ∀ t, (f t).net = t.net) : (s.modTime f).time.net = s.time.net := h _

@[simp] theorem servo_net (s : State) (offset : Int) : (servo s offset).time.net = s.time.net := rfl

@[simp] theorem realign_net (s : State) (offset : Int) : (realign s offset).time.net = s.time.net := by
  have hevent : ∀ (u : State) (code : Nat) (w : Word), u.time.net = s.time.net → (timeEvent u code w).time.net = s.time.net :=
    fun u code w h => (timeEvent_net u code w).trans h
  unfold realign
  dsimp only
  split
  · split
    · exact hevent _ _ _ (toRef_net s _)
    · exact (scheduleStep_net ..).trans (hevent _ _ _ (toRef_net s _))
  · exact (State.modTime_net fun _ => rfl).trans (hevent _ _ _ (toRef_net s _))

@[simp] theorem holdover_net (s : State) (rate : Bool) : (holdover s rate).time.net = s.time.net :=
  (timeEvent_net ..).trans (toRef_net ..)

@[simp] theorem lock_net (s : State) : (lock s).time.net = s.time.net := (timeEvent_net ..).trans (toRef_net ..)

@[simp] theorem countGood_net (s : State) (ok : Bool) : (countGood s ok).time.net = s.time.net := by
  unfold countGood
  dsimp only
  generalize (if ok then s.time.good + 1 else 0) = n
  split
  · exact lock_net _
  · rfl

@[simp] theorem steer_net (s : State) (offset : Int) (glitch : Bool) : (steer s offset glitch).time.net = s.time.net := by
  unfold steer
  split <;> rfl

@[simp] theorem useMeasurement_net (s : State) (offset : Int) (glitch onTime : Bool) :
    (useMeasurement s offset glitch onTime).time.net = s.time.net := by
  unfold useMeasurement
  dsimp only
  split
  · split
    · rw [countGood_net, steer_net]
    split
    · rw [countGood_net]
      split
      · rfl
      · exact stepNow_net ..
    split
    · exact realign_net ..
    · rw [countGood_net, steer_net]
  · rw [countGood_net]
    split
    · rfl
    · exact steer_net ..
  · exact steer_net s offset glitch
  · generalize (if onTime then s.time.good + 1 else if s.tenMhz then 0 else 1) = n
    generalize (if s.tenMhz then 8 else 3) = enough
    split
    · split
      · exact (toRef_net ..).trans (timeEvent_net ..)
      · exact (realign_net ..).trans (timeEvent_net ..)
    · rfl
  · rfl

@[simp] theorem useGlitch_net (s : State) (offset : Int) (onTime : Bool) : (useGlitch s offset onTime).time.net = s.time.net := by
  unfold useGlitch
  extract_lets n s1
  have hs1 : s1.time.net = s.time.net := rfl
  clear_value s1
  split
  · exact hs1
  split
  · exact (holdover_net ..).trans hs1
  split
  · exact (holdover_net ..).trans hs1
  · exact (realign_net ..).trans hs1

/-- What a measurement does to the servo, it does to no ordinary clock. -/
@[simp] theorem measurement_net (s : State) (offset : Int) (glitch onTime : Bool) :
    (measurement s offset glitch onTime).time.net = s.time.net := by
  unfold measurement
  split
  · exact useGlitch_net ..
  · exact useMeasurement_net ..

@[simp] theorem keepOffset_net (s : State) (offset : Int) (mode : ServoMode) : (keepOffset s offset mode).time.net = s.time.net := by
  unfold keepOffset
  split <;> rfl

@[simp] theorem followGm_net (before s : State) : (followGm before s).time.net = s.time.net := by
  have hnew : ∀ u : State, u.time.net = s.time.net →
      (if u.gmDiffer && !before.gmDiffer then timeEvent u 8 1 else u).time.net = s.time.net := by
    intro u hu
    split
    · exact (timeEvent_net ..).trans hu
    · exact hu
  have hgm : ∀ u : State, u.time.net = s.time.net → (match s.gmUsed with
      | some b => u.modTime fun t => { t with lastGm := some b }
      | none => u).time.net = s.time.net := by
    intro u hu
    split <;> exact hu
  unfold followGm
  dsimp only
  refine hnew _ (hgm _ ?_)
  split
  · split
    · rfl
    · split
      · exact (toRef_net ..).trans (timeEvent_net ..)
      · exact timeEvent_net ..
  · rfl

/-! ### Ordinary clocks and their ports (R378, R379, R389) -/

@[simp] theorem State.modOc_oc (s : State) (d e : DieId) (f : OrdClock → OrdClock) :
    (s.modOc d f).oc e = if e = d then f (s.oc d) else s.oc e := by
  cases d <;> cases e <;> rfl

theorem State.oc_of_time {s t : State} (h : t.time = s.time) (d : DieId) : t.oc d = s.oc d := State.oc_of_net (congrArg Time.net h) d

@[simp] theorem raise_oc (s : State) (src code : Nat) (data : Word) (frame : Nat) (t : Option Nat) (d : DieId) :
    (raise s src code data frame t).oc d = s.oc d := State.oc_of_time (raise_time ..) d

/-- The state of a clock's port. -/
def OrdClock.portState (o : OrdClock) (port : Nat) : BitVec 4 := if port % 2 = 0 then o.port0 else o.port1

/-- `o` with the state of a port at `v`. -/
def OrdClock.setPort (o : OrdClock) (port : Nat) (v : BitVec 4) : OrdClock :=
  if port % 2 = 0 then { o with port0 := v } else { o with port1 := v }

theorem OrdClock.setPort_portState (o : OrdClock) (port q : Nat) (v : BitVec 4) :
    (o.setPort port v).portState q = if q % 2 = port % 2 then v else o.portState q := by
  unfold setPort portState
  by_cases hp : port % 2 = 0 <;> by_cases hq : q % 2 = 0
  · simp [hp, hq]
  · simp [hp, hq]
  · have hne : ¬ 0 = port % 2 := fun h => hp h.symm
    simp [hp, hq, hne]
  · have hsame : q % 2 = port % 2 := by omega
    simp [hp, hsame]

theorem OrdClock.setPort_self (o : OrdClock) (port : Nat) : o.setPort port (o.portState port) = o := by
  unfold setPort portState
  split <;> rfl

/-- A port's state stands beside all else that its clock holds. -/
theorem OrdClock.setPort_eq (o : OrdClock) (port : Nat) (v : BitVec 4) :
    ∃ a b, o.setPort port v = { o with port0 := a, port1 := b } := by
  unfold setPort
  split
  · exact ⟨v, o.port1, rfl⟩
  · exact ⟨o.port0, v, rfl⟩

theorem setPortState_eq (s : State) (port : Nat) (v : BitVec 4) : setPortState s port v =
    if (s.oc (netDie port)).portState port = v then s
    else raise (s.modOc (netDie port) fun o => o.setPort port v) (netSource port) 3 (v.setWidth 64) := rfl

/-- A port state is set in the clock of the port's die, and nowhere else (R389). -/
theorem setPortState_oc (s : State) (port : Nat) (v : BitVec 4) (d : DieId) :
    (setPortState s port v).oc d = if d = netDie port then (s.oc d).setPort port v else s.oc d := by
  rw [setPortState_eq]
  split
  · next hsame =>
    split
    · next hd => rw [hd, ← hsame, OrdClock.setPort_self]
    · rfl
  · rw [raise_oc, State.modOc_oc]
    split
    · next hd => rw [hd]
    · rfl

/-- What a change of the ordinary clocks leaves of the time part. -/
def Time.sansOc (t : Time) : Time := { t with ocA := {}, ocB := {} }

@[simp] theorem State.modOc_sansOc (s : State) (d : DieId) (f : OrdClock → OrdClock) : (s.modOc d f).time.sansOc = s.time.sansOc := by
  cases d <;> rfl

@[simp] theorem setPortState_sansOc (s : State) (port : Nat) (v : BitVec 4) : (setPortState s port v).time.sansOc = s.time.sansOc := by
  rw [setPortState_eq]
  split
  · rfl
  · rw [raise_time, State.modOc_sansOc]

@[simp] theorem restartPort_sansOc (s : State) (port : Nat) : (restartPort s port).time.sansOc = s.time.sansOc := by
  rw [restartPort, setPortState_sansOc, State.modOc_sansOc]

@[simp] theorem selectMaster_sansOc (s : State) (d : DieId) : (selectMaster s d).time.sansOc = s.time.sansOc := by
  unfold selectMaster
  dsimp only
  split
  · rfl
  · rw [State.modOc_sansOc, setPortState_sansOc, setPortState_sansOc]

end Machine

end Sys2Proof

/-! ## The TIME, PTP and REF commands (13) -/

namespace Sys2Proof.Machine

section
variable {s : State} {r : Req}

/-! ### TIME_SERVO (R369, R390) -/

/-- The settings that TIME_SERVO writes (R369). -/
def servoSet (s : State) (r : Req) (mode : ServoMode) : State :=
  s.modTime fun t => { t with
    mode := mode, snap := bit (r.word 0) 2
    inc := if mode = .free && decide (BitVec.ofNat 40 (fld (r.word 1) 39 0) ≠ 0) then BitVec.ofNat 40 (fld (r.word 1) 39 0) else t.inc }

theorem servoSet_inc {mode : ServoMode} (h : mode ≠ .free) : (servoSet s r mode).time.inc = s.time.inc := if_neg (by simp [h])

/-- FREE and HOST stop the servo (R369). -/
def servoOff (s : State) : State := toRef (s.modTime fun t => { t with slewing := false, following := none }) .none

/-- PTP and REF acquire their reference anew (R369, R390). -/
def servoAcquires (s : State) : State :=
  toRef (s.modTime fun t => { t with slewing := false, holdInc := if t.slewing then t.holdInc else t.inc, lastEdge := none,
                                     following := none, state := .none }) .acquire

theorem timeServoBody_host (h : fld (r.word 0) 1 0 = 3) :
    timeServoBody s r = .ok (settingsDue (servoOff (servoSet s r .host))) := by
  unfold timeServoBody
  simp only [h]
  rfl

theorem timeServoBody_badInc (h : fld (r.word 0) 1 0 = 0) (hne : BitVec.ofNat 40 (fld (r.word 1) 39 0) ≠ 0)
    (hinc : incOk (BitVec.ofNat 40 (fld (r.word 1) 39 0)) = false) : timeServoBody s r = .badParam s := by
  unfold timeServoBody
  simp only [h]
  exact if_pos (by simpa [hinc] using hne)

theorem timeServoBody_free (h : fld (r.word 0) 1 0 = 0)
    (hinc : BitVec.ofNat 40 (fld (r.word 1) 39 0) = 0 ∨ incOk (BitVec.ofNat 40 (fld (r.word 1) 39 0)) = true) :
    timeServoBody s r = .ok (settingsDue (servoOff (servoSet s r .free))) := by
  unfold timeServoBody
  simp only [h]
  exact if_neg (by rcases hinc with hinc | hinc <;> simp [hinc])

theorem timeServoBody_follow {mode : ServoMode} (h : fld (r.word 0) 1 0 = 1 ∧ mode = .ptp ∨ fld (r.word 0) 1 0 = 2 ∧ mode = .ref) :
    timeServoBody s r = .ok (settingsDue
      (if mode = s.time.mode && decide (s.time.state ≠ .measure) then servoSet s r mode else servoAcquires (servoSet s r mode))) := by
  unfold timeServoBody
  rcases h with ⟨h, rfl⟩ | ⟨h, rfl⟩ <;> simp only [h] <;> rfl

theorem servoOff_time (s : State) : (servoOff s).time.state = .none ∧ (servoOff s).time.sansRef =
    { s.time with slewing := false, following := none }.sansRef := ⟨toRef_state .., toRef_sansRef ..⟩

theorem servoAcquires_time (s : State) : (servoAcquires s).time.state = .acquire ∧ (servoAcquires s).time.sansRef =
    { s.time with slewing := false, holdInc := if s.time.slewing then s.time.holdInc else s.time.inc, lastEdge := none,
                  following := none }.sansRef := ⟨toRef_state .., toRef_sansRef ..⟩

/-! ### TIME_INCREMENT (R366, R371, R375) -/

/-- The increment that TIME_INCREMENT writes (R371). -/
def incSet (s : State) (r : Req) : State := s.modTime fun t => { t with inc := BitVec.ofNat 40 (fld (r.word 0) 39 0) }

theorem scheduleStep_spec (s : State) (delta : Int) : (scheduleStep s delta).time.inc = s.time.inc ∧
    (s.lowCanvas = none → (scheduleStep s delta).time.steps = s.time.steps + 1 ∧
      (scheduleStep s delta).time.counter = s.time.counter + (BitVec.ofInt 96 delta <<< 32)) ∧
    (s.lowCanvas ≠ none → (scheduleStep s delta).time.step.map (fun x => x.1) = some delta ∧
      (scheduleStep s delta).time.counter = s.time.counter) := by
  by_cases h : s.lowCanvas = none
  · rw [scheduleStep_idle delta h, stepNow_time]
    exact ⟨rfl, fun _ => ⟨rfl, rfl⟩, fun hrun => absurd h hrun⟩
  · obtain ⟨ts, hts⟩ := scheduleStep_waits delta h
    rw [hts]
    exact ⟨rfl, fun hidle => absurd hidle h, fun _ => ⟨rfl, rfl⟩⟩

theorem timeIncrementBody_foreign (hmode : s.time.mode ≠ .host) : timeIncrementBody s r = .conflict s := if_pos hmode

theorem timeIncrementBody_badInc (hmode : s.time.mode = .host) (hinc : incOk (BitVec.ofNat 40 (fld (r.word 0) 39 0)) = false) :
    timeIncrementBody s r = .badParam s := (if_neg (not_not.2 hmode)).trans (if_pos (by simp [hinc]))

theorem timeIncrementBody_busy (hmode : s.time.mode = .host) (hinc : incOk (BitVec.ofNat 40 (fld (r.word 0) 39 0)) = true)
    (hon : bit (r.word 0) 40 = true) (hstep : s.time.step.isSome = true) : timeIncrementBody s r = .busy s :=
  (if_neg (not_not.2 hmode)).trans ((if_neg (by simp [hinc])).trans (if_pos (by simp [hon, hstep])))

theorem timeIncrementBody_set (hmode : s.time.mode = .host) (hinc : incOk (BitVec.ofNat 40 (fld (r.word 0) 39 0)) = true)
    (hfree : bit (r.word 0) 40 = false ∨ s.time.step = none) : timeIncrementBody s r =
      .ok (if bit (r.word 0) 40 && decide ((r.word 1).toInt ≠ 0) then
          scheduleStep (incSet s r) (r.word 1).toInt else incSet s r) :=
  (if_neg (not_not.2 hmode)).trans ((if_neg (by simp [hinc])).trans (if_neg (by rcases hfree with h | h <;> simp [h])))

/-! ### PTP_CONFIG, PTP_STATUS_READ, REF_CONFIG (R382, R383, R385, R387) -/

@[simp] theorem settingsDue_time (s : State) : (settingsDue s).time = s.time := State.modPlt_time ..

/-- Ordinary clocks that start again change nothing else of wall time (R382). -/
theorem restartPorts_time (s : State) (ports : List Nat) : (s.each ports restartPort).time.ptp = s.time.ptp ∧
    (s.each ports restartPort).time.ref = s.time.ref ∧ (s.each ports restartPort).time.inc = s.time.inc := by
  have hrest : (s.each ports restartPort).time.sansOc = s.time.sansOc :=
    State.each_keeps (fun s => s.time.sansOc) ports restartPort restartPort_sansOc
  generalize s.each ports restartPort = u at hrest ⊢
  exact ⟨(congrArg Time.ptp hrest :), (congrArg Time.ref hrest :), (congrArg Time.inc hrest :)⟩

theorem ptpConfigBody_ok (hmode : fld (r.word 0) 1 0 ≤ 1) (hglitch : glitchField (r.word 0) = true)
    (hunicast : bit (r.word 0) 20 = true → fld (r.word 0) 1 0 = 0) : ptpConfigBody s r =
      .ok (settingsDue ((s.modTime fun t => { t with ptp := (List.range 3).map r.word }).each (List.range 4) restartPort)) := by
  refine if_neg ?_
  by_cases h : bit (r.word 0) 20 = true
  · simp [hglitch, hunicast h]
  · simp [hglitch, h, hmode]

theorem ptpConfigBody_badParam (h : 2 ≤ fld (r.word 0) 1 0 ∨ glitchField (r.word 0) = false) : ptpConfigBody s r = .badParam s :=
  if_pos (by rcases h with h | h <;> simp [h]; omega)

/-- A field of two words joined is that of the words joined. -/
theorem fld_or (u v : Word) (hi lo : Nat) : fld (u ||| v) hi lo = fld u hi lo ||| fld v hi lo := by
  simp only [fld, BitVec.toNat_or, Nat.shiftRight_or_distrib, Nat.or_mod_two_pow]

/-- A field above all that is put reads 0. -/
theorem fld_put_above (v : Nat) {n lo hi lo' : Nat} (h : lo + n ≤ lo') : fld (put v n lo) hi lo' = 0 := by
  have hlt : (v % 2 ^ n) <<< lo < 2 ^ lo' := by
    rw [Nat.shiftLeft_eq]
    calc v % 2 ^ n * 2 ^ lo < 2 ^ n * 2 ^ lo := Nat.mul_lt_mul_of_pos_right (Nat.mod_lt _ (Nat.two_pow_pos n)) (Nat.two_pow_pos lo)
      _ = 2 ^ (lo + n) := by rw [Nat.add_comm, Nat.pow_add]
      _ ≤ 2 ^ lo' := Nat.pow_le_pow_right (by decide) h
  rw [fld, put, BitVec.toNat_ofNat, Nat.shiftRight_eq_div_pow,
    Nat.div_eq_of_lt (lt_of_le_of_lt (Nat.mod_le _ _) hlt), Nat.zero_mod]

/-- The field that is put reads back. -/
theorem fld_put_self (v : Nat) {n lo hi : Nat} (hn : lo + n ≤ hi + 1) (hfit : lo + n ≤ 64) : fld (put v n lo) hi lo = v % 2 ^ n := by
  have hlt : (v % 2 ^ n) <<< lo < 2 ^ 64 := by
    rw [Nat.shiftLeft_eq]
    calc v % 2 ^ n * 2 ^ lo < 2 ^ n * 2 ^ lo := Nat.mul_lt_mul_of_pos_right (Nat.mod_lt _ (Nat.two_pow_pos n)) (Nat.two_pow_pos lo)
      _ = 2 ^ (lo + n) := by rw [Nat.add_comm, Nat.pow_add]
      _ ≤ 2 ^ 64 := Nat.pow_le_pow_right (by decide) hfit
  rw [fld, put, BitVec.toNat_ofNat, Nat.mod_eq_of_lt hlt, Nat.shiftLeft_shiftRight]
  exact Nat.mod_eq_of_lt (lt_of_lt_of_le (Nat.mod_lt _ (Nat.two_pow_pos n)) (Nat.pow_le_pow_right (by decide) (by omega)))

theorem fld_zero (hi lo : Nat) : fld 0 hi lo = 0 := by
  rw [fld, show (0 : Word).toNat = 0 from rfl, Nat.zero_shiftRight, Nat.zero_mod]

/-- The source of the ordinary clock in use, 3 for none (R383). -/
theorem ocUsed_num_lt (s : State) : (match s.ocUsed with
    | some d => d.num
    | none => 3) < 4 := by
  cases s.ocUsed with
  | none => decide
  | some d => cases d <;> decide

theorem ptpStatusReadBody_ok (s : State) (r : Req) {d : DieId} {o : OrdClock} (hd : d = s.ocUsed.getD .a) (ho : o = s.oc d) :
    ∃ w0 w2, ptpStatusReadBody s r = .ok s
      [w0, o.gmId, w2, ofInt o.mpd, ofInt o.ofm, pair s.time.syncs s.time.tcMsgs,
        put (s.netLatency (d.num * 2 + (if o.using1 then 1 else 0))).1 32 0 |||
          put (s.netLatency (d.num * 2 + (if o.using1 then 1 else 0))).2 32 32, s.time.smTlv] ∧
      fld w0 17 16 = (match s.ocUsed with
        | some d => d.num
        | none => 3) ∧ fld w2 63 32 = o.steps.toNat := by
  subst hd ho
  refine ⟨_, _, rfl, ?_, ?_⟩
  · have hport : ∀ (c : Bool) (v lo : Nat), lo ≤ 12 → fld (if c then put v 4 lo else 0) 17 16 = 0 := by
      intro c v lo hlo
      cases c
      · exact fld_zero ..
      · exact fld_put_above v (by omega)
    simp only [fld_or, hport _ _ _ (show 0 ≤ 12 by decide), hport _ _ _ (show 4 ≤ 12 by decide), hport _ _ _ (show 8 ≤ 12 by decide),
      hport _ _ _ (le_refl 12), Nat.zero_or, fld_put_self _ (show 16 + 2 ≤ 17 + 1 by decide) (show 16 + 2 ≤ 64 by decide)]
    exact Nat.mod_eq_of_lt (ocUsed_num_lt s)
  · rw [setWidth_eq_put _ (show 8 ≤ 64 by decide), setWidth_shiftLeft _ 8 (by decide), setWidth_shiftLeft _ 16 (by decide),
      setWidth_shiftLeft _ 24 (by decide), setWidth_shiftLeft _ 32 (by decide)]
    simp only [fld_or, fld_put_above _ (show 0 + 8 ≤ 32 by decide), fld_put_above _ (show 8 + 8 ≤ 32 by decide),
      fld_put_above _ (show 16 + 8 ≤ 32 by decide), fld_put_above _ (show 24 + 8 ≤ 32 by decide), Nat.zero_or,
      fld_put_self _ (show 32 + 16 ≤ 63 + 1 by decide) (show 32 + 16 ≤ 64 by decide)]
    exact Nat.mod_eq_of_lt (BitVec.isLt _)

/-- What REF_CONFIG stores (R385, R387); an output no longer granted falls. -/
def refSet (s : State) (r : Req) : State :=
  let s1 := s.modTime fun t => { t with
    ref := (List.range 2).map r.word, refRate := fld (r.word 0) 8 4, ppsGranted := bit (r.word 0) 16
    ppsHigh := t.ppsHigh && bit (r.word 0) 16, lastEdge := none, following := none }
  if s.time.ppsHigh && !bit (r.word 0) 16 then s1.emit (.pin "PPS_OUT" false) else s1

theorem refSet_time (s : State) (r : Req) : (refSet s r).time = { s.time with
    ref := (List.range 2).map r.word, refRate := fld (r.word 0) 8 4, ppsGranted := bit (r.word 0) 16
    ppsHigh := s.time.ppsHigh && bit (r.word 0) 16, lastEdge := none, following := none } := by
  unfold refSet
  dsimp only
  split <;> rfl

theorem refConfigBody_badParam (h : refFieldsOk r = false) : refConfigBody s r = .badParam s := if_pos (by simp [h])

theorem refConfigBody_busy (h : refFieldsOk r = true) (hpps : bit (r.word 0) 16 = true) (hsap : (s.sap 7).state ≠ .stopped) :
    refConfigBody s r = .busy s := (if_neg (by simp [h])).trans (if_pos (by simp [hpps, hsap]))

theorem refConfigBody_ok (h : refFieldsOk r = true) (hsap : bit (r.word 0) 16 = true → (s.sap 7).state = .stopped) :
    refConfigBody s r = .ok (settingsDue (if s.time.mode = .ref then
      toRef ((refSet s r).modTime fun t => { t with slewing := false, state := .none }) .acquire else refSet s r)) := by
  refine (if_neg (by simp [h])).trans (if_neg ?_)
  by_cases hpps : bit (r.word 0) 16 = true
  · simp [hsap hpps]
  · simp [hpps]


end

/-- Settles O43: each command by its body. -/
theorem timeCommands : Obligations.TimeCommands := by
  unfold Obligations.TimeCommands
  rintro r s s1 _ inc mode o d delta rfl
  refine ⟨fun hserved => ?read, fun hserved h => ?host, fun hserved h hinc => ⟨fun hne hbad => ?badFree, fun hok => ?free⟩,
    fun hserved h => ?follow, fun hserved hinc => ⟨fun hmode => ?foreign, fun hmode hbad => ?badInc, fun hmode hok hnone => ?set,
      fun hmode hok hon hstep => ?busy, fun hmode hok hon hstep hdelta hne => ?step⟩,
    fun hserved hmode hglitch hunicast => ?ptp, fun hserved hbad => ?badPtp, fun hserved hd ho => ?status,
    fun hserved hok hsap => ?ref, fun hserved hbad => ?badRef, fun hserved hok hpps hsap => ?busyRef⟩
  case read =>
    exact congrArg Host.Outcome.next (jcs_ok (body := timeReadBody) (s2 := s1) hserved rfl (show 8 ≤ 511 by decide))
  case host =>
    obtain ⟨hstate, hrest⟩ := servoOff_time (servoSet s1 r .host)
    refine ⟨_, congrArg Host.Outcome.next (jcs_ok hserved (timeServoBody_host h) (Nat.zero_le 511)), ?_, hstate, ?_, ?_⟩
    · exact congrArg Time.mode hrest
    · exact (congrArg Time.inc hrest).trans (servoSet_inc (s := s1) (r := r) (show ServoMode.host ≠ .free by decide))
    · exact congrArg Time.snap hrest
  case badFree =>
    subst hinc
    exact congrArg Host.Outcome.next (jcs_refused hserved (timeServoBody_badInc h hne hbad) (by decide))
  case free =>
    subst hinc
    obtain ⟨hstate, hrest⟩ := servoOff_time (servoSet s1 r .free)
    refine ⟨_, congrArg Host.Outcome.next (jcs_ok hserved (timeServoBody_free h hok) (Nat.zero_le 511)), congrArg Time.mode hrest, ?_,
      hstate⟩
    refine (congrArg Time.inc hrest).trans ?_
    show (if _ then _ else _) = _
    by_cases h0 : BitVec.ofNat 40 (fld (r.word 1) 39 0) = 0 <;> simp [h0]
  case follow =>
    have hfree : mode ≠ .free := by rintro rfl; simp at h
    have hbody := timeServoBody_follow (s := s1) h
    obtain ⟨hstate, hrest⟩ := servoAcquires_time (servoSet s1 r mode)
    have hinc : (servoSet s1 r mode).time.inc = s1.time.inc := servoSet_inc hfree
    by_cases hkeep : s1.time.mode = mode ∧ s1.time.state ≠ .measure
    · rw [if_pos (by simp [hkeep])] at hbody
      refine ⟨_, congrArg Host.Outcome.next (jcs_ok hserved hbody (Nat.zero_le 511)), rfl, hinc, fun hnew => ?_, fun _ _ => rfl⟩
      exact absurd hkeep (by tauto)
    · rw [if_neg (by rw [Bool.and_eq_true, decide_eq_true_eq, decide_eq_true_eq]; exact fun h => hkeep ⟨h.1.symm, h.2⟩)] at hbody
      refine ⟨_, congrArg Host.Outcome.next (jcs_ok hserved hbody (Nat.zero_le 511)), congrArg Time.mode hrest,
        (congrArg Time.inc hrest).trans hinc, fun _ => ⟨hstate, (congrArg Time.holdInc hrest).trans ?_, congrArg Time.following hrest⟩,
        fun hmode hst => absurd ⟨hmode, hst⟩ hkeep⟩
      exact congrArg (fun inc => if s1.time.slewing then s1.time.holdInc else inc) hinc
  case foreign => exact congrArg Host.Outcome.next (jcs_refused hserved (timeIncrementBody_foreign hmode) (by decide))
  case badInc =>
    subst hinc
    exact congrArg Host.Outcome.next (jcs_refused hserved (timeIncrementBody_badInc hmode hbad) (by decide))
  case set =>
    subst hinc
    have hbody := timeIncrementBody_set (r := r) hmode hok (hnone.imp_right And.right)
    rw [if_neg (by rcases hnone with h | ⟨h, -⟩ <;> simp [h])] at hbody
    exact congrArg Host.Outcome.next (jcs_ok hserved hbody (Nat.zero_le 511))
  case busy =>
    subst hinc
    exact congrArg Host.Outcome.next (jcs_refused hserved (timeIncrementBody_busy hmode hok hon hstep) (by decide))
  case step =>
    subst hinc hdelta
    have hbody := timeIncrementBody_set (r := r) hmode hok (.inr hstep)
    rw [if_pos (by simp [hon, hne])] at hbody
    refine ⟨_, congrArg Host.Outcome.next (jcs_ok hserved hbody (Nat.zero_le 511)), ?_⟩
    exact scheduleStep_spec (incSet s1 r) (r.word 1).toInt
  case ptp =>
    refine ⟨_, congrArg Host.Outcome.next (jcs_ok hserved (ptpConfigBody_ok hmode hglitch hunicast) (Nat.zero_le 511)), ?_⟩
    rw [settingsDue_time]
    exact restartPorts_time (s1.modTime fun t => { t with ptp := (List.range 3).map r.word }) (List.range 4)
  case badPtp => exact congrArg Host.Outcome.next (jcs_refused hserved (ptpConfigBody_badParam hbad) (by decide))
  case status =>
    obtain ⟨w0, w2, hbody, h0, h2⟩ := ptpStatusReadBody_ok s1 r hd ho
    exact ⟨w0, w2, congrArg Host.Outcome.next (jcs_ok hserved hbody (show 8 ≤ 511 by decide)), h0, h2⟩
  case ref =>
    refine ⟨_, congrArg Host.Outcome.next (jcs_ok hserved (refConfigBody_ok hok hsap) (Nat.zero_le 511)), ?_⟩
    by_cases href : s1.time.mode = .ref
    · have hrest := toRef_sansRef ((refSet s1 r).modTime fun t => { t with slewing := false, state := .none }) .acquire
      rw [State.modTime_time, refSet_time] at hrest
      rw [if_pos href]
      exact ⟨congrArg Time.ref hrest, congrArg Time.refRate hrest, congrArg Time.ppsGranted hrest, fun _ => toRef_state ..,
        fun hno => absurd href hno⟩
    · rw [if_neg href]
      show (refSet s1 r).time.ref = _ ∧ (refSet s1 r).time.refRate = _ ∧ (refSet s1 r).time.ppsGranted = _ ∧ _ ∧ _
      rw [refSet_time]
      exact ⟨rfl, rfl, rfl, fun h => absurd h href, fun _ => (congrArg Time.state (refSet_time s1 r) :)⟩
  case badRef => exact congrArg Host.Outcome.next (jcs_refused hserved (refConfigBody_badParam hbad) (by decide))
  case busyRef => exact congrArg Host.Outcome.next (jcs_refused hserved (refConfigBody_busy hok hpps hsap) (by decide))

end Sys2Proof.Machine

/-! ## References at work: Syncs, edges, steps, rates (13) -/

namespace Sys2Proof.Machine

/-! ### A Sync of the master in use (R372, R378, R381) -/

theorem netDie_port (d : DieId) (port : Nat) : netDie (d.num * 2 + port % 2) = d := by
  have h2 : port % 2 < 2 := Nat.mod_lt _ (by decide)
  cases d
  · exact if_pos (by simp [DieId.num]; omega)
  · exact if_neg (by simp only [DieId.num]; omega)

theorem port_parity (d : DieId) (port : Nat) : (d.num * 2 + port % 2) % 2 = port % 2 := by omega

theorem measureSync_foreign {s : State} {m : SyncMsg} (h : m.domain.toNat ≠ fld (s.ptpW 0) 15 8) : measureSync s m = s :=
  if_pos (by simp [h])

/-- `s` with the exchange of Sync `m` in its die's ordinary clock, whose port is SLAVE (R372, R378). -/
def syncTaken (s : State) (m : SyncMsg) : State :=
  let port := m.die.num * 2 + m.port % 2
  let t1 := m.origin + m.correction
  let t2 := stampOf (s.copyOf m.die) m.age - ((s.netLatency port).2 : Int)
  let t3 := stampOf (s.copyOf m.die) 0 + ((s.netLatency port).1 : Int)
  ((setPortState s port 9).modOc m.die fun o => { o with ofm := t2 - t1 - (s.oc m.die).mpd, exchange := some (t1, t2, t3) }).modTime
    fun t => { t with syncs := t.syncs + 1 }

section
variable {s : State} {m : SyncMsg} (hon : s.ocOn m.die = true) (hup : s.netUp (m.die.num * 2 + m.port % 2) = true)
  (hdomain : m.domain.toNat = fld (s.ptpW 0) 15 8) (hmaster : (s.oc m.die).master = m.sender)
  (hport : (if m.port % 2 = 0 then (s.oc m.die).port0 else (s.oc m.die).port1) = 8 ∨
    (if m.port % 2 = 0 then (s.oc m.die).port0 else (s.oc m.die).port1) = 9)
include hon hup hdomain hmaster hport

/-- What the servo makes of a Sync's offset leaves the ordinary clocks as the Sync left them. -/
theorem measureSync_net : (measureSync s m).time.net = (syncTaken s m).time.net := by
  unfold measureSync
  extract_lets d o port st copy t1 t2 t3 offset s0 s1 s2 glitch
  rw [if_neg (by rcases hport with h | h <;> simp [d, o, port, st, hon, hup, hdomain, hmaster, h])]
  have hs1 : s1.time.net = (syncTaken s m).time.net := followGm_net s (syncTaken s m)
  have hs2 : s2.time.net = (syncTaken s m).time.net := (keepOffset_net ..).trans hs1
  clear_value s2 s1
  split
  · exact hs1
  split
  · exact (measurement_net ..).trans hs2
  · exact hs2

end

theorem State.modTime_oc {f : Time → Time} (ha : ∀ t, (f t).ocA = t.ocA) (hb : ∀ t, (f t).ocB = t.ocB) (s : State) (d : DieId) :
    (s.modTime f).oc d = s.oc d := by
  cases d
  · exact ha _
  · exact hb _

theorem syncTaken_syncs (s : State) (m : SyncMsg) : (syncTaken s m).time.syncs = s.time.syncs + 1 := by
  unfold syncTaken
  extract_lets port t1 t2 t3
  have h := (State.modOc_sansOc (setPortState s port 9) m.die fun o =>
    { o with ofm := t2 - t1 - (s.oc m.die).mpd, exchange := some (t1, t2, t3) }).trans (setPortState_sansOc s port 9)
  exact congrArg (· + 1) (congrArg Time.syncs h :)

theorem syncTaken_oc (s : State) (m : SyncMsg) : ∃ o : OrdClock, (syncTaken s m).oc m.die = { o with
    ofm := stampOf (s.copyOf m.die) m.age - ((s.netLatency (m.die.num * 2 + m.port % 2)).2 : Int) - (m.origin + m.correction) -
      (s.oc m.die).mpd
    exchange := some (m.origin + m.correction,
      stampOf (s.copyOf m.die) m.age - ((s.netLatency (m.die.num * 2 + m.port % 2)).2 : Int),
      stampOf (s.copyOf m.die) 0 + ((s.netLatency (m.die.num * 2 + m.port % 2)).1 : Int)) } :=
  ⟨(setPortState s (m.die.num * 2 + m.port % 2) 9).oc m.die, (State.modTime_oc (f := fun t => { t with syncs := t.syncs + 1 })
    (fun _ => rfl) (fun _ => rfl) _ _).trans ((State.modOc_oc ..).trans (if_pos rfl))⟩

/-! ### Edges at REF_IN (R372, R384) -/

/-- An edge while another reference, or none, steers (R372): it becomes the last edge, and gives TIME_READ's offset where no servo runs. -/
theorem measureEdge_unused {s : State} (age : Nat) (hmode : s.refMode = 1 ∨ s.refMode = 2) (hruns : s.servoRuns = true)
    (hfree : s.time.mode ≠ .ref) : (measureEdge s age).time.lastEdge = some (stampOf s.time.counter age - (Config.pinDelay : Int)) ∧
      (s.servoOn = false → (measureEdge s age).time.offset = edgeOffset s (stampOf s.time.counter age - (Config.pinDelay : Int))) := by
  unfold measureEdge
  extract_lets t off ok gap s1
  rw [if_neg (by rcases hmode with h | h <;> simp [h, hruns])]
  rw [if_neg hfree]
  refine ⟨rfl, fun hoff => ?_⟩
  show (keepOffset s off .ref).time.offset = off
  rw [keepOffset, if_neg (by simp [hoff])]
  rfl

/-! ### RATE_MEASURED (R373, R386) -/

section
variable {s : State} (hmeasure : s.time.state = .measure) (hruns : s.servoRuns = true) (hlen : 8 ≤ s.time.intervals.length)
  (hfollow : s.time.following = none)
include hmeasure hruns hlen hfollow

theorem rateMeasured_judged : exec (.rateMeasured s.measuredCode) s = .next
    (if !s.steady then s.modTime fun t => { t with intervals := [] }
    else if canFollow s s.measuredCode then
      endFollow ((followers s).foldl (fun u c => startChange u c ((u.canvas c).lastCfg.atRate s.measuredCode) 66 0 true)
        (s.modTime fun t => { t with following := some s.measuredCode })) true
    else timeEvent (timeEvent (toRef s .holdover) 2 (putB true 0)) 7 (put s.measuredCode 5 0)) := by
  show execRateMeasured s.measuredCode s = _
  rw [execRateMeasured, if_neg (by simp [hmeasure, hruns, hfollow, hlen])]

end

/-- A rate that no canvas has to change for is in force at once (R386). -/
theorem endFollow_alone {s : State} {code : Nat} (hcode : s.time.following = some code)
    (hnone : ((List.range 4).any fun c => (s.canvas c).change.any fun ch => ch.follow) = false) :
    (endFollow s true).time.state = .acquire ∧ (endFollow s true).time.refRate = code := by
  simp only [endFollow, hcode, hnone, Bool.not_true, Bool.false_eq_true, if_false, timeEvent_time]
  exact ⟨toRef_state .., (congrArg Time.refRate (toRef_sansRef _ .acquire) :)⟩

/-! ### Counter copies (R365) -/

/-- A die's copy of the counter after a comparison: none where its clock stands still, the hub's where it is more than 0.5 ns off. -/
def copyCompared (stopped : Bool) (copy counter : BitVec 96) (diff : Int) : BitVec 96 :=
  if stopped then copy
  else if 2147483648 < (copy + BitVec.ofInt 96 diff - counter).toInt.natAbs then counter
  else copy + BitVec.ofInt 96 diff

/-- `s` with die `d`'s copy compared. -/
def compareCopy (s : State) (d : DieId) (diff : Int) : State :=
  if (s.die d).stopped then s
  else
    let v := s.copyOf d + BitVec.ofInt 96 diff
    if 2147483648 < (v - s.time.counter).toInt.natAbs then
      (s.setCopy d s.time.counter).modTime fun t => { t with copyFix := t.copyFix + 1 }
    else s.setCopy d v

theorem State.setCopy_copyOf (s : State) (d : DieId) (v : BitVec 96) : (s.setCopy d v).copyOf d = v := by cases d <;> rfl

theorem compareCopy_copyOf (s : State) (d : DieId) (diff : Int) :
    (compareCopy s d diff).copyOf d = copyCompared (s.die d).stopped (s.copyOf d) s.time.counter diff := by
  unfold compareCopy copyCompared
  by_cases hs : (s.die d).stopped = true
  · rw [if_pos hs, if_pos hs]
  rw [if_neg hs, if_neg hs]
  extract_lets v
  by_cases hd : 2147483648 < (v - s.time.counter).toInt.natAbs
  · rw [if_pos hd, if_pos hd]
    exact State.setCopy_copyOf s d s.time.counter
  · rw [if_neg hd, if_neg hd]
    exact State.setCopy_copyOf s d v

/-- The comparison of one die's copy moves neither the hub's counter, nor the dies, nor the other die's copy. -/
theorem compareCopy_rest (s : State) (d : DieId) (diff : Int) : (compareCopy s d diff).time.counter = s.time.counter ∧
    (compareCopy s d diff).dies = s.dies ∧ (compareCopy s d diff).copyOf d.other = s.copyOf d.other := by
  unfold compareCopy
  split
  · exact ⟨rfl, rfl, rfl⟩
  extract_lets v
  split <;> cases d <;> exact ⟨rfl, rfl, rfl⟩

theorem counterCopyCompare_copies (s : State) (a b : Int) : ∃ u, exec (.counterCopyCompare a b) s = .next u ∧
    u.time.copyA = copyCompared s.dies.a.stopped s.time.copyA s.time.counter a ∧
    u.time.copyB = copyCompared s.dies.b.stopped s.time.copyB s.time.counter b := by
  obtain ⟨hcounter, hdies, hcopyB⟩ := compareCopy_rest s .a a
  obtain ⟨-, -, hcopyA⟩ := compareCopy_rest (compareCopy s .a a) .b b
  have hb : (compareCopy (compareCopy s .a a) .b b).copyOf .b =
      copyCompared (compareCopy s .a a).dies.b.stopped ((compareCopy s .a a).copyOf .b) (compareCopy s .a a).time.counter b :=
    compareCopy_copyOf _ .b b
  rw [hdies, hcounter, show (compareCopy s .a a).copyOf .b = _ from hcopyB] at hb
  exact ⟨compareCopy (compareCopy s .a a) .b b, rfl, hcopyA.trans (compareCopy_copyOf s .a a), hb⟩

/-! ### Announces and the best master clock (R378, R379) -/

theorem OrdClock.foreign_setForeign (o : OrdClock) (port q : Nat) (v : Option (Announce × Nat)) :
    (o.setForeign port v).foreign q = if q % 2 = port % 2 then v else o.foreign q := by
  unfold setForeign foreign
  rcases Nat.mod_two_eq_zero_or_one port with hp | hp <;> rcases Nat.mod_two_eq_zero_or_one q with hq | hq <;> simp [hp, hq]

theorem State.modOc_netUp (s : State) (d : DieId) (f : OrdClock → OrdClock) : (s.modOc d f).time.netUp = s.time.netUp := by
  cases d <;> rfl

theorem State.modOc_wall (s : State) (d : DieId) (f : OrdClock → OrdClock) : (s.modOc d f).uptime = s.uptime := by
  cases d <;> rfl

/-- `s` with the Announce `x` just received on its port (R378). -/
def announced (s : State) (x : Announce) : State :=
  s.modOc x.die fun o => o.setForeign (x.die.num * 2 + x.port % 2) (some (x, s.uptime))

theorem announced_oc (s : State) (x : Announce) : (announced s x).oc x.die =
    (s.oc x.die).setForeign (x.die.num * 2 + x.port % 2) (some (x, s.uptime)) := (State.modOc_oc ..).trans (if_pos rfl)

theorem announced_netUp (s : State) (x : Announce) (port : Nat) : (announced s x).netUp port = s.netUp port := by
  unfold announced
  cases x.die <;> rfl

theorem announced_fresh_self {s : State} {x : Announce} (hup : s.netUp (x.die.num * 2 + x.port % 2) = true) :
    (announced s x).freshAnnounce (x.die.num * 2 + x.port % 2) = some x := by
  have huptime : (announced s x).uptime = s.uptime := State.modOc_wall ..
  rw [State.freshAnnounce, netDie_port, announced_oc, OrdClock.foreign_setForeign, if_pos rfl]
  simp [announced_netUp, hup, huptime]

theorem announced_fresh_other (s : State) (x : Announce) :
    (announced s x).freshAnnounce (x.die.num * 2 + 1 - x.port % 2) = s.freshAnnounce (x.die.num * 2 + 1 - x.port % 2) := by
  have hother : x.die.num * 2 + 1 - x.port % 2 = x.die.num * 2 + (x.port + 1) % 2 := by omega
  have huptime : (announced s x).uptime = s.uptime := State.modOc_wall ..
  rw [hother, State.freshAnnounce, State.freshAnnounce, netDie_port, announced_oc, OrdClock.foreign_setForeign,
    if_neg (by omega), announced_netUp, huptime]

/-- The better of two masters, in whichever order of their ports, is the one that ranks before the other. -/
theorem betterMaster_first {x : Announce} {y : Option Announce} (h : ∀ b, y = some b → announceRank x < announceRank b) :
    betterMaster (some x) y = some x ∧ betterMaster y (some x) = some x := by
  cases y with
  | none => exact ⟨rfl, rfl⟩
  | some b =>
    have hb := h b rfl
    exact ⟨if_neg (by omega), if_pos hb⟩

theorem announced_master {s : State} {x : Announce} (hup : s.netUp (x.die.num * 2 + x.port % 2) = true)
    (hfirst : ∀ y, s.freshAnnounce (x.die.num * 2 + 1 - x.port % 2) = some y → announceRank x < announceRank y) :
    betterMaster ((announced s x).freshAnnounce (x.die.num * 2)) ((announced s x).freshAnnounce (x.die.num * 2 + 1)) = some x := by
  have hself := announced_fresh_self hup
  have hother := announced_fresh_other s x
  obtain ⟨hleft, hright⟩ := betterMaster_first hfirst
  rcases Nat.mod_two_eq_zero_or_one x.port with hp | hp <;> rw [hp] at hself hother hleft hright
  · rw [show (announced s x).freshAnnounce (x.die.num * 2) = _ from hself,
      show (announced s x).freshAnnounce (x.die.num * 2 + 1) = _ from hother]
    exact hleft
  · rw [show (announced s x).freshAnnounce (x.die.num * 2 + 1) = _ from hself,
      show (announced s x).freshAnnounce (x.die.num * 2) = _ from hother]
    exact hright

theorem OrdClock.setPort_foreign (o : OrdClock) (port q : Nat) (v : BitVec 4) : (o.setPort port v).foreign q = o.foreign q := by
  obtain ⟨a, b, h⟩ := o.setPort_eq port v
  rw [h]
  rfl

theorem netDie_other (d : DieId) (port : Nat) : netDie (d.num * 2 + 1 - port % 2) = d := by
  have h : d.num * 2 + 1 - port % 2 = d.num * 2 + (port + 1) % 2 := by omega
  rw [h, netDie_port]

/-- The clock's selection sets its own and the other port's state, and keeps what it heard (R378). -/
theorem selectMaster_foreign (s : State) (d : DieId) (q : Nat) : ((selectMaster s d).oc d).foreign q = (s.oc d).foreign q := by
  unfold selectMaster
  dsimp only
  split
  · rfl
  · next a _ =>
    rw [State.modOc_oc, if_pos rfl]
    show (OrdClock.foreign ((setPortState (setPortState s _ _) _ _).oc d) q) = _
    rw [setPortState_oc, setPortState_oc, netDie_port, netDie_other, if_pos rfl, if_pos rfl, OrdClock.setPort_foreign,
      OrdClock.setPort_foreign]

/-- The port that hears the selected master is UNCALIBRATED or SLAVE. -/
theorem keptPort_state (same : Bool) (st : BitVec 4) :
    (if (same && (decide (st = 9) || decide (st = 8))) = true then st else 8) = 8 ∨
      (if (same && (decide (st = 9) || decide (st = 8))) = true then st else 8) = 9 := by
  revert same st
  decide

theorem selectMaster_selected {s : State} {d : DieId} {x : Announce}
    (h : betterMaster (s.freshAnnounce (d.num * 2)) (s.freshAnnounce (d.num * 2 + 1)) = some x) :
    ((selectMaster s d).oc d).gmId = x.gmId ∧ ((selectMaster s d).oc d).master = x.sender ∧
      ((selectMaster s d).oc d).prio1 = x.prio1 ∧ ((selectMaster s d).oc d).steps = x.steps ∧
      ((selectMaster s d).oc d).using1 = decide (x.port % 2 = 1) ∧
      (((selectMaster s d).oc d).portState x.port = 8 ∨ ((selectMaster s d).oc d).portState x.port = 9) := by
  unfold selectMaster
  dsimp only
  rw [h]
  dsimp only
  rw [State.modOc_oc, if_pos rfl]
  refine ⟨rfl, rfl, rfl, rfl, rfl, ?_⟩
  show OrdClock.portState ((setPortState (setPortState s _ _) _ _).oc d) x.port = 8 ∨
    OrdClock.portState ((setPortState (setPortState s _ _) _ _).oc d) x.port = 9
  rw [setPortState_oc, setPortState_oc, netDie_port, netDie_other, if_pos rfl, if_pos rfl, OrdClock.setPort_portState,
    if_neg (by omega), OrdClock.setPort_portState, if_pos (by omega)]
  exact keptPort_state _ _

section
variable {s : State} {x : Announce} (hon : s.ocOn x.die = true) (hup : s.netUp (x.die.num * 2 + x.port % 2) = true)
  (hdomain : x.domain.toNat = fld (s.ptpW 0) 15 8) (hkeeps : s.keepsAnnounce x = false)
include hon hup hdomain hkeeps

/-- An Announce that its port keeps gives the clock what selectMaster makes of it, and the TLV its word (R378, R382). -/
theorem ptpAnnounceReceived_kept : ∃ u, exec (.ptpAnnounceReceived x) s = .next u ∧
    (∀ d, u.oc d = (selectMaster (announced s x) x.die).oc d) ∧ u.time.smTlv = x.smTlv.getD s.time.smTlv := by
  have hguard : ¬ (!s.ocOn x.die || !s.netUp (x.die.num * 2 + x.port % 2) || decide (x.domain.toNat ≠ fld (s.ptpW 0) 15 8)) = true := by
    simp [hon, hup, hdomain]
  have hexec : exec (.ptpAnnounceReceived x) s = .next (followGm s (match x.smTlv with
      | some w => (selectMaster (announced s x) x.die).modTime fun t => { t with smTlv := w }
      | none => selectMaster (announced s x) x.die)) := by
    show execPtpAnnounceReceived x s = _
    rw [execPtpAnnounceReceived, if_neg hguard, hkeeps]
    rfl
  refine ⟨_, hexec, fun d => ?_, ?_⟩
  · rw [State.oc_of_net (followGm_net ..)]
    cases x.smTlv with
    | none => rfl
    | some w => exact State.modTime_oc (f := fun t => { t with smTlv := w }) (fun _ => rfl) (fun _ => rfl) _ d
  · rw [Time.smTlv_of_net (followGm_net ..)]
    cases x.smTlv with
    | none =>
      have h := (selectMaster_sansOc (announced s x) x.die).trans (State.modOc_sansOc ..)
      exact (congrArg Time.smTlv h :)
    | some w => rfl

end

/-! ### Links (R389, R533) -/

/-- `s` with the link of a network port up, its event raised and its calibrations due. -/
def linked (s : State) (port : Nat) : State :=
  let due := fun (c : CalSt) => { c with due := true, state := if c.state = 0 then 0 else 3 }
  ((raise (s.modTime fun t => { t with netUp := Tbl.set false t.netUp port true }) (netSource port) 1 0).each (List.range 4) fun s l =>
    s.modCal (.netLane (netDie port) (port % 2 * 4 + l)) due).modCal (.ptp (netDie port) (port % 2)) due

theorem linked_netUp (s : State) (port : Nat) : (linked s port).time.netUp = Tbl.set false s.time.netUp port true := by
  unfold linked
  extract_lets due
  show (State.each _ _ _).time.netUp = _
  rw [State.each_keeps (fun u => u.time) _ _ fun s l => State.modCal_time .., raise_time]
  rfl

theorem linked_cal_due (s : State) (port : Nat) : ((linked s port).cal (.ptp (netDie port) (port % 2))).due = true := by
  unfold linked
  extract_lets due
  rw [State.modCal_cal, if_pos rfl]

theorem restartPort_cal (s : State) (port : Nat) (i : CalItem) : (restartPort s port).cal i = s.cal i :=
  congrArg (fun v : Service => assocGet ({} : CalSt) v.cal i) ((restartPort_does s port).same.service (by decide))

theorem networkLinkUp_spec {s : State} {port : Nat} (hup : s.up (netDie port) = true) (hdown : Tbl.get false s.time.netUp port = false) :
    ∃ u, exec (.networkLinkUp port) s = .next u ∧ Tbl.get false u.time.netUp port = true ∧
      (u.cal (.ptp (netDie port) (port % 2))).due = true := by
  have hguard : ¬ (!s.up (netDie port) || Tbl.get false s.time.netUp port) = true := by simp [hup, hdown]
  have hexec : exec (.networkLinkUp port) s = .next (restartPort (linked s port) port) := congrArg Host.Outcome.next (if_neg hguard)
  refine ⟨_, hexec, ?_, (congrArg CalSt.due (restartPort_cal ..)).trans (linked_cal_due ..)⟩
  have hnet : (restartPort (linked s port) port).time.netUp = (linked s port).time.netUp :=
    (congrArg Time.netUp (restartPort_sansOc (linked s port) port) :)
  rw [hnet, linked_netUp, Tbl.get_set_self]

theorem networkLinkDown_spec {s : State} {port : Nat} (hup : s.up (netDie port) = true) (hlinked : Tbl.get false s.time.netUp port = true) :
    ∃ u, exec (.networkLinkDown port) s = .next u ∧ Tbl.get false u.time.netUp port = false ∧ (u.oc (netDie port)).portState port = 0 := by
  have hguard : ¬ (!s.up (netDie port) || !Tbl.get false s.time.netUp port) = true := by simp [hup, hlinked]
  have hexec : exec (.networkLinkDown port) s = .next (followGm s (setPortState
      (raise (s.modTime fun t => { t with netUp := Tbl.set false t.netUp port false }) (netSource port) 2 0) port 0)) :=
    congrArg Host.Outcome.next (if_neg hguard)
  refine ⟨_, hexec, ?_, ?_⟩
  · rw [Time.netUp_of_net (followGm_net ..), show (setPortState _ port 0).time.netUp = _ from
      (congrArg Time.netUp (setPortState_sansOc _ port 0) :), raise_time]
    exact Tbl.get_set_self false s.time.netUp port false
  · rw [State.oc_of_net (followGm_net ..), setPortState_oc, if_pos rfl, OrdClock.setPort_portState, if_pos rfl]

/-! ### Messages through a transparent clock (R380) -/

section
variable {s : State} {d : DieId} (hup : s.up d = true) (htc : bit (s.ptpW 0) (18 + d.num) = true)
  (h0 : s.netUp (d.num * 2) = true) (h1 : s.netUp (d.num * 2 + 1) = true)
include hup htc h0 h1

theorem ptpMessageForward_passes (m : PtpMsg) (two : Bool) (residence : Nat) : exec (.ptpMessageForward d m two residence) s = .next
    (if (m.kind = 1 || (m.kind = 0 && !two)) = true then passPtp s d m (some residence)
    else if m.kind = 0 then (passPtp s d m none).modTime fun t =>
      { t with tcSyncs := (d, m.source, m.seq, residence) :: t.tcSyncs.filter fun x => x.1 ≠ d || x.2.1 ≠ m.source }
    else if m.kind = 2 then
      (passPtp s d m ((s.time.tcSyncs.find? (syncPassed d m)).map fun x => x.2.2.2)).modTime fun t =>
        { t with tcSyncs := t.tcSyncs.filter fun x => !syncPassed d m x }
    else passPtp s d m none) := by
  have hguard : ¬ (!s.up d || !bit (s.ptpW 0) (18 + d.num) || !s.netUp (d.num * 2) || !s.netUp (d.num * 2 + 1)) = true := by
    simp [hup, htc, h0, h1]
  exact congrArg Host.Outcome.next (if_neg hguard)

/-- A Follow_Up takes the residence of the two-step Sync that it follows, which is then forgotten. -/
theorem ptpMessageForward_followUp {m : PtpMsg} {k : DieId × Word × BitVec 16 × Nat} (two : Bool) (residence : Nat) (hkind : m.kind = 2)
    (hsync : s.time.tcSyncs.find? (syncPassed d m) = some k) : ∃ u, exec (.ptpMessageForward d m two residence) s = .next u ∧
      u.out = .ptp (d.num * 2 + 1 - m.port % 2) { m with correction := m.correction + k.2.2.2 } true :: s.out ∧
      ∀ y ∈ u.time.tcSyncs, syncPassed d m y = false := by
  refine ⟨_, ptpMessageForward_passes hup htc h0 h1 m two residence, ?_⟩
  rw [if_neg (by simp [hkind]), if_neg (by simp [hkind]), if_pos hkind, hsync]
  refine ⟨rfl, fun y hy => ?_⟩
  have hpassed := (List.mem_filter.1 hy).2
  simpa using hpassed

end

/-- Settles O44: each reference measurement, edge, step and rate, each message and each link change, by the lemma about it. -/
theorem referencesAndNetworkPorts : Obligations.ReferencesAndNetworkPorts := by
  refine ⟨?_, ?_⟩
  · intro s m o port age code t t1 t2 delta ts a b
    refine ⟨?_, ?_, ?_, ?_, ?_, ?_, ?_, ?_, ?_⟩
    · rintro rfl rfl rfl rfl
      refine ⟨_, rfl, fun hon hup hdomain hmaster hport => ?_, measureSync_foreign⟩
      have hnet := measureSync_net hon hup hdomain hmaster hport
      obtain ⟨o, ho⟩ := syncTaken_oc s m
      rw [State.oc_of_net hnet, ho]
      exact ⟨(Time.syncs_of_net hnet).trans (syncTaken_syncs s m), rfl, rfl⟩
    · rintro rfl
      exact ⟨_, rfl, fun hmode hruns hfree => measureEdge_unused age hmode hruns hfree⟩
    · exact ⟨_, rfl, fun hgate => if_pos (by simp [hgate])⟩
    · intro hon hruns hstate
      refine ⟨_, congrArg Host.Outcome.next (if_pos (by simp [hon, hruns, hstate])), ?_⟩
      rw [holdover, timeEvent_time]
      exact ⟨toRef_state .., (congrArg Time.holdInc (toRef_sansRef s .holdover) :), rfl⟩
    · intro hslewing hruns hdone
      exact ⟨_, congrArg Host.Outcome.next (if_pos (by simp [hslewing, hruns, hdone])), rfl, rfl, rfl⟩
    · intro hruns
      exact congrArg Host.Outcome.next (if_neg (by simp [hruns]))
    · intro hstep
      have hexec : exec .timeStep s = .next (if s.stepDelayed then scheduleStep s delta else stepNow s delta) := by
        show execTimeStep s = _
        rw [execTimeStep, hstep]
      refine ⟨_, hexec, fun hnow => ?_, fun hlater hlow => ?_⟩
      · rw [hnow, if_neg (by decide), stepNow_time]
        exact ⟨rfl, rfl, rfl⟩
      · rw [hlater, if_pos rfl]
        exact (scheduleStep_spec s delta).2.2 hlow
    · rintro hmeasure hruns hlen hfollow rfl
      refine ⟨_, rateMeasured_judged hmeasure hruns hlen hfollow, fun hsteady => ?_, fun hsteady hcan => ?_, fun hsteady hcan hnone hchange => ?_⟩
      · rw [hsteady]
        exact ⟨hmeasure, rfl⟩
      · rw [hsteady, hcan, if_neg (by decide), if_neg (by decide), timeEvent_time, timeEvent_time]
        exact ⟨toRef_state .., (congrArg Time.inc (toRef_sansRef s .holdover) :)⟩
      · rw [hsteady, hcan, if_neg (by decide), if_pos rfl, hnone]
        refine endFollow_alone rfl (List.any_eq_false.2 fun c hc => ?_)
        have hstill := hchange c
        show ¬ ((s.canvas c).change.any fun ch => ch.follow) = true
        cases hch : (s.canvas c).change with
        | none => simp
        | some ch => simp [hchange c ch (List.mem_range.1 hc) hch]
    · exact counterCopyCompare_copies s a b
  · intro s d x m two resp port q residence t1 t2 t3 k
    refine ⟨?_, ?_, ?_, ?_, ?_, ?_, ?_, ?_, ?_⟩
    · rintro hup htc h0 h1 rfl
      have hpasses := ptpMessageForward_passes hup htc h0 h1 m two residence
      refine ⟨fun hkind => ?_, fun hkind htwo => ?_, fun hkind hsync => ?_, fun hkind => ?_⟩
      · rw [hpasses, if_pos (by simpa using hkind)]
        rfl
      · refine ⟨_, hpasses, ?_⟩
        rw [if_neg (by simp [hkind, htwo]), if_pos hkind]
        exact ⟨rfl, List.mem_cons_self⟩
      · exact ptpMessageForward_followUp hup htc h0 h1 two residence hkind hsync
      · have h0 : m.kind ≠ 0 := by omega
        have h1 : m.kind ≠ 1 := by omega
        rw [hpasses, if_neg (by simp [h0, h1]), if_neg h0, if_neg (by omega)]
        rfl
    · intro hon hup hdomain hkeeps
      obtain ⟨u, hexec, hoc, htlv⟩ := ptpAnnounceReceived_kept hon hup hdomain hkeeps
      refine ⟨u, hexec, ?_, htlv, fun hfirst => ?_⟩
      · rw [hoc, selectMaster_foreign, announced_oc, OrdClock.foreign_setForeign, if_pos (by omega)]
      · rw [hoc]
        exact selectMaster_selected (announced_master hup hfirst)
    · exact fun hdomain => congrArg Host.Outcome.next (if_pos (by simp [hdomain]))
    · intro hon hexchange hdomain hunicast
      show execPtpDelayResponse d resp s = _
      rw [execPtpDelayResponse, hexchange]
      refine congrArg Host.Outcome.next (if_neg ?_)
      cases hu : resp.unicast
      · simp [hon, hdomain]
      · simp [hon, hdomain, hunicast hu]
    · intro hexchange
      show execPtpDelayResponse d resp s = _
      rw [execPtpDelayResponse, hexchange]
    · exact fun hgranted => congrArg Host.Outcome.next (if_pos hgranted)
    · exact fun hgranted => congrArg Host.Outcome.next (if_neg (by simp [hgranted]))
    · exact networkLinkUp_spec
    · intro hup hlinked
      obtain ⟨u, hexec, hdown, hstate⟩ := networkLinkDown_spec hup hlinked
      exact ⟨u, hexec, hdown, fun _ => hstate⟩

end Sys2Proof.Machine

/-! ## Power modes, clocks and gates (17) -/

namespace Sys2Proof.Machine

/-! ### SYS_POWER_READ (R491) -/

/-- Settles O30: the command is neither the principal's nor the service port's alone, and a reset state holds an initial budget. -/
theorem powerRead : Obligations.PowerRead := by
  intro r s s1 b
  refine ⟨by simp [entitled, opSysPowerRead], ?_, rfl, rfl, rfl, rfl⟩
  rintro hserved rfl
  exact congrArg Host.Outcome.next (jcs_ok hserved rfl (Nat.le_of_ble_eq_true rfl))

/-! ### Memory modes and gates (R450, R468) -/

/-- A memory's mode is set for its own die alone. -/
theorem State.setMem_memMode (s : State) (d e : Die3) (m : MemMode) : (s.setMem d m).memMode e = if e = d then m else s.memMode e := by
  cases d <;> cases e <;> cases m <;> rfl

/-- What a change of the memories' modes leaves of the clock part. -/
def Clocks.sansMem (c : Clocks) : Clocks := { c with memA := .active, memB := .active, memH := .active, memExits := [], chans := [] }

theorem State.setMem_sansMem (s : State) (d : Die3) (m : MemMode) : (s.setMem d m).clocks.sansMem = s.clocks.sansMem := by
  cases d <;> cases m <;> rfl

theorem setMemories_memH (s : State) (m : MemMode) : (setMemories s m).clocks.memH = m := State.setMem_memMode _ .hub .hub m

theorem setMemories_sansMem (s : State) (m : MemMode) : (setMemories s m).clocks.sansMem = s.clocks.sansMem := by
  rw [setMemories, State.setMem_sansMem]
  exact State.each_keeps (fun u => u.clocks.sansMem) _ _ fun u d => State.setMem_sansMem u d.die3 m

/-- What a change of the gates leaves of the clock part. -/
def Clocks.sansGates (c : Clocks) : Clocks := { c with gates := [] }

theorem setGates_sansGates (s : State) (m : PwrMode) : (setGates s m).clocks.sansGates = s.clocks.sansGates :=
  State.each_keeps (fun u => u.clocks.sansGates) _ _ fun _ _ => rfl

theorem cluster_mem_allGates (d : DieId) {c : Nat} (hc : c < 16) : GateId.cluster d c ∈ allGates := by
  have hcluster : GateId.cluster d c ∈ (List.range 16).map fun c => GateId.cluster d c := List.mem_map.2 ⟨c, List.mem_range.2 hc, rfl⟩
  cases d <;> simp [allGates, hc]

/-- A gate with the enable that it has in mode `m`. -/
def enableGate (m : PwrMode) (s : State) (g : GateId) : State :=
  s.modGate g fun x => { x with isOpen := gateRuns s g m, pending := false }

/-- A cluster's gate, once it has the enable of a mode, keeps it while other gates take theirs. -/
theorem enableGate_cluster {s : State} {m : PwrMode} {d : DieId} {c : Nat} (g : GateId)
    (h : GateId.cluster d c ≠ g → (s.gate (.cluster d c)).isOpen = decide (m = .run)) :
    ((enableGate m s g).gate (.cluster d c)).isOpen = decide (m = .run) := by
  rw [enableGate, State.modGate_gate]
  split
  · next hg =>
    rw [← hg]
    rfl
  · next hg => exact h hg

theorem enableGates_cluster {m : PwrMode} {d : DieId} {c : Nat} (l : List GateId) (s : State) (hmem : GateId.cluster d c ∈ l) :
    ((s.each l (enableGate m)).gate (.cluster d c)).isOpen = decide (m = .run) := by
  induction l generalizing s with
  | nil => cases hmem
  | cons g l ih =>
    by_cases hin : GateId.cluster d c ∈ l
    · exact ih (enableGate m s g) hin
    · have hg : GateId.cluster d c = g := (List.mem_cons.1 hmem).resolve_right hin
      exact State.each_preserves (fun u => (u.gate (.cluster d c)).isOpen = decide (m = .run)) l (enableGate m)
        (fun u k hu => enableGate_cluster k fun _ => hu) (enableGate_cluster g fun hne => absurd hg hne)

/-- The gate of a cluster takes the mode's enable: only Run opens it. -/
theorem setGates_cluster (s : State) (m : PwrMode) (d : DieId) {c : Nat} (hc : c < 16) :
    ((setGates s m).gate (.cluster d c)).isOpen = decide (m = .run) := enableGates_cluster allGates s (cluster_mem_allGates d hc)

/-! ### A power mode is reached (R471, R472) -/

/-- The mode of the memories in a power mode (R450, R471). -/
def PwrMode.memory (m : PwrMode) : MemMode := match m with
  | .run => .active | .sleep => .powerDown | .deep => .partialArray

/-- A mode's clock part is what its gates and its memories make of the mode in force. -/
theorem reachMode_clocks (s : State) (m : PwrMode) : (reachMode s m).clocks.memH = m.memory ∧ (reachMode s m).clocks.sansMem =
    (setGates (s.modClocks fun c => { c with power := m, change := none }) m).clocks.sansMem := by
  unfold reachMode
  extract_lets old s1 s2 s2' s3
  cases m with
  | sleep =>
    have hclocks : (setTransmitters (setMemories s1 .powerDown) true).clocks = _ := (setTransmitters_does _ true).same.clocks (by decide)
    dsimp only
    rw [hclocks]
    exact ⟨setMemories_memH .., setMemories_sansMem ..⟩
  | deep =>
    have hclocks : (setTransmitters (setMemories s2 .partialArray) false).clocks = _ :=
      (setTransmitters_does _ false).same.clocks (by decide)
    have hslots : s2.clocks = s1.clocks := State.each_keeps (fun u => u.clocks) _ _ fun u k => (stopSlot_does u k).same.clocks (by decide)
    dsimp only
    rw [State.modFrames_clocks, hclocks]
    exact ⟨setMemories_memH .., (setMemories_sansMem ..).trans (congrArg Clocks.sansMem hslots)⟩
  | run =>
    have hclocks : s2'.clocks = (setMemories s1 .active).clocks := (setTransmitters_does _ false).same.clocks (by decide)
    have hcanvases : s3.clocks = s2'.clocks :=
      State.each_keeps (fun u => u.clocks) _ _ fun u c => (markCanvas_does u c _).same.clocks (by decide)
    have hend : ∀ u : State, u.clocks = s3.clocks → u.clocks.memH = .active ∧ u.clocks.sansMem = s1.clocks.sansMem := by
      intro u hu
      rw [hu, hcanvases, hclocks]
      exact ⟨setMemories_memH .., setMemories_sansMem ..⟩
    dsimp only
    split
    · exact hend _ (State.each_keeps (fun u => u.clocks) _ _ fun _ _ => rfl)
    · exact hend _ rfl

theorem State.gate_of_clocks {s t : State} (h : t.clocks.sansMem = s.clocks.sansMem) (g : GateId) : t.gate g = s.gate g :=
  (congrArg (fun c : Clocks => assocGet ({} : Gate) c.gates g) h :)

theorem sysPowerComplete_spec {s : State} {p : PwrChange} (hchange : s.clocks.change = some p)
    (hdone : s.clocks.power = .deep ∨ powerFramesDone s p = true) : ∃ u, exec .sysPowerComplete s = .next u ∧
      u.clocks = (reachMode s p.mode).clocks ∧ u.frames = (reachMode s p.mode).frames := by
  have hguard : ¬ (!(decide (s.clocks.power = .deep)) && !powerFramesDone s p) = true := by
    rcases hdone with h | h <;> simp [h]
  have hexec : exec .sysPowerComplete s = .next (finishLong ((reachMode s p.mode).each
      ([DieId.a, DieId.b].filter (reachMode s p.mode).up) fun s d => raise s (statusSource d) 7 (put (pwrCode p.mode) 2 0)) p.src p.id 0) := by
    show execSysPowerComplete s = _
    rw [execSysPowerComplete, hchange]
    exact congrArg Host.Outcome.next (if_neg hguard)
  refine ⟨_, hexec, ?_, ?_⟩
  · rw [(finishLong_does _ p.src p.id 0 false).same.clocks (by decide)]
    exact State.each_keeps (fun u => u.clocks) _ _ fun u d => (raise_does u _ 7 _ 0 none).same.clocks (by decide)
  · rw [(finishLong_does _ p.src p.id 0 false).same.frames (by decide)]
    exact State.each_keeps (fun u => u.frames) _ _ fun u d => (raise_does u _ 7 _ 0 none).same.frames (by decide)

/-! ### SYS_POWER (R472, R473, R518) -/

/-- The mode that a request names. -/
def askedMode (r : Req) : PwrMode := if fld (r.word 0) 1 0 = 0 then .run else if fld (r.word 0) 1 0 = 1 then .sleep else .deep

section
variable {s : State} {r : Req}

theorem sysPowerBody_reserved (h : fld (r.word 0) 1 0 = 3) : sysPowerBody s r = .badParam s := if_pos h

theorem sysPowerBody_changing (h : fld (r.word 0) 1 0 ≠ 3) (hchange : s.clocks.change.isSome = true) : sysPowerBody s r = .busy s :=
  (if_neg h).trans (if_pos hchange)

section
variable (h : fld (r.word 0) 1 0 ≠ 3) (hstill : s.clocks.change = none)
include h hstill

theorem sysPowerBody_still : sysPowerBody s r = if askedMode r = s.clocks.power then .ok s
    else if s.clocks.power = .deep && askedMode r = .sleep then .badParam s
    else if s.mcMoves || (askedMode r ≠ .run && (s.dies.twin.state = .copy || s.dies.twin.state = .verify ||
        (List.range 4).any fun c => (s.canvas c).change.isSome)) then .busy s
    else .accepted (if s.clocks.power = .sleep then setTransmitters (setGates (s.modClocks fun c =>
      { c with change := some ⟨r.who, s.nextLong r.who, askedMode r, s.reqTime⟩ }) .run) false else s.modClocks fun c =>
      { c with change := some ⟨r.who, s.nextLong r.who, askedMode r, s.reqTime⟩ }) :=
  (if_neg h).trans (if_neg (by simp [hstill]))

theorem sysPowerBody_inForce (hmode : askedMode r = s.clocks.power) : sysPowerBody s r = .ok s :=
  (sysPowerBody_still h hstill).trans (if_pos hmode)

theorem sysPowerBody_deeper (hdeep : s.clocks.power = .deep) (hmode : askedMode r = .sleep) : sysPowerBody s r = .badParam s := by
  rw [sysPowerBody_still h hstill, if_neg (by simp [hdeep, hmode]), if_pos (by simp [hdeep, hmode])]

section
variable (hother : askedMode r ≠ s.clocks.power) (hallowed : ¬(s.clocks.power = .deep ∧ askedMode r = .sleep))
include hother hallowed

theorem sysPowerBody_microcode (hmoves : s.mcMoves = true) : sysPowerBody s r = .busy s := by
  rw [sysPowerBody_still h hstill, if_neg hother, if_neg (by simpa using hallowed), if_pos (by simp [hmoves])]

theorem sysPowerBody_accepts (hmoves : s.mcMoves = false) (hidle : askedMode r = .run ∨
    (s.dies.twin.state ≠ .copy ∧ s.dies.twin.state ≠ .verify ∧ ∀ c, c < 4 → (s.canvas c).change = none)) :
    sysPowerBody s r = .accepted (if s.clocks.power = .sleep then setTransmitters (setGates (s.modClocks fun c =>
      { c with change := some ⟨r.who, s.nextLong r.who, askedMode r, s.reqTime⟩ }) .run) false else s.modClocks fun c =>
      { c with change := some ⟨r.who, s.nextLong r.who, askedMode r, s.reqTime⟩ }) := by
  rw [sysPowerBody_still h hstill, if_neg hother, if_neg (by simpa using hallowed), if_neg ?_]
  rcases hidle with hrun | ⟨hcopy, hverify, hchange⟩
  · simp [hmoves, hrun]
  · have hany : ((List.range 4).any fun c => (s.canvas c).change.isSome) = false :=
      List.any_eq_false.2 fun c hc => by simp [hchange c (List.mem_range.1 hc)]
    simp [hmoves, hcopy, hverify, hany]

end

end

end

/-- Settles O29: SYS_POWER's answer in each case is its body's, and the mode's end is what `reachMode` gives. -/
theorem powerModes : Obligations.PowerModes := by
  intro r s s1 s2 m p
  refine ⟨fun hserved hcode hstill hm => ⟨fun hmode => ?_, fun hother hallowed hmoves => ?_, fun hother hallowed hmoves hidle hs2 => ?_,
    fun hdeep hmode => ?_⟩, fun hserved hcode => ?_, fun hserved hcode hchange => ?_, fun hchange hdone => ?_⟩
  · obtain rfl : m = askedMode r := hm
    exact congrArg Host.Outcome.next (jcs_ok hserved (sysPowerBody_inForce hcode hstill hmode) (Nat.zero_le 511))
  · obtain rfl : m = askedMode r := hm
    exact congrArg Host.Outcome.next (jcs_refused hserved (sysPowerBody_microcode hcode hstill hother hallowed hmoves) (by decide))
  · obtain rfl : m = askedMode r := hm
    rw [hs2]
    exact congrArg Host.Outcome.next (jcs_accepted hserved (sysPowerBody_accepts hcode hstill hother hallowed hmoves hidle))
  · obtain rfl : m = askedMode r := hm
    exact congrArg Host.Outcome.next (jcs_refused hserved (sysPowerBody_deeper hcode hstill hdeep hmode) (by decide))
  · exact congrArg Host.Outcome.next (jcs_refused hserved (sysPowerBody_reserved hcode) (by decide))
  · exact congrArg Host.Outcome.next (jcs_refused hserved (sysPowerBody_changing hcode hchange) (by decide))
  · obtain ⟨u, hexec, hclocks, hframes⟩ := sysPowerComplete_spec hchange hdone
    obtain ⟨hmem, hsans⟩ := reachMode_clocks s p.mode
    have hgates := setGates_sansGates (s.modClocks fun c => { c with power := p.mode, change := none }) p.mode
    refine ⟨u, hexec, ?_, ?_, ?_, fun d c hc => ?_, fun hdeep => ?_⟩
    · rw [hclocks]
      exact (congrArg Clocks.power hsans).trans (congrArg Clocks.power hgates :)
    · rw [hclocks]
      exact (congrArg Clocks.change hsans).trans (congrArg Clocks.change hgates :)
    · rw [hclocks, hmem]
      rfl
    · rw [← hclocks] at hsans
      rw [State.gate_of_clocks hsans, setGates_cluster _ _ _ hc]
    · rw [hframes, hdeep]
      exact ⟨rfl, rfl⟩

end Sys2Proof.Machine

/-! ## References, root PLLs and clock gates (17) -/

namespace Sys2Proof.Machine

/-! ### What holds and fences leave of the references (R259, R261, R457) -/

/-- REFCLK's state and the root PLLs' locks. -/
def Clocks.refs (c : Clocks) : Bool × Bool × Bool × Bool × Bool := (c.refOk, c.refLost, c.pllA, c.pllB, c.pllH)

section
variable (s : State) (d : DieId)

@[simp] theorem State.modOp_refs (f : OpState → OpState) : (s.modOp d f).clocks.refs = s.clocks.refs := by cases d <;> rfl

@[simp] theorem setMemory_refs (m : MemMode) : (setMemory s d m).clocks.refs = s.clocks.refs :=
  (congrArg Clocks.refs (State.setMem_sansMem s d.die3 m) :)

@[simp] theorem holdDie_refs : (holdDie s d).clocks.refs = s.clocks.refs := by
  unfold holdDie
  refine (State.each_keeps (fun u => u.clocks.refs) _ _ fun u k =>
    congrArg Clocks.refs ((judgeIfIn_does u k).same.clocks (by decide))).trans ?_
  rw [(followGm_does ..).same.clocks (by decide), (abandonVotes_does _).same.clocks (by decide),
    (closeWindows_does ..).same.clocks (by decide), State.modTime_clocks, (State.modTwin_does ..).same.clocks (by decide), State.modOp_refs,
    setMemory_refs, (State.modResults_does ..).same.clocks (by decide),
    State.each_keeps (fun u => u.clocks) _ _ fun u k => (State.modPort_does ..).same.clocks (by decide),
    (State.modDie_does ..).same.clocks (by decide)]

@[simp] theorem raise_refs (src code : Nat) (data : Word) (frame : Nat) (t : Option Nat) :
    (raise s src code data frame t).clocks.refs = s.clocks.refs :=
  congrArg Clocks.refs ((raise_does s src code data frame t).same.clocks (by decide))

@[simp] theorem roleChange_refs (st : ArbState) : (roleChange s st).clocks.refs = s.clocks.refs :=
  congrArg Clocks.refs ((roleChange_does s st).same.clocks (by decide))

@[simp] theorem goOut_refs : (goOut s d).clocks.refs = s.clocks.refs := by simp [goOut]

@[simp] theorem setCause_refs (cause : Nat) : (setCause s d cause).clocks.refs = s.clocks.refs :=
  congrArg Clocks.refs ((setCause_does s d cause).same.clocks (by decide))

@[simp] theorem State.modTwin_refs (f : Twin → Twin) : (s.modTwin f).clocks.refs = s.clocks.refs := rfl

@[simp] theorem setMcStep_refs (n : Nat) : (setMcStep s n).clocks.refs = s.clocks.refs :=
  congrArg Clocks.refs ((setMcStep_does s n).same.clocks (by decide))

@[simp] theorem sendCommand_refs (cmd : Nat) : (sendCommand s d cmd).clocks.refs = s.clocks.refs := rfl

@[simp] theorem succeed_refs : (succeed s d).clocks.refs = s.clocks.refs :=
  congrArg Clocks.refs ((succeed_does s d).same.clocks (by decide))

@[simp] theorem undoPromotion_refs (taken : Bool) : (undoPromotion s taken).clocks.refs = s.clocks.refs :=
  congrArg Clocks.refs ((undoPromotion_does s taken).same.clocks (by decide))

@[simp] theorem fenceDie_refs (cause : Nat) : (fenceDie s d cause).clocks.refs = s.clocks.refs := by
  unfold fenceDie
  dsimp only
  repeat' split
  all_goals simp

@[simp] theorem fenceBoth_refs (cause : Nat) : (fenceBoth s cause).clocks.refs = s.clocks.refs := by
  unfold fenceBoth
  split
  · simp
  · extract_lets one s1
    have hone : ∀ (u : State) (e : DieId), (one u e).clocks.refs = u.clocks.refs := by
      intro u e
      dsimp only [one]
      split <;> simp
    have hs1 : s1.clocks.refs = s.clocks.refs := (hone _ .b).trans (hone s .a)
    clear_value s1
    split <;> simp [hs1]

@[simp] theorem declareFatal_refs (cause : Nat) : (declareFatal s d cause).clocks.refs = s.clocks.refs :=
  congrArg Clocks.refs ((declareFatal_does s d cause).same.clocks (by decide))

end

/-! ### REFCLK and the root PLLs (R456, R457, R460, R461) -/

theorem dropLink_link_state (s : State) (l k : Nat) :
    ((dropLink s l).link k).state = if k = l then .down else (s.link k).state := by
  rw [dropLink, State.modLink_link, resetLinkFunctions_link, resetLinkFunctions_link]
  split <;> rfl

theorem State.each_cons {α : Type} (s : State) (x : α) (l : List α) (f : State → α → State) : s.each (x :: l) f = (f s x).each l f := rfl

/-- After all four links have dropped each of them is down (R457). -/
theorem dropLinks_down (s : State) (ls : List Nat) {k : Nat} (hk : k ∈ ls) : ((s.each ls dropLink).link k).state = .down := by
  induction ls generalizing s with
  | nil => cases hk
  | cons l ls ih =>
    rw [State.each_cons]
    by_cases hin : k ∈ ls
    · exact ih (dropLink s l) hin
    · have hl : k = l := (List.mem_cons.1 hk).resolve_right hin
      have hnow : ((dropLink s l).link k).state = .down := by rw [dropLink_link_state, if_pos hl]
      refine State.each_preserves (fun u => (u.link k).state = .down) ls dropLink (fun u j hu => ?_) hnow
      rw [dropLink_link_state]
      split
      · rfl
      · exact hu

theorem refclkLoss_spec {s : State} (hok : s.clocks.refOk = true) : ∃ u, exec .refclkLoss s = .next u ∧
    u.clocks.refs = (false, true, false, false, false) ∧ ∀ l, l < 4 → (u.link l).state = .down := by
  have hexec : exec .refclkLoss s = .next ((fenceBoth (declareFatal (declareFatal (s.modClocks fun c =>
      { c with refOk := false, refLost := true, pllA := false, pllB := false, pllH := false }) .a 1) .b 1) 2).each
      (List.range 4) dropLink) := congrArg Host.Outcome.next (if_neg (by simp [hok]))
  refine ⟨_, hexec, ?_, fun l hl => dropLinks_down _ _ (List.mem_range.2 hl)⟩
  rw [State.each_keeps (fun u => u.clocks) _ _ fun u l => (dropLink_does u l).same.clocks (by decide), fenceBoth_refs, declareFatal_refs,
    declareFatal_refs]
  rfl

theorem State.pll_of_sansMem {s t : State} (h : t.clocks.sansMem = s.clocks.sansMem) (d : DieId) : t.pll d = s.pll d := by
  cases d
  · exact (congrArg Clocks.pllA h :)
  · exact (congrArg Clocks.pllB h :)

/-- `s` with die `d`'s root PLL lost, before the die declares itself fatal (R460, R473). -/
def pllLost (s : State) (d : DieId) : State :=
  (setMemory (raise (setPll s d false) (statusSource d) 1 0) d .selfRefresh).modOp d fun x => { x with change := none }

theorem pllLost_clocks (s : State) (d : DieId) : (pllLost s d).pll d = false ∧ (pllLost s d).memMode d.die3 = .selfRefresh ∧
    ((pllLost s d).opState d).change = none := by
  have hmem := State.setMem_memMode (raise (setPll s d false) (statusSource d) 1 0) d.die3 d.die3 .selfRefresh
  have hpll := State.pll_of_sansMem (State.setMem_sansMem (raise (setPll s d false) (statusSource d) 1 0) d.die3 .selfRefresh) d
  have hclocks := (raise_does (setPll s d false) (statusSource d) 1 0 0 none).same.clocks (by decide)
  rw [if_pos rfl] at hmem
  unfold pllLost setMemory
  generalize hu : (raise (setPll s d false) (statusSource d) 1 0).setMem d.die3 .selfRefresh = u at hmem hpll
  have hraise : (raise (setPll s d false) (statusSource d) 1 0).pll d = false := by
    cases d
    · exact (congrArg Clocks.pllA hclocks :)
    · exact (congrArg Clocks.pllB hclocks :)
  cases d
  · exact ⟨hpll.trans hraise, hmem, rfl⟩
  · exact ⟨hpll.trans hraise, hmem, rfl⟩

theorem pllLost_die (s : State) (d : DieId) : (pllLost s d).die d = s.die d := by
  rw [pllLost, State.modOp_die, setMemory_die, raise_die]
  cases d <;> rfl

theorem rootPllLockLoss_spec {s : State} {d : DieId} (hpll : s.pll d = true) (hrun : (s.die d).running = true)
    (hfatal : (s.die d).fatal = false) : ∃ u, exec (.rootPllLockLoss d) s = .next u ∧ u.pll d = false ∧ (u.die d).fatal = true ∧
      (u.die d).cause = 1 ∧ u.memMode d.die3 = .selfRefresh ∧ (u.opState d).change = none := by
  have hexec : exec (.rootPllLockLoss d) s = .next (declareFatal (pllLost s d) d 1) :=
    congrArg Host.Outcome.next (if_neg (by simp [hpll, hrun]))
  have hdie := declareFatal_die (s := pllLost s d) (d := d) 1 (by rw [pllLost_die, hrun]) (by rw [pllLost_die, hfatal])
  have hclocks := (declareFatal_does (pllLost s d) d 1).same.clocks (by decide)
  obtain ⟨hlost, hmem, hchange⟩ := pllLost_clocks s d
  refine ⟨_, hexec, ?_, by rw [hdie], by rw [hdie], ?_, ?_⟩
  · cases d
    · exact (congrArg Clocks.pllA hclocks).trans hlost
    · exact (congrArg Clocks.pllB hclocks).trans hlost
  · cases d
    · exact (congrArg Clocks.memA hclocks).trans hmem
    · exact (congrArg Clocks.memB hclocks).trans hmem
  · cases d
    · exact (congrArg (fun c : Clocks => c.opA.change) hclocks).trans hchange
    · exact (congrArg (fun c : Clocks => c.opB.change) hclocks).trans hchange

theorem stopCodec_cpFailed (s : State) : (stopCodec s).hub = s.hub := (stopCodec_does s).same.hub (by decide)

theorem failCp_hub (s : State) : (failCp s).hub = { s.hub with cpFailed := true, lastStatus := some (hubStatusWord s) } :=
  stopCodec_cpFailed _

theorem hubPllLockLoss_spec {s : State} (hpll : s.clocks.pllH = true) : ∃ u, exec .hubPllLockLoss s = .next u ∧ u.hub.cpFailed = true ∧
    u.clocks.pllH = false ∧ u.clocks.memH = .selfRefresh ∧ u.clocks.hubLostAt = if s.hub.cpFailed then none else some s.uptime := by
  refine ⟨_, congrArg Host.Outcome.next (if_neg (by simp [hpll])), ?_, rfl, rfl, rfl⟩
  rw [(State.setMem_does ..).same.hub (by decide), State.modClocks_hub, failCp_hub]

/-- `s` with the hub's PLL locked again and its memory at work (R461). -/
def hubRelocked (s : State) : State := (s.modClocks fun c => { c with pllH := true, hubLostAt := none }).setMem .hub .active

theorem hubRelocked_hub (s : State) : (hubRelocked s).hub = s.hub := (State.setMem_does ..).same.hub (by decide)

section
variable {s : State} (hpll : s.clocks.pllH = false)
include hpll

theorem hubPllRelock_failed (hlate : s.clocks.hubLostAt = none ∨ ∃ t, s.clocks.hubLostAt = some t ∧ t + 10000000 < s.uptime) :
    exec .hubPllRelock s = .next (hubRelocked s) := by
  show execHubPllRelock s = _
  unfold execHubPllRelock
  rw [if_neg (by simp [hpll])]
  rcases hlate with h | ⟨t, h, hlate⟩
  · rw [h]
    rfl
  · rw [h]
    exact congrArg Host.Outcome.next (if_pos hlate)

theorem hubPllRelock_restarts {t : Nat} (hlost : s.clocks.hubLostAt = some t) (hsoon : s.uptime ≤ t + 10000000)
    (hstage : s.hub.stage ≠ .halted) : exec .hubPllRelock s = .next (raise (raise (beginRestart
      ((hubRelocked s).modHub fun h => { h with cpFailed := false, lastStatus := none })) 219 0x20 0) 219 0x21 0) := by
  show execHubPllRelock s = _
  unfold execHubPllRelock
  rw [if_neg (by simp [hpll]), hlost]
  dsimp only
  rw [if_neg (by omega), if_neg hstage]
  rfl

end

/-! ### The lane reference (R462) -/

theorem laneReferenceMeasurement_trims {s : State} {offset : Int} (href : s.clocks.refOk = true)
    (hfar : 5000 < (offset - s.clocks.offset).natAbs) : ∃ u, exec (.laneReferenceMeasurement offset) s = .next u ∧
      u.clocks.laneSeen = true ∧ u.clocks.offset = s.clocks.offset + max (-1000) (min 1000 (offset - s.clocks.offset)) ∧
      u.clocks.offset + u.clocks.trim = offset := by
  have hexec : exec (.laneReferenceMeasurement offset) s = .next (trimStep (raise ((s.modClocks fun c =>
      { c with laneSeen := true }).modClocks fun c => { c with trim := offset - c.offset }) 219 0x22
      (put (BitVec.ofInt 32 offset).toNat 32 0))) :=
    congrArg Host.Outcome.next ((if_neg (by simp [href])).trans (if_pos hfar))
  have hclocks := (raise_does ((s.modClocks fun c => { c with laneSeen := true }).modClocks fun c => { c with trim := offset - c.offset })
    219 0x22 (put (BitVec.ofInt 32 offset).toNat 32 0) 0 none).same.clocks (by decide)
  refine ⟨_, hexec, ?_⟩
  unfold trimStep
  dsimp only [State.modClocks_clocks]
  rw [hclocks]
  refine ⟨rfl, rfl, ?_⟩
  show s.clocks.offset + max (-1000) (min 1000 (offset - s.clocks.offset)) +
    (offset - s.clocks.offset - max (-1000) (min 1000 (offset - s.clocks.offset))) = offset
  omega

/-! ### Clock gates (R469) -/

theorem raise_gate (s : State) (src code : Nat) (data : Word) (frame : Nat) (t : Option Nat) (g : GateId) :
    (raise s src code data frame t).gate g = s.gate g :=
  congrArg (fun c : Clocks => assocGet ({} : Gate) c.gates g) ((raise_does s src code data frame t).same.clocks (by decide))

/-- `x` with its request dropped at time `now`, and counted. -/
def Gate.dropped (x : Gate) (now : Nat) : Gate := { x with pending := false, drops := x.drops + 1, retryAt := now + 10000 }

/-- A dropped request bars the next for 10 µs; where the drop is told, its time is kept. -/
theorem gateCloseTimeout_drops {s : State} {g : GateId} (h : (s.gate g).pending = true) :
    ∃ u told, exec (.gateCloseTimeout g) s = .next u ∧ u.gate g = { (s.gate g).dropped s.uptime with toldAt := told } := by
  have hdrop : (s.modGate g fun x => x.dropped s.uptime).gate g = (s.gate g).dropped s.uptime := by rw [State.modGate_gate, if_pos rfl]
  have hexec : exec (.gateCloseTimeout g) s = .next _ := congrArg Host.Outcome.next (if_neg (by simp [h]))
  rw [hexec]
  extract_lets tell s1
  split
  · next d _ =>
    split
    · refine ⟨_, some s.uptime, rfl, ?_⟩
      rw [raise_gate, State.modGate_gate, if_pos rfl]
      exact congrArg (fun x : Gate => { x with toldAt := some s.uptime }) hdrop
    · exact ⟨_, (s.gate g).toldAt, rfl, hdrop⟩
  · exact ⟨_, (s.gate g).toldAt, rfl, hdrop⟩

/-- Settles O31: each reference, PLL and gate event by the lemma about it. -/
theorem clocksAndGates : Obligations.ClocksAndGates := by
  refine ⟨fun s d t offset => ⟨?_, fun hok => ?_, rootPllLockLoss_spec, hubPllLockLoss_spec, fun hpll hlate => ?_,
    fun hpll hlost hsoon hstage => ?_, fun href hnear => ?_, laneReferenceMeasurement_trims, rfl⟩, fun s g => ⟨fun hopen hidle hretry => ?_,
    fun hpending => ?_⟩⟩
  · rintro s1 rfl
    rfl
  · obtain ⟨u, hexec, hrefs, hlinks⟩ := refclkLoss_spec hok
    exact ⟨u, hexec, congrArg (·.1) hrefs, congrArg (·.2.1) hrefs, congrArg (·.2.2.1) hrefs, congrArg (·.2.2.2.1) hrefs,
      congrArg (·.2.2.2.2) hrefs, hlinks⟩
  · exact ⟨_, hubPllRelock_failed hpll hlate, hubRelocked_hub s, rfl, rfl⟩
  · refine ⟨_, hubPllRelock_restarts hpll hlost hsoon hstage, ?_⟩
    have hhub := beginRestart_sansFuncs ((hubRelocked s).modHub fun h => { h with cpFailed := false, lastStatus := none })
    rw [raise_hub, raise_hub, (raise_does _ 219 0x21 0 0 none).same.clocks (by decide),
      (raise_does _ 219 0x20 0 0 none).same.clocks (by decide), (beginRestart_does _).same.clocks (by decide)]
    exact ⟨(congrArg Hub.cpFailed hhub :), (congrArg Hub.stage hhub :), rfl, rfl, rfl⟩
  · exact congrArg Host.Outcome.next ((if_neg (by simp [href])).trans (if_neg (by omega)))
  · exact congrArg Host.Outcome.next (if_neg (by simp [hopen, hidle, hretry]))
  · obtain ⟨u, told, hexec, hgate⟩ := gateCloseTimeout_drops hpending
    exact ⟨u, hexec, by rw [hgate]; exact ⟨rfl, rfl, rfl, rfl⟩⟩

end Sys2Proof.Machine

/-! ## Operating points (17) -/

namespace Sys2Proof.Machine

/-! ### Slices of a die whose operating point falls (R525) -/

/-- Aborting slices leaves none on the clusters they stood on. -/
theorem abortSlice_slice (s : State) (d : DieId) (c k : Nat) (h : k ≠ c → ((s.die d).cluster k).slice = false) :
    (((abortSlice s d c).die d).cluster k).slice = false := by
  by_cases hk : k = c
  · rw [hk, abortSlice_self]
    split
    · rfl
    · next hslice => simpa using hslice
  · rw [abortSlice_ne (h := hk), h hk]

theorem abortEach_slice (d : DieId) {k : Nat} (ls : List Nat) (s : State) (hk : k ∈ ls) :
    (((s.each ls fun s c => abortSlice s d c).die d).cluster k).slice = false := by
  induction ls generalizing s with
  | nil => cases hk
  | cons c ls ih =>
    rw [State.each_cons]
    by_cases hin : k ∈ ls
    · exact ih _ hin
    · have hc : k = c := (List.mem_cons.1 hk).resolve_right hin
      exact State.each_preserves (fun u => ((u.die d).cluster k).slice = false) ls _
        (fun u j hu => abortSlice_slice u d j k fun _ => hu) (abortSlice_slice s d c k fun hne => absurd hc hne)

theorem abortSlices_slice (s : State) (d : DieId) {k : Nat} (hk : k < 16) : (((abortSlices s d).die d).cluster k).slice = false :=
  abortEach_slice d (List.range 16) s (List.mem_range.2 hk)

/-! ### OP_TRANSITION and OP_SETTLE (R463, R465, R525) -/

section
variable {s : State} {d : DieId} (hrun : (s.die d).running = true)
include hrun

theorem opTransition_starts (ack : Bool) (hidle : (s.opState d).change = none) :
    exec (.opTransition d ack) s = .next
      (if (s.opState d).target = (s.opState d).op || decide (s.uptime < (s.opState d).since + 1000000) then s
      else if (s.opState d).op < (s.opState d).target then
        if (List.range 16).any fun c => ((s.die d).cluster c).slice then s
        else s.modOp d fun o =>
          { o with change := some { target := (s.opState d).target, up := true, retried := !ack, since := s.uptime, settling := ack } }
      else (abortSlices s d).modOp d fun o =>
        { o with op := (s.opState d).target, since := s.uptime,
                 change := some { target := (s.opState d).target, up := false, retried := false, since := s.uptime, settling := true } }) := by
  show execOpTransition d ack s = _
  unfold execOpTransition
  rw [if_neg (by simp [hrun]), hidle]

/-- A retry that the regulator acknowledges waits for its settling. -/
theorem opTransition_retries {c : OpChange} (hchange : (s.opState d).change = some c) (hwaits : c.settling = false) :
    exec (.opTransition d true) s = .next (s.modOp d fun o => { o with change := some { c with settling := true } }) := by
  show execOpTransition d true s = _
  unfold execOpTransition
  rw [if_neg (by simp [hrun]), hchange]
  exact congrArg Host.Outcome.next ((if_neg (by simp [hwaits])).trans (if_pos rfl))

end

section
variable {s : State} {d : DieId} {c : OpChange} (hchange : (s.opState d).change = some c) (hsettles : c.settling = true)
include hchange hsettles

theorem opSettle_cases (pg : Bool) : exec (.opSettle d pg) s = .next
    (if !c.up then opDone s d c
    else if (s.opState d).target < c.target then s.modOp d fun o => { o with change := none }
    else if pg then opDone s d c
    else if c.retried then opFailed s d c.target 1
    else s.modOp d fun o => { o with change := some { c with retried := true, settling := false } }) := by
  show execOpSettle d pg s = _
  unfold execOpSettle
  dsimp only
  rw [hchange]
  exact congrArg Host.Outcome.next (if_neg (by simp [hsettles]))

theorem opSettle_done {pg : Bool} (h : c.up = false ∨ (c.target ≤ (s.opState d).target ∧ pg = true)) :
    exec (.opSettle d pg) s = .next (opDone s d c) := by
  rw [opSettle_cases hchange hsettles]
  rcases h with hdown | ⟨htarget, hpg⟩
  · rw [hdown]
    rfl
  · cases hup : c.up with
    | false => rfl
    | true => rw [if_neg (by decide), if_neg (by omega), if_pos hpg]

end

theorem opDone_opState (s : State) (d : DieId) (x : OpChange) :
    (opDone s d x).opState d = { s.opState d with op := x.target, since := s.uptime, change := none } := by
  rw [opDone, (raise_does _ _ 3 _ 0 none).same.opState (by decide), State.modOp_op, if_pos rfl]

/-! ### The supply of a die (R466) -/

theorem regulatorMonitor_running {s : State} {d : DieId} {v : Nat} (hrun : (s.die d).running = true)
    (hidle : (s.opState d).change = none) : exec (.regulatorMonitor d v) s = .next
      (if 5 * ((opMv (s.opState d).op : Int) * 4096) < 100 * (((v * 1000 : Nat) : Int) - (opMv (s.opState d).op : Int) * 4096).natAbs then
        declareFatal (raise (s.modOp d fun x => { x with vout := some (v : Int) }) (statusSource d) 5 (put v 16 0)) d 5
      else s.modOp d fun x => { x with vout := some (v : Int) }) := by
  show execRegulatorMonitor d v s = _
  unfold execRegulatorMonitor
  rw [if_pos hrun]
  exact congrArg Host.Outcome.next (if_neg (by simp [hrun, hidle]))

/-- A die that runs and is not fatal yet is so with the cause, whatever has been told before. -/
theorem declareFatal_cause {s t : State} {d : DieId} (cause : Nat) (ht : t.die d = s.die d) (hrun : (s.die d).running = true)
    (hfatal : (s.die d).fatal = false) : ((declareFatal t d cause).die d).fatal = true ∧ ((declareFatal t d cause).die d).cause = cause := by
  rw [declareFatal_die cause (by rw [ht, hrun]) (by rw [ht, hfatal])]
  exact ⟨rfl, rfl⟩

/-- Settles O32: each step of a transition and each look at a supply, by the equation of its row. -/
theorem operatingPoints : Obligations.OperatingPoints := by
  rintro s d ack pg x c v rfl
  refine ⟨fun hrun hidle hdwell hup hslices => ?_, fun hrun hidle hdwell hdown => ?_, fun hrun => opTransition_retries hrun,
    fun hchange hsettles h => ?_,
    fun hchange hsettles hup htarget hfirst => ?_, fun hrun hidle hfatal w hw => ⟨fun hnear => ?_, fun hfar => ?_⟩,
    fun hrun hidle hfatal htrip => ?_⟩
  · have hnone : ((List.range 16).any fun k => ((s.die d).cluster k).slice) = false :=
      List.any_eq_false.2 fun k hk => by simp [hslices k (List.mem_range.1 hk)]
    rw [opTransition_starts hrun ack hidle, if_neg (by simp; omega), if_pos hup, if_neg (by simp [hnone])]
  · refine ⟨_, opTransition_starts hrun ack hidle, ?_⟩
    rw [if_neg (by simp; omega), if_neg (by omega), State.modOp_op, if_pos rfl]
    refine ⟨rfl, rfl, fun k hk => ?_⟩
    rw [State.modOp_die]
    exact abortSlices_slice s d hk
  · refine ⟨_, opSettle_done hchange hsettles h, ?_⟩
    rw [opDone_opState]
    exact ⟨rfl, rfl, rfl⟩
  · rw [opSettle_cases hchange hsettles, if_neg (by simp [hup]), if_neg (by omega), if_neg (by decide), if_neg (by simp [hfirst])]
  · rw [regulatorMonitor_running hrun hidle, if_neg (by omega)]
  · refine ⟨_, regulatorMonitor_running hrun hidle, ?_⟩
    rw [if_pos (by omega)]
    exact declareFatal_cause 5 (by rw [raise_die, State.modOp_die]) hrun hfatal
  · exact ⟨_, congrArg Host.Outcome.next (if_neg (by simp [hrun, hidle, htrip])), declareFatal_cause 5 (raise_die ..) hrun hfatal⟩

end Sys2Proof.Machine

/-! ## Temperature, the budget and trips (18) -/

namespace Sys2Proof.Machine

theorem Same.thermOf {l : List Part} {s t : State} (h : Same l s t) (hl : Part.therm ∉ l) (x : Die3) : t.therm x = s.therm x := by
  obtain ⟨ha, hb, hh⟩ := h.therm hl
  cases x
  · exact ha
  · exact hb
  · exact hh

@[simp] theorem raise_therm (s : State) (src code : Nat) (data : Word) (frame : Nat) (t : Option Nat) (x : Die3) :
    (raise s src code data frame t).therm x = s.therm x := (raise_does s src code data frame t).same.thermOf (by decide) x

@[simp] theorem bandActs_therm (s : State) (d x : Die3) : (bandActs s d).therm x = s.therm x :=
  (bandActs_does s d).same.thermOf (by decide) x

/-! ### Bands and readings (R477, R478) -/

/-- What the choice of a band leaves of a die's temperature state. -/
def Therm.sansBand (x : Therm) : Therm :=
  { x with band := .norm, towards := none, set := 1, pause := 0, hotIn := 0, critIn := 0 }

/-- A die that enters a band is in it, whatever it was in, and its readings stay. -/
theorem enterBand_therm (s : State) (d : Die3) (b : Band) :
    ((enterBand s d b).therm d).band = b ∧ ((enterBand s d b).therm d).sansBand = (s.therm d).sansBand := by
  unfold enterBand
  extract_lets old hotter set idle s1
  split
  · next hb => exact ⟨hb.symm, rfl⟩
  · rw [bandActs_therm, raise_therm, State.modTherm_therm, if_pos rfl]
    exact ⟨rfl, rfl⟩

theorem modTowards_sansBand (s : State) (d : Die3) (b : Option Band) :
    ((s.modTherm d fun x => { x with towards := b }).therm d).sansBand = (s.therm d).sansBand := by
  rw [State.modTherm_therm, if_pos rfl]
  rfl

theorem judgeBand_sansBand (s : State) (d : Die3) (t : Int) : ((judgeBand s d t).therm d).sansBand = (s.therm d).sansBand := by
  have henter : ∀ b, ((enterBand s d b).therm d).sansBand = (s.therm d).sansBand := fun b => (enterBand_therm s d b).2
  unfold judgeBand
  extract_lets x cur r floor want
  split
  · exact henter _
  split
  · exact henter _
  split
  · exact modTowards_sansBand s d none
  split
  · extract_lets both
    split
    · exact henter _
    · exact modTowards_sansBand s d _
  · exact modTowards_sansBand s d _

/-- What a judged reading leaves: the temperature and the readings of both paths. -/
def Therm.readings (x : Therm) : Int × Option (Int × Nat) × Option (Int × Nat) := (x.now, x.lastSlow, x.lastFast)

theorem Therm.readings_of_sansBand {x y : Therm} (h : x.sansBand = y.sansBand) : x.readings = y.readings := (congrArg Therm.readings h :)

theorem takeReading_readings (s : State) (d : Die3) (t : Int) (bad judges : Bool) :
    ((takeReading s d t bad judges).therm d).readings = (s.therm d).readings := by
  have hjudge : ∀ u : State, (u.therm d).readings = (s.therm d).readings → ((judgeBand u d t).therm d).readings = (s.therm d).readings :=
    fun u hu => (Therm.readings_of_sansBand (judgeBand_sansBand u d t)).trans hu
  unfold takeReading
  split
  · extract_lets s1
    rw [Therm.readings_of_sansBand (enterBand_therm ..).2, raise_therm, State.modTherm_therm, if_pos rfl]
    rfl
  extract_lets x s1
  split
  · split
    · rw [State.modTherm_therm, if_pos rfl]
      rfl
    · split
      · have hs1 : (s1.therm d).readings = (s.therm d).readings := by
          dsimp only [s1]
          rw [State.modTherm_therm, if_pos rfl]
          rfl
        split
        · exact hjudge s1 hs1
        · exact hs1
      · rfl
  split
  · exact hjudge s rfl
  · rfl

/-- An implausible reading is a sensor fault, and the die is in CRIT. -/
theorem takeReading_bad (s : State) (d : Die3) (t : Int) (judges : Bool) :
    ((takeReading s d t true judges).therm d).fault = true ∧ ((takeReading s d t true judges).therm d).band = .crit := by
  rw [takeReading, if_pos rfl]
  obtain ⟨hband, hrest⟩ := enterBand_therm (raise (s.modTherm d fun x => { x with fault := true, okSince := none }) (thermSource d) 4
    (put (BitVec.ofInt 16 t).toNat 16 0) (thermFrame s d)) d .crit
  rw [raise_therm, State.modTherm_therm, if_pos rfl] at hrest
  exact ⟨(congrArg Therm.fault hrest :), hband⟩

/-! ### Samples (R475, R476, R478) -/

/-- `s` with a slow reading `y` of a die taken, before it is judged. -/
def slowRead (s : State) (x : Die3) (y : Int) : State :=
  s.modTherm x fun z =>
    { z with now := y, max := some (match z.max with
        | some m => max m y
        | none => y), lastSlow := some (y, s.uptime) }

section
variable {s : State} {x : Die3} {t : Int} (hcp : s.hub.cpFailed = false) (htrip : (s.therm x).tripped = false)
include hcp htrip

theorem slowRoundSample_judged : exec (.slowRoundSample x t) s = .next (takeReading (slowRead s x (s.trimmed x t)) x (s.trimmed x t)
    (implausible (s.therm x).lastSlow (s.trimmed x t) s.uptime) (decide (bandCode (s.therm x).band ≤ 1))) :=
  congrArg Host.Outcome.next ((if_neg (by simp [hcp])).trans (if_neg (by simp [htrip])))

theorem slowRoundSample_spec : ∃ u, exec (.slowRoundSample x t) s = .next u ∧ (u.therm x).now = s.trimmed x t ∧
    (u.therm x).lastSlow = some (s.trimmed x t, s.uptime) ∧
    (implausible (s.therm x).lastSlow (s.trimmed x t) s.uptime = true → (u.therm x).fault = true ∧ (u.therm x).band = .crit) := by
  have hread := takeReading_readings (slowRead s x (s.trimmed x t)) x (s.trimmed x t)
    (implausible (s.therm x).lastSlow (s.trimmed x t) s.uptime) (decide (bandCode (s.therm x).band ≤ 1))
  rw [slowRead, State.modTherm_therm, if_pos rfl] at hread
  refine ⟨_, slowRoundSample_judged hcp htrip, congrArg (·.1) hread, congrArg (·.2.1) hread, fun hbad => ?_⟩
  rw [hbad]
  exact takeReading_bad ..

theorem throttleSample_spec (hwarm : 2 ≤ bandCode (s.therm x).band) :
    ∃ u, exec (.throttleSample x t) s = .next u ∧ (u.therm x).lastFast = some (s.trimmed x t, s.uptime) := by
  have hexec : exec (.throttleSample x t) s = .next _ :=
    congrArg Host.Outcome.next (if_neg (by simp [hcp, htrip]; omega))
  refine ⟨_, hexec, ?_⟩
  have hread := takeReading_readings (s.modTherm x fun z => { z with lastFast := some (s.trimmed x t, s.uptime) }) x (s.trimmed x t)
    (implausible (s.therm x).lastFast (s.trimmed x t) s.uptime) true
  rw [State.modTherm_therm, if_pos rfl] at hread
  have hfast := congrArg (fun r => r.2.2) hread
  extract_lets bad s1
  split
  · rw [State.modTherm_therm, if_pos rfl]
    exact hfast
  · exact hfast

end

/-! ### The budget tick (R481) -/

/-- The measured powers and their history. -/
def Budget.measured (b : Budget) : Nat × Nat × Nat × List Nat := (b.pA, b.pB, b.pHub, b.hist)

theorem moveLadder_measured (s : State) : (moveLadder s).budget.measured = s.budget.measured := by
  have hdown : ∀ (fit : Bool) (r : Nat), (if fit then raise (s.modBudget fun b => { b with rung := b.rung - 1 }) 219 2 (put r 4 0)
      else s).budget.measured = s.budget.measured := by
    intro fit r
    split
    · rw [(raise_does _ _ _ _ 0 none).same.budget (by decide)]
      rfl
    · rfl
  unfold moveLadder
  extract_lets b limit p r
  split
  · split
    · rfl
    · rw [(raise_does _ _ _ _ 0 none).same.budget (by decide)]
      rfl
  · exact hdown _ _

theorem countMs_measured (s : State) : (countMs s).budget.measured = s.budget.measured := by
  unfold countMs
  extract_lets o d s1 s2
  rw [State.each_keeps (fun u => u.budget) _ _ fun u x => ?_]
  · dsimp only [s2]
    rw [State.each_keeps (fun u => u.budget) _ _ fun u x => State.modTherm_budget ..]
    rfl
  · extract_lets u' t
    have hu : u'.budget = u.budget := by
      dsimp only [u']
      split
      · exact State.modTherm_budget ..
      · rfl
    split
    · rw [(raise_does _ _ _ _ _ none).same.budget (by decide), State.modTherm_budget, hu]
    · exact hu

theorem budgetTick_spec {s : State} (rA rB : RailPower) (pH : Nat) (hcp : s.hub.cpFailed = false) :
    ∃ u, exec (.budgetTick rA rB pH) s = .next u ∧
      u.budget.measured = (railPower rA, railPower rB, pH, ((railPower rA + railPower rB + pH) :: s.budget.hist).take 10) := by
  have hexec : exec (.budgetTick rA rB pH) s = .next _ := congrArg Host.Outcome.next (if_neg (by simp [hcp]))
  refine ⟨_, hexec, ?_⟩
  extract_lets pA pB s1 above s2 s3
  rw [countMs_measured, (setTargets_does _).same.budget (by decide), moveLadder_measured]
  dsimp only [s3]
  split
  · rw [(raise_does _ _ _ _ 0 none).same.budget (by decide)]
    rfl
  · rfl

/-! ### Trips (R487, R488) -/

theorem setTripPin_therm (s : State) (d x : Die3) (low : Bool) : (setTripPin s d low).therm x = s.therm x :=
  (setTripPin_does s d low).same.thermOf (by decide) x

theorem tripDie_therm (s : State) (d : Die3) :
    (tripDie s d).therm d = { s.therm d with tripped := true, trips := (s.therm d).trips + 1, coolSince := none } := by
  rw [tripDie, setTripPin_therm, State.modTherm_therm, if_pos rfl]

/-- A trip of a twin die, once the event that tells it is raised, stops the die. -/
theorem tripped_die (s : State) (d : DieId) (src : Nat) :
    let u := (raise (tripDie s d.die3) src 2 0 s.lowFrame).modDie d fun x => { x with running := false }
    (u.therm d.die3).tripped = true ∧ (u.die d).running = false ∧ (u.therm d.die3).trips = (s.therm d.die3).trips + 1 := by
  intro u
  have htherm : u.therm d.die3 = (tripDie s d.die3).therm d.die3 :=
    ((State.modDie_does ..).same.thermOf (by decide) _).trans (raise_therm ..)
  have hdie : u.die d = { (raise (tripDie s d.die3) src 2 0 s.lowFrame).die d with running := false } := by
    rw [State.modDie_die, if_pos rfl]
  rw [htherm, tripDie_therm, hdie]
  exact ⟨rfl, rfl, rfl⟩

theorem thermalTrip_die {s : State} {d : DieId} (h : (s.therm d.die3).tripped = false) : ∃ u, exec (.thermalTrip d.die3) s = .next u ∧
    (u.therm d.die3).tripped = true ∧ (u.die d).running = false ∧ (u.therm d.die3).trips = (s.therm d.die3).trips + 1 := by
  have hguard : ¬ (s.therm d.die3).tripped = true := by simp [h]
  cases d
  · exact ⟨_, congrArg Host.Outcome.next (if_neg hguard), tripped_die s .a 257⟩
  · exact ⟨_, congrArg Host.Outcome.next (if_neg hguard), tripped_die s .b 641⟩

theorem thermalTrip_hub {s : State} (h : s.thermH.tripped = false) : ∃ u, exec (.thermalTrip .hub) s = .next u ∧
    u.thermH.tripped = true ∧ u.hub.cpFailed = true ∧ u.dies.a.running = false ∧ u.dies.b.running = false ∧
    u.service.tripPinA = true ∧ u.service.tripPinB = true := by
  have hguard : ¬ (s.therm .hub).tripped = true := by simp [State.therm, h]
  have hexec : exec (.thermalTrip .hub) s = .next _ := congrArg Host.Outcome.next (if_neg hguard)
  exact ⟨_, hexec, congrArg Therm.tripped (tripDie_therm (failCp s) .hub), congrArg Hub.cpFailed (failCp_hub s), rfl, rfl, rfl, rfl⟩

theorem tripRelease_die {s : State} {d : DieId} (htrip : (s.therm d.die3).tripped = true) (hcp : s.hub.cpFailed = false)
    (hcool : s.cooled d.die3 = true) : ∃ u, exec (.tripRelease d.die3) s = .next u ∧ (u.therm d.die3).tripped = false ∧
      (u.opState d).op = 2 := by
  have hguard : ¬ (!(s.therm d.die3).tripped || !s.cooled d.die3) = true := by simp [htrip, hcool]
  have hexec : exec (.tripRelease d.die3) s = .next (raise ((setTripPin (s.modTherm d.die3 fun x => { x with tripped := false }) d.die3
      false).modOp d fun _ => { since := s.uptime }) (dieSource d 1) 3 0 s.lowFrame) := by
    cases d
    · exact congrArg Host.Outcome.next ((if_neg hguard).trans (if_neg (by simp [hcp])))
    · exact congrArg Host.Outcome.next ((if_neg hguard).trans (if_neg (by simp [hcp])))
  refine ⟨_, hexec, ?_, ?_⟩
  · rw [raise_therm, (State.modOp_does ..).same.thermOf (by decide), setTripPin_therm, State.modTherm_therm, if_pos rfl]
  · rw [(raise_does _ _ 3 _ _ none).same.opState (by decide), State.modOp_op, if_pos rfl]

/-- Settles O33: each sample, tick, trip and release by the lemma about it. -/
theorem temperature : Obligations.Temperature := by
  rintro s x d t y rA rB pH rfl
  refine ⟨slowRoundSample_spec, fun hcp htrip => ?_, throttleSample_spec, fun hband => ?_, fun hcp => ?_, thermalTrip_die,
    thermalTrip_hub, tripRelease_die, fun hcool => ?_, fun htrip => ?_⟩
  · exact congrArg Host.Outcome.next ((if_neg (by simp [hcp])).trans (if_pos htrip))
  · exact congrArg Host.Outcome.next (if_pos (by simp [hband]))
  · obtain ⟨u, hexec, hbudget⟩ := budgetTick_spec rA rB pH hcp
    exact ⟨u, hexec, congrArg (·.1) hbudget, congrArg (·.2.1) hbudget, congrArg (·.2.2.1) hbudget, congrArg (·.2.2.2) hbudget⟩
  · exact congrArg Host.Outcome.next (if_pos (by simp [hcool]))
  · exact ⟨_, congrArg Host.Outcome.next (if_neg (by simp [State.therm, State.cooled, htrip])), rfl, rfl⟩

end Sys2Proof.Machine

/-! ## Resets and supplies (20) -/

namespace Sys2Proof.Machine

section
variable {s : State} {x : Supply} (hpower : s.service.powered = true) (hin : s.service.supplyOut.contains x = false)
include hpower hin

/-- `s` with supply `x` out of range. -/
def State.unsupplied (s : State) (x : Supply) : State := s.modService fun v => { v with supplyOut := v.supplyOut ++ [x] }

/-- A supply that no twin die has for itself resets the package, but for a hub trip that waits for its release (R547, R548). -/
theorem supplyOutOfRange_hub (hdie : supplyDie x = none) : exec (.supplyOutOfRange x) s = .next
    (if s.thermH.tripped && !islandSupply x then s.unsupplied x
    else if islandSupply x then (packageReset ((s.unsupplied x).modService fun v => { v with resetHeld := true })).modFirmware fun f =>
      { f with hubTripped := false }
    else packageReset ((s.unsupplied x).modService fun v => { v with resetHeld := true })) := by
  refine congrArg Host.Outcome.next ((if_neg (by simp only [hpower, hin]; decide)).trans ?_)
  extract_lets s1 s2
  split
  · cases hdie
  · next hd => rw [hdie] at hd; cases hd
  · rfl

/-- A supply of a twin die makes it fatal, with the reading told where it is its engine rail; a tripped or stopped die's rail is not
looked at (R466, R547). -/
theorem supplyOutOfRange_die {d : DieId} (hdie : supplyDie x = some d) : ∃ t : State, t.dies = s.dies ∧
    t.service = (s.unsupplied x).service ∧ (exec (.supplyOutOfRange x) s = .next (declareFatal t d 5) ∨
      x = .vddpe d ∧ ((s.therm d.die3).tripped || !(s.die d).running) = true ∧ exec (.supplyOutOfRange x) s = .next t) := by
  have hexec : exec (.supplyOutOfRange x) s = .next _ := congrArg Host.Outcome.next (if_neg (by simp only [hpower, hin]; decide))
  rw [hexec]
  extract_lets s1 s2
  split
  · next d' =>
    obtain rfl : d' = d := Option.some.inj hdie
    split
    · next hstill => exact ⟨s1, rfl, rfl, .inr ⟨rfl, hstill, rfl⟩⟩
    · exact ⟨(raise s1 (statusSource d') 5 (put s1.freeWord.toNat 16 0)).drawn, raise_dies .., raise_service .., .inl rfl⟩
  · next d' _ hd =>
    obtain rfl : d = d' := Option.some.inj (hdie.symm.trans hd)
    exact ⟨s1, rfl, rfl, .inl rfl⟩
  · next hd => rw [hdie] at hd; cases hd

theorem supplyOutOfRange_spec (d : DieId) : ∃ u, exec (.supplyOutOfRange x) s = .next u ∧ x ∈ u.service.supplyOut ∧
    (supplyDie x = none → (s.thermH.tripped = false ∨ islandSupply x = true) → u.hub.stage = .reset ∧ u.service.resetHeld = true) ∧
    (supplyDie x = none → s.thermH.tripped = true → islandSupply x = false → u.hub = s.hub) ∧
    (supplyDie x = some d → (s.die d).running = true → (s.die d).fatal = false → (x = .vddpe d → (s.therm d.die3).tripped = false) →
      (u.die d).fatal = true ∧ (u.die d).cause = 5) := by
  have hmem : x ∈ (s.unsupplied x).service.supplyOut := List.mem_append_right _ List.mem_cons_self
  cases hdie : supplyDie x with
  | none =>
    refine ⟨_, supplyOutOfRange_hub hpower hin hdie, ?_, fun _ hresets => ?_, fun _ htrip hisland => ?_, (fun h => nomatch h)⟩
    · split
      · exact hmem
      split
      · exact hmem
      · exact hmem
    · rw [if_neg (by rcases hresets with h | h <;> simp [h])]
      split
      · exact ⟨rfl, rfl⟩
      · exact ⟨rfl, rfl⟩
    · rw [if_pos (by simp [htrip, hisland])]
      rfl
  | some e =>
    obtain ⟨t, hdies, hservice, hexec | ⟨rfl, hstill, hexec⟩⟩ := supplyOutOfRange_die hpower hin hdie
    · refine ⟨_, hexec, ?_, (fun h => nomatch h), (fun h => nomatch h), fun hd hrun hfatal _ => ?_⟩
      · rw [(declareFatal_does t e 5).same.service (by decide), hservice]
        exact hmem
      · obtain rfl : e = d := Option.some.inj hd
        have hdie' : t.die e = s.die e := State.die_of_dies hdies e
        exact declareFatal_cause 5 hdie' hrun hfatal
    · refine ⟨_, hexec, by rw [hservice]; exact hmem, (fun h => nomatch h), (fun h => nomatch h), fun hd hrun _ htrip => ?_⟩
      obtain rfl : e = d := Option.some.inj hd
      simp [htrip rfl, hrun] at hstill

end

/-- The held reset is released once no supply is out (R547). -/
theorem supplyRestored_spec (s : State) (x : Supply) : ∃ u, exec (.supplyRestored x) s = .next u ∧ x ∉ u.service.supplyOut ∧
    (u.service.resetHeld = true → s.service.resetHeld = true) ∧
    ((∀ y ∈ s.service.supplyOut, y = x) → u.service.resetHeld = false) := by
  refine ⟨_, rfl, fun hmem => ?_, fun hheld => ?_, fun hlast => ?_⟩
  · simpa using (List.mem_filter.1 hmem).2
  · exact (Bool.and_eq_true_iff.1 hheld).1
  · have hnone : s.service.supplyOut.filter (fun y => decide (y ≠ x)) = [] :=
      List.filter_eq_nil_iff.2 fun y hy => by simp [hlast y hy]
    show (s.service.resetHeld && !((s.service.supplyOut.filter fun y => decide (y ≠ x)).all fun y => (supplyDie y).isSome)) = false
    rw [hnone]
    exact Bool.and_false _

/-- Settles O49: each reset and supply by its row, whose package reset gives every part but the kept ones its first value. -/
theorem resetsAndSupplies : Obligations.ResetsAndSupplies := by
  intro s d x
  refine ⟨fun hpower htrip => ?_, fun hpower htrip => ?_, fun hpower => ?_, fun hpower => ?_, fun hpower hin => ?_,
    supplyRestored_spec s x⟩
  · exact congrArg Host.Outcome.next (if_neg (by simp [hpower, htrip]))
  · exact congrArg Host.Outcome.next (if_pos (by simp [htrip]))
  · exact ⟨_, congrArg Host.Outcome.next (if_neg (by simp [hpower])), rfl, rfl, rfl, rfl⟩
  · exact ⟨_, congrArg Host.Outcome.next (if_neg (by simp [hpower])), rfl, rfl, rfl, rfl, rfl, rfl, rfl, rfl, rfl, rfl, rfl⟩
  · exact supplyOutOfRange_spec hpower hin d

end Sys2Proof.Machine

/-! ## The boot stages (20) -/

namespace Sys2Proof.Machine

/-! ### Safe halt (R296, R498) -/

theorem setStage_stage (s : State) (g : Stage) : (setStage s g).hub.stage = g := (congrArg Hub.stage (setStage_sansFuncs s g) :)

theorem haltPackage_hub (s : State) (code : Nat) : (haltPackage s code).hub.sansFuncs =
    { s.hub.sansFuncs with halt := BitVec.ofNat 4 code, stage := .halted } := by
  have hhold : (roleChange (holdDie (holdDie s .a) .b) .halt).hub = s.hub := by
    rw [(roleChange_does ..).same.hub (by decide), (holdDie_does ..).same.hub (by decide), (holdDie_does ..).same.hub (by decide)]
  rw [haltPackage, setStage_sansFuncs, State.modHub_hub, hhold]
  rfl

theorem Hub.sansFuncs_stage (h : Hub) : h.sansFuncs.stage = h.stage := rfl

theorem Hub.sansFuncs_halt (h : Hub) : h.sansFuncs.halt = h.halt := rfl

theorem haltPackage_halts (s : State) (code : Nat) :
    (haltPackage s code).hub.stage = .halted ∧ (haltPackage s code).hub.halt = BitVec.ofNat 4 code := by
  rw [← Hub.sansFuncs_stage, ← Hub.sansFuncs_halt, haltPackage_hub]
  exact ⟨rfl, rfl⟩

theorem haltPackage_firmware (s : State) (code : Nat) : (haltPackage s code).firmware = s.firmware := by
  rw [haltPackage, (setStage_does ..).same.firmware (by decide), State.modHub_firmware, (roleChange_does ..).same.firmware (by decide),
    (holdDie_does ..).same.firmware (by decide), (holdDie_does ..).same.firmware (by decide)]

/-! ### Slots at the Primer (R502, R513) -/

/-- A slot that is found in a state after another was given a second one was found in it before, where the second is not that state. -/
theorem Firmware.find_congr {f g : Firmware} {x : SlotState} (h : ∀ k, g.slot k = x ↔ f.slot k = x) : g.find x = f.find x := by
  have hA : g.stateA = x ↔ f.stateA = x := h false
  have hB : g.stateB = x ↔ f.stateB = x := h true
  unfold Firmware.find
  simp only [hA, hB]

/-- The Primer's end of a trial: its slot becomes BAD and the other stays. -/
theorem endTrial_slot {s : State} (hseq : s.firmware.head.hseq ≠ 0xFFFFFFFF) (k : Bool) :
    (endTrial s).firmware.slot k = if s.firmware.find .trial = some k then .bad else s.firmware.slot k := by
  unfold endTrial
  cases hfind : s.firmware.find .trial with
  | none => rfl
  | some b =>
    refine (Firmware.setSlot_slot s.firmware b k .bad hseq).trans ?_
    by_cases hk : k = b
    · rw [if_pos hk, if_pos (by rw [hk])]
    · rw [if_neg hk, if_neg fun h => hk (Option.some.inj h).symm]

theorem endTrial_find {s : State} {x : SlotState} (hseq : s.firmware.head.hseq ≠ 0xFFFFFFFF) (htrial : x ≠ .trial) (hbad : x ≠ .bad) :
    (endTrial s).firmware.find x = s.firmware.find x := by
  refine Firmware.find_congr fun k => ?_
  rw [endTrial_slot hseq]
  split
  · next hfind =>
    rw [Firmware.slot_of_find hfind]
    exact ⟨fun h => absurd h.symm hbad, fun h => absurd h.symm htrial⟩
  · exact Iff.rfl

/-- `s` with the header copies as the Primer reads them, and its trial ended. -/
def primed (s : State) (b : BootResult) : State := endTrial (s.modFirmware fun f => f.readHeaders b)

/-! ### The image that runs (R295, R502) -/

/-- `s` with the image of a slot running, at STAGE 3. -/
def bootInto (s : State) (c trial : Bool) : State := setStage (setRunning s c trial) .memTrain

theorem bootInto_spec (s : State) (c trial : Bool) : (bootInto s c trial).hub.stage = .memTrain ∧ (bootInto s c trial).hub.fwValid = true ∧
    (bootInto s c trial).hub.fwSlotB = c ∧ (bootInto s c trial).hub.unconfirmed = trial ∧
    (bootInto s c trial).firmware = s.firmware := by
  have hset := setStage_sansFuncs (setRunning s c trial) .memTrain
  exact ⟨setStage_stage .., (congrArg Hub.fwValid hset :), (congrArg Hub.fwSlotB hset :), (congrArg Hub.unconfirmed hset :),
    (setStage_does (setRunning s c trial) .memTrain).same.firmware (by decide)⟩

section
variable {s : State} {b : BootResult} {c : Bool} (hfind : s.firmware.find .confirmed = some c)
include hfind

theorem bootSlot_confirmed : bootSlot s b = if slotPasses s b c then some (c, false)
    else if loadedPasses s b (!c) then some (!c, true) else none := by
  rw [bootSlot, hfind]

theorem bootImage_confirmed (hpass : slotPasses s b c = true) : bootImage s b = bootInto s c false := by
  rw [bootImage, bootSlot_confirmed hfind, if_pos hpass]
  rfl

theorem bootImage_loaded (hfails : slotPasses s b c = false) (hloaded : s.firmware.slot (!c) = .loaded)
    (hpass : slotPasses s b (!c) = true) : bootImage s b = bootInto (s.modFirmware fun f => f.setSlot (!c) .trial) (!c) true := by
  rw [bootImage, bootSlot_confirmed hfind, if_neg (by simp [hfails]), if_pos (by simp [loadedPasses, hloaded, hpass])]
  rfl

theorem bootImage_none (hfails : slotPasses s b c = false)
    (hnone : s.firmware.slot (!c) ≠ .loaded ∨ slotPasses s b (!c) = false) : bootImage s b = haltPackage s 1 := by
  rw [bootImage, bootSlot_confirmed hfind, if_neg (by simp [hfails]),
    if_neg (by rcases hnone with h | h <;> simp [loadedPasses, h])]

end

/-! ### The stages (R496) -/

section
variable {s : State} {b : BootResult} (hcp : s.hub.cpFailed = false) (hpower : s.service.powered = true)
  (hkeys : s.service.keys.held = false)
include hcp hpower hkeys

theorem stageChange_runs : exec (.stageChange b) s = .next (match s.hub.stage with
    | .reset =>
      if s.clocks.refOk && s.clocks.pllH && !s.service.resetHeld && !s.thermH.tripped then
        ((setStage s .primer).emit (.pin "SVC_RST_N" true)).emit (.pin "OSPI_RESET_N" true)
      else s
    | .primer =>
      if ((primed s b).firmware.find .confirmed).isNone && ((primed s b).firmware.find .loaded).isNone then haltPackage (primed s b) 1
      else setStage (primed s b) .fwLoad
    | .fwLoad => bootImage s b
    | .memTrain => bootTrain s b
    | .dieCheck => bootCheck s b
    | .linkBringUp => tellPast (startTime (enterReady s))
    | .restarting => startMicrocode (enterReady s)
    | _ => s) := by
  refine congrArg Host.Outcome.next ((if_neg (by simp [hcp, hpower, hkeys])).trans ?_)
  cases s.hub.stage <;> rfl

theorem stageChange_primer (hstage : s.hub.stage = .primer) (hseq : (s.firmware.readHeaders b).head.hseq ≠ 0xFFFFFFFF) :
    ∃ u, exec (.stageChange b) s = .next u ∧
      (∀ k, (s.firmware.readHeaders b).slot k ≠ .trial → u.firmware.slot k = (s.firmware.readHeaders b).slot k) ∧
      (∀ k, (s.firmware.readHeaders b).find .trial = some k → u.firmware.slot k = .bad) ∧
      ((s.firmware.readHeaders b).find .confirmed = none → (s.firmware.readHeaders b).find .loaded = none →
        u.hub.stage = .halted ∧ u.hub.halt = 1) ∧
      ((s.firmware.readHeaders b).find .confirmed ≠ none ∨ (s.firmware.readHeaders b).find .loaded ≠ none → u.hub.stage = .fwLoad) := by
  have hslot : ∀ k, (primed s b).firmware.slot k =
      if (s.firmware.readHeaders b).find .trial = some k then .bad else (s.firmware.readHeaders b).slot k :=
    fun k => endTrial_slot (s := s.modFirmware fun f => f.readHeaders b) hseq k
  have hconfirmed : (primed s b).firmware.find .confirmed = (s.firmware.readHeaders b).find .confirmed :=
    endTrial_find (s := s.modFirmware fun f => f.readHeaders b) hseq (by decide) (by decide)
  have hloaded : (primed s b).firmware.find .loaded = (s.firmware.readHeaders b).find .loaded :=
    endTrial_find (s := s.modFirmware fun f => f.readHeaders b) hseq (by decide) (by decide)
  have hexec := stageChange_runs (b := b) hcp hpower hkeys
  rw [hstage] at hexec
  dsimp only at hexec
  rw [hconfirmed, hloaded] at hexec
  have hslots : ∀ u : State, u.firmware = (primed s b).firmware →
      (∀ k, (s.firmware.readHeaders b).slot k ≠ .trial → u.firmware.slot k = (s.firmware.readHeaders b).slot k) ∧
      ∀ k, (s.firmware.readHeaders b).find .trial = some k → u.firmware.slot k = .bad := by
    intro u hu
    rw [hu]
    exact ⟨fun k hk => by rw [hslot, if_neg fun hfind => hk (Firmware.slot_of_find hfind)], fun k hk => by rw [hslot, if_pos hk]⟩
  by_cases hnone : (s.firmware.readHeaders b).find .confirmed = none ∧ (s.firmware.readHeaders b).find .loaded = none
  · rw [if_pos (by simp [hnone])] at hexec
    obtain ⟨hkept, hended⟩ := hslots _ (haltPackage_firmware (primed s b) 1)
    exact ⟨_, hexec, hkept, hended, fun _ _ => haltPackage_halts _ 1, fun hsome => absurd hnone (by tauto)⟩
  · rw [if_neg (by simpa using hnone)] at hexec
    obtain ⟨hkept, hended⟩ := hslots (setStage (primed s b) .fwLoad) ((setStage_does ..).same.firmware (by decide))
    exact ⟨_, hexec, hkept, hended, fun hc hl => absurd ⟨hc, hl⟩ hnone, fun _ => setStage_stage ..⟩

theorem stageChange_fwLoad {c : Bool} (hstage : s.hub.stage = .fwLoad) (hfind : s.firmware.find .confirmed = some c)
    (hseq : s.firmware.head.hseq ≠ 0xFFFFFFFF) : ∃ u, exec (.stageChange b) s = .next u ∧
      (slotPasses s b c = true → u.hub.stage = .memTrain ∧ u.hub.fwValid = true ∧ u.hub.fwSlotB = c ∧ u.hub.unconfirmed = false ∧
        u.firmware = s.firmware) ∧
      (slotPasses s b c = false → s.firmware.slot (!c) = .loaded → slotPasses s b (!c) = true → u.hub.stage = .memTrain ∧
        u.hub.fwSlotB = !c ∧ u.hub.unconfirmed = true ∧ u.firmware.slot (!c) = .trial ∧ u.firmware.slot c = .confirmed) ∧
      (slotPasses s b c = false → (s.firmware.slot (!c) ≠ .loaded ∨ slotPasses s b (!c) = false) →
        u.hub.stage = .halted ∧ u.hub.halt = 1) := by
  have hexec := stageChange_runs (b := b) hcp hpower hkeys
  rw [hstage] at hexec
  dsimp only at hexec
  refine ⟨_, hexec, fun hpass => ?_, fun hfails hloaded hpass => ?_, fun hfails hnone => ?_⟩
  · rw [bootImage_confirmed hfind hpass]
    obtain ⟨hst, hvalid, hslot, htrial, hfw⟩ := bootInto_spec s c false
    exact ⟨hst, hvalid, hslot, htrial, hfw⟩
  · rw [bootImage_loaded hfind hfails hloaded hpass]
    obtain ⟨hst, -, hslot, htrial, hfw⟩ := bootInto_spec (s.modFirmware fun f => f.setSlot (!c) .trial) (!c) true
    refine ⟨hst, hslot, htrial, ?_, ?_⟩
    · rw [hfw]
      exact (Firmware.setSlot_slot _ _ _ _ hseq).trans (if_pos rfl)
    · rw [hfw]
      refine (Firmware.setSlot_slot _ _ _ _ hseq).trans ((if_neg (by cases c <;> decide)).trans ?_)
      exact Firmware.slot_of_find hfind
  · rw [bootImage_none hfind hfails hnone]
    exact haltPackage_halts s 1

theorem stageChange_memTrain (hstage : s.hub.stage = .memTrain) : exec (.stageChange b) s = .next (bootTrain s b) := by
  have hexec := stageChange_runs (b := b) hcp hpower hkeys
  rw [hstage] at hexec
  exact hexec

theorem stageChange_dieCheck (hstage : s.hub.stage = .dieCheck) : exec (.stageChange b) s = .next (bootCheck s b) := by
  have hexec := stageChange_runs (b := b) hcp hpower hkeys
  rw [hstage] at hexec
  exact hexec

end

/-! ### STAGES 3 and 4 (R296, R451, R496, R497, R503) -/

theorem bootTrain_spec (s : State) (b : BootResult) :
    (b.memH = false → (bootTrain s b).hub.stage = .halted ∧ (bootTrain s b).hub.halt = 4) ∧
    (b.memH = true → b.dieA.trained = false → b.dieB.trained = false →
      (bootTrain s b).hub.stage = .halted ∧ (bootTrain s b).hub.halt = 2) ∧
    (b.memH = true → (b.dieA.trained = true ∨ b.dieB.trained = true) → (bootTrain s b).hub.stage = .dieCheck ∧
      (bootTrain s b).hub.gibA = b.dieA.gib ∧ (bootTrain s b).hub.gibB = b.dieB.gib ∧ (bootTrain s b).hub.gibH = b.gibH) := by
  unfold bootTrain
  extract_lets s1
  refine ⟨fun hhub => ?_, fun hhub ha hb => ?_, fun hhub hdie => ?_⟩
  · rw [if_pos (by simp [hhub])]
    exact haltPackage_halts s1 4
  · rw [if_neg (by simp [hhub]), if_pos (by simp [ha, hb])]
    exact haltPackage_halts s1 2
  · have hset := setStage_sansFuncs s1 .dieCheck
    rw [if_neg (by simp [hhub]), if_neg (by rcases hdie with h | h <;> simp [h])]
    exact ⟨setStage_stage .., (congrArg Hub.gibA hset :), (congrArg Hub.gibB hset :), (congrArg Hub.gibH hset :)⟩

theorem bootCheck_spec {s : State} {b : BootResult} (hlane : s.clocks.laneSeen = true) :
    let s1 := firstStart (bootRetire (bootRetire s .a b.dieA.failed) .b b.dieB.failed)
    (s1.loadArea = none → (bootCheck s b).hub.stage = .halted ∧ (bootCheck s b).hub.halt = 5) ∧
    (s1.loadArea ≠ none → diePasses s .a b.dieA = false → diePasses s .b b.dieB = false →
      (bootCheck s b).hub.stage = .halted ∧ (bootCheck s b).hub.halt = 3) ∧
    (s1.loadArea ≠ none → diePasses s .a b.dieA = true → (bootCheck s b).hub.stage = .linkBringUp) := by
  unfold bootCheck
  rw [if_neg (by simp [hlane])]
  dsimp only
  generalize firstStart (bootRetire (bootRetire s .a b.dieA.failed) .b b.dieB.failed) = s1
  cases s1.loadArea with
  | none =>
    dsimp only
    exact ⟨fun _ => haltPackage_halts s1 5, fun h => absurd rfl h, fun h => absurd rfl h⟩
  | some x =>
    refine ⟨(fun h => nomatch h), fun _ ha hb => ?_, fun _ ha => ?_⟩
    · dsimp only
      rw [if_pos (by simp [ha, hb])]
      exact haltPackage_halts s1 3
    · dsimp only
      rw [if_neg (by simp [ha])]
      exact setStage_stage ..

/-! ### STAGE 6 (R294, R296, R326) -/

/-- The hub's stage and its boot time, which a completion at STAGE 6 leaves. -/
def Hub.booted (h : Hub) : Stage × BitVec 16 := (h.stage, h.bootMs)

theorem finishLong_booted (s : State) (who id status : Nat) (trunc : Bool) :
    (finishLong s who id status trunc).hub.booted = s.hub.booted := by
  unfold finishLong
  split
  · rfl
  split
  · rfl
  split
  · rfl
  · extract_lets s1
    split
    · rfl
    · rw [raise_hub]
      rfl

theorem submitHeld_booted (s : State) (n : Nat) : (submitHeld s n).hub.booted = s.hub.booted := by
  unfold submitHeld
  extract_lets x
  split
  · rfl
  split
  · rw [State.modHub_hub, (State.modNsp_does ..).same.hub (by decide)]
    rfl
  · rfl

theorem enterReady_booted (s : State) : (enterReady s).hub.booted = (.ready, BitVec.ofNat 16 (s.uptime / 1000000)) := by
  unfold enterReady
  extract_lets s1 s2
  rw [State.each_keeps (fun u => u.hub.booted) _ _ fun u n => submitHeld_booted u n, (startTrial_does s2).same.hub (by decide)]
  dsimp only [s2]
  rw [State.each_keeps (fun u => u.hub.booted) _ _ fun u x => finishLong_booted ..]
  have hset := setStage_sansFuncs (s.modHub fun h =>
    { h with bootMs := BitVec.ofNat 16 (s.uptime / 1000000), reached := true, owed := [] }) .ready
  exact (congrArg Hub.booted hset :)

section
variable {s : State} {b : BootResult} (hcp : s.hub.cpFailed = false) (hpower : s.service.powered = true)
  (hkeys : s.service.keys.held = false)
include hcp hpower hkeys

theorem stageChange_linkBringUp (hstage : s.hub.stage = .linkBringUp) : ∃ u, exec (.stageChange b) s = .next u ∧
    u.hub.booted = (.ready, BitVec.ofNat 16 (s.uptime / 1000000)) := by
  have hexec := stageChange_runs (b := b) hcp hpower hkeys
  rw [hstage] at hexec
  refine ⟨_, hexec, ?_⟩
  dsimp only
  rw [(tellPast_does _).same.hub (by decide), (startTime_does _).same.hub (by decide), enterReady_booted]

theorem stageChange_restarting (hstage : s.hub.stage = .restarting) : ∃ u, exec (.stageChange b) s = .next u ∧ u.hub.stage = .ready := by
  have hexec := stageChange_runs (b := b) hcp hpower hkeys
  rw [hstage] at hexec
  refine ⟨_, hexec, ?_⟩
  dsimp only
  rw [(startMicrocode_does _).same.hub (by decide)]
  exact congrArg (·.1) (enterReady_booted s)

theorem stageChange_reset (hstage : s.hub.stage = .reset) : exec (.stageChange b) s = .next
    (if s.clocks.refOk && s.clocks.pllH && !s.service.resetHeld && !s.thermH.tripped then
      ((setStage s .primer).emit (.pin "SVC_RST_N" true)).emit (.pin "OSPI_RESET_N" true)
    else s) := by
  have hexec := stageChange_runs (b := b) hcp hpower hkeys
  rw [hstage] at hexec
  exact hexec

end

/-- Settles O50: each stage's exits by the lemma about it. -/
theorem bootStages : Obligations.BootStages := by
  rintro s b f rfl hcp hpower hkeys
  refine ⟨fun hstage href hpll hheld htrip => ?_, fun hstage href => ?_, stageChange_primer hcp hpower hkeys,
    fun c => stageChange_fwLoad hcp hpower hkeys, fun hstage => ⟨_, stageChange_memTrain hcp hpower hkeys hstage, bootTrain_spec s b⟩,
    fun hstage hlane => ?_, ?_, fun hstage => ?_, stageChange_restarting hcp hpower hkeys⟩
  · refine ⟨_, stageChange_reset hcp hpower hkeys hstage, ?_⟩
    rw [if_pos (by simp [href, hpll, hheld, htrip])]
    exact ⟨setStage_stage .., List.mem_cons_of_mem _ List.mem_cons_self⟩
  · rw [stageChange_reset hcp hpower hkeys hstage, if_neg (by simp [href])]
  · rw [stageChange_dieCheck hcp hpower hkeys hstage, bootCheck, if_pos (by simp [hlane])]
  · rintro s1 hstage hlane rfl
    exact ⟨_, stageChange_dieCheck hcp hpower hkeys hstage, bootCheck_spec hlane⟩
  · obtain ⟨u, hexec, hbooted⟩ := stageChange_linkBringUp (b := b) hcp hpower hkeys hstage
    exact ⟨u, hexec, congrArg (·.1) hbooted, congrArg (·.2) hbooted⟩

end Sys2Proof.Machine

/-! ## Firmware commands (19) -/

namespace Sys2Proof.Machine

/-! ### Requests that wait, after an answer (R316, R326) -/

/-- Which request waits depends on the sessions only through whether they are open. -/
theorem nextRequest_of_open {s t : State} (h : t.hub.sansFuncs = s.hub.sansFuncs) (hn : ∀ n, (t.nsp n).isOpen = (s.nsp n).isOpen) :
    t.nextRequest = s.nextRequest := by
  have hlinks : t.hub.links = s.hub.links := (congrArg Hub.links h :)
  have hstraps : t.hub.straps = s.hub.straps := (congrArg Hub.straps h :)
  have hcp : t.hub.cpFailed = s.hub.cpFailed := (congrArg Hub.cpFailed h :)
  have hstage : t.hub.stage = s.hub.stage := (congrArg Hub.stage h :)
  have haccepted : t.hub.accepted = s.hub.accepted := (congrArg Hub.accepted h :)
  have huse : t.inUse = s.inUse := by
    funext f
    unfold State.inUse State.link
    rw [hlinks, hstraps]
  have hserves : t.serves = s.serves := by
    funext r
    unfold State.serves
    rw [hcp, hstage, huse, hn]
  rw [State.nextRequest, State.nextRequest, haccepted, hserves]

theorem nspSend_hub (s : State) (n type : Nat) (nseq : BitVec 16) (words : List Word) : (nspSend s n type nseq words).hub = s.hub :=
  (nspSend_does s n type nseq words).same.hub (by decide)

theorem nspSend_nsp (s : State) (n type : Nat) (nseq : BitVec 16) (words : List Word) (m : Nat) :
    (nspSend s n type nseq words).nsp m = s.nsp m :=
  State.nsp_of_service ((nspSend_does s n type nseq words).same.service (by decide)) m

/-- A response posted leaves the hub but for the sender's function. -/
theorem respond_sansFuncs (s : State) (r : Req) (status : Nat) (trunc : Bool) (payload : List Word) :
    (respond s r status trunc payload).hub.sansFuncs = s.hub.sansFuncs := by
  unfold respond
  extract_lets msg
  split
  · split
    · rw [signal_sansFuncs, State.modFunc_sansFuncs]
    · rfl
  · rw [(State.modNsp_does ..).same.hub (by decide), nspSend_hub]

theorem respond_nsp_open (s : State) (r : Req) (status : Nat) (trunc : Bool) (payload : List Word) (n : Nat) :
    ((respond s r status trunc payload).nsp n).isOpen = (s.nsp n).isOpen := by
  unfold respond
  extract_lets msg
  split
  · split
    · rw [State.nsp_of_service ((signal_does ..).same.service (by decide))]
      rfl
    · rfl
  · rw [State.modNsp_nsp]
    split
    · next hn =>
      have hsame : ∀ u : State, u.nsp n = u.nsp (r.src - 64) := fun u => by
        unfold State.nsp
        by_cases hz : n = 0
        · rw [if_pos hz, if_pos (hn.1 hz)]
        · rw [if_neg hz, if_neg fun h => hz (hn.2 h)]
      show ((nspSend _ _ _ _ _).nsp _).isOpen = _
      rw [nspSend_nsp, hsame]
    · rw [nspSend_nsp]

theorem endRequest_waits {s : State} (h : s.nextRequest ≠ none) : (endRequest s).hub.restartDue = s.hub.restartDue := by
  have hnext : (s.modHub fun h => { h with reqAt := none }).nextRequest = s.nextRequest := rfl
  rw [endRequest, beginDue, if_neg (by rw [hnext]; simp [Option.isNone_iff_eq_none, h])]
  rfl

theorem endRequest_restarts {s : State} (hdue : s.hub.restartDue = true) (hcp : s.hub.cpFailed = false) (hstage : s.hub.stage = .ready)
    (h : s.nextRequest = none) : (endRequest s).hub.stage = .restarting := by
  have hnext : (s.modHub fun h => { h with reqAt := none }).nextRequest = s.nextRequest := rfl
  rw [endRequest, beginDue, if_pos (by rw [hnext]; simp [hdue, hcp, hstage, h])]
  exact (congrArg Hub.stage (beginRestart_sansFuncs _) :)

section
variable {s : State} (hreq : s.hub.reqAt ≠ none) (hcp : s.hub.cpFailed = false) (hstage : s.hub.stage = .ready)
include hreq hcp hstage

/-- A restart that an accepted command brings begins with that command's answer, once no other request waits (R326). -/
theorem acceptedTo_enterRestart (r : Req) (c : Option Nat) :
    (s.nextRequest = none → (acceptedTo (enterRestart s) r c).hub.stage = .restarting) ∧
    (s.nextRequest ≠ none → (acceptedTo (enterRestart s) r c).hub.restartDue = true) := by
  have hhub : (respond (startLong (enterRestart s) r (cut r) c) r 1 (cut r) []).hub.sansFuncs =
      { s.hub.sansFuncs with restartDue := true } := by
    rw [respond_sansFuncs, startLong, State.modFunc_sansFuncs, enterRestart_due (.inl hreq), State.modHub_hub, closeWindows_hub]
    rfl
  have hopen : ∀ n, ((respond (startLong (enterRestart s) r (cut r) c) r 1 (cut r) []).nsp n).isOpen = (s.nsp n).isOpen := by
    intro n
    rw [respond_nsp_open, startLong]
    show ((enterRestart s).nsp n).isOpen = _
    rw [enterRestart_due (.inl hreq)]
    exact congrArg Nsp.isOpen (closeWindows_nsp s _ n)
  have hnext : (respond (startLong (enterRestart s) r (cut r) c) r 1 (cut r) []).nextRequest = s.nextRequest :=
    nextRequest_of_open (s := s.modHub fun h => { h with restartDue := true }) hhub hopen
  unfold acceptedTo replied
  generalize respond (startLong (enterRestart s) r (cut r) c) r 1 (cut r) [] = u at hhub hnext
  have hdue : u.hub.restartDue = true := (congrArg Hub.restartDue hhub :)
  refine ⟨fun h => endRequest_restarts hdue ?_ ?_ (hnext.trans h), fun h => (endRequest_waits (hnext ▸ h)).trans hdue⟩
  · exact (congrArg Hub.cpFailed hhub :).trans hcp
  · exact (congrArg Hub.stage hhub :).trans hstage

end

/-- A request that is taken runs on a control processor, and the hub knows its time. -/
theorem takeRequest_hub {s s1 : State} {r : Req} (h : takeRequest s r = some s1) : s1.hub.cpFailed = false ∧ s1.hub.reqAt ≠ none := by
  have hserves : s.serves r = true := by
    by_contra hno
    simp [takeRequest, hno] at h
  have hcp : s.hub.cpFailed = false := by
    simp only [State.serves, Bool.and_eq_true] at hserves
    simpa using hserves.1
  rw [takeRequest, if_neg (by simp [hserves])] at h
  split at h
  · split at h
    · cases h
      exact ⟨hcp, Option.some_ne_none _⟩
    · cases h
  · extract_lets s2 at h
    split at h
    · split at h
      · cases h
      · cases h
        exact ⟨hcp, Option.some_ne_none _⟩
    · rw [← Option.some.inj h]
      exact ⟨hcp, Option.some_ne_none _⟩

/-! ### FW_LOAD (R509) -/

/-- A header write takes the next HSEQ. -/
theorem Firmware.header_hseq (f : Firmware) (a b : SlotState) (h : f.head.hseq ≠ 0xFFFFFFFF) :
    (f.header a b).head.hseq = f.head.hseq + 1 := by
  unfold Firmware.head at h
  simp only [Firmware.header, Firmware.head]
  split at h
  · next h0 =>
    have h1 : ¬ f.hdr1.hseq < f.hdr0.hseq := by bv_omega
    have h2 : ¬ f.hdr1.hseq + 1 < f.hdr1.hseq := by bv_omega
    simp only [h0, h1, h2, if_true, if_false]
  · next h0 =>
    by_cases h1 : f.hdr1.hseq < f.hdr0.hseq
    · have h2 : f.hdr0.hseq < f.hdr0.hseq + 1 := by bv_omega
      simp only [h0, h1, h2, if_true, if_false]
    · have h2 : ¬ f.hdr0.hseq + 1 < f.hdr1.hseq := by bv_omega
      simp only [h0, h1, h2, if_false]

theorem Firmware.setSlot_hseq (f : Firmware) (k : Bool) (x : SlotState) (h : f.head.hseq ≠ 0xFFFFFFFF) :
    (f.setSlot k x).head.hseq = f.head.hseq + 1 := by
  unfold Firmware.setSlot
  split
  · exact Firmware.header_hseq f _ _ h
  · exact Firmware.header_hseq f _ _ h

/-- `s` with slot `b` being written with image `x` for the request `r`. -/
def fwLoading (s : State) (r : Req) (b : Bool) (x : Image) : State :=
  (s.modFirmware fun f => f.setSlot b .writing).modFirmware fun f =>
    { f with imageA := if b then f.imageA else some x, imageB := if b then some x else f.imageB
             job := some (.load r.who (s.nextLong r.who) b) }

section
variable {s : State} {r : Req} {b : Bool} {x : Image} (hb : b = bit (r.word 0) 0) (hlen : fld (r.word 0) 63 32 ≠ 0)
  (hlen' : fld (r.word 0) 63 32 ≠ 0xFFFFFFFF) (hfits : fld (r.word 0) 63 32 ≤ stagingBytes)
  (hrun : s.hub.fwValid = true → s.hub.fwSlotB ≠ b) (htrial : s.inTrial = true → s.firmware.slot b ≠ .confirmed)
  (hidle : s.fwBusy = false) (hrelay : s.firmware.relay = none)
  (himage : parseImage (memRead (s.nsp (r.src - 64)).staging 0 (fld (r.word 0) 63 32)) = some x) (hpass : imagePasses s x = true)
include hb hlen hlen' hfits hrun htrial hidle hrelay himage hpass

theorem fwLoadBody_accepts : fwLoadBody s r = .accepted (fwLoading s r b x) := by
  subst hb
  have hfree : ¬ ((s.hub.fwValid && decide (s.hub.fwSlotB = bit (r.word 0) 0)) ||
      (s.inTrial && decide (s.firmware.slot (bit (r.word 0) 0) = .confirmed))) = true := by
    simp only [Bool.or_eq_true, Bool.and_eq_true, decide_eq_true_eq]
    rintro (⟨hv, hs⟩ | ⟨ht, hs⟩)
    · exact hrun hv hs
    · exact htrial ht hs
  have hread : (parseImage (memRead (s.nsp (r.src - 64)).staging 0 (min (fld (r.word 0) 63 32) stagingBytes))).filter (imagePasses s) =
      some x := by
    rw [Nat.min_eq_left hfits, himage, Option.filter_some, if_pos hpass]
  unfold fwLoadBody
  extract_lets b length image s1
  have himg : image = some x := hread
  clear_value image
  subst himg
  rw [if_neg hlen, if_neg hlen', if_neg hfree, if_neg (by simp [hidle, hrelay]), if_neg (by simp)]
  rfl

end

theorem fwLoading_spec {s : State} (r : Req) (b : Bool) (x : Image) (hseq : s.firmware.head.hseq ≠ 0xFFFFFFFF) :
    (fwLoading s r b x).firmware.slot b = .writing ∧ (fwLoading s r b x).firmware.image b = some x ∧
    (fwLoading s r b x).firmware.slot (!b) = s.firmware.slot (!b) ∧ (fwLoading s r b x).firmware.head.hseq = s.firmware.head.hseq + 1 := by
  have hslot : ∀ j, (fwLoading s r b x).firmware.slot j = if j = b then .writing else s.firmware.slot j :=
    fun j => Firmware.setSlot_slot s.firmware b j .writing hseq
  refine ⟨by rw [hslot, if_pos rfl], ?_, by rw [hslot, if_neg (by cases b <;> decide)], Firmware.setSlot_hseq s.firmware b .writing hseq⟩
  cases b
  · rfl
  · rfl

theorem fwLoadComplete_ends {s : State} {src id : Nat} {b : Bool} (ok : Bool) (hjob : s.firmware.job = some (.load src id b))
    (hcp : s.hub.cpFailed = false) : exec (.fwLoadComplete ok) s = .next (finishLong (s.modFirmware fun f =>
      { f.setSlot b (if ok then .loaded else .bad) with job := none }) src id (if ok then 0 else 4)) := by
  show execFwLoadComplete ok s = _
  rw [execFwLoadComplete, hjob]
  exact congrArg Host.Outcome.next (if_neg (by simp [hcp]))

/-! ### FW_ACTIVATE (R510, R513) -/

/-- `s` with the activation of slot `b` recorded. -/
def activating (s : State) (r : Req) (b : Bool) : State :=
  s.modFirmware fun f => { f with job := some (.activate r.who (s.nextLong r.who) b), activations := f.activations + 1 }

/-- The state in which an activation of slot `b` restarts the control processor: into a LOADED image as a trial, or else back to the
CONFIRMED one. -/
def activated (s : State) (r : Req) (b : Bool) : State :=
  if s.firmware.slot b = .loaded then
    setRunning ((activating s r b).modFirmware fun f => { f.setSlot b .trial with trialAt := none }) b true
  else fallenBack (activating s r b) 2 b

section
variable {s : State} {r : Req} {b : Bool} {x : Image} (hb : b = bit (r.word 0) 0) (hstage : s.hub.stage = .ready)
  (hidle : s.fwBusy = false) (hchange : ∀ c, c < 4 → (s.canvas c).change = none) (hcopy : s.dies.twin.state ≠ .copy)
  (hverify : s.dies.twin.state ≠ .verify) (hpower : s.clocks.change = none) (himage : s.firmware.image b = some x)
  (hpass : imagePasses s x = true)
  (hslot : (s.firmware.slot b = .loaded ∧ s.inTrial = false ∧ settingsFit s x = true) ∨
    (s.firmware.find .confirmed = some b ∧ s.inTrial = true))
include hb hstage hidle hchange hcopy hverify hpower himage hpass hslot

theorem fwActivateBody_accepts : fwActivateBody s r = .accepted (enterRestart (activated s r b)) := by
  subst hb
  have hstill : ((List.range 4).any fun c => (s.canvas c).change.isSome) = false :=
    List.any_eq_false.2 fun c hc => by simp [hchange c (List.mem_range.1 hc)]
  unfold fwActivateBody activated
  extract_lets b st busy
  rw [if_neg (by simp [hstage])]
  have hbusy : ¬ busy = true := by simp [busy, hidle, hstill, hcopy, hverify, hpower]
  rcases hslot with ⟨hloaded, htrial, hfit⟩ | ⟨hfind, htrial⟩
  · have hst : st = .loaded := hloaded
    rw [if_neg (by simp [htrial]), if_neg (by simp [hst]), if_neg hbusy, himage]
    dsimp only
    rw [if_neg (by simp [hfit, hpass]), if_neg (by simp [hst]), if_pos hst]
    rfl
  · have hst : st = .confirmed := Firmware.slot_of_find hfind
    rw [if_neg (by simp [hst]), if_neg (by simp [hst, htrial]), if_neg hbusy, himage]
    dsimp only
    rw [if_neg (by simp [hst, hpass]), if_pos hst,
      if_neg (by rw [Firmware.slot_of_find hfind]; decide)]
    exact congrArg Ans.accepted (beginFallBack_found (s := activating s r b) 2 hfind)

end

theorem activated_hub (s : State) (r : Req) (b : Bool) : (activated s r b).hub.fwSlotB = b ∧
    (activated s r b).hub.unconfirmed = decide (s.firmware.slot b = .loaded) ∧
    (activated s r b).hub.reqAt = s.hub.reqAt ∧ (activated s r b).hub.cpFailed = s.hub.cpFailed ∧
    (activated s r b).hub.stage = s.hub.stage ∧ (activated s r b).nextRequest = s.nextRequest := by
  unfold activated
  split
  · next hloaded => exact ⟨rfl, (decide_eq_true hloaded).symm, rfl, rfl, rfl, rfl⟩
  · next hother =>
    have hhub := fallenBack_hub (activating s r b) 2 b
    exact ⟨congrArg Hub.fwSlotB hhub, (congrArg Hub.unconfirmed hhub).trans (decide_eq_false hother).symm, (congrArg Hub.reqAt hhub :),
      (congrArg Hub.cpFailed hhub :), (congrArg Hub.stage hhub :), fallenBack_nextRequest (activating s r b) 2 b⟩

theorem activated_firmware {s : State} (r : Req) (b : Bool) (hseq : s.firmware.head.hseq ≠ 0xFFFFFFFF) :
    (activated s r b).firmware.activations = s.firmware.activations + 1 ∧
    (s.firmware.slot b = .loaded → (activated s r b).firmware.slot b = .trial) := by
  have hcount : ∀ (f : Firmware) (k : Bool) (y : SlotState), (f.setSlot k y).activations = f.activations := by
    intro f k y
    unfold Firmware.setSlot Firmware.header
    split <;> split <;> rfl
  unfold activated
  split
  · exact ⟨hcount .., fun _ => (Firmware.setSlot_slot (activating s r b).firmware b b .trial hseq).trans (if_pos rfl)⟩
  · next hother =>
    rw [fallenBack_firmware]
    exact ⟨hcount .., fun hloaded => absurd hloaded hother⟩

theorem fwActivateComplete_ends {s : State} {src id : Nat} {b : Bool} (hjob : s.firmware.job = some (.activate src id b))
    (hcp : s.hub.cpFailed = false) (hstage : s.hub.stage = .ready) (hmc : s.mcBusy = false) (hfall : s.firmware.fallBack = none)
    (hslot : s.hub.fwSlotB = b) :
    exec .fwActivateComplete s = .next (finishLong (s.modFirmware fun f => { f with job := none }) src id 0) := by
  show execFwActivateComplete s = _
  rw [execFwActivateComplete, hjob]
  exact congrArg Host.Outcome.next ((if_neg (by simp [hcp, hstage, hmc, hfall])).trans (if_pos hslot))

/-! ### FW_CONFIRM (R514) -/

theorem slotConfirmed_slot {s : State} {b : Bool} (hseq : s.firmware.head.hseq ≠ 0xFFFFFFFF) :
    (slotConfirmed s b).firmware.slot b = .confirmed ∧
    (s.firmware.slot (!b) = .confirmed → (slotConfirmed s b).firmware.slot (!b) = .loaded) := by
  have hother : s.firmware.slot (!b) = .confirmed → (if s.firmware.slot (!b) = .confirmed then SlotState.loaded
      else s.firmware.slot (!b)) = .loaded := fun h => if_pos h
  have hstate := fun x y => Firmware.header_state s.firmware x y hseq
  cases b
  · exact ⟨(hstate .confirmed _).1, fun h => (hstate .confirmed _).2.trans (hother h)⟩
  · exact ⟨(hstate _ .confirmed).2, fun h => (hstate _ .confirmed).1.trans (hother h)⟩

/-- `s` with slot `b` confirmed, and the fuse at the image's version where it is higher and can be written. -/
def fwConfirmed (s : State) (b fuseOk : Bool) : State :=
  if imageSvn s b ≤ s.firmware.svnFuse then slotConfirmed s b
  else if fuseOk then (slotConfirmed s b).modFirmware fun f => { f with svnFuse := imageSvn s b }
  else raise (slotConfirmed s b) 220 7 0

theorem fwConfirmed_hub (s : State) (b fuseOk : Bool) : (fwConfirmed s b fuseOk).hub.unconfirmed = false := by
  unfold fwConfirmed
  split
  · rfl
  split
  · rfl
  · rw [raise_hub]
    rfl

/-- A confirmation changes the fuse beside the slots, and never lowers it (R514). -/
theorem fwConfirmed_firmware (s : State) (b fuseOk : Bool) : (fwConfirmed s b fuseOk).firmware = { (slotConfirmed s b).firmware with
    svnFuse := if fuseOk then max s.firmware.svnFuse (imageSvn s b) else s.firmware.svnFuse } := by
  have hfuse := slotConfirmed_fuse s b
  unfold fwConfirmed
  split
  · next hlow =>
    rw [Nat.max_eq_left hlow, ite_self, ← hfuse]
  · next hhigh =>
    cases fuseOk
    · rw [if_neg (by decide), if_neg (by decide), raise_firmware, ← hfuse]
    · rw [if_pos rfl, if_pos rfl, Nat.max_eq_right (Nat.le_of_not_le hhigh)]
      rfl

theorem okBody_ok {op : JcsOp} {r : Req} {s s1 : State} (h : Served op r s s1) : jcs op okBody r s = okTo s1 r [] :=
  jcs_ok h rfl (Nat.zero_le 511)

theorem takes_of_served {op : JcsOp} {r : Req} {s s1 : State} (h : Served op r s s1) : takes op r s = true := by
  simp [takes, h.opcode, h.taken, h.len, h.entitled]

theorem haltPackage_die (s : State) (code : Nat) (d : DieId) : ((haltPackage s code).die d).running = false := by
  rw [haltPackage, (setStage_does _ .halted).same.die (by decide), (State.modHub_does ..).same.die (by decide), roleChange_die,
    holdDie_die, holdDie_die]
  cases d
  · rw [if_neg (by decide), if_pos rfl]
    rfl
  · rw [if_pos rfl]
    rfl

theorem haltPackage_stops (s : State) (code : Nat) :
    (haltPackage s code).dies.a.running = false ∧ (haltPackage s code).dies.b.running = false := by
  have ha := haltPackage_die s code .a
  have hb := haltPackage_die s code .b
  generalize haltPackage s code = u at ha hb
  exact ⟨ha, hb⟩

/-- Settles O51: each command's answer by its body, its ends by the lemmas about them. -/
theorem firmwareCommands : Obligations.FirmwareCommands := by
  intro r s s1 b ok src id x f
  refine ⟨fun hserved hb hlen hlen' hfits hrun htrial hidle hrelay hseq himage hpass => ?_, fwLoadComplete_ends ok,
    fun hserved hb hstage hseq hidle hchange hcopy hverify hpower himage hpass hslot => ?_, fwActivateComplete_ends,
    fun hserved hnone => ?_, fun hserved hsome hmc => ?_, fun hserved htrial himage hmc hseq => ?_, ?_, fun hserved => ?_,
    fun hserved => ?_⟩
  · have hbody := fwLoadBody_accepts hb hlen hlen' hfits hrun htrial hidle hrelay himage hpass
    exact ⟨_, congrArg Host.Outcome.next (jcs_accepted hserved hbody), fwLoading_spec r b x hseq⟩
  · have hbody := fwActivateBody_accepts hb hstage hidle hchange hcopy hverify hpower himage hpass hslot
    obtain ⟨hrun, htrial, hreq, hcp, hst, hnext⟩ := activated_hub s1 r b
    obtain ⟨hcount, hslot'⟩ := activated_firmware r b hseq
    obtain ⟨hruns, hasked⟩ := takeRequest_hub hserved.taken
    obtain ⟨hnow, hdue⟩ := acceptedTo_enterRestart (s := activated s1 r b) (hreq ▸ hasked) (hcp.trans hruns) (hst.trans hstage) r none
    obtain ⟨hkrun, hktrial, -⟩ := enterRestart_running (activated s1 r b)
    rw [hnext] at hnow hdue
    refine ⟨_, _, congrArg Host.Outcome.next (jcs_accepted hserved hbody), rfl, hnow, hdue, hkrun.trans hrun, hktrial.trans htrial, ?_, ?_⟩
    · rw [enterRestart_firmware, hcount]
    · rw [enterRestart_firmware]
      exact hslot'
  · refine congrArg Host.Outcome.next (jcs_refused hserved ?_ (by decide))
    rw [fwConfirmBody, hnone]
    rfl
  · refine congrArg Host.Outcome.next (jcs_refused hserved ?_ (by decide))
    obtain ⟨b', hb'⟩ := Option.ne_none_iff_exists'.1 hsome
    rw [fwConfirmBody, hb']
    exact if_pos hmc
  · obtain ⟨w, hbody⟩ : ∃ w, fwConfirmBody ok s1 r = .ok (raise (fwConfirmed s1 b ok) 220 4 w) := fwConfirmBody_trial ok r htrial hmc
    obtain ⟨hconfirmed, hother⟩ := slotConfirmed_slot (b := b) hseq
    have hsvn : imageSvn s1 b = x.svn := by rw [imageSvn, himage]; rfl
    refine ⟨_, congrArg Host.Outcome.next (jcs_ok hserved hbody (Nat.zero_le 511)), ?_⟩
    rw [raise_firmware, raise_hub, fwConfirmed_hub, fwConfirmed_firmware, hsvn]
    exact ⟨hconfirmed, rfl, rfl, rfl, hother⟩
  · rintro hserved rfl
    exact congrArg Host.Outcome.next (jcs_ok hserved rfl (Nat.le_of_ble_eq_true rfl))
  · refine congrArg Host.Outcome.next ?_
    rw [okBody_ok hserved, if_pos (takes_of_served hserved)]
  · refine ⟨haltPackage (okTo s1 r []) 6, congrArg Host.Outcome.next ?_, ?_⟩
    · rw [okBody_ok hserved, if_pos (takes_of_served hserved)]
    · obtain ⟨hstage, hhalt⟩ := haltPackage_halts (okTo s1 r []) 6
      exact ⟨hstage, hhalt, haltPackage_stops ..⟩

end Sys2Proof.Machine

/-! ## The service port (19) -/

namespace Sys2Proof.Machine

/-! ### Sessions (R505, R506) -/

/-- A session number below 2 names the session that it changes. -/
theorem State.modNsp_self (s : State) (n : Nat) (f : Nsp → Nsp) : (s.modNsp n f).nsp n = f (s.nsp n) := by
  rw [State.modNsp_nsp, if_pos Iff.rfl]

theorem State.modNsp_uptime (s : State) (n : Nat) (f : Nsp → Nsp) : (s.modNsp n f).uptime = s.uptime :=
  (State.modNsp_does s n f).same.uptime (by decide) (by decide)

theorem freeSession_closed {s : State} {n : Nat} (h : (s.nsp 0).isOpen = false ∨ (s.nsp 1).isOpen = false) :
    (s.nsp (freeSession s n)).isOpen = false := by
  unfold freeSession
  by_cases hn : n = 0
  · subst hn
    cases h0 : (s.nsp 0).isOpen with
    | false => simp [h0]
    | true => simpa [h0] using h
  · have hnsp : s.nsp n = s.nsp 1 := by rw [State.nsp, State.nsp, if_neg hn, if_neg (by decide)]
    cases h1 : (s.nsp 1).isOpen with
    | false => simp [hnsp, h1, hn]
    | true => simpa [hnsp, h1, hn] using h

section
variable {s : State} {c : Cert} (hserved : s.nspServed = true)
include hserved

theorem nspHandshake_opens {n : Nat} (hfree : (s.nsp 0).isOpen = false ∨ (s.nsp 1).isOpen = false) (hcert : certOk s c = true) :
    exec (.nspHandshake n c true) s = .next (raise (s.modNsp (freeSession s n) fun _ => { isOpen := true, lastAt := s.uptime }) 220 2
      (put (freeSession s n) 1 1)) := by
  have hroom : ((s.nsp 0).isOpen && (s.nsp 1).isOpen) = false := by
    rcases hfree with h | h
    · rw [h, Bool.false_and]
    · rw [h, Bool.and_false]
  exact congrArg Host.Outcome.next ((if_neg (by simp [hserved])).trans (if_neg (by simp [hroom, hcert])))

theorem nspHandshake_refused {n : Nat} {suite : Bool}
    (h : certOk s c = false ∨ suite = false ∨ ((s.nsp 0).isOpen = true ∧ (s.nsp 1).isOpen = true)) :
    ∃ w, exec (.nspHandshake n c suite) s = .next (raise s 220 8 w) := by
  refine ⟨_, congrArg Host.Outcome.next ((if_neg (by simp [hserved])).trans (if_pos ?_))⟩
  rcases h with h | h | ⟨h0, h1⟩
  · simp [h]
  · simp [h]
  · simp [h0, h1]

end

/-- A session that is closed holds nothing, and no restart gives it anything (R506). -/
theorem dropRequests_closed {s : State} {n : Nat} (h : s.nsp n = {}) : (dropRequests s).nsp n = {} := by
  show (State.each s _ _).nsp n = {}
  refine State.each_preserves (fun u => u.nsp n = {}) _ _ (fun u x hu => ?_) h
  split
  · exact hu
  · rw [State.modNsp_nsp]
    split
    · next hsame =>
      have hnsp : u.nsp (x.2.src - 64) = u.nsp n := by
        unfold State.nsp
        by_cases hn : n = 0
        · rw [if_pos hn, if_pos (hsame.1 hn)]
        · rw [if_neg hn, if_neg fun h => hn (hsame.2 h)]
      rw [hnsp, hu]
    · exact hu

theorem beginDue_closed {s : State} {n : Nat} (h : s.nsp n = {}) : (beginDue s).nsp n = {} := by
  unfold beginDue
  split
  · rw [beginRestart, State.nsp_of_service ((setStage_does _ _).same.service (by decide))]
    refine dropRequests_closed ?_
    rw [State.nsp_of_service ((lapseProposal_does _ 2).same.service (by decide))]
    exact h
  · exact h

/-- `s` with session `n` cleared and its requests gone, and its proposal lapsed. -/
def sessionCleared (s : State) (n : Nat) : State :=
  let s1 := (s.modNsp n fun _ => {}).modHub fun h => { h with accepted := h.accepted.filter fun x => x.2.src ≠ 64 + n }
  match s1.plt.proposal with
  | some p => if p.session = some n then lapseProposal s1 1 else s1
  | none => s1

theorem sessionCleared_spec (s : State) (n : Nat) : (sessionCleared s n).nsp n = {} ∧
    ∀ q ∈ (sessionCleared s n).hub.accepted, q.2.src ≠ 64 + n := by
  have hbase : ∀ u : State, u.service = (s.modNsp n fun _ => {}).service →
      u.hub.accepted = s.hub.accepted.filter (fun x => x.2.src ≠ 64 + n) →
      u.nsp n = {} ∧ ∀ q ∈ u.hub.accepted, q.2.src ≠ 64 + n := by
    intro u hservice haccepted
    refine ⟨(State.nsp_of_service hservice n).trans (State.modNsp_self ..), fun q hq => ?_⟩
    rw [haccepted] at hq
    simpa using (List.mem_filter.1 hq).2
  have haccepted : ((s.modNsp n fun _ => {}).modHub fun h =>
      { h with accepted := h.accepted.filter fun x => x.2.src ≠ 64 + n }).hub.accepted =
      s.hub.accepted.filter (fun x => x.2.src ≠ 64 + n) := by
    rw [State.modHub_hub, (State.modNsp_does ..).same.hub (by decide)]
  unfold sessionCleared
  extract_lets s1
  split
  · split
    · exact hbase _ ((lapseProposal_does s1 1).same.service (by decide)) (by rw [lapseProposal_hub]; exact haccepted)
    · exact hbase s1 rfl haccepted
  · exact hbase s1 rfl haccepted

theorem closeSession_open {s : State} {n : Nat} (h : (s.nsp n).isOpen = true) :
    closeSession s n = beginDue (raise (sessionCleared s n) 220 2 (putB true 0 ||| put n 1 1)) := by
  rw [closeSession, if_neg (by simp [h])]
  rfl

theorem closeSession_spec {s : State} {n : Nat} (h : (s.nsp n).isOpen = true) : (closeSession s n).nsp n = {} ∧
    ∀ q ∈ (closeSession s n).hub.accepted, q.2.src ≠ 64 + n := by
  obtain ⟨hnsp, hgone⟩ := sessionCleared_spec s n
  rw [closeSession_open h]
  refine ⟨beginDue_closed ((State.nsp_of_service (raise_service ..) n).trans hnsp), fun q hq => ?_⟩
  rcases beginDue_accepted (raise (sessionCleared s n) 220 2 (putB true 0 ||| put n 1 1)) with hsame | hnone
  · rw [hsame, raise_hub] at hq
    exact hgone q hq
  · rw [hnone] at hq
    cases hq

/-! ### Messages of an open session (R507) -/

section
variable {s : State} {n : Nat} (hopen : s.nspOpen n = true)
include hopen

theorem nspJcsRequest_runs {h : Word} {ws : List Word} (htype : fld h 7 0 = 1) : exec (.nspJcsRequest n h ws) s = .next
    (if (s.nsp n).pendingReq then touch s n else takeFragment (touch s n) n h ws) :=
  congrArg Host.Outcome.next (if_neg (by simp [hopen, htype]))

end

theorem touch_nsp (s : State) (n : Nat) : (touch s n).nsp n = { s.nsp n with lastAt := s.uptime } := State.modNsp_self ..

/-- The first fragment of a request, of the right size, replaces what the session had of another. -/
theorem takeFragment_first {s : State} {n : Nat} {h : Word} {ws : List Word} (hfirst : fld h 11 8 = 0)
    (hsized : fld h 63 32 = 8 * ws.length ∧ ws.length ≤ 161 ∧ (bit h 12 = true → ws.length = 161))
    (hfresh : (s.nsp n).frags = [] ∨ (s.nsp n).fragSeq ≠ BitVec.ofNat 16 (fld h 31 16)) : takeFragment s n h ws =
      if bit h 12 then s.modNsp n fun y => { y with frags := [ws], fragSeq := BitVec.ofNat 16 (fld h 31 16), fragAt := s.uptime }
      else submitNsp s n (BitVec.ofNat 16 (fld h 31 16)) ws := by
  obtain ⟨hlen, hmax, hmore⟩ := hsized
  have hok : (decide (fld h 63 32 = 8 * ws.length) && decide (ws.length ≤ 161) && (!bit h 12 || decide (ws.length = 161))) = true := by
    cases hb : bit h 12
    · simp [hlen, hmax]
    · simp [hlen, hmore hb]
  have hfollows : ((s.nsp n).frags.isEmpty || decide ((s.nsp n).fragSeq ≠ BitVec.ofNat 16 (fld h 31 16))) = true := by
    rcases hfresh with hf | hf <;> simp [hf]
  unfold takeFragment
  extract_lets x frag more nseq sized follows before
  have hbefore : before = [] := if_pos hfirst
  have hsized : sized = true := hok
  have hzero : frag = 0 := hfirst
  have hfollows' : follows = true := by
    refine Bool.or_eq_true_iff.2 (.inl (Bool.and_eq_true_iff.2 ⟨decide_eq_true hzero, hfollows⟩))
  have hat : (fun y : Nsp => { y with frags := before ++ [ws], fragSeq := nseq, fragAt := if frag = 0 then s.uptime else y.fragAt }) =
      fun y => { y with frags := [ws], fragSeq := nseq, fragAt := s.uptime } := by
    rw [hbefore]
    exact funext fun y => congrArg (fun a => ({ y with frags := [ws], fragSeq := nseq, fragAt := a } : Nsp)) (if_pos hzero)
  rw [if_neg (by simp [hsized, hfollows']), hat, hbefore]
  simp only [List.nil_append, List.flatten_singleton]
  rfl

theorem submitNsp_ready {s : State} {n : Nat} {w : Word} {ws : List Word} (nseq : BitVec 16) (hstage : s.hub.stage ≠ .restarting) :
    submitNsp s n nseq (w :: ws) = (s.modNsp n fun x => { x with frags := [], pendingReq := true, nseq := nseq }).modHub fun k =>
      { k with accepted := k.accepted ++ [(s.wall, ⟨64 + n, w, ws⟩)] } := if_neg hstage

section
variable {s : State} {n : Nat} {h : Word} (hopen : s.nspOpen n = true) (htype : fld h 7 0 = 1) (hfirst : fld h 11 8 = 0)
  (hidle : (s.nsp n).pendingReq = false)
include hopen htype hfirst hidle

theorem nspJcsRequest_whole {w : Word} {ws : List Word} (hlast : bit h 12 = false) (hmax : ws.length ≤ 160)
    (hlen : fld h 63 32 = 8 * (ws.length + 1))
    (hfresh : (s.nsp n).frags = [] ∨ (s.nsp n).fragSeq ≠ BitVec.ofNat 16 (fld h 31 16)) (hstage : s.hub.stage ≠ .restarting) :
    ∃ u, exec (.nspJcsRequest n h (w :: ws)) s = .next u ∧ u.hub.accepted = s.hub.accepted ++ [(s.wall, ⟨64 + n, w, ws⟩)] ∧
      (u.nsp n).pendingReq = true ∧ (u.nsp n).nseq = BitVec.ofNat 16 (fld h 31 16) := by
  have hhub : (touch s n).hub = s.hub := (State.modNsp_does ..).same.hub (by decide)
  have hwall : (touch s n).wall = s.wall := 
    congrArg (fun t : Time => (t.counter >>> 32).toNat) ((touch_does s n).same.time (by decide))
  have hfirst' := takeFragment_first (s := touch s n) (n := n) (ws := w :: ws) hfirst
    ⟨hlen, Nat.succ_le_succ hmax, fun hb => by simp [hlast] at hb⟩ (by rw [touch_nsp]; exact hfresh)
  rw [hlast, if_neg (by decide), submitNsp_ready _ (by rw [hhub]; exact hstage)] at hfirst'
  refine ⟨_, nspJcsRequest_runs hopen htype, ?_⟩
  rw [hidle, if_neg (by decide), hfirst', hwall, State.modHub_hub, (State.modNsp_does ..).same.hub (by decide), hhub]
  have hnsp := State.modNsp_self (touch s n) n fun x => { x with frags := [], pendingReq := true, nseq := BitVec.ofNat 16 (fld h 31 16) }
  exact ⟨rfl, congrArg Nsp.pendingReq hnsp, congrArg Nsp.nseq hnsp⟩

theorem nspJcsRequest_part {ws : List Word} (hmore : bit h 12 = true) (hws : ws.length = 161) (hlen : fld h 63 32 = 1288)
    (hfresh : (s.nsp n).frags = [] ∨ (s.nsp n).fragSeq ≠ BitVec.ofNat 16 (fld h 31 16)) :
    ∃ u, exec (.nspJcsRequest n h ws) s = .next u ∧ (u.nsp n).frags = [ws] ∧ (u.nsp n).pendingReq = false ∧ u.hub = s.hub := by
  have hfirst' := takeFragment_first (s := touch s n) (n := n) (ws := ws) hfirst
    ⟨by rw [hlen, hws], hws.le, fun _ => hws⟩ (by rw [touch_nsp]; exact hfresh)
  rw [hmore, if_pos rfl] at hfirst'
  refine ⟨_, nspJcsRequest_runs hopen htype, ?_⟩
  rw [hidle, if_neg (by decide), hfirst', State.modNsp_self, touch_nsp, (State.modNsp_does ..).same.hub (by decide)]
  exact ⟨rfl, hidle, (State.modNsp_does ..).same.hub (by decide)⟩

end

/-! ### Registers and anchors (R467, R470, R506, R508) -/

section
variable {s : State} {n : Nat} (hopen : s.nspOpen n = true)
include hopen

theorem nspData_stores {offset : Nat} {bytes : List Byte} (hsome : bytes ≠ []) (hmax : bytes.length ≤ 1024) :
    ∃ u, exec (.nspData n offset bytes) s = .next u ∧
      u.nsp n = { s.nsp n with lastAt := s.uptime, staging := memWrite (s.nsp n).staging offset (bytes.take (stagingBytes - offset)) } := by
  refine ⟨_, congrArg Host.Outcome.next (if_neg (by simp [hopen, hsome, hmax])), ?_⟩
  rw [State.modNsp_self, touch_nsp]

theorem nspRegisterWrite_other {die addr : Nat} {q : BitVec 16} {v : Word} (h : die ≠ 0 ∨ Config.registerIndex 0 addr ≠ 0) :
    exec (.nspRegisterWrite n q die addr v) s = .next (nspRegister (touch s n) n q 4 0) :=
  congrArg Host.Outcome.next ((if_neg (by simp [hopen])).trans (if_pos (by simpa using h)))

theorem nspRegisterWrite_held {addr m : Nat} {q : BitVec 16} {v : Word} (haddr : Config.registerIndex 0 addr = 0)
    (howner : s.clocks.obsOwner = some m) (hm : m ≠ n) :
    exec (.nspRegisterWrite n q 0 addr v) s = .next (nspRegister (touch s n) n q 2 s.clocks.obs) :=
  congrArg Host.Outcome.next ((if_neg (by simp [hopen])).trans ((if_neg (by simp [haddr])).trans (if_pos (by simp [howner, hm]))))

theorem nspRegisterWrite_grants {addr : Nat} {q : BitVec 16} {v : Word} (haddr : Config.registerIndex 0 addr = 0)
    (howner : s.clocks.obsOwner = none ∨ s.clocks.obsOwner = some n) : exec (.nspRegisterWrite n q 0 addr v) s = .next
      (nspRegister ((touch s n).modClocks fun c =>
        { c with obs := obsAfter s v, obsOwner := if bit (obsAfter s v) 16 then some n else none }) n q 0 (obsAfter s v)) :=
  congrArg Host.Outcome.next ((if_neg (by simp [hopen])).trans ((if_neg (by simp [haddr])).trans
    (if_neg (by rcases howner with h | h <;> simp [h]))))

theorem anchor_fuses {l : List Byte} (hlen : l.length = 48) (hroom : s.service.keys.anchors.length < 4)
    (hfuse : s.service.keys.otpOff = false) : exec (.anchor n l) s = .next ((touch s n).modService fun v =>
      { v with keys := { v.keys with anchors := v.keys.anchors ++ [l] } }) :=
  congrArg Host.Outcome.next ((if_neg (by simp [hopen])).trans (if_pos (by simp [hlen, hroom, hfuse])))

theorem anchor_refused {l : List Byte} (h : l.length ≠ 48 ∨ 4 ≤ s.service.keys.anchors.length ∨ s.service.keys.otpOff = true) :
    exec (.anchor n l) s = .next (touch s n) := by
  refine congrArg Host.Outcome.next ((if_neg (by simp [hopen])).trans (if_neg ?_))
  rcases h with h | h | h
  · simp [h]
  · simp [Nat.not_lt.2 h]
  · simp [h]

end

/-- Settles O53: each message and session event by the lemma about it, each register access and anchor by its row. -/
theorem servicePort : Obligations.ServicePort := by
  refine ⟨fun s n offset c h w ws bytes => ?_, fun s s1 n die addr q v l hopen hs1 => ?_⟩
  · refine ⟨fun hserved hfree hcert => ?_, fun suite hserved hno => ?_, fun hopen => congrArg Host.Outcome.next (if_pos hopen),
      fun hopen htype hfirst hlast hidle hmax hlen => nspJcsRequest_whole hopen htype hfirst hidle hlast hmax hlen,
      fun hopen htype hfirst hmore hidle => nspJcsRequest_part hopen htype hfirst hidle hmore, fun hopen htype hpending => ?_,
      fun hidle hlate => ?_, fun hsoon => congrArg Host.Outcome.next (if_pos (by simp [hsoon])),
      fun hsoon => congrArg Host.Outcome.next (if_pos (by simp [hsoon])), fun hopen hsome hmax => ?_, fun hopen hcp _ => ⟨fun hlate => ?_, ?_⟩⟩
    · refine ⟨_, nspHandshake_opens hserved hfree hcert, freeSession_closed hfree, ?_⟩
      rw [State.nsp_of_service (raise_service ..), State.modNsp_self]
      exact ⟨rfl, rfl⟩
    · obtain ⟨word, hexec⟩ := nspHandshake_refused (n := n) hserved hno
      exact ⟨_, hexec, raise_service ..⟩
    · exact (nspJcsRequest_runs hopen htype).trans (congrArg Host.Outcome.next (if_pos hpending))
    · exact congrArg Host.Outcome.next (if_neg (by simp [hidle, hlate]))
    · obtain ⟨u, hexec, hnsp⟩ := nspData_stores (offset := offset) hopen hsome hmax
      exact ⟨u, hexec, congrArg Nsp.staging hnsp, congrArg Nsp.lastAt hnsp⟩
    · exact ⟨_, congrArg Host.Outcome.next (if_neg (by simp [hcp, hlate])), closeSession_spec hopen⟩
    · exact ⟨_, congrArg Host.Outcome.next (if_neg (by simp [hcp])), closeSession_spec hopen⟩
  · obtain rfl : s1 = touch s n := hs1
    refine ⟨fun hdie => ?_, fun hdie => ?_, nspRegisterWrite_other hopen, fun m => nspRegisterWrite_held hopen,
      fun haddr howner => ?_, fun hlen hroom hfuse => ?_, anchor_refused hopen⟩
    · exact congrArg Host.Outcome.next ((if_neg (by simp [hopen])).trans (if_pos hdie))
    · exact congrArg Host.Outcome.next ((if_neg (by simp [hopen])).trans (if_neg (by omega)))
    · refine ⟨_, nspRegisterWrite_grants hopen haddr howner, ?_⟩
      rw [nspRegister, (nspSend_does ..).same.clocks (by decide)]
      exact ⟨rfl, rfl⟩
    · exact ⟨_, anchor_fuses hopen hlen hroom hfuse, congrArg (· ++ [l]) (touch_does s n).anchors, rfl⟩

end Sys2Proof.Machine

/-! ## The test access port and the key store (20) -/

namespace Sys2Proof.Machine

/-! ### Instructions (R526) -/

theorem gatedTap_there {s : State} (code : BitVec 8) (hdone : s.service.keys.done = true) (hoff : s.service.keys.otpOff = true) :
    gatedTap s code = selectTap s code 0 := if_pos (by simp [State.zeroised, hdone, hoff])

theorem gatedTap_bypass {s : State} (code : BitVec 8) (h : s.service.keys.done = false ∨ s.service.keys.otpOff = false) :
    gatedTap s code = selectBypass s := if_neg (by rcases h with h | h <;> simp [State.zeroised, h])

/-! ### KS_ZERO (R527) -/

theorem beginDue_cpFailed {s : State} (h : s.hub.cpFailed = true) : (beginDue s).hub.cpFailed = true := by
  rw [beginDue, if_neg (by simp [h])]
  exact h

theorem State.modLink_cpFailed (s : State) (l : Nat) (g : HostLink → HostLink) : (s.modLink l g).hub.cpFailed = s.hub.cpFailed := rfl

/-- A link that drops leaves a failed control processor failed: nothing restarts it. -/
theorem dropLink_cpFailed {s : State} (l : Nat) (h : s.hub.cpFailed = true) : (dropLink s l).hub.cpFailed = true := by
  have hfuncs : (s.each (List.range 16) fun s i => resetFunction s (16 * l + i)).hub.cpFailed = true :=
    State.each_preserves (fun u => u.hub.cpFailed = true) _ _ (fun u i hu => by rw [resetFunction_hub]; exact hu) h
  rw [dropLink, State.modLink_cpFailed, resetLinkFunctions]
  exact beginDue_cpFailed ((State.modLink_cpFailed ..).trans hfuncs)

/-- `s` with both dies and the control processor held and the links down. -/
def silenced (s : State) : State := (holdDie (holdDie (failCp s) .a) .b).each (List.range 4) dropLink

theorem silenced_dies (s : State) (d : DieId) : ((silenced s).die d).running = false := by
  unfold silenced
  rw [State.each_keeps (fun u => u.die d) _ _ fun u l => (dropLink_does u l).same.die (by decide) d, holdDie_die, holdDie_die]
  cases d
  · rw [if_neg (by decide), if_pos rfl]
    rfl
  · rw [if_pos rfl]
    rfl

theorem silenced_cpFailed (s : State) : (silenced s).hub.cpFailed = true := by
  refine State.each_preserves (fun u => u.hub.cpFailed = true) _ _ (fun u l hu => dropLink_cpFailed l hu) ?_
  rw [(holdDie_does ..).same.hub (by decide), (holdDie_does ..).same.hub (by decide), failCp_hub]

theorem silenced_anchors (s : State) : (silenced s).service.keys.anchors = s.service.keys.anchors := by
  unfold silenced
  rw [State.each_keeps (fun u => u.service.keys.anchors) _ _ fun u l => (dropLink_does u l).anchors, (holdDie_does ..).anchors,
    (holdDie_does ..).anchors, (failCp_does s).anchors]

theorem silenced_links (s : State) {l : Nat} (hl : l < 4) : ((silenced s).link l).state = .down :=
  dropLinks_down _ _ (List.mem_range.2 hl)

/-- Settles O54: each instruction is its selection, and the key store's end is what `silenced` leaves. -/
theorem testAccess : Obligations.TestAccess := by
  intro s c code i reg
  refine ⟨?_, ?_⟩
  · rintro (⟨rfl, rfl, rfl⟩ | ⟨rfl, rfl, rfl⟩ | ⟨rfl, rfl, rfl⟩ | ⟨hgated, rfl, hdone, hoff⟩ | ⟨hgated, rfl, rfl, hclosed⟩ |
      ⟨rfl, rfl, rfl, hcode⟩)
    · rfl
    · rfl
    · rfl
    · rcases hgated with ⟨rfl, rfl⟩ | ⟨rfl, rfl⟩ | ⟨rfl, rfl⟩ | ⟨rfl, rfl⟩
      · exact congrArg Host.Outcome.next (gatedTap_there _ hdone hoff)
      · exact congrArg Host.Outcome.next (gatedTap_there _ hdone hoff)
      · exact congrArg Host.Outcome.next (gatedTap_there _ hdone hoff)
      · exact congrArg Host.Outcome.next (gatedTap_there _ hdone hoff)
    · rcases hgated with rfl | rfl | rfl | rfl
      · exact congrArg Host.Outcome.next (gatedTap_bypass _ hclosed)
      · exact congrArg Host.Outcome.next (gatedTap_bypass _ hclosed)
      · exact congrArg Host.Outcome.next (gatedTap_bypass _ hclosed)
      · exact congrArg Host.Outcome.next (gatedTap_bypass _ hclosed)
    · exact congrArg Host.Outcome.next (if_neg (by simpa using hcode))
  · have ha := silenced_dies s .a
    have hb := silenced_dies s .b
    have hcp := silenced_cpFailed s
    have hanchors := silenced_anchors s
    have hlinks := fun l (hl : l < 4) => silenced_links s hl
    have hexec : exec .ksZero s = .next (selectTap (((silenced s).modHub fun h => { h with accepted := [] }).modService fun v =>
      { v with nsp0 := {}, nsp1 := {}, keys := { v.keys with done := true, otpOff := true, zeroed := true, held := true } }) 0x20 0) := rfl
    generalize silenced s = u at *
    exact ⟨_, hexec, rfl, rfl, rfl, hanchors, hcp, rfl, ha, hb, rfl, rfl, hlinks⟩

end Sys2Proof.Machine

/-! ## Calibration windows and runs (20) -/

namespace Sys2Proof.Machine

theorem State.cal_of_service {s t : State} (h : t.service = s.service) (i : CalItem) : t.cal i = s.cal i :=
  congrArg (fun v : Service => assocGet ({} : CalSt) v.cal i) h

theorem State.modCal_self (s : State) (i : CalItem) (f : CalSt → CalSt) : (s.modCal i f).cal i = f (s.cal i) := by
  rw [State.modCal_cal, if_pos rfl]

theorem calEvent_cal (s : State) (i j : CalItem) (code : Nat) : (calEvent s i code).cal j = s.cal j :=
  State.cal_of_service ((calEvent_does s i code).same.service (by decide)) j

theorem setPath_cal (s : State) (i j : CalItem) (out : Bool) : (setPath s i out).cal j = s.cal j :=
  State.cal_of_service ((setPath_does s i out).same.service (by decide)) j

/-! ### Windows (R533 to R536) -/

/-- `s` with the window of an item marked open. -/
def windowMarked (s : State) (i : CalItem) : State := s.modCal i fun c => { c with window := true, results := [], outcome := 0 }

theorem windowMarked_cal (s : State) (i : CalItem) : ((windowMarked s i).cal i).window = true ∧ ((windowMarked s i).cal i).results = [] := by
  rw [windowMarked, State.modCal_self]
  exact ⟨rfl, rfl⟩

/-- However its path leaves service, a window that opens is open and has no run yet. -/
theorem openWindow_cal (s : State) (i : CalItem) : ((openWindow s i).cal i).window = true ∧ ((openWindow s i).cal i).results = [] := by
  have hpath : (calEvent (setPath (windowMarked s i) i true) i 4).cal i = (windowMarked s i).cal i :=
    (calEvent_cal ..).trans (setPath_cal ..)
  unfold openWindow
  extract_lets mark s1
  split
  · rw [calEvent_cal]
    exact windowMarked_cal ..
  · rw [calEvent_cal]
    exact windowMarked_cal ..
  split
  · rw [State.cal_of_service ((followGm_does ..).same.service (by decide)),
      State.cal_of_service ((setPortState_does ..).same.service (by decide)), show s1.cal i = _ from hpath]
    exact windowMarked_cal ..
  · rw [show s1.cal i = _ from hpath]
    exact windowMarked_cal ..

theorem closeWindow_cal {s : State} {i : CalItem} (h : (s.cal i).window = true) : ((closeWindow s i).cal i).window = false := by
  have hclosed : ∀ u : State, ((setPath (u.modCal i fun x => { x with window := false, results := [], outcome := 0 }) i false).cal i).window =
      false := fun u => by rw [setPath_cal, State.modCal_self]
  unfold closeWindow
  extract_lets c s0 s1 s2
  rw [if_neg (by simp [c, h])]
  split
  · rw [calEvent_cal]
    exact hclosed s0
  · rw [calEvent_cal, calEvent_cal]
    exact hclosed s0

/-! ### Runs (R531, R532) -/

theorem sweep_cal (s : State) (i j : CalItem) : (sweep s i).cal j = s.cal j :=
  State.cal_of_service ((sweep_does s i).same.service (by decide)) j

theorem sweep_wall (s : State) (i : CalItem) : (sweep s i).wall = s.wall :=
  congrArg (fun t : Time => (t.counter >>> 32).toNat) ((sweep_does s i).same.time (by decide))

theorem calibrationRun_takes {s : State} {i : CalItem} (run : CalRun) (hmay : mayRun s i = true) (hkeys : s.service.keys.held = false) :
    exec (.calibrationRun i run) s = .next
      (if (agreeingPair i ((s.cal i).results ++ [run])).isSome || 3 ≤ ((s.cal i).results ++ [run]).length then
        endCal (sweep s i) i ((s.cal i).results ++ [run]) (agreeingPair i ((s.cal i).results ++ [run]))
      else (sweep s i).modCal i fun c => { c with results := (s.cal i).results ++ [run] }) := by
  refine congrArg Host.Outcome.next ((if_neg (by simp [hmay, hkeys])).trans ?_)
  dsimp only
  rw [sweep_cal]

/-- `s` with the values of an agreeing pair in force for an item, or the old ones kept. -/
def judged (s : State) (i : CalItem) (pair : Option (CalRun × CalRun)) : State :=
  match pair with
  | some (a, b) => applyValues (s.modCal i fun c =>
      { c with state := 1, fig1 := (a.fig1 + b.fig1) / 2, fig2 := (a.fig2 + b.fig2) / 2, values := pairValues i a b }) i (pairValues i a b)
  | none => keepOld (s.modCal i fun c => { c with state := 2, suspects := c.suspects + 1 }) i

theorem judged_agreed (s : State) (i : CalItem) (p : CalRun × CalRun) : ((judged s i (some p)).cal i).state = 1 ∧
    ((judged s i (some p)).cal i).values = pairValues i p.1 p.2 ∧ ((judged s i (some p)).cal i).cals = (s.cal i).cals := by
  have h : ∀ u : State, (applyValues u i (pairValues i p.1 p.2)).cal i = u.cal i := fun u =>
    State.cal_of_service ((applyValues_does u i _).same.service (by decide)) i
  rw [judged, h, State.modCal_self]
  exact ⟨rfl, rfl, rfl⟩

/-- Where the old values stay, only an item without any takes the first ones of R532. -/
theorem keepOld_cal (s : State) (i : CalItem) : ∃ v, (keepOld s i).cal i = { s.cal i with values := v } := by
  have hlane : ∀ (u : State) (d : DieId) (p : Nat) (v : List Int) (j : CalItem), (setLane u d p v).cal j = u.cal j := fun u d p v j =>
    State.cal_of_service ((setLane_does u d p v).same.service (by decide)) j
  unfold keepOld
  split
  · rw [hlane, State.modCal_self]
    exact ⟨_, rfl⟩
  · split
    · rw [State.modCal_self]
      exact ⟨_, rfl⟩
    · exact ⟨_, rfl⟩
  · exact ⟨_, State.cal_of_service ((State.modChan_does ..).same.service (by decide)) _⟩
  · exact ⟨_, rfl⟩

theorem judged_disagreed (s : State) (i : CalItem) :
    ((judged s i none).cal i).state = 2 ∧ ((judged s i none).cal i).suspects = (s.cal i).suspects + 1 := by
  obtain ⟨v, hv⟩ := keepOld_cal (s.modCal i fun c => { c with state := 2, suspects := c.suspects + 1 }) i
  rw [judged, hv, State.modCal_self]
  exact ⟨rfl, rfl⟩

/-- The end of a calibration counts it and its runs beside what it has judged; an open window keeps the outcome. -/
theorem endCal_cal (s : State) (i : CalItem) (runs : List CalRun) (pair : Option (CalRun × CalRun)) :
    ∃ outcome, (endCal s i runs pair).cal i = { (judged s i pair).cal i with
      runs := runs.length, time := s.wall, cals := ((judged s i pair).cal i).cals + 1, results := [], due := false, outcome := outcome } := by
  have hend : endCal s i runs pair = if (s.cal i).window then (judged s i pair).modCal i fun c =>
        { c with runs := runs.length, time := s.wall, cals := c.cals + 1, results := [], due := false,
                 outcome := if (s.cal i).window then if pair.isSome then 1 else 2 else 0 }
      else calEvent ((judged s i pair).modCal i fun c =>
        { c with runs := runs.length, time := s.wall, cals := c.cals + 1, results := [], due := false,
                 outcome := if (s.cal i).window then if pair.isSome then 1 else 2 else 0 }) i (if pair.isSome then 1 else 2) := by
    cases pair <;> rfl
  rw [hend]
  split
  · rw [State.modCal_self]
    exact ⟨_, rfl⟩
  · rw [calEvent_cal, State.modCal_self]
    exact ⟨_, rfl⟩

/-- Settles O42: a window and a run by the lemmas about them. -/
theorem calibration : Obligations.Calibration := by
  intro s i run d p l
  refine ⟨fun hshut hmay => ?_, fun hshut hmay hshed => ?_, fun hopen => ?_, ?_, rfl⟩
  · exact ⟨_, congrArg Host.Outcome.next ((if_pos rfl).trans ((if_neg (by simp [hshut])).trans (if_pos hmay))), openWindow_cal s i⟩
  · exact congrArg Host.Outcome.next ((if_pos rfl).trans ((if_neg (by simp [hshut])).trans ((if_neg (by simp [hmay])).trans (if_pos hshed))))
  · refine ⟨_, congrArg Host.Outcome.next ((if_neg (by decide)).trans (if_pos hopen)), ?_⟩
    rw [State.cal_of_service ((resumePath_does ..).same.service (by decide))]
    exact closeWindow_cal hopen
  · rintro hmay hkeys rfl
    have hexec := calibrationRun_takes run hmay hkeys
    refine ⟨fun hnone hlen => ?_, fun hsome => ?_, fun hnone hlen => ?_⟩
    · rw [hexec, if_neg (by simp only [hnone, Option.isSome_none, Bool.false_or, decide_eq_true_eq]; exact Nat.not_le.2 hlen)]
    · refine ⟨_, hexec, ?_⟩
      rw [hsome, if_pos (by simp)]
      obtain ⟨o, ho⟩ := endCal_cal (sweep s i) i ((s.cal i).results ++ [run]) (some p)
      obtain ⟨hstate, hvalues, hcals⟩ := judged_agreed (sweep s i) i p
      rw [ho]
      exact ⟨hstate, hvalues, by rw [hcals, sweep_cal], rfl, sweep_wall s i, rfl⟩
    · refine ⟨_, hexec, ?_⟩
      rw [hnone, if_pos (by simp only [Option.isSome_none, Bool.false_or]; exact decide_eq_true hlen)]
      obtain ⟨o, ho⟩ := endCal_cal (sweep s i) i ((s.cal i).results ++ [run]) none
      obtain ⟨hstate, hsuspects⟩ := judged_disagreed (sweep s i) i
      rw [ho]
      exact ⟨hstate, by rw [hsuspects, sweep_cal]⟩

end Sys2Proof.Machine

/-! ## Serial audio ports: commands (14) -/

namespace Sys2Proof.Machine

theorem State.sap_of_media {s t : State} (h : t.media = s.media) (n : Nat) : t.sap n = s.sap n :=
  congrArg (fun m : Media => Tbl.get ({} : Sap) m.saps n) h

theorem sapEvent_sap (s : State) (n code : Nat) (data : Word) (k : Nat) : (sapEvent s n code data).sap k = s.sap k :=
  State.sap_of_media ((sapEvent_does s n code data).same.media (by decide)) k

theorem reportSap_sap (s : State) (n : Nat) (join : Bool) (k : Nat) : (reportSap s n join).sap k = s.sap k :=
  State.sap_of_media ((reportSap_does s n join).same.media (by decide)) k

theorem complete_sap (s : State) (cr gen : Nat) (d : Desc) (k : Nat) : (complete s cr gen d).sap k = s.sap k :=
  State.sap_of_media ((complete_does s cr gen d).same.media (by decide)) k

theorem givePlay_sap (s : State) (n : Nat) (b : PlayBuf) (k : Nat) : (givePlay s n b).sap k = s.sap k := complete_sap ..

/-! ### What a scheduled change leaves (R398) -/

/-- A port but for the changes that its channels wait for. -/
def Sap.sansChanges (p : Sap) : Sap := { p with changes := [], waited := [] }

theorem Sap.changeAll_sansChanges (c : ChanChange) (l : List Nat) (p : Sap) :
    (l.foldl (fun p ch => p.change ch c) p).sansChanges = p.sansChanges := by
  induction l generalizing p with
  | nil => rfl
  | cons ch l ih => exact ih (p.change ch c)

theorem Sap.mute_sansChanges (p : Sap) : p.mute.sansChanges = p.sansChanges := Sap.changeAll_sansChanges .mute p.channels p

theorem Sap.unmute_sansChanges (p : Sap) : p.unmute.sansChanges = p.sansChanges := by
  unfold Sap.unmute
  split
  · rfl
  · exact Sap.changeAll_sansChanges .unmute _ p

/-! ### The end of a stop (R404) -/

/-- What ends of a port when it has stopped. -/
def Sap.ended (p : Sap) : Sap :=
  { p with state := .stopped, stopping := false, changes := [], waited := [], before := [], held := [], nextMedia := none,
           reading := none, seen := [], capBufs := [], aligned := false, legLost := [], awUsed := false, slewing := false }

/-- A port that stops ends once it is wholly muted; any other goes on as it is. -/
theorem endStop_sap (s : State) (n : Nat) : (endStop s n).sap n =
    if (s.sap n).started && (s.sap n).stopping && (s.sap n).allMuted then (s.sap n).ended else s.sap n := by
  have hgiven : ∀ (bufs : List CapBuf) (g : State → CapBuf → State) (plays : List PlayBuf), (∀ u b, (g u b).sap n = u.sap n) →
      (reportSap ((s.each bufs g).each plays fun s b => givePlay s n b) n false).sap n = s.sap n := fun bufs g plays hg =>
    (reportSap_sap ..).trans ((State.each_keeps (fun u => u.sap n) plays _ fun u b => givePlay_sap u n b n).trans
      (State.each_keeps (fun u => u.sap n) bufs g hg))
  unfold endStop
  extract_lets p s1 s2
  split
  · rw [sapEvent_sap, State.modSap_sap_self, show s2.sap n = p from hgiven _ _ _ fun u b => complete_sap ..]
    rfl
  · rfl

/-! ### SAP_CONFIG, SAP_START, SAP_STOP, SAP_MUTE and SAP_STATUS_READ (R403 to R405) -/

section
variable {r : Req} {s s1 : State}

/-- A port as SAP_START begins it: muted, with nothing held. -/
def startedSap (s : State) (p : Sap) : Sap :=
  { p with
    state := if p.input then .running else .starting, muted := 0xFFFF#16, changes := [], stopping := false,
    base := if p.aw then s.wall else 0, block := if p.aw then 0 else ceilDiv (s.wall * p.fs) 64000000000,
    waited := [], before := [], delay := p.fixedDelay, aligned := false, held := [], nextMedia := none, reading := none, seen := [],
    capBufs := [], capGap := false, awUsed := p.aw && s.media.awPresent, slewing := false, legLost := [] }

theorem sapStartBody_refused
    (h : (s.sap (reqSap r)).started = true ∨ (s.sap (reqSap r)).cfg = [] ∨ (s.sap (reqSap r)).fieldsOk = false) :
    sapStartBody s r = .badParam s := by
  unfold sapStartBody
  extract_lets n p outside
  by_cases hstarted : p.started = true
  · exact if_pos hstarted
  · have hcfg : (p.cfg.isEmpty || !p.fieldsOk) = true := by
      obtain h | h | h := h
      · exact absurd h hstarted
      · simp [p, n, h]
      · simp [p, n, h]
    exact (if_neg hstarted).trans (if_pos hcfg)

theorem sapStartBody_started (hstarted : (s.sap (reqSap r)).started = false) (hcfg : (s.sap (reqSap r)).cfg ≠ [])
    (hfields : (s.sap (reqSap r)).fieldsOk = true)
    (hinside : r.who < 64 →
      ((s.sap (reqSap r)).input = false → (s.sap (reqSap r)).align = 1 → s.owns r.who 5 (s.sap (reqSap r)).layer = true) ∧
      ((s.sap (reqSap r)).input = true ∨ (s.sap (reqSap r)).net = false → (s.sap (reqSap r)).ring < s.ringCount r.who))
    (hpps : reqSap r = 7 → s.time.ppsGranted = false)
    (haw : (s.sap (reqSap r)).aw = true →
      ∀ y ∈ s.media.saps, y.2.started = true → y.2.aw = true → y.2.awRate = (s.sap (reqSap r)).awRate)
    (h0 : flowsWith s (reqSap r) 0 ≤ 16) (h1 : flowsWith s (reqSap r) 1 ≤ 16) :
    sapStartBody s r = .ok (sapEvent (reportSap (s.modSap (reqSap r) fun _ =>
      if (s.sap (reqSap r)).input then (startedSap s (s.sap (reqSap r))).unmute else startedSap s (s.sap (reqSap r))) (reqSap r) true)
        (reqSap r) 1) := by
  unfold sapStartBody
  extract_lets n p outside p1
  have houtside : (outside && decide (r.who < 64)) = false := by
    by_cases hwho : r.who < 64
    · obtain ⟨hlayer, hring⟩ := hinside hwho
      have hlayer : (!p.input && decide (p.align = 1) && !s.owns r.who 5 p.layer) = false := by
        by_contra h
        simp only [Bool.not_eq_false, Bool.and_eq_true, Bool.not_eq_true', decide_eq_true_eq] at h
        exact Bool.false_ne_true (h.2.symm.trans (hlayer h.1.1 h.1.2))
      have hring : ((p.input || !p.net) && decide (s.ringCount r.who ≤ p.ring)) = false := by
        by_contra h
        simp only [Bool.not_eq_false, Bool.and_eq_true, Bool.or_eq_true, Bool.not_eq_true', decide_eq_true_eq] at h
        exact absurd (hring h.1) (Nat.not_lt.2 h.2)
      simp [outside, hlayer, hring]
    · simp [hwho]
  have hrates : (p.aw && s.media.saps.any fun x => x.2.started && x.2.aw && decide (x.2.awRate ≠ p.awRate)) = false := by
    by_contra h
    simp only [Bool.not_eq_false, Bool.and_eq_true, List.any_eq_true, decide_eq_true_eq] at h
    obtain ⟨hp, y, hy, ⟨hys, hya⟩, hne⟩ := h
    exact hne (haw hp y hy hys hya)
  have hgrant : (decide (n = 7) && s.time.ppsGranted) = false := by
    by_contra h
    simp only [Bool.not_eq_false, Bool.and_eq_true, decide_eq_true_eq] at h
    exact Bool.false_ne_true ((hpps h.1).symm.trans h.2)
  have hflows : ¬((decide (16 < flowsWith s n 0) || decide (16 < flowsWith s n 1)) = true) := by
    simpa using ⟨h0, h1⟩
  have hset : ¬((p.cfg.isEmpty || !p.fieldsOk) = true) := by simpa [p, n, hfields] using hcfg
  rw [if_neg (by simp [p, n, hstarted]), if_neg hset, if_neg (by simp [houtside]), if_neg (by simp [hgrant]),
    if_neg (by rw [hrates]; exact Bool.false_ne_true), if_neg (by simpa using hflows)]
  rfl

/-- The port of a started SAP_START is muted, with its settings kept and nothing held. -/
theorem startedSap_fields (s : State) (p x : Sap) (hx : x = if p.input then (startedSap s p).unmute else startedSap s p) :
    x.state = (if p.input then .running else .starting) ∧ x.muted = 0xFFFF#16 ∧ x.held = [] ∧ x.cfg = p.cfg := by
  have hsans : x.sansChanges = (startedSap s p).sansChanges := by
    rw [hx]
    split
    · exact Sap.unmute_sansChanges _
    · rfl
  exact ⟨(congrArg Sap.state hsans :), (congrArg Sap.muted hsans :), (congrArg Sap.held hsans :), (congrArg Sap.cfg hsans :)⟩

/-- After SAP_STOP a started port still mutes, or has ended. -/
theorem sapStop_sap (s : State) (n : Nat) :
    ((endStop (s.modSap n fun p => { p.mute with stopping := true }) n).sap n).stopping = true ∨
      ((endStop (s.modSap n fun p => { p.mute with stopping := true }) n).sap n).state = .stopped := by
  rw [endStop_sap, State.modSap_sap_self]
  split
  · exact .inr rfl
  · exact .inl rfl

/-- A port with the host's mutes of the channels of `mask` set or taken away. -/
def Sap.hostMuted (p : Sap) (mask : BitVec 16) (on : Bool) : Sap :=
  { p with hostMute := if on then p.hostMute ||| mask else p.hostMute &&& ~~~mask }

/-- The port that SAP_MUTE leaves: the host's mutes, and the changes that follow from them. -/
def mutedSap (mask : BitVec 16) (on : Bool) (p : Sap) : Sap :=
  let p1 := p.hostMuted mask on
  let l := p.channels.filter fun ch => mask.getLsbD ch
  if !p.started || p.stopping then p1
  else if on then l.foldl (fun p ch => p.change ch .mute) p1
  else if p.state = .running then l.foldl (fun p ch => p.change ch .unmute) p1 else p1

theorem mutedSap_sansChanges (mask : BitVec 16) (on : Bool) (p : Sap) : (mutedSap mask on p).sansChanges =
    (p.hostMuted mask on).sansChanges := by
  unfold mutedSap
  extract_lets p1 l
  split
  · rfl
  split
  · exact Sap.changeAll_sansChanges .mute l p1
  split
  · exact Sap.changeAll_sansChanges .unmute l p1
  · rfl

theorem sapConfig_answers (h : Served opSapConfig r s s1) {p x : Sap} (hp : p = s1.sap (fld (r.word 0) 2 0))
    (hx : x = { cfg := (List.range 10).map r.word, owner := s1.ownerOf 7 (fld (r.word 0) 2 0) }) :
    (p.started = true → exec (.sapConfig r) s = .next (replied s1 r 2 (cut r) [])) ∧
    (p.started = false → x.codesOk = true → exec (.sapConfig r) s = .next (okTo (s1.modSap (fld (r.word 0) 2 0) fun _ => x) r [])) ∧
    (p.started = false → x.codesOk = false → exec (.sapConfig r) s = .next (replied s1 r 4 (cut r) [])) := by
  subst hp hx
  refine ⟨fun hstarted => ?_, fun hstarted hcodes => ?_, fun hstarted hcodes => ?_⟩
  · exact congrArg Host.Outcome.next (jcs_refused h (if_pos hstarted) (by decide))
  · exact congrArg Host.Outcome.next (jcs_ok h ((if_neg (by simp [reqSap, hstarted])).trans
      (if_neg (ne_true_of_eq_false ((Bool.not_eq_false' _).mpr hcodes)))) (Nat.zero_le _))
  · exact congrArg Host.Outcome.next (jcs_refused h ((if_neg (by simp [reqSap, hstarted])).trans (if_pos ((Bool.not_eq_true' _).mpr hcodes)))
      (by decide))

end

/-- Settles O45: each command's checks in their order; the changes that a start, a stop or a mute schedules touch nothing else of the port. -/
theorem audioCommands : Obligations.AudioCommands := by
  rintro r s s1 n p x rfl rfl
  refine ⟨fun h hx => sapConfig_answers h rfl hx, fun h hbad => ?_, fun h hstarted hcfg hfields hinside hpps haw h0 h1 => ?_,
    fun h hstarted => ?_, fun h hstarted => ?_, fun h m hm => ?_, fun h => ?_⟩
  · exact congrArg Host.Outcome.next (jcs_refused h (sapStartBody_refused hbad) (by decide))
  · refine ⟨_, congrArg Host.Outcome.next (jcs_ok h (sapStartBody_started hstarted hcfg hfields hinside hpps haw h0 h1) (Nat.zero_le _)), ?_⟩
    rw [sapEvent_sap, reportSap_sap, show fld (r.word 0) 2 0 = reqSap r from rfl, State.modSap_sap_self]
    exact startedSap_fields s1 _ _ rfl
  · exact congrArg Host.Outcome.next (jcs_ok h (if_neg (by simp [reqSap, hstarted])) (Nat.zero_le _))
  · exact ⟨_, congrArg Host.Outcome.next (jcs_ok h (if_pos hstarted) (Nat.zero_le _)), sapStop_sap s1 _⟩
  · subst hm
    have hsans := mutedSap_sansChanges (BitVec.ofNat 16 (fld (r.word 0) 31 16)) (bit (r.word 0) 3) (s1.sap (reqSap r))
    refine ⟨s1.modSap (reqSap r) (mutedSap (BitVec.ofNat 16 (fld (r.word 0) 31 16)) (bit (r.word 0) 3)),
      congrArg Host.Outcome.next (jcs_ok h rfl (Nat.zero_le _)), ?_, ?_, fun k hk => ?_⟩
    · rw [show fld (r.word 0) 2 0 = reqSap r from rfl, State.modSap_sap_self]
      exact (congrArg Sap.muted hsans :)
    · rw [show fld (r.word 0) 2 0 = reqSap r from rfl, State.modSap_sap_self]
      exact (congrArg Sap.hostMute hsans :)
    · exact (State.modSap_sap ..).trans (if_neg hk)
  · exact congrArg Host.Outcome.next (jcs_ok h rfl (Nat.le_of_ble_eq_true rfl))

end Sys2Proof.Machine

/-! ## Codec: commands (15) -/

namespace Sys2Proof.Machine

theorem State.dec_of_media {s t : State} (h : t.media = s.media) (k : Nat) : t.dec k = s.dec k :=
  congrArg (fun m : Media => Tbl.get ({} : Dec) m.decs k) h

theorem State.enc_of_media {s t : State} (h : t.media = s.media) (k : Nat) : t.enc k = s.enc k :=
  congrArg (fun m : Media => Tbl.get ({} : EncSt) m.encs k) h

theorem decEvent_dec (s : State) (k code : Nat) (data : Word) (j : Nat) : (decEvent s k code data).dec j = s.dec j :=
  State.dec_of_media ((decEvent_does s k code data).same.media (by decide)) j

theorem reportDec_dec (s : State) (k : Nat) (join : Bool) (j : Nat) : (reportDec s k join).dec j = s.dec j :=
  State.dec_of_media ((reportDec_does s k join).same.media (by decide)) j

theorem cancelFilling_dec (s : State) (i j : Nat) : (cancelFilling s i).dec j = s.dec j :=
  State.dec_of_media ((cancelFilling_does s i).same.media (by decide)) j

theorem encEvent_enc (s : State) (k code frame : Nat) (j : Nat) : (encEvent s k code frame).enc j = s.enc j :=
  State.enc_of_media ((encEvent_does s k code frame).same.media (by decide)) j

section
variable {r : Req} {s s1 : State}

/-! ### Decode sessions (R409, R417) -/

/-- A decode session as DEC_STOP leaves it. -/
def Dec.stopped (x : Dec) : Dec :=
  { x with running := false, concealing := false, broken := false, pool := [], clean := [], nextSeq := none, window := [], missed := [],
           stream := [] }

/-- DEC_STOP of a running session: the frame that a DECODE slot was filling ends as cancelled. -/
def decStoppedState (s : State) (k : Nat) : State :=
  let s1 := s.modDec k Dec.stopped
  let s2 := match decodeSlot s1 k with
    | some j => cancelFilling s1 j
    | none => s1
  decEvent (reportDec s2 k false) k 2

theorem decStoppedState_dec (s : State) (k : Nat) : (decStoppedState s k).dec k = (s.dec k).stopped := by
  have hstopped : (s.modDec k Dec.stopped).dec k = (s.dec k).stopped := State.modDec_dec_self ..
  unfold decStoppedState
  extract_lets u v
  rw [decEvent_dec, reportDec_dec]
  simp only [v]
  split
  · rw [cancelFilling_dec]
    exact hstopped
  · exact hstopped

theorem decConfig_answers (h : Served opDecConfig r s s1) {x : Dec} (hrunning : (s1.dec (reqDec r)).running = false)
    (hx : x = { cfg := (List.range 5).map r.word, owner := s1.ownerOf 8 (reqDec r) }) :
    (x.fieldsOk = true → exec (.decConfig r) s = .next (okTo (s1.modDec (reqDec r) fun _ => x) r [])) ∧
      (x.fieldsOk = false → exec (.decConfig r) s = .next (replied s1 r 4 (cut r) [])) := by
  subst hx
  have hstopped := ne_true_of_eq_false hrunning
  exact ⟨fun hok => congrArg Host.Outcome.next (jcs_ok h ((if_neg hstopped).trans
      (if_neg (ne_true_of_eq_false ((Bool.not_eq_false' _).mpr hok)))) (Nat.zero_le _)),
    fun hbad => congrArg Host.Outcome.next (jcs_refused h ((if_neg hstopped).trans (if_pos ((Bool.not_eq_true' _).mpr hbad))) (by decide))⟩

/-- Settings that are there let DEC_START pass its first check. -/
theorem decStart_passes {x : Dec} (hrunning : x.running = false) (hcfg : x.cfg ≠ []) : ¬(x.running || x.cfg.isEmpty) = true := by
  simpa [hrunning] using hcfg

theorem decStart_answers (h : Served opDecStart r s s1) {x : Dec} (hx : x = s1.dec (reqDec r)) (hrunning : x.running = false)
    (hcfg : x.cfg ≠ []) :
    ((decUsed s1 (reqDec r) + x.charge ≤ 1990656000 * 8008 ∧ decBits s1 (reqDec r) + x.maxBr ≤ 800) →
      ∃ s2, exec (.decStart r) s = .next (okTo s2 r []) ∧ (s2.dec (reqDec r)).running = true ∧ (s2.dec (reqDec r)).pictures = 0 ∧
        (s2.dec (reqDec r)).cfg = x.cfg) ∧
    (1990656000 * 8008 < decUsed s1 (reqDec r) + x.charge ∨ 800 < decBits s1 (reqDec r) + x.maxBr → exec (.decStart r) s =
      .next (replied s1 r 2 (cut r) [budgetWord x.charge (decUsed s1 (reqDec r)) 1990656000 8008])) := by
  subst hx
  have hpasses := decStart_passes hrunning hcfg
  constructor
  · rintro ⟨hcharge, hbits⟩
    refine ⟨_, congrArg Host.Outcome.next (jcs_ok h ((if_neg hpasses).trans (if_neg ?_)) (Nat.zero_le _)), ?_⟩
    · simpa using ⟨hcharge, hbits⟩
    · rw [decEvent_dec, reportDec_dec, State.modDec_dec_self]
      exact ⟨rfl, rfl, rfl⟩
  · intro hover
    exact congrArg Host.Outcome.next (jcs_answered_with h ((if_neg hpasses).trans (if_pos (by simpa using hover))) (by decide)
      (Nat.le_of_ble_eq_true rfl))

theorem vcxStatusRead_dec (h : Served opVcxStatusRead r s s1) {k : Nat} {x : Dec} (hk : reqVcx r = k) (hlt : k < 4) (hx : x = s1.dec k)
    (up : Nat → Bool) (hup : ∀ leg, up leg = (x.running && x.legOn leg && !x.legLost leg && s1.netUp (x.legPort leg))) :
    exec (.vcxStatusRead r) s = .next (okTo s1 r
      [put (if !x.running then 0 else if x.concealing then 2 else 1) 2 0 ||| putB (up 0) 2 ||| putB (up 1) 3,
       pair x.nOut x.nConcealed, pair x.nLost x.nDup, pair x.nNotOut x.nRecover]) := by
  subst hk hx
  rw [hup 0, hup 1]
  exact congrArg Host.Outcome.next (jcs_ok h ((if_neg (by omega)).trans (if_pos hlt)) (Nat.le_of_ble_eq_true rfl))

/-! ### Encode sessions (R409, R423, R425, R428, R429) -/

theorem encConfig_answers (h : Served opEncConfig r s s1) {x : EncSt} (hrunning : (s1.enc (reqEnc r)).running = false)
    (hx : x = { cfg := (List.range 4).map r.word, owner := s1.ownerOf 8 (4 + reqEnc r) }) :
    (x.codesOk = true → ∃ w, exec (.encConfig r) s = .next (okTo (s1.modEnc (reqEnc r) fun _ => x).drawn r [w]) ∧
      ((encCanvas s1 x).isSet = true → w = put (encMinBuf s1 x) 32 0)) ∧
    (x.codesOk = false → exec (.encConfig r) s = .next (replied s1 r 4 (cut r) [])) := by
  subst hx
  have hstopped := ne_true_of_eq_false hrunning
  exact ⟨fun hok => ⟨_, congrArg Host.Outcome.next (jcs_ok h ((if_neg hstopped).trans
      (if_neg (ne_true_of_eq_false ((Bool.not_eq_false' _).mpr hok)))) (Nat.le_of_ble_eq_true rfl)), fun hset => if_pos hset⟩,
    fun hbad => congrArg Host.Outcome.next (jcs_refused h ((if_neg hstopped).trans (if_pos ((Bool.not_eq_true' _).mpr hbad))) (by decide))⟩

/-- An encode session as ENC_START begins it. -/
def EncSt.begun (x : EncSt) : EncSt :=
  { x with running := true, stopping := false, qpPic := 32, rows := [], band := 0, inCycle := 0, postponed := 0, cycles := 0,
           prev := none, longRef := none, prevEdge := 0, longEdge := 0, caps := [], held := [], dropping := false }

theorem encStartBody_begun {x : EncSt} (hx : x = s.enc (reqEnc r)) (hrunning : x.running = false) (hcfg : x.cfg ≠ [])
    (hfields : encFieldsOk s x = true) (hinside : r.who < 64 → s.owns r.who 3 x.canvas = true ∧ x.ring < s.ringCount r.who)
    (htype : (s.ring (s.globalRing r.who x.ring)).type = 5) (hring : (s.ring (s.globalRing r.who x.ring)).state = .running)
    (hbudget : encUsed s (reqEnc r) + encCharge s x ≤ 497664000 * 840840) :
    encStartBody s r = .ok (encEvent (s.modEnc (reqEnc r) EncSt.begun) (reqEnc r) 1 (s.canvas x.canvas).frame) := by
  subst hx
  unfold encStartBody
  extract_lets k x g
  have hpasses : ¬(x.running || x.cfg.isEmpty || !encFieldsOk s x) = true := by
    simpa [x, k, hrunning, hfields] using hcfg
  have houtside : ¬(decide (r.who < 64) && (!s.owns r.who 3 x.canvas || decide (s.ringCount r.who ≤ x.ring))) = true := by
    simpa using hinside
  have hready : ¬(g.type ≠ 5 || decide (g.state ≠ .running)) = true := by simp [g, x, k, htype, hring]
  rw [if_neg hpasses, if_neg houtside, if_neg hready, if_neg (Nat.not_lt.2 hbudget)]
  rfl

theorem encStart_answers (h : Served opEncStart r s s1) {x : EncSt} (hx : x = s1.enc (reqEnc r)) (hrunning : x.running = false)
    (hcfg : x.cfg ≠ []) (hfields : encFieldsOk s1 x = true)
    (hinside : r.who < 64 → s1.owns r.who 3 x.canvas = true ∧ x.ring < s1.ringCount r.who)
    (htype : (s1.ring (s1.globalRing r.who x.ring)).type = 5) (hring : (s1.ring (s1.globalRing r.who x.ring)).state = .running)
    (hbudget : encUsed s1 (reqEnc r) + encCharge s1 x ≤ 497664000 * 840840) :
    ∃ s2, exec (.encStart r) s = .next (okTo s2 r []) ∧ (s2.enc (reqEnc r)).running = true ∧ (s2.enc (reqEnc r)).qpPic = 32 ∧
      (s2.enc (reqEnc r)).caps = [] ∧ (s2.enc (reqEnc r)).cfg = x.cfg := by
  refine ⟨_, congrArg Host.Outcome.next (jcs_ok h (encStartBody_begun hx hrunning hcfg hfields hinside htype hring hbudget)
    (Nat.zero_le _)), ?_⟩
  rw [encEvent_enc, State.modEnc_enc_self, hx]
  exact ⟨rfl, rfl, rfl, rfl⟩

theorem vcxStatusRead_enc (h : Served opVcxStatusRead r s s1) {x : EncSt} (hk : reqVcx r = 4 ∨ reqVcx r = 5)
    (hx : x = s1.enc (reqVcx r - 4)) :
    exec (.vcxStatusRead r) s = .next (okTo s1 r
      [putB x.running 0 ||| put x.qpPic 8 24 ||| put x.band 16 32 ||| put x.cycleLen 16 48, pair x.nAu x.nDropped,
       pair x.nSkipRows x.nPostpone, pair x.nAllSkip x.nLongCycle]) := by
  subst hx
  exact congrArg Host.Outcome.next (jcs_ok h ((if_neg (by omega)).trans (if_neg (by omega))) (Nat.le_of_ble_eq_true rfl))

end

/-- Settles O47: each command's checks in their order, and the session that each leaves. -/
theorem codecCommands : Obligations.CodecCommands := by
  constructor
  · rintro r s s1 k x rfl
    refine ⟨fun h => decConfig_answers h, fun h => decStart_answers h, fun h hrunning => ?_, fun h hrunning => ?_,
      fun h hk hx up hup => vcxStatusRead_dec h hk (fld_lt _ 1 0) hx up hup⟩
    · exact congrArg Host.Outcome.next (jcs_ok h (if_pos ((Bool.not_eq_true' _).mpr hrunning)) (Nat.zero_le _))
    · refine ⟨decStoppedState s1 (reqDec r), congrArg Host.Outcome.next (jcs_ok h
        (if_neg (ne_true_of_eq_false ((Bool.not_eq_false' _).mpr hrunning))) (Nat.zero_le _)), ?_⟩
      rw [show fld (r.word 0) 1 0 = reqDec r from rfl, decStoppedState_dec]
      exact ⟨rfl, rfl, rfl, rfl⟩
  · rintro r s s1 k x rfl
    refine ⟨fun h => encConfig_answers h, fun h hrunning => ?_, fun h => encStart_answers h, fun h hrunning => ?_,
      fun h hrunning hcaps => ?_, fun h hrunning hcaps => ?_, fun h hk hx => vcxStatusRead_enc h hk hx⟩
    · exact congrArg Host.Outcome.next (jcs_refused h (if_pos hrunning) (by decide))
    · exact congrArg Host.Outcome.next (jcs_ok h (if_pos ((Bool.not_eq_true' _).mpr hrunning)) (Nat.zero_le _))
    · exact congrArg Host.Outcome.next (jcs_ok h ((if_neg (ne_true_of_eq_false ((Bool.not_eq_false' _).mpr hrunning))).trans
        (if_pos (List.isEmpty_iff.2 hcaps))) (Nat.zero_le _))
    · exact congrArg Host.Outcome.next (jcs_ok h ((if_neg (ne_true_of_eq_false ((Bool.not_eq_false' _).mpr hrunning))).trans
        (if_neg (mt List.isEmpty_iff.1 hcaps))) (Nat.zero_le _))

end Sys2Proof.Machine

/-! ## Memory channels: code, maps and queues (16) -/

namespace Sys2Proof.Machine

/-! ### The device code in memory (R434 to R437) -/

theorem storedCode_sound (line : Nat) (w : Word) : storedCode line w false = ⟨w, (codeOf (w ^^^ stampWord line)).check⟩ :=
  congrArg (Code.mk w) (BitVec.xor_zero (x := checkByte (w ^^^ stampWord line)))

theorem xor_stamp_xor_stamp (w : Word) (line : Nat) : w ^^^ stampWord line ^^^ stampWord line = w := by
  rw [BitVec.xor_assoc, BitVec.xor_self, BitVec.xor_zero]

theorem decodeAt_of_clean {line : Nat} {c : Code} (h : syndrome ⟨c.data ^^^ stampWord line, c.check⟩ = 0) :
    decodeAt line c = .clean c.data := by
  unfold decodeAt
  rw [decodeCode_clean h]
  exact congrArg Decoded.clean (xor_stamp_xor_stamp c.data line)

theorem decodeAt_of_bad {line : Nat} {c : Code} (h : decodeCode ⟨c.data ^^^ stampWord line, c.check⟩ = .bad) : decodeAt line c = .bad := by
  rw [decodeAt, h]

/-- A word stored under its own stamp has syndrome 0, and under a poisoned source that of its two flipped check bits. -/
theorem syndrome_stored (line : Nat) (w : Word) (poisoned : Bool) :
    syndrome ⟨(storedCode line w poisoned).data ^^^ stampWord line, (storedCode line w poisoned).check⟩ = if poisoned then 0x03 else 0 := by
  have hcancel : ∀ a b : Byte, a ^^^ b ^^^ a = b := fun a b => by
    rw [BitVec.xor_comm a b, BitVec.xor_assoc, BitVec.xor_self, BitVec.xor_zero]
  exact hcancel ..

theorem decodeAt_stored (line : Nat) (w : Word) : decodeAt line (storedCode line w false) = .clean w :=
  decodeAt_of_clean (syndrome_stored line w false)

theorem decodeAt_poisoned (line : Nat) (w : Word) : decodeAt line (storedCode line w true) = .bad := by
  refine decodeAt_of_bad (decodeCode_bad ?_ ?_)
  · rw [syndrome_stored]
    decide
  · rw [syndrome_stored]
    decide

/-- A word read under another stamp has the syndrome of the stamps' difference (R435, R436). -/
theorem syndrome_other (line other : Nat) (w : Word) :
    (storedCode other w false).check ^^^ checkByte ((storedCode other w false).data ^^^ stampWord line) =
      checkByte (stampWord line ^^^ stampWord other) := by
  have hcancel : ∀ a b c : Byte, a ^^^ b ^^^ 0 ^^^ (a ^^^ c) = c ^^^ b := fun a b c => by
    calc a ^^^ b ^^^ 0 ^^^ (a ^^^ c) = (a ^^^ a) ^^^ (c ^^^ b) ^^^ 0 := by ac_rfl
      _ = c ^^^ b := by simp
  simp only [storedCode, checkByte_xor]
  exact hcancel ..

theorem syndromes_other (line other : Nat) (l : List Word) :
    (l.map fun w => storedCode other w false).map (lineSyndrome line) =
      List.replicate l.length (checkByte (stampWord line ^^^ stampWord other)).toNat := by
  rw [List.map_map, ← List.map_const']
  exact List.map_congr_left fun w _ => congrArg BitVec.toNat (syndrome_other line other w)

/-- Eight words stored under another stamp are a mismatch just where the stamps' difference has a syndrome. -/
theorem stampMismatch_other (line other : Nat) {l : List Word} (hl : l.length = 8) :
    stampMismatch line (l.map fun w => storedCode other w false) = decide (checkByte (stampWord line ^^^ stampWord other) ≠ 0) := by
  rw [stampMismatch, syndromes_other, hl]
  simp [BitVec.toNat_eq]

theorem decodeAt_other {line other : Nat} (h : checkByte (stampWord line ^^^ stampWord other) = 0) (w : Word) :
    decodeAt line (storedCode other w false) = .clean w :=
  decodeAt_of_clean ((syndrome_other line other w).trans h)

theorem judgeLine_other (line other : Nat) {l : List Word} (hl : l.length = 8) :
    judgeLine line (l.map fun w => storedCode other w false) =
      if checkByte (stampWord line ^^^ stampWord other) = 0 then ⟨0, 0, false, l.map fun w => storedCode line w false⟩
      else ⟨0, 8, true, l.map fun w => storedCode line w true⟩ := by
  unfold judgeLine
  rw [stampMismatch_other line other hl]
  by_cases h : checkByte (stampWord line ^^^ stampWord other) = 0
  · have hclean : (l.map fun w => storedCode other w false).map (decodeAt line) = l.map Decoded.clean := by
      rw [List.map_map]
      exact List.map_congr_left fun w _ => decodeAt_other h w
    rw [if_neg (by simp [h]), if_pos h, hclean]
    simp [List.countP_map, Decoded.word, List.zipWith_map, List.zipWith_self, Function.comp_def]
  · rw [if_pos (decide_eq_true h), if_neg h, List.map_map]
    rfl

/-! ### Which differences of stamps have a syndrome (R162) -/

theorem ones8_addColumns (w : Word) {l : List (Nat × Nat)} (hodd : ∀ x ∈ l, ones8 (BitVec.ofNat 8 x.2).toNat % 2 = 1) (c : Byte) :
    ones8 (l.foldl (addColumn w) c).toNat % 2 = (ones8 c.toNat + l.countP fun x => bit w x.1) % 2 := by
  induction l generalizing c with
  | nil => rfl
  | cons x l ih =>
    have hx := hodd x List.mem_cons_self
    rw [List.foldl_cons, ih (fun y hy => hodd y (List.mem_cons_of_mem x hy)), List.countP_cons]
    unfold addColumn
    split
    · have := ones8_xor c.toNat (BitVec.ofNat 8 x.2).toNat
      rw [BitVec.toNat_xor]
      omega
    · rfl

/-- Every column has an odd number of bits, so the check byte has the word's parity. -/
theorem ones8_checkByte (w : Word) : ones8 (checkByte w).toNat % 2 = (List.range 64).countP (bit w) % 2 := by
  have hodd : ∀ x ∈ (List.range 64).zip columns, ones8 (BitVec.ofNat 8 x.2).toNat % 2 = 1 := by decide +kernel
  have hbits : ((List.range 64).zip columns).countP (fun x => bit w x.1) = (List.range 64).countP (bit w) := by
    have hfst : ((List.range 64).zip columns).map Prod.fst = List.range 64 :=
      List.map_fst_zip (by rw [columns_length, List.length_range])
    rw [← congrArg (List.countP (bit w)) hfst, List.countP_map]
    rfl
  rw [checkByte_eq, ones8_addColumns w hodd, hbits, show ones8 (0 : Byte).toNat = 0 by decide, Nat.zero_add]

/-- A word of two bits is the sum of the two. -/
theorem two_bits {w : Word} (h : (List.range 64).countP (bit w) = 2) :
    ∃ i j, i < 64 ∧ j < 64 ∧ i ≠ j ∧ w = BitVec.ofNat 64 (2 ^ i) ^^^ BitVec.ofNat 64 (2 ^ j) := by
  rw [List.countP_eq_length_filter, List.length_eq_two] at h
  obtain ⟨i, j, hij⟩ := h
  have hmem : ∀ t, t < 64 → (bit w t = true ↔ t = i ∨ t = j) := fun t ht => by
    have : t ∈ (List.range 64).filter (bit w) ↔ t ∈ [i, j] := by rw [hij]
    simpa [ht] using this
  have hi : i ∈ (List.range 64).filter (bit w) := hij ▸ List.mem_cons_self
  have hj : j ∈ (List.range 64).filter (bit w) := hij ▸ List.mem_cons_of_mem i List.mem_cons_self
  have hne : i ≠ j := by
    have hnodup : [i, j].Nodup := hij ▸ List.nodup_range.filter _
    simpa using hnodup
  refine ⟨i, j, List.mem_range.1 (List.mem_filter.1 hi).1, List.mem_range.1 (List.mem_filter.1 hj).1, hne, ?_⟩
  refine BitVec.eq_of_getLsbD_eq fun t ht => Bool.eq_iff_iff.2 ((hmem t ht).trans ?_)
  rw [BitVec.getLsbD_xor, BitVec.getLsbD_ofNat, BitVec.getLsbD_ofNat, Nat.testBit_two_pow, Nat.testBit_two_pow]
  by_cases h1 : i = t
  · by_cases h2 : j = t
    · exact absurd (h1.trans h2.symm) hne
    · simp [h1, h2, ht]
  · by_cases h2 : j = t
    · simp [h1, h2, ht]
    · simp [h1, h2, Ne.symm h1, Ne.symm h2]

theorem checkByte_two {w : Word} (h : (List.range 64).countP (bit w) = 2) : checkByte w ≠ 0 := by
  obtain ⟨i, j, hi, hj, hne, rfl⟩ := two_bits h
  rw [checkByte_xor, checkByte_bit hi, checkByte_bit hj]
  exact fun hzero => hne (bitColumn_inj (by omega) (by omega) (BitVec.xor_eq_zero_iff.1 hzero))

theorem checkByte_odd {w : Word} (h : (List.range 64).countP (bit w) % 2 = 1) : checkByte w ≠ 0 := by
  intro hzero
  have hparity := ones8_checkByte w
  rw [hzero, h] at hparity
  exact absurd hparity (by decide)

/-! ### The address maps (R433, R438) -/

/-- The channels of a memory are a power of two, and four at least. -/
theorem channels_pow {ch : Nat} (h : ch = 8 ∨ ch = 32) : ∃ n, ch = 2 ^ (n + 2) := by
  obtain rfl | rfl := h
  · exact ⟨1, rfl⟩
  · exact ⟨3, rfl⟩

theorem mapBank_lt {map : Nat} (hmap : map ≠ 0) (gib ch k : Nat) : mapBank map gib ch k < 16 := by
  rw [mapBank, if_neg hmap]
  exact Nat.xor_lt_two_pow (n := 4) (Nat.mod_lt _ (by decide)) (Nat.mod_lt _ (by decide))

theorem mapPlace_one_lt (gib : Nat) {ch : Nat} (hch : ch = 8 ∨ ch = 32) (o : Nat) : (mapPlace 1 gib ch o).1 < ch := by
  obtain ⟨n, rfl⟩ := channels_pow hch
  have hmod : ∀ v, v % 2 ^ (n + 2) < 2 ^ (n + 2) := fun v => Nat.mod_lt _ (Nat.two_pow_pos _)
  exact Nat.xor_lt_two_pow (Nat.xor_lt_two_pow (hmod _) (hmod _)) (hmod _)

theorem mapPlace_one_inj {gib ch o q : Nat} (h : mapPlace 1 gib ch o = mapPlace 1 gib ch q) : o / 512 = q / 512 := by
  obtain ⟨hx, hdiv⟩ : o / 512 % ch ^^^ o / 512 / ch % ch ^^^ o / 512 / ch / ch % ch =
      q / 512 % ch ^^^ q / 512 / ch % ch ^^^ q / 512 / ch / ch % ch ∧ o / 512 / ch = q / 512 / ch := Prod.mk.inj h
  rw [hdiv] at hx
  have hmod : o / 512 % ch = q / 512 % ch := Nat.xor_left_injective (Nat.xor_left_injective hx)
  rw [← Nat.div_add_mod (o / 512) ch, ← Nat.div_add_mod (q / 512) ch, hdiv, hmod]

theorem mapPlace_two_lt (gib : Nat) {ch : Nat} (hch : ch = 8 ∨ ch = 32) (o : Nat) : (mapPlace 2 gib ch o).1 < ch :=
  Nat.mod_lt _ (by omega)

theorem mapPlace_two_inj {gib ch o q : Nat} (h : mapPlace 2 gib ch o = mapPlace 2 gib ch q) : o / 2048 = q / 2048 := by
  obtain ⟨hmod, hdiv⟩ : o / 2048 % ch = q / 2048 % ch ∧ o / 2048 / ch = q / 2048 / ch := Prod.mk.inj h
  rw [← Nat.div_add_mod (o / 2048) ch, ← Nat.div_add_mod (q / 2048) ch, hdiv, hmod]

theorem xor_mod_four_lt (a b : Nat) : a % 4 ^^^ b % 4 < 4 :=
  Nat.xor_lt_two_pow (n := 2) (Nat.mod_lt _ (by decide)) (Nat.mod_lt _ (by decide))

theorem mapPlace_three_lt {gib ch o : Nat} (hch : ch = 8 ∨ ch = 32) (ho : o < 512 * (16 * unitsPerBank gib ch) * ch) :
    (mapPlace 3 gib ch o).1 < ch := by
  have hgroup : o / 512 / (4 * (16 * unitsPerBank gib ch)) < ch / 4 := by
    refine Nat.div_lt_of_lt_mul (Nat.div_lt_of_lt_mul (lt_of_lt_of_eq ho ?_))
    have h4 : 4 * (ch / 4) = ch := by omega
    calc 512 * (16 * unitsPerBank gib ch) * ch = 512 * (16 * unitsPerBank gib ch) * (4 * (ch / 4)) := by rw [h4]
      _ = 512 * (4 * (16 * unitsPerBank gib ch) * (ch / 4)) := by ring
  have hin := xor_mod_four_lt (o / 512) (o / 512 / 4)
  have heq : (mapPlace 3 gib ch o).1 = o / 512 / (4 * (16 * unitsPerBank gib ch)) * 4 + (o / 512 % 4 ^^^ o / 512 / 4 % 4) := rfl
  omega

/-- Four times a group's units, and the place in it, give the unit's quarter. -/
theorem quarter_of_group (u per : Nat) : u / 4 = per * (u / (4 * per)) + u % (4 * per) / 4 := by
  conv_lhs => rw [← Nat.div_add_mod u (4 * per), Nat.mul_assoc 4 per, Nat.mul_add_div (by decide)]

theorem mapPlace_three_inj {gib ch o q : Nat} (h : mapPlace 3 gib ch o = mapPlace 3 gib ch q) : o / 512 = q / 512 := by
  obtain ⟨hx, hplace⟩ : o / 512 / (4 * (16 * unitsPerBank gib ch)) * 4 + (o / 512 % 4 ^^^ o / 512 / 4 % 4) =
      q / 512 / (4 * (16 * unitsPerBank gib ch)) * 4 + (q / 512 % 4 ^^^ q / 512 / 4 % 4) ∧
    o / 512 % (4 * (16 * unitsPerBank gib ch)) / 4 = q / 512 % (4 * (16 * unitsPerBank gib ch)) / 4 := Prod.mk.inj h
  have ho := xor_mod_four_lt (o / 512) (o / 512 / 4)
  have hq := xor_mod_four_lt (q / 512) (q / 512 / 4)
  have hgroup : o / 512 / (4 * (16 * unitsPerBank gib ch)) = q / 512 / (4 * (16 * unitsPerBank gib ch)) := by omega
  have hxor : o / 512 % 4 ^^^ o / 512 / 4 % 4 = q / 512 % 4 ^^^ q / 512 / 4 % 4 := by omega
  have hquarter : o / 512 / 4 = q / 512 / 4 := by
    rw [quarter_of_group (o / 512) (16 * unitsPerBank gib ch), quarter_of_group (q / 512) (16 * unitsPerBank gib ch), hgroup, hplace]
  rw [hquarter] at hxor
  have hmod : o / 512 % 4 = q / 512 % 4 := Nat.xor_left_injective hxor
  omega

theorem segmentMap_cases (seg : Nat) : segmentMap seg = 1 ∨ segmentMap seg = 2 ∨ segmentMap seg = 3 := by
  unfold segmentMap
  split
  · exact .inl rfl
  split
  · exact .inr (.inr rfl)
  · exact .inr (.inl rfl)

theorem mapPlace_segment {seg gib ch o q : Nat} (hch : ch = 8 ∨ ch = 32) (ho : o < 512 * (16 * unitsPerBank gib ch) * ch) :
    (mapPlace (segmentMap seg) gib ch o).1 < ch ∧ mapBank (segmentMap seg) gib ch (mapPlace (segmentMap seg) gib ch o).2 < 16 ∧
    (mapPlace (segmentMap seg) gib ch o = mapPlace (segmentMap seg) gib ch q →
      if segmentMap seg = 2 then o / 2048 = q / 2048 else o / 512 = q / 512) := by
  obtain hmap | hmap | hmap := segmentMap_cases seg <;> rw [hmap]
  · exact ⟨mapPlace_one_lt gib hch o, mapBank_lt (by decide) .., mapPlace_one_inj⟩
  · exact ⟨mapPlace_two_lt gib hch o, mapBank_lt (by decide) .., mapPlace_two_inj⟩
  · exact ⟨mapPlace_three_lt hch ho, mapBank_lt (by decide) .., mapPlace_three_inj⟩

/-! ### The queues of the banks (R439) -/

theorem Chan.modBank_bank (x : Chan) (b c : Nat) (f : Bank → Bank) :
    (x.modBank b f).bank c = if c = b then f (x.bank b) else x.bank c := Tbl.get_modify ({} : Bank) x.banks b f c

/-- What holds of a bank's queue, and is kept when a request for which there is room joins it, is kept as the input enters the queues. -/
theorem Chan.refill_keeps {P : Bank → Prop} {b : Nat}
    (hjoin : ∀ (k : Bank) (r : MemReq), k.room r = true → P k → P { k with queue := k.queue ++ [{ req := r }] }) (x : Chan)
    (h : P (x.bank b)) : P (x.refill.bank b) := by
  unfold Chan.refill
  refine List.foldlRecOn (motive := fun y : Chan => P (y.bank b)) x.input _ h fun y hy i _ => ?_
  split
  · next hroom =>
    rw [Chan.modBank_bank]
    split
    · next hb => exact hjoin _ _ hroom (hb ▸ hy)
    · exact hy
  · exact hy

theorem Bank.room_length {k : Bank} {r : MemReq} (h : k.room r = true) : k.queue.length < 8 := by
  simp only [Bank.room, Bool.and_eq_true, decide_eq_true_eq] at h
  exact h.1

theorem Bank.room_others {k : Bank} {r : MemReq} (h : k.room r = true) (hrt : r.cls.rt = false) :
    k.queue.countP (fun q => !q.req.cls.rt) < 6 := by
  simp only [Bank.room, Bool.and_eq_true, hrt, Bool.false_or, decide_eq_true_eq] at h
  exact h.2

theorem Chan.arrive_length (x : Chan) {b : Nat} (k : Nat) (r : MemReq) (h : (x.bank b).queue.length ≤ 8) :
    ((x.arrive k r).bank b).queue.length ≤ 8 :=
  Chan.refill_keeps (P := fun k => k.queue.length ≤ 8) (fun k q hroom _ => by
    have := Bank.room_length hroom
    rw [List.length_append, List.length_singleton]
    omega) _ h

theorem Chan.arrive_others (x : Chan) {b : Nat} (k : Nat) (r : MemReq) (h : (x.bank b).queue.countP (fun q => !q.req.cls.rt) ≤ 6) :
    ((x.arrive k r).bank b).queue.countP (fun q => !q.req.cls.rt) ≤ 6 :=
  Chan.refill_keeps (P := fun k => k.queue.countP (fun q => !q.req.cls.rt) ≤ 6) (fun k q hroom hk => by
    rw [List.countP_append, List.countP_singleton]
    cases hrt : q.cls.rt
    · have := Bank.room_others hroom hrt
      simpa [hrt] using this
    · simpa [hrt] using hk) _ h

/-- Settles O40: the code is linear, so a stamp only shifts the syndrome; the maps are inverted part by part; a queue grows only where
there is room. -/
theorem memoryCode : Obligations.MemoryCode := by
  refine ⟨fun line w => ⟨decodeAt_stored line w, decodeAt_poisoned line w⟩, fun line other l hl => judgeLine_other line other hl, ?_,
    fun seg gib ch o q hch ho _ => mapPlace_segment hch ho, fun x b k r => ⟨x.arrive_length k r, x.arrive_others k r⟩, ?_⟩
  · rintro w k rfl (h | h)
    · exact checkByte_two h
    · exact checkByte_odd h
  · intro x now b q act hurgent hfree hgo
    have hproceeds : ((x.bank b).free q && ((x.bank b).hits q || act)) = true := by
      rw [hfree, Bool.true_and, Bool.or_eq_true]
      exact hgo
    unfold Chan.slot
    rw [hurgent]
    dsimp only
    rw [if_pos hproceeds]

end Sys2Proof.Machine

/-! ## Memory channels: refresh, tracking, scrub and read errors (16) -/

namespace Sys2Proof.Machine

theorem State.chan_of_clocks {s t : State} (h : t.clocks = s.clocks) (d : Die3) (ch : Nat) : t.chan d ch = s.chan d ch :=
  congrArg (fun c : Clocks => Tbl.get ({} : Chan) c.chans (d.num * 32 + ch)) h

theorem State.chan_of_chans {s t : State} (h : t.clocks.chans = s.clocks.chans) (d : Die3) (ch : Nat) : t.chan d ch = s.chan d ch :=
  congrArg (fun c : Tbl Chan => Tbl.get ({} : Chan) c (d.num * 32 + ch)) h

theorem State.modChan_chan (s : State) (d : Die3) (p ch : Nat) (g : Chan → Chan) :
    (s.modChan d p g).chan d ch = if ch = p then g (s.chan d p) else s.chan d ch := by
  rw [State.chan, State.modChan, State.modClocks, Tbl.get_modify]
  simp only [Nat.add_left_cancel_iff]
  rfl

theorem State.modChan_self (s : State) (d : Die3) (ch : Nat) (g : Chan → Chan) : (s.modChan d ch g).chan d ch = g (s.chan d ch) := by
  rw [State.modChan_chan, if_pos rfl]

theorem memEvent_chan (s : State) (d : Die3) (ch code : Nat) (data : Word) (c : Nat) : (memEvent s d ch code data).chan d c = s.chan d c :=
  State.chan_of_clocks ((memEvent_does s d ch code data).same.clocks (by decide)) d c

/-! ### Refresh (R441 to R444) -/

theorem Chan.refresh_quiet {y : Chan} (h : y.rtQueued = false) : y.refresh = y.closeRows := if_pos (by rw [h]; rfl)

theorem Chan.refresh_postponed {y : Chan} (h : y.rtQueued = true) (howed : y.owed < 7) :
    y.refresh = { y with owed := y.owed + 1, owedMax := max y.owedMax (y.owed + 1), postponed := y.postponed + 1 } :=
  (if_neg (by simp [h])).trans (if_neg (by omega))

/-- The postponement that makes eight owed is paid at once, with those before it. -/
theorem Chan.refresh_forced {y : Chan} (h : y.rtQueued = true) (howed : 7 ≤ y.owed) :
    y.refresh.owed = 0 ∧ y.refresh.postponed = y.postponed + 1 ∧ y.refresh.forced = y.forced + 1 ∧
      y.refresh.banks = y.closeRows.banks := by
  have hforced : y.refresh = { ({ y with owed := y.owed + 1, owedMax := max y.owedMax (y.owed + 1), postponed := y.postponed + 1 } :
      Chan).closeRows with owed := 0, forced := y.forced + 1 } := (if_neg (by simp [h])).trans (if_pos (by omega))
  rw [hforced]
  exact ⟨rfl, rfl, rfl, rfl⟩

/-! ### The failure of a channel (R449) -/

theorem Chan.set_failed {x : Chan} (h : x.failed = true) : { x with failed := true } = x := by
  cases x
  cases h
  rfl

theorem failChannel_chan (s : State) (d : Die3) (ch cause : Nat) :
    (failChannel s d ch cause).chan d ch = { s.chan d ch with failed := true } := by
  have htold : ∀ data, (memEvent (s.modChan d ch fun x => { x with failed := true }) d ch 8 data).chan d ch =
      { s.chan d ch with failed := true } := fun data => by rw [memEvent_chan, State.modChan_self]
  unfold failChannel
  split
  · next h => exact (Chan.set_failed h).symm
  · extract_lets s1
    split
    · rw [State.chan_of_clocks ((declareFatal_does s1 .a 8).same.clocks (by decide))]
      exact htold _
    · rw [State.chan_of_clocks ((declareFatal_does s1 .b 8).same.clocks (by decide))]
      exact htold _
    · rw [State.chan_of_clocks ((failCp_does s1).same.clocks (by decide))]
      exact htold _

/-- The failure of a channel finds its die fatal already. -/
theorem failChannel_die {s : State} {t : DieId} (h : (s.die t).fatal = true) (ch cause : Nat) :
    (failChannel s t.die3 ch cause).die t = s.die t := by
  have hkept : ∀ data, (memEvent (s.modChan t.die3 ch fun x => { x with failed := true }) t.die3 ch 8 data).die t = s.die t := fun data =>
    (memEvent_does ..).same.die (by decide) t
  have hfatal : ∀ u : State, u.die t = s.die t → (declareFatal u t 8).die t = s.die t := fun u hu => by
    rw [declareFatal, if_pos (by simp [hu, h]), hu]
  unfold failChannel
  split
  · rfl
  · cases t
    · exact hfatal _ (hkept _)
    · exact hfatal _ (hkept _)

/-! ### Rate reports (R445, R478) -/

theorem setTargets_chans (s : State) : (setTargets s).clocks.chans = s.clocks.chans := rfl

theorem enterBand_chan (s : State) (d : Die3) (b : Band) (e : Die3) (ch : Nat) : (enterBand s d b).chan e ch = s.chan e ch := by
  have habort : ∀ (u : State) (t : DieId), (abortSlices u t).clocks = u.clocks := fun u t =>
    (abortSlices_does u t).same.clocks (by decide)
  have hacts : ∀ u : State, (bandActs u d).clocks.chans = u.clocks.chans := fun u => by
    unfold bandActs
    rw [setTargets_chans]
    cases d
    · dsimp only
      split
      · rw [habort]
      · rfl
    · dsimp only
      split
      · rw [habort]
      · rfl
    · rfl
  unfold enterBand
  extract_lets old hotter set idle s1
  split
  · rfl
  · have hraised : (raise s1 (thermSource d) 1 (put (bandCode b) 3 0 ||| putB hotter 3) (thermFrame s1 d)).clocks = s1.clocks :=
      (raise_does s1 _ _ _ _).same.clocks (by decide)
    have htherm : s1.clocks = s.clocks := State.modTherm_clocks ..
    exact State.chan_of_chans ((hacts _).trans (congrArg Clocks.chans (hraised.trans htherm))) e ch

section
variable {s : State} {d : Die3} {ch : Nat}

theorem mr4Read_rate (hserved : memServed s d = true) {code : Nat} (hcode : code ≤ 5) :
    ∃ u, exec (.mr4Read d ch code) s = .next u ∧ (u.chan d ch).rate = code ∧
      (code = 5 → (s.chan d ch).rate ≠ 5 → d ≠ .hub → 3 ≤ bandCode (u.therm d).band) := by
  refine ⟨_, congrArg Host.Outcome.next (if_neg (by simp [hserved, hcode])), ?_⟩
  extract_lets old s1 s2
  have hs1 : (s1.chan d ch).rate = code := by rw [State.modChan_self]
  have hs2 : (s2.chan d ch).rate = code := by rw [show s2.chan d ch = s1.chan d ch from memEvent_chan .., hs1]
  split
  · refine ⟨?_, fun _ _ hd => ?_⟩
    · split
      · rw [enterBand_chan, hs2]
      · exact hs2
    · split
      · rw [(enterBand_therm s2 d .hot).1]
        decide
      · next hband =>
        by_contra hcold
        exact hband (by simpa [hd] using hcold)
  · next hnew => exact ⟨hs1, fun h5 hold => absurd (by simp [h5, old, hold]) hnew⟩

/-! ### Tracking (R449, R450, R452) -/

/-- A channel with a drift read: new delays once it is 4 ps off those in force. -/
def Chan.tracked (x : Chan) (drift : Int) : Chan :=
  let y := { x with drift := drift }
  if 4 ≤ (drift - x.adjusted).natAbs then { y.closeRows with adjusted := drift, tracks := x.tracks + 1, owed := x.owed - 1 } else y

theorem Chan.tracked_fields (x : Chan) (drift : Int) : (x.tracked drift).drift = drift ∧ (x.tracked drift).failed = x.failed ∧
    (x.tracked drift).marked = x.marked ∧
      (x.tracked drift).tracks = if 4 ≤ (drift - x.adjusted).natAbs then x.tracks + 1 else x.tracks := by
  unfold Chan.tracked
  split
  · exact ⟨rfl, rfl, rfl, rfl⟩
  · exact ⟨rfl, rfl, rfl, rfl⟩

/-- The state after a drift was read and the delays followed it. -/
def trackedState (s : State) (d : Die3) (ch : Nat) (drift : Int) : State :=
  (s.modClocks fun c => { c with memExits := c.memExits.map fun x => if x.1 = d then (x.1, ch :: x.2) else x }).modChan d ch
    fun x => x.tracked drift

theorem trackedState_chan (s : State) (d : Die3) (ch : Nat) (drift : Int) :
    (trackedState s d ch drift).chan d ch = (s.chan d ch).tracked drift := State.modChan_self ..

/-- A channel that drifts beyond 20 ps is marked for recalibration. -/
def markedState (s : State) (d : Die3) (ch : Nat) (drift : Int) : State :=
  if decide (20 < drift.natAbs) && !(s.chan d ch).marked then
    memEvent ((s.modChan d ch fun x => { x with marked := true }).modCal (.memory d ch) fun c => { c with state := 3, due := true }) d ch 9
      (put ch 2 0)
  else s

theorem markedState_chan {drift : Int} (h : 20 < drift.natAbs) :
    ((markedState s d ch drift).chan d ch).marked = true ∧ ((markedState s d ch drift).chan d ch).failed = (s.chan d ch).failed := by
  unfold markedState
  split
  · rw [memEvent_chan, State.chan_of_clocks ((State.modCal_does ..).same.clocks (by decide)), State.modChan_self]
    exact ⟨rfl, rfl⟩
  · next hmarked => exact ⟨by simpa [h] using hmarked, rfl⟩

theorem trackingRead_eq (hserved : memServed s d = true) (hfailed : (s.chan d ch).failed = false) (drift : Int) :
    exec (.trackingRead d ch drift) s = .next (if 40 < drift.natAbs then
      failChannel (markedState (trackedState s d ch drift) d ch drift) d ch 2 else markedState (trackedState s d ch drift) d ch drift) :=
  congrArg Host.Outcome.next (if_neg (by simp [hserved, hfailed]))

theorem trackingRead_near (hserved : memServed s d = true) (hfailed : (s.chan d ch).failed = false) {drift : Int}
    (h : drift.natAbs ≤ 20) : exec (.trackingRead d ch drift) s = .next (trackedState s d ch drift) := by
  rw [trackingRead_eq hserved hfailed, if_neg (by omega), markedState, if_neg (by simp [h])]

theorem trackingRead_fields (hserved : memServed s d = true) (hfailed : (s.chan d ch).failed = false) {drift : Int}
    (h : drift.natAbs ≤ 20) :
    ∃ u, exec (.trackingRead d ch drift) s = .next u ∧ (u.chan d ch).drift = drift ∧ (u.chan d ch).failed = false ∧
      (u.chan d ch).marked = (s.chan d ch).marked ∧
      (u.chan d ch).tracks = if 4 ≤ (drift - (s.chan d ch).adjusted).natAbs then (s.chan d ch).tracks + 1 else (s.chan d ch).tracks := by
  obtain ⟨hdrift, hfail, hmarked, htracks⟩ := (s.chan d ch).tracked_fields drift
  refine ⟨_, trackingRead_near hserved hfailed h, ?_⟩
  rw [trackedState_chan]
  exact ⟨hdrift, hfail.trans hfailed, hmarked, htracks⟩

theorem trackingRead_marks (hserved : memServed s d = true) (hfailed : (s.chan d ch).failed = false) {drift : Int}
    (h20 : 20 < drift.natAbs) (h40 : drift.natAbs ≤ 40) :
    ∃ u, exec (.trackingRead d ch drift) s = .next u ∧ (u.chan d ch).marked = true ∧ (u.chan d ch).failed = false := by
  have hmarked := markedState_chan (s := trackedState s d ch drift) (d := d) (ch := ch) h20
  refine ⟨_, (trackingRead_eq hserved hfailed drift).trans (congrArg Host.Outcome.next (if_neg (by omega))), hmarked.1, ?_⟩
  rw [hmarked.2, trackedState_chan, ((s.chan d ch).tracked_fields drift).2.1, hfailed]

/-! ### Patrol scrub (R448) -/

theorem patrolScrub_completes (hserved : memServed s d = true) (hopen : (s.chan d ch).fullOpen = true) (hshed : s.dShed d = false) :
    ∃ u, exec (.patrolScrubPass d ch false false) s = .next u ∧ (u.chan d ch).fullOpen = false ∧
      (u.chan d ch).fullPasses = (s.chan d ch).fullPasses + 1 ∧ (u.chan d ch).lastLines = (s.chan d ch).passLines := by
  refine ⟨_, congrArg Host.Outcome.next ((if_neg (by simp [hserved, hopen])).trans ((if_neg (by simp [hshed])).trans
    (if_neg (by decide)))), ?_⟩
  extract_lets n s1 s2
  have hs2 : s2 = s1 := by cases d <;> rfl
  rw [memEvent_chan, hs2, State.modChan_self]
  exact ⟨rfl, rfl, rfl⟩

/-! ### The errors of a line read (R436, R447, R449) -/

/-- What a channel counts of its errors. -/
def Chan.tally (x : Chan) : BitVec 32 × BitVec 32 × BitVec 32 := (x.corrected, x.poisoned, x.stamps)

theorem State.modChan_tally {g : Chan → Chan} (h : ∀ x, (g x).tally = x.tally) (s : State) (d : Die3) (p ch : Nat) :
    ((s.modChan d p g).chan d ch).tally = (s.chan d ch).tally := by
  rw [State.modChan_chan]
  split
  · next hp => rw [h, hp]
  · rfl

theorem weakLine_tally (s : State) (d : Die3) (ch line : Nat) : ((weakLine s d ch line).chan d ch).tally = (s.chan d ch).tally := by
  have hs1 : ((s.modChan d ch fun x => { x with weakLines := line :: x.weakLines }).chan d ch).tally = (s.chan d ch).tally :=
    State.modChan_tally (by intro; rfl) ..
  unfold weakLine
  split
  · rfl
  · extract_lets p s1
    split
    · rw [memEvent_chan]
      exact (State.modChan_tally (by intro; rfl) ..).trans hs1
    · exact hs1

theorem singleError_tally (s : State) (d : Die3) (ch line n : Nat) (patrol : Bool) :
    ((singleError s d ch line n patrol).chan d ch).tally =
      ((s.chan d ch).corrected + BitVec.ofNat 32 n, (s.chan d ch).poisoned, (s.chan d ch).stamps) := by
  unfold singleError
  extract_lets p seen s1 s2 x again
  have hs1 : (s1.chan d ch).tally = ((s.chan d ch).corrected + BitVec.ofNat 32 n, (s.chan d ch).poisoned, (s.chan d ch).stamps) := by
    rw [show s1.chan d ch = _ from State.modChan_self ..]
    rfl
  have hs2 : (s2.chan d ch).tally = (s1.chan d ch).tally := by
    simp only [s2]
    split
    · rw [memEvent_chan]
      exact State.modChan_tally (by intro; rfl) ..
    · rfl
  split
  · rw [weakLine_tally, hs2, hs1]
  · rw [hs2, hs1]

theorem poisonLine_chan (s : State) (d : Die3) (ch line n code : Nat) (what : MemData) :
    (poisonLine s d ch line n code what).chan d ch = { s.chan d ch with poisoned := (s.chan d ch).poisoned + BitVec.ofNat 32 n } := by
  unfold poisonLine
  rw [State.chan_of_clocks ((damage_does ..).same.clocks (by decide)), State.chan_of_clocks ((poisonError_does ..).same.clocks (by decide)),
    memEvent_chan, State.modChan_self]

theorem poisonError_die (s : State) (t : DieId) : ((poisonError s t.die3).die t).fatal = (s.die t).fatal ∧
    ((poisonError s t.die3).die t).running = (s.die t).running := by
  cases t <;> exact ⟨rfl, rfl⟩

/-- Lost data of segment 0 makes the die fatal. -/
theorem poisonLine_fatal {s : State} {t : DieId} (hfatal : (s.die t).fatal = false) (hrun : (s.die t).running = true)
    (ch line n code : Nat) :
    ((poisonLine s t.die3 ch line n code (.s0 false)).die t).fatal = true ∧
      ((poisonLine s t.die3 ch line n code (.s0 false)).die t).cause = 8 := by
  have hdamage : ∀ u : State, damage u t.die3 (.s0 false) = declareFatal u t 8 := fun u => by cases t <;> rfl
  unfold poisonLine
  rw [hdamage]
  generalize htold : memEvent (s.modChan t.die3 ch fun x => { x with poisoned := x.poisoned + BitVec.ofNat 32 n }) t.die3 ch code
    (lineData ch line) = told
  have hdie : told.die t = s.die t := by
    rw [← htold]
    exact (memEvent_does ..).same.die (by decide) t
  obtain ⟨hkeptFatal, hkeptRun⟩ := poisonError_die told t
  exact declareFatal_cause 8 rfl (by rw [hkeptRun, hdie, hrun]) (by rw [hkeptFatal, hdie, hfatal])

theorem poisonRecord_mem (s : State) (t : DieId) (tile n : Nat) : n ∈ ((s.poisonRecord t tile n).corr tile).poison t := by
  have hside : ∀ (x : Corr) (f : CorrSide → CorrSide), (x.modSide t f).poison t = (f (x.side t)).poison := fun x f => by cases t <;> rfl
  rw [State.poisonRecord, State.modCorr_corr_self, hside]
  dsimp only
  split
  · next h => exact List.contains_iff_mem.1 h
  · exact List.mem_cons_self

theorem poisonLine_record (s : State) (t : DieId) (ch line m code tile n : Nat) :
    n ∈ ((poisonLine s t.die3 ch line m code (.record tile n)).corr tile).poison t := by
  have hdamage : ∀ u : State, damage u t.die3 (.record tile n) = u.poisonRecord t tile n := fun u => by cases t <;> rfl
  rw [poisonLine, hdamage]
  exact poisonRecord_mem ..

/-! ### MEMORY_READ_ERROR (R434 to R437, R447, R449) -/

theorem judgeLine_stamp {line : Nat} {l : List Code} (h : (judgeLine line l).stamp = true) :
    (judgeLine line l).fixed = 0 ∧ (judgeLine line l).bad = 8 := by
  unfold judgeLine at h ⊢
  split at h
  · next hmismatch =>
    rw [if_pos hmismatch]
    exact ⟨rfl, rfl⟩
  · exact nomatch h

/-- The state after a line under another stamp was read: written back, and the mismatch counted. -/
def mismatchCounted (s : State) (d : Die3) (ch line : Nat) (r : LineRead) : State :=
  (s.modChan d ch fun x => x.writeBack line r).modChan d ch fun x =>
    { x with stamps := x.stamps + 1, stampAt := s.uptime :: x.stampAt.filter fun t => decide (s.uptime ≤ t + 1000000) }

/-- The state after a line under its own stamp was read: written back, and its single errors counted. -/
def correctionCounted (s : State) (d : Die3) (ch line : Nat) (r : LineRead) (patrol : Bool) : State :=
  if 0 < r.fixed then singleError (s.modChan d ch fun x => x.writeBack line r) d ch line r.fixed patrol
  else s.modChan d ch fun x => x.writeBack line r

theorem Chan.writeBack_counts (x : Chan) (line : Nat) (r : LineRead) :
    (x.writeBack line r).tally = x.tally ∧ (x.writeBack line r).stampAt = x.stampAt := by
  unfold Chan.writeBack
  extract_lets waits
  split
  · exact ⟨rfl, rfl⟩
  · exact ⟨rfl, rfl⟩

theorem mismatchCounted_chan (s : State) (d : Die3) (ch line : Nat) (r : LineRead) :
    ((mismatchCounted s d ch line r).chan d ch).tally = ((s.chan d ch).corrected, (s.chan d ch).poisoned, (s.chan d ch).stamps + 1) ∧
      ((mismatchCounted s d ch line r).chan d ch).stampAt =
        s.uptime :: (s.chan d ch).stampAt.filter fun t => decide (s.uptime ≤ t + 1000000) := by
  obtain ⟨htally, hat⟩ := (s.chan d ch).writeBack_counts line r
  obtain ⟨hcorrected, hpoisoned, hstamps⟩ : _ = _ ∧ _ = _ ∧ _ = _ := by simpa only [Chan.tally, Prod.mk.injEq] using htally
  rw [mismatchCounted, State.modChan_self, State.modChan_self]
  exact ⟨by simp only [Chan.tally, hcorrected, hpoisoned, hstamps], by simp only [hat]⟩

theorem correctionCounted_tally (s : State) (d : Die3) (ch line : Nat) (r : LineRead) (patrol : Bool) :
    ((correctionCounted s d ch line r patrol).chan d ch).tally =
      ((s.chan d ch).corrected + BitVec.ofNat 32 r.fixed, (s.chan d ch).poisoned, (s.chan d ch).stamps) := by
  have hback : ((s.modChan d ch fun x => x.writeBack line r).chan d ch).tally = (s.chan d ch).tally :=
    State.modChan_tally (fun x => (x.writeBack_counts line r).1) ..
  obtain ⟨hcorrected, hpoisoned, hstamps⟩ : _ = _ ∧ _ = _ ∧ _ = _ := by simpa only [Chan.tally, Prod.mk.injEq] using hback
  unfold correctionCounted
  split
  · rw [singleError_tally, hcorrected, hpoisoned, hstamps]
  · next hnone =>
    rw [hback, Nat.eq_zero_of_not_pos hnone, Chan.tally, BitVec.add_zero]

variable {line source : Nat} {flips : List Code} {what : MemData} {patrol : Bool} {r : LineRead}

theorem memoryReadError_stamp (hserved : memServed s d = true) (hr : r = judgeLine line ((s.chan d ch).returned source flips))
    (hstamp : r.stamp = true) : exec (.memoryReadError d ch line ⟨source, flips⟩ what patrol) s =
      .next (if 4 < ((poisonLine (mismatchCounted s d ch line r) d ch line r.bad 3 what).chan d ch).stampAt.length then
        failChannel (poisonLine (mismatchCounted s d ch line r) d ch line r.bad 3 what) d ch 1
        else poisonLine (mismatchCounted s d ch line r) d ch line r.bad 3 what) := by
  subst hr
  exact congrArg Host.Outcome.next ((if_neg (by simp [hserved])).trans (if_pos hstamp))

theorem memoryReadError_judged (hserved : memServed s d = true) (hr : r = judgeLine line ((s.chan d ch).returned source flips))
    (hstamp : r.stamp = false) : exec (.memoryReadError d ch line ⟨source, flips⟩ what patrol) s =
      .next (if 0 < r.bad then poisonLine (correctionCounted s d ch line r patrol) d ch line r.bad 2 what
        else correctionCounted s d ch line r patrol) := by
  subst hr
  exact congrArg Host.Outcome.next ((if_neg (by simp [hserved])).trans (if_neg (ne_true_of_eq_false hstamp)))

/-- Every word of the line is counted, under its stamp or as a mismatch of it. -/
theorem memoryReadError_counts (hserved : memServed s d = true) (hr : r = judgeLine line ((s.chan d ch).returned source flips)) :
    ∃ u, exec (.memoryReadError d ch line ⟨source, flips⟩ what patrol) s = .next u ∧
      (u.chan d ch).corrected = (s.chan d ch).corrected + BitVec.ofNat 32 r.fixed ∧
      (u.chan d ch).poisoned = (s.chan d ch).poisoned + BitVec.ofNat 32 r.bad ∧
      (u.chan d ch).stamps = (if r.stamp then (s.chan d ch).stamps + 1 else (s.chan d ch).stamps) ∧
      (r.stamp = true → 4 ≤ ((s.chan d ch).stampAt.filter fun t => decide (s.uptime ≤ t + 1000000)).length →
        (u.chan d ch).failed = true) := by
  cases hstamp : r.stamp
  case true =>
    obtain ⟨htally, hat⟩ := mismatchCounted_chan s d ch line r
    obtain ⟨hcorrected, hpoisoned, hstamps⟩ : _ = _ ∧ _ = _ ∧ _ = _ := by simpa only [Chan.tally, Prod.mk.injEq] using htally
    have hfixed : r.fixed = 0 := by
      subst hr
      exact (judgeLine_stamp hstamp).1
    refine ⟨_, memoryReadError_stamp hserved hr hstamp, ?_⟩
    rw [hfixed, if_pos rfl, BitVec.add_zero, poisonLine_chan]
    dsimp only
    rw [hat, List.length_cons]
    split
    · rw [failChannel_chan, poisonLine_chan]
      dsimp only
      rw [hcorrected, hpoisoned, hstamps]
      exact ⟨rfl, rfl, rfl, fun _ _ => rfl⟩
    · next hfew =>
      rw [poisonLine_chan]
      dsimp only
      rw [hcorrected, hpoisoned, hstamps]
      exact ⟨rfl, rfl, rfl, fun _ hmany => absurd hmany (by omega)⟩
  case false =>
    have htally := correctionCounted_tally s d ch line r patrol
    obtain ⟨hcorrected, hpoisoned, hstamps⟩ : _ = _ ∧ _ = _ ∧ _ = _ := by simpa only [Chan.tally, Prod.mk.injEq] using htally
    refine ⟨_, memoryReadError_judged hserved hr hstamp, ?_⟩
    rw [if_neg Bool.false_ne_true]
    split
    · rw [poisonLine_chan]
      dsimp only
      rw [hcorrected, hpoisoned, hstamps]
      exact ⟨rfl, rfl, rfl, fun h => nomatch h⟩
    · next hnone =>
      rw [hcorrected, hpoisoned, hstamps, Nat.eq_zero_of_not_pos hnone]
      exact ⟨rfl, (BitVec.add_zero _).symm, rfl, fun h => nomatch h⟩

theorem mismatchCounted_die (s : State) (d : Die3) (ch line : Nat) (r : LineRead) (t : DieId) :
    (mismatchCounted s d ch line r).die t = s.die t := by cases t <;> rfl

theorem correctionCounted_die (s : State) (d : Die3) (ch line : Nat) (r : LineRead) (patrol : Bool) (t : DieId) :
    (correctionCounted s d ch line r patrol).die t = s.die t := by
  unfold correctionCounted
  split
  · exact ((singleError_does ..).same.die (by decide) t).trans (by cases t <;> rfl)
  · cases t <;> rfl

end

section
variable {s : State} {t : DieId} {ch line source : Nat} {flips : List Code} {patrol : Bool} {r : LineRead}

theorem memoryReadError_fatal (hserved : memServed s t.die3 = true)
    (hr : r = judgeLine line ((s.chan t.die3 ch).returned source flips)) (hbad : 0 < r.bad) (hfatal : (s.die t).fatal = false)
    (hrun : (s.die t).running = true) :
    ∃ u, exec (.memoryReadError t.die3 ch line ⟨source, flips⟩ (.s0 false) patrol) s = .next u ∧ (u.die t).fatal = true ∧
      (u.die t).cause = 8 := by
  cases hstamp : r.stamp
  case true =>
    have hlost := poisonLine_fatal (s := mismatchCounted s t.die3 ch line r) (t := t) (by rw [mismatchCounted_die, hfatal])
      (by rw [mismatchCounted_die, hrun]) ch line r.bad 3
    refine ⟨_, memoryReadError_stamp hserved hr hstamp, ?_⟩
    split
    · rw [failChannel_die hlost.1]
      exact hlost
    · exact hlost
  case false =>
    exact ⟨_, (memoryReadError_judged hserved hr hstamp).trans (congrArg Host.Outcome.next (if_pos hbad)),
      poisonLine_fatal (by rw [correctionCounted_die, hfatal]) (by rw [correctionCounted_die, hrun]) ch line r.bad 2⟩

theorem memoryReadError_record (hserved : memServed s t.die3 = true)
    (hr : r = judgeLine line ((s.chan t.die3 ch).returned source flips)) (hbad : 0 < r.bad) (tile n : Nat) :
    ∃ u, exec (.memoryReadError t.die3 ch line ⟨source, flips⟩ (.record tile n) patrol) s = .next u ∧ n ∈ (u.corr tile).poison t := by
  have hcorr : ∀ {u v : State}, v.frames = u.frames → n ∈ (u.corr tile).poison t → n ∈ (v.corr tile).poison t := fun h hmem => by
    rw [State.corr, h]
    exact hmem
  cases hstamp : r.stamp
  case true =>
    refine ⟨_, memoryReadError_stamp hserved hr hstamp, ?_⟩
    split
    · exact hcorr ((failChannel_does ..).same.frames (by decide)) (poisonLine_record ..)
    · exact poisonLine_record ..
  case false =>
    exact ⟨_, (memoryReadError_judged hserved hr hstamp).trans (congrArg Host.Outcome.next (if_pos hbad)), poisonLine_record ..⟩

end

/-- An interval falls due on what the channel has become through its traffic. -/
theorem refreshDue_chan {s : State} {d : Die3} {ch : Nat} (hserved : memServed s d = true) (traffic : List MemStep) {y : Chan}
    (hy : y = (traffic.foldl (memStep d ch) s).chan d ch) : ∃ u, exec (.refreshDue d ch traffic) s = .next u ∧
      (y.rtQueued = false → u.chan d ch = y.closeRows) ∧
      (y.rtQueued = true → y.owed < 7 →
        u.chan d ch = { y with owed := y.owed + 1, owedMax := max y.owedMax (y.owed + 1), postponed := y.postponed + 1 }) ∧
      (y.rtQueued = true → 7 ≤ y.owed → (u.chan d ch).owed = 0 ∧ (u.chan d ch).postponed = y.postponed + 1 ∧
        (u.chan d ch).forced = y.forced + 1 ∧ (u.chan d ch).banks = y.closeRows.banks) := by
  refine ⟨_, congrArg Host.Outcome.next (if_neg (by simp [hserved])), ?_⟩
  rw [State.modChan_self, ← hy]
  exact ⟨Chan.refresh_quiet, Chan.refresh_postponed, Chan.refresh_forced⟩

/-- Settles O39: each row's equation on a served memory, and what each of its steps makes of the channel. -/
theorem memory : Obligations.Memory := by
  constructor
  · rintro s d ch code drift x traffic y hserved rfl
    refine ⟨refreshDue_chan hserved traffic, mr4Read_rate hserved, fun hfailed => trackingRead_fields hserved hfailed,
      fun hfailed => trackingRead_marks hserved hfailed, fun hfailed h40 => ?_, fun _ => ?_, fun hshed => ?_, fun hopen hshed => ?_,
      patrolScrub_completes hserved⟩
    · refine ⟨_, (trackingRead_eq hserved hfailed drift).trans (congrArg Host.Outcome.next (if_pos h40)), ?_⟩
      rw [failChannel_chan]
    · refine ⟨_, congrArg Host.Outcome.next (if_pos hserved), ?_⟩
      rw [failChannel_chan]
    · exact congrArg Host.Outcome.next ((if_neg (by simp [hserved])).trans (if_pos hshed))
    · exact congrArg Host.Outcome.next ((if_neg (by simp [hserved, hopen])).trans ((if_neg (by simp [hshed])).trans (if_pos rfl)))
  · rintro s d t ch line source flips what patrol tile n r hserved hr
    refine ⟨memoryReadError_counts hserved hr, ?_, ?_, ?_⟩
    · rw [hr]
      exact judgeLine_stamp
    · rintro rfl hbad hfatal hrun
      exact memoryReadError_fatal hserved hr hbad hfatal hrun
    · rintro rfl hbad
      exact memoryReadError_record hserved hr hbad tile n

end Sys2Proof.Machine

/-! ## Codec: decoding and encoding at work (15) -/

namespace Sys2Proof.Machine

/-! ### The decode pool (R413, R414) -/

theorem Dec.modPool_poolBuf (x : Dec) (b c : Nat) (f : PoolBuf → PoolBuf) :
    (x.modPool b f).poolBuf c = if c = b then f (x.poolBuf b) else x.poolBuf c := Tbl.get_modify ({} : PoolBuf) x.pool b f c

/-- What of a decode session only its packets and its streams change. -/
def Dec.packets (x : Dec) : Option (BitVec 16) × List (Nat × RtpPkt) × List (BitVec 16) × List (Nat × RtpPkt) × Bool :=
  (x.nextSeq, x.window, x.missed, x.stream, x.broken)

theorem Dec.modPools_packets (f : PoolBuf → PoolBuf) (l : List Nat) (x : Dec) :
    (l.foldl (fun x j => x.modPool j f) x).packets = x.packets := by
  induction l generalizing x with
  | nil => rfl
  | cons j l ih => exact ih (x.modPool j f)

/-- A session after the picture of a buffer left it, or was not output, under the counts that this makes. -/
def Dec.output (x : Dec) (b : Nat) (out concealed notOut : BitVec 32) : Dec :=
  { x.modPool b clearPending with nOut := out, nConcealed := concealed, nNotOut := notOut }

theorem outputPicture_dec (s : State) (k b : Nat) :
    ∃ out concealed notOut, (outputPicture s k b).dec k = (s.dec k).output b out concealed notOut := by
  have hcleared : (s.modDec k fun x => x.modPool b clearPending).dec k = (s.dec k).modPool b clearPending := State.modDec_dec_self ..
  have hrefused : ∀ data, (decEvent ((s.modDec k fun x => x.modPool b clearPending).modDec k fun x => { x with nNotOut := x.nNotOut + 1 })
      k 5 data).dec k = (s.dec k).output b (s.dec k).nOut (s.dec k).nConcealed ((s.dec k).nNotOut + 1) := fun data => by
    rw [decEvent_dec, State.modDec_dec_self, hcleared]
    rfl
  unfold outputPicture
  extract_lets p s0 refuse line rows
  split
  · exact ⟨_, _, _, hrefused 6⟩
  extract_lets y
  split
  · exact ⟨_, _, _, hrefused 6⟩
  split
  · refine ⟨(s.dec k).nOut, (s.dec k).nConcealed, (s.dec k).nNotOut + 1, ?_⟩
    rw [State.modDec_dec_self, hcleared]
    rfl
  · next s1 t htarget =>
    extract_lets s2
    have hs2 : s2.dec k = (s.dec k).modPool b clearPending := by
      have hlines : ∀ (l : List Nat) (g : State → Nat → State) (v : State), (∀ v r, (g v r).dec k = v.dec k) →
          (l.foldl g v).dec k = v.dec k := fun l g v hg => State.each_keeps (fun u => u.dec k) l g hg
      rw [show s2.dec k = _ from hlines _ _ _ fun v r =>
          State.dec_of_media ((writeBoth_does ..).same.media (by decide)) k,
        State.dec_of_media ((startFilling_does ..).same.media (by decide)) k,
        State.dec_of_media ((freeTarget_does htarget).same.media (by decide)) k, hcleared]
    rw [State.dec_of_media ((bufReady_does _ _ _ _ _).same.media (by decide)) k, State.modDec_dec_self, hs2]
    exact ⟨_, _, _, rfl⟩

/-- What holds of a session and outlasts the output of a picture holds after a turn of bumping. -/
theorem bump_keeps {P : Dec → Prop} (hP : ∀ x b i j n, P x → P (x.output b i j n)) (k : Nat) (more : Dec → Bool) (n : Nat) (s : State)
    (h : P (s.dec k)) : P ((bump k more n s).dec k) := by
  induction n generalizing s with
  | zero => exact h
  | succ n ih =>
    unfold bump
    extract_lets x
    split
    · exact h
    · next b _ =>
      split
      · obtain ⟨i, j, m, hout⟩ := outputPicture_dec s k b
        exact ih _ (hout ▸ hP _ b i j m h)
      · exact h

theorem beginPicture_decoding {s : State} {k b : Nat} (h : ((s.dec k).where' fun y => decide (y.mark = .decoding)) = [b]) :
    beginPicture s k = s := by
  refine if_pos ?_
  rw [h]
  rfl

theorem beginPicture_packets (s : State) (k : Nat) : ((beginPicture s k).dec k).packets = (s.dec k).packets := by
  have hstart : ∀ (v : State) (b : Nat), ((v.modDec k fun x =>
      { x.modPool b fun _ => { mark := .decoding, order := x.pictures } with pictures := x.pictures + 1 }).dec k).packets =
        (v.dec k).packets := fun v b => by
    rw [State.modDec_dec_self]
    rfl
  unfold beginPicture
  split
  · rfl
  extract_lets free start x age s1
  split
  · exact hstart ..
  refine (hstart ..).trans ?_
  simp only [s1]
  split
  · next b _ =>
    obtain ⟨i, j, n, hout⟩ := outputPicture_dec s k b
    rw [hout]
    rfl
  · rfl

/-! ### Packets in order (R411, R430) -/

/-- A packet that reaches the decoder changes neither what waits behind it nor what was given up. -/
theorem deliverPkt_packets (s : State) (k : Nat) (p : RtpPkt) : ((deliverPkt s k p).dec k).window = (s.dec k).window ∧
    ((deliverPkt s k p).dec k).missed = (s.dec k).missed := by
  unfold deliverPkt
  extract_lets x late s1
  split
  · rw [State.modDec_dec_self, State.modDec_dec_self]
    exact ⟨rfl, rfl⟩
  · have hpackets := beginPicture_packets (s1.modDec k fun x => { x with stream := x.stream ++ [(s.uptime, p)] }) k
    rw [State.modDec_dec_self, State.modDec_dec_self] at hpackets
    exact ⟨(congrArg (fun v => v.2.1) hpackets :), (congrArg (fun v => v.2.2.1) hpackets :)⟩

/-- The first packet of a session joins its stream, unless STAGE is 7. -/
theorem deliverPkt_joins {s : State} {p : RtpPkt} (hpaci : isPaci p = false) (hstage : s.hub.stage ≠ .restarting) (k : Nat) :
    ((deliverPkt s k p).dec k).nextSeq = some (p.seq + 1) ∧ ((deliverPkt s k p).dec k).stream = (s.dec k).stream ++ [(s.uptime, p)] := by
  unfold deliverPkt
  extract_lets x late s1
  rw [if_neg (by simp [late, hpaci, hstage])]
  have hpackets := beginPicture_packets (s1.modDec k fun x => { x with stream := x.stream ++ [(s.uptime, p)] }) k
  rw [State.modDec_dec_self, State.modDec_dec_self] at hpackets
  exact ⟨(congrArg (fun v => v.1) hpackets :), (congrArg (fun v => v.2.2.2.1) hpackets :)⟩

theorem drainWindow_packets (k n : Nat) (s : State) : ((drainWindow k n s).dec k).window.length ≤ (s.dec k).window.length ∧
    ((drainWindow k n s).dec k).missed = (s.dec k).missed := by
  induction n generalizing s with
  | zero => exact ⟨le_refl _, rfl⟩
  | succ n ih =>
    unfold drainWindow
    split
    · next t p rest hwindow =>
      split
      · obtain ⟨hlen, hmissed⟩ := ih (deliverPkt (s.modDec k fun x => { x with window := rest }) k p)
        obtain ⟨hwin, hmiss⟩ := deliverPkt_packets (s.modDec k fun x => { x with window := rest }) k p
        rw [hwin, State.modDec_dec_self] at hlen
        rw [hmiss, State.modDec_dec_self] at hmissed
        exact ⟨hlen.trans (by simp [hwindow]), hmissed⟩
      · exact ⟨le_refl _, rfl⟩
    · exact ⟨le_refl _, rfl⟩

/-- The packet that a window begins with is delivered once the gap before it has been given up. -/
theorem drainWindow_first {s : State} {k n t : Nat} {p : RtpPkt} {rest : List (Nat × RtpPkt)} (hwindow : (s.dec k).window = (t, p) :: rest)
    (hseq : (s.dec k).nextSeq = some p.seq) : ((drainWindow k (n + 1) s).dec k).window.length ≤ rest.length ∧
      ((drainWindow k (n + 1) s).dec k).missed = (s.dec k).missed := by
  obtain ⟨hlen, hmissed⟩ := drainWindow_packets k n (deliverPkt (s.modDec k fun x => { x with window := rest }) k p)
  obtain ⟨hwin, hmiss⟩ := deliverPkt_packets (s.modDec k fun x => { x with window := rest }) k p
  rw [hwin, State.modDec_dec_self] at hlen
  rw [hmiss, State.modDec_dec_self] at hmissed
  unfold drainWindow
  rw [hwindow]
  dsimp only
  rw [if_pos hseq]
  exact ⟨hlen, hmissed⟩

section
variable {s : State} {k : Nat}

theorem decPacket_first {leg : Nat} {p : RtpPkt} (hlost : (s.dec k).legLost leg = false) (hseq : (s.dec k).nextSeq = none) :
    decPacket s k leg p = deliverPkt s k p := by
  unfold decPacket
  rw [if_neg (ne_true_of_eq_false hlost)]
  unfold orderPkt
  extract_lets s1 x
  rw [show x.nextSeq = none from hseq]

theorem decodePacket_joins {leg port : Nat} {p : RtpPkt} (hup : s.netUp port = true) (hlegs : decLegs s port p = [(k, leg)])
    (hlost : (s.dec k).legLost leg = false) (hseq : (s.dec k).nextSeq = none) :
    exec (.decodePacket port p) s = .next (deliverPkt s k p) := by
  have heach : exec (.decodePacket port p) s = .next (s.each (decLegs s port p) fun s x => decPacket s x.1 x.2 p) :=
    congrArg Host.Outcome.next (if_pos hup)
  rw [heach, hlegs]
  exact congrArg Host.Outcome.next (decPacket_first hlost hseq)

/-- The packets given up between the next one due and the first of the window, the latest first. -/
def goneBefore (q : BitVec 16) (p : RtpPkt) : List (BitVec 16) :=
  ((List.range (p.seq - q).toNat).map fun i => q + BitVec.ofNat 16 i).reverse

theorem jitterWindowClose_gives {t : Nat} {p : RtpPkt} {q : BitVec 16} {rest : List (Nat × RtpPkt)} (hseq : (s.dec k).nextSeq = some q)
    (hwindow : (s.dec k).window = (t, p) :: rest) : ∃ u, exec (.jitterWindowClose k) s = .next u ∧
      (u.dec k).window.length ≤ rest.length ∧ (u.dec k).missed = (goneBefore q p ++ (s.dec k).missed).take 256 := by
  have hexec : exec (.jitterWindowClose k) s = .next (drainWindow k (rest.length + 1) (s.modDec k fun x =>
      { x with nLost := x.nLost + BitVec.ofNat 32 (p.seq - q).toNat, missed := (goneBefore q p ++ x.missed).take 256,
               nextSeq := some p.seq })) := by
    show execJitterWindowClose k s = _
    unfold execJitterWindowClose
    simp only [hseq, hwindow]
    rfl
  refine ⟨_, hexec, ?_⟩
  have hfirst := drainWindow_first (s := s.modDec k fun x =>
      { x with nLost := x.nLost + BitVec.ofNat 32 (p.seq - q).toNat, missed := (goneBefore q p ++ x.missed).take 256,
               nextSeq := some p.seq }) (k := k) (n := rest.length) (t := t) (p := p) (rest := rest)
    (by rw [State.modDec_dec_self]; exact hwindow) (by rw [State.modDec_dec_self])
  rw [State.modDec_dec_self] at hfirst
  exact hfirst

theorem Dec.setLost_legLost (x : Dec) (leg : Nat) : (x.setLost leg true).legLost leg = true := by
  unfold Dec.setLost Dec.legLost
  split
  · rfl
  · rfl

theorem decodeLegLoss_kept {leg : Nat} (hrun : (s.dec k).running = true) (hon : (s.dec k).legOn leg = true)
    (hlost : (s.dec k).legLost leg = false) (hwindow : Tbl.get false s.time.netWindow ((s.dec k).legPort leg) = false) :
    ∃ u, exec (.decodeLegLoss k leg) s = .next u ∧ (u.dec k).legLost leg = true := by
  refine ⟨_, congrArg Host.Outcome.next (if_neg (by simp [hrun, hon, hlost, hwindow])), ?_⟩
  rw [decEvent_dec, State.modDec_dec_self, Dec.setLost_legLost]

/-! ### Pictures (R412 to R416) -/

/-- A pool buffer holds a decoded picture, under the mark that its RPS gave it. -/
def PoolBuf.holds (y : PoolBuf) (p : Picture) : Prop :=
  y.poc = p.poc ∧ y.mark = (if p.long then .long else .short) ∧ y.width = p.width ∧ y.height = p.height ∧ y.omitted = false

/-- The session shows a picture in a pool buffer, and no stream that breaks a limit; no packet is left. -/
def Dec.completed (b : Nat) (p : Picture) (x : Dec) : Prop := x.broken = false ∧ x.stream = [] ∧ (x.poolBuf b).holds p

theorem clearPending_holds {y : PoolBuf} {p : Picture} (h : y.holds p) : (clearPending y).holds p := by
  obtain ⟨hpoc, hmark, hwidth, hheight, homitted⟩ := h
  exact ⟨hpoc, (if_neg (ne_true_of_eq_false homitted)).trans hmark, hwidth, hheight, homitted⟩

theorem Dec.output_completed {b : Nat} {p : Picture} (x : Dec) (c : Nat) (i j n : BitVec 32) (h : x.completed b p) :
    (x.output c i j n).completed b p := by
  obtain ⟨hbroken, hstream, hholds⟩ := h
  refine ⟨hbroken, hstream, ?_⟩
  rw [show (x.output c i j n).poolBuf b = (x.modPool c clearPending).poolBuf b from rfl, Dec.modPool_poolBuf]
  split
  · next hc => exact clearPending_holds (hc ▸ hholds)
  · exact hholds

theorem completePicture_completed {b : Nat} {p : Picture} (hbroken : (s.dec k).broken = false) (hstream : (s.dec k).stream = []) :
    ((completePicture s k b p).dec k).completed b p := by
  have hstart : ∀ x : Dec, x.packets = (s.dec k).packets → x.broken = false ∧ x.stream = [] := fun x hx =>
    ⟨(congrArg (fun v => v.2.2.2.2) hx).trans hbroken, (congrArg (fun v => v.2.2.2.1) hx).trans hstream⟩
  unfold completePicture
  extract_lets s1 s2 x held damaged shown bytes
  have hs1 : (s1.dec k).packets = (s.dec k).packets := by
    simp only [s1]
    split
    · rw [State.modDec_dec_self, Dec.modPools_packets]
      exact bump_keeps (P := fun y => y.packets = (s.dec k).packets) (fun y _ _ _ _ hy => hy) k _ 16 s rfl
    · rfl
  have hs2 : (s2.dec k).packets = (s.dec k).packets := by
    rw [show s2.dec k = _ from State.modDec_dec_self ..]
    exact hs1
  split
  next on clean marked ev hconceal =>
  extract_lets s3 s4
  refine bump_keeps Dec.output_completed k _ 16 s4 ?_
  have hs4 : s4.dec k = s3.dec k := by
    simp only [s4]
    split
    · exact decEvent_dec ..
    · rfl
  rw [hs4, show s3.dec k = _ from State.modDec_dec_self ..]
  extract_lets x1 x2
  have hx2 : x2.packets = (s2.dec k).packets := by
    simp only [x2]
    split
    · exact Dec.modPools_packets ..
    · rfl
  obtain ⟨hb, hs⟩ := hstart x2 (hx2.trans hs2)
  refine ⟨hb, hs, ?_⟩
  rw [Dec.modPool_poolBuf, if_pos rfl]
  exact ⟨rfl, rfl, rfl, rfl, rfl⟩

/-- A picture whose coded video sequence breaks a limit is dropped. -/
def droppedState (s : State) (k b : Nat) : State :=
  s.modDec k fun x => { x.modPool b fun _ => {} with nNotOut := x.nNotOut + 1, broken := true }

/-- What becomes of the picture in a pool buffer. -/
def judgedState (s : State) (k b : Nat) (p : Picture) : State :=
  let x := s.dec k
  if x.limitBroken p ≠ 0 then
    if x.broken && !(p.irap && p.noRasl) then droppedState s k b else decEvent (droppedState s k b) k 5 (put (x.limitBroken p) 4 0)
  else if x.broken && !p.irap then droppedState s k b
  else completePicture (s.modDec k fun x => { x with broken := false }) k b p

/-- The state in which a picture's packets have been used up. -/
def usedState (s : State) (k : Nat) : State := s.modDec k fun x => { x with stream := usePackets x.stream }

theorem pictureDecoded_eq {b : Nat} {p : Picture} (hrun : (s.dec k).running = true) (hcp : s.hub.cpFailed = false)
    (hstage : s.hub.stage ≠ .restarting) (hb : ((s.dec k).where' fun y => decide (y.mark = .decoding)) = [b]) :
    exec (.pictureDecoded k p) s = .next (if ((judgedState (usedState s k) k b p).dec k).stream.isEmpty then
      judgedState (usedState s k) k b p else beginPicture (judgedState (usedState s k) k b p) k) := by
  have hhead : (((usedState s k).dec k).where' fun y => decide (y.mark = .decoding)).head? = some b := by
    rw [show (usedState s k).dec k = _ from State.modDec_dec_self ..]
    exact (congrArg List.head? hb :)
  show execPictureDecoded k p s = _
  unfold execPictureDecoded
  rw [if_neg (by simp [hrun, hcp, hstage]), beginPicture_decoding hb]
  refine congrArg Host.Outcome.next ?_
  extract_lets s1
  rw [show (((s1.dec k).where' fun y => decide (y.mark = .decoding)).head? = some b) from hhead]
  rfl

theorem judgedState_dropped {b : Nat} {p : Picture} (h : (s.dec k).limitBroken p ≠ 0) :
    (judgedState s k b p).dec k = { (s.dec k).modPool b fun _ => {} with nNotOut := (s.dec k).nNotOut + 1, broken := true } := by
  have hdropped : (droppedState s k b).dec k = { (s.dec k).modPool b fun _ => {} with nNotOut := (s.dec k).nNotOut + 1, broken := true } :=
    State.modDec_dec_self ..
  unfold judgedState
  extract_lets x
  rw [if_pos h]
  split
  · exact hdropped
  · rw [decEvent_dec, hdropped]

theorem judgedState_completed {b : Nat} {p : Picture} (hlimit : (s.dec k).limitBroken p = 0)
    (hirap : (s.dec k).broken = true → p.irap = true) (hstream : (s.dec k).stream = []) :
    ((judgedState s k b p).dec k).completed b p := by
  have hgoes : ¬((s.dec k).broken && !p.irap) = true := by simpa using hirap
  unfold judgedState
  extract_lets x
  rw [if_neg (not_not.2 hlimit), if_neg hgoes]
  refine completePicture_completed ?_ ?_
  · rw [State.modDec_dec_self]
  · rw [State.modDec_dec_self]
    exact hstream

theorem pictureDecoded_ends {b : Nat} {pic : Picture} (hrun : (s.dec k).running = true) (hcp : s.hub.cpFailed = false)
    (hstage : s.hub.stage ≠ .restarting) (huse : usePackets (s.dec k).stream = [])
    (hb : ((s.dec k).where' fun y => decide (y.mark = .decoding)) = [b]) {u : State} (hu : exec (.pictureDecoded k pic) s = .next u) :
    ((s.dec k).limitBroken pic ≠ 0 → (u.dec k).nNotOut = (s.dec k).nNotOut + 1 ∧ (u.dec k).poolBuf b = {} ∧ (u.dec k).broken = true) ∧
    ((s.dec k).limitBroken pic = 0 → ((s.dec k).broken = true → pic.irap = true) → (u.dec k).broken = false ∧
      ((u.dec k).poolBuf b).poc = pic.poc ∧ ((u.dec k).poolBuf b).mark = (if pic.long then .long else .short) ∧
      ((u.dec k).poolBuf b).width = pic.width ∧ ((u.dec k).poolBuf b).height = pic.height) := by
  have hused : (usedState s k).dec k = { s.dec k with stream := [] } := by
    rw [show (usedState s k).dec k = _ from State.modDec_dec_self .., huse]
  have hends : ((judgedState (usedState s k) k b pic).dec k).stream = [] → u = judgedState (usedState s k) k b pic := fun hempty => by
    rw [pictureDecoded_eq hrun hcp hstage hb, if_pos (List.isEmpty_iff.2 hempty)] at hu
    exact (Host.Outcome.next.inj hu).symm
  constructor
  · intro hlimit
    have hdec := judgedState_dropped (s := usedState s k) (k := k) (b := b) (p := pic) (by rw [hused]; exact hlimit)
    rw [hused] at hdec
    rw [hends (by rw [hdec]; rfl), hdec]
    refine ⟨rfl, ?_, rfl⟩
    show (Dec.modPool { s.dec k with stream := [] } b fun _ => {}).poolBuf b = {}
    rw [Dec.modPool_poolBuf, if_pos rfl]
  · intro hlimit hirap
    obtain ⟨hbroken, hstream, hpoc, hmark, hwidth, hheight, _⟩ := judgedState_completed (s := usedState s k) (k := k) (b := b) (p := pic)
      (by rw [hused]; exact hlimit) (by rw [hused]; exact hirap) (by rw [hused])
    rw [hends hstream]
    exact ⟨hbroken, hpoc, hmark, hwidth, hheight⟩

/-! ### Encoding at work (R418, R420, R422 to R427) -/

theorem giveUnit_enc (s : State) (b : EncBuf) (au : AccessUnit) (k : Nat) : (giveUnit s b au).enc k = s.enc k :=
  State.enc_of_media ((giveUnit_does s b au).same.media (by decide)) k

/-- A host buffer that is accepted takes the oldest access unit held, or waits. -/
def bufferGiven (s : State) (k : Nat) (b : EncBuf) (held : List AccessUnit) : State :=
  match held with
  | au :: rest => giveUnit (s.modEnc k fun x => { x with held := rest }) b au
  | [] => s.modEnc k fun x => { x with bufs := x.bufs ++ [b] }

theorem encBuf_eq {s1 : State} {ring cr gen : Nat} {d : Desc} (htake : takeTyped s ring d 5 0x20 = some (s1, cr, gen))
    (hcp : s.hub.cpFailed = false) (howns : s.owns (s.ring ring).owner 8 (4 + fld d.w0 8 8) = true) (hlen : fld d.w0 63 32 ≠ 0)
    (hfit : fld d.w0 63 32 ≠ 0xFFFFFFFF) (hcfg : (s.enc (fld d.w0 8 8)).cfg ≠ [])
    (hring : s.globalRing (s.ring ring).owner (s.enc (fld d.w0 8 8)).ring = ring)
    (hroom : encMinBuf s (s.enc (fld d.w0 8 8)) ≤ fld d.w0 63 32) :
    exec (.encBuf ring d) s =
      .next (bufferGiven s1 (fld d.w0 8 8) ⟨cr, gen, (s.ring ring).owner, d⟩ (s.enc (fld d.w0 8 8)).held) := by
  have haccepted : ¬((s.enc (fld d.w0 8 8)).cfg.isEmpty ||
      decide (s.globalRing (s.ring ring).owner (s.enc (fld d.w0 8 8)).ring ≠ ring) ||
      decide (fld d.w0 63 32 < encMinBuf s (s.enc (fld d.w0 8 8)))) = true := by
    simpa [hring, Nat.not_lt.2 hroom] using hcfg
  show execEncBuf ring d s = _
  unfold execEncBuf
  rw [if_neg (ne_true_of_eq_false hcp), htake]
  dsimp only
  rw [if_neg (by simp [howns]), if_neg hlen, if_neg hfit, if_neg haccepted]
  rfl

/-- A frame of the session's canvas is one of its captures: the session and the canvas run, DIV takes the frame, and none has it yet. -/
def captureDue (s : State) (k : Nat) : Prop :=
  (s.enc k).running = true ∧ (s.enc k).stopping = false ∧ (s.canvas (s.enc k).canvas).running = true ∧
    (s.canvas (s.enc k).canvas).frame % (s.enc k).div = 0 ∧ (s.enc k).prev ≠ some (s.canvas (s.enc k).canvas).frame ∧
    ∀ c ∈ (s.enc k).caps, c.frame ≠ (s.canvas (s.enc k).canvas).frame

theorem captureDue_passes (h : captureDue s k) : ¬(!(s.enc k).running || (s.enc k).stopping || !(s.canvas (s.enc k).canvas).running ||
    decide ((s.canvas (s.enc k).canvas).frame % (s.enc k).div ≠ 0) ||
    decide ((s.enc k).prev = some (s.canvas (s.enc k).canvas).frame) ||
    (s.enc k).caps.any (fun c => decide (c.frame = (s.canvas (s.enc k).canvas).frame))) = true := by
  obtain ⟨hrun, hstop, hcanvas, hdiv, hprev, hcaps⟩ := h
  simp [hrun, hstop, hcanvas, hdiv, hprev]
  exact hcaps

theorem encodeCapture_captures (hdue : captureDue s k)
    (hroom : (s.enc k).bufs ≠ [] ∨ (s.enc k).held.length + (s.enc k).caps.length < 8) :
    ∃ ok pic, exec (.encodeCapture k) s = .next (s.modEnc k fun x => { x with dropping := false, caps := x.caps ++
      [⟨(s.canvas (s.enc k).canvas).frame, wallOf ((s.canvas (s.enc k).canvas).flipTime (s.canvas (s.enc k).canvas).frame), ok, pic⟩] }) := by
  have hfree : ¬((s.enc k).bufs.isEmpty && decide (8 ≤ (s.enc k).held.length + (s.enc k).caps.length)) = true := by
    rw [Bool.and_eq_true, decide_eq_true_eq, List.isEmpty_iff]
    rintro ⟨hbufs, hfull⟩
    exact hroom.elim (fun hb => hb hbufs) fun hl => absurd hfull (Nat.not_le.2 hl)
  exact ⟨_, _, congrArg Host.Outcome.next ((if_neg (captureDue_passes hdue)).trans (if_neg hfree))⟩

theorem encodeCapture_drops (hdue : captureDue s k) (hbufs : (s.enc k).bufs = [])
    (hfull : 8 ≤ (s.enc k).held.length + (s.enc k).caps.length) : ∃ u, exec (.encodeCapture k) s = .next u ∧
      (u.enc k).nDropped = (s.enc k).nDropped + 1 ∧ (u.enc k).caps = (s.enc k).caps := by
  have hnone : ((s.enc k).bufs.isEmpty && decide (8 ≤ (s.enc k).held.length + (s.enc k).caps.length)) = true := by
    rw [Bool.and_eq_true, decide_eq_true_eq, List.isEmpty_iff]
    exact ⟨hbufs, hfull⟩
  have hdropped : (s.modEnc k fun x => { x with nDropped := x.nDropped + 1, dropping := true }).enc k =
      { s.enc k with nDropped := (s.enc k).nDropped + 1, dropping := true } := State.modEnc_enc_self ..
  refine ⟨_, congrArg Host.Outcome.next ((if_neg (captureDue_passes hdue)).trans (if_pos hnone)), ?_⟩
  extract_lets s1
  split
  · rw [show s1.enc k = _ from hdropped]
    exact ⟨rfl, rfl⟩
  · rw [encEvent_enc, show s1.enc k = _ from hdropped]
    exact ⟨rfl, rfl⟩

theorem EncSt.skim_fields (x : EncSt) (frame skips : Nat) : (x.skim frame skips).bufs = x.bufs ∧ (x.skim frame skips).held = x.held := by
  unfold EncSt.skim
  split
  · exact ⟨rfl, rfl⟩
  split
  · exact ⟨rfl, rfl⟩
  · exact ⟨rfl, rfl⟩

theorem endEncode_enc (s : State) (k : Nat) :
    (endEncode s k).enc k = { s.enc k with running := false, stopping := false, caps := [] } := by
  rw [endEncode, encEvent_enc, State.modEnc_enc_self]

/-- What a coded picture leaves of its session: it is counted and the reference, and its unit has a buffer or is held. -/
def EncSt.coded (x y : EncSt) (c : Cap) (caps : List Cap) : Prop :=
  y.nAu = x.nAu + 1 ∧ y.bufs = x.bufs.drop 1 ∧ y.prev = some c.frame ∧ y.caps = caps ∧
    (x.bufs = [] → ∃ z, y.held = x.held ++ [z]) ∧ (x.bufs ≠ [] → y.held = x.held)

theorem accessUnitDone_codes {c : Cap} {caps : List Cap} (rows : CodedRows) (hcaps : (s.enc k).caps = c :: caps)
    (hrun : (s.enc k).running = true) (hcp : s.hub.cpFailed = false) (hstage : s.hub.stage ≠ .restarting) :
    ∃ u, exec (.accessUnitDone k rows) s = .next u ∧ (s.enc k).coded (u.enc k) c caps := by
  show ∃ u, execAccessUnitDone k rows s = .next u ∧ _
  unfold execAccessUnitDone
  extract_lets x budget rap
  split
  · next hnone => exact absurd (hcaps.symm.trans hnone) (List.cons_ne_nil _ _)
  next p rest hsome =>
  obtain ⟨rfl, rfl⟩ : c = p ∧ caps = rest := List.cons.inj (hcaps.symm.trans hsome)
  rw [if_neg (by simp [x, hrun, hcp, hstage])]
  refine ⟨_, rfl, ?_⟩
  extract_lets y bytes unit au step s1 s2 s3 s4
  have hs1 : (s1.enc k).nAu = x.nAu + 1 ∧ (s1.enc k).bufs = x.bufs ∧ (s1.enc k).prev = some c.frame ∧ (s1.enc k).caps = caps ∧
      (s1.enc k).held = x.held := by
    rw [show s1.enc k = _ from State.modEnc_enc_self ..]
    exact ⟨rfl, (x.skim_fields _ _).1, rfl, rfl, (x.skim_fields _ _).2⟩
  have hs2 : s2.enc k = s1.enc k := by
    simp only [s2]
    split
    · exact encEvent_enc ..
    split
    · exact encEvent_enc ..
    · rfl
  have hs3 : s3.enc k = s1.enc k := by
    simp only [s3]
    split
    · rw [encEvent_enc, hs2]
    · exact hs2
  obtain ⟨hau, hbufs, hprev, hcaps1, hheld⟩ := hs1
  have hs4 : x.coded (s4.enc k) c caps := by
    simp only [s4]
    split
    · next b bs hb =>
      rw [giveUnit_enc, State.modEnc_enc_self, hs3]
      exact ⟨hau, by rw [hb]; rfl, hprev, hcaps1, fun h => absurd (hb.symm.trans h) (List.cons_ne_nil _ _), fun _ => hheld⟩
    · next hb =>
      rw [State.modEnc_enc_self, hs3]
      exact ⟨hau, by rw [hb]; exact hbufs.trans hb, hprev, hcaps1, fun _ => ⟨au, by rw [hheld]⟩, fun h => absurd hb h⟩
  split
  · next hend =>
    have hempty : caps = [] := List.isEmpty_iff.1 (Bool.and_eq_true _ _ ▸ hend).2
    rw [endEncode_enc]
    obtain ⟨h1, h2, h3, _, h5, h6⟩ := hs4
    exact ⟨h1, h2, h3, hempty.symm, h5, h6⟩
  · exact hs4

end

/-- Settles O48: what outlasts the output of a picture outlasts the bumping; a window's packets are delivered behind the gap given up; a
session keeps its counts through the events it raises. -/
theorem codecEvents : Obligations.CodecEvents := by
  constructor
  · rintro s k leg port b p q t pic x rest rfl
    refine ⟨?_, fun hseq hwindow _ => jitterWindowClose_gives hseq hwindow,
      fun hrun hon hlost hwindow => decodeLegLoss_kept hrun hon hlost hwindow, fun hrun hcp hstage => ?_⟩
    · obtain ⟨u, hu⟩ : ∃ u, exec (.decodePacket port p) s = .next u := ⟨_, rfl⟩
      refine ⟨u, hu, fun hdown => ?_, fun hup hlegs hlost hseq hpaci hstage => ?_⟩
      · exact Host.Outcome.next.inj (hu.symm.trans (congrArg Host.Outcome.next (if_neg (ne_true_of_eq_false hdown))))
      · obtain rfl : u = deliverPkt s k p := Host.Outcome.next.inj (hu.symm.trans (decodePacket_joins hup hlegs hlost hseq))
        exact deliverPkt_joins hpaci hstage k
    · obtain ⟨u, hu⟩ : ∃ u, exec (.pictureDecoded k pic) s = .next u := ⟨_, rfl⟩
      exact ⟨u, hu, fun huse hb => pictureDecoded_ends hrun hcp hstage huse hb hu⟩
  · intro s s1 ring cr gen k d au rest x c caps rows
    refine ⟨?_, ?_, ?_⟩
    · rintro htake hcp rfl rfl howns hlen hfit hcfg hring hroom
      have hgiven := encBuf_eq htake hcp howns hlen hfit hcfg hring hroom
      constructor
      · intro hheld
        rw [hgiven, hheld]
        rfl
      · intro hheld
        rw [hgiven, hheld]
        rfl
    · rintro rfl hrun hstop hcanvas hdiv hprev hcaps
      have hdue : captureDue s k := ⟨hrun, hstop, hcanvas, hdiv, hprev, hcaps⟩
      refine ⟨fun hroom => ?_, encodeCapture_drops hdue⟩
      obtain ⟨ok, pic, hexec⟩ := encodeCapture_captures hdue hroom
      refine ⟨_, _, hexec, congrArg EncSt.caps (State.modEnc_enc_self ..), rfl⟩
    · rintro rfl hcaps hrun hcp hstage
      exact accessUnitDone_codes rows hcaps hrun hcp hstage

end Sys2Proof.Machine

/-! ## Serial audio ports: the loss of AWCLK (14) -/

namespace Sys2Proof.Machine

/-- What the loss of AWCLK does to one port (R395). -/
def loseAwclk (s : State) (n : Nat) : State :=
  sapEvent (s.modSap n fun p => { p with awUsed := false, slewing := false, nAwLoss := p.nAwLoss + 1 }) n 6

theorem loseAwclk_count (s : State) (n : Nat) : ((loseAwclk s n).sap n).nAwLoss = (s.sap n).nAwLoss + 1 := by
  rw [loseAwclk, sapEvent_sap, State.modSap_sap_self]

/-- A state whose table of ports lists port 0, running on AWCLK, twice. -/
def listedTwice : State :=
  State.reset.modMedia fun m =>
    { m with awPresent := true, saps := [(0, { state := .running, awUsed := true }), (0, { state := .running, awUsed := true })] }

/-- The row visits a port once for each of its entries. -/
theorem awclkLoss_listedTwice : exec .awclkLoss listedTwice =
    .next (loseAwclk (loseAwclk (listedTwice.modMedia fun m => { m with awPresent := false }) 0) 0) := rfl

/-- Refutes O46: the statement is about every state, so the table of ports need not be in canonical form (keys strictly rising), and
the loss of AWCLK counts port 0 of `listedTwice` twice, not once. -/
theorem not_audioRingsAndEvents : ¬ Obligations.AudioRingsAndEvents := by
  rintro ⟨-, hevents⟩
  obtain ⟨-, -, -, -, -, hloss, -⟩ := hevents listedTwice 0 0 0 0 0 ⟨0, 0, 0, 0, 0, 0, []⟩ _ {} .mute [] rfl
  obtain ⟨u, hexec, -, hcount⟩ := hloss rfl
  obtain rfl := Host.Outcome.next.inj (awclkLoss_listedTwice.symm.trans hexec)
  have honce := (hcount rfl (.inl rfl)).2.2
  rw [loseAwclk_count, loseAwclk_count] at honce
  exact absurd honce (by decide)

end Sys2Proof.Machine
